-- ==== Sys2Proof/Word.lean ====
section
/-! DEFINITION. Bytes, the sparse table that holds every numbered set of the device's state, and the plain
arithmetic that more than one file needs. -/

namespace Sys2Proof

/-- An 8-bit byte. -/
abbrev Byte := BitVec 8

/-- A sparse table from numbers to values: a list of (key, value) pairs in ONE canonical form, keys strictly rising
and no entry equal to the value that an unlisted key reads as. The operations on it are in `Machine/Tab.lean`. -/
abbrev Tab (α : Type) := List (Nat × α)

/-- One line in the internal unit of web position, 2^-32 line (R92). -/
abbrev oneLine : Int := 4294967296

/-- Floor of an internal web position to its line number. -/
def lineOf (x : Int) : Int := x / oneLine

/-- An internal web position cut down to the LPOS format of R7 (2^-16 line, R92 rounds toward minus infinity). -/
def lposOf (x : Int) : Int := x / 65536

/-- An LPOS (2^-16 line) in the internal unit. -/
def ofLpos (x : Int) : Int := x * 65536

/-- Picoseconds in a nanosecond, a microsecond, a millisecond and a second. -/
abbrev ns : Nat := 1000
abbrev us : Nat := 1000000
abbrev ms : Nat := 1000000000
abbrev sec : Nat := 1000000000000

end Sys2Proof
end

