-- ==== Sys2Proof/Syntax.lean ====
section
/-! DEFINITION. The steps of the device: one constructor of `Instr` for each row of the table of operations and
events, with the row's operands. A host request carries its header (`Req`); a physical event carries what the device
senses; a timer expiry names its timer. The first operand `dt` of every step is the device time that has passed since
the previous step, in picoseconds (assumption log 2). Nothing here says what a step does. -/

namespace Sys2Proof

/-- The Ethernet ports (R138). -/
inductive Port where
  | net0
  | net1
  | mgmt
  deriving DecidableEq, Repr

/-- How a message is carried (R40, R141, R157): in a frame of EtherType 88B5h, or by UDP with the sender's UDP port. -/
inductive Encap where
  | ether
  | udp4 (port : Nat)
  | udp6 (port : Nat)
  deriving DecidableEq, Repr

/-- Where a frame came from, and where its answer goes (R45, R140, R157): the port, the source IP address (0 without IP) and MAC address as
numbers, and the encapsulation. -/
structure Peer where
  port : Port
  addr : Nat
  mac : Nat := 0
  encap : Encap := .ether
  /-- R139: VID of the tag of a frame that the device sends there, 0 without one. -/
  vlan : Nat := 0
  deriving DecidableEq, Repr

/-- A value of an object (R51): a number (BOOL, integers, LPOS as its signed 64-bit pattern, TIME, F32 as its bit
pattern), the bytes of a STRING or OCTETS, or the elements of an ARRAY. -/
inductive Val where
  | num (v : Int)
  | bytes (b : List Byte)
  | arr (a : List Int)
  deriving DecidableEq, Repr

/-- The header of a request in a session, as R42 lays it out, and the port and address it came from. -/
structure Req where
  /-- R42 SESSION. -/
  sess : BitVec 32
  /-- R42 SEQ. -/
  seq : BitVec 64
  /-- R42 SRC. -/
  src : BitVec 16
  peer : Peer
  deriving DecidableEq, Repr

/-- One entry of a READ (R53). -/
structure ReadEntry where
  idx : Nat
  sub : Nat
  pending : Bool
  /-- R210 code 02h: memory code and byte address of an uncorrectable word that serves the read, if any. -/
  ue : Option (Nat × Nat) := none
  deriving DecidableEq, Repr

/-- One entry of a WRITE or STAGE (R53): index, subindex, type code of R51, value. -/
structure Entry where
  idx : Nat
  sub : Nat
  ty : Nat
  val : Val
  /-- R210 code 02h: memory code and byte address of an uncorrectable word that serves the write, if any. -/
  ue : Option (Nat × Nat) := none
  deriving DecidableEq, Repr

/-- An entry that no stored error serves. -/
abbrev entry (idx sub ty : Nat) (v : Val) : Entry := { idx := idx, sub := sub, ty := ty, val := v }

/-- What a UDP datagram's checksum field holds (R140). -/
inductive Checksum where
  | absent
  | good
  | bad
  deriving DecidableEq, Repr

/-- The IP header of a received frame, as far as R140 and R141 look at it. -/
structure IpHeader where
  v6 : Bool
  src : Nat
  dst : Nat
  /-- R140: an IPv4 fragment. -/
  fragment : Bool
  /-- R140: IPv4 options, or IPv6 extension headers. -/
  extended : Bool
  /-- R140: the protocol that the payload belongs to: 17 UDP, 1 ICMP, 58 ICMPv6, 2 IGMP. -/
  protocol : Nat
  /-- R140: UDP ports and checksum. -/
  srcPort : Nat
  dstPort : Nat
  checksum : Checksum
  deriving DecidableEq, Repr

/-- A received frame (R40 to R43, R139 to R142): its port, length from destination address to FCS, tags, EtherType, IP header, and what follows
them: the bytes after the EtherType, or after the UDP header. -/
structure RxFrame where
  port : Port
  length : Nat
  fcsOk : Bool
  dst : Nat
  src : Nat
  /-- R139: VIDs of its 802.1Q tags. -/
  tags : List Nat
  etherType : Nat
  ip : Option IpHeader
  payload : List Byte
  /-- R43: the tag of the message verifies under the key of its session. -/
  tagOk : Bool
  deriving DecidableEq, Repr

/-- R142: RS-FEC codewords corrected, and found uncorrectable, on a port since the last row that told. -/
structure Codewords where
  fixed : Nat
  bad : Nat
  deriving DecidableEq, Repr

/-- The queries of R140. Their target is the address or the group that they ask after; 0 in a general membership query. -/
inductive Query where
  | arp
  | icmp
  | icmpv6
  | igmp
  | mld
  deriving DecidableEq, Repr

/-- A query with the address or group that it asks after (R140). -/
structure Asked where
  query : Query
  target : Nat
  deriving DecidableEq, Repr

/-- The status flag objects of R71 and R590, which STATUS_CLEAR writes. -/
inductive FlagObj where
  | comm
  | vsup
  | enc (ch : Fin 4)
  | stream (ring : Fin 64)
  | txStamp (port : Fin 3)
  | evt (n : Fin 4)
  | output
  | cal
  deriving DecidableEq, Repr

/-- A stream packet (R144, R145, R152): its header fields and payload, and whether its length and check word agree. -/
structure StreamPkt where
  /-- R144: KIND; only 01h is the stream protocol. -/
  kind : Nat
  version : Nat
  typ : Nat
  stream : Nat
  epoch : Nat
  sos : Bool
  eos : Bool
  retx : Bool
  page : BitVec 32
  stripe : BitVec 32
  seq : BitVec 64
  offset : Nat
  /-- R144: LENGTH field. -/
  length : Nat
  /-- R144: the frame's length agrees with LENGTH. -/
  lengthOk : Bool
  /-- R145: the header check word verifies. -/
  crcOk : Bool
  payload : List Byte
  deriving DecidableEq, Repr

/-- What JTAG loads (R582). -/
inductive JtagInstr where
  | bypass
  | idcode
  | samplePreload
  | extest
  | extestPulse
  | extestTrain
  /-- R582: a debug or internal-scan instruction. -/
  | debug
  deriving DecidableEq, Repr

/-- Errors that have struck a word of SRAM (R200): memory code of R214, word (byte address / 8), XOR masks over data and check bits. -/
structure WordUpset where
  memory : Nat
  word : Nat
  data : BitVec 64
  check : BitVec 8
  deriving DecidableEq, Repr

/-- What the assembly reads of a line find (R184, R210): bytes of the head's line in the dot delay, counted from its first, and XOR masks that have
struck them; the latency of each request in ns; whether they were not complete when the line had to be sent. -/
structure DotReads where
  upset : List (Nat × Byte) := []
  lats : List Nat := []
  late : Bool := false
  deriving DecidableEq, Repr

/-- What the decoding of a line finds (R184, R210): bytes of its stripe that errors have struck, words of the staging, latencies in ns. -/
structure DecodeReads where
  upset : List (Nat × Byte) := []
  staging : List WordUpset := []
  lats : List Nat := []
  deriving DecidableEq, Repr

/-- What the screening of a line finds (R210, R282): words that errors have struck, and whether the tile that falls due gives its fixed value. -/
structure ScreenReads where
  upsets : List WordUpset := []
  tileOk : Bool := true
  deriving DecidableEq, Repr

/-- What an engine's checkers find (R282, R284): 1 residue or parity, 2 tile, 4 line buffer with the words struck, 5 cluster. -/
structure EngineCheck where
  cause : Nat
  upsets : List WordUpset := []
  deriving DecidableEq, Repr

/-- What a bridge reports of a FIRE (R347, R354): a number, and SRC, the port whose FIRE it means. -/
structure Reported where
  value : Nat
  src : Fin 2
  deriving DecidableEq, Repr

/-- ECHO_REPLY (R356, R360): SEQ, and the time of flight in ps. -/
structure EchoReply where
  seq : BitVec 8
  flight : Nat
  deriving DecidableEq, Repr

/-- A lane in block lock, with the adaptation that training found (R345, R359). -/
structure LockedLane where
  head : Fin 64
  adapt : List Byte
  deriving DecidableEq, Repr

/-- The eye that a lane's monitor finds (R368). -/
structure Eye where
  width : Nat
  height : Nat
  deriving DecidableEq, Repr

/-- The header of a camera's short packet (R402): its channel, and whether one bit of it was corrected. -/
structure ShortPacket where
  vc : Fin 16
  eccFixed : Bool
  deriving DecidableEq, Repr

/-- What a poll of a rail finds (R504): STATUS_WORD, its power-good input, and the voltage in mV. -/
structure RailPoll where
  status : BitVec 16
  good : Bool
  mv : Nat
  deriving DecidableEq, Repr

/-- A read of stored data that a supervisor core makes (R210): requester 1 instruction fetch or 2 data, memory code 0 or 4, byte address. -/
structure MemRead where
  requester : Nat
  memory : Nat
  address : Nat
  deriving DecidableEq, Repr

/-- What stops a core pair (R552): a trap, or else a lockstep difference; the uncorrectable read that trapped, if it was one (R210). -/
structure CoreError where
  trap : Bool
  ue : Option MemRead := none
  deriving DecidableEq, Repr

/-- A 66-bit block as received (R343): its sync header, none for one that is no header, and its payload. -/
structure RxBlock where
  sync : Option Bool
  payload : BitVec 64
  deriving DecidableEq, Repr

/-- Argument data of Cmd.IntegInject (R222, R226). -/
structure InjectArgs where
  memory : Nat
  address : Nat
  data : List Byte
  dataMask : List Byte
  checkMask : BitVec 32
  fold : Option Nat
  mode : Nat
  deriving DecidableEq, Repr

/-- A temperature, voltage or other physical fact that a step senses is an operand of the step. What a read of stored
bits finds physically wrong (R195 to R202): the bytes upset since the last write, as XOR masks. -/
structure Upset where
  /-- Byte positions 0..63 in the unit and XOR masks. -/
  data : List (Nat × Byte)
  /-- XOR masks over the check symbols of the unit's two bursts. -/
  check0 : BitVec 32
  check1 : BitVec 32
  deriving DecidableEq, Repr

/-- How far the device can correct what a unit read finds (R196), as its check symbols show it. -/
inductive ReadClass where
  | clean
  | corrected (symbol : Nat)
  | uncorrectable
  | poisoned
  deriving DecidableEq, Repr

/-- A PTP message as received (R440): the header fields that the device uses. Its event messages say how long ago, in ps, they crossed the
port's balls (R443). -/
structure PtpMsg where
  port : Fin 3
  domain : Nat
  seqId : Nat
  sourceClock : BitVec 64
  sourcePort : Nat
  /-- correctionField, ns × 2^16. -/
  correction : Int
  twoStep : Bool
  /-- originTimestamp, preciseOriginTimestamp or receiveTimestamp, ns. -/
  origin : Int
  /-- requestingPortIdentity of a Delay_Resp: clock and port. -/
  reqClock : BitVec 64
  reqPort : Nat
  deriving DecidableEq, Repr

/-- The grandmaster data set of an Announce (R440). -/
structure Dataset where
  priority1 : Nat
  clockClass : Nat
  accuracy : Nat
  variance : Nat
  priority2 : Nat
  identity : BitVec 64
  steps : Nat
  deriving DecidableEq, Repr

/-- One entry of a staging set (R60), or of a commit: object and value, with the order it was staged in (R310). -/
structure ObjWrite where
  idx : Nat
  sub : Nat
  val : Val
  deriving DecidableEq, Repr
/-- The decision fields that one change of a nozzle entry sets (R295, R303); none leaves a field. -/
structure NozPatch where
  base : Option Nat := none
  inhHost : Option Bool := none
  inhThermal : Option Bool := none
  absent : Option Bool := none
  source : Option Nat := none
  curve : Option (List Nat) := none
  weights : Option (Nat × Nat × Nat) := none
  dropMap : Option Nat := none
  /-- R303 precedence: the change applies only where SOURCE permits a device source. -/
  onlyIf : Option Nat := none
  /-- R305: the change is for entries of this SOURCE alone; another entry is left, and nothing is dropped. -/
  onlyAt : Option Nat := none
  deriving DecidableEq, Repr
/-- Change of the decision fields of one nozzle entry carried by a commit (R297, R303). -/
structure NozChange where
  channel : Nat
  /-- Channels in the run, from `channel` up. -/
  count : Nat
  fields : NozPatch
  deriving DecidableEq, Repr
/-- An accepted commit (R62 to R65). -/
structure Commit where
  /-- R63: generation number; 32 bits. -/
  gen : BitVec 32
  /-- R62: target line L. -/
  line : Int
  /-- R60: objects written. -/
  writes : List ObjWrite
  /-- R303, R310: nozzle entries changed, in the order applied. -/
  nozzles : List NozChange
  /-- R307: true for a commit of a device source. -/
  device : Bool
  /-- R303, R593: SOURCE number of the commit, 0 host. -/
  source : Nat
  /-- R593: node address of the committing host, the device's own for a device commit. -/
  src : BitVec 16
  /-- R62: target 0..2. -/
  target : Nat
  /-- R65: line L has passed the datum, so the commit is no longer pending. -/
  passed : Bool
  /-- R65: its COMMIT_NOTICE has been made. -/
  noticed : Bool
  deriving DecidableEq, Repr
/-- A page record in the queue (R123). -/
structure Page where
  page : BitVec 32
  first : Int
  lines : Nat
  gap : Nat
  planes : BitVec 16
  blank : Bool
  testbar : Bool
  /-- R123: LINES of its record; an abort cuts `lines` alone (R122), the stripes stay as they are. -/
  full : Nat
  /-- R126: LINE.PAGE_DONE has been raised. -/
  done : Bool := false
  /-- R122: line of an abort accepted behind the page, which drops or cuts it there. -/
  cut : Option Int := none
  /-- R333: a line of the page has a defect log entry. -/
  marked : Bool := false
  deriving DecidableEq, Repr
/-- A defect log entry (R333). -/
structure Defect where
  page : BitVec 32
  first : Int
  count : Nat
  plane : Nat
  /-- R333 HEAD; 255 for a whole plane. -/
  head : Nat
  cause : Nat
  action : Nat
  gen : BitVec 32
  /-- R333: device time, ps. -/
  time : Int
  deriving DecidableEq, Repr
/-- A splice record (R388). -/
structure Splice where
  number : Nat
  outcome : Nat
  reason : Nat
  cause : Nat
  first : Int
  high : Int
  target : Int
  held : Nat
  deriving DecidableEq, Repr
/-- 6054h Loop.LastBar (R438). -/
structure LastBar where
  bar : Nat := 0
  first : Int := 0
  planes : BitVec 16 := 0
  outcome : Nat := 0
  reason : Nat := 0
  gen : BitVec 32 := 0
  dead : Nat := 0
  revived : Nat := 0
  curves : Nat := 0
  withheld : Nat := 0
  rows : Nat := 0
  deriving DecidableEq, Repr
/-- The decision fields of a nozzle entry (R294, R295, R297). -/
structure NozDec where
  /-- R295 BASE: 0 active, 1 weak, 2 dead. -/
  base : Nat := 0
  inhHost : Bool := false
  inhThermal : Bool := false
  absent : Bool := false
  /-- R295 SOURCE; reset 3 (defaults). -/
  source : Nat := 3
  /-- R263: y_0..y_7; reset identity. -/
  curve : List Nat := [0, 585, 1170, 1755, 2340, 2925, 3510, 4095]
  wLeft : Nat := 64
  wRight : Nat := 64
  wAlt : Nat := 0
  dropMap : Nat := 0
  /-- R294 CHANGED_LINE; 32 bits; reset 0. -/
  changed : BitVec 32 := 0
  deriving DecidableEq, Repr
/-- A threshold array's description (R265, R290). -/
structure ArrayInfo where
  w : Nat
  h : Nat
  n : Nat
  crc : BitVec 32
  deriving DecidableEq, Repr
/-- The partner's last heartbeat (R472). -/
structure Heartbeat where
  /-- R467: `Pair.State`. -/
  state : Nat
  epoch : BitVec 16
  /-- Generation governing the datum, and the highest accepted one. -/
  gen : BitVec 32
  high : BitVec 32
  w : Int
  servo : Nat
  /-- Levels of the privileged outputs, true asserted. -/
  stopReq : Bool
  inkEn : Bool
  headPwr : Bool
  faultN : Bool
  fireUe : Nat
  /-- R496: the power state that the lead asks its wheeler to enter. -/
  request : Option Nat := none
  /-- R496, R508 order 5: the wheeler's outcome: its refusing block and reason, block 0 when it enters. -/
  outcome : Option (Nat × Nat) := none
  deriving DecidableEq, Repr
/-- The header of a pair-link record (R471), beside its TYPE. -/
structure PairHdr where
  seq : Nat
  ackReq : Bool
  ackSeq : Nat
  /-- The CRC over header and body verifies. -/
  crcOk : Bool
  deriving DecidableEq, Repr
/-- AXIS record (R477). -/
structure AxisRec where
  /-- 0 a preset, reference load, arming or re-arm; 1 a changeover; 2 a loss of position. -/
  kind : Nat
  /-- Of a loss: VALUE of its AXIS.LOST (R102). -/
  why : Nat
  p0 : Int
  c0 : Int
  source : Nat
  /-- The lead's latched pair of the edge concerned: count, and the lead's device time in ps; none before an edge. -/
  edge : Option (Int × Int)
  w : Int
  /-- The lead's `Axis.State` is VALID. -/
  valid : Bool
  /-- Channels armed for an index. -/
  armed : List Nat
  /-- Unit marks: head rows 0..127, trigger outputs 128..135, camera ports 136..139. -/
  marks : List (Nat × Option Int)
  deriving DecidableEq, Repr
/-- REIN record (R389). Times are the lead's device time in ps. -/
structure ReinRec where
  state : Nat
  target : Int
  wOld : Option Int
  stopAt : Int
  revAt : Int
  holdAt : Int
  runAt : Int
  /-- Held rows: row, cause, first held line. -/
  held : List (Nat × Nat × Int)
  cause : Nat
  first : Int
  deriving DecidableEq, Repr
/-- LOOP record (R434): number of the next bar, the bar whose commit is outstanding. -/
structure LoopRec where
  j : Nat
  outstanding : Option Nat
  deriving DecidableEq, Repr
/-- TIME record (R472). -/
structure TimeRec where
  servo : Nat
  freq : Int
  pendingStep : Int
  grandmaster : BitVec 64
  /-- A pending step has been accepted. -/
  accepted : Bool
  deriving DecidableEq, Repr
/-- LOG record (R472): newest entries and the two counts. -/
structure LogRec where
  lastComplete : BitVec 32
  reinCount : BitVec 32
  defect : Option Defect
  splice : Option Splice
  lastBar : LastBar
  deriving DecidableEq, Repr
/-- DIGEST record (R479). -/
inductive DigestRec where
  /-- The interval of 64 lines from `first` of a plane. -/
  | dots (plane : Nat) (first : Int) (crc : BitVec 32)
  | stripe (ring base : Nat) (crc : BitVec 32)
  deriving DecidableEq, Repr
/-- FILL record (R479): bytes of a stripe from ring byte `seq` on, with its index entry. -/
structure FillRec where
  ring : Nat
  base : Nat
  len : Nat
  page : BitVec 32
  stripe : BitVec 32
  seq : Nat
  data : List Byte
  deriving DecidableEq, Repr
/-- IDENT record (R464). `sigOk` says whether the signature over this chip's random verifies. -/
structure IdentRec where
  key : List Byte
  serial : BitVec 64
  stepping : BitVec 16
  release : BitVec 32
  sigOk : Bool
  /-- The sender's 32-byte random. -/
  random : List Byte
  /-- `Pair.Preference` of the sender (R468). -/
  preference : Nat
  /-- The sender has a `Cmd.Pair` running (R466). -/
  pairing : Bool
  deriving DecidableEq, Repr
/-- A block transfer that the lead mirrors (R475). -/
inductive BlockOp where
  | nozzleWrite (first count : Nat)
  | thresholdLoad (slot w h n : Nat) (crc : BitVec 32)
  | inspLoad (sensor table : Nat)
  deriving DecidableEq, Repr
/-- BLOCK record (R472): the transfer by the lead's handle, and a part of its data. -/
structure BlockRec where
  handle : Nat
  op : BlockOp
  offset : Nat
  data : List Byte
  deriving DecidableEq, Repr
/-- SNAPSHOT record (R481): every mirrored item. -/
structure Snapshot where
  /-- RW and staged objects at the lead: index, subindex, value, generation. -/
  objects : List (Nat × Nat × Val × BitVec 32)
  gen : BitVec 32
  /-- Pending commits, oldest first. -/
  commits : List Commit
  job : Nat
  pages : List Page
  /-- Decision fields by channel. -/
  nozzles : List (Nat × NozDec)
  /-- Threshold arrays: slot, description, content. -/
  arrays : List (Nat × ArrayInfo × List Byte)
  /-- Inspection tables: sensor, table, content. -/
  tables : List (Nat × Nat × List Nat)
  axis : AxisRec
  rein : ReinRec
  loop : LoopRec
  time : TimeRec
  log : LogRec
  deriving DecidableEq, Repr

/-- The body of a pair-link record that this chip sends (R472). -/
inductive PairBody where
  | heartbeat (b : Heartbeat)
  | ack
  | commit (c : Commit) (shadows : List Nat)
  | write (es : List ObjWrite)
  | block (b : BlockRec)
  | axis (a : AxisRec)
  /-- R478: device time in ps, count and LPOS. -/
  | lpos (t count lpos : Int)
  /-- R163: a ring's CUM, release point, ranges and LIMIT. -/
  | ring (n cum release : Nat) (ranges : List (Nat × Nat)) (limit : Nat)
  | digest (d : DigestRec)
  | loop (b : LoopRec)
  | rein (b : ReinRec)
  | time (b : TimeRec)
  | log (b : LogRec)
  /-- R485: the trigger code. -/
  | release (trigger : Nat)
  /-- R464: with the signature over the partner's random. -/
  | ident (b : IdentRec) (signature : List Byte)
  | snapshot (b : Snapshot)
  | fill (b : FillRec)
  /-- R474: the device time at which it leaves, in ps. -/
  | echo (t : Int)
  deriving DecidableEq, Repr

/-- R472: TYPE of a record. -/
def PairBody.type : PairBody → Nat
  | .heartbeat _ => 0x01
  | .ack => 0x02
  | .commit _ _ => 0x03
  | .write _ => 0x04
  | .block _ => 0x05
  | .axis _ => 0x06
  | .lpos _ _ _ => 0x07
  | .ring _ _ _ _ _ => 0x08
  | .digest _ => 0x09
  | .loop _ => 0x0A
  | .rein _ => 0x0B
  | .time _ => 0x0C
  | .log _ => 0x0D
  | .release _ => 0x0E
  | .ident _ _ => 0x0F
  | .snapshot _ => 0x10
  | .fill _ => 0x11
  | .echo _ => 0x12

/-- What a cold start finds (R526 to R542): physical facts and the outcomes of checks that the state does not hold. -/
structure StartFacts where
  /-- Durations of the nine steps in µs (R526). -/
  times : List Nat
  /-- A failure at step 2 or 3 (R542): step, CAUSE of R516, rail or 0, last STATUS_WORD. -/
  failed : Option (Nat × Nat × Nat × BitVec 16)
  /-- The second digest of step 7 differs (R531). -/
  digestBad : Bool
  /-- 0 the store trains and fills; 1 spares exhausted (R537); 2 a bound of the fill exceeded (R542). -/
  store : Nat
  /-- R539: the records that fail their check. -/
  learnedBad : Bool
  factoryBad : Bool
  /-- R538: headers of the factory and the learned record as read. -/
  headers : List (List Byte)
  /-- R537: elements without a candidate: kind 1..6, unit, figure. -/
  margins : List (Nat × Nat × Nat)
  /-- R539: encoder channels that have seen an edge within `Axis.StopTime`. -/
  moving : List Nat
  /-- R536: the choices made: threshold taps by channel, temperature codes, ECC margin figures by pseudo-channel. -/
  encTaps : List (List Nat)
  trims : List Nat
  storeMargin : List (List Nat)
  /-- R22: engines whose tile fails. -/
  badTiles : List Nat
  /-- R313: parts of the nozzle table whose CRC fails. -/
  badParts : List Nat
  /-- R408: inspection tables whose CRC fails: sensor, table. -/
  badTables : List (Nat × Nat)
  deriving DecidableEq, Repr
/-- What the blocks find when a power state is entered (R508). -/
structure EntryFacts where
  /-- A WAKE edge arrives before the commit point (R522), when this many blocks have stopped. -/
  wake : Option Nat
  /-- A CCI transfer or exposure list is still in progress after 10 ms. -/
  capture : Bool
  /-- Requests still queued at the page store when its bound runs out; none when it drains. -/
  store : Option Nat
  /-- The wheeler's refusal: block and reason (R496). -/
  partner : Option (Nat × Nat)
  deriving DecidableEq, Repr
/-- What the rest of a wake meets once the last rail has been acknowledged (R513 to R517). -/
inductive AfterRails where
  | good
  /-- It fails with this CAUSE of R516: 2 REFCLK_100 absent, 3 PLL lock, 5 page store, 6 firmware check. -/
  | fails (cause : Nat)
  /-- R517: this retention item fails its CRC, and a cold start follows. -/
  | retention (item : Nat) (f : StartFacts)
  deriving DecidableEq, Repr

/-- The device's steps, one constructor for each row of the table of operations and events. Operands that are physical facts: the time passed
(`dt`), what is sensed, what a transfer finds when it ends (`failed`, and `data` where it reads a camera register), and what a start or an entry
finds (`f`, which IMAGE_ACTIVATE needs in recovery mode, R535). -/
inductive Instr where
  /-- READ (R55). -/
  | read (dt : Nat) (r : Req) (es : List ReadEntry)
  /-- WRITE (R55). -/
  | write (dt : Nat) (r : Req) (es : List Entry)
  /-- STAGE (R60). -/
  | stage (dt : Nat) (r : Req) (es : List Entry)
  /-- CHECK (R61). -/
  | check (dt : Nat) (r : Req)
  /-- COMMIT (R62). -/
  | commit (dt : Nat) (r : Req) (target : Nat) (lpos : Int)
  /-- DISCARD (R60). -/
  | discard (dt : Nat) (r : Req)
  /-- CMD_CANCEL (R67). -/
  | cmdCancel (dt : Nat) (r : Req) (handle : BitVec 16)
  /-- CLAIM (R57). -/
  | claim (dt : Nat) (r : Req) (first count lease : Nat)
  /-- RELEASE (R57). -/
  | release (dt : Nat) (r : Req) (first : Nat)
  /-- SUBSCRIBE (R68). -/
  | subscribe (dt : Nat) (r : Req) (ranges : List (Nat × Nat)) (minSev : Nat)
  /-- UNSUBSCRIBE (R68). -/
  | unsubscribe (dt : Nat) (r : Req)
  /-- EVENT_ACK (R70). -/
  | eventAck (dt : Nat) (r : Req) (rseq : Nat)
  /-- KEEPALIVE (R50). -/
  | keepalive (dt : Nat) (r : Req)
  /-- OPEN_1 (R48). -/
  | open1 (dt : Nat) (peer : Peer) (src : BitVec 16) (version role : Nat) (ephemeral credential hostRandom : List Byte)
  /-- OPEN_3 (R48). -/
  | open3 (dt : Nat) (r : Req) (sigOk service : Bool)
  /-- SESSION_CLOSE (R50). -/
  | sessionClose (dt : Nat) (r : Req)
  /-- BLOCK_DATA (R56). -/
  | blockData (dt : Nat) (r : Req) (handle : BitVec 16) (offset : Nat) (data : List Byte)
  /-- DISCOVER (R46). -/
  | discover (dt : Nat) (peer : Peer)
  /-- DISCOVER_REPLY (R46). -/
  | discoverReply (dt : Nat)
  /-- UNKNOWN_OPCODE (R53). -/
  | unknownOpcode (dt : Nat) (r : Req) (opcode : Nat)
  /-- FRAME_DISCARD (R141). -/
  | frameDiscard (dt : Nat) (f : RxFrame) (fec : Codewords)
  /-- PROTOCOL_QUERY (R140). -/
  | protocolQuery (dt : Nat) (peer : Peer) (q : Asked)
  /-- SESSION_TIMEOUT (R50). -/
  | sessionTimeout (dt : Nat) (slot : Fin 8)
  /-- OPEN_TIMEOUT (R48). -/
  | openTimeout (dt : Nat) (slot : Fin 8)
  /-- ENROL_WINDOW_END (R49). -/
  | enrolWindowEnd (dt : Nat)
  /-- CLAIM_LEASE_EXPIRY (R57). -/
  | claimLeaseExpiry (dt : Nat) (first : Nat)
  /-- EVENT_RESEND (R70). -/
  | eventResend (dt : Nat) (slot : Fin 8)
  /-- HANDLE_COMPLETE (R67). -/
  | handleComplete (dt : Nat) (slot : Fin 256) (failed : Bool) (data : BitVec 32)
  /-- HANDLE_EXPIRY (R67). -/
  | handleExpiry (dt : Nat) (slot : Fin 256)
  /-- COMMIT_NOTICE (R65). -/
  | commitNotice (dt : Nat)
  /-- DEVICE_COMMIT (R307). -/
  | deviceCommit (dt : Nat)
  /-- COUNT_EDGE (R83). -/
  | countEdge (dt : Nat) (ch : Fin 4) (a b : Bool)
  /-- INDEX (R88). -/
  | index (dt : Nat) (ch : Fin 4) (width : Nat)
  /-- WIRE_EPISODE_50NS (R75). -/
  | wireEpisode50ns (dt : Nat) (ch : Fin 4) (pair : Fin 3)
  /-- WIRE_EPISODE_END (R75). -/
  | wireEpisodeEnd (dt : Nat) (ch : Fin 4) (pair : Fin 3) (length : Nat)
  /-- WIRE_EPISODE_1US (R76). -/
  | wireEpisode1us (dt : Nat) (ch : Fin 4) (pair : Fin 3)
  /-- AXIS_STOP (R96). -/
  | axisStop (dt : Nat)
  /-- SUPERVISOR_UNREACHABLE (R19). -/
  | supervisorUnreachable (dt : Nat)
  /-- TERM_SWING_LOW (R556). -/
  | termSwingLow (dt : Nat) (ch : Fin 4) (pair : Fin 3)
  /-- AXIS_PRESET (R94). -/
  | axisPreset (dt : Nat) (r : Req) (ty : Nat) (val : Val)
  /-- INDEX_ARM (R87). -/
  | indexArm (dt : Nat) (r : Req) (sub ty : Nat) (val : Val)
  /-- ENC_REENABLE (R85). -/
  | encReenable (dt : Nat) (r : Req) (sub ty : Nat) (val : Val)
  /-- SOURCE_REQUEST (R101). -/
  | sourceRequest (dt : Nat) (r : Req) (ty : Nat) (val : Val)
  /-- FIRE (R324). -/
  | fire (dt : Nat) (head : Fin 64) (row : Fin 2) (line : Int) (reads : DotReads)
  /-- SPEED_LIMIT_RISE (R133). -/
  | speedLimitRise (dt : Nat)
  /-- LINE_OVERRATE (R134). -/
  | lineOverrate (dt : Nat)
  /-- SLOW_HOLD_EXPIRY (R335). -/
  | slowHoldExpiry (dt : Nat)
  /-- HOST_SPEED_LIMIT (R132). -/
  | hostSpeedLimit (dt : Nat) (r : Req) (ty : Nat) (val : Val)
  /-- TRIG_OCCURRENCE (R129). -/
  | trigOccurrence (dt : Nat) (trig : Fin 8)
  /-- TIME_TRIGGER (R453). -/
  | timeTrigger (dt : Nat) (trig : Fin 8)
  /-- TRIG_PULSE_END (R129). -/
  | trigPulseEnd (dt : Nat) (trig : Fin 8)
  /-- STREAM_DATA (R158). -/
  | streamData (dt : Nat) (peer : Peer) (pkt : StreamPkt)
  /-- PROBE (R158). -/
  | probe (dt : Nat) (peer : Peer) (pkt : StreamPkt)
  /-- ACK_INTERVAL (R153). -/
  | ackInterval (dt : Nat) (ring : Fin 64)
  /-- NAK (R154). -/
  | nak (dt : Nat) (ring : Fin 64)
  /-- STREAM_ENABLE (R161). -/
  | streamEnable (dt : Nat) (r : Req) (sub ty : Nat) (val : Val)
  /-- STREAM_RELEASE_TO (R150). -/
  | streamReleaseTo (dt : Nat) (r : Req) (sub ty : Nat) (val : Val)
  /-- NET_LINK (R143). -/
  | netLink (dt : Nat) (port : Fin 3) (up : Bool)
  /-- DECODE_LINE (R245). -/
  | decodeLine (dt : Nat) (ring : Fin 64) (decoder : Fin 6) (reads : DecodeReads)
  /-- DECODER_FAULT (R249). -/
  | decoderFault (dt : Nat) (region : Fin 4) (decoder : Fin 6)
  /-- STORE_REFRESH (R186). -/
  | storeRefresh (dt : Nat) (bank : Fin 1536) (busy : Bool)
  /-- STACK_TEMP_READ (R187). -/
  | stackTempRead (dt : Nat) (temp : Int)
  /-- SCRUB (R208). -/
  | scrub (dt : Nat) (pc : Fin 32) (upset : Upset)
  /-- SRAM_SCRUB (R209). -/
  | sramScrub (dt : Nat) (bank : Fin 22) (data : BitVec 64) (check : BitVec 8)
  /-- RETIRE_COPY_DONE (R218). -/
  | retireCopyDone (dt : Nat) (entry : Nat)
  /-- COUNTER_WRITEBACK (R211). -/
  | counterWriteback (dt : Nat)
  /-- NOZZLE_SAVE (R312). -/
  | nozzleSave (dt : Nat)
  /-- SCREEN_LINE (R277). -/
  | screenLine (dt : Nat) (engine : Fin 36) (reads : ScreenReads)
  /-- WINDOW_REFILL (R267). -/
  | windowRefill (dt : Nat) (engine : Fin 36)
  /-- TILE_CHECK (R282). -/
  | tileCheck (dt : Nat) (engine : Fin 36) (pass : Bool)
  /-- ENGINE_FAULT (R284). -/
  | engineFault (dt : Nat) (engine : Fin 36) (check : EngineCheck)
  /-- ENGINE_STALL (R282). -/
  | engineStall (dt : Nat) (engine : Fin 36)
  /-- ENGINE_REMOUNT (R284). -/
  | engineRemount (dt : Nat) (engine : Fin 36)
  /-- SLICE_FAULT (R407). -/
  | sliceFault (dt : Nat) (slice : Fin 4)
  /-- REGION_FAULT (R26). -/
  | regionFault (dt : Nat) (region : Fin 4)
  /-- DIE_FAULT (R33). -/
  | dieFault (dt : Nat) (die : Fin 3)
  /-- TEMPERATURE (R330). -/
  | temperature (dt : Nat) (head : Fin 64) (temp : Int)
  /-- WARM_EXIT (R330). -/
  | warmExit (dt : Nat) (head : Fin 64)
  /-- HOT_EXIT (R330). -/
  | hotExit (dt : Nat) (head : Fin 64)
  /-- TELEMETRY_TIMEOUT (R330). -/
  | telemetryTimeout (dt : Nat) (head : Fin 64)
  /-- NOZZLE_SENSE (R305). -/
  | nozzleSense (dt : Nat) (head : Fin 64) (nozzle : Nat) (failed : Bool)
  /-- INCOMPLETE_SEGMENT (R327). -/
  | incompleteSegment (dt : Nat) (head : Fin 64) (row : Fin 2) (line : Reported)
  /-- MISSED_FIRES (R347). -/
  | missedFires (dt : Nat) (head : Fin 64) (row : Fin 2) (fseq : Nat) (missing : Reported)
  /-- CLAIM_STATUS (R366). -/
  | claimStatus (dt : Nat) (head : Fin 64) (owner reason epoch : Nat)
  /-- CONFIG_RESPONSE (R355). -/
  | configResponse (dt : Nat) (head : Fin 64) (tag status : Nat) (data : BitVec 32)
  /-- CONFIG_TIMEOUT (R355). -/
  | configTimeout (dt : Nat) (head : Fin 64) (tag : Nat)
  /-- CAPS (R358). -/
  | caps (dt : Nat) (head : Fin 64) (words : List (Nat × BitVec 32))
  /-- ECHO_REPLY (R360). -/
  | echoReply (dt : Nat) (head : Fin 64) (reply : EchoReply)
  /-- LATENCY_MEASURE (R360). -/
  | latencyMeasure (dt : Nat) (head : Fin 64)
  /-- TRACE_DETECT (R359). -/
  | traceDetect (dt : Nat) (head : Fin 64) (present : Bool)
  /-- BLOCK_LOCK (R359). -/
  | blockLock (dt : Nat) (lane : LockedLane)
  /-- BRINGUP_STEP_FAIL (R359). -/
  | bringupStepFail (dt : Nat) (head : Fin 64)
  /-- LOCK_LOST (R362). -/
  | lockLost (dt : Nat) (head : Fin 64)
  /-- ERROR_LIMIT (R362). -/
  | errorLimit (dt : Nat) (head : Fin 64) (failures : Nat)
  /-- EYE_READ (R368). -/
  | eyeRead (dt : Nat) (head : Fin 64) (eye : Eye) (adapt : Option (List Byte))
  /-- CLAIM_SEND (R365). -/
  | claimSend (dt : Nat) (head : Fin 64)
  /-- TRACE_ENABLE (R361). -/
  | traceEnable (dt : Nat) (r : Req) (sub ty : Nat) (val : Val)
  /-- TRACE_POWER (R364). -/
  | tracePower (dt : Nat) (r : Req) (sub ty : Nat) (val : Val)
  /-- REIN_STOP_TIMEOUT (R387). -/
  | reinStopTimeout (dt : Nat)
  /-- REIN_REVERSE_TIMEOUT (R387). -/
  | reinReverseTimeout (dt : Nat)
  /-- REIN_HOLD_TIMEOUT (R387). -/
  | reinHoldTimeout (dt : Nat)
  /-- REIN_RUN_TIMEOUT (R382). -/
  | reinRunTimeout (dt : Nat)
  /-- REARM (R385). -/
  | rearm (dt : Nat)
  /-- PRESS_REFUSE (R380). -/
  | pressRefuse (dt : Nat) (r : Req) (ty : Nat) (val : Val)
  /-- STOP_CLEAR (R379). -/
  | stopClear (dt : Nat) (r : Req) (ty : Nat) (val : Val)
  /-- LINE_TRIGGER (R397). -/
  | lineTrigger (dt : Nat) (port : Fin 4)
  /-- FRAME_START (R403). -/
  | frameStart (dt : Nat) (port : Fin 4) (packet : ShortPacket)
  /-- CAMERA_LINE (R402). -/
  | cameraLine (dt : Nat) (port : Fin 4) (vc : Fin 16) (dtype : Nat) (pixels : List Nat) (crcOk eccFixed : Bool)
    (upsets : List WordUpset)
  /-- FRAME_END (R403). -/
  | frameEnd (dt : Nat) (port : Fin 4) (packet : ShortPacket)
  /-- START_WINDOW (R403). -/
  | startWindow (dt : Nat) (port : Fin 4)
  /-- EXPOSURE_LIST_DONE (R406). -/
  | exposureListDone (dt : Nat) (sensor : Fin 16) (failed : Option (Fin 16))
  /-- SLICE_DONE (R411). -/
  | sliceDone (dt : Nat) (slice : Fin 4)
  /-- CCI_BUS_STUCK (R555). -/
  | cciBusStuck (dt : Nat) (bus : Fin 5) (released : Bool)
  /-- LOOP_BAR (R424). -/
  | loopBar (dt : Nat)
  /-- SYNC (R448). -/
  | sync (dt : Nat) (m : PtpMsg) (ago : Nat)
  /-- FOLLOW_UP (R447). -/
  | followUp (dt : Nat) (m : PtpMsg)
  /-- DELAY_REQ (R440). -/
  | delayReq (dt : Nat) (m : PtpMsg) (ago : Nat)
  /-- DELAY_RESP (R449). -/
  | delayResp (dt : Nat) (m : PtpMsg)
  /-- ANNOUNCE (R440). -/
  | announce (dt : Nat) (m : PtpMsg) (d : Dataset)
  /-- PTP_OTHER (R440). -/
  | ptpOther (dt : Nat) (port : Fin 3) (msgType : Nat)
  /-- ANNOUNCE_TIMEOUT (R448). -/
  | announceTimeout (dt : Nat)
  /-- PTP_SEND_INTERVAL (R440). -/
  | ptpSendInterval (dt : Nat) (port : Fin 3) (msgType : Nat)
  /-- FOLLOW_UP_TIMEOUT (R447). -/
  | followUpTimeout (dt : Nat)
  /-- TIME_ROLE_WRITE (R441). -/
  | timeRoleWrite (dt : Nat) (r : Req) (idx ty : Nat) (val : Val)
  /-- TX_STAMP_POP (R445). -/
  | txStampPop (dt : Nat) (r : Req) (sub ty : Nat) (val : Val)
  /-- EVT_CAPTURE (R454). -/
  | evtCapture (dt : Nat) (n : Fin 4) (rising : Bool) (dev : Int) (crystal : Bool)
  /-- CAPTURE_POP (R455). -/
  | capturePop (dt : Nat) (r : Req) (sub ty : Nat) (val : Val)
  /-- PD_CYCLE (R456). -/
  | pdCycle (dt : Nat)
  /-- CORRELATION (R458). -/
  | correlation (dt : Nat)
  /-- HEARTBEAT (R472). -/
  | heartbeat (dt : Nat) (h : PairHdr) (b : Heartbeat)
  /-- HEARTBEAT_SEND (R472). -/
  | heartbeatSend (dt : Nat)
  /-- PAIR_ACK (R471). -/
  | pairAck (dt : Nat) (h : PairHdr)
  /-- COMMIT_RECORD (R476). -/
  | commitRecord (dt : Nat) (h : PairHdr) (c : Commit) (shadows : List Nat)
  /-- WRITE_RECORD (R475). -/
  | writeRecord (dt : Nat) (h : PairHdr) (es : List ObjWrite)
  /-- BLOCK_RECORD (R475). -/
  | blockRecord (dt : Nat) (h : PairHdr) (b : BlockRec)
  /-- AXIS_RECORD (R477). -/
  | axisRecord (dt : Nat) (h : PairHdr) (a : AxisRec)
  /-- LPOS_RECORD (R478). -/
  | lposRecord (dt : Nat) (h : PairHdr) (t count lpos : Int)
  /-- LPOS_SEND (R478). -/
  | lposSend (dt : Nat)
  /-- RING_RECORD (R163). -/
  | ringRecord (dt : Nat) (h : PairHdr) (ring : Fin 64) (cum releaseTo : Nat) (ranges : List (Nat × Nat)) (limit : Nat)
  /-- DIGEST (R479). -/
  | digest (dt : Nat) (h : PairHdr) (d : DigestRec)
  /-- LOOP_RECORD (R434). -/
  | loopRecord (dt : Nat) (h : PairHdr) (b : LoopRec)
  /-- REIN_RECORD (R389). -/
  | reinRecord (dt : Nat) (h : PairHdr) (b : ReinRec)
  /-- TIME_RECORD (R474). -/
  | timeRecord (dt : Nat) (h : PairHdr) (b : TimeRec)
  /-- LOG_RECORD (R472). -/
  | logRecord (dt : Nat) (h : PairHdr) (b : LogRec)
  /-- RELEASE_RECORD (R485). -/
  | releaseRecord (dt : Nat) (h : PairHdr) (trigger : Nat)
  /-- IDENT (R464). -/
  | ident (dt : Nat) (h : PairHdr) (b : IdentRec)
  /-- SNAPSHOT (R481). -/
  | snapshot (dt : Nat) (h : PairHdr) (b : Snapshot)
  /-- FILL (R479). -/
  | fill (dt : Nat) (h : PairHdr) (b : FillRec)
  /-- ECHO (R474). -/
  | echo (dt : Nat) (h : PairHdr) (latency : Nat) (offset diff : Int)
  /-- ECHO_SEND (R474). -/
  | echoSend (dt : Nat)
  /-- RECORD_RESEND (R471). -/
  | recordResend (dt : Nat) (seq : Nat)
  /-- PARTNER_SILENT (R473). -/
  | partnerSilent (dt : Nat)
  /-- MIRROR_TIMEOUT (R476). -/
  | mirrorTimeout (dt : Nat)
  /-- PAIR_LANE_CHANGE (R470). -/
  | pairLaneChange (dt : Nat) (lane : Fin 4) (aligned : Bool)
  /-- PEER_LEAD (R469). -/
  | peerLead (dt : Nat) (asserted : Bool)
  /-- SEARCH_TIMEOUT (R468). -/
  | searchTimeout (dt : Nat)
  /-- ENTER_IDLE (R510). -/
  | enterIdle (dt : Nat) (r : Req)
  /-- ENTER_SLEEP (R508). -/
  | enterSleep (dt : Nat) (r : Req) (f : EntryFacts)
  /-- ENTER_DEEP_SLEEP (R508). -/
  | enterDeepSleep (dt : Nat) (r : Req) (f : EntryFacts)
  /-- ENTER_OFF (R508). -/
  | enterOff (dt : Nat) (r : Req) (f : EntryFacts)
  /-- RETURN_TO_RUN (R511). -/
  | returnToRun (dt : Nat) (r : Req)
  /-- CORE_IDLE_STOP (R511). -/
  | coreIdleStop (dt : Nat)
  /-- WAKE (R512). -/
  | wake (dt : Nat) (crystal : Bool) (f : StartFacts)
  /-- WAKE_TIMER (R512). -/
  | wakeTimer (dt : Nat) (crystal : Bool)
  /-- PMBUS_ACK (R504). -/
  | pmbusAck (dt : Nat) (poll : RailPoll) (after : AfterRails)
  /-- PMBUS_TIMEOUT (R505). -/
  | pmbusTimeout (dt : Nat) (status : BitVec 16)
  /-- PMB_ALERT (R506). -/
  | pmbAlert (dt : Nat) (rail : Fin 9) (status : BitVec 16) (mv : Nat)
  /-- RAIL_TELEMETRY (R503). -/
  | railTelemetry (dt : Nat) (readings : List (List Int))
  /-- POWER_ON_RESET (R526). -/
  | powerOnReset (dt : Nat) (f : StartFacts)
  /-- RESET_N (R527). -/
  | resetN (dt : Nat) (release : Bool) (f : StartFacts)
  /-- START_RETRY (R542). -/
  | startRetry (dt : Nat) (f : StartFacts)
  /-- BROWNOUT (R519). -/
  | brownout (dt : Nat) (mv : Nat)
  /-- VSUP_RECOVERED (R519). -/
  | vsupRecovered (dt : Nat) (mv : Nat)
  /-- SUPERVISOR_RESET (R518). -/
  | supervisorReset (dt : Nat)
  /-- OVERVOLT (R518). -/
  | overvolt (dt : Nat) (mv : Nat)
  /-- VSUP3_OVERLOAD (R520). -/
  | vsup3Overload (dt : Nat)
  /-- DIE_TEMP (R550). -/
  | dieTemp (dt : Nat) (logic stack supervisor : Int)
  /-- OUTPUT_READBACK (R557). -/
  | outputReadback (dt : Nat) (output : Fin 12) (high : Bool)
  /-- REFCLK_LOSS (R579). -/
  | refclkLoss (dt : Nat)
  /-- CORE_FAULT (R552). -/
  | coreFault (dt : Nat) (pairB : Bool) (error : CoreError)
  /-- CORE_RESTART_DONE (R552). -/
  | coreRestartDone (dt : Nat) (pairB : Bool)
  /-- CONFIG_STORE_WRITE (R529). -/
  | configStoreWrite (dt : Nat)
  /-- LIFE_HOUR (R559). -/
  | lifeHour (dt : Nat)
  /-- ENC_CAL_DEFERRED (R539). -/
  | encCalDeferred (dt : Nat) (ch : Fin 4) (taps : List Nat)
  /-- TAP_STEP (R540). -/
  | tapStep (dt : Nat) (lane : Nat) (up : Bool)
  /-- STATUS_CLEAR (R71). -/
  | statusClear (dt : Nat) (r : Req) (obj : FlagObj) (ty : Nat) (val : Val)
  /-- STORE_PARTITION (R170). -/
  | storePartition (dt : Nat) (r : Req) (sub ty : Nat) (val : Val)
  /-- ERROR_LOG_CLEAR (R215). -/
  | errorLogClear (dt : Nat) (r : Req) (ty : Nat) (val : Val)
  /-- DEFECT_LOG_CLEAR (R333). -/
  | defectLogClear (dt : Nat) (r : Req) (ty : Nat) (val : Val)
  /-- STORE_FILL (R192). -/
  | storeFill (dt : Nat) (r : Req) (address length : Nat) (pattern : BitVec 64) (cls : Nat)
  /-- STORE_COPY (R192). -/
  | storeCopy (dt : Nat) (r : Req) (source dest length cls : Nat)
  /-- INTEG_INJECT (R222). -/
  | integInject (dt : Nat) (r : Req) (a : InjectArgs)
  /-- INTEG_READ_RAW (R222). -/
  | integReadRaw (dt : Nat) (r : Req) (memory address : Nat)
  /-- ROW_REPAIR (R220). -/
  | rowRepair (dt : Nat) (r : Req) (pc sid bank row : Nat)
  /-- RETIRE (R218). -/
  | retire (dt : Nat) (r : Req) (pc sid bank block : Nat)
  /-- ENCODE (R253). -/
  | encode (dt : Nat) (r : Req) (args : List Nat)
  /-- THRESHOLD_LOAD (R265). -/
  | thresholdLoad (dt : Nat) (r : Req) (slot w h n : Nat) (crc : BitVec 32)
  /-- NOZZLE_TABLE_WRITE (R310). -/
  | nozzleTableWrite (dt : Nat) (r : Req) (first count : Nat) (crc : BitVec 32)
  /-- NOZZLE_TABLE_READ (R310). -/
  | nozzleTableRead (dt : Nat) (r : Req) (first count : Nat) (pending : Bool)
  /-- NOZZLE_TABLE_SAVE (R312). -/
  | nozzleTableSave (dt : Nat) (r : Req)
  /-- NOZZLE_COUNT_RESET (R298). -/
  | nozzleCountReset (dt : Nat) (r : Req) (first count : Nat)
  /-- TRACE_BRING_UP (R375). -/
  | traceBringUp (dt : Nat) (r : Req) (lane : Nat)
  /-- BRIDGE_ACCESS (R375). -/
  | bridgeAccess (dt : Nat) (r : Req) (lane : Nat) (write : Bool) (addr : Nat) (value : BitVec 32)
  /-- INSP_TABLE_LOAD (R417). -/
  | inspTableLoad (dt : Nat) (r : Req) (sensor table : Nat) (crc : BitVec 32)
  /-- FRAME_HOLD (R399). -/
  | frameHold (dt : Nat) (r : Req) (sensor : Nat) (frame : BitVec 32) (hold : Bool)
  /-- CCI_ACCESS (R417). -/
  | cciAccess (dt : Nat) (r : Req) (port address flags register : Nat) (data : BitVec 32) (op : Nat)
  /-- INSP_STAT_READ (R411). -/
  | inspStatRead (dt : Nat) (r : Req) (sensor : Nat) (frame : BitVec 32)
  /-- TIME_ACCEPT_JUMP (R451). -/
  | timeAcceptJump (dt : Nat) (r : Req)
  /-- PTP_SEND (R446). -/
  | ptpSend (dt : Nat) (r : Req) (port : Nat) (msg : List Byte)
  /-- PD_START (R456). -/
  | pdStart (dt : Nat) (r : Req) (cycle phase : Nat)
  /-- PD_STOP (R456). -/
  | pdStop (dt : Nat) (r : Req)
  /-- PAIR (R466). -/
  | pair (dt : Nat) (r : Req)
  /-- UNPAIR (R466). -/
  | unpair (dt : Nat) (r : Req)
  /-- HANDOVER (R484). -/
  | handover (dt : Nat) (r : Req)
  /-- IMAGE_WRITE (R534). -/
  | imageWrite (dt : Nat) (r : Req) (length : Nat) (crc : BitVec 32)
  /-- IMAGE_ACTIVATE (R534). -/
  | imageActivate (dt : Nat) (r : Req) (f : StartFacts)
  /-- IMAGE_CONFIRM (R534). -/
  | imageConfirm (dt : Nat) (r : Req)
  /-- FAULT_CLEAR (R551). -/
  | faultClear (dt : Nat) (r : Req)
  /-- UNKNOWN_COMMAND (R66). -/
  | unknownCommand (dt : Nat) (r : Req) (idx : Nat)
  /-- TRACE_BLOCK_DISCARD (R343). -/
  | traceBlockDiscard (dt : Nat) (head : Fin 64) (block : RxBlock)
  /-- CAMERA_PACKET_ERROR (R402). -/
  | cameraPacketError (dt : Nat) (port : Fin 4) (vc : Fin 16) (why : Nat)
  /-- JTAG_INSTRUCTION (R582). -/
  | jtagInstruction (dt : Nat) (jtag : JtagInstr)
  /-- TERMINATION_DISCONNECT (R574). -/
  | terminationDisconnect (dt : Nat) (ch : Fin 4) (pair : Fin 3)
  /-- TERMINATION_RECONNECT (R574). -/
  | terminationReconnect (dt : Nat) (ch : Fin 4) (pair : Fin 3)
  /-- OUTPUT_AGREEMENT (R550). -/
  | outputAgreement (dt : Nat) (output : Fin 12)
  /-- VSUP3_LOAD_RECOVERED (R520). -/
  | vsup3LoadRecovered (dt : Nat)
  /-- VSUP_SAMPLE (R523). -/
  | vsupSample (dt : Nat) (mv : Nat)
  deriving DecidableEq, Repr

end Sys2Proof
end

