-- ==== Sys2Proof/Decode.lean ====
section
/-! DEFINITION. The command that a word of the operation table spells. The table gives no row any bits: a request and a
physical event are not words (R53, R40), so no word spells a command (assumption log 1). -/

namespace Sys2Proof

/-- The command whose table bits are `w`: none, since no row of the table has bits. -/
def decodeTableWord (_nbits _w : Nat) : Option Instr := none

end Sys2Proof
end

