-- ==== Sys2Proof/Config.lean ====
section
/-! DEFINITION. What one device fixes and the spec does not give: fused identity, values that cryptography or
analogue hardware produce, and the free values. Each is an opaque constant: no proof can see its value, and a theorem
holds whatever it is (assumption log 5). -/

namespace Sys2Proof.Config

/-- R561: the identity serial, fused. -/
opaque serial : BitVec 64
/-- R561: the 97-byte identity public key, fused. -/
opaque publicKey : List Byte
/-- R1: the build number of the booted firmware release 3.1. -/
opaque build : BitVec 16
/-- R48: the random SESSION that the n-th OPEN_2 draws. -/
opaque sessionId : Nat → BitVec 32
/-- R48: the device's 97-byte ephemeral public key and its 32-byte random for the n-th OPEN_2. -/
opaque ephemeral : Nat → List Byte
opaque deviceRandom : Nat → List Byte
/-- R48: the ECDSA P-384 / SHA-384 signature of bytes made with the identity key. -/
opaque sign : List Byte → List Byte
/-- R48: the ECDH P-384 shared secret of the n-th ephemeral key with a host's. -/
opaque ecdh : Nat → List Byte → List Byte
/-- R48: the two AES-256 keys that HKDF-SHA-384 derives from a shared secret with a salt: 64 bytes. -/
opaque hkdf : List Byte → List Byte → List Byte
/-- R43: AES-256-GCM of a payload under a key, with nonce and associated data: the ciphertext and the 16-byte tag. -/
opaque aesGcm : List Byte → List Byte → List Byte → List Byte → List Byte
/-- R49: SHA-384 of a public key. -/
opaque sha384 : List Byte → List Byte
/-- R56, R145: CRC-32C of bytes, whose parameters the spec does not write out. -/
opaque crc32c : List Byte → BitVec 32
/-- R51, R96, R97: whether a result that the format cannot hold is rounded up in magnitude (the rounding is not stated): of the quotient of two
numbers, or of the root of one. -/
opaque roundUp : Nat → Nat → Bool
/-- R195: the four check symbols of 32 data bytes at a folded address (the code's polynomial is not given). -/
opaque checkSymbols : List Byte → Nat → BitVec 32
/-- R196: the class, modulo 4, that a burst with three or more wrong symbols reads as: 0 clean, 1 corrected, 2 poisoned, 3 uncorrectable. -/
opaque manyWrong : Nat → List (Nat × Byte) → BitVec 32 → Nat
/-- R195: the syndrome of a burst with the given errors. -/
opaque syndrome : List (Nat × Byte) → BitVec 32 → BitVec 32
/-- R200: whether a word with the given wrong data and check bits, three or more, is miscorrected. -/
opaque miscorrected : BitVec 64 → BitVec 8 → Bool
/-- R214: the eight syndrome bits of an SRAM word with the given wrong data and check bits. -/
opaque sramSyndrome : BitVec 64 → BitVec 8 → BitVec 8
/-- R119: the fixed internal leads of trigger outputs and of camera triggers, in ps. -/
opaque trigLead : Nat
opaque frameLead : Nat
/-- R358, R541: free values numbered by the model's own counter (`Model.free`). -/
opaque free : Nat → Nat
/-- A free value of a computation on the given numbers whose result the spec does not fix. -/
opaque freeOf : Nat → List Int → Int

end Sys2Proof.Config
end

