-- ==== Sys2Proof/Machine/State.lean ====
section
/-! DEFINITION. The whole state of the device as plain data, chapter by chapter: every register, ring, queue, table,
counter, timer and pin that the spec gives it. Held times are elapsed device time in ps (`Timing.now`); what the device
publishes adds `Timing.epoch` (assumption log 2). Positions are in 2^-32 line (R92). -/

namespace Sys2Proof.Machine

/-- One entry of a READ's answer (R55, R65): result code, type code, value and the generation that wrote it. -/
structure ReadOut where
  code : Nat
  ty : Nat := 0
  val : Option Val := none
  gen : BitVec 32 := 0
  deriving DecidableEq, Repr
/-- The body of a response (R53, R55, R59, R62, R66, R597) beside its result code. -/
inductive RespBody where
  | none
  /-- R55: the position of the failing entry. -/
  | position (n : Nat)
  /-- R59: node address of the winner. -/
  | winner (node : BitVec 16)
  /-- R55: the generation at the datum, and the entries. -/
  | values (gen : BitVec 32) (entries : List ReadOut)
  /-- R62: generation and L. -/
  | accepted (gen : BitVec 32) (line : Int)
  /-- R66. -/
  | handle (h : BitVec 16)
  /-- R597: number found, and the failures listed (rule, index, subindex). -/
  | failures (total : Nat) (listed : List (Nat × Nat × Nat))
  /-- Data that a command answers at once. -/
  | data (bytes : List Byte)
  deriving DecidableEq, Repr
/-- A response as the device sends it and caches it (R44, R53). -/
structure Response where
  opcode : Nat
  code : Nat
  body : RespBody := .none
  deriving DecidableEq, Repr
/-- A partition (R169). -/
structure Partition where
  first : Nat
  count : Nat
  purpose : Nat
  order : Nat
  deriving DecidableEq, Repr
/-- A remount in progress at its stand-in (R284). -/
structure Remount where
  /-- Number of the failed engine. -/
  failed : Nat
  /-- L_f, the line in hand when the fault was found. -/
  lf : Int
  /-- The line the roll-back starts from. -/
  c : Int
  cause : Nat
  unconfirmed : Nat
  borrowed : Bool
  deriving DecidableEq, Repr
/-- A running operation behind a handle, with its arguments and what has moved so far (R56, R67, R593). -/
inductive Op where
  | none
  | storeFill (address length : Nat) (pattern : BitVec 64) (cls : Nat)
  | storeCopy (source dest length cls : Nat)
  | rowRepair (pc sid bank row : Nat)
  | retire (pc sid bank block : Nat)
  | encode (args : List Nat)
  | thresholdLoad (slot w h n : Nat) (crc : BitVec 32) (got : Tab (Option Byte))
  | nozzleWrite (first count : Nat) (crc : BitVec 32) (got : Tab (Option Byte))
  | nozzleRead (first count : Nat) (pending : Bool)
  | nozzleSave
  | countReset (first count : Nat)
  | traceBringUp (lane : Nat)
  | bridgeAccess (lane : Nat) (write : Bool) (addr : Nat) (value : BitVec 32)
  | inspLoad (sensor table : Nat) (crc : BitVec 32) (got : Tab (Option Byte))
  | cci (port address flags register : Nat) (data : BitVec 32) (write : Bool)
  | inspRead (sensor : Nat) (frame : BitVec 32)
  | pairing
  | handover
  | imageWrite (length : Nat) (crc : BitVec 32) (got : Tab (Option Byte))
  | faultClear
  | power (target : Nat)
  | ptpSend (port : Nat) (msg : List Byte)
  deriving DecidableEq, Repr
/-- An event record as R69 lays it out (48 bytes). -/
structure EventRec where
  /-- R69 TYPE: 0 event, 1 completion, 2 overflow, 3 commit notice; 8 bits. -/
  typ : Nat
  /-- R69 SEVERITY 0..3; 8 bits. -/
  sev : Nat
  /-- R69 CODE; 16 bits. -/
  code : Nat
  /-- R69 RSEQ, from 1 in each queue; 32 bits. -/
  rseq : Nat
  /-- R69 GENERATION; 32 bits. -/
  gen : BitVec 32
  /-- R69 UNIT, the unit address of R25; 32 bits. -/
  unit : BitVec 32
  /-- R69 LPOS in the internal unit of 2^-32 line (published truncated to 2^-16, R92). -/
  lpos : Int
  /-- R69 TIME, device time in ps (published in ns). -/
  time : Int
  /-- R69 HANDLE; 16 bits. -/
  handle : BitVec 16
  /-- R69 COUNT; 16 bits. -/
  count : BitVec 16
  /-- R69 DETAIL; 96 bits. -/
  detail : BitVec 96
  deriving DecidableEq, Repr
/-- What the device sends out or drives on a link, in order (the model's own record of its outputs; log 4). -/
inductive Output where
  | response (peer : Peer) (sess : BitVec 32) (seq : BitVec 64) (r : Response)
  /-- R46, R48, R50: a PLAIN answer with a result code. -/
  | plain (peer : Peer) (opcode code : Nat)
  /-- R46: node address, identity serial, Stepping, FirmwareRelease, public key, free slots and EnrolOpen. -/
  | discover (peer : Peer) (node : BitVec 16) (serial : BitVec 64) (stepping : BitVec 16) (release : BitVec 32) (key : List Byte) (free : Nat) (enrol : Bool)
  /-- R48: OPEN_2: SESSION and the payload: ephemeral key, device random, signature. -/
  | open2 (peer : Peer) (sess : BitVec 32) (payload : List Byte)
  | open4 (peer : Peer) (sess : BitVec 32) (seq : BitVec 64) (code : Nat)
  /-- R70: an EVENT message with its records. -/
  | event (peer : Peer) (sess : BitVec 32) (seq : BitVec 64) (records : List EventRec)
  | block (peer : Peer) (sess : BitVec 32) (seq : BitVec 64) (handle : BitVec 16) (offset : Nat) (data : List Byte)
  /-- R140: an answer to ARP 0, ICMP 1 and ICMPv6 2; an IGMPv3 report 3 and an MLDv2 report 4, with the groups that the port has joined. -/
  | protocolReply (peer : Peer) (kind : Nat) (groups : List Nat)
  /-- R144, R153: an ACK with its EPOCH, CUM, LIMIT, RELEASE and RANGES. -/
  | ack (ring : Nat) (peer : Peer) (epoch limit release cum : Nat) (ranges : List (Nat × Nat))
  /-- R144, R154: a NAK: the fields of an ACK and REASON. -/
  | nak (ring : Nat) (peer : Peer) (epoch reason limit release cum : Nat) (ranges : List (Nat × Nat))
  /-- R346: a FIRE block. -/
  | fire (head row : Nat) (line : Int) (fseq : BitVec 8) (fine wave : Nat) (blank : Bool) (crc : BitVec 8)
  /-- R348: the LINE_DATA groups of a line, their drop codes and CRC-16 words. -/
  | lineData (head row : Nat) (line : Int) (depth : Nat) (codes : List Nat) (crcs : List (BitVec 16))
  /-- R345: a SKIP block. -/
  | skip (head : Nat)
  /-- R365: CLAIM with MODE and EPOCH, and RELEASE with EPOCH. -/
  | claim (head : Nat) (mode : Nat) (epoch : BitVec 16)
  | release (head : Nat) (epoch : BitVec 16)
  | config (head : Nat) (tag : Nat) (write : Bool) (addr : Nat) (data : BitVec 32)
  /-- R356: TRAIN with KIND and SEQ. -/
  | train (head : Nat) (kind : Nat) (seq : BitVec 8)
  /-- R357: the device's CAPS words. -/
  | caps (head : Nat) (words : List Nat)
  | ptp (port : Nat) (msgType : Nat) (seqId : Nat) (correction : Int) (body : List Byte) (vlan : Nat := 0) (transport : Nat := 0)
  /-- R457: a process-data frame: its fields in order, CYCLE to LIMIT_SRC. -/
  | pd (peer : Peer) (sess : BitVec 32) (seq : BitVec 64) (fields : List Int)
  /-- R471: a pair-link record: SEQ, ACKREQ, ACKSEQ and its body. -/
  | pair (seq : Nat) (ackReq : Bool) (ackSeq : Nat) (body : PairBody)
  | cci (port : Nat) (address : Nat) (data : List Byte)
  /-- R503: to a rail: 0 off, 1 on, 2 VOUT_COMMAND, 3 CLEAR_FAULTS, 5 ON_OFF_CONFIG 18h, 6 VOUT_MODE read, 7 STATUS_WORD read; rail 0, kind 4: the
  clocks and STOP that free the bus (R555). -/
  | pmbus (rail : Nat) (kind : Nat) (mv : Nat)
  | flash (region : Nat) (unit : Nat)
  | camTrigger (port : Nat) (frame : Bool)
  deriving DecidableEq, Repr
/-- A status word and the occurrence count of each of its flags (R71): bit b of `word` is the flag, entry b of `counts` its companion 16-bit count. -/
structure Flags where
  /-- R71, R85, R159: the W1C status word; width 32; reset 0. -/
  word : BitVec 32 := 0
  /-- R71, R85, R159: the companion 16-bit occurrence counts, by bit number; width 16 each; reset 0. -/
  counts : Tab (BitVec 16) := []
  /-- R71: device time at which the hardware last set each flag, in ps plus 1, by bit number; reset 0 (never). -/
  setAt : Tab Nat := []
  deriving DecidableEq, Repr
/-- A session's event queue (R68, R70). -/
structure EventQueue where
  /-- R68, R70: records not yet acknowledged, oldest first; at most 1,024; reset empty. -/
  records : List EventRec := []
  /-- R68: whether a SUBSCRIBE stands (ranges set); reset false. -/
  subscribed : Bool := false
  /-- R68: up to 8 code ranges (low, high); reset empty. -/
  ranges : List (Nat × Nat) := []
  /-- R68: minimum severity 0..3; reset 0. -/
  minSev : Nat := 0
  /-- R69: RSEQ of the next record; reset 1. -/
  nextRseq : Nat := 1
  /-- R70: LOST, the full number of records discarded; reset 0. -/
  lost : Nat := 0
  /-- R70: records lost since the last overflow record; reset 0. -/
  pendingLost : Nat := 0
  /-- R70: resends of each unacknowledged record so far (0..5), by RSEQ; reset none. -/
  sends : Tab Nat := []
  /-- R70: pushing has stopped until EVENT_ACK or KEEPALIVE; reset false. -/
  stopped : Bool := false
  /-- R70: highest RSEQ pushed so far; reset 0. -/
  pushed : Nat := 0
  /-- R70: device time of the last push, in ps; reset 0. -/
  lastPush : Nat := 0
  deriving DecidableEq, Repr
/-- The phase of a session slot (R48). -/
inductive SessPhase where
  /-- The slot is free. -/
  | free
  /-- OPEN_2 has been sent and OPEN_3 is awaited. -/
  | opening
  /-- The session is open. -/
  | opened
  deriving DecidableEq, Repr
/-- One of the 8 session slots (R48, R50, R54). -/
structure Session where
  /-- R48: free, opening, open; reset free. -/
  phase : SessPhase := .free
  /-- R42, R48: SESSION identifier; 32 bits; reset 0. -/
  id : BitVec 32 := 0
  /-- R47: role 0..3 held; reset 0. -/
  role : Nat := 0
  /-- R48: role requested in OPEN_1; reset 0. -/
  reqRole : Nat := 0
  /-- R42, R45: node address (SRC) of the host; 16 bits; reset 0. -/
  node : BitVec 16 := 0
  /-- R45: port and address that requests came from; reset MGMT, 0. -/
  peer : Peer := { port := .mgmt, addr := 0 }
  /-- R48: 97-byte credential public key offered in OPEN_1; reset empty. -/
  credential : List Byte := []
  /-- R48: the payloads of OPEN_1 and OPEN_2; reset empty. -/
  transcript : List Byte := []
  /-- R48: the AES-256 key of each direction, host to device and device to host; 32 bytes each; reset empty. -/
  keyIn : List Byte := []
  keyOut : List Byte := []
  /-- R48: device time of OPEN_2, ps; reset 0. -/
  openedAt : Nat := 0
  /-- R50: device time of the last authenticated message, ps; reset 0. -/
  lastHeard : Nat := 0
  /-- R44: highest request SEQ seen; 64 bits; reset 0. -/
  highSeq : Nat := 0
  /-- R44: the record of sequence numbers seen (those within 64 of the highest matter); reset empty. -/
  seen : List Nat := []
  /-- R44: cached responses by SEQ, resent byte for byte; reset empty. -/
  cache : List (Nat × Response) := []
  /-- R44: low 63 bits of the next device-initiated SEQ (bit 63 is set on the wire); reset 1. -/
  devSeq : Nat := 1
  /-- R54: resolution tick of the requests counted in `tickReqs`; reset 0. -/
  reqTick : Nat := 0
  /-- R54: requests that this session has in its command queue in the present tick (0..32); reset 0. -/
  tickReqs : Nat := 0
  /-- R60: the staging set, at most 1,024 distinct objects, in staging order; reset empty. -/
  staging : List ObjWrite := []
  /-- R50, R68: the session's event queue, if it holds one; reset none. -/
  queue : Option EventQueue := none
  deriving DecidableEq, Repr
/-- A claim (R57). -/
structure Claim where
  /-- R57: first index of the range. -/
  first : Nat
  /-- R57: count 1..4,096. -/
  count : Nat
  /-- R57: SESSION of the owner. -/
  session : BitVec 32
  /-- R57: role of the owner 0..3. -/
  role : Nat
  /-- R57: device time at which the lease runs out, ps. -/
  expires : Nat
  deriving DecidableEq, Repr
/-- Where a handle stands (R66, R67). -/
inductive HandlePhase where
  | free
  | running
  | done
  deriving DecidableEq, Repr
/-- One of the 256 handle slots (R66, R67). -/
structure Handle where
  /-- R66 USE, incremented at each reuse; 8 bits; reset 0. -/
  use : BitVec 8 := 0
  /-- R66: the slot has been used since the last cold start, so that its next use is a reuse; reset false. -/
  used : Bool := false
  /-- R67: free, running, done; reset free. -/
  phase : HandlePhase := .free
  /-- R67, R593: SESSION that started it, 0 once it has ended; reset 0. -/
  owner : BitVec 32 := 0
  /-- R590: role of the session that started it, 0..3; reset 0. -/
  role : Nat := 0
  /-- R66: command index; reset 0. -/
  cmd : Nat := 0
  /-- R56, R67: the operation in progress with its arguments and the data moved so far; reset none. -/
  op : Op := .none
  /-- R394, R466: device time of the start, ps; reset 0. -/
  startedAt : Nat := 0
  /-- R255: its place in the order of starts; reset 0. -/
  order : Nat := 0
  /-- R593: PROGRESS, bytes moved; reset 0. -/
  progress : Nat := 0
  /-- R67: result code of the completion record; reset 0. -/
  result : Nat := 0
  /-- R67: DETAIL of the completion record; reset 0. -/
  detail : BitVec 96 := 0
  /-- R67: device time of completion, ps; reset 0. -/
  doneAt : Nat := 0
  /-- R67, R70: RSEQ of the completion record, 0 if none was queued; reset 0. -/
  rseq : Nat := 0
  deriving DecidableEq, Repr
/-- A change of a device source waiting for its commit (R307). -/
structure DevChange where
  /-- R307: true: target 1 (page boundary); false: target 2 (next line). -/
  atPage : Bool
  /-- R303: SOURCE number 1..3; 4 for the head conditions of R306. -/
  source : Nat
  nozzles : List NozChange
  writes : List ObjWrite
  /-- R314: the head whose defaults this carries, if any. -/
  newHead : Option Nat
  /-- R433: the closed-loop bar this carries, if any. -/
  bar : Option Nat
  deriving DecidableEq, Repr
/-- A request of the present tick, as arbitration needs it (R59). -/
structure ArbReq where
  session : BitVec 32
  role : Nat
  src : BitVec 16
  objs : List (Nat × Nat)
  commit : Bool
  deriving DecidableEq, Repr
/-- A COMMIT of the present tick that waits for a COMMIT ranked above it (R59). -/
structure HeldCommit where
  slot : Nat
  session : BitVec 32
  seq : Nat
  target : Nat
  lpos : Int
  role : Nat
  src : BitVec 16
  deriving DecidableEq, Repr
/-- A response that waits for the wheeler's acknowledgement (R476). -/
structure Withheld where
  slot : Nat
  sess : BitVec 32
  seq : Nat
  resp : Response
  /-- SEQ of the pair-link record it waits for. -/
  record : Nat
  since : Nat
  deriving DecidableEq, Repr
/-- A DISCOVER reply that waits for its delay (R46). -/
structure DiscoverWait where
  peer : Peer
  /-- R46: device time at which it is sent, ps. -/
  due : Nat
  deriving DecidableEq, Repr
/-- The value of a written RW object and the generation that governed when it was written (R65). -/
structure CfgVal where
  val : Val
  gen : BitVec 32
  deriving DecidableEq, Repr
/-- Object server state (chapter Object protocol and control model). -/
structure Proto where
  /-- R54: the 8 session slots; reset all free. -/
  sessions : Tab Session := []
  /-- R54: slot served last by the round robin; reset 7. -/
  served : Nat := 7
  /-- R57: the claims, at most 64; reset empty. -/
  claims : List Claim := []
  /-- R66: the 256 handles; reset all free. -/
  handles : Tab Handle := []
  /-- R255: handles started so far; reset 0. -/
  starts : Nat := 0
  /-- R51, R52: RW objects that have been written (or restored from flash, R529), keyed index × 256 + subindex; an object not listed reads its default; reset empty. -/
  cfg : Tab (Option CfgVal) := []
  /-- R62 to R65: every commit accepted, oldest first; the pending ones are those not passed; reset empty. -/
  commits : List Commit := []
  /-- R63: the generation number of the last accepted commit; 32 bits; reset 0. -/
  gen : BitVec 32 := 0
  /-- R307: device changes waiting for a place or a page boundary, oldest first; reset empty. -/
  waiting : List DevChange := []
  /-- R58, R59: the tick to which `tickReqs` belongs; reset 0. -/
  tick : Nat := 0
  /-- R59: the WRITE, STAGE and COMMIT requests already taken in that tick; reset empty. -/
  tickReqs : List ArbReq := []
  /-- R59: COMMITs of that tick that wait for one ranked above them; reset empty. -/
  heldCommits : List HeldCommit := []
  /-- R50: SESSION values that have ended by timeout, answered 0902h; reset empty. -/
  expired : List (BitVec 32) := []
  /-- R71: 1012h Comm.Status TAG_FAIL, REPLAY, MALFORMED, EVENT_OVERFLOW and their counts; reset 0. -/
  comm : Flags := {}
  /-- R46: DISCOVER replies not yet sent; reset empty. -/
  discover : List DiscoverWait := []
  /-- R476: responses withheld until the wheeler acknowledges; reset empty. -/
  withheld : List Withheld := []
  /-- R49: the enrolment window has closed by time or by enrolment since cold start; reset false. -/
  enrolClosed : Bool := false
  deriving DecidableEq, Repr
/-- A latched pair (C_k, t_k) of R83. -/
structure EdgePair where
  /-- R83: count of the edge (48-bit two's complement, sign-extended). -/
  c : Int
  /-- R83: device time of the edge in ps, resolution 2.5 ns. -/
  t : Nat
  deriving DecidableEq, Repr
/-- A bad occurrence that counts toward a declaration (R76, R82), and the pairs recorded before it (R101). -/
structure BadMark where
  /-- Elapsed time of the occurrence, ps. -/
  t : Nat
  last : Option EdgePair
  prev : Option EdgePair
  deriving DecidableEq, Repr
/-- The base pair (P0, C0) of R92; P0 in 2^-32 line. -/
structure BasePair where
  p0 : Int := 0
  c0 : Int := 0
  deriving DecidableEq, Repr
/-- A correction that is being spread over 64 count edges (R89). -/
structure Spread where
  /-- R89: what remains to enter LPOS, in 2^-32 line; reset 0. -/
  rest : Int := 0
  /-- R89: the size of each of the first 63 parts; reset 0. -/
  part : Int := 0
  /-- R89: parts still to enter (0..64); reset 0. -/
  left : Nat := 0
  deriving DecidableEq, Repr
/-- A wire pair of a channel. -/
structure WirePair where
  /-- R75: device time at which the running wire-disagree episode began, ps; reset none. -/
  since : Option Nat := none
  /-- R75: the running episode has passed 50 ns; reset false. -/
  over50 : Bool := false
  /-- R75: the running episode has reached 1 µs; reset false. -/
  over1us : Bool := false
  /-- R101: the pairs latched before the running episode; reset none. -/
  mark : Option BadMark := none
  /-- R574: the line termination has been disconnected by overvoltage; reset false. -/
  termOff : Bool := false
  /-- R574: when it was disconnected, ps; reset 0. -/
  termAt : Nat := 0
  deriving DecidableEq, Repr
/-- One encoder channel (chapter Web position from encoders). -/
structure EncChan where
  /-- R81: filtered levels of A and B; reset low (DESIGN CHOICE log 3). -/
  a : Bool := false
  b : Bool := false
  /-- R81, R105: 48-bit two's-complement counter; reset 0. -/
  count : BitVec 48 := 0
  /-- R82: direction of the last legal transition, true up; reset up (DESIGN CHOICE log 3). -/
  up : Bool := true
  /-- R95: the last two latched pairs, newest first; reset none. -/
  last : Option EdgePair := none
  prev : Option EdgePair := none
  /-- R96: edges since the last stop (0, 1, 2 and more); reset 0. -/
  sinceStop : Nat := 0
  /-- R101: while FAULTY, the last two pairs recorded before the first bad occurrence counted toward the declaration: LPOS follows them; reset none. -/
  goodLast : Option EdgePair := none
  goodPrev : Option EdgePair := none
  /-- R98: highest count reached; reset 0. -/
  highest : Int := 0
  /-- R98: AXIS.REVERSE has been raised and the highest count has not been regained; reset false. -/
  reversed : Bool := false
  /-- R98: AXIS.REVERSE is withheld since a rein-back's reverse step; reset false. -/
  reverseMute : Bool := false
  /-- R77: counts travelled backward without a break; reset 0. -/
  backRun : Nat := 0
  /-- R77: AXIS.POLARITY has been raised for this backward run; reset false. -/
  backRaised : Bool := false
  /-- R85: 4004h Axis.EncStatus and 4005h counts; reset 0. -/
  status : Flags := {}
  /-- R82: illegal transitions within the last 10 ms, newest first, with the pairs recorded before each; reset empty. -/
  illegal : List BadMark := []
  /-- R82: time AXIS.ILLEGAL was last raised; reset none. -/
  illegalRaised : Option Nat := none
  /-- R76: wire-disagree episodes on A and B within the last 10 ms, newest first; reset empty. -/
  episodes : List BadMark := []
  /-- R75: the pairs A, B, Z (keys 0, 1, 2); reset no episode. -/
  pairs : Tab WirePair := []
  /-- R87: armed for the next index; reset false. -/
  armed : Bool := false
  /-- R87: tick of the last arming (an index of that tick is handled under the old arming, R104); reset none. -/
  armedTick : Option Nat := none
  /-- R86, R88: a reference has been loaded; reset false. -/
  hasRef : Bool := false
  /-- R87, R85: the next index is a reference load whatever the arming (mode always: after cold start or EncReenable); reset true. -/
  refNext : Bool := true
  /-- R85: the next index is a reference load since `Axis.EncReenable`, in every index mode; reset false. -/
  reload : Bool := false
  /-- R89: the correction being spread; reset none running. -/
  spread : Spread := {}
  /-- R92: base pair of the channel's position (the source's for the source channel, the shadow's for ENC_1, R99; auxiliary for ENC_2 and ENC_3, R91); reset 0. -/
  base : BasePair := {}
  /-- R93: the gear in force at the channel, U64 32.32; reset 1 0000 0000h. -/
  gear : Nat := 4294967296
  /-- R93: the highest line whose gear has been taken into the base; reset none. -/
  gearTo : Option Int := none
  /-- R96: the last 64 count intervals (Δcount, Δt ps), newest first; reset empty. -/
  intervals : List (Int × Nat) := []
  /-- R97: residuals (device time, r in 1/65,536 line), newest first; reset empty. -/
  residuals : List (Nat × Int) := []
  /-- R77: run of ENC_0 counts during which every ENC_1 count was opposite (kept at ENC_1); reset 0. -/
  oppRun : Nat := 0
  oppDir : Bool := true
  /-- R77: an ENC_1 count has been seen in the run; AXIS.POLARITY raised for it (kept at ENC_1); reset false. -/
  oppSeen : Bool := false
  oppRaised : Bool := false
  /-- R99: counts of ENC_0 since the last alignment (kept at ENC_0); reset 0. -/
  sinceAlign : Nat := 0
  /-- R99: the shadow of ENC_1 was within BackupAgree at the last alignment; reset false. -/
  agreed : Bool := false
  /-- R99: an alignment has been made; reset false. -/
  aligned : Bool := false
  /-- R80: times of the last filtered edge on A and B, ps; reset none. -/
  edgeA : Option Nat := none
  edgeB : Option Nat := none
  deriving DecidableEq, Repr
/-- One entry of the index log (R90). -/
structure IndexLogEntry where
  channel : Nat
  outcome : Nat
  d : Int
  lpos : Int
  deriving DecidableEq, Repr
/-- The line axis. -/
structure Axis where
  /-- R109: 4000h Axis.State 0 INVALID, 1 VALID, 2 LOST; reset 0. -/
  state : Nat := 0
  /-- R105: 4001h Axis.Confidence; reset false. -/
  confidence : Bool := false
  /-- R105: 4002h Axis.Source; reset 0. -/
  source : Nat := 0
  /-- R73: the four channels; reset as EncChan. -/
  chans : Tab EncChan := []
  /-- R96: the axis is stopped; reset true. -/
  stopped : Bool := true
  /-- R90: the index log, newest first, at most 16; reset empty. -/
  indexLog : List IndexLogEntry := []
  /-- R97: time AXIS.RESIDUAL was last raised; reset none. -/
  residualRaised : Option Nat := none
  /-- R94: AXIS.RANGE has been raised; reset false. -/
  rangeRaised : Bool := false
  /-- R19: the supervisor die is unreachable; reset false. -/
  supervisorLost : Bool := false
  deriving DecidableEq, Repr
/-- A prediction of a head row's next line (R116). -/
structure Prediction where
  line : Int
  /-- R116: fire instant t_f in ps, a multiple of 100. -/
  tf : Nat
  /-- R116: send time t_s in ps. -/
  ts : Nat
  /-- R117: placed without a usable prediction. -/
  unpredicted : Bool
  /-- R118: ps by which the instant was moved. -/
  moved : Nat
  /-- R118: that move in lines, at the velocity of the prediction, in 1/65,536 line. -/
  movedLines : Int
  /-- R118: the move exceeds 128/256 line, so the line is dropped (late, cause 4). -/
  dropped : Bool
  deriving DecidableEq, Repr
/-- A head row (R112, R115, R120), key 2 × head + row. -/
structure Row where
  /-- R120: unit mark, the fire position of the last line generated, 2^-32 line; reset none. -/
  mark : Option Int := none
  /-- R120: the last line generated; reset none. -/
  lastLine : Option Int := none
  /-- R116: the prediction of the next line; reset none. -/
  pred : Option Prediction := none
  /-- R118: the last fire instant placed, ps; reset none. -/
  lastFire : Option Nat := none
  /-- R347: FSEQ of the next FIRE; 8 bits; reset 0. -/
  fseq : BitVec 8 := 0
  /-- R378: the row is held by a rein-back; reset false. -/
  held : Bool := false
  /-- R384: cause of the row's first held line; reset 0. -/
  heldCause : Nat := 0
  /-- R378: first held line; reset 0. -/
  heldLine : Int := 0
  /-- R378: last line passed while held that has been logged; reset 0. -/
  heldLogged : Int := 0
  /-- R382: the row has fired its next line in step 6; reset true. -/
  resumed : Bool := true
  /-- R332, R339: cause of the last line if it was late (a run is open), 0 otherwise; reset 0. -/
  lateRun : Nat := 0
  deriving DecidableEq, Repr
/-- A trigger output TRIG_n (R129, R130, R453). -/
structure Trig where
  /-- R120: unit mark, position of the last occurrence produced or skipped; reset none. -/
  mark : Option Int := none
  /-- R130: device time at which the present pulse ends, ps; none when deasserted; reset none. -/
  pulseEnd : Option Nat := none
  /-- R130: 4074h Line.TrigMissed; 16 bits; reset 0. -/
  missed : BitVec 16 := 0
  /-- R130: time LINE.TRIG_MISSED was last raised; reset none. -/
  missRaised : Option Nat := none
  /-- R453: next occurrence index k in time mode; reset 0. -/
  k : Nat := 0
  /-- R129: the position at and below which occurrences are skipped since the parameters took effect; reset 0. -/
  skipBelow : Int := 0
  /-- R119: position and instant (ps, a multiple of 1,000) predicted for the next occurrence; reset none. -/
  pred : Option (Int × Nat) := none
  /-- R453: occurrences of a wheeler, which drives no output, since it last heard its lead; reset 0. -/
  undriven : Nat := 0
  deriving DecidableEq, Repr
/-- The gait generator, the job and the speed limits. -/
structure Gait where
  /-- R120: 4043h Line.HighWater, W, 2^-32 line; reset 0. -/
  w : Int := 0
  /-- R112: the 128 head rows; reset as Row. -/
  rows : Tab Row := []
  /-- R129: the 8 trigger outputs; reset as Trig. -/
  trigs : Tab Trig := []
  /-- R117: 4047h Line.UnpredictedFires; 32 bits; reset 0. -/
  unpredicted : BitVec 32 := 0
  /-- R132 source 3: the lateness-policy limit; reset 400,000. -/
  slowLimit : Nat := 400000
  /-- R335: time of the last late line of cause 1, 4 or 5; reset none. -/
  slowSince : Option Nat := none
  /-- R133: the limit last sent to the press; reset 283,465. -/
  sentLimit : Nat := 283465
  /-- R133: since when the effective limit has stood above the limit sent, ps; reset none. -/
  riseSince : Option Nat := none
  /-- R133: that higher limit; reset 283,465. -/
  riseLimit : Nat := 283465
  /-- R134: since when every judgement found the speed above the limit, ps; reset none. -/
  overSince : Option Nat := none
  /-- R134: LINE.OVERRATE raised and not re-armed; reset false. -/
  overRaised : Bool := false
  /-- R134: since when the speed has stayed at or below the limit, ps; reset none. -/
  underSince : Option Nat := none
  /-- R122: 4060h Job.State 0 IDLE, 1 RUNNING, 2 DRAINING, 3 HALTED; reset 0. -/
  job : Nat := 0
  /-- R122: line of the abort whose passing makes the job IDLE; reset none. -/
  abortAt : Option Int := none
  /-- R124: the page queue, at most 1,024; reset empty. -/
  pages : List Page := []
  /-- R126: 4065h Job.LastComplete; 32 bits; reset 0. -/
  lastComplete : BitVec 32 := 0
  /-- R127: LINE.QUEUE_DRY raised since the last append; reset false. -/
  dryRaised : Bool := false
  deriving DecidableEq, Repr
/-- State of a stripe index entry (R148). -/
inductive StripeState where
  | filling
  | complete
  | bad
  | released
  deriving DecidableEq, Repr
/-- A stripe index entry (R147, R148, R149). -/
structure Stripe where
  /-- R147: base, the byte sequence of the stripe's first byte. -/
  base : Nat
  /-- R148: length in bytes, known once the EOS packet has arrived. -/
  len : Option Nat
  page : BitVec 32
  stripe : BitVec 32
  state : StripeState
  /-- R241, R242: error code 1..7 met by the decoder, 9 for a stripe past its page (R149), 0 none. -/
  err : Nat := 0
  /-- R149: contone lines, from the header once it has been read. -/
  depth : Option Nat := none
  /-- R149: first contone line of the page that it covers, once opened. -/
  row : Option Nat := none
  /-- R239: contone lines decoded so far, and the last of them (empty: the virtual line of zeros). -/
  nextLine : Nat := 0
  above : List Nat := []
  /-- Highest end of its bytes received, from the base of the ring's byte sequence. -/
  top : Nat := 0
  /-- R155, R160: an integrity resend of it is outstanding. -/
  retx : Bool := false
  /-- R241: error 8 has been raised for it. -/
  err8 : Bool := false
  deriving DecidableEq, Repr
/-- A released stripe of a page that has not ended (R149, R241). -/
structure OldStripe where
  page : BitVec 32
  stripe : Nat
  /-- R149: its contone lines; none when its header was wrong (R241). -/
  depth : Option Nat
  /-- R241: it met an error, which DECODE.ERROR or STREAM.PAGE_SHAPE has reported. -/
  bad : Bool
  deriving DecidableEq, Repr
/-- A gap below the highest byte received (R154). -/
structure Gap where
  first : Nat
  stop : Nat
  /-- R154: since when it has stood, ps. -/
  since : Nat
  /-- R154: when a NAK last listed it, ps. -/
  naked : Option Nat
  /-- R154: 1 gap, 2 integrity; 0 no longer requested (R156). -/
  reason : Nat
  deriving DecidableEq, Repr
/-- A decoded contone line kept in a ring's staging bank (R246), or as an anchor (R247). -/
structure StagedRow where
  page : BitVec 32
  /-- Contone line of the page; of an anchor, the line below it. -/
  row : Nat
  /-- Bits per pixel, 8 or 10. -/
  depth : Nat
  pixels : List Nat
  deriving DecidableEq, Repr
/-- A stream ring (R146 to R159), key 0..63. -/
structure Ring where
  /-- R161: 5006h Stream.Enable; reset false. -/
  enable : Bool := false
  /-- R159: 5007h Stream.Status and 5008h counts; reset 0. -/
  status : Flags := {}
  /-- R151: 5009h Stream.Cum; 64 bits; reset 0. -/
  cum : Nat := 0
  /-- R151: 500Ah Stream.Release; 64 bits; reset 0. -/
  release : Nat := 0
  /-- R151: 500Bh Stream.Limit; 64 bits; reset 0. -/
  limit : Nat := 0
  /-- R160: the tick in which LIMIT last rose, and LIMIT before that rise; reset 0. -/
  limitTick : Nat := 0
  limitWas : Nat := 0
  /-- R149: the released stripes of pages that have not ended; reset empty. -/
  depths : List OldStripe := []
  /-- R153: runs [first, end) received above CUM, lowest first; reset empty. -/
  ranges : List (Nat × Nat) := []
  /-- R154: the highest byte received plus 1; reset 0. -/
  high : Nat := 0
  /-- R154: gaps that stand; reset empty. -/
  gaps : List Gap := []
  /-- R148: the stripe index, ascending base, at most 8,192; reset empty. -/
  index : List Stripe := []
  /-- R153: device time of the last ACK, ps; reset 0. -/
  ackAt : Nat := 0
  /-- R153: DATA has arrived since the last ACK; reset false. -/
  dataSince : Bool := false
  /-- R153: LIMIT in the last ACK; reset 0. -/
  ackLimit : Nat := 0
  /-- R157: sources of the DATA packets accepted last, one for each port, newest first; reset none. -/
  sources : List Peer := []
  /-- R158, R165: when the packets of the last second were discarded by checks 1 to 6, ps, newest first; reset empty. -/
  discards : List Nat := []
  /-- R158: when STREAM.DISCARD was last raised, ps; reset none. -/
  discardAt : Option Nat := none
  /-- R163: the partner's CUM, ranges, release point from its RING records; reset 0. -/
  peerCum : Nat := 0
  peerRanges : List (Nat × Nat) := []
  peerRelease : Nat := 0
  /-- R154, R163: the partner's gaps, on the lead; reset empty. -/
  peerGaps : List Gap := []
  /-- R245: 5041h raised at, ps; reset none. -/
  slowAt : Option Nat := none
  /-- R241: 5064h Code.RingErrors, by error 1..8; 32 bits each; reset 0. -/
  errors : Tab (BitVec 32) := []
  /-- R156: (PAGE, STRIPE) reported late by STREAM.LATE; reset empty. -/
  lates : List (BitVec 32 × Nat) := []
  /-- R246: decoded lines in the staging bank, oldest first; reset empty. -/
  staged : List StagedRow := []
  /-- R247: anchors, at most two, oldest first; reset empty. -/
  anchors : List StagedRow := []
  /-- R247: the last line (page, contone line) that a remount recompute decodes again; reset none. -/
  redo : Option (BitVec 32 × Nat) := none
  deriving DecidableEq, Repr
/-- An Ethernet port (R138 to R143), key 0 NET_0, 1 NET_1, 2 MGMT. -/
structure NetPort where
  /-- R143: 1026h Net.LinkState; reset false. -/
  up : Bool := false
  /-- R142: 1027h Net.PortStats elements 0..7; 64 bits each; reset 0. -/
  stats : Tab (BitVec 64) := []
  deriving DecidableEq, Repr
/-- What a page-store burst holds beside its data: the errors planted or struck in it (R195 to R198, R222). -/
structure Mark where
  /-- R197: poisoned. -/
  poisoned : Bool := false
  /-- R222: bytes of the burst stored wrong: position and XOR mask. -/
  dataErr : List (Nat × Byte) := []
  /-- R222: XOR mask over the four check symbols; 32 bits. -/
  checkErr : BitVec 32 := 0
  /-- R196: written under another folded address. -/
  foldErr : Bool := false
  /-- R214: planted by Cmd.IntegInject. -/
  injected : Bool := false
  deriving DecidableEq, Repr
/-- Refresh bookkeeping of one bank (R186). -/
structure Bank where
  /-- R186: refreshes postponed (0..8); reset 0. -/
  behind : Nat := 0
  deriving DecidableEq, Repr
/-- The page store (chapter Page store). -/
structure Store where
  /-- R193: 5048h Store.State 0 not ready, 1 filling, 2 ready, 3 self-refresh; reset 2 (R205 step 4: the end of the cold start). -/
  state : Nat := 2
  /-- R166, R168: the 24 GiB of the store by byte address A; an unlisted byte reads 0, as the start-up fill leaves it (R205). -/
  mem : Tab Byte := []
  /-- R195: bursts with errors, keyed by A / 32; reset none. -/
  marks : Tab Mark := []
  /-- R202: slabs whose cells nothing has written under their present addresses, by the time of that, in ps, plus 1; reset none. -/
  unwritten : Tab Nat := []
  /-- R202: bursts (A / 32) of those slabs that have been written since; reset none. -/
  fresh : Tab Bool := []
  /-- R169, R171: the partition table 5040h entries 1..16 (first slab, count, purpose, order); reset R171. -/
  parts : Tab Partition := []
  /-- R187: 5049h Store.StackTemp, °C; 16 bits signed; reset 0. -/
  temp : Int := 0
  /-- R186: the refresh interval is halved; reset false. -/
  hot : Bool := false
  /-- R186: the 1,536 banks, key pseudo-channel × 48 + SID × 16 + BANK; reset none behind. -/
  banks : Tab Bank := []
  /-- R193: 5050h Store.PcStats, key pseudo-channel × 8 + element; 64 bits; reset 0. -/
  pcStats : Tab (BitVec 64) := []
  /-- R193: 5051h Store.ClassStats, key class × 8 + element; 64 bits; reset 0. -/
  classStats : Tab (BitVec 64) := []
  /-- R186, R194: times of the forced refreshes of the last second, and of the last STORE.REFRESH_FORCED, ps; reset none. -/
  forced : List Nat := []
  forcedAt : Option Nat := none
  /-- R184: when STORE.FIRE_SLOW was last raised per pseudo-channel; reset none. -/
  slowAt : Tab (Option Nat) := []
  /-- The model's own: latencies, in ns, of the FIRE requests that the command in hand has still to make (R184); reset none. -/
  lats : List Nat := []
  deriving DecidableEq, Repr
/-- An error log entry (R214). -/
structure LogEntry where
  /-- R214: device time, ps. -/
  time : Int
  address : Nat
  unit : BitVec 32
  memory : Nat
  kind : Nat
  requester : Nat
  symbol : Nat
  syndrome : BitVec 32
  repeats : Nat
  injected : Bool
  hard : Bool
  /-- R204: the model's own: every occurrence lay in a skipped slab, so that it counts for no retirement. -/
  uninit : Bool := false
  deriving DecidableEq, Repr
/-- A retirement map entry (R219). -/
structure RetireEntry where
  pc : Nat
  sid : Nat
  bank : Nat
  block : Nat
  /-- R219 STATE: 1 copying, 2 retired, 3 row repair pending. -/
  state : Nat
  hours : Nat
  /-- R220: faulty rows of the block. -/
  rows : List Nat
  deriving DecidableEq, Repr
/-- What is wrong in an SRAM word (R200). -/
structure SramMark where
  /-- R200: XOR mask over the 64 data bits. -/
  data : BitVec 64 := 0
  /-- R200: XOR mask over the 8 check bits. -/
  check : BitVec 8 := 0
  /-- R214: planted by Cmd.IntegInject. -/
  injected : Bool := false
  deriving DecidableEq, Repr
/-- Stored-data integrity (chapter Stored-data integrity). -/
structure Integ where
  /-- R203: the fill record, keyed by slab, true = skipped; reset none skipped. -/
  skipped : Tab Bool := []
  /-- R206: scrub position of each pseudo-channel (unit within it); reset 0. -/
  scrubPos : Tab Nat := []
  /-- R206: scrub position (word) of each of the 22 SRAM banks: nozzle table by region (0..3), cluster banks 3r + c (4..15), staging by region (16..19), camera line memory (20), supervisor memory (21); reset 0. -/
  sramPos : Tab Nat := []
  /-- R207: start of the present lap (time, W) of page store (0) and SRAM (1); reset 0. -/
  lapStart : Tab (Nat × Int) := []
  /-- R207: B011h lap duration ms and B012h lines, key 0 page store, 1 SRAM; 32 bits; reset 0. -/
  lapMs : Tab (BitVec 32) := []
  lapLines : Tab (BitVec 32) := []
  /-- R206, R207: pseudo-channels and SRAM banks that have completed the present lap; reset none. -/
  lapDone : List Nat := []
  sramDone : List Nat := []
  /-- R199: 64-byte units (A / 64) whose corrected read has placed a scrub; reset empty. -/
  scrubQueue : List Nat := []
  /-- R213, R217: units (and SRAM words) corrected in the previous lap and in this one, by (memory, address); reset empty. -/
  lapOld : List (Nat × Nat) := []
  lapNew : List (Nat × Nat) := []
  /-- R217 condition 2: units that gave an uncorrectable read and have not been written since, and units rewritten after one, awaiting their
  first read; reset empty. -/
  ueUnits : List Nat := []
  rewritten : List Nat := []
  /-- R214: the error log, newest first, at most 256; reset empty. -/
  log : List LogEntry := []
  /-- R215: B022h Integ.LogOverflow; 32 bits; reset 0. -/
  logOverflow : BitVec 32 := 0
  overflowAt : Option Nat := none
  /-- R216: B030h, B031h by memory code; 64 bits; reset 0. -/
  corrected : Tab (BitVec 64) := []
  ue : Tab (BitVec 64) := []
  /-- R216, R227: times of the corrections of the last second, and of the last BOUND.CORRECTED, by memory, ps; reset none. -/
  corrTimes : Tab (List Nat) := []
  corrAt : Tab (Option Nat) := []
  /-- R212: device times of fire-critical uncorrectable reads in the last second; reset empty. -/
  fireUe : List Nat := []
  /-- R213: times of uncorrectable line-buffer reads by cluster 3r + c, and of nozzle-table words by byte address / 8, in the last second; reset
  empty. -/
  clusterUe : Tab (List Nat) := []
  nozzleUe : Tab (List Nat) := []
  /-- R219: the retirement map, at most 1,024; reset empty. -/
  retired : List RetireEntry := []
  /-- R205, R218: the retirement map as last written to flash; reset empty. -/
  retiredFlash : List RetireEntry := []
  /-- R192, R217: blocks whose retirement waits for a mover channel (pc, sid, bank, block, row); reset none. -/
  retireWait : List (Nat × Nat × Nat × Nat × Nat) := []
  /-- R220: spare rows already used, key (pseudo-channel × 3 + SID) × 16 + BANK (0..2); reset 0. -/
  spareRows : Tab Nat := []
  /-- R220: rows repaired in the fuse map (pc, sid, bank, row); reset empty. -/
  repaired : List (Nat × Nat × Nat × Nat) := []
  /-- R200, R222: SRAM words with errors, by memory × 2^32 + byte address; reset none. -/
  sramErr : Tab SramMark := []
  /-- R200: SRAM words, by the same key, whose corrected read has scheduled a write-back; reset empty. -/
  sramQueue : List Nat := []
  /-- R222: SRAM words outside the nozzle table as Cmd.IntegInject wrote them, by the same key; reset none. -/
  sramWord : Tab (Option (BitVec 64)) := []
  deriving DecidableEq, Repr
/-- Roles of an engine (R275). -/
inductive EngRole where
  | free
  | band
  | spare
  | out
  deriving DecidableEq, Repr
/-- A checkpoint of a band (R281). The accumulators that it holds are those entries of `Screen.acc` whose source line lies
below it; they are kept while the checkpoint is. -/
structure Checkpoint where
  line : Int
  good : Bool
  deriving DecidableEq, Repr
/-- A contribution to an accumulator (R269): the line and column whose error it carries, the line and plane column it reaches, the
amount. -/
structure AccPart where
  src : Int
  org : Nat
  line : Int
  col : Nat
  val : Int
  deriving DecidableEq, Repr
/-- A screening engine (R275), key 9r + 3c + e. -/
structure Engine where
  /-- R275: ROLE; reset out of service until the start-up tile check (R289). -/
  role : EngRole := .free
  /-- R275: PLANE, BAND, FIRST, WIDTH of its band; reset none. -/
  plane : Option Nat := none
  band : Nat := 0
  first : Nat := 0
  width : Nat := 0
  /-- R275 FLAGS bit 0: it serves another region; reset 0. -/
  borrowed : Bool := false
  /-- R272, R276: the cluster 3r + c whose neighbour chain its band belongs to, kept over a remount (R23); reset 0. -/
  cluster : Nat := 0
  /-- R22: the region with fewer than eight passing engines to which the cold start lent this spare; reset none. -/
  lent : Option Nat := none
  /-- R277: next print line to screen; reset 0. -/
  next : Int := 0
  /-- R281: first line not verified; reset 0. -/
  unverified : Int := 0
  /-- R281: the last two checkpoints, newest first; reset empty. -/
  checkpoints : List Checkpoint := []
  /-- R267: array rows requested and not yet arrived, slot × 512 + row; reset empty. -/
  waitRows : List Nat := []
  /-- R267: rows in the window, slot × 512 + row (the newest at most 64); reset empty. -/
  window : List Nat := []
  /-- R267: the engine waits for a row; reset false. -/
  waiting : Bool := false
  /-- R279: ENGINE.LEAD raised and not re-armed; reset false. -/
  leadRaised : Bool := false
  /-- R282: last line at which the tile passed; reset 0. -/
  tileLine : Int := 0
  /-- R282: since when it has had work pending without progress, ps; none without work pending; reset none. -/
  dueAt : Option Nat := none
  /-- R284: a remount is in progress: failed engine's number, L_f, C, reason, unconfirmed lines, flags; reset none. -/
  remount : Option Remount := none
  /-- R286, R289: the rest of the page from this line on is late: checkpoints were lost, or the device slept; reset none. -/
  lostFrom : Option Int := none
  /-- R290: 600Ch Screen.EngineStats: lines, dots, checkpoints, tile passes, faults; 64 bits; reset 0. -/
  stats : Tab (BitVec 64) := []
  deriving DecidableEq, Repr
/-- A line in the dot delay of a head (R178, R281). It is released to assembly when both lists are empty. -/
structure DotLine where
  line : Int
  /-- Drop codes by nozzle index. -/
  codes : List Nat
  /-- R281: bands of the head's plane that reach the head and have not verified the line. -/
  missing : List Nat
  /-- R332 cause 1: bands in which the line is late upstream: its dots are not released. -/
  late : List Nat
  deriving DecidableEq, Repr
/-- A band of a plane without an engine (R284). -/
structure BareBand where
  plane : Nat
  band : Nat
  first : Nat
  width : Nat
  deriving DecidableEq, Repr
/-- Screening (chapter Screening and compensation). -/
structure Screen where
  /-- R275: the 36 engines; reset free, but engine 2 of cluster 2 of each region is its spare (R22, R289). -/
  engines : Tab Engine := [(8, { role := .spare }), (17, { role := .spare }), (26, { role := .spare }), (35, { role := .spare })]
  /-- R269, R270: contributions to the accumulators of plane p, keyed p; reset none. -/
  acc : Tab (List AccPart) := []
  /-- R178: the dot delay, key head × 16,384 + (L mod D); reset empty. -/
  dots : Tab (Option DotLine) := []
  /-- R284, R287: bands without an engine; reset none. -/
  bare : List BareBand := []
  /-- R290: 6005h Screen.ArrayInfo by slot: W_t, H_t, n, CRC; reset 0. -/
  arrays : Tab (Option ArrayInfo) := []
  /-- R267: array rows lost to an uncorrectable read, by slot; reset empty. -/
  lostRows : Tab (List Nat) := []
  /-- R287: 600Dh Screen.CapacityRate; 32 bits; reset 400,000. -/
  capacity : Nat := 400000
  /-- R249: failed decoders, key 6r + d, true = failed; reset none. -/
  decFailed : Tab Bool := []
  /-- R27, R249: the print line of the last contone line that each decoder completed, key 6r + d; reset none. -/
  decLast : Tab (Option Int) := []
  /-- R249: the line that a failed decoder left in progress and another one starts again: ring, base of the stripe, line of the stripe;
  reset none. -/
  restart : Option (Nat × Nat × Nat) := none
  /-- R29: the fabric cycle (device time in ns) whose engine faults have been handled in order of address, and those engines; reset none. -/
  faultCycle : Nat := 0
  faultSeen : List Nat := []
  /-- R256: 5063h Code.DecoderStats, key (6r + d) × 4 + element; 64 bits; reset 0. -/
  decStats : Tab (BitVec 64) := []
  /-- R276: bands have been assigned for the running job; reset false. -/
  assigned : Bool := false
  deriving DecidableEq, Repr
/-- The counter fields of a nozzle entry (R294, R297). -/
structure NozCnt where
  /-- R294 FIRECOUNT; 48 bits, saturates; reset 0. -/
  fire : Nat := 0
  /-- R294 HEALTH; 16 bits; reset FFFFh. -/
  health : Nat := 65535
  /-- R294 DENS_LAST, DENS_PREV; 16 bits; reset FFFFh. -/
  densLast : Nat := 65535
  densPrev : Nat := 65535
  /-- R294 DROPOUT; 16 bits, saturates; reset 0. -/
  dropout : Nat := 0
  deriving DecidableEq, Repr
/-- The nozzle table (chapter Nozzle table and hiding). -/
structure Nozzle where
  /-- R293, R313: decision fields at generation 0 (loaded at cold start), by channel; unlisted entries hold the defaults. -/
  base : Tab NozDec := []
  /-- R222, R308: decision fields of entries that Cmd.IntegInject has written and nothing has restored or changed since; reset none. -/
  planted : Tab (Option NozDec) := []
  /-- R297: counter fields by channel; reset as R294. -/
  cnt : Tab NozCnt := []
  /-- R211: counter fields in the stored copy, as last written back; reset as R294. -/
  cntStored : Tab NozCnt := []
  /-- R312: the flash copy: decision fields, counter fields and head identities, as last saved; reset empty (an erased part fails its
  check and loads the defaults, R313). -/
  flash : Tab NozDec := []
  flashCnt : Tab NozCnt := []
  flashId : Tab (List Byte) := []
  /-- R312: heads whose part of the flash has been written; reset none. -/
  flashed : Tab Bool := []
  /-- R312: heads whose stored copy has changed since the last save; reset none. -/
  dirty : Tab Bool := []
  /-- R312: device time of the last save, ps; reset 0. -/
  savedAt : Nat := 0
  /-- R314: 6034h Nozzle.HeadIdentity by head, 16 bytes; reset empty. -/
  identity : Tab (List Byte) := []
  /-- R314: heads whose defaults commit is not yet accepted; reset none. -/
  newHead : Tab Bool := []
  /-- R303: 6032h Nozzle.SourceDropped; 32 bits; reset 0. -/
  dropped : BitVec 32 := 0
  /-- R303, R319: changes dropped in the last second by SOURCE number, as (when in ps, how many), newest first; reset empty. -/
  drops : Tab (List (Nat × Nat)) := []
  /-- R303: when NOZZLE.SOURCE_DROPPED was last raised, by SOURCE number, ps; reset none. -/
  dropAt : Tab (Option Nat) := []
  deriving DecidableEq, Repr
/-- A head (chapter Heads and firing), key 0..63. -/
structure Head where
  /-- R330: 7011h Head.ThermalState 0 NORMAL, 1 WARM, 2 HOT; reset 0. -/
  thermal : Nat := 0
  /-- R338: the thermal state before the last reading that raised it, and when that reading arrived, ps; reset 0, none. -/
  was : Nat := 0
  turned : Option Nat := none
  /-- R329: 7010h Head.Temperature, 0.1 °C; 16 bits signed; reset 0. -/
  temp : Int := 0
  /-- R330: time of the last reading, ps; none before one; reset none. -/
  lastRead : Option Nat := none
  /-- R330: since when every reading has been at or below the exit threshold, ps; reset none. -/
  coolSince : Option Nat := none
  /-- R330, R331: entry to HOT was announced with its first blank line; reset true. -/
  hotAnnounced : Bool := true
  /-- R331: REASON of the HOT entry; reset 0. -/
  hotReason : Nat := 0
  /-- R330: new waveform set announced with its first line; reset true. -/
  warmAnnounced : Bool := true
  /-- R331: INH_THERMAL is set (or pending) on the head's channels; reset false. -/
  inhibited : Bool := false
  /-- R330: after a wake, since when every reading has been at or below the level at which INH_THERMAL is cleared; reset none. -/
  inhSince : Option Nat := none
  /-- R363, R490: the head is lost; reset false. -/
  lost : Bool := false
  /-- R333: 7034h Fire.LateCount; 32 bits; reset 0. -/
  late : BitVec 32 := 0
  /-- R339: times of the incomplete segments of the last second, and when HEAD.INCOMPLETE was last raised; reset empty, none. -/
  incTimes : List Nat := []
  incAt : Option Nat := none
  /-- R338: the last line with a cause 5 entry, per row (one late line per line); reset none. -/
  lastC5 : Tab (Option Int) := []
  deriving DecidableEq, Repr
/-- Firing (chapter Heads and firing). -/
structure Fire where
  /-- R320: the 64 heads; reset as Head. -/
  heads : Tab Head := []
  /-- R333: the defect log, newest first, at most 64; reset empty. -/
  defects : List Defect := []
  /-- R333: 7036h Fire.DefectOverflow; 32 bits; reset 0. -/
  overflow : BitVec 32 := 0
  deriving DecidableEq, Repr
/-- A bridge register request outstanding on a lane (R355). -/
structure BridgeReq where
  tag : Nat
  write : Bool
  addr : Nat
  data : BitVec 32
  sentAt : Nat
  /-- Handle of the Cmd.BridgeAccess, or none for the device's own access. -/
  handle : Option (BitVec 16)
  /-- Why the device itself asked: 0 host, 1 lane power, 2 eye. -/
  why : Nat
  deriving DecidableEq, Repr
/-- A trace link lane (chapter Trace link protocol), key 0..63. -/
structure Lane where
  /-- R361: 7040h Trace.State 0..9; reset 0. -/
  state : Nat := 0
  /-- R359: rate code in use; reset 0. -/
  rate : Nat := 0
  /-- R359: step of the bring-up in progress (1..5); reset 0. -/
  step : Nat := 0
  /-- R359: tries of the CAPS exchange made; reset 0. -/
  capsTries : Nat := 0
  /-- R363: retrain attempts left, none outside a retrain; reset none. -/
  retrain : Option Nat := none
  /-- R376: REASON that TRACE.UP will carry: 0 bring-up, 1 retrain, 2 wake; reset 0. -/
  upReason : Nat := 0
  /-- R359: TRACE.OPEN raised since the lane left OPEN; reset false. -/
  openRaised : Bool := false
  /-- R359: when an OPEN lane was last sensed, ps; reset 0. -/
  sensedAt : Nat := 0
  /-- R363: first late line since the lane left ACTIVE; reset none. -/
  firstLate : Option Int := none
  /-- R357: CAPS words received so far; reset none. -/
  capsIn : Tab (Option (BitVec 32)) := []
  /-- R358: 7044h Trace.Caps, accepted words 00h..0Bh; 32 bits; reset 0. -/
  caps : Tab (BitVec 32) := []
  /-- R360: D_e-corrected flight time sums of the echoes so far (ps) and their number; reset 0. -/
  echoSum : Nat := 0
  echoes : Nat := 0
  /-- R360: 7045h Trace.LinkLatency, D_link in ps; 32 bits; reset 0. -/
  latency : Nat := 0
  /-- R360: when the last measurement was started, ps; whether one runs; reset 0, false. -/
  measuredAt : Nat := 0
  measuring : Bool := false
  /-- R368: 7047h Trace.Eye: downstream width, height, upstream width, height; 16 bits; reset 0. -/
  eye : List Nat := [0, 0, 0, 0]
  /-- R368: when TRACE.EYE was last raised, and when the eye was last read, ps; reset none. -/
  eyeAt : Option Nat := none
  eyeReadAt : Option Nat := none
  /-- R345, R517, R540: the adaptation values of the receiver, at most 256 bytes, and a change that waits for a SKIP with the device time at which
  that SKIP is received, ps; reset empty, none. -/
  adapt : List Byte := []
  adaptNext : Option (List Byte × Nat) := none
  /-- R374: 7048h Trace.Stats, elements 0..7; 64 bits; reset 0. -/
  stats : Tab (BitVec 64) := []
  /-- R364: 7049h Trace.Power 0 Active, 1 Standby, 2 Deep; reset 0. -/
  power : Nat := 0
  /-- R364, R373: power state requested of the bridge and not yet answered; reset none. -/
  powerReq : Option Nat := none
  /-- R372: 704Ah Trace.Claim, CLAIM_STATE as last reported; 32 bits; reset 0. -/
  claim : BitVec 32 := 0
  /-- R355: requests outstanding, at most 16; reset empty. -/
  requests : List BridgeReq := []
  /-- R355: requests that wait until a TAG is free, in order; reset empty. -/
  waiting : List BridgeReq := []
  /-- R355: TAG of the next request; reset 0. -/
  tag : Nat := 0
  /-- R356: SEQ of the last echo request; 8 bits; reset 0. -/
  echoSeq : BitVec 8 := 0
  /-- R350: CONFIG and TRAIN blocks that wait for a line period, in order, and whether this line period has sent one; reset empty, false. -/
  mgmt : List Output := []
  mgmtSent : Bool := false
  /-- R354, R370: SENSE_EN of BR_CTRL as the device last saw it; reset true. -/
  senseEn : Bool := true
  /-- R375: handle of the Cmd.TraceBringUp that waits for the lane; reset none. -/
  handle : Option (BitVec 16) := none
  deriving DecidableEq, Repr
/-- Rein-back (chapter Rein-back seam recovery). -/
structure Rein where
  /-- R391: 4080h Rein.State 0..4; reset 0. -/
  state : Nat := 0
  /-- R377: 408Bh Rein.Count; 32 bits; reset 0. -/
  count : BitVec 32 := 0
  /-- R377: start times of rein-backs within the last 60 s, ps; reset empty. -/
  starts : List Nat := []
  /-- R382: P_s, LPOS at the stop; reset 0. -/
  ps : Int := 0
  /-- R383: target T; reset 0. -/
  target : Int := 0
  /-- R385: W_old; none outside steps 5 and 6; reset none. -/
  wOld : Option Int := none
  /-- R387: highest and lowest count since the reverse step began; reset 0. -/
  lowCount : Int := 0
  /-- R382: device times at which the stop, reverse, hold and run timers started, ps; reset 0. -/
  stopAt : Nat := 0
  revAt : Nat := 0
  holdAt : Nat := 0
  runAt : Nat := 0
  /-- R382: REIN.TIMEOUT raised; reset false. -/
  runRaised : Bool := false
  /-- R388: the splice log, newest first, at most 8; reset empty. -/
  splices : List Splice := []
  /-- R381: cause of the first held line and the first late line; reset 0. -/
  cause : Nat := 0
  first : Int := 0
  /-- R387: lines skipped; reset 0. -/
  skipped : Nat := 0
  /-- R390: partial outcome; reset false. -/
  part : Bool := false
  deriving DecidableEq, Repr
/-- An inspection frame that is open, stored or in the frame log (R397 to R403). -/
structure Frame where
  /-- R400 FRAME; 32 bits. -/
  frame : BitVec 32
  sensor : Nat
  port : Nat
  vc : Nat
  /-- R400 DTYPE: data type received; 0 before a line. -/
  dtype : Nat := 0
  /-- R401; 16 bits. -/
  flags : BitVec 16 := 0
  width : Nat
  linesCfg : Nat
  /-- R397: camera lines whose trigger was not produced, ascending. -/
  missed : List Nat := []
  /-- Camera lines received (R403). -/
  got : Nat := 0
  /-- R400 SURPLUS; saturates at FFFFh. -/
  surplus : Nat := 0
  /-- R400 FIRST, in 2^-32 line. -/
  first : Int
  /-- R400 PITCH: G in 1/65,536 line. -/
  pitch : Nat
  /-- R400 TRIGTIME, device time in ps; and the same as elapsed time. -/
  trigTime : Int
  trigAt : Nat
  /-- R400 FSDELAY in ns; none if no Frame Start arrived. -/
  fsDelay : Option Nat := none
  expGen : BitVec 32 := 0
  gen : BitVec 32 := 0
  hdrEcc : Nat := 0
  crcErr : Nat := 0
  /-- R400 ADDRESS; 0 when not stored. -/
  address : Nat := 0
  rein : Nat := 0
  /-- R399: bytes taken in the partition, 0 when not stored. -/
  space : Nat := 0
  /-- R409: alignment of the sensor at the frame's start. -/
  align : Int := 0
  /-- R403: a Frame Start has arrived; the frame has closed. -/
  started : Bool := false
  ended : Bool := false
  /-- R411: its statistics are complete; it gives none. -/
  processed : Bool := false
  noStats : Bool := false
  /-- R399: held by Cmd.FrameHold. -/
  held : Bool := false
  /-- R407: the slice that holds it. -/
  slice : Option Nat := none
  /-- R408: lines of an in-line frame: camera line, channel values. -/
  pixels : List (Nat × List Nat) := []
  /-- R400 BADLINES: camera lines received and excluded. -/
  excluded : List Nat := []
  deriving DecidableEq, Repr
/-- A mark that mark finding reports (R410, R411), with the head row it belongs to. -/
structure MarkRec where
  row : Nat
  companion : Bool
  /-- LPOS in 1/65,536 line. -/
  lpos : Int
  /-- Cross-web position in 0.1 µm. -/
  cross : Int
  area : Nat
  peak : Nat
  deriving DecidableEq, Repr
/-- A statistics record (R411). -/
structure StatRec where
  frame : BitVec 32
  sensor : Nat
  kind : Nat
  plane : Nat
  window : Nat
  expGen : BitVec 32
  flags : BitVec 16
  wfirst : Int
  firstCol : Int
  used : Nat
  excluded : Nat
  entries : List Int
  /-- R410: the marks of a record of KIND 2. -/
  marks : List MarkRec
  deriving DecidableEq, Repr
/-- A camera port (R395), key 0..3. -/
structure CamPort where
  /-- R120, R397: unit mark of the port's trigger; reset none. -/
  mark : Option Int := none
  /-- R398: first web line F of the present frame and its configured length; reset none. -/
  frameF : Option Int := none
  frameLines : Nat := 0
  /-- R397: next camera line m of the frame; reset 0. -/
  m : Nat := 0
  /-- R397: the frame trigger has been produced; reset false. -/
  frameTrig : Bool := false
  /-- R412: the mark has been lowered by a re-arm and no frame has started since; reset false. -/
  rearmed : Bool := false
  /-- R397: time of the last line trigger, ps; reset none. -/
  lastTrig : Option Nat := none
  /-- R394: handle of the host transfer that has the CCI master; reset none. -/
  cciHandle : Option (BitVec 16) := none
  /-- R119, R397: position and instant (ps, a multiple of 1,000) predicted for the next line trigger; reset none. -/
  pred : Option (Int × Nat) := none
  deriving DecidableEq, Repr
/-- A sensor (R393, R404 to R409), key 0..15. -/
structure Sensor where
  /-- R400: FRAME number of the next frame; 32 bits; reset 0. -/
  frame : BitVec 32 := 0
  /-- R402: discarding until Frame End (no open trigger); reset false. -/
  discard : Bool := false
  /-- R405: generation of the last list completed; 32 bits; reset 0. -/
  expDone : BitVec 32 := 0
  /-- R405: generation of the last list sent or due; reset 0. -/
  expSent : BitVec 32 := 0
  /-- R405: list in progress or failed since the last completed; reset none. -/
  expOpen : Option (BitVec 32) := none
  /-- R405: that list is in progress, or waits for the master (R394); reset false. -/
  expRun : Bool := false
  /-- R405: (EXPGEN, EXP_FAULT generation) sampled at each of the last three frame triggers, newest first; reset empty. -/
  expHist : List (BitVec 32 × Option (BitVec 32)) := []
  /-- R406: 8012h Insp.ExposureInForce; 32 bits; reset 0. -/
  inForce : BitVec 32 := 0
  /-- R409: 8013h Insp.Align, 1/16 px; 32 bits signed; reset 0. -/
  align : Int := 0
  /-- R408: dark, flat, absorbance tables; identity when none; reset none. -/
  dark : Option (List Nat) := none
  flat : Option (List Nat) := none
  absorb : Option (List Nat) := none
  /-- R403: when INSP.FRAME_FAULT was last raised, ps; reset none. -/
  faultAt : Option Nat := none
  deriving DecidableEq, Repr
/-- Inspection (chapter Inspection capture). -/
structure Insp where
  /-- R395: camera ports; reset as CamPort. -/
  ports : Tab CamPort := []
  /-- R393: sensors; reset as Sensor. -/
  sensors : Tab Sensor := []
  /-- R403: frames open, stored or awaiting processing, oldest first; reset empty. -/
  frames : List Frame := []
  /-- R400: 8040h Insp.FrameLog, newest first, at most 64; reset empty. -/
  log : List Frame := []
  /-- R402: 8041h Insp.ChannelErrors, key (16 × port + VC) × 8 + element; 32 bits; reset 0. -/
  errors : Tab (BitVec 32) := []
  /-- R407: failed slices S0..S3; reset none. -/
  sliceFailed : Tab Bool := []
  /-- R407: the in-line port has moved to the store; reset false. -/
  inlineMoved : Bool := false
  /-- R416: 8044h Insp.SliceStats, key slice × 4 + element; 64 bits; reset 0. -/
  sliceStats : Tab (BitVec 64) := []
  /-- R410: 8046h Insp.WindowsMissed; 32 bits; reset 0. -/
  windowsMissed : BitVec 32 := 0
  /-- R416: 8047h Insp.Dropped; 32 bits; reset 0. -/
  dropped : BitVec 32 := 0
  /-- R398: 8048h Insp.RequestMissed; 32 bits; reset 0. -/
  requestMissed : BitVec 32 := 0
  /-- R407: INSP.BACKLOG raised since the backlog was last 0; reset false. -/
  backlogRaised : Bool := false
  /-- R411: statistics records kept in the system partition, oldest first; reset empty. -/
  stats : List StatRec := []
  /-- R399: next free address offset in the inspection partition; reset 0. -/
  alloc : Nat := 0
  /-- R398: frame requests consumed, by port and FIRST; reset empty. -/
  requestsDone : List (Nat × Int) := []
  /-- R410: windows profiled or counted as missed, by window number and WFIRST; reset empty. -/
  windowsSeen : List (Nat × Int) := []
  deriving DecidableEq, Repr
/-- A test bar awaiting measurement or commit (R419 to R433). -/
structure Bar where
  /-- R420: bar number j. -/
  j : Nat
  first : Int
  /-- R420: planes of its slots, in slot order. -/
  slots : List Nat
  /-- R431: Loop.Mode at its first line. -/
  mode : Nat
  /-- R436: Loop.RegPlane when it was printed. -/
  regPlane : Nat
  /-- R432: generation accepted last at its first line. -/
  gen : BitVec 32
  /-- R431: its first line has been generated, which fixed `mode`, `regPlane` and `gen`. -/
  begun : Bool := false
  deriving DecidableEq, Repr
/-- The closed loop (chapter Closed-loop nozzle maintenance). -/
structure Loop where
  /-- R420, R435: number of the next bar; reset 0. -/
  j : Nat := 0
  /-- R433: bars printed and not yet measured, oldest first; reset empty. -/
  bars : List Bar := []
  /-- R438: 6054h Loop.LastBar; reset 0. -/
  last : LastBar := {}
  /-- R437: 6055h Loop.RowRegister by row 2h + r: e_u, x_u, bar; reset 0. -/
  register : Tab (Int × Int × Nat) := []
  /-- R433: the bar whose commit is outstanding; reset none. -/
  outstanding : Option Nat := none
  /-- R439: when LOOP.DRIFT was last raised by plane; reset none. -/
  driftAt : Tab (Option Nat) := []
  deriving DecidableEq, Repr
/-- A transmit timestamp entry (R444). -/
structure TxStamp where
  msgType : Nat
  byHost : Bool
  domain : Nat
  seqId : Nat
  time : Nat
  deriving DecidableEq, Repr
/-- A foreign master record (R440: the default data set comparison of the standard). -/
structure Foreign where
  identity : BitVec 64
  /-- Announce messages counted (2 qualify, R440). -/
  heard : Nat
  /-- The data set as the comparison orders it: priority1, clockClass, accuracy, variance, priority2, identity, stepsRemoved. -/
  rank : List Nat
  lastHeard : Nat
  deriving DecidableEq, Repr
/-- A PTP port (R442), key 0..2. -/
structure PtpPort where
  /-- R442: 9015h Time.PortState with the portState values of the standard (1 INITIALIZING .. 9 SLAVE); reset 1. -/
  state : Nat := 1
  foreign : List Foreign := []
  /-- R444: transmit stamps, oldest first, at most 64; reset empty. -/
  tx : List TxStamp := []
  /-- R445: 9022h Time.TxStatus and 9023h count; reset 0. -/
  txStatus : Flags := {}
  /-- R462: when TIME.TX_OVERFLOW was last raised; reset none. -/
  txAt : Option Nat := none
  /-- R440: sequenceIds of the port's own Sync, Announce and Delay_Req; 16 bits; reset 0. -/
  syncSeq : BitVec 16 := 0
  annSeq : BitVec 16 := 0
  reqSeq : BitVec 16 := 0
  /-- R440: PTP messages discarded; reset 0. -/
  discarded : Nat := 0
  /-- R448: the two-step Sync that awaits its Follow_Up: (sequenceId, ingress stamp ns×2^16, correction); reset none. -/
  sync : Option (Nat × Int × Int) := none
  /-- R448: completed Sync: t1 and t2 (ns × 2^16); reset none. -/
  t1t2 : Option (Int × Int) := none
  /-- R448: Delay_Req sent: (sequenceId, egress stamp ns×2^16); reset none. -/
  delayReq : Option (Nat × Int) := none
  deriving DecidableEq, Repr
/-- A capture of an EVT input (R455). -/
structure Capture where
  seq : BitVec 32
  edge : Nat
  flags : Nat
  time : Nat
  lpos : Int
  deriving DecidableEq, Repr
/-- An EVT input (R454, R455), key 0..3. -/
structure Evt where
  queue : List Capture := []
  /-- R455: SEQ of the next capture; 32 bits; reset 0. -/
  seq : BitVec 32 := 0
  /-- R455: 9053h Evt.Status and 9054h count; reset 0. -/
  status : Flags := {}
  /-- R454: TIME.CAPTURE raised times in the last second; reset empty. -/
  raised : List Nat := []
  /-- R454: the level accepted last and when the ball took it, ps; reset none. -/
  level : Option Bool := none
  edgeAt : Option Nat := none
  deriving DecidableEq, Repr
/-- The process-data stream (R456, R457). -/
structure Pd where
  /-- R460: 9062h Pd.State; reset false. -/
  running : Bool := false
  /-- R460: 9060h, 9061h cycle and phase in ns; reset 0. -/
  cycle : Nat := 0
  phase : Nat := 0
  /-- R456: SESSION that started it; reset 0. -/
  session : BitVec 32 := 0
  /-- R457: n of the last frame sent; reset none. -/
  lastN : Option Int := none
  /-- R457: 9063h Pd.Late; 32 bits; reset 0. -/
  late : BitVec 32 := 0
  deriving DecidableEq, Repr
/-- A correlation record (R458). -/
structure Corr where
  time : Nat
  lpos : Int
  speed : BitVec 32
  offset : Int
  servo : Nat
  flags : Nat
  gen : BitVec 32
  deriving DecidableEq, Repr
/-- The time unit (chapter Network time and triggers). -/
structure Timing where
  /-- R34: elapsed time of the device time counter, ps; every timer and held instant is kept in it; reset 0. -/
  now : Nat := 0
  /-- R450, R460: what device time adds to it, ps: the sum of the steps and slews made; reset 0 (901Ah Time.Now). -/
  epoch : Int := 0
  /-- R526: device time of the last cold start, ps; reset 0. -/
  coldStart : Nat := 0
  /-- R448: 9010h Time.ServoState 0..4; reset 0. -/
  servo : Nat := 0
  /-- R460: 9011h Time.Offset, ns; 64 bits signed; reset 0. -/
  offset : Int := 0
  /-- R460: 9013h Time.MeanPathDelay, ns; 32 bits; reset 0. -/
  pathDelay : Nat := 0
  /-- R449: 9012h Time.FreqAdjust (ppb); reset 0. -/
  freq : Int := 0
  /-- R448: frequency estimates of the last 16 s of state 2 (elapsed ps, ppb), newest first; reset empty. -/
  freqHist : List (Nat × Int) := []
  /-- R449: 9019h Time.PendingStep, ns; reset 0. -/
  pendingStep : Int := 0
  /-- R449: offsets beyond the threshold in a row; reset 0. -/
  outliers : Nat := 0
  /-- R448: offsets within the lock threshold in a row; reset 0. -/
  inLock : Nat := 0
  /-- R449: 9014h Time.Grandmaster; 64 bits; reset 0. -/
  grandmaster : BitVec 64 := 0
  /-- R440: a master is selected; reset false. -/
  hasMaster : Bool := false
  ports : Tab PtpPort := []
  evts : Tab Evt := []
  pd : Pd := {}
  /-- R458: 9070h Time.Correlation, newest first, at most 16; reset empty. -/
  corr : List Corr := []
  /-- R458: a step since the last correlation record; reset false. -/
  stepped : Bool := false
  /-- R459: the last step: when it was made and by how much, ps; reset none. -/
  lastStep : Option (Nat × Int) := none
  /-- R447: Syncs forwarded that wait for their Follow_Up: (port, sequenceId, sourcePortIdentity, residence ns×2^16, when ps), at most 16; reset empty. -/
  fwd : List (Nat × Nat × Nat × Int × Nat) := []
  /-- R447: 9030h Time.ResidenceStats: event, general, unmatched, largest ns; 64 bits; reset 0. -/
  residence : Tab (BitVec 64) := []
  deriving DecidableEq, Repr
/-- A pair-link record sent with ACKREQ and not acknowledged (R471). -/
structure PairPending where
  seq : Nat
  body : PairBody
  sentAt : Nat
  sends : Nat
  deriving DecidableEq, Repr
/-- Block data that a wheeler has received from BLOCK records (R475). -/
structure MirrorBlock where
  handle : Nat
  op : BlockOp
  got : Tab (Option Byte)
  deriving DecidableEq, Repr
/-- Tandem operation (chapter Tandem operation). -/
structure Tandem where
  /-- R463: tandem mode in force since cold start; reset false. -/
  tandem : Bool := false
  /-- R497: A001h Pair.State 0..6; reset 0. -/
  state : Nat := 0
  /-- R465: while in state 2 (IDENTITY): this chip leads; reset false. -/
  leads : Bool := false
  /-- R464: A002h Pair.PartnerHash, 48 bytes, in flash; reset empty. -/
  partnerHash : List Byte := []
  /-- R464: A003h Pair.PartnerSerial; 64 bits; reset 0. -/
  partnerSerial : BitVec 64 := 0
  /-- R489: A005h Pair.Epoch; 16 bits; reset 0. -/
  epoch : BitVec 16 := 0
  /-- R489: highest EPOCH seen anywhere; reset 0. -/
  epochSeen : BitVec 16 := 0
  /-- R470: A006h Pair.LinkState, lanes 0..3; reset down. -/
  lanes : Tab Bool := []
  /-- R474: A007h Pair.LinkLatency, ps; 32 bits; reset 0. -/
  latency : Nat := 0
  /-- R474: partner's device time minus own, ps; reset 0. -/
  offset : Int := 0
  /-- R474: A008h Pair.TimeDiff, ns; 32 bits signed; reset 0. -/
  timeDiff : Int := 0
  /-- R477: A009h Pair.CountOffset; 64 bits signed; reset 0. -/
  countOffset : Int := 0
  /-- R497: A00Ah Pair.Compare elements 0..5; 32 bits; reset 0. -/
  compare : Tab (BitVec 32) := []
  /-- R490: A00Bh Pair.HeadOwner by head 0..3; reset 0. -/
  owner : Tab Nat := []
  /-- R497: A00Ch Pair.Switches; 32 bits; reset 0. -/
  switches : BitVec 32 := 0
  /-- R467: A00Dh Pair.HeldReason 0..7; reset 0. -/
  heldReason : Nat := 0
  /-- R480: A00Fh Pair.WheelerLate; 32 bits; reset 0. -/
  wheelerLate : BitVec 32 := 0
  /-- R471: SEQ of the next record sent, highest SEQ received in order; 32 bits; reset 1, 0. -/
  txSeq : Nat := 1
  rxSeq : Nat := 0
  /-- R471: records with ACKREQ not yet acknowledged, oldest first; reset empty. -/
  pending : List PairPending := []
  /-- R471: records received above a gap in SEQ; reset empty. -/
  rxAbove : List Nat := []
  /-- R473: device time of the last valid record, ps; partner counted silent; reset none, false. -/
  heardAt : Option Nat := none
  silent : Bool := false
  /-- R472: the partner's last heartbeat; reset none. -/
  heartbeat : Option Heartbeat := none
  /-- R468: when searching began, ps; number of failed start-up races (selects serial bits, R469); reset 0. -/
  searchAt : Nat := 0
  races : Nat := 0
  /-- R469: the chip leads by an election that no wheeler has confirmed yet; reset false. -/
  elected : Bool := false
  /-- R468: `Pair.Preference` of the partner; R464: its major or minor firmware release differs; reset 0, false. -/
  partnerPref : Nat := 0
  fwDiffers : Bool := false
  /-- R486: a bridge has reported this chip as owner with REASON 2 since the partner was last heard; reset false. -/
  reason2 : Bool := false
  /-- R476: on the lead, the wheeler counts as HELD since it missed an acknowledgement; reset false. -/
  partnerHeld : Bool := false
  /-- R477: k has been formed since entry to JOINING; reset false. -/
  kKnown : Bool := false
  /-- R487, R488: the chip was STANDBY when its partner fell silent; reset false. -/
  fromStandby : Bool := false
  /-- R476: COMMIT records that wait for their predecessors; reset empty. -/
  early : List Commit := []
  /-- R475: block data mirrored so far; reset empty. -/
  blocks : List MirrorBlock := []
  /-- R479: the lead's dot digests that wait for this chip's interval (plane, first line, CRC-32C); reset empty. -/
  digests : List (Nat × Int × BitVec 32) := []
  /-- R466: handle and start time of a running Cmd.Pair; the partner's start seen at; reset none. -/
  pairing : Option (BitVec 16 × Nat) := none
  partnerPairing : Option (Nat × List Byte) := none
  /-- R464: the partner has been identified since link up; reset false. -/
  identified : Bool := false
  /-- R481: LPOS records have agreed since, ps; an AXIS alignment has been requested; reset none, false. -/
  agreeSince : Option Nat := none
  realigned : Bool := false
  /-- R481: the SNAPSHOT has been applied since JOINING; rows whose next page began after joining; reset false. -/
  snapshot : Bool := false
  joinedAt : Int := 0
  /-- R484: handle of a running Cmd.Handover; reset none. -/
  handover : Option (BitVec 16) := none
  /-- R496: whether this chip led before the last Sleep or Deep sleep; none once it has a role again; reset none. -/
  ledBefore : Option Bool := none
  /-- R463, R469: LEAD_n asserted by this chip, PEER_LEAD_n seen asserted; reset deasserted. -/
  leadN : Bool := false
  peerLeadN : Bool := false
  /-- R472: own heartbeat, LPOS and ECHO last sent, ps; reset 0. -/
  beatAt : Nat := 0
  lposAt : Nat := 0
  echoAt : Nat := 0
  /-- R464: this chip's random since link up, and the partner's last; reset empty. -/
  random : List Byte := []
  partnerRandom : List Byte := []
  /-- R472: the lead's TIME record last sent, ps; reset 0. -/
  timeAt : Nat := 0
  /-- R487: last line of the newest mirrored log entry when this chip took lead; none before it did; reset none. -/
  logHead : Option Int := none
  deriving DecidableEq, Repr
/-- A wake fault record (R516). -/
structure WakeFault where
  aonSeconds : Nat
  frm : Nat
  step : Nat
  cause : Nat
  rail : Nat
  status : BitVec 16
  run : Nat
  deriving DecidableEq, Repr
/-- A rail (R502), key order 1..9. -/
structure Rail where
  /-- R502: on; reset on (the state after start-up). -/
  on : Bool := true
  /-- R502: voltage commanded in mV, 0 standing for the nominal one; reset nominal. -/
  mv : Nat := 0
  /-- R503: READ_VOUT mV, READ_IOUT 10 mA, READ_TEMPERATURE_1 °C; reset 0. -/
  tele : List Int := [0, 0, 0]
  deriving DecidableEq, Repr
/-- The rail request outstanding in a sequence (R504, R505). -/
structure RailReq where
  rail : Nat
  /-- 0 off, 1 on, 2 change. -/
  kind : Nat
  mv : Nat
  attempt : Nat
  sentAt : Nat
  deriving DecidableEq, Repr
/-- A transition that waits on the rails: what remains of it (R508 order 10, R513, R514, R515). -/
inductive SeqKind where
  | idle
  | enter (target : Nat)
  | wakeSleep
  | wakeDeep
  | wakeReturn (frm : Nat)
  deriving DecidableEq, Repr
/-- Power (chapter Power states and supply). -/
structure Power where
  /-- R523: 3000h Power.State 0..4; reset 0. -/
  state : Nat := 0
  /-- R511: in Idle the cores run; last object message, ps; reset true, 0. -/
  coresRun : Bool := true
  coreMsgAt : Nat := 0
  /-- R502: the nine rails; reset at Run values. -/
  rails : Tab Rail := []
  /-- R504: the sequence in progress, the requests still to make and the one outstanding; reset idle. -/
  seq : SeqKind := .idle
  todo : List (Nat × Nat × Nat) := []
  req : Option RailReq := none
  /-- R512: source bit of the wake in progress; reset 0. -/
  wakeBy : Nat := 0
  /-- R512: device time of the commit point of the last Sleep or Deep sleep entry, ps; reset 0. -/
  enteredAt : Nat := 0
  /-- R522: when the present or last wake started, ps; reset 0. -/
  wakeAt : Nat := 0
  /-- R522: a WAKE edge has arrived during the entry after its commit point, with whether the crystal confirms; reset none. -/
  wakePending : Option Bool := none
  /-- R516: 3040h Power.WakeFaultLog, newest first, at most 16; reset empty. -/
  wakeLog : List WakeFault := []
  /-- R515: 3041h Power.WakeFaultPermanent, at most 64; reset empty. -/
  wakePerm : List WakeFault := []
  /-- R523: 3042h Power.WakeFaultRun; 8 bits; reset 0. -/
  wakeRun : Nat := 0
  /-- R515: records since the last successful wake, to be raised; wake sources 1, 2 suspended; reset 0, false. -/
  wakeUnraised : Nat := 0
  suspended : Bool := false
  /-- R520: 3020h Power.VsupStatus and 3021h counts; reset 0. -/
  vsup : Flags := {}
  /-- R523: 3022h Power.Vsup, mV; 16 bits; reset 0. -/
  vsupMv : Nat := 0
  /-- R520: VSUP3 is in overload (flash operations fail with 0801h); reset false. -/
  vsup3Over : Bool := false
  /-- R519: VSUP is between brown-out and recovery; reset false. -/
  brown : Bool := false
  /-- R519: POWER events that wait for Run, oldest first; reset empty. -/
  held : List EventRec := []
  /-- R526: the supply is below the power-on threshold; reset false. -/
  down : Bool := false
  deriving DecidableEq, Repr
/-- An image slot in flash (R530, R531). -/
structure Slot where
  /-- R530: bytes 0..23 of the header as held in flash; empty when erased; reset empty (assumption log 9). -/
  header : List Byte := []
  /-- R531: the first check of R531 that fails, 0 when the slot is valid; reset 1 (assumption log 9). -/
  reason : Nat := 1
  /-- R530: ROLLBACK of the header; reset 0. -/
  rollback : Nat := 0
  /-- R534: the slot was written by Cmd.ImageWrite and passed its check since the last start; reset false. -/
  checked : Bool := false
  deriving DecidableEq, Repr
/-- The governing boot control record (R532). -/
structure BootCtl where
  /-- R532 SEQ; 32 bits; reset 0. -/
  seq : BitVec 32 := 0
  /-- R532 PREFERRED 0 A, 1 B; reset 0. -/
  preferred : Nat := 0
  /-- R532 CONFIRMED; reset 0. -/
  confirmed : Nat := 0
  /-- R532 TRIAL; reset false. -/
  trial : Bool := false
  /-- R532 TRIES; 7 bits; reset 0. -/
  tries : Nat := 0
  deriving DecidableEq, Repr
/-- One copy of the lifetime records in flash, or of the configuration store (R529, R559). -/
structure FlashCopy where
  seq : Nat := 0
  /-- The copy's CRC-32C verifies. -/
  valid : Bool := false
  /-- R529, R559: the identity serial that the copy carries. -/
  serial : BitVec 64 := 0
  deriving DecidableEq, Repr
/-- A copy of the configuration store (R529). -/
structure CfgCopy where
  copy : FlashCopy := {}
  /-- The objects it holds, keyed index × 256 + subindex. -/
  objs : List (Nat × Val) := []
  deriving DecidableEq, Repr
/-- The two copies of the configuration store and what waits to be written (R529). -/
structure CfgStore where
  copies : List CfgCopy := [{}, {}]
  /-- R529: a listed object has changed since the last write, and when, ps; reset none. -/
  dirtyAt : Option Nat := none
  /-- R529: when Head.DelayCorrection was last written to the store, ps; reset 0. -/
  delaysAt : Nat := 0
  deriving DecidableEq, Repr
/-- Start-up and calibration (chapter Start-up and calibration). -/
structure Start where
  /-- R526: the step reached, 1..9; 0 while the supply is absent or a start has failed; reset 9 (the state after a start). -/
  step : Nat := 9
  /-- R535: recovery mode; reset false. -/
  recovery : Bool := false
  /-- R542: a start failure at step 2 or 3 waits for its retry, since, ps; reset none. -/
  retryAt : Option Nat := none
  /-- R542: the one retry has been made; reset false. -/
  retried : Bool := false
  /-- R533: 3031h Start.BootSlot; reset 0. -/
  bootSlot : Nat := 0
  /-- R530: image slots A and B, in flash; reset erased but for slot A, which the start booted (assumption log 9). -/
  slots : List Slot := [{ reason := 0, checked := false }, {}]
  /-- R532: boot control; reset 0. -/
  boot : BootCtl := {}
  /-- R533: 3034h Start.RollbackIndex, the OTP counter 0..64; reset 0. -/
  rollback : Nat := 0
  /-- R526: 3033h Start.Timeline, nine durations in µs; reset 0. -/
  timeline : List Nat := [0, 0, 0, 0, 0, 0, 0, 0, 0]
  /-- R542: 3035h Start.FaultLog, newest first, at most 8; reset empty. -/
  faultLog : List WakeFault := []
  /-- R542: start fault records not yet raised; reset 0. -/
  unraised : Nat := 0
  /-- R527: events found before step 9, oldest first; reset empty. -/
  held : List EventRec := []
  /-- R529: the configuration store; reset empty. -/
  store : CfgStore := {}
  /-- R502, R523: `Power.RailAddress` by order 1..9 as it stood at the last cold start; reset 40h to 48h. -/
  rails : List Nat := [0x40, 0x41, 0x42, 0x43, 0x44, 0x45, 0x46, 0x47, 0x48]
  /-- R45: `Comm.NodeAddress` as it stood at the last cold start, none for its default; reset none. -/
  node : Option Nat := none
  /-- R40, R164: `Comm.UdpPort` and `Comm.StreamUdpPort` as they stood at the last cold start; reset 51664 and 51665. -/
  udpPort : Nat := 51664
  streamUdpPort : Nat := 51665
  /-- R164: `Net.MacAddress` of each port as it stood at the last cold start, empty for its default; reset empty. -/
  macs : Tab (List Byte) := []
  /-- R598: Comm.Profile that governs since the last cold start; reset 0. -/
  profile : Nat := 0
  /-- R544: E000h Cal.Status and E001h counts; reset 0. -/
  cal : Flags := {}
  /-- R538: E002h Cal.StoreInfo, headers of the factory and the learned record as read; reset empty. -/
  storeInfo : List (List Byte) := [[], []]
  /-- R539: the factory record failed its check at the last cold start; reset false. -/
  factoryBad : Bool := false
  /-- R541: E010h Cal.LaneEye, width, height, slicer mask, termination segments by 00h..4Ch; reset 0. -/
  laneEye : Tab (List Nat) := []
  /-- R541: E020h Cal.StoreMargin, ECC margin, largest drift, spare lanes by pseudo-channel; reset 0. -/
  storeMargin : Tab (List Nat) := []
  /-- R536: E030h Cal.EncThreshold, 12 taps by channel; reset 0. -/
  encThreshold : Tab (List Nat) := []
  /-- R538: the choices of the learned record in flash: taps by encoder channel, trim codes, ECC margin figures; reset empty. -/
  learned : List (List Nat) × List Nat × List (List Nat) := ([], [], [])
  /-- R540: when a lane made its last tap step, ps; reset none. -/
  tapAt : Tab (Option Nat) := []
  /-- R536: E031h Cal.TempTrim, 14 codes; reset 0. -/
  tempTrim : List Nat := [0, 0, 0, 0, 0, 0, 0, 0, 0, 0, 0, 0, 0, 0]
  /-- R540: HBM3 delay tap positions and their start values, by lane (36 to a pseudo-channel); reset the middle tap (DESIGN CHOICE). -/
  taps : Tab (Nat × Nat) := []
  /-- R539: encoder channels whose calibration is deferred; reset none. -/
  deferred : Tab Bool := []
  /-- R541: when CAL.MARGIN was last raised, by unit, ps; reset none. -/
  marginAt : Tab (Option Nat) := []
  deriving DecidableEq, Repr
/-- An active fault (R546, R550, R563). -/
structure ActiveFault where
  /-- R563: code of the condition. -/
  code : Nat
  /-- R546: class 1..3. -/
  cls : Nat
  level : Nat
  unit : BitVec 32
  /-- R563: device time at which it was found, ps since the PTP epoch. -/
  time : Int
  /-- R550, R551: the condition that caused it still holds. -/
  cause : Bool
  deriving DecidableEq, Repr
/-- A core pair (R552). -/
structure CorePair where
  /-- R552: held in reset, since, ps; reset none. -/
  inReset : Option Nat := none
  /-- R552: time of the last mismatch or trap, ps; reset none. -/
  lastAt : Option Nat := none
  deriving DecidableEq, Repr
/-- The lifetime records (R558). -/
structure Life where
  /-- R558: ms of operation before `since`, of which and of the time since B060h Life.PowerOnHours reads the hours; reset 0. -/
  onMs : Nat := 0
  /-- R558: elapsed ps at which the present run of operation began; none in Off or below the operating range; reset 0. -/
  since : Option Nat := some 0
  /-- R558: B061h, key 32 × (1..3) + bin, in ms (published in s, saturating U32); reset 0. -/
  temp : Tab Nat := []
  /-- R558: B062h by bin, in s, and the samples of the present second (sum mV, number); reset 0. -/
  vsup : Tab Nat := []
  vsupSum : Nat := 0
  vsupNum : Nat := 0
  /-- R558: B063h lowest and highest VSUP, mV; reset none seen. -/
  low : Option Nat := none
  high : Option Nat := none
  /-- R558: B064h corrected, uncorrectable by 0..6; reset 0. -/
  corrected : Tab Nat := []
  ue : Tab Nat := []
  /-- R558: B065h retrains by lane 00h..4Ch; reset 0. -/
  retrains : Tab Nat := []
  /-- R558: B066h, key 4 × channel + element; reset 0. -/
  enc : Tab Nat := []
  /-- R558: B067h by head slot; reset 0. -/
  fires : Tab Nat := []
  /-- R558: B068h; reset 0. -/
  retiredFires : Nat := 0
  /-- R558: B069h, elements 0..7; reset 0. -/
  events : Tab Nat := []
  /-- R558: B06Ah power-on hours at the last flash write, writes made; reset 0. -/
  storedHours : Nat := 0
  writes : Nat := 0
  deriving DecidableEq, Repr
/-- A copy of the lifetime records in flash (R559). -/
structure LifeCopy where
  copy : FlashCopy := {}
  /-- The records it holds. -/
  data : Life := {}
  deriving DecidableEq, Repr
/-- Faults (chapter Faults and lifetime records) and the privileged outputs. -/
structure FaultSt where
  /-- R546, R563: active faults, oldest first; reset none. -/
  active : List ActiveFault := []
  /-- R563: B052h Fault.Counts by class; 32 bits, saturating; reset 0. -/
  counts : Tab Nat := []
  /-- R546: B051h Fault.Class as last raised; reset 0. -/
  cls : Nat := 0
  /-- R557: B053h Fault.OutputStatus and B055h counts; reset 0. -/
  output : Flags := {}
  /-- R550: outputs (bit numbers of B053h) that have disagreed with their balls and not yet agreed for 1 s; reset none. -/
  disagree : List Nat := []
  /-- R550: B054h Fault.DieTemp, logic, stack, supervisor, °C; reset 0. -/
  dieTemp : List Int := [0, 0, 0]
  /-- R552: core pairs A (0) and B (1); reset running. -/
  cores : Tab CorePair := []
  /-- R379, R547: STOP_REQ_n asserted, and why: fault hold, rein-back, loss of position; reset deasserted. -/
  stopHold : Bool := false
  stopRein : Bool := false
  stopLost : Bool := false
  /-- R521, R548: INK_EN driven asserted; reset asserted with Power.InkEnable 1 (R521). -/
  inkEn : Bool := true
  /-- R521, R526: HEAD_PWR_EN driven asserted; reset asserted (step 8). -/
  headPwr : Bool := true
  /-- R548: screening, decoding and capture have stopped; reset false. -/
  stopped : Bool := false
  /-- R579, R483: REFCLK_100 lost; reset false. -/
  refclkLost : Bool := false
  /-- R577: RESET_n asserted; reset false. -/
  resetN : Bool := false
  /-- R582: JTAG instruction register, by its code in Syntax; reset BYPASS. -/
  jtag : JtagInstr := .bypass
  /-- R520: VSUP3 overload stands; kept in Power. R19: supervisor die unreachable; kept in Axis. -/
  failed : Bool := false
  life : Life := {}
  /-- R559: the two copies of the lifetime records in flash; reset never written. -/
  lifeFlash : List LifeCopy := [{}, {}]
  deriving DecidableEq, Repr
/-- The model's own fields, which the spec does not name: outputs sent, and the counter that free values are drawn with. -/
structure Model where
  /-- Outputs, newest first; reset empty (DESIGN CHOICE, log 4). -/
  tx : List Output := []
  /-- R345: downstream blocks since the last SKIP, by lane; reset 0. -/
  skips : Tab Nat := []
  /-- Counter to which the free values of `Config` are applied; reset 0 (DESIGN CHOICE, log 5). -/
  free : Nat := 0
  deriving DecidableEq, Repr
/-- The whole device. -/
structure State where
  proto : Proto := {}
  axis : Axis := {}
  gait : Gait := {}
  ports : Tab NetPort := []
  rings : Tab Ring := []
  store : Store := {}
  integ : Integ := {}
  screen : Screen := {}
  noz : Nozzle := {}
  fire : Fire := {}
  lanes : Tab Lane := []
  rein : Rein := {}
  insp : Insp := {}
  loop : Loop := {}
  time : Timing := {}
  pair : Tandem := {}
  power : Power := {}
  start : Start := {}
  faults : FaultSt := {}
  model : Model := {}
  /-- The commands that are waiting, first in, first out; reset empty. -/
  pending : List Instr := []
  deriving DecidableEq, Repr
/-- Why a step would stop the device: no step of the spec does. -/
inductive Fault where
  /-- Raised by no meaning: every step of the table has an outcome (safe). -/
  | halted
  deriving DecidableEq, Repr
/-- Why the model refuses a step. -/
inductive Refusal where
  /-- Raised by the dispatcher for a step whose meaning is not written (safe: the model stops). -/
  | notModelled (mnemonic : String)
  deriving DecidableEq, Repr

/-- The machine right after reset: the end of a cold start, step 9 of R526, with an unused flash (assumption log 6). -/
def State.reset : State := {}

end Sys2Proof.Machine
end

