-- ==== Sys2Proof/Machine/Tab.lean ====
section
/-! DEFINITION. The operations on sparse tables (`Tab`), their canonical form, the accessors of the numbered units of
the state, and reads and writes of page-store bytes. -/

namespace Sys2Proof.Machine

/-- The value at key `k`; an unlisted key reads as `d`. -/
def tget {α : Type} (d : α) : Tab α → Nat → α
  | [], _ => d
  | (k', v) :: r, k => if k' = k then v else tget d r k

/-- Remove key `k`, wherever it is listed. -/
def tdel {α : Type} : Tab α → Nat → Tab α
  | [], _ => []
  | (k', v) :: r, k => if k' = k then tdel r k else (k', v) :: tdel r k

/-- Insert or replace at key `k`, keys staying in rising order. -/
def tins {α : Type} : Tab α → Nat → α → Tab α
  | [], k, v => [(k, v)]
  | (k', v') :: r, k, v =>
    if k < k' then (k, v) :: (k', v') :: r
    else if k = k' then (k, v) :: r
    else (k', v') :: tins r k v

/-- Write `v` at key `k`, keeping the canonical form: the value that an unlisted key reads as is not listed. -/
def tput {α : Type} [DecidableEq α] (d : α) (t : Tab α) (k : Nat) (v : α) : Tab α :=
  if v = d then tdel t k else tins t k v

/-- Every key of the table is above `k`. -/
def tabove {α : Type} (k : Nat) (t : Tab α) : Bool := t.all (fun e => decide (k < e.1))

/-- The canonical form: keys strictly rising, no entry equal to `d`. -/
def twf {α : Type} [DecidableEq α] (d : α) : Tab α → Bool
  | [] => true
  | (k, v) :: r => decide (v ≠ d) && tabove k r && twf d r

/-- Change the value at key `k`. -/
def tmod {α : Type} [DecidableEq α] (d : α) (t : Tab α) (k : Nat) (f : α → α) : Tab α :=
  tput d t k (f (tget d t k))

/-- A wrapping counter table: add one at `k`. -/
def tinc {n : Nat} (t : Tab (BitVec n)) (k : Nat) : Tab (BitVec n) := tmod 0 t k (· + 1)

/-- A plain counter table: add `m` at `k`. -/
def tadd (t : Tab Nat) (k m : Nat) : Tab Nat := tmod 0 t k (· + m)

/-! ### Block data (R56) -/

/-- Data received for a block transfer, at its offset. -/
def putData (t : Tab (Option Byte)) (offset : Nat) : List Byte → Tab (Option Byte)
  | [] => t
  | b :: r => putData (tput none t offset (some b)) (offset + 1) r

/-- The `n` bytes of a transfer, once all are there. -/
def dataBytes (t : Tab (Option Byte)) (n : Nat) : List Byte := (List.range n).map (fun i => (tget none t i).getD 0)

/-! ### Page-store bytes (R166, R168) -/

/-- The memory of the page store is in canonical form. -/
def Memory.wf (m : Tab Byte) : Bool := twf 0 m

/-- One byte of the page store. -/
def loadByte (m : Tab Byte) (a : Nat) : Byte := tget 0 m a

/-- Store one byte. -/
def storeByte (m : Tab Byte) (a : Nat) (v : Byte) : Tab Byte := tput 0 m a v

/-- `n` bytes from address `a` on. -/
def loadBytes (m : Tab Byte) (a : Nat) : Nat → List Byte
  | 0 => []
  | n + 1 => loadByte m a :: loadBytes m (a + 1) n

/-- Store bytes from address `a` on. -/
def storeBytes (m : Tab Byte) (a : Nat) : List Byte → Tab Byte
  | [] => m
  | b :: r => storeBytes (storeByte m a b) (a + 1) r

/-- A number from bytes, most significant byte first (R5). -/
def beNat (b : List Byte) : Nat := b.foldl (fun acc x => acc * 256 + x.toNat) 0

/-- The low `n` bytes of a number, most significant byte first (R5). -/
def natBytes : Nat → Nat → List Byte
  | 0, _ => []
  | n + 1, v => BitVec.ofNat 8 (v / 256 ^ n) :: natBytes n v

/-- A signed number in `n` bytes, two's complement, most significant byte first. -/
def intBytes (n : Nat) (v : Int) : List Byte := natBytes n (v % (256 ^ n : Nat)).toNat

/-! ### Accessors of numbered units -/

def State.ring (s : State) (n : Nat) : Ring := tget {} s.rings n
def State.setRing (s : State) (n : Nat) (r : Ring) : State := { s with rings := tput {} s.rings n r }
def State.lane (s : State) (n : Nat) : Lane := tget {} s.lanes n
def State.setLane (s : State) (n : Nat) (l : Lane) : State := { s with lanes := tput {} s.lanes n l }
def State.port (s : State) (n : Nat) : NetPort := tget {} s.ports n
def State.setPort (s : State) (n : Nat) (p : NetPort) : State := { s with ports := tput {} s.ports n p }
def State.sess (s : State) (n : Nat) : Session := tget {} s.proto.sessions n
def State.setSess (s : State) (n : Nat) (x : Session) : State :=
  { s with proto := { s.proto with sessions := tput {} s.proto.sessions n x } }
def State.handle (s : State) (n : Nat) : Handle := tget {} s.proto.handles n
def State.setHandle (s : State) (n : Nat) (x : Handle) : State :=
  { s with proto := { s.proto with handles := tput {} s.proto.handles n x } }
def State.chan (s : State) (n : Nat) : EncChan := tget {} s.axis.chans n
def State.setChan (s : State) (n : Nat) (x : EncChan) : State :=
  { s with axis := { s.axis with chans := tput {} s.axis.chans n x } }
def State.row (s : State) (n : Nat) : Row := tget {} s.gait.rows n
def State.setRow (s : State) (n : Nat) (x : Row) : State :=
  { s with gait := { s.gait with rows := tput {} s.gait.rows n x } }
def State.trig (s : State) (n : Nat) : Trig := tget {} s.gait.trigs n
def State.setTrig (s : State) (n : Nat) (x : Trig) : State :=
  { s with gait := { s.gait with trigs := tput {} s.gait.trigs n x } }
def State.engine (s : State) (n : Nat) : Engine := tget {} s.screen.engines n
def State.setEngine (s : State) (n : Nat) (x : Engine) : State :=
  { s with screen := { s.screen with engines := tput {} s.screen.engines n x } }
def State.head (s : State) (n : Nat) : Head := tget {} s.fire.heads n
def State.setHead (s : State) (n : Nat) (x : Head) : State :=
  { s with fire := { s.fire with heads := tput {} s.fire.heads n x } }
def State.camPort (s : State) (n : Nat) : CamPort := tget {} s.insp.ports n
def State.setCamPort (s : State) (n : Nat) (x : CamPort) : State :=
  { s with insp := { s.insp with ports := tput {} s.insp.ports n x } }
def State.sensor (s : State) (n : Nat) : Sensor := tget {} s.insp.sensors n
def State.setSensor (s : State) (n : Nat) (x : Sensor) : State :=
  { s with insp := { s.insp with sensors := tput {} s.insp.sensors n x } }
def State.ptpPort (s : State) (n : Nat) : PtpPort := tget {} s.time.ports n
def State.setPtpPort (s : State) (n : Nat) (x : PtpPort) : State :=
  { s with time := { s.time with ports := tput {} s.time.ports n x } }
def State.evt (s : State) (n : Nat) : Evt := tget {} s.time.evts n
def State.setEvt (s : State) (n : Nat) (x : Evt) : State :=
  { s with time := { s.time with evts := tput {} s.time.evts n x } }
def State.rail (s : State) (n : Nat) : Rail := tget {} s.power.rails n
def State.setRail (s : State) (n : Nat) (x : Rail) : State :=
  { s with power := { s.power with rails := tput {} s.power.rails n x } }

/-- The port number of R143: 0 NET_0, 1 NET_1, 2 MGMT. -/
def portNum : Port → Nat
  | .net0 => 0
  | .net1 => 1
  | .mgmt => 2

end Sys2Proof.Machine
end

