-- ==== Sys2Proof/Machine/Dict.lean ====
section
/-! DEFINITION. The object dictionary (R588 to R594 and the object tables of the chapters): for every object its
subindices, type code of R51, access kind, default, reserved bits and range; roles by index (R590); the aliases of
R602. -/

namespace Sys2Proof.Machine

/-- Access kinds of R52; `cmd` stands for an index that only CMD_START names. -/
inductive Acc where
  | ro
  | rw
  | wo
  | staged
  | cmd
  deriving DecidableEq, Repr

/-- Range checks that a value alone decides (0303h; `elems` and `lens` give 0307h and 0303h). -/
inductive Rng where
  | any
  | rng (lo hi : Int)
  /-- In range and a multiple. -/
  | mul (lo hi m : Int)
  /-- 0, or in range. -/
  | zeroOr (lo hi : Int)
  /-- One of the listed values. -/
  | among (l : List Int)
  /-- R111: line part in range, fraction bits 7..0 zero (value in 2^-16 line). -/
  | lpos (lo hi : Int)
  /-- Byte strings of one of the listed lengths. -/
  | lens (l : List Nat)
  /-- Arrays with one element for each listed range. -/
  | elems (l : List (Int × Int))
  /-- Arrays of 1 to n elements. -/
  | upTo (n : Nat)
  deriving DecidableEq, Repr

/-- An object, or a run of subindices of one. -/
structure Obj where
  idx : Nat
  lo : Nat
  hi : Nat
  ty : Nat
  acc : Acc
  dflt : Val
  rng : Rng := .any
  /-- R6: reserved bits of the value's bit pattern. -/
  resv : Nat := 0
  deriving DecidableEq, Repr

/-- Type codes of R51. -/
abbrev tBool : Nat := 0x01
abbrev tU8 : Nat := 0x02
abbrev tU16 : Nat := 0x03
abbrev tU32 : Nat := 0x04
abbrev tU64 : Nat := 0x05
abbrev tI8 : Nat := 0x06
abbrev tI16 : Nat := 0x07
abbrev tI32 : Nat := 0x08
abbrev tI64 : Nat := 0x09
abbrev tF32 : Nat := 0x0A
abbrev tLpos : Nat := 0x0B
abbrev tTime : Nat := 0x0C
abbrev tStr : Nat := 0x0D
abbrev tOct : Nat := 0x0E
abbrev tArr (t : Nat) : Nat := 0x80 + t

/-- The bytes of an ASCII string. -/
def ascii (s : String) : List Byte := s.toList.map (fun c => BitVec.ofNat 8 c.toNat)

/-- R268: a tap word. -/
def tapWord (dy : Nat) (dx : Int) (w : Nat) : Int := (dy * 65536 + (dx % 16).toNat * 256 + w : Nat)

/-- R268: the default kernel. -/
def defaultKernel : List Int :=
  [tapWord 0 1 64, tapWord 0 2 32, tapWord 1 (-2) 12, tapWord 1 (-1) 24, tapWord 1 0 32, tapWord 1 1 24,
   tapWord 1 2 12, tapWord 2 (-2) 6, tapWord 2 (-1) 12, tapWord 2 0 16, tapWord 2 1 12, tapWord 2 2 10]

/-- R393: the reset value of a sensor entry. -/
def defaultSensor : List Byte := natBytes 16 (2 ^ 119 + 0x24 * 2 ^ 104 + 21166667)

/-- R169, R171: a partition entry as octets. -/
def partBytes (p : Partition) : List Byte :=
  natBytes 4 p.first ++ natBytes 4 p.count ++ [BitVec.ofNat 8 p.purpose, BitVec.ofNat 8 p.order] ++ natBytes 6 0

/-- R1013, R1020 defaults that derive from the identity serial (R45, R164). The spec does not give the derivation of
the MAC address: a free value of the serial. -/
def defaultMac (port : Nat) : List Byte := natBytes 6 (Config.freeOf 1020 [Config.serial.toNat, port]).toNat

/-- R1: `Identity.Stepping` of this silicon, B1. -/
abbrev stepping : BitVec 16 := 0x00B1

/-- R591. `Identity.FirmwareRelease` reads RELEASE of the booted image's header; where the slot holds no header the release is 3.1 with this
device's build number (DESIGN CHOICE, assumption log 9). -/
def objIdentity : List Obj := [
  ⟨0x1000, 0, 0, tStr, .ro, .bytes (ascii "Calrov Devices"), .any, 0⟩,
  ⟨0x1001, 0, 0, tU64, .ro, .num Config.serial.toNat, .any, 0⟩,
  ⟨0x1002, 0, 0, tStr, .ro, .bytes (ascii "LMG6416"), .any, 0⟩,
  ⟨0x1003, 0, 0, tU8, .ro, .num 1, .any, 0⟩,
  ⟨0x1008, 0, 0, tOct, .ro, .bytes Config.publicKey, .any, 0⟩,
  ⟨0x1009, 0, 0, tU16, .ro, .num stepping.toNat, .any, 0⟩,
  ⟨0x100A, 0, 0, tU32, .ro, .num (0x03010000 + Config.build.toNat), .any, 0⟩,
  ⟨0x1010, 0, 0, tU16, .rw, .num (Config.serial.toNat % 65536 : Nat), .rng 0 65535, 0⟩,
  ⟨0x1011, 0, 0, tU16, .rw, .num 5, .rng 1 60, 0⟩,
  ⟨0x1012, 0, 0, tU8, .rw, .num 0, .rng 0 255, 0xF0⟩,
  ⟨0x1012, 1, 4, tU16, .ro, .num 0, .any, 0⟩,
  ⟨0x1013, 0, 0, tU16, .rw, .num 51664, .rng 1024 65535, 0⟩,
  ⟨0x1014, 0, 0, tU16, .rw, .num 51665, .rng 1024 65535, 0⟩,
  ⟨0x1020, 0, 2, tOct, .rw, .bytes [], .lens [6], 0⟩,
  ⟨0x1021, 0, 2, tU32, .rw, .num 0, .rng 0 4294967295, 0⟩,
  ⟨0x1022, 0, 2, tU8, .rw, .num 24, .rng 1 32, 0⟩,
  ⟨0x1023, 0, 2, tOct, .rw, .bytes [], .lens [16], 0⟩,
  ⟨0x1024, 0, 2, tU16, .rw, .num 0, .rng 0 4094, 0⟩,
  ⟨0x1025, 1, 0x20, tOct, .rw, .bytes [], .lens [0, 4, 16], 0⟩,
  ⟨0x1026, 0, 2, tU8, .ro, .num 0, .any, 0⟩,
  ⟨0x1027, 0, 2, tArr tU64, .ro, .arr [], .any, 0⟩,
  ⟨0x1030, 1, 0x20, tOct, .rw, .bytes [], .lens [0, 49], 0⟩,
  ⟨0x1031, 0, 0, tBool, .ro, .num 1, .any, 0⟩,
  ⟨0x1040, 0, 0, tU8, .rw, .num 0, .rng 0 1, 0⟩]

def objCompat : List Obj := [
  ⟨0x2000, 0, 0, tBool, .rw, .num 0, .rng 0 1, 0⟩,
  ⟨0x2001, 0, 0, tU8, .rw, .num 0, .rng 0 255, 0⟩,
  ⟨0x2002, 0, 0, tI32, .ro, .num 0, .any, 0⟩,
  ⟨0x2003, 0, 0, tU32, .ro, .num 0, .any, 0⟩,
  ⟨0x2004, 0, 0, tU32, .staged, .num 0, .rng 0 4294967295, 0⟩,
  ⟨0x2010, 0, 0x1F, tI32, .staged, .num 0, .rng (-268435456) 268435455, 0⟩,
  ⟨0x2020, 0, 0, tU8, .staged, .num 0, .rng 1 3, 0⟩,
  ⟨0x2021, 0, 0, tU16, .ro, .num 0, .any, 0⟩,
  ⟨0x2022, 0, 0, tU16, .ro, .num 0, .any, 0⟩]

def objPower : List Obj := [
  ⟨0x3000, 0, 0, tU8, .ro, .num 0, .any, 0⟩,
  ⟨0x3001, 0, 0, tU8, .rw, .num 1, .rng 0 255, 0xF8⟩,
  ⟨0x3002, 0, 0, tU8, .rw, .num 0, .rng 0 3, 0⟩,
  ⟨0x3003, 0, 0, tU32, .rw, .num 0, .rng 0 86400, 0⟩,
  ⟨0x3004, 0, 0, tBool, .rw, .num 1, .rng 0 1, 0⟩,
  ⟨0x3005, 0, 0, tU16, .rw, .num 100, .rng 0 5000, 0⟩,
  ⟨0x3006, 0, 0, tBool, .rw, .num 1, .rng 0 1, 0⟩,
  ⟨0x3010, 1, 1, tU8, .rw, .num 0x40, .rng 8 0x77, 0⟩, ⟨0x3010, 2, 2, tU8, .rw, .num 0x41, .rng 8 0x77, 0⟩,
  ⟨0x3010, 3, 3, tU8, .rw, .num 0x42, .rng 8 0x77, 0⟩, ⟨0x3010, 4, 4, tU8, .rw, .num 0x43, .rng 8 0x77, 0⟩,
  ⟨0x3010, 5, 5, tU8, .rw, .num 0x44, .rng 8 0x77, 0⟩, ⟨0x3010, 6, 6, tU8, .rw, .num 0x45, .rng 8 0x77, 0⟩,
  ⟨0x3010, 7, 7, tU8, .rw, .num 0x46, .rng 8 0x77, 0⟩, ⟨0x3010, 8, 8, tU8, .rw, .num 0x47, .rng 8 0x77, 0⟩,
  ⟨0x3010, 9, 9, tU8, .rw, .num 0x48, .rng 8 0x77, 0⟩,
  ⟨0x3011, 1, 9, tU8, .rw, .num 0, .rng 0 1, 0⟩,
  ⟨0x3012, 1, 9, tArr tI16, .ro, .arr [0, 0, 0], .any, 0⟩,
  ⟨0x3020, 0, 0, tU8, .rw, .num 0, .rng 0 255, 0xF8⟩,
  ⟨0x3021, 1, 3, tU16, .ro, .num 0, .any, 0⟩,
  ⟨0x3022, 0, 0, tU16, .ro, .num 0, .any, 0⟩,
  ⟨0x3031, 0, 0, tU8, .ro, .num 0, .any, 0⟩,
  ⟨0x3032, 1, 2, tOct, .ro, .bytes [], .any, 0⟩,
  ⟨0x3033, 0, 0, tArr tU32, .ro, .arr [], .any, 0⟩,
  ⟨0x3034, 0, 0, tU8, .ro, .num 0, .any, 0⟩,
  ⟨0x3035, 1, 8, tOct, .ro, .bytes [], .any, 0⟩,
  ⟨0x3040, 1, 0x10, tOct, .ro, .bytes [], .any, 0⟩,
  ⟨0x3041, 1, 0x40, tOct, .ro, .bytes [], .any, 0⟩,
  ⟨0x3042, 0, 0, tU8, .ro, .num 0, .any, 0⟩]

def objAxis : List Obj := [
  ⟨0x4000, 0, 0, tU8, .ro, .num 0, .any, 0⟩,
  ⟨0x4001, 0, 0, tBool, .ro, .num 0, .any, 0⟩,
  ⟨0x4002, 0, 0, tU8, .ro, .num 0, .any, 0⟩,
  ⟨0x4003, 0, 0, tU8, .rw, .num 0, .rng 0 1, 0⟩,
  ⟨0x4004, 0, 3, tU32, .rw, .num 0, .rng 0 4294967295, 0xFFFFFE00⟩,
  ⟨0x4005, 1, 0x24, tU16, .ro, .num 0, .any, 0⟩,
  ⟨0x4010, 0, 0, tU64, .staged, .num 0x100000000, .rng 1 0xFFFFFFFFFFFF, 0xFFFF000000000000⟩,
  ⟨0x4011, 0, 0, tU64, .staged, .num 0x100000000, .rng 1 0xFFFFFFFFFFFF, 0xFFFF000000000000⟩,
  ⟨0x4012, 2, 3, tU64, .rw, .num 0x100000000, .rng 1 0xFFFFFFFFFFFF, 0xFFFF000000000000⟩,
  ⟨0x4020, 0, 3, tU32, .rw, .num 0x000F0006, .any, 0xFF00F0F8⟩,
  ⟨0x4021, 0, 3, tI64, .rw, .num 0, .rng (-140737488355328) 140737488355327, 0⟩,
  ⟨0x4022, 0, 3, tU32, .rw, .num 0, .rng 0 4294967295, 0⟩,
  ⟨0x4023, 0, 3, tU8, .rw, .num 2, .rng 0 64, 0⟩,
  ⟨0x4024, 0, 0, tU16, .rw, .num 4, .rng 1 65535, 0⟩,
  ⟨0x4025, 0, 3, tBool, .wo, .num 0, .rng 0 1, 0⟩,
  ⟨0x4026, 0, 0, tU8, .rw, .num 0, .rng 0 2, 0⟩,
  ⟨0x4027, 0, 0, tU8, .rw, .num 0, .rng 0 1, 0⟩,
  ⟨0x4029, 0, 0, tU16, .rw, .num 10, .rng 1 1000, 0⟩,
  ⟨0x402A, 0, 0, tU32, .rw, .num 65536, .rng 256 16777216, 0⟩,
  ⟨0x402B, 0, 0, tU32, .rw, .num 8192, .rng 256 16777216, 0⟩,
  ⟨0x402C, 0, 0, tU32, .rw, .num 1024, .rng 16 16777216, 0⟩,
  ⟨0x4030, 0, 3, tI64, .ro, .num 0, .any, 0⟩,
  ⟨0x4031, 0, 0, tLpos, .ro, .num 0, .any, 0⟩,
  ⟨0x4032, 0, 0, tF32, .ro, .num 0, .any, 0⟩,
  ⟨0x4033, 1, 2, tU32, .ro, .num 0, .any, 0⟩,
  ⟨0x4034, 1, 0x10, tOct, .ro, .bytes [], .any, 0⟩,
  ⟨0x4035, 0, 0, tLpos, .wo, .num 0, .any, 0⟩,
  ⟨0x4037, 0, 3, tBool, .wo, .num 0, .rng 0 1, 0⟩,
  ⟨0x4038, 2, 3, tLpos, .ro, .num 0, .any, 0⟩]

def objLine : List Obj := [
  ⟨0x4040, 1, 0x10, tLpos, .ro, .num 0, .any, 0⟩,
  ⟨0x4041, 1, 0x10, tLpos, .staged, .num 0, .lpos (-1048576) 1048575, 0⟩,
  ⟨0x4042, 0, 0x7F, tLpos, .ro, .num 0, .any, 0⟩,
  ⟨0x4043, 0, 0, tLpos, .ro, .num 0, .any, 0⟩,
  ⟨0x4047, 0, 0, tU32, .ro, .num 0, .any, 0⟩,
  ⟨0x4050, 0, 0, tU32, .staged, .num 283465, .rng 1000 400000, 0⟩,
  ⟨0x4051, 0, 0, tU32, .rw, .num 400000, .rng 0 400000, 0⟩,
  ⟨0x4052, 0, 0, tU32, .ro, .num 283465, .any, 0⟩,
  ⟨0x4053, 0, 0, tU8, .ro, .num 0, .any, 0⟩,
  ⟨0x4060, 0, 0, tU8, .ro, .num 0, .any, 0⟩,
  ⟨0x4061, 0, 0, tU8, .staged, .num 0, .rng 1 3, 0⟩,
  ⟨0x4062, 1, 0x40, tOct, .staged, .bytes [], .lens [0, 32], 0xFC00 * 2 ^ 64 + 0xFF * 2 ^ 64 + (2 ^ 64 - 1)⟩,
  ⟨0x4063, 0, 0, tU16, .ro, .num 0, .any, 0⟩,
  ⟨0x4064, 0, 0, tU32, .ro, .num 0, .any, 0⟩,
  ⟨0x4065, 0, 0, tU32, .ro, .num 0, .any, 0⟩,
  ⟨0x4070, 0, 7, tLpos, .staged, .num 0, .any, 0⟩,
  ⟨0x4071, 0, 7, tLpos, .staged, .num 0, .any, 0⟩,
  ⟨0x4073, 0, 7, tU32, .staged, .num 1000, .rng 10 1000000, 0⟩,
  ⟨0x4074, 0, 7, tU16, .ro, .num 0, .any, 0⟩,
  ⟨0x4080, 0, 0, tU8, .ro, .num 0, .any, 0⟩,
  ⟨0x4081, 0, 0, tU32, .rw, .num 65536, .rng 1024 1048575, 0⟩,
  ⟨0x4082, 0, 0, tU16, .rw, .num 512, .rng 64 16384, 0⟩,
  ⟨0x4083, 0, 0, tU32, .rw, .num 1048575, .rng 1024 1048575, 0⟩,
  ⟨0x4084, 0, 0, tU16, .rw, .num 10000, .rng 100 60000, 0⟩,
  ⟨0x4085, 0, 0, tU16, .rw, .num 30000, .rng 1000 60000, 0⟩,
  ⟨0x4086, 0, 0, tU16, .rw, .num 30000, .rng 100 60000, 0⟩,
  ⟨0x4087, 0, 0, tU16, .rw, .num 10000, .rng 100 60000, 0⟩,
  ⟨0x4088, 0, 0, tU16, .rw, .num 256, .rng 64 512, 0⟩,
  ⟨0x4089, 0, 0, tU8, .rw, .num 3, .rng 1 16, 0⟩,
  ⟨0x408A, 0, 0, tBool, .wo, .num 0, .rng 0 1, 0⟩,
  ⟨0x408B, 0, 0, tU32, .ro, .num 0, .any, 0⟩,
  ⟨0x408C, 0, 0, tBool, .wo, .num 0, .rng 0 1, 0⟩,
  ⟨0x408D, 1, 8, tOct, .ro, .bytes [], .any, 0⟩]

def objStream : List Obj := [
  ⟨0x5000, 0, 0x3F, tU64, .rw, .num 0, .any, 0⟩,
  ⟨0x5001, 0, 0x3F, tU64, .rw, .num 0, .any, 0⟩,
  ⟨0x5002, 0, 0x3F, tU8, .rw, .num 0, .rng 0 15, 0⟩,
  ⟨0x5003, 0, 0x3F, tU32, .rw, .num 0, .rng 0 65472, 0⟩,
  ⟨0x5004, 0, 0x3F, tU32, .rw, .num 64, .rng 64 65536, 0⟩,
  ⟨0x5005, 0, 0x3F, tU8, .rw, .num 0, .rng 0 255, 0⟩,
  ⟨0x5006, 0, 0x3F, tBool, .rw, .num 0, .rng 0 1, 0⟩,
  ⟨0x5007, 0, 0x3F, tU32, .rw, .num 0, .rng 0 4294967295, 0xFFFFFC00⟩,
  ⟨0x5008, 0, 0x3F, tArr tU16, .ro, .arr [], .any, 0⟩,
  ⟨0x5009, 0, 0x3F, tU64, .ro, .num 0, .any, 0⟩,
  ⟨0x500A, 0, 0x3F, tU64, .ro, .num 0, .any, 0⟩,
  ⟨0x500B, 0, 0x3F, tU64, .ro, .num 0, .any, 0⟩,
  ⟨0x500C, 0, 0x3F, tU64, .wo, .num 0, .any, 0⟩,
  ⟨0x5010, 0, 0, tU16, .rw, .num 50, .rng 10 1000, 0⟩,
  ⟨0x5011, 0, 0, tU16, .rw, .num 20, .rng 2 1000, 0⟩,
  ⟨0x5012, 0, 0, tU16, .rw, .num 200, .rng 20 10000, 0⟩,
  ⟨0x5013, 0, 0, tU32, .rw, .num 512, .rng 0 65535, 0⟩,
  ⟨0x5014, 0, 0x3F, tU16, .ro, .num 0, .any, 0⟩,
  ⟨0x5040, 1, 0xF, tOct, .rw, .bytes [], .lens [16], 2 ^ 48 - 1⟩,
  ⟨0x5040, 0x10, 0x10, tOct, .ro, .bytes [], .any, 0⟩,
  ⟨0x5042, 0, 0, tU16, .staged, .num 4096, .mul 64 16384 64, 0⟩,
  ⟨0x5043, 0, 0, tU32, .ro, .num 0, .any, 0⟩,
  ⟨0x5044, 0, 0, tU16, .rw, .num 4000, .rng 1000 64000, 0⟩,
  ⟨0x5045, 0, 0, tU16, .rw, .num 600, .rng 100 10000, 0⟩,
  ⟨0x5048, 0, 0, tU8, .ro, .num 0, .any, 0⟩,
  ⟨0x5049, 0, 0, tI16, .ro, .num 0, .any, 0⟩,
  ⟨0x5050, 0, 0x1F, tArr tU64, .ro, .arr [], .any, 0⟩,
  ⟨0x5051, 0, 2, tArr tU64, .ro, .arr [], .any, 0⟩,
  ⟨0x5060, 0, 0, tU32, .staged, .num 4096, .rng 16 65536, 0⟩,
  ⟨0x5061, 1, 0x10, tU8, .staged, .num 8, .among [8, 10], 0⟩,
  ⟨0x5062, 0, 3, tU16, .ro, .num 0, .any, 0⟩,
  ⟨0x5063, 0, 0x17, tArr tU64, .ro, .arr [], .any, 0⟩,
  ⟨0x5064, 0, 0x3F, tArr tU32, .ro, .arr [], .any, 0⟩,
  ⟨0x5065, 0, 3, tU32, .ro, .num 0, .any, 0⟩,
  ⟨0x5066, 0, 3, tU32, .ro, .num 12000, .any, 0⟩,
  ⟨0x5067, 0, 0x3F, tU8, .ro, .num 0xFF, .any, 0⟩]

def objScreen : List Obj := [
  ⟨0x6000, 1, 0x10, tU8, .staged, .num 0, .rng 0 2, 0⟩,
  ⟨0x6001, 1, 0x10, tU8, .staged, .num 0, .among [0, 1, 2, 3, 7], 0xF8⟩,
  ⟨0x6002, 1, 0x10, tU8, .staged, .num 0, .rng 0 8, 0⟩,
  ⟨0x6003, 1, 0x10, tU16, .staged, .num 1024, .mul 512 4096 64, 0⟩,
  ⟨0x6004, 1, 0x10, tU8, .staged, .num 0, .rng 0 15, 0⟩,
  ⟨0x6005, 0, 0xF, tOct, .ro, .bytes [], .any, 0⟩,
  ⟨0x6006, 1, 0x10, tArr tU32, .staged, .arr defaultKernel, .upTo 12, 0xFFFCF000⟩,
  ⟨0x6007, 1, 0x10, tArr tU32, .staged, .arr (List.replicate 16 0x00FAC688),
    .elems (List.replicate 16 (0, 4294967295)), 0xFF000000⟩,
  ⟨0x6008, 0, 0x23, tOct, .ro, .bytes [], .any, 0⟩,
  ⟨0x6009, 1, 0x10, tU32, .ro, .num 0, .any, 0⟩,
  ⟨0x600A, 1, 0x10, tU8, .staged, .num 2, .rng 1 3, 0⟩,
  ⟨0x600B, 0, 0x23, tU16, .ro, .num 0, .any, 0⟩,
  ⟨0x600C, 0, 0x23, tArr tU64, .ro, .arr [], .any, 0⟩,
  ⟨0x600D, 0, 0, tU32, .ro, .num 400000, .any, 0⟩,
  ⟨0x6010, 0, 0, tU32, .rw, .num 0, .rng 0 524287, 0⟩,
  ⟨0x6012, 0, 0, tOct, .ro, .bytes [], .any, 0⟩,
  ⟨0x6013, 1, 0x40, tOct, .staged, .bytes [], .lens ((List.range 21).map (fun n => 52 + 48 * n)), 0⟩,
  ⟨0x6020, 1, 0x10, tU8, .staged, .num 32, .rng 8 128, 0⟩,
  ⟨0x6021, 1, 0x10, tArr tU8, .staged, .arr [64, 64, 0, 32, 32, 64], .elems (List.replicate 6 (0, 255)), 0⟩,
  ⟨0x6030, 0, 0x3F, tArr tU32, .ro, .arr [], .any, 0⟩,
  ⟨0x6031, 0, 0, tU32, .ro, .num 0, .any, 0⟩,
  ⟨0x6032, 0, 0, tU32, .ro, .num 0, .any, 0⟩,
  ⟨0x6033, 0, 0, tU16, .rw, .num 600, .rng 60 3600, 0⟩,
  ⟨0x6034, 0, 0x3F, tOct, .ro, .bytes [], .any, 0⟩,
  ⟨0x6040, 0, 0, tU8, .rw, .num 0, .rng 0 2, 0⟩,
  ⟨0x6041, 0, 0, tU8, .rw, .num 7, .rng 0 255, 0xF8⟩,
  ⟨0x6042, 0, 0, tU16, .staged, .num 96, .rng 32 1024, 0⟩,
  ⟨0x6043, 0, 0, tU8, .staged, .num 8, .rng 8 32, 0⟩,
  ⟨0x6044, 0, 0, tU16, .staged, .num 48, .rng 32 256, 0⟩,
  ⟨0x6045, 0, 0, tU16, .staged, .num 72, .rng 72 512, 0⟩,
  ⟨0x6046, 0, 0, tU8, .staged, .num 2, .rng 1 16, 0⟩,
  ⟨0x6047, 0, 0, tU32, .ro, .num 0, .any, 0⟩,
  ⟨0x6048, 0, 0, tU16, .rw, .num 16384, .rng 0 65534, 0⟩,
  ⟨0x6049, 0, 0, tU16, .rw, .num 49152, .rng 0 65535, 0⟩,
  ⟨0x604A, 0, 0, tU16, .rw, .num 6554, .rng 0 32768, 0⟩,
  ⟨0x604B, 0, 0, tU8, .rw, .num 128, .rng 1 255, 0⟩,
  ⟨0x604C, 0, 0, tU16, .rw, .num 163, .rng 1 163, 0⟩,
  ⟨0x604D, 0, 0, tU16, .rw, .num 409, .rng 0 1024, 0⟩,
  ⟨0x604E, 0, 0, tU16, .rw, .num 205, .rng 16 1024, 0⟩,
  ⟨0x604F, 0, 0, tU8, .rw, .num 0, .rng 0 15, 0⟩,
  ⟨0x6050, 0, 0, tU8, .rw, .num 192, .rng 1 255, 0⟩,
  ⟨0x6051, 0, 0, tU8, .rw, .num 8, .rng 0 64, 0⟩,
  ⟨0x6052, 0, 0, tU8, .rw, .num 64, .rng 1 128, 0⟩,
  ⟨0x6053, 0, 0, tU64, .rw, .num 0, .rng 0 18446744073709551615, 0⟩,
  ⟨0x6054, 0, 0, tOct, .ro, .bytes [], .any, 0⟩,
  ⟨0x6055, 0, 0x7F, tOct, .ro, .bytes [], .any, 0⟩]

def objHead : List Obj := [
  ⟨0x7000, 0, 0x3F, tU8, .staged, .num 0xFF, .among [0, 1, 2, 3, 4, 5, 6, 7, 8, 9, 10, 11, 12, 13, 14, 15, 255], 0⟩,
  ⟨0x7001, 0, 0x3F, tU16, .staged, .num 8192, .mul 64 8192 64, 0⟩,
  ⟨0x7002, 0, 0x3F, tU8, .staged, .num 1, .rng 1 2, 0⟩,
  ⟨0x7003, 0, 0x3F, tLpos, .staged, .num 0, .lpos 0 1048575, 0⟩,
  ⟨0x7004, 0, 0x3F, tU8, .staged, .num 1, .rng 1 4, 0⟩,
  ⟨0x7005, 0, 0x3F, tU8, .staged, .num 0, .rng 0 3, 0⟩,
  ⟨0x7006, 0, 0x3F, tI32, .staged, .num 0, .rng 0 30000000, 0⟩,
  ⟨0x7007, 0, 0x3F, tLpos, .staged, .num 0, .lpos (-1048576) 1048575, 0⟩,
  ⟨0x7008, 0, 0x3F, tU8, .staged, .num 0, .rng 0 15, 0⟩,
  ⟨0x7009, 0, 0x3F, tU8, .staged, .num 1, .rng 0 15, 0⟩,
  ⟨0x700A, 0, 0x3F, tI16, .rw, .num 550, .rng (-200) 1500, 0⟩,
  ⟨0x700B, 0, 0x3F, tI16, .rw, .num 650, .rng (-200) 1500, 0⟩,
  ⟨0x700C, 0, 0x3F, tU16, .rw, .num 20, .rng 5 200, 0⟩,
  ⟨0x700D, 0, 0x3F, tU16, .rw, .num 1000, .rng 100 60000, 0⟩,
  ⟨0x700E, 0, 0x3F, tU16, .rw, .num 10, .rng 2 1000, 0⟩,
  ⟨0x7010, 0, 0x3F, tI16, .ro, .num 0, .any, 0⟩,
  ⟨0x7011, 0, 0x3F, tU8, .ro, .num 0, .any, 0⟩,
  ⟨0x7012, 0, 0x3F, tU32, .ro, .num 0, .any, 0⟩,
  ⟨0x7013, 0, 0x3F, tU32, .ro, .num 0, .any, 0⟩,
  ⟨0x7014, 0, 0x3F, tU32, .ro, .num 0, .any, 0⟩,
  ⟨0x7015, 0, 0x3F, tI16, .ro, .num 0, .any, 0⟩,
  ⟨0x7016, 0, 0x3F, tArr tI16, .staged, .arr [0, 0], .elems [(-1024, 1024), (-1024, 1024)], 0⟩,
  ⟨0x7020, 1, 0x10, tU16, .staged, .num 1200, .rng 150 4800, 0⟩,
  ⟨0x7030, 1, 1, tU8, .rw, .num 0, .rng 0 2, 0⟩,
  ⟨0x7030, 2, 3, tU8, .rw, .num 0, .among [0, 2], 0⟩,
  ⟨0x7031, 0, 0, tU8, .rw, .num 75, .rng 10 95, 0⟩,
  ⟨0x7032, 0, 0, tU16, .rw, .num 10, .rng 1 600, 0⟩,
  ⟨0x7033, 1, 0x40, tOct, .ro, .bytes [], .any, 0⟩,
  ⟨0x7034, 0, 0x3F, tU32, .ro, .num 0, .any, 0⟩,
  ⟨0x7035, 0, 0, tBool, .wo, .num 0, .rng 0 1, 0⟩,
  ⟨0x7036, 0, 0, tU32, .ro, .num 0, .any, 0⟩,
  ⟨0x7040, 0, 0x3F, tU8, .ro, .num 0, .any, 0⟩,
  ⟨0x7041, 0, 0x3F, tU8, .rw, .num 0, .rng 0 2, 0⟩,
  ⟨0x7042, 0, 0x3F, tBool, .rw, .num 1, .rng 0 1, 0⟩,
  ⟨0x7043, 0, 0x3F, tBool, .rw, .num 1, .rng 0 1, 0⟩,
  ⟨0x7044, 0, 0x3F, tArr tU32, .ro, .arr [], .any, 0⟩,
  ⟨0x7045, 0, 0x3F, tU32, .ro, .num 0, .any, 0⟩,
  ⟨0x7046, 0, 0x3F, tU32, .ro, .num 0, .any, 0⟩,
  ⟨0x7047, 0, 0x3F, tArr tU16, .ro, .arr [], .any, 0⟩,
  ⟨0x7048, 0, 0x3F, tArr tU64, .ro, .arr [], .any, 0⟩,
  ⟨0x7049, 0, 0x3F, tU8, .rw, .num 0, .rng 0 2, 0⟩,
  ⟨0x704A, 0, 0x3F, tU32, .ro, .num 0, .any, 0⟩,
  ⟨0x7050, 0, 0, tU8, .rw, .num 3, .rng 1 8, 0⟩,
  ⟨0x7051, 0, 0, tU16, .rw, .num 32, .rng 1 65535, 0⟩,
  ⟨0x7052, 0, 0, tArr tU16, .rw, .arr [19, 40], .elems [(1, 63), (1, 500)], 0⟩]

/-- R394 to R426. The field map of 8000h gives LANES the reset 10b and the object table gives the word 0000_0000h: the model takes the
object table's (DESIGN CHOICE, assumption log 77). -/
def objInsp : List Obj := [
  ⟨0x8000, 0, 3, tU32, .staged, .num 0, .any, 0xFF0000C2⟩,
  ⟨0x8001, 0, 3, tU16, .staged, .num 4096, .rng 64 8192, 0⟩,
  ⟨0x8002, 0, 3, tU32, .staged, .num 65536, .rng 65536 4194304, 0⟩,
  ⟨0x8003, 0, 3, tLpos, .staged, .num 0, .any, 0⟩,
  ⟨0x8004, 0, 3, tU32, .staged, .num 100000, .rng 1000 10000000, 0⟩,
  ⟨0x8005, 0, 3, tU32, .staged, .num 0, .rng 0 100000, 0⟩,
  ⟨0x8006, 0, 0, tU8, .staged, .num 0, .among [0, 1, 2, 3, 255], 0⟩,
  ⟨0x8006, 1, 1, tBool, .rw, .num 0, .rng 0 1, 0⟩,
  ⟨0x8007, 0, 3, tU32, .staged, .num 10000, .rng 1000 1000000, 0⟩,
  ⟨0x8010, 0, 0xF, tOct, .staged, .bytes defaultSensor, .lens [16], 0x7F * 2 ^ 112 + 0xFFFFFF * 2 ^ 64⟩,
  ⟨0x8011, 0, 0xF, tOct, .staged, .bytes [], .lens ((List.range 17).map (· * 8)), 0⟩,
  ⟨0x8012, 0, 0xF, tU32, .ro, .num 0, .any, 0⟩,
  ⟨0x8013, 0, 0xF, tI32, .ro, .num 0, .any, 0⟩,
  ⟨0x8020, 1, 0x10, tArr tI16, .staged, .arr [0, 0, 0, 0], .elems (List.replicate 4 (-32768, 32767)), 0⟩,
  ⟨0x8030, 0, 3, tU8, .rw, .num 1, .rng 0 2, 0⟩,
  ⟨0x8040, 1, 0x40, tOct, .ro, .bytes [], .any, 0⟩,
  ⟨0x8041, 0, 0x3F, tArr tU32, .ro, .arr [], .any, 0⟩,
  ⟨0x8044, 0, 3, tArr tU64, .ro, .arr [], .any, 0⟩,
  ⟨0x8045, 0, 0, tU16, .ro, .num 0, .any, 0⟩,
  ⟨0x8046, 0, 0, tU32, .ro, .num 0, .any, 0⟩,
  ⟨0x8047, 0, 0, tU32, .ro, .num 0, .any, 0⟩,
  ⟨0x8048, 0, 0, tU32, .ro, .num 0, .any, 0⟩,
  ⟨0x8050, 1, 8, tOct, .staged, .bytes [], .lens [0, 16], 2 ^ 48 - 1⟩,
  ⟨0x8060, 1, 8, tOct, .staged, .bytes [], .lens [0, 16], 2 ^ 16 - 1⟩]

def objTime : List Obj := [
  ⟨0x9000, 0, 0, tU8, .rw, .num 1, .rng 0 3, 0⟩,
  ⟨0x9001, 0, 0, tU8, .rw, .num 0, .rng 0 127, 0⟩,
  ⟨0x9002, 0, 0, tArr tU8, .rw, .arr [128, 128], .elems [(0, 255), (0, 255)], 0⟩,
  ⟨0x9003, 0, 0, tBool, .rw, .num 1, .rng 0 1, 0⟩,
  ⟨0x9004, 0, 2, tBool, .rw, .num 1, .rng 0 1, 0⟩,
  ⟨0x9005, 0, 0, tArr tI8, .rw, .arr [1, -3, -3, 3], .elems [(-3, 4), (-7, 1), (-7, 5), (2, 10)], 0⟩,
  ⟨0x9006, 0, 0, tU8, .rw, .num 1, .rng 0 2, 0⟩,
  ⟨0x9007, 0, 2, tArr tI32, .rw, .arr [0, 0], .elems [(-1000000, 1000000), (-1000000, 1000000)], 0⟩,
  ⟨0x9008, 0, 2, tI32, .rw, .num 0, .rng (-1000000) 1000000, 0⟩,
  ⟨0x9010, 0, 0, tU8, .ro, .num 0, .any, 0⟩,
  ⟨0x9011, 0, 0, tI64, .ro, .num 0, .any, 0⟩,
  ⟨0x9012, 0, 0, tI32, .ro, .num 0, .any, 0⟩,
  ⟨0x9013, 0, 0, tU32, .ro, .num 0, .any, 0⟩,
  ⟨0x9014, 0, 0, tOct, .ro, .bytes [], .any, 0⟩,
  ⟨0x9015, 0, 2, tU8, .ro, .num 1, .any, 0⟩,
  ⟨0x9016, 0, 0, tU32, .rw, .num 10000, .rng 50 1000000000, 0⟩,
  ⟨0x9017, 0, 0, tU32, .rw, .num 1000, .rng 50 1000000000, 0⟩,
  ⟨0x9018, 0, 0, tU32, .rw, .num 100, .rng 10 100000, 0⟩,
  ⟨0x9019, 0, 0, tI64, .ro, .num 0, .any, 0⟩,
  ⟨0x901A, 0, 0, tTime, .ro, .num 0, .any, 0⟩,
  ⟨0x9020, 0, 2, tOct, .ro, .bytes [], .any, 0⟩,
  ⟨0x9021, 0, 2, tU8, .wo, .num 0, .rng 1 64, 0⟩,
  ⟨0x9022, 0, 2, tU8, .rw, .num 0, .rng 0 255, 0xFE⟩,
  ⟨0x9023, 0, 2, tU16, .ro, .num 0, .any, 0⟩,
  ⟨0x9024, 0, 2, tU8, .ro, .num 0, .any, 0⟩,
  ⟨0x9030, 0, 0, tArr tU64, .ro, .arr [], .any, 0⟩,
  ⟨0x9040, 0, 7, tU16, .staged, .num 0, .among [0, 1, 2, 4, 5, 6], 0xFFF8⟩,
  ⟨0x9041, 0, 7, tTime, .staged, .num 0, .rng 0 18446744073709551615, 0⟩,
  ⟨0x9042, 0, 7, tU32, .staged, .num 0, .zeroOr 10 1000000000, 0⟩,
  ⟨0x9050, 0, 3, tU16, .rw, .num 0x0F00, .rng 0 65535, 0x00F8⟩,
  ⟨0x9051, 0, 3, tOct, .ro, .bytes [], .any, 0⟩,
  ⟨0x9052, 0, 3, tU8, .wo, .num 0, .rng 1 64, 0⟩,
  ⟨0x9053, 0, 3, tU8, .rw, .num 0, .rng 0 255, 0xFE⟩,
  ⟨0x9054, 0, 3, tU16, .ro, .num 0, .any, 0⟩,
  ⟨0x9060, 0, 0, tU32, .ro, .num 0, .any, 0⟩,
  ⟨0x9061, 0, 0, tU32, .ro, .num 0, .any, 0⟩,
  ⟨0x9062, 0, 0, tU8, .ro, .num 0, .any, 0⟩,
  ⟨0x9063, 0, 0, tU32, .ro, .num 0, .any, 0⟩,
  ⟨0x9070, 1, 0x10, tOct, .ro, .bytes [], .any, 0⟩,
  ⟨0x9071, 0, 0, tU32, .rw, .num 1000, .rng 100 60000, 0⟩]

def objPair : List Obj := [
  ⟨0xA000, 0, 0, tU8, .rw, .num 0, .rng 0 1, 0⟩,
  ⟨0xA001, 0, 0, tU8, .ro, .num 0, .any, 0⟩,
  ⟨0xA002, 0, 0, tOct, .ro, .bytes [], .any, 0⟩,
  ⟨0xA003, 0, 0, tU64, .ro, .num 0, .any, 0⟩,
  ⟨0xA004, 0, 0, tU8, .rw, .num 128, .rng 0 255, 0⟩,
  ⟨0xA005, 0, 0, tU16, .ro, .num 0, .any, 0⟩,
  ⟨0xA006, 0, 0, tArr tU8, .ro, .arr [], .any, 0⟩,
  ⟨0xA007, 0, 0, tU32, .ro, .num 0, .any, 0⟩,
  ⟨0xA008, 0, 0, tI32, .ro, .num 0, .any, 0⟩,
  ⟨0xA009, 0, 0, tI64, .ro, .num 0, .any, 0⟩,
  ⟨0xA00A, 0, 0, tArr tU32, .ro, .arr [], .any, 0⟩,
  ⟨0xA00B, 0, 0x3F, tU8, .ro, .num 0, .any, 0⟩,
  ⟨0xA00C, 0, 0, tU32, .ro, .num 0, .any, 0⟩,
  ⟨0xA00D, 0, 0, tU8, .ro, .num 0, .any, 0⟩,
  ⟨0xA00F, 0, 0, tU32, .ro, .num 0, .any, 0⟩,
  ⟨0xA010, 0, 0, tU16, .rw, .num 2000, .rng 100 60000, 0⟩]

def objFault : List Obj := [
  ⟨0xB001, 1, 6, tOct, .ro, .bytes [], .any, 0⟩,
  ⟨0xB004, 0, 0, tU32, .ro, .num 0, .any, 0⟩,
  ⟨0xB010, 0, 0, tU32, .rw, .num 5000, .rng 1000 600000, 0⟩,
  ⟨0xB011, 1, 2, tU32, .ro, .num 0, .any, 0⟩,
  ⟨0xB012, 1, 2, tU32, .ro, .num 0, .any, 0⟩,
  ⟨0xB013, 0, 0, tBool, .rw, .num 1, .rng 0 1, 0⟩,
  ⟨0xB014, 0, 0, tU32, .rw, .num 100, .rng 10 10000, 0⟩,
  ⟨0xB020, 0, 0xFF, tOct, .ro, .bytes [], .any, 0⟩,
  ⟨0xB021, 0, 0, tBool, .wo, .num 0, .rng 0 1, 0⟩,
  ⟨0xB022, 0, 0, tU32, .ro, .num 0, .any, 0⟩,
  ⟨0xB030, 0, 4, tU64, .ro, .num 0, .any, 0⟩,
  ⟨0xB031, 0, 4, tU64, .ro, .num 0, .any, 0⟩,
  ⟨0xB032, 0, 0, tU8, .ro, .num 0, .any, 0⟩,
  ⟨0xB040, 0, 0, tU16, .ro, .num 0, .any, 0⟩,
  ⟨0xB041, 1, 8, tOct, .ro, .bytes [], .any, 0⟩,
  ⟨0xB042, 0, 0, tBool, .rw, .num 1, .rng 0 1, 0⟩,
  ⟨0xB050, 1, 0x20, tOct, .ro, .bytes [], .any, 0⟩,
  ⟨0xB051, 0, 0, tU8, .ro, .num 0, .any, 0⟩,
  ⟨0xB052, 0, 0, tArr tU32, .ro, .arr [], .any, 0⟩,
  ⟨0xB053, 0, 0, tU16, .rw, .num 0, .rng 0 65535, 0xF000⟩,
  ⟨0xB054, 0, 0, tArr tI16, .ro, .arr [], .any, 0⟩,
  ⟨0xB055, 1, 0xC, tU16, .ro, .num 0, .any, 0⟩,
  ⟨0xB060, 0, 0, tU32, .ro, .num 0, .any, 0⟩,
  ⟨0xB061, 1, 3, tArr tU32, .ro, .arr [], .any, 0⟩,
  ⟨0xB062, 0, 0, tArr tU32, .ro, .arr [], .any, 0⟩,
  ⟨0xB063, 0, 0, tArr tU16, .ro, .arr [], .any, 0⟩,
  ⟨0xB064, 0, 6, tArr tU64, .ro, .arr [], .any, 0⟩,
  ⟨0xB065, 0, 0x4C, tU32, .ro, .num 0, .any, 0⟩,
  ⟨0xB066, 0, 3, tArr tU32, .ro, .arr [], .any, 0⟩,
  ⟨0xB067, 0, 0x3F, tU64, .ro, .num 0, .any, 0⟩,
  ⟨0xB068, 0, 0, tU64, .ro, .num 0, .any, 0⟩,
  ⟨0xB069, 0, 0, tArr tU32, .ro, .arr [], .any, 0⟩,
  ⟨0xB06A, 0, 0, tArr tU32, .ro, .arr [], .any, 0⟩,
  ⟨0xC001, 0, 0xFF, tOct, .ro, .bytes [], .any, 0⟩,
  ⟨0xC010, 0, 0, tU32, .ro, .num 1152, .any, 0⟩,
  ⟨0xC011, 0, 0, tU32, .ro, .num 0, .any, 0⟩,
  ⟨0xC012, 1, 0x10, tOct, .ro, .bytes [], .any, 0⟩,
  ⟨0xD000, 1, 8, tOct, .ro, .bytes [], .any, 0⟩,
  ⟨0xE000, 0, 0, tU16, .rw, .num 0, .rng 0 65535, 0xFFF0⟩,
  ⟨0xE001, 1, 4, tU16, .ro, .num 0, .any, 0⟩,
  ⟨0xE002, 1, 2, tOct, .ro, .bytes [], .any, 0⟩,
  ⟨0xE010, 0, 0x4C, tArr tU16, .ro, .arr [], .any, 0⟩,
  ⟨0xE020, 0, 0x1F, tArr tU16, .ro, .arr [], .any, 0⟩,
  ⟨0xE030, 0, 3, tArr tU8, .ro, .arr [], .any, 0⟩,
  ⟨0xE031, 0, 0, tArr tU8, .ro, .arr [], .any, 0⟩,
  ⟨0xE040, 0, 0, tArr tU16, .rw, .arr [16, 40, 24], .elems [(1, 63), (1, 500), (1, 64)], 0⟩]

/-- The indices of the commands (R590). -/
def commandIndices : List Nat :=
  [0xC030, 0xC031, 0xC032, 0xC033, 0xC034, 0xC035, 0xC040, 0xC050, 0xC051, 0xC052, 0xC053, 0xC054, 0xC060, 0xC061,
   0xC070, 0xC071, 0xC072, 0xC073, 0xC080, 0xC081, 0xC082, 0xC083, 0xC090, 0xC091, 0xC092, 0xC0A0, 0xC0B0, 0xC0B1,
   0xC0B2, 0xC0C0]

def objCommand : List Obj := commandIndices.map (fun i => ⟨i, 0, 0, 0, .cmd, .num 0, .any, 0⟩)

/-- The chapter tables that hold the objects of an index, by area (R588). -/
def objArea (idx : Nat) : List Obj :=
  if idx < 0x2000 then objIdentity
  else if idx < 0x3000 then objCompat
  else if idx < 0x4000 then objPower
  else if idx < 0x4040 then objAxis
  else if idx < 0x5000 then objLine
  else if idx < 0x6000 then objStream
  else if idx < 0x7000 then objScreen
  else if idx < 0x8000 then objHead
  else if idx < 0x9000 then objInsp
  else if idx < 0xA000 then objTime
  else if idx < 0xB000 then objPair
  else if 0xC030 ≤ idx ∧ idx < 0xC100 then objCommand
  else objFault

/-- The runs of subindices of one index; empty for an index with no object (R589). -/
def objRuns (idx : Nat) : List Obj := (objArea idx).filter (fun o => o.idx = idx)

/-- The object at an index and subindex. -/
def objAt (idx sub : Nat) : Option Obj := (objRuns idx).find? (fun o => o.lo ≤ sub ∧ sub ≤ o.hi)

/-- R164: a default link-local address from the port's MAC address (EUI-64 form is not stated: a free value of it). -/
def defaultIpv6 (port : Nat) : List Byte := natBytes 16 (Config.freeOf 1023 [Config.serial.toNat, port]).toNat

/-- R171: the default partition entries. -/
def defaultPartition (sub : Nat) : Partition :=
  match sub with
  | 1 => ⟨0, 40960, 1, 0⟩
  | 2 => ⟨40960, 1536, 2, 0⟩
  | 3 => ⟨42496, 64, 3, 0⟩
  | 4 => ⟨42560, 4096, 4, 0⟩
  | 16 => ⟨46656, 2496, 5, 0⟩
  | _ => ⟨0, 0, 0, 0⟩

/-- The default of an object, those that differ by subindex and derive from the identity included (R45, R164). -/
def dfltVal (idx sub : Nat) : Val :=
  if idx = 0x1020 then .bytes (defaultMac sub)
  else if idx = 0x1023 then .bytes (defaultIpv6 sub)
  else if idx = 0x5040 then .bytes (partBytes (defaultPartition sub))
  else match objAt idx sub with
    | some o => o.dflt
    | none => .num 0

/-- R590: the least role that reads an object; 0 observer, 2 integrator, 3 service. -/
def readRole (idx : Nat) : Nat :=
  if 0xF000 ≤ idx then 3 else if idx = 0x1030 then 2 else 0

/-- R590: the indices that the operator may write. -/
def operatorWrites : List Nat :=
  [0x1012, 0x3020, 0x4004, 0x5007, 0x9022, 0x9053, 0xB053, 0xE000, 0x4003, 0x4025, 0x4035, 0x4037, 0x4051, 0x4061,
   0x4062, 0x4070, 0x4071, 0x4073, 0x408A, 0x408C, 0x6040, 0x7035, 0x8050, 0x8060, 0x9052]

/-- R590: the least role that writes or stages an object; 1 operator, 2 integrator, 3 service. -/
def writeRole (idx : Nat) : Nat :=
  if 0xF000 ≤ idx then 3 else if operatorWrites.contains idx then 1 else 2

/-- R602: the target index of an alias that is written or staged. -/
def aliasTarget (idx : Nat) : Nat :=
  if idx = 0x2001 then 0x9000
  else if idx = 0x2004 then 0x4010
  else if idx = 0x2010 then 0x7007
  else if idx = 0x2020 then 0x4061
  else idx

/-- R602: the value that a write of an alias sets at its target; none where it has no translation (0303h). -/
def aliasWrite (idx : Nat) (v : Val) : Option Val :=
  match idx, v with
  | 0x2001, .num 0 => some (.num 1)
  | 0x2001, .num 1 => some (.num 3)
  | 0x2001, _ => none
  | 0x2004, .num g => if g = 0 then none else some (.num (g * 65536))
  | 0x2010, .num x => if -268435456 ≤ x ∧ x ≤ 268435455 then some (.num (x * 256)) else none
  | 0x2020, .num x => if 1 ≤ x ∧ x ≤ 3 then some (.num x) else none
  | _, w => some w

/-- R602: what a read of an alias of a staged or RW object gives for its target's value. -/
def aliasRead (idx : Nat) (v : Val) : Val :=
  match idx, v with
  | 0x2001, .num 1 => .num 0
  | 0x2001, .num 3 => .num 1
  | 0x2001, _ => .num 255
  | 0x2004, .num g => .num (g / 65536 % 4294967296)
  | 0x2010, .num x => .num (x / 256)
  | _, w => w

end Sys2Proof.Machine
end

