-- ==== Sys2Proof/Machine/Operands.lean ====
section
/-! DEFINITION. Operands: the value that an entry carries, and the value of a configuration object: RW values (R52), and the value of a staged object that governs a
line (R63, R64) or is pending (R65). -/

namespace Sys2Proof.Machine

/-- The number that a value holds. -/
def Val.int : Val → Int
  | .num v => v
  | _ => 0

def Val.oct : Val → List Byte
  | .bytes b => b
  | _ => []

def Val.elems : Val → List Int
  | .arr a => a
  | _ => []

/-- Key of an object in the configuration table. -/
def key (idx sub : Nat) : Nat := idx * 256 + sub

/-- Value and generation of an object before any commit: as written, restored or default (R51, R65). -/
def baseVal (s : State) (idx sub : Nat) : Val × BitVec 32 :=
  match tget none s.proto.cfg (key idx sub) with
  | some c => (c.val, c.gen)
  | none => (dfltVal idx sub, 0)

/-- What the last entry of a list of writes says about an object (R60: the value staged last governs). -/
def writeOf (ws : List ObjWrite) (idx sub : Nat) : Option Val :=
  ws.foldl (fun acc w => if w.idx = idx ∧ w.sub = sub then some w.val else acc) none

/-- Commits apply in generation order; the higher generation's value stands (R64). -/
def applyCommits (cs : List Commit) (idx sub : Nat) (v : Val × BitVec 32) : Val × BitVec 32 :=
  cs.foldl (fun acc c => match writeOf c.writes idx sub with | some w => (w, c.gen) | none => acc) v

/-- The commits that govern line `L` (R63: by line number). -/
def commitsAt (s : State) (L : Int) : List Commit := s.proto.commits.filter (fun c => c.line ≤ L)

/-- Value and generation of an object at line `L` (R63, R64). -/
def govVal (s : State) (L : Int) (idx sub : Nat) : Val × BitVec 32 :=
  applyCommits (commitsAt s L) idx sub (baseVal s idx sub)

/-- Value and generation of an object in the highest accepted generation (R65 PENDING). -/
def pendVal (s : State) (idx sub : Nat) : Val × BitVec 32 :=
  applyCommits s.proto.commits idx sub (baseVal s idx sub)

/-- An RW object's number. -/
def cfg (s : State) (idx sub : Nat) : Int := Val.int (baseVal s idx sub).1

/-- An RW object's number, as a natural number. -/
def cfgN (s : State) (idx sub : Nat) : Nat := (cfg s idx sub).toNat

/-- An element of an RW array object. -/
def cfgElem (s : State) (idx sub i : Nat) : Int := (Val.elems (baseVal s idx sub).1).getD i 0

/-- A staged object's number at line `L`. -/
def at' (s : State) (L : Int) (idx sub : Nat) : Int := Val.int (govVal s L idx sub).1

/-- A staged object's number at line `L`, as a natural number. -/
def atN (s : State) (L : Int) (idx sub : Nat) : Nat := (at' s L idx sub).toNat

/-- The commits not yet passed (R64). -/
def pendingCommits (s : State) : List Commit := s.proto.commits.filter (fun c => !c.passed)

/-- Set the value of an RW object, or restore one, with the generation it carries (R65). -/
def setCfg (s : State) (idx sub : Nat) (v : Val) (gen : BitVec 32) : State :=
  { s with proto := { s.proto with cfg := tput none s.proto.cfg (key idx sub) (some ⟨v, gen⟩) } }

/-- R45: the device's own node address: a change of `Comm.NodeAddress` takes effect at the next cold start. -/
def ownNode (s : State) : BitVec 16 := BitVec.ofNat 16 (s.start.node.getD (Config.serial.toNat % 65536))

/-- A bit field of a number. -/
def bits (v : Int) (lo n : Nat) : Nat := (v / (2 ^ lo : Nat) % (2 ^ n : Nat)).toNat

/-- One bit of a number. -/
def bitOn (v : Int) (b : Nat) : Bool := bits v b 1 = 1

end Sys2Proof.Machine
end

