-- ==== Sys2Proof/Machine/Position.lean ====
section
/-! DEFINITION. Web position: the interpolated count, LPOS, speed, the high-water mark and P (R92, R95, R96, R120). -/

namespace Sys2Proof.Machine

/-- The 48-bit counter as a signed number (R81). -/
def countOf (c : EncChan) : Int := c.count.toInt

/-- The difference of two counts modulo the counter's wrap (R81, R92). -/
def countDiff (a b : Int) : Int := (BitVec.ofInt 48 (a - b)).toInt

/-- R95: travel since the last latched pair at elapsed time `t`, in 2^-32 line: velocity of the last two pairs times the
time passed, never beyond one count (the product is formed exactly and floored, R92). -/
def extrapolate (last prev : Option EdgePair) (gear : Nat) (t : Nat) : Int :=
  match last, prev with
  | some k, some k1 =>
    let dc := countDiff k.c k1.c
    let dt : Int := k.t - k1.t
    if dt ≤ 0 then 0 else
      let x := dc * (t - k.t : Int) * gear / dt
      if 0 < dc then min x gear else if dc < 0 then max x (-(gear : Int)) else 0
  | _, _ => 0

/-- The encoder channel that drives LPOS. -/
def srcChan (s : State) : EncChan := s.chan s.axis.source

def slotOfImage (s : State) (k : Nat) : Slot := s.start.slots.getD k {}

/-- R1, R530: `Identity.FirmwareRelease`: RELEASE of the booted image's header. Where the slot holds no header the model takes release 3.1, of
the 3.x releases that R1 allows, with this device's build number (DESIGN CHOICE, assumption log 9). -/
def firmwareRelease (s : State) : BitVec 32 :=
  let h := (slotOfImage s s.start.bootSlot).header
  if h.length < 8 then BitVec.ofNat 32 (0x03010000 + Config.build.toNat) else BitVec.ofNat 32 (beNat ((h.drop 4).take 4))

/-- Status flags of an encoder channel (R85). -/
abbrev encWireA : Nat := 0
abbrev encWireB : Nat := 1
abbrev encWireZ : Nat := 2
abbrev encPolarity : Nat := 3
abbrev encIllegal : Nat := 4
abbrev encFaulty : Nat := 5
abbrev encIndexOffset : Nat := 6
abbrev encReverse : Nat := 7
abbrev encOverspeed : Nat := 8

/-- The channel has been declared faulty (R85 FAULTY, R100). -/
def EncChan.faulty (c : EncChan) : Bool := c.status.word.getLsbD encFaulty

/-- The channel counts (R84 ENABLE). -/
def encEnabled (s : State) (ch : Nat) : Bool := bitOn (cfg s 0x4020 ch) 0

/-- Position of a channel at elapsed time `t` (R92, R95, R96, R101), in 2^-32 line. -/
def chanPos (c : EncChan) (t : Nat) : Int :=
  if c.faulty then
    match c.goodLast with
    | some k => c.base.p0 + countDiff k.c c.base.c0 * c.gear + extrapolate c.goodLast c.goodPrev c.gear t
    | none => c.base.p0 + countDiff (countOf c) c.base.c0 * c.gear
  else
    c.base.p0 + countDiff (countOf c) c.base.c0 * c.gear +
      (if 2 ≤ c.sinceStop then extrapolate c.last c.prev c.gear t else 0)

/-- LPOS at elapsed time `t` (R92). -/
def lposAt (s : State) (t : Nat) : Int := chanPos (s.chan s.axis.source) t

/-- LPOS now. -/
def lpos (s : State) : Int := lposAt s s.time.now

/-- P of R62: the greater of LPOS and the high-water mark, and of W_old from a re-arm until LPOS regains it (R385). -/
def pPos (s : State) : Int := max (max (lpos s) s.gait.w) (s.rein.wOld.getD s.gait.w)

/-- The line at the datum (R65). -/
def datumLine (s : State) : Int := lineOf (lpos s)

/-- The generation that governs a line: that of the highest accepted commit whose line it has reached (R63, R65). -/
def genAt (s : State) (L : Int) : BitVec 32 :=
  (commitsAt s L).foldl (fun _ c => c.gen) 0

/-- C011h Cmd.Generation (R65). -/
def datumGen (s : State) : BitVec 32 := genAt s (datumLine s)

/-- R96: Axis.Speed as a ratio of lines to seconds: numerator in lines × 2^32 × 10^12 over ps. -/
def speedNum (s : State) : Int :=
  if s.axis.stopped then 0
  else (s.chan s.axis.source).intervals.foldl (fun a i => a + i.1) 0 * (s.chan s.axis.source).gear * 1000000000000

/-- R96: its denominator, in ps × 2^32. -/
def speedDen (s : State) : Nat :=
  (s.chan s.axis.source).intervals.foldl (fun a i => a + i.2) 0 * 4294967296

/-- The whole lines per second of the axis, floored. -/
def speedLines (s : State) : Int := if speedDen s = 0 then 0 else speedNum s / (speedDen s : Int)

/-- R51: the binary32 pattern of `n / d`, without its sign: the significand's unit is 2^u; what it cannot hold is rounded either way. A value
beyond the format is infinite. -/
def f32Bits (n d : Nat) : Nat :=
  if n = 0 ∨ d = 0 then 0
  else
    let e0 : Int := (Nat.log2 n : Int) - Nat.log2 d
    let below := fun (e : Int) => decide (n * 2 ^ (-e).toNat < d * 2 ^ e.toNat)
    let e := max (if below e0 then e0 - 1 else e0) (-126)
    let u := e - 23
    let num := n * 2 ^ (-u).toNat
    let den := d * 2 ^ u.toNat
    let q := num / den + (if num % den ≠ 0 ∧ Config.roundUp n d then 1 else 0)
    min ((e + 126).toNat * 2 ^ 23 + q) 0x7F800000

/-- R51: a binary32 pattern of `num / den`. -/
def f32Of (num : Int) (den : Nat) : BitVec 32 := BitVec.ofNat 32 ((if num < 0 then 2 ^ 31 else 0) + f32Bits num.natAbs den)

/-- 4032h Axis.Speed in its F32 pattern (R96). -/
def speedF32 (s : State) : BitVec 32 :=
  if s.axis.stopped ∨ speedDen s = 0 then 0 else f32Of (speedNum s) (speedDen s)

/-- The root of `n`, floored: bits `k - 1` down to 0 added to `q`. -/
def rootBits (n : Nat) : Nat → Nat → Nat
  | 0, q => q
  | k + 1, q => rootBits n k (if (q + 2 ^ k) * (q + 2 ^ k) ≤ n then q + 2 ^ k else q)

/-- R97: the RMS of numbers, in their unit, rounded either way where it is not whole. -/
def rmsOf (l : List Nat) : Nat :=
  let sq := l.foldl (fun a r => a + r * r) 0
  let q := rootBits (sq / l.length) 48 0
  if l.isEmpty ∨ q * q * l.length = sq then q else q + (Config.roundUp sq l.length).toNat

/-- Device time, ps since the PTP epoch (R34, R450). -/
def devTime (s : State) : Int := s.time.now + s.time.epoch

/-- R58: the resolution tick of a device time in ps. -/
def tickOf (t : Int) : Nat := t.toNat / us

/-- R58: the resolution tick. -/
def tickNow (s : State) : Nat := tickOf (devTime s)

/-- Device time in ns (R51 TIME). -/
def devNs (s : State) : Int := devTime s / 1000

/-- Time passes before a step (assumption log 2). -/
def tick (dt : Nat) (s : State) : State := { s with time := { s.time with now := s.time.now + dt } }

end Sys2Proof.Machine
end

