-- ==== Sys2Proof/Machine/Elapsed.lean ====
section
/-! DEFINITION. The device time that each command carries (assumption log 2). -/

namespace Sys2Proof.Machine

/-- The device time that a row says has passed before it. -/
def instrTime : Instr → Nat
  | .read dt _ _ => dt
  | .write dt _ _ => dt
  | .stage dt _ _ => dt
  | .check dt _ => dt
  | .commit dt _ _ _ => dt
  | .discard dt _ => dt
  | .cmdCancel dt _ _ => dt
  | .claim dt _ _ _ _ => dt
  | .release dt _ _ => dt
  | .subscribe dt _ _ _ => dt
  | .unsubscribe dt _ => dt
  | .eventAck dt _ _ => dt
  | .keepalive dt _ => dt
  | .open1 dt _ _ _ _ _ _ _ => dt
  | .open3 dt _ _ _ => dt
  | .sessionClose dt _ => dt
  | .blockData dt _ _ _ _ => dt
  | .discover dt _ => dt
  | .discoverReply dt => dt
  | .unknownOpcode dt _ _ => dt
  | .frameDiscard dt _ _ => dt
  | .protocolQuery dt _ _ => dt
  | .sessionTimeout dt _ => dt
  | .openTimeout dt _ => dt
  | .enrolWindowEnd dt => dt
  | .claimLeaseExpiry dt _ => dt
  | .eventResend dt _ => dt
  | .handleComplete dt _ _ _ => dt
  | .handleExpiry dt _ => dt
  | .commitNotice dt => dt
  | .deviceCommit dt => dt
  | .countEdge dt _ _ _ => dt
  | .index dt _ _ => dt
  | .wireEpisode50ns dt _ _ => dt
  | .wireEpisodeEnd dt _ _ _ => dt
  | .wireEpisode1us dt _ _ => dt
  | .axisStop dt => dt
  | .supervisorUnreachable dt => dt
  | .termSwingLow dt _ _ => dt
  | .axisPreset dt _ _ _ => dt
  | .indexArm dt _ _ _ _ => dt
  | .encReenable dt _ _ _ _ => dt
  | .sourceRequest dt _ _ _ => dt
  | .fire dt _ _ _ _ => dt
  | .speedLimitRise dt => dt
  | .lineOverrate dt => dt
  | .slowHoldExpiry dt => dt
  | .hostSpeedLimit dt _ _ _ => dt
  | .trigOccurrence dt _ => dt
  | .timeTrigger dt _ => dt
  | .trigPulseEnd dt _ => dt
  | .streamData dt _ _ => dt
  | .probe dt _ _ => dt
  | .ackInterval dt _ => dt
  | .nak dt _ => dt
  | .streamEnable dt _ _ _ _ => dt
  | .streamReleaseTo dt _ _ _ _ => dt
  | .netLink dt _ _ => dt
  | .decodeLine dt _ _ _ => dt
  | .decoderFault dt _ _ => dt
  | .storeRefresh dt _ _ => dt
  | .stackTempRead dt _ => dt
  | .scrub dt _ _ => dt
  | .sramScrub dt _ _ _ => dt
  | .retireCopyDone dt _ => dt
  | .counterWriteback dt => dt
  | .nozzleSave dt => dt
  | .screenLine dt _ _ => dt
  | .windowRefill dt _ => dt
  | .tileCheck dt _ _ => dt
  | .engineFault dt _ _ => dt
  | .engineStall dt _ => dt
  | .engineRemount dt _ => dt
  | .sliceFault dt _ => dt
  | .regionFault dt _ => dt
  | .dieFault dt _ => dt
  | .temperature dt _ _ => dt
  | .warmExit dt _ => dt
  | .hotExit dt _ => dt
  | .telemetryTimeout dt _ => dt
  | .nozzleSense dt _ _ _ => dt
  | .incompleteSegment dt _ _ _ => dt
  | .missedFires dt _ _ _ _ => dt
  | .claimStatus dt _ _ _ _ => dt
  | .configResponse dt _ _ _ _ => dt
  | .configTimeout dt _ _ => dt
  | .caps dt _ _ => dt
  | .echoReply dt _ _ => dt
  | .latencyMeasure dt _ => dt
  | .traceDetect dt _ _ => dt
  | .blockLock dt _ => dt
  | .bringupStepFail dt _ => dt
  | .lockLost dt _ => dt
  | .errorLimit dt _ _ => dt
  | .eyeRead dt _ _ _ => dt
  | .claimSend dt _ => dt
  | .traceEnable dt _ _ _ _ => dt
  | .tracePower dt _ _ _ _ => dt
  | .reinStopTimeout dt => dt
  | .reinReverseTimeout dt => dt
  | .reinHoldTimeout dt => dt
  | .reinRunTimeout dt => dt
  | .rearm dt => dt
  | .pressRefuse dt _ _ _ => dt
  | .stopClear dt _ _ _ => dt
  | .lineTrigger dt _ => dt
  | .frameStart dt _ _ => dt
  | .cameraLine dt _ _ _ _ _ _ _ => dt
  | .frameEnd dt _ _ => dt
  | .startWindow dt _ => dt
  | .exposureListDone dt _ _ => dt
  | .sliceDone dt _ => dt
  | .cciBusStuck dt _ _ => dt
  | .loopBar dt => dt
  | .sync dt _ _ => dt
  | .followUp dt _ => dt
  | .delayReq dt _ _ => dt
  | .delayResp dt _ => dt
  | .announce dt _ _ => dt
  | .ptpOther dt _ _ => dt
  | .announceTimeout dt => dt
  | .ptpSendInterval dt _ _ => dt
  | .followUpTimeout dt => dt
  | .timeRoleWrite dt _ _ _ _ => dt
  | .txStampPop dt _ _ _ _ => dt
  | .evtCapture dt _ _ _ _ => dt
  | .capturePop dt _ _ _ _ => dt
  | .pdCycle dt => dt
  | .correlation dt => dt
  | .heartbeat dt _ _ => dt
  | .heartbeatSend dt => dt
  | .pairAck dt _ => dt
  | .commitRecord dt _ _ _ => dt
  | .writeRecord dt _ _ => dt
  | .blockRecord dt _ _ => dt
  | .axisRecord dt _ _ => dt
  | .lposRecord dt _ _ _ _ => dt
  | .lposSend dt => dt
  | .ringRecord dt _ _ _ _ _ _ => dt
  | .digest dt _ _ => dt
  | .loopRecord dt _ _ => dt
  | .reinRecord dt _ _ => dt
  | .timeRecord dt _ _ => dt
  | .logRecord dt _ _ => dt
  | .releaseRecord dt _ _ => dt
  | .ident dt _ _ => dt
  | .snapshot dt _ _ => dt
  | .fill dt _ _ => dt
  | .echo dt _ _ _ _ => dt
  | .echoSend dt => dt
  | .recordResend dt _ => dt
  | .partnerSilent dt => dt
  | .mirrorTimeout dt => dt
  | .pairLaneChange dt _ _ => dt
  | .peerLead dt _ => dt
  | .searchTimeout dt => dt
  | .enterIdle dt _ => dt
  | .enterSleep dt _ _ => dt
  | .enterDeepSleep dt _ _ => dt
  | .enterOff dt _ _ => dt
  | .returnToRun dt _ => dt
  | .coreIdleStop dt => dt
  | .wake dt _ _ => dt
  | .wakeTimer dt _ => dt
  | .pmbusAck dt _ _ => dt
  | .pmbusTimeout dt _ => dt
  | .pmbAlert dt _ _ _ => dt
  | .railTelemetry dt _ => dt
  | .powerOnReset dt _ => dt
  | .resetN dt _ _ => dt
  | .startRetry dt _ => dt
  | .brownout dt _ => dt
  | .vsupRecovered dt _ => dt
  | .supervisorReset dt => dt
  | .overvolt dt _ => dt
  | .vsup3Overload dt => dt
  | .dieTemp dt _ _ _ => dt
  | .outputReadback dt _ _ => dt
  | .refclkLoss dt => dt
  | .coreFault dt _ _ => dt
  | .coreRestartDone dt _ => dt
  | .configStoreWrite dt => dt
  | .lifeHour dt => dt
  | .encCalDeferred dt _ _ => dt
  | .tapStep dt _ _ => dt
  | .statusClear dt _ _ _ _ => dt
  | .storePartition dt _ _ _ _ => dt
  | .errorLogClear dt _ _ _ => dt
  | .defectLogClear dt _ _ _ => dt
  | .storeFill dt _ _ _ _ _ => dt
  | .storeCopy dt _ _ _ _ _ => dt
  | .integInject dt _ _ => dt
  | .integReadRaw dt _ _ _ => dt
  | .rowRepair dt _ _ _ _ _ => dt
  | .retire dt _ _ _ _ _ => dt
  | .encode dt _ _ => dt
  | .thresholdLoad dt _ _ _ _ _ _ => dt
  | .nozzleTableWrite dt _ _ _ _ => dt
  | .nozzleTableRead dt _ _ _ _ => dt
  | .nozzleTableSave dt _ => dt
  | .nozzleCountReset dt _ _ _ => dt
  | .traceBringUp dt _ _ => dt
  | .bridgeAccess dt _ _ _ _ _ => dt
  | .inspTableLoad dt _ _ _ _ => dt
  | .frameHold dt _ _ _ _ => dt
  | .cciAccess dt _ _ _ _ _ _ _ => dt
  | .inspStatRead dt _ _ _ => dt
  | .timeAcceptJump dt _ => dt
  | .ptpSend dt _ _ _ => dt
  | .pdStart dt _ _ _ => dt
  | .pdStop dt _ => dt
  | .pair dt _ => dt
  | .unpair dt _ => dt
  | .handover dt _ => dt
  | .imageWrite dt _ _ _ => dt
  | .imageActivate dt _ _ => dt
  | .imageConfirm dt _ => dt
  | .faultClear dt _ => dt
  | .unknownCommand dt _ _ => dt
  | .traceBlockDiscard dt _ _ => dt
  | .cameraPacketError dt _ _ _ => dt
  | .jtagInstruction dt _ => dt
  | .terminationDisconnect dt _ _ => dt
  | .terminationReconnect dt _ _ => dt
  | .outputAgreement dt _ => dt
  | .vsup3LoadRecovered dt => dt
  | .vsupSample dt _ => dt

/-- The commands at the front of a queue that arrive in tick `k`, from device time `t` on. -/
def sameTick (k : Nat) : Int → List Instr → List Instr
  | _, [] => []
  | t, i :: r =>
    let t' := t + instrTime i
    if tickOf t' = k then i :: sameTick k t' r else []

/-- The commands still to come in the present tick (R58). -/
def tickRest (s : State) : List Instr := sameTick (tickNow s) (devTime s) s.pending

end Sys2Proof.Machine
end

