-- ==== Sys2Proof/Machine/Flags.lean ====
section
/-! DEFINITION. Status flags with their occurrence counts (R71): set, clear, read. -/

namespace Sys2Proof.Machine

/-- The hardware sets flag `b` at a device time: the flag reads 1 and its 16-bit count goes up, even when it was set already (R71). -/
def Flags.set (now : Nat) (f : Flags) (b : Nat) : Flags :=
  { word := f.word ||| BitVec.ofNat 32 (2 ^ b), counts := tinc f.counts b, setAt := tput 0 f.setAt b (now + 1) }

/-- The flags that the hardware has set at this very instant: they win over a clear (R71). -/
def Flags.setNow (now : Nat) (f : Flags) : BitVec 32 :=
  f.setAt.foldl (fun m e => if e.2 = now + 1 then m ||| BitVec.ofNat 32 (2 ^ e.1) else m) 0

/-- A write of `mask` clears the flags it names, but those set in the same instant; the counts stay (R71). -/
def Flags.clear (now : Nat) (f : Flags) (mask : BitVec 32) : Flags := { f with word := f.word &&& ~~~ (mask &&& ~~~ f.setNow now) }

/-- A flag's occurrence count. -/
def Flags.count (f : Flags) (b : Nat) : Nat := (tget 0 f.counts b).toNat

/-- A flag's level. -/
def Flags.on (f : Flags) (b : Nat) : Bool := f.word.getLsbD b

end Sys2Proof.Machine
end

