-- ==== Sys2Proof/Machine/Events.lean ====
section
/-! DEFINITION. Event records and their delivery (R68 to R70, R527), unit addresses (R25) and the DETAIL layout that
the chapters share. -/

namespace Sys2Proof.Machine

/-- R139: the VID with which port `n` tags what it sends, 0 for none. -/
def vlanOf (s : State) (n : Nat) : Nat := cfgN s 0x1024 n

/-- The number of a port: 0 NET_0, 1 NET_1, 2 MGMT. -/
def peerNum (p : Peer) : Nat := match p.port with | .net0 => 0 | .net1 => 1 | .mgmt => 2

/-- R139: a receiver with the tag that its port gives what is sent there. -/
def tagged (s : State) (p : Peer) : Peer := { p with vlan := vlanOf s (peerNum p) }

/-- R139, R440: what is sent out of an Ethernet port carries its tag, and a PTP message the transport of 9006h. -/
def Output.withTag (s : State) : Output → Output
  | .response p id q r => .response (tagged s p) id q r
  | .plain p op c => .plain (tagged s p) op c
  | .discover p n ser st rel key free en => .discover (tagged s p) n ser st rel key free en
  | .open2 p id b => .open2 (tagged s p) id b
  | .open4 p id q c => .open4 (tagged s p) id q c
  | .event p id q rs => .event (tagged s p) id q rs
  | .block p id q h o d => .block (tagged s p) id q h o d
  | .protocolReply p k gs => .protocolReply (tagged s p) k gs
  | .ack n p e l r c gs => .ack n (tagged s p) e l r c gs
  | .nak n p e w l r c gs => .nak n (tagged s p) e w l r c gs
  | .ptp n t q c b .. => .ptp n t q c b (vlanOf s n) (cfgN s 0x9006 0)
  | .pd p id q fs => .pd (tagged s p) id q fs
  | o => o

/-- R345: the lane of an output and the number of its blocks. -/
def Output.blocks : Output → Option (Nat × Nat)
  | .fire h .. | .claim h .. | .release h _ | .config h .. | .train h .. => some (h, 1)
  | .caps h ws => some (h, ws.length)
  | .lineData h _ _ d codes crcs => some (h, crcs.length + (codes.length + 63) / 64 * d)
  | _ => none

def Output.isFire : Output → Bool
  | .fire .. => true
  | _ => false

/-- R345: a SKIP is due before the blocks since the last one pass 4,000, so that every 4,096 hold one. -/
def skipLimit : Nat := 4000

/-- R345, R373: an output with the SKIP that is due with it: before it, but after a FIRE. -/
def withSkip (o : Output) (s : State) : List Output × Tab Nat :=
  match o.blocks with
  | none => ([o], s.model.skips)
  | some (h, n) =>
    let k := tget 0 s.model.skips h + n
    if k ≤ skipLimit then ([o], tput 0 s.model.skips h k)
    else if o.isFire then ([.skip h, o], tput 0 s.model.skips h 0)
    else ([o, .skip h], tput 0 s.model.skips h n)

/-- Send something out. -/
def emit (o : Output) (s : State) : State :=
  let x := withSkip (o.withTag s) s
  { s with model := { s.model with tx := x.1 ++ s.model.tx, skips := x.2 } }

/-- DETAIL of an event: bits 95..88, 87..80, 79..64 and 63..0 (R108, R137, R165 and the like). -/
def detail (a b c : Nat) (v : Int) : BitVec 96 :=
  BitVec.ofNat 96 (a % 256 * 2 ^ 88 + b % 256 * 2 ^ 80 + c % 65536 * 2 ^ 64) ||| (BitVec.ofInt 64 v).setWidth 96

/-- Unit address (R25). -/
def unitAddr (level die kind region cluster index : Nat) : BitVec 32 :=
  BitVec.ofNat 32 (level * 2 ^ 29 + die * 2 ^ 27 + kind * 2 ^ 24 + region * 2 ^ 22 + cluster * 2 ^ 20 + index)

/-- Level 1: a nozzle channel. -/
def unitNozzle (ch : Nat) : BitVec 32 := unitAddr 1 0 0 0 0 ch
/-- Level 2: a screening engine 9r + 3c + e. -/
def unitEngine (e : Nat) : BitVec 32 := unitAddr 2 0 0 (e / 9) (e % 9 / 3) (e % 3)
/-- Level 2: a raster decoder. -/
def unitDecoder (r d : Nat) : BitVec 32 := unitAddr 2 0 1 r 0 d
/-- Level 2: a camera slice. -/
def unitSlice (n : Nat) : BitVec 32 := unitAddr 2 0 2 0 0 n
/-- Level 4: a region. -/
def unitRegion (r : Nat) : BitVec 32 := unitAddr 4 0 0 r 0 0
/-- Level 5: a die. -/
def unitDie (d : Nat) : BitVec 32 := unitAddr 5 d 0 0 0 0
/-- Level 6: the device. -/
def unitDevice : BitVec 32 := unitAddr 6 0 0 0 0 0

/-- R70: queue a record, or discard and count it when the queue holds 1,024. -/
def enqueue (q : EventQueue) (r : EventRec) : EventQueue × Bool :=
  if 1024 ≤ q.records.length then
    ({ q with lost := q.lost + 1, pendingLost := q.pendingLost + 1 }, false)
  else
    ({ q with records := q.records ++ [{ r with rseq := q.nextRseq }], nextRseq := q.nextRseq + 1 }, true)

/-- R70: when space frees, one overflow record is queued before any newer record; its COUNT saturates. -/
def queueOverflow (q : EventQueue) (blank : EventRec) : EventQueue :=
  if 0 < q.pendingLost ∧ q.records.length < 1024 then
    let r : EventRec := { blank with typ := 2, sev := 0, code := 0, rseq := q.nextRseq, handle := 0, detail := 0, unit := 0
                                     count := BitVec.ofNat 16 (min q.pendingLost 65535) }
    { q with records := q.records ++ [r], nextRseq := q.nextRseq + 1, pendingLost := 0 }
  else q

/-- R70: push the records not pushed yet, in EVENT messages of at most 29, unless pushing has stopped. Device-initiated
messages carry SEQ with bit 63 set, counting from 1 (R44). -/
def pushQueue (slot : Nat) (s : State) : State :=
  let x := s.sess slot
  match x.queue with
  | none => s
  | some q =>
    let fresh := q.records.filter (fun r => q.pushed < r.rseq)
    if q.stopped ∨ fresh.isEmpty then s else
      let now := s.time.now
      let chunks := (List.range ((fresh.length + 28) / 29)).map (fun k => ((fresh.drop (29 * k)).take 29))
      let old := q.records.any (fun r => r.rseq ≤ q.pushed)
      let q' := { q with pushed := q.nextRseq - 1, lastPush := if old then q.lastPush else now }
      let s := s.setSess slot { x with queue := some q', devSeq := x.devSeq + chunks.length }
      (chunks.zip (List.range chunks.length)).foldl
        (fun s c => emit (.event x.peer x.id (BitVec.ofNat 64 (2 ^ 63 + x.devSeq + c.2)) c.1) s) s

/-- Put a record on the queue of one session, and push it. -/
def deliver (slot : Nat) (r : EventRec) (s : State) : State :=
  let x := s.sess slot
  match x.queue with
  | none => s
  | some q =>
    let (q', ok) := enqueue q r
    let s := s.setSess slot { x with queue := some q' }
    if ok then pushQueue slot s
    else { s with proto := { s.proto with comm := s.proto.comm.set s.time.now 3 } }

/-- R68: the record falls in the session's subscription. -/
def wants (x : Session) (r : EventRec) : Bool :=
  match x.queue with
  | none => false
  | some q => q.subscribed && (r.typ == 3 || (decide (q.minSev ≤ r.sev) && q.ranges.any (fun p => p.1 ≤ r.code ∧ r.code ≤ p.2)))

/-- Deliver a record to every session whose subscription covers it. -/
def broadcast (r : EventRec) (s : State) : State :=
  (List.range 8).foldl (fun s i => if wants (s.sess i) r then deliver i r s else s) s

/-- An event record as of now (R69). `line` is the line or position that the event concerns, in 2^-32 line; without
one LPOS keeps its reset value and GENERATION is that of the line at the datum. -/
def eventRec (s : State) (code sev : Nat) (d : BitVec 96) (unit : BitVec 32) (line : Option Int) (count : Nat) : EventRec :=
  { typ := 0, sev := sev, code := code, rseq := 0,
    gen := genAt s (lineOf (line.getD (lpos s))), unit := unit, lpos := line.getD 0, time := devTime s,
    handle := 0, count := BitVec.ofNat 16 count, detail := d }

/-- Raise an event: before step 9 of a start it waits in stable RAM (R527), otherwise it goes to the subscribers. -/
def raise (code sev : Nat) (d : BitVec 96) (s : State) (unit : BitVec 32 := 0) (line : Option Int := none)
    (count : Nat := 0) : State :=
  let r := eventRec s code sev d unit line count
  if s.start.step = 9 then broadcast r s
  else { s with start := { s.start with held := s.start.held ++ [r] } }

/-- R605: the fixed severities other than 0. -/
def sevTable : List (Nat × Nat) :=
  [(0x3002, 1), (0x3005, 1), (0x3010, 1), (0x3011, 1), (0x3012, 1), (0x4002, 1), (0x4004, 1), (0x4006, 2), (0x400B, 1),
   (0x4024, 1), (0x5010, 1), (0x5013, 1), (0x5040, 1), (0x5041, 1), (0x6013, 1), (0x7012, 1), (0x7016, 1), (0x8007, 1),
   (0x9002, 1), (0xA001, 1), (0xA002, 1), (0xA003, 1), (0xB005, 1), (0xB011, 1), (0xB021, 3), (0xB024, 1), (0xB025, 2)]

/-- Raise an event at the severity that R605 lists for its code. -/
def ev (code : Nat) (d : BitVec 96) (s : State) (unit : BitVec 32 := 0) (line : Option Int := none) (count : Nat := 0) : State :=
  raise code (tget 0 sevTable code) d s unit line count

/-- The internal position of a line number. -/
abbrev atLine (L : Int) : Option Int := some (L * oneLine)

end Sys2Proof.Machine
end

