-- ==== Sys2Proof/Machine/Geometry.lean ====
section
/-! DEFINITION. The geometry of the bar: planes, heads and rows, their offsets (R110 to R114), the commit horizon (R62),
print columns (R322), dot delay sizes (R178) and the timing figures of the heads (R323, R351). -/

namespace Sys2Proof.Machine

/-- The values of all objects in force at some line. -/
abbrev Env := Nat → Nat → Val

/-- The values that govern line `L` (R63). -/
def envAt (s : State) (L : Int) : Env := fun i j => (govVal s L i j).1

/-- The values that govern the line at the datum (R65). -/
def envNow (s : State) : Env := envAt s (datumLine s)

def Env.int (e : Env) (i j : Nat) : Int := Val.int (e i j)
def Env.nat (e : Env) (i j : Nat) : Nat := (Val.int (e i j)).toNat
def Env.elem (e : Env) (i j k : Nat) : Int := (Val.elems (e i j)).getD k 0

/-- R320: the plane of a head; none when unassigned. -/
def planeOf (e : Env) (h : Nat) : Option Nat := if e.nat 0x7000 h ≤ 15 then some (e.nat 0x7000 h) else none

def headNums : List Nat := List.range 64

/-- The heads of a plane, ascending. -/
def headsOf (e : Env) (p : Nat) : List Nat := headNums.filter (fun h => planeOf e h == some p)

/-- R62: the active planes. -/
def activePlanes (e : Env) : List Nat :=
  let used := headNums.filterMap (planeOf e)
  (List.range 16).filter (fun p => used.contains p)

/-- R320: number of rows of a head. -/
def rowCount (e : Env) (h : Nat) : Nat := e.nat 0x7002 h

/-- The rows of a plane's heads as subindices 2h + r of `Line.UnitOffset`. -/
def rowsOf (e : Env) (p : Nat) : List Nat :=
  (headsOf e p).flatMap (fun h => (List.range (rowCount e h)).map (fun r => 2 * h + r))

/-- Row u = 2h + r is a row of an assigned head. -/
def rowActive (e : Env) (u : Nat) : Bool := decide (u % 2 < rowCount e (u / 2)) && (planeOf e (u / 2)).isSome

/-- All rows of assigned heads. -/
def activeRows (e : Env) : List Nat := (activePlanes e).flatMap (rowsOf e)

/-- R112: the effective offset O_u of head row u = 2h + r, in 2^-32 line: head offset, row spacing in row 1, and the
closed-loop delay correction in 1/256 line. -/
def unitOffset (e : Env) (u : Nat) : Int :=
  let h := u / 2
  ofLpos (e.int 0x7007 h + (if u % 2 = 1 then e.int 0x7003 h else 0)) + e.elem 0x7016 h (u % 2) * 16777216

/-- Least element of a list, or 0. -/
def minOf (l : List Int) : Int := l.foldl min (l.headD 0)
/-- Greatest element of a list, or 0. -/
def maxOf (l : List Int) : Int := l.foldl max (l.headD 0)

/-- R112: the plane offset O_p, of the plane's most upstream row. -/
def planeOffset (e : Env) (p : Nat) : Int := minOf ((rowsOf e p).map (unitOffset e))

/-- R259: the look-ahead A_p. -/
def lookAhead (e : Env) (p : Nat) : Nat := e.nat 0x6003 (p + 1)

/-- R62: a plane's term of the commit horizon. -/
def horizonTerm (e : Env) (p : Nat) : Int := lookAhead e p + 128 - lineOf (planeOffset e p)

/-- R62: H over several sets of values. Under each set its active planes count; the look-ahead of a plane that a set makes inactive stays out
under that set (DESIGN CHOICE, assumption log 78). -/
def horizonOf (es : List Env) : Int :=
  let terms := es.flatMap (fun e => (activePlanes e).map (horizonTerm e))
  if terms.isEmpty then maxOf (es.flatMap (fun e => (List.range 16).map (fun p => (lookAhead e p : Int)))) + 128
  else maxOf terms

/-- The values that govern the datum and those of every pending commit (R62). -/
def horizonEnvs (s : State) : List Env := envNow s :: (pendingCommits s).map (fun c => envAt s c.line)

/-- C010h Cmd.CommitHorizon (R62): formed from the governing and pending values alone. -/
def commitHorizon (s : State) : Int := horizonOf (horizonEnvs s)

/-- R115: the fire position of line `L` at row `u`, under the offset that governs line L. -/
def firePos (s : State) (u : Nat) (L : Int) : Int := L * oneLine + unitOffset (envAt s L) u

/-- The greatest line whose fire position at row `u` is at or below `x`: the end of a run of lines under one offset, or the
line that the offset of such a run gives. -/
def lineAt (s : State) (u : Nat) (x : Int) : Int :=
  let bounds := s.proto.commits.flatMap (fun c => [c.line - 1, c.line])
  let probes := lineOf x :: datumLine s :: bounds
  let cands := probes.map (fun l => lineOf (x - unitOffset (envAt s l) u)) ++ s.proto.commits.map (fun c => c.line - 1)
  let good := cands.filter (fun l => firePos s u l ≤ x)
  if good.isEmpty then lineOf (x - unitOffset (envNow s) u) else maxOf good

/-- R121: the lowest line of row `u`, not below `lo`, whose fire position lies above `x`: the least over the runs of lines under one offset. -/
def lineAbove (s : State) (u : Nat) (lo : Option Int) (x : Int) : Int :=
  let from' := fun (l : Int) => match lo with | some a => max a l | none => l
  let starts := s.proto.commits.map (·.line)
  let first := lineOf (x - unitOffset (envAt s (minOf starts - 1)) u) + 1
  let cands := from' first :: (starts ++ lo.toList).map (fun l => from' (max l (lineOf (x - unitOffset (envAt s l) u) + 1)))
  let good := cands.filter (fun l => decide (x < firePos s u l))
  if good.isEmpty then from' (lineAt s u x + 1) else minOf good

/-- The lowest line of row `u` whose fire position lies above its unit mark (R120), each line at most once (R115). -/
def rowNext (s : State) (u : Nat) : Int :=
  let r := s.row u
  match r.lastLine, r.mark with
  | some l, some m => lineAbove s u (some (l + 1)) m
  | _, _ => lineAbove s u none s.gait.w

/-! ### The page queue and an abort (R122) -/

/-- R122: what an abort at line `L` leaves of a page: one that begins at or above L is dropped, one that straddles L is cut and loses its gap, and
a gap that straddles L ends there. -/
def cutPage (L : Int) (p : Page) : Option Page :=
  if L ≤ p.first then none
  else if L < p.first + p.lines then some { p with lines := (L - p.first).toNat, gap := 0, cut := none }
  else some { p with gap := min p.gap (L - p.first - p.lines).toNat, cut := none }

/-- R122: the queue as it prints: accepted aborts whose line has not passed are counted in. -/
def printQueue (s : State) : List Page :=
  s.gait.pages.filterMap (fun p => match p.cut with | some a => cutPage a p | none => some p)

/-- The page that holds line `L`, if any (R125). -/
def pageOf (s : State) (L : Int) : Option Page := (printQueue s).find? (fun p => p.first ≤ L ∧ L < p.first + p.lines)

/-- The page whose gap holds line `L`, if any. -/
def gapOf (s : State) (L : Int) : Option Page :=
  (printQueue s).find? (fun p => p.first + p.lines ≤ L ∧ L < p.first + p.lines + p.gap)

/-- R322: the first print column k0 of a head. -/
def firstColumn (e : Env) (h : Nat) : Int :=
  match planeOf e h with
  | some p => (e.int 0x7006 h * e.int 0x7020 (p + 1) + 127000) / 254000
  | none => 0

/-- Rounding to nearest, halves up. -/
def roundDiv (a : Int) (b : Nat) : Int := (2 * a + b) / (2 * b)

/-- R322: Head.CrossResidual in 0.01 µm. -/
def crossResidual (e : Env) (h : Nat) : Int :=
  match planeOf e h with
  | some p => roundDiv ((e.int 0x7006 h * e.int 0x7020 (p + 1) - firstColumn e h * 254000) * 10) (e.nat 0x7020 (p + 1))
  | none => 0

/-- R299: row of a nozzle index of a head, and its row-relative index. -/
def nozzleRow (e : Env) (h i : Nat) : Nat := if rowCount e h = 2 ∧ e.nat 0x7001 h / 2 ≤ i then 1 else 0
def nozzleRel (e : Env) (h i : Nat) : Nat := if nozzleRow e h i = 1 then i - e.nat 0x7001 h / 2 else i

/-- R322: print column of nozzle `i` of head `h`. -/
def printColumn (e : Env) (h i : Nat) : Int :=
  firstColumn e h + nozzleRel e h i * e.nat 0x7004 h + (if nozzleRow e h i = 1 then e.nat 0x7005 h else 0)

/-- R274: bits per dot of a plane, d. -/
def dotDepth (e : Env) (p : Nat) : Nat := e.nat 0x600A (p + 1)

/-- R178: bytes per line of a head in the dot delay. -/
def headLineBytes (e : Env) (h : Nat) : Nat :=
  match planeOf e h with
  | some p => (e.nat 0x7001 h * dotDepth e p + 511) / 512 * 64
  | none => 0

/-- R179: 5043h Store.DotDelayLine, the sum of the B_h. -/
def dotDelayLine (e : Env) : Nat := headNums.foldl (fun a h => a + headLineBytes e h) 0

/-- R340: block slot of a rate code, ps. -/
def slotPs (rate : Nat) : Nat := 6400 * 2 ^ rate
/-- R340: P_tx of a rate code, ps. -/
def pathPs (rate : Nat) : Nat := if rate = 0 then 80000 else if rate = 1 then 120000 else 200000

/-- A word of the accepted capabilities (R357). -/
def capWord (s : State) (h w : Nat) : Nat := (tget 0 (s.lane h).caps w).toNat

def ceilDiv (a b : Nat) : Nat := (a + b - 1) / b

/-- R351: T_tx in ps. -/
def txTime (s : State) (e : Env) (h : Nat) : Nat :=
  match planeOf e h with
  | none => 0
  | some p =>
    let n := e.nat 0x7001 h
    let r := rowCount e h
    let slot := slotPs (s.lane h).rate
    let b0 := n / 64 * dotDepth e p + r * (1 + ceilDiv n (1024 * r)) + 3
    let b := b0 + ceilDiv (b0 * slot) 2000000 + 1
    ceilDiv (b * slot) 10000 * 10000

/-- R323: the send lead S_u in ps: D_link + D_b rounded up to 100 ps. -/
def sendLead (s : State) (h : Nat) : Nat := ceilDiv ((s.lane h).latency + capWord s h 3) 100 * 100

/-- R323: the terms of T_u but 1 ÷ f_h, in ps. -/
def basePeriod (s : State) (e : Env) (h : Nat) : Nat := max 2500000 (max (txTime s e h) ((sendLead s h + 1) / 2))

/-- R323: the minimum line period T_u in ps, rounded up. -/
def minPeriod (s : State) (e : Env) (h : Nat) : Nat :=
  let f := capWord s h 2
  max (basePeriod s e h) (if f = 0 then 0 else ceilDiv 1000000000000 f)

/-- R26, R28: the region of a head. -/
def regionOf (h : Nat) : Nat := h / 16

end Sys2Proof.Machine
end

