-- ==== Sys2Proof/Machine/Ops.lean ====
section
/-! DEFINITION. The operations that several chapters share: sessions and handles, pair-link records, the job and the page
queue, the defect log, speed limits, the press outputs, faults and their classes, rein-back abandonment and loss of
position. Every meaning ends in `ok`. -/

namespace Sys2Proof.Machine

/-- A step's outcome: every row of the table has a next state. -/
def ok (s : State) : Host.Outcome State Fault Refusal := .next s

/-- Run a guarded effect: a step whose premise does not hold only lets time pass (assumption log 2). -/
def guardOk (c : Bool) (f : State → State) (s : State) : Host.Outcome State Fault Refusal := if c then ok (f s) else ok s

/-- Apply a function for each element of a list, in order. -/
def forAll {α : Type} (l : List α) (f : α → State → State) (s : State) : State := l.foldl (fun s a => f a s) s

/-- Add to a counter that saturates at 2^bits − 1 (R558). -/
def satAdd (n : Nat) (t : Tab Nat) (k m : Nat) : Tab Nat := tmod 0 t k (fun v => min (v + m) (2 ^ n - 1))

/-- R558: lifetime event counter `k` of B069h. -/
def lifeEvent (k : Nat) (s : State) : State :=
  { s with faults := { s.faults with life := { s.faults.life with events := satAdd 32 s.faults.life.events k 1 } } }

/-- R558: ms of operation so far, and `Life.PowerOnHours`. -/
def powerOnMs (s : State) : Nat := s.faults.life.onMs + (match s.faults.life.since with | some t => (s.time.now - t) / ms | none => 0)
def powerHours (s : State) : Nat := powerOnMs s / 3600000

/-- A free value drawn with the model's counter (assumption log 5). -/
def drawFree (s : State) : Nat × State :=
  (Config.free s.model.free, { s with model := { s.model with free := s.model.free + 1 } })

/-! ### Sessions and handles -/

/-- The slot of a session that is not free. -/
def slotOf (s : State) (id : BitVec 32) : Option Nat :=
  (List.range 8).find? (fun i => (s.sess i).phase != .free && (s.sess i).id == id)

/-- R66: the handle word of a slot. -/
def handleWord (s : State) (slot : Nat) : BitVec 16 := BitVec.ofNat 16 ((s.handle slot).use.toNat * 256 + slot)

/-- R67: an operation ends: the handle is done, and its completion record goes to the session that started it. With that
session gone, or its queue full, the record stays in `Cmd.Handle` (R67, R70). -/
def completeHandle (slot code : Nat) (d : BitVec 96) (s : State) : State :=
  let h := s.handle slot
  if h.phase ≠ .running then s else
  let done : Handle := { h with phase := .done, op := .none, result := code, detail := d, doneAt := s.time.now, rseq := 0 }
  let s := s.setHandle slot done
  match slotOf s h.owner with
  | none => s
  | some i =>
    match (s.sess i).queue with
    | none => s
    | some q =>
      let r : EventRec := { typ := 1, sev := 0, code := code, rseq := 0, gen := datumGen s, unit := 0, lpos := 0
                            time := devTime s, handle := handleWord s slot, count := 0, detail := d }
      if 1024 ≤ q.records.length then deliver i r s
      else deliver i r (s.setHandle slot { done with rseq := q.nextRseq })

/-- The handle with this word ends, if the slot still holds it (R66). -/
def completeWord (w : BitVec 16) (code : Nat) (d : BitVec 96) (s : State) : State :=
  if handleWord s (w.toNat % 256) = w then completeHandle (w.toNat % 256) code d s else s

/-- The running handles, by slot. -/
def runningHandles (s : State) : List Nat := (List.range 256).filter (fun i => (s.handle i).phase == .running)

/-- R44, R53: a response goes out, and is kept for repeats of its request. -/
def sendResponse (slot seq : Nat) (r : Response) (s : State) : State :=
  let x := s.sess slot
  emit (.response x.peer x.id (BitVec.ofNat 64 seq) r) (s.setSess slot { x with cache := x.cache.filter (fun c => c.1 != seq) ++ [(seq, r)] })

/-- R476: withheld responses that are due go out in order, changed by `f`; those of a session that has gone are dropped. -/
def settleWithheld (due : Withheld → Bool) (f : Response → Response) (s : State) : State :=
  let go := s.proto.withheld.filter due
  let s := { s with proto := { s.proto with withheld := s.proto.withheld.filter (fun w => !due w) } }
  forAll go (fun w s => if (s.sess w.slot).id = w.sess ∧ (s.sess w.slot).phase = .opened then sendResponse w.slot w.seq (f w.resp) s else s) s

/-! ### The pair link (R471, R472) -/

/-- R472: the record types that carry ACKREQ. -/
def wantsAck (kind : Nat) : Bool := [0x03, 0x04, 0x05, 0x06, 0x0B, 0x0E].contains kind

/-- R475, R476: this lead has a wheeler that joins or stands by. -/
def hasWheeler (s : State) : Bool :=
  s.pair.state == 3 && !s.pair.silent && !s.pair.partnerHeld && (s.pair.heartbeat.map (fun b => b.state == 4 || b.state == 5)).getD false

/-- R484: the partner is STANDBY. -/
def partnerStandby (s : State) : Bool :=
  !s.pair.silent && !s.pair.partnerHeld && (s.pair.heartbeat.map (fun b => b.state == 5)).getD false

/-- Send a record; one with ACKREQ waits for its acknowledgement (R471). -/
def sendRecord (body : PairBody) (s : State) : State :=
  let n := s.pair.txSeq
  let ack := wantsAck body.type
  let s := { s with pair := { s.pair with txSeq := n + 1
                                          pending := if ack then s.pair.pending ++ [⟨n, body, s.time.now, 1⟩] else s.pair.pending } }
  emit (.pair n ack s.pair.rxSeq body) s

/-- Mirror something to the wheeler, if there is one (R475). -/
def mirror (body : PairBody) (s : State) : State :=
  if hasWheeler s then sendRecord body s else s

/-- R477: the AXIS record of what now stands: 0 an alignment, 1 a changeover, 2 a loss of position for the reason `why`. -/
def axisRecord (s : State) (kind why : Nat) : AxisRec :=
  let c := srcChan s
  { kind := kind, why := why, p0 := c.base.p0, c0 := c.base.c0, source := s.axis.source
    edge := c.last.map (fun k => (k.c, (k.t : Int) + s.time.epoch)), w := s.gait.w, valid := s.axis.state == 1
    armed := (List.range 4).filter (fun n => (s.chan n).armed)
    marks := (List.range 128).map (fun u => (u, (s.row u).mark)) ++ (List.range 8).map (fun n => (128 + n, (s.trig n).mark)) ++
      (List.range 4).map (fun n => (136 + n, (s.camPort n).mark)) }

/-- R477: the lead sends an AXIS record. -/
def mirrorAxis (s : State) (kind : Nat := 0) (why : Nat := 0) : State := mirror (.axis (axisRecord s kind why)) s

/-- The chip is a tandem wheeler (R467 states 4 to 6). -/
def isWheeler (s : State) : Bool := 4 ≤ s.pair.state && s.pair.state ≤ 6

/-- The chip decides for the press: a single device or the lead (R467). -/
def holdsLead (s : State) : Bool := s.pair.state == 0 || s.pair.state == 3 || (s.pair.state == 2 && s.pair.leads)

/-- R499: DETAIL of a PAIR event. -/
def pairDetail (subject reason : Nat) (s : State) (v : Int) : BitVec 96 := detail subject reason s.pair.epoch.toNat v

/-- R467, R499: `Pair.State` changes. -/
def setPairState (st reason : Nat) (s : State) : State :=
  let s' := { s with pair := { s.pair with state := st, heldReason := reason } }
  if s.pair.state = st then s' else ev 0xA005 (pairDetail 0xFF st s' reason) s'

/-! ### Job, page queue and defect log -/

/-- R137: DETAIL of a LINE event: SUBJECT in bits 95..80. -/
def lineDetail (subject : Nat) (v : Int) : BitVec 96 := detail (subject / 256) subject 0 v

/-- R122: `Job.State` changes. -/
def setJob (j : Nat) (s : State) : State :=
  if s.gait.job = j then s
  else ev 0x4010 (lineDetail 0 j) { s with gait := { s.gait with job := j } }

/-- R128, R547: a running or draining job goes to HALTED, and the queue is emptied in every case. -/
def haltJob (s : State) : State :=
  let s := { s with gait := { s.gait with pages := [], abortAt := none } }
  if s.gait.job = 1 ∨ s.gait.job = 2 then setJob 3 s else s

/-- R472: the newest entries of the logs and the two counts. -/
def logRecord (s : State) : LogRec :=
  { lastComplete := s.gait.lastComplete, reinCount := s.rein.count, defect := s.fire.defects.head?, splice := s.rein.splices.head?, lastBar := s.loop.last }

/-- R472: a log record goes to the wheeler at each new entry. -/
def mirrorLogs (s : State) : State := mirror (.log (logRecord s)) s

/-- R333: enter a defect; a full log loses its oldest entry. -/
def addDefect (d : Defect) (s : State) : State :=
  let full := 64 ≤ s.fire.defects.length
  let s := { s with fire := { s.fire with defects := (d :: s.fire.defects).take 64
                                          overflow := s.fire.overflow + (if full then 1 else 0) } }
  mirrorLogs s

/-- R333: mark the page that holds a line. -/
def markPage (L : Int) (s : State) : State :=
  { s with gait := { s.gait with pages := s.gait.pages.map (fun p =>
      if p.first ≤ L ∧ L < p.first + p.lines then { p with marked := true } else p) } }

/-- R333: a late line of head `h` enters the defect log: it continues the newest entry's run, or opens an entry. -/
def logLateLine (h : Nat) (L : Int) (cause action : Nat) (s : State) : State :=
  let s := markPage L s
  match s.fire.defects with
  | d :: r =>
    if d.head = h ∧ d.cause = cause ∧ d.first + d.count = L then
      { s with fire := { s.fire with defects := { d with count := d.count + 1 } :: r } }
    else addDefect ⟨((pageOf s L).map (·.page)).getD 0, L, 1, (planeOf (envAt s L) h).getD 0, h, cause, action, genAt s L, devTime s⟩ s
  | [] => addDefect ⟨((pageOf s L).map (·.page)).getD 0, L, 1, (planeOf (envAt s L) h).getD 0, h, cause, action, genAt s L, devTime s⟩ s

/-- The last line that a row fired: for a row that has fired none, the line before its next one. -/
def rowFired (s : State) (u : Nat) : Int := rowNext s u - 1

/-- R339: DETAIL of a head event. -/
def headDetail (subject reason row : Nat) (v : Int) : BitVec 96 := detail subject reason (row * 256) v

/-- R337, R547: for each plane with an active row, FIRE.STOPPED with the highest line that every row fired, and one entry
with the cause given, whose FIRST is the next line. -/
def fireStopped (cause : Nat) (s : State) : State :=
  let e := envNow s
  forAll (activePlanes e) (fun p s =>
    let fired := (rowsOf e p).map (rowFired s)
    let top := minOf fired
    let above := (fired.filter (fun l => top < l)).length
    let s := ev 0x7005 (headDetail p 0 0xFF above) s (line := atLine top)
    addDefect ⟨((pageOf s (top + 1)).map (·.page)).getD 0, top + 1, 0, p, 0xFF, cause, 0xFF, genAt s (top + 1), devTime s⟩ s) s

/-! ### Speed limits (R132 to R134) -/

/-- R132: the effective speed limit and its source. -/
def speedLimit (s : State) : Nat × Nat :=
  let v := [((envNow s).nat 0x4050 0, 0), (cfgN s 0x4051 0, 1), (s.screen.capacity, 2), (s.gait.slowLimit, 3)]
  v.foldl (fun a b => if b.1 < a.1 then b else a) (v.headD (0, 0))

/-- R133: send a changed limit to the press. -/
def sendLimit (s : State) : State :=
  let (l, src) := speedLimit s
  ev 0x4012 (lineDetail src l) { s with gait := { s.gait with sentLimit := l, riseSince := none } }

/-- R133: a fall is sent at once; a rise starts its 100 ms, anew for each higher value. -/
def updateLimit (s : State) : State :=
  let l := (speedLimit s).1
  if l < s.gait.sentLimit then sendLimit s
  else if l = s.gait.sentLimit then { s with gait := { s.gait with riseSince := none } }
  else if s.gait.riseSince.isSome ∧ s.gait.riseLimit = l then s
  else { s with gait := { s.gait with riseSince := some s.time.now, riseLimit := l } }

/-- R134: `Axis.Speed` lies above the effective limit. -/
def overLimit (s : State) : Bool := decide ((speedLimit s).1 * (speedDen s : Int) < speedNum s)

/-- R134: a judgement of the speed against the limit. -/
def judgeSpeed (s : State) : State :=
  let now := s.time.now
  if overLimit s then
    let rearm := match s.gait.underSince with | some t => decide (t + ms ≤ now) | none => false
    { s with gait := { s.gait with overSince := some (s.gait.overSince.getD now), underSince := none
                                   overRaised := s.gait.overRaised && !rearm } }
  else { s with gait := { s.gait with underSince := some (s.gait.underSince.getD now), overSince := none } }

/-- A source of the limit has changed: R133, then R134. -/
def limitChanged (s : State) : State := judgeSpeed (updateLimit s)

/-! ### Press outputs (R379, R491, R547, R553) -/

/-- R553: a condition asserts FAULT_n on a chip that answers for it. -/
def faultCondition (s : State) : Bool :=
  s.faults.active.any (fun f => 2 ≤ f.cls) || 0 < s.power.wakeUnraised || s.power.suspended || s.start.retryAt.isSome ||
  s.start.recovery || s.start.factoryBad || (s.start.step != 9 && !s.power.down && s.power.state != 4 && cfgN s 0xA000 0 == 0)

/-- FAULT_n asserted: a wheeler drives the level of the last heartbeat (R491, R553). -/
def faultN (s : State) : Bool :=
  if isWheeler s then (s.pair.heartbeat.map (·.faultN)).getD false else faultCondition s && s.pair.state != 1

/-- STOP_REQ_n asserted (R379, R491, R547). -/
def stopReqN (s : State) : Bool :=
  if isWheeler s then (s.pair.heartbeat.map (·.stopReq)).getD false
  else (s.faults.stopHold || s.faults.stopRein || s.faults.stopLost) && s.pair.state != 1

/-- INK_EN asserted at the ball's drive (R491, R521, R548). -/
def inkEnN (s : State) : Bool :=
  if isWheeler s then (s.pair.heartbeat.map (·.inkEn)).getD false else s.faults.inkEn && s.pair.state != 1

/-- HEAD_PWR_EN asserted at the ball's drive. -/
def headPwrN (s : State) : Bool :=
  if isWheeler s then (s.pair.heartbeat.map (·.headPwr)).getD false else s.faults.headPwr && s.pair.state != 1

/-- LEAD_n asserted (R467, R469). -/
def leadAsserted (s : State) : Bool := s.pair.state == 0 || s.pair.leadN

/-! ### Rein-back abandonment (R387, R388) -/

/-- R381: DETAIL of a rein-back event. -/
def reinDetail (s : State) (reason step : Nat) (v : Int) : BitVec 96 :=
  detail (s.rein.count.toNat % 256) reason (s.rein.cause * 256 + step) v

/-- R382: the step that a state belongs to. -/
def reinStep (s : State) : Nat :=
  match s.rein.state with
  | 1 => 2
  | 2 => 3
  | 3 => 4
  | 4 => 6
  | _ => 1

/-- R388: change the newest splice record. -/
def updateSplice (f : Splice → Splice) (s : State) : State :=
  match s.rein.splices with
  | x :: r => { s with rein := { s.rein with splices := f x :: r } }
  | [] => s

/-- The held rows. -/
def heldRows (s : State) : List Nat := (List.range 128).filter (fun u => (s.row u).held)

/-- R336, R387: the defect entries of a row's held lines carry ACTION 0. -/
def settleEntries (h : Nat) (a b : Int) (s : State) : State :=
  { s with fire := { s.fire with defects := s.fire.defects.map (fun d =>
      if d.head = h ∧ d.action = 2 ∧ a ≤ d.first ∧ d.first ≤ b then { d with action := 0 } else d) } }

/-- R387: a held row leaves the held set: its mark rises to the fire position of its last line at or below the greater of W
and LPOS, and the lines passed over count as skipped; `log` enters those not yet in the defect log with ACTION 0. -/
def skipRow (log : Bool) (u : Nat) (s : State) : State :=
  let x := max s.gait.w (lpos s)
  let old := rowNext s u
  let last := lineAt s u x
  let r := s.row u
  if old ≤ last then
    let s := s.setRow u { r with held := false, resumed := true, lateRun := 0, lastLine := some last, mark := some (firePos s u last), pred := none }
    let s := settleEntries (u / 2) old last { s with rein := { s.rein with skipped := s.rein.skipped + (last - old + 1).toNat } }
    if log then
      forAll (List.range (last - r.heldLogged).toNat) (fun i s => logLateLine (u / 2) (r.heldLogged + 1 + i) r.heldCause 0 s) s
    else s
  else s.setRow u { r with held := false, resumed := true, lateRun := 0 }

/-- R390: an abort at `L`: the held rows whose next line is at or above L leave the held set and print nothing more. -/
def reinAbort (L : Int) (s : State) : State :=
  let s := forAll ((heldRows s).filter (fun u => decide (L ≤ rowNext s u))) (fun u s =>
    let last := max (rowNext s u - 1) (lineAt s u (max s.gait.w (lpos s)))
    s.setRow u { s.row u with held := false, resumed := true, lateRun := 0, lastLine := some last, mark := some (firePos s u last), pred := none }) s
  if s.rein.state = 0 then s
  else updateSplice (fun x => { x with held := (heldRows s).length }) s

/-- R389: the REIN record of what now stands, its timers in device time. -/
def reinRecord (s : State) : ReinRec :=
  let at_ := fun (t : Nat) => (t : Int) + s.time.epoch
  { state := s.rein.state, target := s.rein.target, wOld := s.rein.wOld, stopAt := at_ s.rein.stopAt, revAt := at_ s.rein.revAt, holdAt := at_ s.rein.holdAt
    runAt := at_ s.rein.runAt, held := (heldRows s).map (fun u => (u, (s.row u).heldCause, (s.row u).heldLine)), cause := s.rein.cause, first := s.rein.first }

/-- R389: the lead mirrors a step of the rein-back. -/
def mirrorRein (s : State) : State := mirror (.rein (reinRecord s)) s

/-- R387: the rein-back is abandoned. -/
def reinAbandon (reason : Nat) (s : State) : State :=
  if s.rein.state = 0 then s else
    let step := reinStep s
    let s := forAll (heldRows s) (skipRow (reason != 6)) s
    let s := { s with rein := { s.rein with state := 0 }, faults := { s.faults with stopRein := false } }
    let s := updateSplice (fun x => { x with outcome := 3, reason := reason }) s
    let s := ev 0x4024 (reinDetail s reason step s.rein.skipped) s (line := atLine s.rein.first)
    mirrorLogs (mirrorRein s)

/-! ### Tandem: giving up lead (R483 to R485, R493) -/

/-- R365: RELEASE once on every ACTIVE lane. -/
def releaseLanes (s : State) : State :=
  forAll (headNums.filter (fun h => (s.lane h).state == 6)) (fun h s => emit (.release h s.pair.epoch) s) s

/-- R463, R482: the commands that a wheeler accepts. -/
def chipLocalCmd (i : Nat) : Bool := [0xC030, 0xC031, 0xC032, 0xC033, 0xC034, 0xC035, 0xC073, 0xC082, 0xC083, 0xC090, 0xC091, 0xC0B0, 0xC0B1, 0xC0B2].contains i

/-- R482: the objects that a wheeler lets a host write or claim. -/
def chipLocal (i : Nat) : Bool :=
  (0x1000 ≤ i && i < 0x2000) || (0x3000 ≤ i && i < 0x4000) || (0xA000 ≤ i && i < 0xC000) || (0xE000 ≤ i) ||
  (0x5000 ≤ i && i ≤ 0x5059) || (0x9000 ≤ i && i ≤ 0x903F)

/-- R493: host state on the chip that gives up lead. -/
def dropHostState (s : State) : State :=
  let s := settleWithheld (fun _ => true) (fun r => if r.opcode = 5 then { r with code := 0x040B, body := .none } else r) s
  let s := forAll ((runningHandles s).filter (fun i => !chipLocalCmd (s.handle i).cmd && (s.handle i).cmd != 0xC092)) (fun i => completeHandle i 0x0404 0) s
  let s := forAll (List.range 8) (fun i s => s.setSess i { s.sess i with staging := [] }) s
  { s with proto := { s.proto with claims := s.proto.claims.filter (fun c => chipLocal c.first) } }

/-- R485: the lead gives up lead on trigger `code`; `silent` when the links no longer run (R483). -/
def leadRelease (code : Nat) (silent : Bool) (s : State) : State :=
  let s := if silent then s else sendRecord (.release code) (releaseLanes s)
  let s := { s with pair := { s.pair with leadN := false } }
  let s := dropHostState s
  if code = 8 ∨ code = 9 then setPairState 4 0 s else setPairState 6 6 s

/-- R467, R488, R490: a wheeler is HELD; a wheeler that leaves STANDBY releases the heads it owns (R489). -/
def holdWheeler (reason : Nat) (s : State) : State :=
  if !isWheeler s then s
  else
    let s := if s.pair.state = 5 then
        forAll (headNums.filter (fun h => tget 0 s.pair.owner h == 1)) (fun h s => emit (.release h s.pair.epoch) s) s
      else s
    setPairState 6 reason s

/-! ### Faults (R546 to R554, R563) -/

/-- R546: the highest class among the active faults. -/
def faultClass (s : State) : Nat := s.faults.active.foldl (fun a f => max a f.cls) 0

/-- R564: DETAIL of a fault event. -/
def faultDetail (subject reason code : Nat) (v : Int) : BitVec 96 := detail subject reason code v

/-- R502: nominal voltages in mV by order 1..9. -/
def nominalMv (rail : Nat) : Nat := [0, 1800, 1100, 400, 800, 750, 800, 1800, 850, 1200].getD rail 0

/-- R550: a rail's voltage lies within ±5 % of nominal. -/
def railGood (rail mv : Nat) : Bool := decide (20 * ((mv : Int) - nominalMv rail).natAbs ≤ nominalMv rail)

/-- R562: a fault of class 3 is still to come in this tick. -/
def failComing (s : State) : Bool :=
  (tickRest s).any (fun i => match i with
    | .regionFault .. => true
    | .refclkLoss .. => true
    | .supervisorUnreachable .. => true
    | .dieFault _ die => die.val != 2
    | .dieTemp _ logic _ supervisor => decide (120 ≤ logic) || decide (150 ≤ supervisor)
    | .pmbAlert _ rail _ mv => !railGood (rail + 1) mv
    | _ => false)

/-- R546: raise FAULT.CLASS when `Fault.Class` has changed, with the unit of the fault that changed it (R25); a hold and a fail fault
in one tick raise one event, for class 3 (R562). -/
def syncClass (code : Nat) (unit : BitVec 32) (s : State) : State :=
  let c := faultClass s
  if c = s.faults.cls then s
  else if c = 2 ∧ failComing s then { s with faults := { s.faults with cls := c } }
  else raise 0xB020 c (faultDetail 0xFF c code s.faults.active.length) { s with faults := { s.faults with cls := c } } (unit := unit)

/-- R547: entry to hold. Lines whose FIRE has left complete; predictions not yet sent are void. -/
def holdEntry (s : State) : State :=
  let s := { s with faults := { s.faults with stopHold := true } }
  let s := forAll (List.range 128) (fun u s => s.setRow u { s.row u with pred := none }) s
  fireStopped 7 (haltJob (reinAbandon 13 s))

/-- R548: entry to fail, beyond R547. -/
def failEntry (s : State) : State :=
  let s := releaseLanes s
  { s with faults := { s.faults with inkEn := false, headPwr := false, stopped := true } }

/-- R547, R548, R554: what a fault of class 2 or 3 does to printing. `trigger` is its code of R483, if it has one. -/
def classResponse (cls : Nat) (trigger : Option Nat) (silent : Bool) (s : State) : State :=
  if isWheeler s then
    let s := if cls = 3 then
        forAll (headNums.filter (fun h => tget 0 s.pair.owner h == 1)) (fun h s => emit (.release h s.pair.epoch) s) s
      else s
    holdWheeler 6 s
  else if s.pair.state = 3 ∧ trigger.isSome ∧ partnerStandby s then leadRelease (trigger.getD 0) silent s
  else
    let s := if s.faults.stopHold then s else holdEntry s
    if cls = 3 then failEntry s else s

/-- R546, R563: a fault is found. A fault already active with this code and unit stays one entry, at the higher class.
`respond` is false where a chapter's own response governs (R549); `exact` keeps the limits of R550 that one unit crosses apart by class. -/
def addFault (code cls level : Nat) (unit : BitVec 32) (s : State) (respond : Bool := true) (trigger : Option Nat := none)
    (silent : Bool := false) (exact : Bool := false) : State :=
  let counts := satAdd 32 s.faults.counts cls 1
  let s := { s with faults := { s.faults with counts := counts } }
  if cls = 0 then s else
    let same := fun (f : ActiveFault) => f.code == code && f.unit == unit && (!exact || f.cls == cls)
    let f : ActiveFault := ⟨code, cls, level, unit, devTime s, true⟩
    let act := if s.faults.active.any same then
        s.faults.active.map (fun g => if same g then { g with cls := max g.cls cls, cause := true } else g)
      else s.faults.active ++ [f]
    let s := { s with faults := { s.faults with active := act } }
    let s := if cls = 3 then lifeEvent 7 s else s
    let s := if 2 ≤ cls ∧ respond then classResponse cls trigger silent s else s
    syncClass code unit s

/-- R546, R550: the cause of a fault has gone: a fault of class 1 ends; one of class 2 waits for `Cmd.FaultClear`. -/
def causeGone (code : Nat) (unit : BitVec 32) (s : State) (only : Option Nat := none) : State :=
  let act := (s.faults.active.map (fun f => if f.code = code ∧ f.unit = unit ∧ only.getD f.cls = f.cls then { f with cause := false } else f)).filter
    (fun f => !(f.cls == 1 && !f.cause))
  syncClass code unit { s with faults := { s.faults with active := act } }

/-- R30: the remounts that a test picks end. -/
def endRemounts (sel : Nat → Engine → Bool) (s : State) : State :=
  forAll (List.range 36) (fun e s => if sel e (s.engine e) then s.setEngine e { s.engine e with remount := none } else s) s

/-- R33, R550: a die fault, class 3, with FAULT.DIE, which ends every remount (R30) (REASON 1 logic, 2 supervisor, 3 stack, 4 rail). -/
def dieFault (die reason cls : Nat) (v : Int) (trigger : Option Nat) (silent : Bool) (s : State) : State :=
  let s := endRemounts (fun _ _ => true) s
  let s := raise 0xB022 cls (faultDetail die reason 0 v) s (unit := unitDie die)
  addFault 0xB022 cls 5 (unitDie die) s (trigger := trigger) (silent := silent)

/-- After a hold has ended, each row goes on at the first line above W: lines whose send time fell in the hold are never
generated (R547; assumption log 12). -/
def resumeRows (s : State) : State :=
  forAll (List.range 128) (fun u s =>
    let last := lineAt s u (max s.gait.w (lpos s))
    if rowNext s u ≤ last ∧ (s.row u).lastLine.isSome then
      s.setRow u { s.row u with lastLine := some last, mark := some (firePos s u last), pred := none }
    else s) s

/-! ### Loss of position (R102, R128, R337) -/

/-- R108: DETAIL of an axis event. -/
def axisDetail (ch pair : Nat) (v : Int) : BitVec 96 := detail ch pair 0 v

/-- R102: position is lost: no new lines, the loss policy, the job halts, the queue empties. `why` is VALUE of AXIS.LOST. -/
def losePosition (why : Nat) (s : State) : State :=
  let s := { s with axis := { s.axis with state := 2, confidence := false } }
  let s := ev 0x4006 (axisDetail s.axis.source 0xFF why) s (unit := unitDie 1)
  let s := reinAbandon 6 s
  let s := if cfgN s 0x4027 0 = 0 then
      ev 0x4020 (detail (s.rein.count.toNat % 256) 0 0 (lposOf (lpos s))) { s with faults := { s.faults with stopLost := true } }
    else s
  let s := forAll (List.range 128) (fun u s => s.setRow u { s.row u with pred := none }) s
  let s := fireStopped 6 (haltJob s)
  let s := addFault 0x4006 2 5 (unitDie 1) s (respond := false)
  mirrorAxis s 2 why

end Sys2Proof.Machine
end

