-- ==== Sys2Proof/Machine/Gait.lean ====
section
/-! DEFINITION. The gait generator: predictions and unpredicted fires (R115 to R118), the state of the job at a line (R122),
trigger outputs (R129, R130, R453), the dry queue (R127) and the end of a rein-back (R382). -/

namespace Sys2Proof.Machine

/-- R95: counts and time of the last interval of the source, when there is a velocity (R96, R117: v > 0). -/
def forwardPair (s : State) : Option (EdgePair × Int × Int) :=
  let c := srcChan s
  match c.last, c.prev with
  | some k, some k1 =>
    let dc := countDiff k.c k1.c
    let dt : Int := k.t - k1.t
    if !s.axis.stopped ∧ 2 ≤ c.sinceStop ∧ 0 < dc ∧ 0 < dt then some (k, dc, dt) else none
  | _, _ => none

/-- LPOS at the last count edge of the source, in 2^-32 line. -/
def edgePos (s : State) : Int :=
  let c := srcChan s
  match c.last with
  | some k => c.base.p0 + countDiff k.c c.base.c0 * c.gear
  | none => chanPos c s.time.now

/-- Position and firing are live: the axis is VALID, no hold stands and the data path runs (R102, R547, R548). -/
def gaitLive (s : State) : Bool := s.axis.state == 1 && !s.faults.stopHold && !s.faults.stopped && s.power.state == 0

/-- R378, R382: a held row generates nothing until the re-arm. -/
def rowMayFire (s : State) (u : Nat) : Bool := !(s.row u).held

/-- R116: the device time, in ps and a multiple of `step`, at which LPOS reaches `F`: a value halfway goes to the later multiple. -/
def predictTo (step : Nat) (k : EdgePair) (pk : Int) (dc dt : Int) (gear : Nat) (F : Int) : Int :=
  let den := dc * gear
  let num := k.t * den + (F - pk) * dt
  (2 * num + step * den) / (2 * step * den) * step

/-- R116: the instant of a head row: steps of 100 ps. -/
def predictAt (k : EdgePair) (pk : Int) (dc dt : Int) (gear : Nat) (F : Int) : Nat := (predictTo 100 k pk dc dt gear F).toNat

/-- R118: put an instant no sooner than T_u after the row's previous one; the move is turned into lines with v, and past
128/256 line the line is dropped. -/
def spaceInstant (s : State) (u : Nat) (tf tu su : Nat) (L : Int) (unp : Bool) : Prediction :=
  match (s.row u).lastFire with
  | some f =>
    if tf < f + tu then
      let moved := f + tu - tf
      let lines : Int := match forwardPair s with | some (_, dc, dt) => moved * dc * (srcChan s).gear / dt | none => 0
      ⟨L, f + tu, f + tu - su, unp, moved, lines / 65536, decide (2147483648 < lines)⟩
    else ⟨L, tf, tf - su, unp, 0, 0, false⟩
  | none => ⟨L, tf, tf - su, unp, 0, 0, false⟩

/-- R116 to R118: the prediction of the next line of row `u`, at an edge, and after a line that was generated between two edges from the same pairs
(assumption log 37). An instant already fixed stays. A line without a usable prediction is generated now, and is counted. -/
def predictRow (u : Nat) (s : State) : State :=
  let r := s.row u
  let now := s.time.now
  let fixed : Bool := match r.pred with | some p => decide (p.ts ≤ now) || (p.unpredicted && p.line == rowNext s u) | none => false
  if fixed then s
  else if !gaitLive s ∨ !rowMayFire s u then s.setRow u { r with pred := none }
  else
    let L := rowNext s u
    let e := envAt s L
    if !rowActive e u then s.setRow u { r with pred := none } else
    let F := firePos s u L
    let su := sendLead s (u / 2)
    let tu := minPeriod s e (u / 2)
    let atOnce := { s with gait := { s.gait with unpredicted := s.gait.unpredicted + 1 } }.setRow u
      { r with pred := some (spaceInstant s u (now + su) tu su L true) }
    if F ≤ edgePos s then atOnce
    else match forwardPair s with
      | none => s.setRow u { r with pred := none }
      | some (k, dc, dt) =>
        let tf := predictAt k (edgePos s) dc dt (srcChan s).gear F
        if tf < now + su then atOnce
        else s.setRow u { r with pred := some (spaceInstant s u tf tu su L false) }

/-- R122: the action of `Job.Control` that a commit carries. -/
def jobAction (c : Commit) : Option Nat := (writeOf c.writes 0x4061 0).map (fun v => (Val.int v).toNat)

/-- R122: the state after an action; a drain that has not ended counts as a drain. -/
def jobAfter (st : Nat) (a : Option Nat) : Nat :=
  match a with
  | some 1 => 1
  | some 2 => 2
  | some 3 => 0
  | _ => st

/-- R122: the job state that will hold at line `L`: `Job.State` with the accepted actions at or below L in generation order. An abort counts as
IDLE from its line on, one that rows have yet to pass too. -/
def jobAt (s : State) (L : Int) : Nat :=
  let now := if s.gait.abortAt.isSome then 0 else s.gait.job
  ((pendingCommits s).filter (fun c => c.line ≤ L)).foldl (fun st c => jobAfter st (jobAction c)) now

/-- R122: an action is allowed in a state. -/
def actionAllowed (a st : Nat) : Bool :=
  match a with
  | 1 => st == 0 || st == 3
  | 2 => st == 1
  | 3 => st == 1 || st == 2
  | _ => false

/-- R125: line `L` lies in the print of a job: the job that governs it runs or drains, or it lies below an abort that rows have yet to pass. -/
def linePrints (s : State) (L : Int) : Bool :=
  (match s.gait.abortAt with | some a => decide (L < a) | none => false) || jobAt s L == 1 || jobAt s L == 2

/-- R127: LINE.QUEUE_DRY, once for each append. -/
def checkDry (s : State) : State :=
  match s.gait.pages.getLast? with
  | none => s
  | some p =>
    let e := p.first + p.lines + p.gap
    if s.gait.job = 1 ∧ !s.gait.dryRaised ∧ e ≤ lineOf (pPos s) + commitHorizon s then
      ev 0x4011 (lineDetail 0 e) { s with gait := { s.gait with dryRaised := true } }
    else s

/-! ### Trigger outputs -/

/-- The values that govern trigger outputs: those whose line W has reached (R129, R453). -/
def trigEnv (s : State) : Env := envAt s (lineOf s.gait.w)

/-- R453: MODE of an output; R396: an output named by an enabled camera port is driven by inspection instead. -/
def trigMode (s : State) (n : Nat) : Nat :=
  let e := trigEnv s
  let cam := (List.range 4).any (fun c => bitOn (e.int 0x8000 c) 0 && (bits (e.int 0x8000 c) 16 8 == n || bits (e.int 0x8000 c) 8 8 == n))
  if cam then 0 else bits (e.int 0x9040 n) 0 2

/-- R129: the first occurrence position above `x`. -/
def occurAbove (first period x : Int) : Option Int :=
  if x < first then some first
  else if period ≤ 0 then none
  else some (first + ((x - first) / period + 1) * period)

/-- The trigger objects. -/
def trigObjects : List Nat := [0x4070, 0x4071, 0x4073, 0x9040, 0x9041, 0x9042]

/-- R131: the outputs whose parameters a commit changes, at its line. -/
def trigsOf (c : Commit) : List Nat :=
  (List.range 8).filter (fun n => c.writes.any (fun w => trigObjects.contains w.idx && w.sub == n))

/-- R120, R129: the next occurrence position of an output in position mode. One at or above the line of an accepted change of its parameters is not
produced under the old ones (R131). -/
def trigNextPos (s : State) (n : Nat) : Option Int :=
  let e := trigEnv s
  let t := s.trig n
  (occurAbove (ofLpos (e.int 0x4070 n)) (ofLpos (e.int 0x4071 n)) (max (t.mark.getD t.skipBelow) t.skipBelow)).filter
    (fun F => !(pendingCommits s).any (fun c => decide (c.line * oneLine ≤ F) && (trigsOf c).contains n))

/-- R453: T_k in ps of device time. -/
def trigTime (s : State) (n k : Nat) : Int :=
  let e := trigEnv s
  (e.int 0x9041 n + k * e.int 0x9042 n) * 1000

/-- R129, R453: pulse width in ps. -/
def trigWidth (s : State) (n : Nat) : Nat :=
  let e := trigEnv s
  let w := e.nat 0x4073 n
  if trigMode s n = 2 ∧ e.nat 0x9042 n ≠ 0 then min w (e.nat 0x9042 n / 2) * 1000 else w * 1000

/-- R130: `m` occurrences are lost: counted, and reported at most once per second for each output. -/
def trigMiss (n m : Nat) (s : State) : State :=
  if m = 0 then s else
    let t := s.trig n
    let t' := { t with missed := t.missed + BitVec.ofNat 16 m }
    let due := match t.missRaised with | some x => decide (x + sec ≤ s.time.now) | none => true
    if due then ev 0x4015 (lineDetail n t'.missed.toNat) (s.setTrig n { t' with missRaised := some s.time.now })
    else s.setTrig n t'

/-- R453: number of the first occurrence at or after a device time, in ps. -/
def trigIndexFrom (first period : Int) (x : Int) : Nat :=
  if x ≤ first * 1000 then 0
  else if period ≤ 0 then 1
  else ((x - first * 1000 + period * 1000 - 1) / (period * 1000)).toNat

/-- R129, R453: parameters of output `n` take effect: occurrences at or below W, or less than 2 µs ahead, are skipped; a
one-shot in the past and the earlier times count as missed. A pulse that is asserted completes (R459). -/
def trigChanged (n : Nat) (s : State) : State :=
  let e := trigEnv s
  let t := s.trig n
  let s := s.setTrig n { t with skipBelow := s.gait.w, k := 0, pred := none }
  match trigMode s n with
  | 1 => if e.int 0x4071 n = 0 ∧ ofLpos (e.int 0x4070 n) ≤ s.gait.w then trigMiss n 1 s else s
  | 2 =>
    let k := trigIndexFrom (e.int 0x9041 n) (e.int 0x9042 n) (devTime s + 2 * us)
    trigMiss n k (s.setTrig n { s.trig n with k := k })
  | _ => s

/-! ### Instants of triggers and frames (R119) -/

/-- The data path and the trigger outputs run (R102, R523). -/
def trigsRun (s : State) : Bool := decide (s.power.state ≤ 1)

/-- R119: the instant of the occurrence at position `F`, `early` ps before LPOS reaches it, to 1 ns. It is fixed `lead` ps ahead, and an instant
already fixed stays; without a usable prediction the occurrence comes `lead` after this moment (R117). -/
def unitInstant (s : State) (lead early : Nat) (old : Option (Int × Nat)) (F : Int) : Option (Int × Nat) :=
  let soonest := s.time.now + lead
  let fixed := match old with | some x => x.1 == F && decide (x.2 ≤ soonest) | none => false
  if fixed then old
  else if F ≤ edgePos s then some (F, ceilDiv soonest 1000 * 1000)
  else (forwardPair s).map (fun x =>
    let t := predictTo 1000 x.1 (edgePos s) x.2.1 x.2.2 (srcChan s).gear F - early
    (F, if t < soonest then ceilDiv soonest 1000 * 1000 else t.toNat))

/-- R119, R129: the prediction of an output's next occurrence. -/
def predictTrig (n : Nat) (s : State) : State :=
  let t := s.trig n
  let next := if trigsRun s && s.axis.state == 1 && trigMode s n == 1 then trigNextPos s n else none
  s.setTrig n { t with pred := next.bind (unitInstant s Config.trigLead 0 t.pred) }

/-- R116, R119: predictions for every active row and trigger output. -/
def predictAll (s : State) : State :=
  let ahead := datumLine s + commitHorizon s
  forAll (List.range 8) predictTrig
    (forAll ((List.range 128).filter (fun u => rowActive (envNow s) u || rowActive (envAt s ahead) u)) predictRow s)

/-! ### The end of a rein-back (R382, R388) -/

/-- R382: in step 6 every held row has fired its next line and LPOS has regained W_old: the rein-back is done. -/
def checkReinDone (s : State) : State :=
  let all := (List.range 128).all (fun u => (s.row u).resumed)
  let back : Bool := match s.rein.wOld with | some w => decide (w ≤ lpos s) | none => true
  if s.rein.state == 4 && all && back then
    let s := { s with rein := { s.rein with state := 0, wOld := none } }
    let out := if s.rein.part then 2 else 1
    let s := updateSplice (fun x => { x with outcome := out }) s
    let held := (s.rein.splices.head?.map (·.held)).getD 0
    let s := ev 0x4023 (detail (s.rein.count.toNat % 256) (if s.rein.part then 1 else 0) (s.rein.cause * 256 + 6)
      (held * 4294967296 + s.rein.skipped % 4294967296)) s (line := atLine s.rein.first)
    mirrorLogs (mirrorRein s)
  else if s.rein.state == 0 && back then { s with rein := { s.rein with wOld := none } }
  else s

/-! ### Preset and re-arm of marks (R121) -/

/-- R121: each unit's next line or occurrence is the lowest whose position lies above W. -/
def marksFromW (s : State) : State :=
  let w := s.gait.w
  let s := forAll (List.range 128) (fun u s =>
    s.setRow u { s.row u with lastLine := some (lineAbove s u none w - 1), mark := some w, pred := none, lastFire := (s.row u).lastFire }) s
  let s := forAll (List.range 8) (fun n s => s.setTrig n { s.trig n with mark := none, skipBelow := w, pred := none }) s
  forAll (List.range 4) (fun c s => s.setCamPort c { s.camPort c with mark := some w, frameF := none, m := 0, frameTrig := false, rearmed := false
                                                                      pred := none }) s

end Sys2Proof.Machine
end

