-- ==== Sys2Proof/Machine/Blocks.lean ====
section
/-! DEFINITION. The blocks of the trace link that carry a check (R343, R346, R348 to R350, R607): CHK, CRC and the segments of a
line. -/

namespace Sys2Proof.Machine

/-- The low `n` bits of a number in transmission order, bit 0 first (R342). -/
def bitsLow (n v : Nat) : List Bool := (List.range n).map (fun i => decide (v / 2 ^ i % 2 = 1))

/-- R607: feed bits into a register of `w` bits. -/
def feedBits (w poly : Nat) (r : Nat) (bits : List Bool) : Nat :=
  bits.foldl (fun r m =>
    let top := decide (r / 2 ^ (w - 1) % 2 = 1)
    let r' := r * 2 % 2 ^ w
    if m != top then r' ^^^ poly else r') r

/-- R607: the field that holds the register, r[w−1] at its lowest bit. -/
def placeBits (w r : Nat) : Nat := (List.range w).foldl (fun a i => a + r / 2 ^ (w - 1 - i) % 2 * 2 ^ i) 0

/-- R343, R607: CHK of a control block over payload bits 0..55. -/
def chkField (content : Nat) : BitVec 8 := BitVec.ofNat 8 (placeBits 8 (feedBits 8 0x07 0 (bitsLow 56 content)))

/-- R350, R607: CRC of a group's data blocks. -/
def crcField (bits : List Bool) : BitVec 16 := BitVec.ofNat 16 (placeBits 16 (feedBits 16 0x1021 0xFFFF bits))

/-- R346: payload bits 55..0 of a FIRE block. -/
def fireContent (L : Int) (row fseq fine wave : Nat) (blank : Bool) : Nat :=
  0x55 + (L % 65536).toNat * 2 ^ 8 + row % 2 * 2 ^ 24 + (if blank then 2 ^ 25 else 0) + wave % 16 * 2 ^ 26 + fine % 512 * 2 ^ 30 + fseq % 256 * 2 ^ 39

/-- A control block (R343): payload bits 63..0 with CHK over the rest. -/
def controlBlock (content : Nat) : BitVec 64 := BitVec.ofNat 64 (content % 2 ^ 56 + (chkField content).toNat * 2 ^ 56)

/-- R348: payload bits 55..0 of a LINE_DATA block. -/
def lineDataContent (L : Int) (row seg count depth crc : Nat) : Nat :=
  0x4B + (L % 65536).toNat * 2 ^ 8 + row % 2 * 2 ^ 24 + seg % 128 * 2 ^ 25 + (count - 1) % 32 * 2 ^ 32 + depth % 4 * 2 ^ 37 + crc % 65536 * 2 ^ 39

/-- R355: payload bits 55..0 of a CONFIG block; OP 0 read, 1 write, 2 success, 3 error. -/
def configContent (op tag addr data : Nat) : Nat := 0x78 + op % 4 * 2 ^ 8 + tag % 16 * 2 ^ 10 + addr % 1024 * 2 ^ 14 + data % 2 ^ 32 * 2 ^ 24

/-- R356: payload bits 55..0 of a TRAIN block. -/
def trainContent (kind seq : Nat) : Nat := 0x87 + kind % 256 * 2 ^ 40 + seq % 256 * 2 ^ 48

/-- R357: payload bits 55..0 of a CAPS block. -/
def capsContent (index value : Nat) (last : Bool) : Nat :=
  0x99 + (if last then 2 ^ 8 else 0) + value % 2 ^ 32 * 2 ^ 16 + index % 256 * 2 ^ 48

/-- R365: payload bits 55..0 of a CLAIM or, with TYPE B4h, a RELEASE block. -/
def claimContent (type mode epoch : Nat) : Nat := type + epoch % 65536 * 2 ^ 8 + mode % 2 * 2 ^ 24

/-- R349: the string of the drop codes of a group: each code in `d` bits, least significant first. -/
def codeBits (d : Nat) (codes : List Nat) : List Bool := codes.flatMap (bitsLow d)

/-- R349: the nozzle indices of a row. -/
def rowRange (e : Env) (h r : Nat) : Nat × Nat :=
  let half := e.nat 0x7001 h / max 1 (rowCount e h)
  (r * half, half)

/-- R349, R350: the CRC words of a row's groups of 16 segments. -/
def groupCrcs (d : Nat) (codes : List Nat) : List (BitVec 16) :=
  (List.range ((codes.length + 1023) / 1024)).map (fun g => crcField (codeBits d ((codes.drop (1024 * g)).take 1024)))

/-- The number whose bits, least significant first, are these. -/
def bitsNat (bits : List Bool) : Nat := bits.foldr (fun b a => (if b then 1 else 0) + 2 * a) 0

/-- R349, R350: the groups of a row's line, from segment `seg0` on: LINE_DATA, then the data blocks of at most 16 segments. -/
def groupBlocks (L : Int) (row seg0 d : Nat) (codes : List Nat) : List (Bool × BitVec 64) :=
  (List.range ((codes.length + 1023) / 1024)).flatMap (fun g =>
    let part := (codes.drop (1024 * g)).take 1024
    let bits := codeBits d part
    let n := (part.length + 63) / 64
    (true, controlBlock (lineDataContent L row (seg0 + 16 * g) n d (crcField bits).toNat)) ::
      (List.range (n * d)).map (fun b => (false, BitVec.ofNat 64 (bitsNat ((bits.drop (64 * b)).take 64)))))

/-- R342 to R365: the blocks of an output on a lane, in order: whether each is a control block, and its payload before scrambling. `seg0`: the first
segment of the row. A training pattern is given by its one TRAIN block; 63 data blocks of zero payload follow it (R356). -/
def laneBlocks (seg0 : Nat) : Output → List (Bool × BitVec 64)
  | .fire _ row line fseq fine wave blank _ => [(true, controlBlock (fireContent line row fseq.toNat fine wave blank))]
  | .lineData _ row line d codes _ => groupBlocks line row seg0 d codes
  | .skip _ => [(true, controlBlock 0x33)]
  | .claim _ mode epoch => [(true, controlBlock (claimContent 0xAA mode epoch.toNat))]
  | .release _ epoch => [(true, controlBlock (claimContent 0xB4 0 epoch.toNat))]
  | .config _ tag write addr data => [(true, controlBlock (configContent (if write then 1 else 0) tag addr data.toNat))]
  | .train _ kind seq => [(true, controlBlock (trainContent kind seq.toNat))]
  | .caps _ words => (words.zip (List.range words.length)).map (fun w => (true, controlBlock (capsContent w.2 w.1 (w.2 + 1 == words.length))))
  | _ => []

/-- R342: the sync header, H0 then H1. -/
def syncHeader (control : Bool) : Bool × Bool := (control, !control)

/-- R342: the self-synchronous scrambler x⁵⁸ + x³⁹ + 1 over a payload, bit 0 first; `reg` holds the 58 bits sent last, the newest first. -/
def scramble (reg : List Bool) (payload : List Bool) : List Bool × List Bool :=
  payload.foldl (fun a b =>
    let c := b ^^ (a.1.getD 38 false ^^ a.1.getD 57 false)
    ((c :: a.1).take 58, a.2 ++ [c])) (reg, [])

/-- R342: its inverse, which the receiver runs over the bits as they arrive. -/
def descramble (reg : List Bool) (sent : List Bool) : List Bool × List Bool :=
  sent.foldl (fun a c => ((c :: a.1).take 58, a.2 ++ [c ^^ (a.1.getD 38 false ^^ a.1.getD 57 false)])) (reg, [])

/-! ### Upstream blocks -/

/-- R607: the check that a receiver makes of a control block. -/
def chkPasses (payload : BitVec 64) : Bool := feedBits 8 0x07 0 (bitsLow 64 payload.toNat) == 0

/-- R344: the TYPEs that travel upstream. -/
def upTypes : List Nat := [0x33, 0x66, 0x78, 0x87, 0x99]

/-- R342 to R344, R374: the element of `Trace.Stats` that counts a discarded upstream block; none for a block that is taken. `sync`: the header,
none when it is invalid, true for a control block. A data block stands in no group: groups travel downstream only. -/
def blockFault (sync : Option Bool) (payload : BitVec 64) : Option Nat :=
  match sync with
  | none => some 3
  | some false => some 7
  | some true => if !chkPasses payload then some 0 else if upTypes.contains (payload.toNat % 256) then none else some 7

/-! ### Management blocks (R350) -/

/-- R350: a line period of the head runs: a FIRE of one of its rows is to come on an ACTIVE lane. -/
def periodRuns (s : State) (h : Nat) : Bool := (s.lane h).state == 6 && ((s.row (2 * h)).pred.isSome || (s.row (2 * h + 1)).pred.isSome)

/-- R355: a CONFIG block leaves: its request is outstanding from now. -/
def sendMgmt (h : Nat) (o : Output) (s : State) : State :=
  match o with
  | .config _ t _ _ _ =>
    let x := s.lane h
    emit o (s.setLane h { x with requests := x.requests.map (fun r => if r.tag = t then { r with sentAt := s.time.now } else r) })
  | _ => emit o s

/-- R350: at most one management block in a line period; all of them at once outside one. -/
def flushMgmt (h : Nat) (s : State) : State :=
  let x := s.lane h
  if !periodRuns s h then forAll x.mgmt (sendMgmt h) (s.setLane h { x with mgmt := [], mgmtSent := false })
  else if x.mgmtSent then s
  else match x.mgmt with
    | [] => s
    | o :: r => sendMgmt h o (s.setLane h { x with mgmt := r, mgmtSent := true })

/-- R350: send a CONFIG or TRAIN block as soon as the line period allows it. -/
def queueMgmt (h : Nat) (o : Output) (s : State) : State := flushMgmt h (s.setLane h { s.lane h with mgmt := (s.lane h).mgmt ++ [o] })

/-- R350: a FIRE of row `u` begins a line period of its head; the second row's does so where the first has none to come. -/
def newPeriod (u : Nat) (s : State) : State :=
  let h := u / 2
  if u % 2 = 1 ∧ (s.row (2 * h)).pred.isSome then s else flushMgmt h (s.setLane h { s.lane h with mgmtSent := false })

end Sys2Proof.Machine
end

