-- ==== Sys2Proof/Machine/Raster.lean ====
section
/-! DEFINITION. The raster coding format (R228 to R240): the stripe header, the decoding of a line (R239) and the encoder
(R253), on plain lists of bits and pixels. -/

namespace Sys2Proof.Machine

/-! ### Bits -/

/-- The bits of bytes, most significant first (R234). -/
def bitsOf (b : List Byte) : List Bool := b.flatMap (fun x => (List.range 8).map (fun i => x.getLsbD (7 - i)))

/-- R239 take: the next n bits as a number; none past the end (SHORT). -/
def takeBits : Nat → List Bool → Option (Nat × List Bool)
  | 0, l => some (0, l)
  | _ + 1, [] => none
  | n + 1, b :: r => (takeBits n r).map (fun x => ((if b then 2 ^ n else 0) + x.1, x.2))

/-- R239 rice: q one-bits of at most 16. -/
def riceOnes : Nat → List Bool → Option (Nat × List Bool)
  | 0, l => some (0, l)
  | _ + 1, [] => none
  | _ + 1, false :: r => some (0, r)
  | n + 1, true :: r => (riceOnes n r).map (fun x => (x.1 + 1, x.2))

/-- R239 rice. -/
def rice (k B : Nat) (l : List Bool) : Option (Nat × List Bool) :=
  match riceOnes 16 l with
  | none => none
  | some (q, r) => if q = 16 then takeBits B r else (takeBits k r).map (fun x => (q * 2 ^ k + x.1, x.2))

/-- R239 unzig. -/
def unzig (u : Nat) : Int := if u % 2 = 0 then (u / 2 : Nat) else -(((u + 1) / 2 : Nat) : Int)

/-! ### Prediction (R236, R237) -/

/-- The prediction of the pixel at column `x`; `out` holds the line so far, newest first; an empty `above` is zeros. -/
def predict (P : Nat) (above out : List Nat) (x : Nat) : Int :=
  let b : Int := above.getD x 0
  let a : Int := if x = 0 then b else out.headD 0
  let c : Int := if x = 0 then b else above.getD (x - 1) 0
  match P with
  | 0 => a
  | 1 => b
  | 2 => (a + b) / 2
  | _ => if max a b ≤ c then min a b else if c ≤ min a b then max a b else a + b - c

/-- Run pixels: each equals its prediction. -/
def runPixels (P : Nat) (above : List Nat) : Nat → List Nat → List Nat
  | 0, out => out
  | n + 1, out => runPixels P above n ((predict P above out out.length).toNat :: out)

/-- Predicted pixels of a segment. -/
def codedPixels (P k B : Nat) (above : List Nat) : Nat → List Nat → List Bool → Option (List Nat × List Bool)
  | 0, out, l => some (out, l)
  | n + 1, out, l =>
    match rice k B l with
    | none => none
    | some (u, r) =>
      let x := ((predict P above out out.length + unzig u) % (2 ^ B : Nat)).toNat
      codedPixels P k B above n (x :: out) r

/-- Raw pixels. -/
def rawPixels (B : Nat) : Nat → List Nat → List Bool → Option (List Nat × List Bool)
  | 0, out, l => some (out, l)
  | n + 1, out, l =>
    match takeBits B l with
    | none => none
    | some (v, r) => rawPixels B n (v :: out) r

/-- What a line decodes to: error code of R241 (0 none), segment of the error, pixels. -/
structure LineOut where
  err : Nat
  seg : Nat
  pixels : List Nat
  deriving DecidableEq, Repr

/-- R239: decode the segments of a line from segment `j` on; `fuel` bounds the segments left. -/
def decodeSegs (segs B : Nat) (above : List Nat) : Nat → Nat → List Nat → List Bool → LineOut
  | 0, _, out, l => if 8 ≤ l.length then ⟨6, segs, []⟩ else ⟨0, 0, out.reverse⟩
  | fuel + 1, j, out, l =>
    if segs ≤ j then (if 8 ≤ l.length then ⟨6, segs, []⟩ else ⟨0, 0, out.reverse⟩)
    else match takeBits 2 l with
      | none => ⟨5, j, []⟩
      | some (3, r) =>
        decodeSegs segs B above fuel (j + 1) ((List.range 64).foldl (fun o i => above.getD (64 * j + i) 0 :: o) out) r
      | some (2, r) =>
        match rawPixels B 64 out r with
        | none => ⟨5, j, []⟩
        | some (o, r) => decodeSegs segs B above fuel (j + 1) o r
      | some (1, r) =>
        match takeBits 2 r with
        | none => ⟨5, j, []⟩
        | some (P, r) => match takeBits 10 r with
          | none => ⟨5, j, []⟩
          | some (n1, r) =>
            if segs < j + (n1 + 1) then ⟨7, j, []⟩
            else decodeSegs segs B above fuel (j + (n1 + 1)) (runPixels P above (64 * (n1 + 1)) out) r
      | some (_, r) =>
        match takeBits 2 r with
        | none => ⟨5, j, []⟩
        | some (P, r) => match takeBits 4 r with
          | none => ⟨5, j, []⟩
          | some (k, r) => match codedPixels P k B above 64 out r with
            | none => ⟨5, j, []⟩
            | some (o, r) => decodeSegs segs B above fuel (j + 1) o r

/-- R239: decode one line from its bytes. -/
def decodeLine (segs B : Nat) (above : List Nat) (line : List Byte) : LineOut :=
  decodeSegs segs B above segs 0 [] (bitsOf line)

/-! ### The stripe header (R229 to R233, R240) -/

/-- A parsed stripe header. -/
structure StripeHdr where
  magic : Nat
  version : Nat
  blank : Bool
  depth : Nat
  plane : Nat
  segs : Nat
  firstSeg : Nat
  lines : Nat
  blankValue : Nat
  codedLen : Nat
  stripe : Nat
  deriving DecidableEq, Repr

/-- R229. -/
def parseHdr (b : List Byte) : StripeHdr :=
  let v := beNat (b.take 24)
  let f := fun lo n => v / 2 ^ lo % 2 ^ n
  ⟨f 176 16, f 168 8, f 167 1 == 1, if f 166 1 = 1 then 10 else 8, f 152 4, f 128 16, f 112 16, f 96 16, f 80 16, f 32 32, f 0 32⟩

/-- R230: the header is invalid for a stripe of `len` bytes. -/
def hdrInvalid (h : StripeHdr) (len : Nat) : Bool :=
  h.magic ≠ 0x4C47 ∨ h.version ≠ 1 ∨ h.segs = 0 ∨ 1024 < h.segs ∨ 1024 < h.firstSeg + h.segs ∨ h.lines = 0 ∨ 4096 < h.lines ∨
  (h.blank ∧ (h.codedLen ≠ 0 ∨ 2 ^ h.depth ≤ h.blankValue)) ∨ (!h.blank ∧ h.codedLen < h.lines * 5) ∨
  (24 + h.codedLen + 63) / 64 * 64 ≠ len

/-- R233: entry i of the line table of a body. -/
def tableEntry (body : List Byte) (i : Nat) : Nat := beNat ((body.drop (4 * i)).take 4)

/-- R233: the table breaks a rule. -/
def tableBad (h : StripeHdr) (body : List Byte) : Bool :=
  let t := (List.range h.lines).map (tableEntry body)
  t.headD 0 ≠ h.lines * 4 ∨ (t.zip t.tail).any (fun x => decide (x.2 ≤ x.1)) ∨ h.codedLen ≤ t.getLastD 0

/-- R240: the expansion cap is broken. -/
def capBroken (h : StripeHdr) (cap : Nat) : Bool :=
  !h.blank && decide (cap * 8 * h.codedLen < h.segs * 64 * h.lines * h.depth)

/-- The bytes of line i of a body. -/
def lineBytes (h : StripeHdr) (body : List Byte) (i : Nat) : List Byte :=
  let a := tableEntry body i
  let z := if i + 1 < h.lines then tableEntry body (i + 1) else h.codedLen
  (body.drop a).take (z - a)

/-- R232, R239: line i of a stripe, from the stripe's bytes and the line above. -/
def stripeLine (h : StripeHdr) (bytes : List Byte) (i : Nat) (above : List Nat) : LineOut :=
  if h.blank then ⟨0, 0, List.replicate (h.segs * 64) h.blankValue⟩
  else decodeLine h.segs h.depth above (lineBytes h (bytes.drop 24) i)

/-! ### The encoder (R253) -/

/-- R238: the mapped residue of a pixel. -/
def zigzag (B : Nat) (x : Nat) (p : Int) : Nat :=
  let e := ((x - p) % (2 ^ B : Nat)).toNat
  if e < 2 ^ (B - 1) then 2 * e else 2 * (2 ^ B - e) - 1

/-- R238: length of a code. -/
def riceLen (B k u : Nat) : Nat := if u / 2 ^ k < 16 then u / 2 ^ k + 1 + k else 16 + B

/-- The low n bits of v, most significant first. -/
def bitList : Nat → Nat → List Bool
  | 0, _ => []
  | n + 1, v => (decide (v / 2 ^ n % 2 = 1)) :: bitList n v

/-- R238: a code. -/
def riceCode (B k u : Nat) : List Bool :=
  let q := u / 2 ^ k
  if q < 16 then List.replicate q true ++ [false] ++ bitList k u else List.replicate 16 true ++ bitList B u

/-- Predictions of 64 pixels of segment j of a line under predictor P: pairs of pixel and prediction. -/
def segPreds (P : Nat) (above line : List Nat) (j : Nat) : List (Nat × Int) :=
  (List.range 64).map (fun i =>
    let x := 64 * j + i
    (line.getD x 0, predict P above (if x = 0 then [] else [line.getD (x - 1) 0]) x))

/-- R253 step 1: the k that gives the shortest code of a segment under P, and that length. -/
def bestK (B : Nat) (us : List Nat) : Nat × Nat :=
  (List.range 16).foldl (fun acc k =>
    let n := us.foldl (fun a u => a + riceLen B k u) 0
    if k = 0 ∨ n < acc.2 then (k, n) else acc) (0, 0)

/-- R253 step 1: the shortest candidate of a segment, the first in the order Repeat, Raw, Predicted on a tie. -/
def segCandidate (B : Nat) (above line : List Nat) (j : Nat) : List Bool :=
  let seg := (List.range 64).map (fun i => line.getD (64 * j + i) 0)
  let up := (List.range 64).map (fun i => above.getD (64 * j + i) 0)
  let rep := if seg = up then [[true, true]] else []
  let raw := [[true, false] ++ seg.flatMap (bitList B)]
  let pred := (List.range 4).map (fun P =>
    let us := (segPreds P above line j).map (fun x => zigzag B x.1 x.2)
    let k := (bestK B us).1
    [false, false] ++ bitList 2 P ++ bitList 4 k ++ us.flatMap (riceCode B k))
  (rep ++ raw ++ pred).foldl (fun acc c => if acc.isEmpty ∨ c.length < acc.length then c else acc) []

/-- Segments from j on in which every pixel equals its prediction under P. -/
def runLength (P : Nat) (above line : List Nat) (segs : Nat) : Nat → Nat → Nat
  | 0, _ => 0
  | n + 1, j => if segs ≤ j ∨ !((segPreds P above line j).all (fun x => decide ((x.1 : Int) = x.2))) then 0
                else 1 + runLength P above line segs n (j + 1)

/-- R253 step 2: the bits of a line from segment j on. -/
def encodeSegs (segs B : Nat) (above line : List Nat) : Nat → Nat → List Bool
  | 0, _ => []
  | fuel + 1, j =>
    if segs ≤ j then [] else
      let runs := (List.range 4).map (fun P => (P, runLength P above line segs 1024 j))
      let best := runs.foldl (fun a r => if a.2 < r.2 then r else a) (0, 0)
      let sum := (List.range best.2).foldl (fun a i => a + (segCandidate B above line (j + i)).length) 0
      if 0 < best.2 ∧ 14 < sum then
        [false, true] ++ bitList 2 best.1 ++ bitList 10 (best.2 - 1) ++ encodeSegs segs B above line fuel (j + best.2)
      else segCandidate B above line j ++ encodeSegs segs B above line fuel (j + 1)

/-- Bits packed into bytes, the last padded with zeros; the count bounds the bytes. -/
def packBits : Nat → List Bool → List Byte
  | 0, _ => []
  | n + 1, l => if l.isEmpty then [] else
    BitVec.ofNat 8 ((List.range 8).foldl (fun a i => a * 2 + (if l.getD i false then 1 else 0)) 0) :: packBits n (l.drop 8)

/-- R253: the bytes of a line. -/
def encodeLine (segs B : Nat) (above line : List Nat) : List Byte :=
  let b := encodeSegs segs B above line segs 0
  packBits b.length b

/-- R229: header bytes. -/
def hdrBytes (h : StripeHdr) : List Byte :=
  natBytes 24 (h.magic * 2 ^ 176 + h.version * 2 ^ 168 + (if h.blank then 2 ^ 167 else 0) + (if h.depth = 10 then 2 ^ 166 else 0) +
    h.plane * 2 ^ 152 + h.segs * 2 ^ 128 + h.firstSeg * 2 ^ 112 + h.lines * 2 ^ 96 + h.blankValue * 2 ^ 80 + h.codedLen * 2 ^ 32 + h.stripe)

/-- Zero padding to a multiple of 64 bytes. -/
def pad64 (b : List Byte) : List Byte := b ++ List.replicate ((64 - b.length % 64) % 64) 0

/-- R253: the stripe that the encoder writes for the lines given, each of segs × 64 pixels. -/
def encodeStripe (B plane segs firstSeg stripe : Nat) (lines : List (List Nat)) : List Byte :=
  let v := (lines.headD []).headD 0
  if lines.all (fun l => l.all (· == v)) then
    pad64 (hdrBytes ⟨0x4C47, 1, true, B, plane, segs, firstSeg, lines.length, v, 0, stripe⟩)
  else
    let coded := (lines.zip ([] :: lines)).map (fun x => encodeLine segs B x.2 x.1)
    let table := (coded.foldl (fun (acc : List Nat × Nat) c => (acc.1 ++ [acc.2], acc.2 + c.length)) ([], 4 * lines.length)).1
    let body := table.flatMap (natBytes 4) ++ coded.flatten
    pad64 (hdrBytes ⟨0x4C47, 1, false, B, plane, segs, firstSeg, lines.length, 0, body.length, stripe⟩ ++ body)

/-! ### The arithmetic of screening (R259 to R269) -/

/-- R259. -/
def widen (B x : Nat) : Nat := if B = 10 then x * 4 + x / 256 else x * 16 + x / 16

/-- R261: the upsampled value from the four widened samples, phases a and b. -/
def upsample (edge : Bool) (a b : Nat) (c00 c10 c01 c11 : Nat) : Nat :=
  match a, b with
  | 0, 0 => c00
  | _ + 1, 0 => (c00 + c10 + 1) / 2
  | 0, _ + 1 => (c00 + c01 + 1) / 2
  | _ + 1, _ + 1 =>
    let dA := ((c00 : Int) - c11).natAbs
    let dB := ((c10 : Int) - c01).natAbs
    if edge ∧ dA < dB then (c00 + c11 + 1) / 2
    else if edge ∧ dB < dA then (c10 + c01 + 1) / 2
    else (c00 + c10 + c01 + c11 + 2) / 4

/-- R263. -/
def curveOf (y : List Nat) (g : Nat) : Nat :=
  let m := min (g / 585) 6
  let f : Int := g - 585 * m
  let y0 : Int := y.getD m 0
  let y1 : Int := y.getD (m + 1) 0
  (min (max (y0 + ((y1 - y0) * f + 292) / 585) 0) 4095).toNat

/-- R266: the level under the threshold method. -/
def thresholdLevel (ts : List Nat) (v : Nat) : Nat := (ts.filter (fun t => decide (16 * t + 8 ≤ v))).length

/-- R269: level and error of a diffused nozzle; `idle` for one that is dead, inhibited or absent. -/
def diffuseLevel (d : Nat) (idle : Bool) (v : Nat) (acc : Int) : Nat × Int :=
  let M := 2 ^ d - 1
  let s : Int := 4095 / M
  let x := v + acc
  let m : Int := if idle then 0 else min (max ((2 * x + s) / (2 * s)) 0) M
  (m.toNat, min (max (x - m * s) (-2048)) 2047)

/-- R268: DY, DX and WEIGHT of a tap word. -/
def tapOf (w : Int) : Nat × Int × Nat :=
  let dx := bits w 8 4
  (bits w 16 2, if 8 ≤ dx then (dx : Int) - 16 else dx, bits w 0 8)

/-- R274: the drop code of a level in a map word. -/
def dropOf (word : Int) (level : Nat) : Nat := bits word (3 * level) 3

end Sys2Proof.Machine
end

