-- ==== Sys2Proof/Machine/NozTab.lean ====
section
/-! DEFINITION. The nozzle table: the entry of a channel at a line (R294, R297, R308), its effective state (R296), the receivers of
a share (R299), stitch overlaps (R302), gathering (R300) and uncovered nozzles (R301). -/

namespace Sys2Proof.Machine

/-- R293: channels of a head. -/
abbrev headChans : Nat := 8192

/-- Head and nozzle index of a channel. -/
def chanHead (ch : Nat) : Nat := ch / headChans
def chanIndex (ch : Nat) : Nat := ch % headChans
def channel (h i : Nat) : Nat := h * headChans + i

/-- A change sets the fields that it carries. -/
def applyPatch (p : NozPatch) (d : NozDec) : NozDec :=
  { d with
    base := p.base.getD d.base
    inhHost := p.inhHost.getD d.inhHost
    inhThermal := p.inhThermal.getD d.inhThermal
    absent := p.absent.getD d.absent
    source := p.source.getD d.source
    curve := p.curve.getD d.curve
    wLeft := (p.weights.map (·.1)).getD d.wLeft
    wRight := (p.weights.map (·.2.1)).getD d.wRight
    wAlt := (p.weights.map (·.2.2)).getD d.wAlt
    dropMap := p.dropMap.getD d.dropMap }

/-- The change covers a channel. -/
def changeCovers (c : NozChange) (ch : Nat) : Bool := decide (c.channel ≤ ch) && decide (ch < c.channel + c.count)

/-- R310: a commit applies its changes in order. -/
def applyNozzles (c : Commit) (ch : Nat) (d : NozDec) : NozDec :=
  c.nozzles.foldl (fun d x => if changeCovers x ch then applyPatch x.fields d else d) d

/-- The decision fields of an entry at generation 0 (R313). -/
def nozBase (s : State) (ch : Nat) : NozDec := tget {} s.noz.base ch

/-- R308: the decision fields of an entry that govern line `L`; those that the checker test has written hold in their place (R222). -/
def nozAt (s : State) (L : Int) (ch : Nat) : NozDec :=
  match tget none s.noz.planted ch with
  | some d => d
  | none => (commitsAt s L).foldl (fun d c => applyNozzles c ch d) (nozBase s ch)

/-- R303, R309: the decision fields of the highest accepted generation. -/
def nozPend (s : State) (ch : Nat) : NozDec := s.proto.commits.foldl (fun d c => applyNozzles c ch d) (nozBase s ch)

/-- The counter fields of an entry (R297). -/
def nozCnt (s : State) (ch : Nat) : NozCnt := tget {} s.noz.cnt ch
def setNozCnt (ch : Nat) (c : NozCnt) (s : State) : State := { s with noz := { s.noz with cnt := tput {} s.noz.cnt ch c } }

/-- R296: ABSENT, by the flag of the entry or because the head has no such nozzle or no plane. -/
def absentAt (e : Env) (d : NozDec) (ch : Nat) : Bool :=
  d.absent || decide (e.nat 0x7001 (chanHead ch) ≤ chanIndex ch) || (planeOf e (chanHead ch)).isNone

/-- R296: the effective state code. -/
def effCode (e : Env) (d : NozDec) (ch : Nat) : Nat :=
  if absentAt e d ch then 4
  else if d.inhHost || d.inhThermal then 3
  else if d.base = 2 then 2
  else if d.base = 1 then 1
  else 0

/-- The effective state of a channel at line `L`. -/
def effAt (s : State) (L : Int) (ch : Nat) : Nat := effCode (envAt s L) (nozAt s L ch) ch

/-- Active or weak. -/
def firing (code : Nat) : Bool := decide (code ≤ 1)

/-! ### Columns of a plane -/

/-- R322: print column of a channel. -/
def chanColumn (e : Env) (ch : Nat) : Int := printColumn e (chanHead ch) (chanIndex ch)

/-- R322: cross-web position of a channel, times GridDpi, in 0.1 µm. -/
def chanCross (e : Env) (p ch : Nat) : Int :=
  let h := chanHead ch
  e.int 0x7006 h * e.int 0x7020 (p + 1) + (chanColumn e ch - firstColumn e h) * 254000

/-- Insert a channel by cross-web position, ties by the lower channel. -/
def insertChan (k : Int × Nat) : List (Int × Nat) → List (Int × Nat)
  | [] => [k]
  | x :: r => if k.1 < x.1 ∨ (k.1 = x.1 ∧ k.2 < x.2) then k :: x :: r else x :: insertChan k r

/-- R258: the channels of a plane in the order of its plane columns. -/
def planeChans (e : Env) (p : Nat) : List Nat :=
  let all := (headsOf e p).flatMap (fun h => (List.range (e.nat 0x7001 h)).map (fun i => channel h i))
  (all.foldl (fun acc ch => insertChan (chanCross e p ch, ch) acc) []).map (·.2)

/-- R258: C_p, a multiple of 64. -/
def planeColumns (e : Env) (p : Nat) : Nat :=
  ((headsOf e p).foldl (fun a h => a + e.nat 0x7001 h) 0 + 63) / 64 * 64

/-- The nozzle index of row `r` of head `h` at print column `k`, if one stands there. -/
def nozzleAtCol (e : Env) (h r : Nat) (k : Int) : Option Nat :=
  let off := k - firstColumn e h - (if r = 1 then e.int 0x7005 h else 0)
  let pitch := e.nat 0x7004 h
  let len := e.nat 0x7001 h / max 1 (rowCount e h)
  if r < rowCount e h ∧ 0 ≤ off ∧ off % (pitch : Int) = 0 ∧ off / (pitch : Int) < len then
    some ((off / (pitch : Int)).toNat + (if r = 1 then len else 0))
  else none

/-- The nozzles of the same row number of other heads of the plane at a print column. -/
def othersAtCol (e : Env) (p h r : Nat) (k : Int) : List Nat :=
  ((headsOf e p).filter (· ≠ h)).filterMap (fun g => (nozzleAtCol e g r k).map (channel g))

/-- First and last print column of a row of a head. -/
def rowSpan (e : Env) (h r : Nat) : Int × Int :=
  let a := firstColumn e h + (if r = 1 then e.int 0x7005 h else 0)
  (a, a + ((e.nat 0x7001 h / max 1 (rowCount e h) : Nat) - 1 : Int) * e.int 0x7004 h)

/-- R299: the overlap partner. -/
def overlapPartner (e : Env) (p ch : Nat) : Option Nat :=
  (othersAtCol e p (chanHead ch) (nozzleRow e (chanHead ch) (chanIndex ch)) (chanColumn e ch)).head?

/-- R302: the run of consecutive overlap columns that holds column `k`, for two heads. -/
def overlapRun (e : Env) (h g r : Nat) (k : Int) : Int × Nat :=
  if e.nat 0x7004 h = 1 ∧ e.nat 0x7004 g = 1 then
    let a := max (rowSpan e h r).1 (rowSpan e g r).1
    let b := min (rowSpan e h r).2 (rowSpan e g r).2
    (a, (b - a + 1).toNat)
  else (k, 1)

/-- R302: the stitch weight β of a channel, in 1/256. -/
def stitchWeight (e : Env) (p ch : Nat) : Nat :=
  let h := chanHead ch
  let r := nozzleRow e h (chanIndex ch)
  let k := chanColumn e ch
  match overlapPartner e p ch with
  | none => 256
  | some q =>
    let g := chanHead q
    let run := overlapRun e h g r k
    let V := run.2
    let R := min (e.nat 0x6020 (p + 1)) V
    let t := k - run.1 - ((V - R) / 2 : Nat)
    let upper := decide (firstColumn e g < firstColumn e h) || (firstColumn e g == firstColumn e h && decide (g < h))
    let up : Nat := if t < 0 then 0 else if (R : Int) ≤ t then 256 else (256 * (2 * t.toNat + 1)) / (2 * R)
    if upper then up else 256 - up

/-- R299: the neighbour at print column `k` among other heads: the higher stitch weight, then the lower channel. -/
def neighbourAt (e : Env) (p h r : Nat) (k : Int) : Option Nat :=
  (othersAtCol e p h r k).foldl (fun acc c => match acc with
    | none => some c
    | some a =>
      if stitchWeight e p a < stitchWeight e p c ∨ (stitchWeight e p a = stitchWeight e p c ∧ c < a) then some c else some a) none

/-- R299: the receivers of a channel: left, right, alternate row. -/
def leftOf (e : Env) (p ch : Nat) : Option Nat :=
  let h := chanHead ch
  let i := chanIndex ch
  if nozzleRel e h i = 0 then neighbourAt e p h (nozzleRow e h i) (chanColumn e ch - 1) else some (ch - 1)

def rightOf (e : Env) (p ch : Nat) : Option Nat :=
  let h := chanHead ch
  let i := chanIndex ch
  if nozzleRel e h i + 1 = e.nat 0x7001 h / max 1 (rowCount e h) then neighbourAt e p h (nozzleRow e h i) (chanColumn e ch + 1)
  else some (ch + 1)

def altOf (e : Env) (ch : Nat) : Option Nat :=
  let h := chanHead ch
  let half := e.nat 0x7001 h / 2
  if rowCount e h = 2 then some (if nozzleRow e h (chanIndex ch) = 1 then ch - half else ch + half) else none

/-- The receivers of a channel with their weights. -/
def receivers (e : Env) (p ch : Nat) (d : NozDec) : List (Nat × Nat) :=
  [(leftOf e p ch, d.wLeft), (rightOf e p ch, d.wRight), (altOf e ch, d.wAlt)].filterMap (fun x => x.1.map (fun c => (c, x.2)))

/-- R300: what a dead or inhibited channel `d` gives to channel `n`. -/
def shareTo (e : Env) (p : Nat) (eff : Nat → Nat) (dec : Nat → NozDec) (part : Nat → Nat) (d n : Nat) : Nat :=
  match overlapPartner e p d with
  | some q => if firing (eff q) then (if q = n then part d else 0)
              else ((receivers e p d (dec d)).filter (·.1 == n)).foldl (fun a x => a + part d * x.2 / 128) 0
  | none => ((receivers e p d (dec d)).filter (·.1 == n)).foldl (fun a x => a + part d * x.2 / 128) 0

/-- R300: the gathered value of an active or weak channel `n` of plane `p`, whose channels that give shares are `givers`. -/
def gather (e : Env) (p : Nat) (eff : Nat → Nat) (dec : Nat → NozDec) (u : Nat → Nat) (givers : List Nat) (n : Nat) : Nat :=
  let part := fun c => u c * stitchWeight e p c / 256
  min 4095 (givers.foldl (fun a d => a + shareTo e p eff dec part d n) (part n))

/-- R301: a channel is uncovered. -/
def uncovered (e : Env) (p : Nat) (eff : Nat → Nat) (dec : Nat → NozDec) (ch : Nat) : Bool :=
  let d := dec ch
  if eff ch = 4 ∨ !(d.inhHost || d.base == 2) then false
  else
    let hid := match overlapPartner e p ch with | some q => firing (eff q) | none => false
    !hid && decide (((receivers e p ch d).filter (fun x => firing (eff x.1))).foldl (fun a x => a + x.2) 0 < 128)

/-- R295 UNCOVERED of a channel at line `L`. -/
def uncoveredAt (s : State) (L : Int) (ch : Nat) : Bool :=
  let e := envAt s L
  match planeOf e (chanHead ch) with
  | none => false
  | some p => uncovered e p (effAt s L) (nozAt s L) ch

/-- The line from which every accepted commit governs. -/
def lastLine (s : State) : Int := s.proto.commits.foldl (fun a c => max a c.line) (datumLine s)

/-- What an entry's decision fields hold at line `L` with the first `n` of some commits accepted: the fields, ABSENT and UNCOVERED. -/
def decisionAfter (s : State) (cs : List Commit) (n : Nat) (L : Int) (ch : Nat) : NozDec × Bool × Bool :=
  let s := { s with proto := { s.proto with commits := cs.take n } }
  let d := nozAt s L ch
  (d, absentAt (envAt s L) d ch, uncoveredAt s L ch)

/-- R294, R306: CHANGED_LINE: the line of the last of some commits that changed a decision field of the entry, ABSENT and UNCOVERED included. -/
def changedLine (s : State) (cs : List Commit) (L : Int) (ch : Nat) : BitVec 32 :=
  ((List.range cs.length).zip cs).foldl (fun (a : BitVec 32) x =>
    if decisionAfter s cs x.1 L ch = decisionAfter s cs (x.1 + 1) L ch then a else BitVec.ofInt 32 x.2.line) (nozBase s ch).changed

/-- R294: the decision fields of an entry that govern line `L`, with their CHANGED_LINE. -/
def nozShown (s : State) (L : Int) (ch : Nat) : NozDec :=
  match tget none s.noz.planted ch with
  | some d => d
  | none => { nozAt s L ch with changed := changedLine s (commitsAt s L) L ch }

/-- R312, R315: an entry of the stored copy: the decision fields of the highest accepted generation. -/
def nozStored (s : State) (ch : Nat) : NozDec := { nozPend s ch with changed := changedLine s s.proto.commits (lastLine s) ch }

/-- R315: entry to Sleep: the SRAM holds the values of the highest accepted generation, and no change waits for its line. -/
def settleNozzles (s : State) : State :=
  let chans := (s.proto.commits.flatMap (fun c => c.nozzles.flatMap (fun x => (List.range x.count).map (x.channel + ·)))).eraseDups
  { s with noz := { s.noz with base := chans.foldl (fun t c => tput {} t c (nozStored s c)) s.noz.base }
           proto := { s.proto with commits := s.proto.commits.map (fun c => { c with nozzles := [] }) } }

/-- Runs of true values in a list: start index and length. -/
def runsOf : List Bool → Nat → List (Nat × Nat)
  | [], _ => []
  | false :: r, i => runsOf r (i + 1)
  | true :: r, i => match runsOf r (i + 1) with
    | (a, n) :: t => if a = i + 1 then (i, n + 1) :: t else (i, 1) :: (a, n) :: t
    | [] => [(i, 1)]

/-! ### The entry's 48 bytes (R294, R295) -/

/-- R295: the state word of an entry. -/
def stateWord (e : Env) (d : NozDec) (unc : Bool) (ch : Nat) : Nat :=
  d.base * 16384 + (if d.inhHost then 8192 else 0) + (if d.inhThermal then 4096 else 0) +
    (if absentAt e d ch then 2048 else 0) + (if unc then 1024 else 0) + d.source * 256

/-- The entry as 48 bytes. -/
def entryBytes (e : Env) (d : NozDec) (unc : Bool) (c : NozCnt) (ch : Nat) : List Byte :=
  let curve := (List.range 8).foldl (fun a m => a + d.curve.getD m 0 * 2 ^ (12 * m)) 0
  natBytes 48 (stateWord e d unc ch * 2 ^ 368 + curve * 2 ^ 272 + d.wLeft * 2 ^ 264 + d.wRight * 2 ^ 256 + d.wAlt * 2 ^ 248 +
    d.dropMap * 2 ^ 232 + c.fire * 2 ^ 184 + c.health * 2 ^ 168 + c.densLast * 2 ^ 152 + c.densPrev * 2 ^ 136 +
    c.dropout * 2 ^ 120 + d.changed.toNat * 2 ^ 88)

/-- R294: the counter fields of a nozzle entry, from its 48 bytes. -/
def countersOf (b : List Byte) : NozCnt :=
  let f := fun lo n => beNat b / 2 ^ lo % 2 ^ n
  ⟨f 184 48, f 168 16, f 152 16, f 136 16, f 120 16⟩

/-- R294, R295: the decision fields of a nozzle entry, from its 48 bytes. -/
def decisionOf (b : List Byte) : NozDec :=
  let f := fun lo n => beNat b / 2 ^ lo % 2 ^ n
  { base := f 382 2, inhHost := f 381 1 == 1, inhThermal := f 380 1 == 1, absent := f 379 1 == 1, source := f 376 2
    curve := (List.range 8).map (fun m => f (272 + 12 * m) 12), wLeft := f 264 8, wRight := f 256 8, wAlt := f 248 8, dropMap := f 232 4
    changed := BitVec.ofNat 32 (f 88 32) }

/-- R293, R294: the entry of a channel as the table holds it: at the datum line. -/
def tableEntryBytes (s : State) (ch : Nat) : List Byte :=
  let L := datumLine s
  entryBytes (envNow s) (nozShown s L ch) (uncoveredAt s L ch) (nozCnt s ch) ch

/-- R222, R297: a word of the nozzle table is written: the fields of its entry take the new bytes, until the entry is restored or a commit changes
it (R308, log 36). -/
def writeTableWord (addr : Nat) (bytes : List Byte) (s : State) : State :=
  let ch := addr / 48
  let lo := addr % 48
  let old := tableEntryBytes s ch
  let new := old.take lo ++ bytes ++ old.drop (lo + 8)
  let was := nozAt s (datumLine s) ch
  let d := decisionOf new
  let s := setNozCnt ch (countersOf new) s
  { s with noz := { s.noz with planted := tput none s.noz.planted ch (some (if lo = 0 then d else { d with absent := was.absent })) } }

/-- R311: what a host entry of 48 bytes sets; a result code refuses it. -/
def parseEntry (b : List Byte) : Nat × NozPatch :=
  let v := beNat b
  let f := fun lo n => v / 2 ^ lo % 2 ^ n
  let p : NozPatch := { base := some (f 382 2), inhHost := some (f 381 1 == 1), source := some (f 376 2)
                        curve := some ((List.range 8).map (fun m => f (272 + 12 * m) 12))
                        weights := some (f 264 8, f 256 8, f 248 8), dropMap := some (f 232 4) }
  if f 368 8 ≠ 0 ∨ f 236 12 ≠ 0 ∨ f 0 88 ≠ 0 then (0x0306, p)
  else if f 382 2 = 3 ∨ f 376 2 = 1 ∨ f 376 2 = 2 ∨ 256 < f 264 8 + f 256 8 + f 248 8 then (0x0303, p)
  else (0, p)

/-- Entries of 48 bytes, cut from a byte string. -/
def cutEntries : Nat → List Byte → List (List Byte)
  | 0, _ => []
  | n + 1, b => b.take 48 :: cutEntries n (b.drop 48)

/-- R310, R311: the changes of consecutive entries from a channel on, and the refusal code: 0306h where an entry has it (R606 order 8), else
the first code met, 0 for none. -/
def parseEntries (first : Nat) (es : List (List Byte)) : Nat × List NozChange :=
  let rs := es.map parseEntry
  let codes := (rs.map (·.1)).filter (fun c => decide (c ≠ 0))
  (if codes.contains 0x0306 then 0x0306 else codes.headD 0, (rs.zip (List.range rs.length)).map (fun x => ⟨first + x.2, 1, x.1.2⟩))

/-- R310: the changes of a value of `Nozzle.StageWindow`. -/
def windowChanges (b : List Byte) : Nat × List NozChange :=
  let first := beNat (b.take 4)
  let n := (b.length - 4) / 48
  let r := parseEntries first (cutEntries n (b.drop 4))
  if r.1 = 0x0306 then r else if 524288 < first + n then (0x0303, []) else r

/-- R313: the default decision fields of a head's channels; a head without a plane takes the weights of plane 0 (assumption log 73). -/
def defaultPatch (e : Env) (h : Nat) : NozPatch :=
  let p := (planeOf e h).getD 0
  let o := if rowCount e h = 2 then 3 else 0
  let w := fun k => (e.elem 0x6021 (p + 1) (o + k)).toNat
  { base := some 0, inhHost := some false, source := some 3, curve := some [0, 585, 1170, 1755, 2340, 2925, 3510, 4095]
    weights := some (w 0, w 1, w 2), dropMap := some 0 }

/-! ### Published sums -/

/-- R317: 6030h Nozzle.HeadCounts of a head. -/
def headCounts (s : State) (h : Nat) : List Int :=
  let L := datumLine s
  let codes := (List.range headChans).map (fun i => effAt s L (channel h i))
  (List.range 5).map (fun k => ((codes.filter (· == k)).length : Int))

/-- R317: 6031h Nozzle.Uncovered. -/
def uncoveredCount (s : State) : Nat :=
  let L := datumLine s
  headNums.foldl (fun a h => a + ((List.range headChans).filter (fun i => uncoveredAt s L (channel h i))).length) 0

/-- R319: DETAIL of a nozzle event. -/
def nozzleDetail (subject reason ch v : Nat) : BitVec 96 := detail subject reason 0 ((ch * 4294967296 + v : Nat) : Int)

/-- R303, R319: `n` changes of a device source were dropped, the first of them at channel `first`. -/
def dropSource (source : Nat) (first : Option Nat) (n : Nat) (s : State) : State :=
  if n = 0 then s else
    let now := s.time.now
    let z := s.noz
    let recent := (now, n) :: (tget [] z.drops source).filter (fun x => decide (now < x.1 + sec))
    let s := { s with noz := { z with dropped := z.dropped + BitVec.ofNat 32 n, drops := tput [] z.drops source recent } }
    let due := match tget none z.dropAt source with | some t => decide (t + sec ≤ now) | none => true
    if due then
      let subject := match first with | some ch => chanHead ch | none => 0xFF
      ev 0x6014 (nozzleDetail subject source (first.getD 0) (recent.foldl (fun a x => a + x.2) 0))
        { s with noz := { s.noz with dropAt := tput none s.noz.dropAt source (some now) } } (line := atLine (datumLine s))
    else s

end Sys2Proof.Machine
end

