-- ==== Sys2Proof/Machine/StoreOps.lean ====
section
/-! DEFINITION. The page store and the SRAM as stored data: addresses (R168 to R176), the class of a read (R195 to R204), the error log
and its counts (R213 to R216), fire-critical errors (R212), reads and writes of units. -/

namespace Sys2Proof.Machine

/-! ### Addresses -/

/-- R168: bytes of the store. -/
abbrev storeBytesTotal : Nat := 0x600000000
/-- R168: the slab of an address. -/
def slabOf (a : Nat) : Nat := a / 524288

/-- R169: a partition entry from its 16 bytes. -/
def partOf (b : List Byte) : Partition := ⟨beNat (b.take 4), beNat ((b.drop 4).take 4), (b.getD 8 0).toNat, (b.getD 9 0).toNat⟩

/-- R169: an entry of the partition table. -/
def partition (s : State) (sub : Nat) : Partition := partOf (Val.oct (baseVal s 0x5040 sub).1)

/-- The partition table with its subindices. -/
def partitions (s : State) : List (Nat × Partition) := (List.range 16).map (fun i => (i + 1, partition s (i + 1)))

/-- The partition that holds a slab. -/
def partAt (s : State) (slab : Nat) : Option Partition :=
  ((partitions s).find? (fun p => 0 < p.2.count ∧ p.2.first ≤ slab ∧ slab < p.2.first + p.2.count)).map (·.2)

/-- First address and size of the partition with a purpose; empty when there is none. -/
def purposeRange (s : State) (purpose : Nat) : Nat × Nat :=
  match (partitions s).find? (fun p => p.2.purpose == purpose && decide (0 < p.2.count)) with
  | some p => (p.2.first * 524288, p.2.count * 524288)
  | none => (0, 0)

/-- Two byte ranges touch. -/
def touches (a n b m : Nat) : Bool := decide (a < b + m) && decide (b < a + n) && decide (0 < n) && decide (0 < m)

/-- A cell: pseudo-channel, stack level, bank, row, column byte (R166). -/
structure Cell where
  pc : Nat
  sid : Nat
  bank : Nat
  row : Nat
  col : Nat
  deriving DecidableEq, Repr

/-- R173 to R176: the cell of a byte address under its partition's order. -/
def cellOf (s : State) (a : Nat) : Cell :=
  let slab := slabOf a
  let o := a % 524288
  let part := partAt s slab
  match (part.map (·.order)).getD 0 with
  | 1 => ⟨o / 32768 % 16 * 2 + o / 1024 % 2, slab % 3, o / 2048 % 16, slab / 3, o % 1024⟩
  | 2 =>
    let row := slab / 3
    ⟨(o / 64 % 32) ^^^ (row / 16 % 32), slab % 3, (o / 131072 % 4 * 4 + o / 32768 % 4) ^^^ (row % 16), row, o / 2048 % 16 * 64 + o / 32 % 2 * 32 + o % 32⟩
  | 3 =>
    let p := part.getD ⟨0, 1, 0, 0⟩
    let off := a - p.first * 524288
    let share := p.count * 16384
    let m := off % share
    let sl := p.first + m / 16384
    ⟨off / share, sl % 3, m / 1024 % 16, sl / 3, m % 1024⟩
  | _ => ⟨o / 64 % 32, slab % 3, o / 131072 % 4 * 4 + o / 32768 % 4, slab / 3, o / 2048 % 16 * 64 + o / 32 % 2 * 32 + o % 32⟩

/-- The byte address of a cell: the inverse of `cellOf`. -/
def addrOf (s : State) (c : Cell) : Nat :=
  let slab := c.row * 3 + c.sid
  let part := partAt s slab
  match (part.map (·.order)).getD 0 with
  | 1 => slab * 524288 + c.pc / 2 * 32768 + c.bank * 2048 + c.pc % 2 * 1024 + c.col
  | 2 =>
    let b := c.bank ^^^ (c.row % 16)
    let pc := c.pc ^^^ (c.row / 16 % 32)
    slab * 524288 + b / 4 * 131072 + b % 4 * 32768 + c.col / 64 * 2048 + pc * 64 + c.col / 32 % 2 * 32 + c.col % 32
  | 3 =>
    let p := part.getD ⟨0, 1, 0, 0⟩
    p.first * 524288 + c.pc * (p.count * 16384) + (slab - p.first) * 16384 + c.bank * 1024 + c.col
  | _ => slab * 524288 + c.bank / 4 * 131072 + c.bank % 4 * 32768 + c.col / 64 * 2048 + c.pc * 64 + c.col / 32 % 2 * 32 + c.col % 32

/-- R203: the slab is skipped. -/
def slabSkipped (s : State) (slab : Nat) : Bool := tget false s.integ.skipped slab

/-- R202: when the burst lost what was written under its address, plus 1; 0 where it holds what was written last. -/
def lostAt (s : State) (burst : Nat) : Nat := if tget false s.store.fresh burst then 0 else tget 0 s.store.unwritten (slabOf (burst * 32))

/-- R202: nothing has been written in the burst under its present address. -/
def neverWritten (s : State) (burst : Nat) : Bool := lostAt s burst != 0

/-- R195: the folded address of a burst: SID, BANK, ROW and its index within the page. -/
def foldOf (s : State) (a : Nat) : Nat :=
  let c := cellOf s a
  ((c.sid * 16 + c.bank) * 16384 + c.row) * 32 + c.col / 32 % 32

/-! ### What a read finds (R196, R202) -/

/-- Wrong symbols of a burst: positions 0..35. -/
def wrongSymbols (m : Mark) : List Nat :=
  ((List.range 32).filter (fun i => m.dataErr.any (fun x => x.1 == i && x.2 != 0))) ++
  ((List.range 4).filter (fun j => m.checkErr.toNat / 256 ^ (3 - j) % 256 ≠ 0)).map (· + 32)

/-- R196, R202: class of a burst: 0 clean, 1 corrected, 2 poisoned, 3 uncorrectable. -/
def burstClass (s : State) (b : Nat) : Nat :=
  if neverWritten s b then
    match (Config.freeOf 202 [b, lostAt s b]).toNat % 3 with
    | 0 => 0
    | 1 => 1
    | _ => 3
  else
    let m := tget {} s.store.marks b
    let n := (wrongSymbols m).length
    if m.poisoned then (if n = 0 ∧ !m.foldErr then 2 else 3)
    else if m.foldErr then 3
    else match n with
      | 0 => 0
      | 1 => 1
      | 2 => 3
      | _ => Config.manyWrong b m.dataErr m.checkErr % 4

/-- The 32 data bytes that the cells hold. -/
def storedBurst (s : State) (b : Nat) : List Byte :=
  if neverWritten s b then natBytes 32 (Config.freeOf 203 [b, lostAt s b]).toNat
  else
    let m := tget {} s.store.marks b
    ((List.range 32).zip (loadBytes s.store.mem (b * 32) 32)).map (fun e => m.dataErr.foldl (fun v d => if d.1 = e.1 then v ^^^ d.2 else v) e.2)

/-- R214: the corrected symbol of a burst, FFh without one: a free one where the syndrome alone makes it correctable. -/
def correctedSymbol (s : State) (b : Nat) : Nat :=
  if burstClass s b ≠ 1 then 255
  else match neverWritten s b, wrongSymbols (tget {} s.store.marks b) with
    | false, [x] => x
    | _, _ => (Config.freeOf 205 [b, lostAt s b]).toNat % 36

/-- R196: the data that a read of a burst returns where it returns any: as stored, with the wrong symbol corrected. A correction where more than
one symbol is wrong, or nothing was written, changes a symbol to a free value. -/
def burstData (s : State) (b : Nat) : List Byte :=
  if burstClass s b ≠ 1 then storedBurst s b
  else if !neverWritten s b && (wrongSymbols (tget {} s.store.marks b)).length == 1 then loadBytes s.store.mem (b * 32) 32
  else (storedBurst s b).set (correctedSymbol s b) (BitVec.ofInt 8 (Config.freeOf 206 [b, lostAt s b]))

/-- R214: the syndrome of a burst: 0 where it is clean; the reserved one of poison and those of other patterns are free values. -/
def burstSyndrome (s : State) (b : Nat) : BitVec 32 :=
  let m := tget {} s.store.marks b
  if burstClass s b = 0 then 0
  else if burstClass s b = 2 then BitVec.ofInt 32 (Config.freeOf 207 [])
  else if neverWritten s b ∨ m.foldErr ∨ m.poisoned then BitVec.ofInt 32 (Config.freeOf 204 [b, lostAt s b])
  else Config.syndrome m.dataErr m.checkErr

/-- The first burst of a unit with a class. -/
def burstWith (s : State) (u c : Nat) : Option Nat := [2 * u, 2 * u + 1].find? (fun b => burstClass s b == c)

/-- A unit's class (64 bytes, unit number A / 64): the worst of its bursts. -/
def unitClass (s : State) (u : Nat) : Nat := max (burstClass s (2 * u)) (burstClass s (2 * u + 1))

/-- A burst of a unit has been written by the checker test. -/
def unitInjected (s : State) (u : Nat) : Bool := (tget {} s.store.marks (2 * u)).injected || (tget {} s.store.marks (2 * u + 1)).injected

/-- The data of a unit. -/
def unitData (s : State) (u : Nat) : List Byte := burstData s (2 * u) ++ burstData s (2 * u + 1)

/-- The byte that a read of its burst returns. -/
def readByte (s : State) (a : Nat) : Byte :=
  if lostAt s (a / 32) = 0 ∧ tget {} s.store.marks (a / 32) = {} then loadByte s.store.mem a else (burstData s (a / 32)).getD (a % 32) 0

/-- The bytes that reads of an address range return. -/
def readBytes (s : State) (a n : Nat) : List Byte := (List.range n).map (fun i => readByte s (a + i))

/-! ### The error log (R214, R215) and counts (R216) -/

/-- R227: DETAIL of an integrity event. -/
def integDetail (mem reason : Nat) (v : Int) : BitVec 96 := detail mem reason 0 v

/-- R215: the entry that a new one replaces in a full log: the oldest of KIND 0 or 4, else the oldest. -/
def logVictim (l : List LogEntry) : Nat :=
  let soft := (List.range l.length).filter (fun i => (l[i]?.map (fun e => e.kind == 0 || e.kind == 4)).getD false)
  soft.getLastD (l.length - 1)

/-- R214, R215: log an occurrence. -/
def logError (e : LogEntry) (s : State) : State :=
  let z := s.integ
  let same := fun (x : LogEntry) => x.memory == e.memory && x.address == e.address && x.kind == e.kind
  let again := fun (x : LogEntry) =>
    { x with time := e.time, repeats := min (x.repeats + 1) 65535, hard := x.hard || e.hard, uninit := x.uninit && e.uninit }
  if z.log.any same then { s with integ := { z with log := z.log.map (fun x => if same x then again x else x) } }
  else if z.log.length < 256 then { s with integ := { z with log := e :: z.log } }
  else
    let v := logVictim z.log
    let gone := z.log[v]?
    let s := { s with integ := { z with log := e :: z.log.eraseIdx v } }
    if (gone.map (fun x => x.kind == 1 || x.kind == 2 || x.kind == 3)).getD false then
      let n := s.integ.logOverflow + 1
      let s := { s with integ := { s.integ with logOverflow := n } }
      let due := match s.integ.overflowAt with | some t => decide (t + sec ≤ s.time.now) | none => true
      if due then ev 0xB007 (integDetail 0 0 n.toNat) { s with integ := { s.integ with overflowAt := some s.time.now } } else s
    else s

/-- R558: element of the lifetime error counts of a memory; `region` for the nozzle table and the line buffers. -/
def lifeElement (mem region : Nat) : Nat := if mem = 0 then 4 else if mem = 3 then 5 else if mem = 4 then 6 else region

/-- R216, R227: a corrected read; BOUND.CORRECTED at most once per second per memory, with the corrections of the last second. -/
def countCorrected (mem region : Nat) (s : State) : State :=
  let z := s.integ
  let now := s.time.now
  let recent := now :: (tget [] z.corrTimes mem).filter (fun t => decide (now < t + sec))
  let s := { s with integ := { z with corrected := tinc z.corrected mem, corrTimes := tput [] z.corrTimes mem recent }
                    faults := { s.faults with life := { s.faults.life with corrected := satAdd 64 s.faults.life.corrected (lifeElement mem region) 1 } } }
  let due := match tget none s.integ.corrAt mem with | some t => decide (t + sec ≤ now) | none => true
  if due then ev 0xB002 (integDetail mem 0 recent.length) { s with integ := { s.integ with corrAt := tput none s.integ.corrAt mem (some now) } } else s

/-- R216: an uncorrectable read. -/
def countUe (mem region : Nat) (s : State) : State :=
  { s with integ := { s.integ with ue := tinc s.integ.ue mem }
           faults := { s.faults with life := { s.faults.life with ue := satAdd 64 s.faults.life.ue (lifeElement mem region) 1 } } }

/-- R212: 'B032h Integ.FireUe', the fire-critical errors of the last second. -/
def fireUeCount (s : State) : Nat := (s.integ.fireUe.filter (fun t => decide (s.time.now < t + sec))).length

/-- R212, R550: a fire-critical uncorrectable read; the second within one second is a fault of class 2 and trigger 3. -/
def fireCritical (requester address : Nat) (s : State) : State :=
  let recent := s.integ.fireUe.filter (fun t => decide (s.time.now < t + sec))
  let s := { s with integ := { s.integ with fireUe := s.time.now :: recent } }
  if 2 ≤ fireUeCount s then
    let s := raise 0xB025 2 (faultDetail 0xFF requester 0xB003 address) s (unit := unitDevice)
    addFault 0xB025 2 5 unitDevice s (trigger := some 3)
  else s

/-- Requesters whose uncorrectable reads are fire-critical (R212). -/
def isFireCritical (requester : Nat) : Bool := [4, 5, 6, 0x0A, 0x0B].contains requester

/-! ### Retirement (R217, R218) -/

/-- R217: a block: pseudo-channel, stack level, bank and the rows' number / 64. -/
abbrev Block := Nat × Nat × Nat × Nat

/-- R217: the block of a unit. -/
def blockOf (s : State) (u : Nat) : Block :=
  let c := cellOf s (u * 64)
  (c.pc, c.sid, c.bank, c.row / 64)

/-- The block of a map entry. -/
def RetireEntry.blk (r : RetireEntry) : Block := (r.pc, r.sid, r.bank, r.block)

/-- R192, R255: mover channels in use: store commands, threshold loads, at most two encodes, and block retirements that copy. -/
def moversUsed (s : State) : Nat :=
  let ops := ((List.range 256).filter (fun i => (s.handle i).phase == .running)).map (fun i => (s.handle i).op)
  let enc := (ops.filter (fun o => match o with | .encode _ => true | _ => false)).length
  (ops.filter (fun o => match o with | .storeFill .. => true | .storeCopy .. => true | .thresholdLoad .. => true | _ => false)).length + min 2 enc +
    (s.integ.retired.filter (fun r => r.state == 1)).length

/-- R218: no spare block for another retirement. -/
def noSpareBlock (s : State) (pc sid bank : Nat) : Bool :=
  decide (1024 ≤ s.integ.retired.length) || s.integ.retired.any (fun r => r.pc == pc && r.sid == sid && r.bank == bank)

/-- R220: the rows of a block in which the log holds errors outside the skipped slabs. -/
def faultyRows (s : State) (b : Block) : List Nat :=
  ((s.integ.log.filter (fun e => e.memory == 0 && decide (e.kind ≤ 3) && !e.uninit && blockOf s (e.address / 64) == b)).map
    (fun e => (cellOf s e.address).row)).eraseDups

/-- R218 step 1: a block enters the retirement map, in state 1. -/
def enterRetired (b : Block) (rows : List Nat) (s : State) : State :=
  let known := faultyRows s b
  { s with integ := { s.integ with
      retired := s.integ.retired ++ [⟨b.1, b.2.1, b.2.2.1, b.2.2.2, 1, powerHours s, known ++ rows.filter (fun r => !known.contains r)⟩] } }

/-- R217, R218, R220: BOUND.REPAIR_NEEDED: 1 repair needed, 2 no spare row. -/
def repairEvent (reason pc sid bank row : Nat) (s : State) : State :=
  ev 0xB005 (integDetail 0 reason ((pc * 2 ^ 27 + sid * 2 ^ 25 + bank * 2 ^ 21 + row : Nat) : Int)) s

/-- R217, R218: the retirement of a block is decided: it enters the map; or BOUND.REPAIR_NEEDED, with the faulty row, when the bank's spare is in
use or 1,024 blocks are retired. While every mover channel is in use it waits (assumption log 64). -/
def retireBlock (pc sid bank block row : Nat) (s : State) : State :=
  let b : Block := (pc, sid, bank, block)
  if s.integ.retired.any (fun r => r.blk == b) then s
  else if noSpareBlock s pc sid bank then repairEvent 1 pc sid bank row s
  else if 96 ≤ moversUsed s then
    (if s.integ.retireWait.any (fun w => w.1 == pc && w.2.1 == sid && w.2.2.1 == bank && w.2.2.2.1 == block) then s
     else { s with integ := { s.integ with retireWait := s.integ.retireWait ++ [(pc, sid, bank, block, row)] } })
  else enterRetired b [row] s

/-- A mover channel has become free: the retirements that wait are decided again. -/
def retireWaiting (s : State) : State :=
  forAll s.integ.retireWait (fun w s => retireBlock w.1 w.2.1 w.2.2.1 w.2.2.2.1 w.2.2.2.2 s) { s with integ := { s.integ with retireWait := [] } }

/-- R217 condition 3: distinct units of the block of unit `u` in the log with KIND 0..2 within 24 h, outside the skipped slabs (R204). -/
def blockErrors (s : State) (u : Nat) : Nat :=
  let b := blockOf s u
  ((s.integ.log.filter (fun e => e.memory == 0 && decide (e.kind ≤ 2) && !e.uninit && decide (devTime s < e.time + 86400 * (sec : Int)) &&
    blockOf s (e.address / 64) == b)).map (·.address)).eraseDups.length

/-- R217: after an error of unit `u` outside the skipped slabs; `again` when condition 1 or 2 holds for it. -/
def retireCheck (u : Nat) (again : Bool) (s : State) : State :=
  let c := cellOf s (u * 64)
  if cfg s 0xB042 0 = 1 ∧ (again ∨ 4 ≤ blockErrors s u) ∧ c.row / 64 < 255 then retireBlock c.pc c.sid c.bank (c.row / 64) c.row s else s

/-! ### Requests (R181, R184, R193) -/

/-- R184: a FIRE request of `lat` ns in a pseudo-channel: the largest, and STORE.FIRE_SLOW over the limit at most once per second. -/
def fireLatency (pc lat : Nat) (s : State) : State :=
  let s := { s with store := { s.store with pcStats := tmod 0 s.store.pcStats (pc * 8 + 5) (fun v => BitVec.ofNat 64 (max v.toNat lat)) } }
  let due : Bool := match tget none s.store.slowAt pc with | some t => decide (t + sec ≤ s.time.now) | none => true
  if decide (cfgN s 0x5045 0 < lat) && due then
    ev 0x5020 (detail pc 0 0 lat) { s with store := { s.store with slowAt := tput none s.store.slowAt pc (some s.time.now) } }
  else s

/-- R181, R193: `n` requests of a class in a pseudo-channel: bytes, requests, reads or writes, activates (0 or 1 each, a free value), the largest
latency and those over the limit. The latency of a FIRE request is an operand of its command; that of any other is a free value. -/
def countRequests (cls pc n : Nat) (write : Bool) (s : State) : State :=
  let w := if write then 1 else 0
  let was := (tget 0 s.store.classStats (cls * 8 + 2)).toNat
  let lat := if cls = 0 then s.store.lats.headD 0 else (Config.freeOf 183 [(cls : Int), was, s.time.now]).toNat % 65536
  let slow := if cfgN s 0x5045 0 < lat then n else 0
  let acts := (Config.freeOf 182 [(cls : Int), was, s.time.now]).toNat % (n + 1)
  let stats := tmod 0 (tmod 0 s.store.classStats (cls * 8 + w) (· + BitVec.ofNat 64 (64 * n))) (cls * 8 + 2) (· + BitVec.ofNat 64 n)
  let stats := tmod 0 (tmod 0 stats (cls * 8 + 3) (fun v => BitVec.ofNat 64 (max v.toNat lat))) (cls * 8 + 4) (· + BitVec.ofNat 64 slow)
  let s := { s with store := { s.store with
      classStats := stats
      pcStats := tmod 0 (tmod 0 s.store.pcStats (pc * 8 + w) (· + BitVec.ofNat 64 n)) (pc * 8 + 2) (· + BitVec.ofNat 64 acts)
      lats := if cls = 0 then s.store.lats.drop 1 else s.store.lats } }
  if cls = 0 then fireLatency pc lat s else s

/-- A request for unit `u`. R218: a write to a block that is being copied goes to the block and to its spare. -/
def countAccess (cls u : Nat) (write : Bool) (s : State) : State :=
  let b := blockOf s u
  countRequests cls b.1 (if write && s.integ.retired.any (fun r => r.state == 1 && r.blk == b) then 2 else 1) write s

/-! ### Reads of the page store (R199, R204, R210) -/

/-- R214: an entry of the page store for unit `u`. -/
def logStore (kind requester : Nat) (unit : BitVec 32) (u symbol : Nat) (syndrome : BitVec 32) (hard : Bool) (s : State) : State :=
  logError { time := devTime s, address := u * 64, unit := unit, memory := 0, kind := kind, requester := requester, symbol := symbol
             syndrome := syndrome, repeats := 1, injected := unitInjected s u, hard := hard, uninit := slabSkipped s (slabOf (u * 64)) } s

/-- R204: a read in a skipped slab whose syndrome is not zero. -/
def uninitRead (requester : Nat) (unit : BitVec 32) (u : Nat) (s : State) : State :=
  let b := ([2 * u, 2 * u + 1].find? (fun b => burstClass s b != 0)).getD (2 * u)
  logStore 4 requester unit u (correctedSymbol s b) (burstSyndrome s b) false (ev 0x5030 (integDetail 0 requester (u * 64)) s (unit := unit))

/-- R199: the scrub of a unit with a corrected burst. -/
def queueScrub (u : Nat) (s : State) : State :=
  if s.integ.scrubQueue.contains u then s else { s with integ := { s.integ with scrubQueue := s.integ.scrubQueue ++ [u] } }

/-- R210, R214: an uncorrectable or poisoned read of unit `u`, of class `cls`: log, count, BOUND.UE, fire-critical. -/
def storeUe (requester : Nat) (unit : BitVec 32) (u cls : Nat) (s : State) : State :=
  let s := logStore (if cls = 2 then 2 else 1) requester unit u 255 (burstSyndrome s ((burstWith s u cls).getD (2 * u))) false s
  let s := { s with integ := { s.integ with ueUnits := if s.integ.ueUnits.contains u then s.integ.ueUnits else u :: s.integ.ueUnits } }
  let s := if slabSkipped s (slabOf (u * 64)) then s else countUe 0 0 s
  let s := ev 0xB003 (integDetail 0 requester (u * 64)) s (unit := unit)
  if isFireCritical requester then fireCritical requester (u * 64) s else s

/-- R217 condition 2: the unit is read for the first time since it was rewritten after an uncorrectable read; the mark is gone with the read. -/
def firstRead (u : Nat) (s : State) : Bool × State :=
  (s.integ.rewritten.contains u, { s with integ := { s.integ with rewritten := s.integ.rewritten.filter (· != u) } })

/-- R199, R204, R210, R214 to R217: what the read of unit `u` by a requester leaves. -/
def noteRead (requester : Nat) (unit : BitVec 32) (u : Nat) (s : State) : State :=
  let c := unitClass s u
  let skip := slabSkipped s (slabOf (u * 64))
  let (again, s) := firstRead u s
  let s := if skip ∧ c ≠ 0 then uninitRead requester unit u s else s
  let s := match burstWith s u 1 with
    | none => s
    | some b =>
      let s := queueScrub u s
      if skip then s else countCorrected 0 0 (logStore 0 requester unit u (correctedSymbol s b) (burstSyndrome s b) false s)
  let s := if 2 ≤ c then storeUe requester unit u c s else s
  if c = 0 ∨ skip then s else retireCheck u again s

/-- A requester reads a unit of the page store in a class: the class found and the state after it. -/
def readUnit (cls requester : Nat) (unit : BitVec 32) (u : Nat) (s : State) : Nat × State :=
  (unitClass s u, noteRead requester unit u (countAccess cls u false s))

/-- Read units from a first one on; stops at the first that gives no data: that unit, if any. -/
def readUnits (cls requester : Nat) (unit : BitVec 32) : Nat → Nat → State → Option Nat × State
  | 0, _, s => (none, s)
  | n + 1, u, s =>
    let r := readUnit cls requester unit u s
    if 2 ≤ r.1 then (some u, r.2) else readUnits cls requester unit n (u + 1) r.2

/-! ### Writes of the page store (R183, R197, R198) -/

/-- R198: a burst has been written whole, with correct check symbols. -/
def cleanBurst (b : Nat) (s : State) : State :=
  { s with store := { s.store with marks := tput {} s.store.marks b {}
                                   fresh := if tget 0 s.store.unwritten (slabOf (b * 32)) = 0 then s.store.fresh else tput false s.store.fresh b true } }

/-- R206: a corrected burst is written back. -/
def fixBurst (b : Nat) (s : State) : State :=
  cleanBurst b { s with store := { s.store with mem := storeBytes s.store.mem (b * 32) (burstData s b) } }

/-- R197: a burst is written back poisoned, with its data as stored. -/
def poisonBurst (b : Nat) (s : State) : State :=
  let inj := (tget {} s.store.marks b).injected
  let s := cleanBurst b { s with store := { s.store with mem := storeBytes s.store.mem (b * 32) (storedBurst s b) } }
  { s with store := { s.store with marks := tput {} s.store.marks b { poisoned := true, injected := inj } } }

/-- R198, R206, R218: what a corrected burst and an uncorrectable one become when their unit is written back. -/
def settleBurst (b : Nat) (s : State) : State :=
  match burstClass s b with
  | 0 => s
  | 1 => fixBurst b s
  | 2 => s
  | _ => poisonBurst b s

/-- R217 condition 2: a unit that gave an uncorrectable read has been rewritten. -/
def noteRewrite (u : Nat) (s : State) : State :=
  if s.integ.ueUnits.contains u ∧ unitClass s u < 2 then
    { s with integ := { s.integ with ueUnits := s.integ.ueUnits.filter (· != u)
                                     rewritten := if s.integ.rewritten.contains u then s.integ.rewritten else s.integ.rewritten ++ [u] } }
  else s

/-- Write whole units from unit `u` on (R198). -/
def writeUnits (cls u : Nat) (bytes : List Byte) (s : State) : State :=
  let s := { s with store := { s.store with mem := storeBytes s.store.mem (u * 64) bytes } }
  forAll (List.range ((bytes.length + 63) / 64)) (fun i s =>
    let v := u + i
    noteRewrite v (countAccess cls v true (cleanBurst (2 * v + 1) (cleanBurst (2 * v) s)))) s

/-- R183, R198: a partial write of unit `u` covers the bytes from `a` to `z`: the whole unit is read (requester 09h, the logic die), merged and
written; a burst that the write does not cover whole goes back corrected, or poisoned where it cannot be. -/
def mergeUnit (cls u a z : Nat) (s : State) : State :=
  let s := (readUnit cls 9 (unitDie 0) u s).2
  forAll [2 * u, 2 * u + 1] (fun b s => if a ≤ b * 32 ∧ b * 32 + 32 ≤ z then cleanBurst b s else settleBurst b s) s

/-- Write bytes anywhere in the store. -/
def writeBytes (cls a : Nat) (bytes : List Byte) (s : State) : State :=
  let z := a + bytes.length
  let units := (List.range ((z + 63) / 64 - a / 64)).map (a / 64 + ·)
  let s := forAll units (fun u s =>
    if a ≤ u * 64 ∧ u * 64 + 64 ≤ z then cleanBurst (2 * u + 1) (cleanBurst (2 * u) s) else mergeUnit cls u a z s) s
  let s := { s with store := { s.store with mem := storeBytes s.store.mem a bytes } }
  forAll units (fun u s => noteRewrite u (countAccess cls u true s)) s

/-- Errors strike bursts of the store: byte addresses and XOR masks. -/
def strikeBytes (errs : List (Nat × Byte)) (s : State) : State :=
  forAll (errs.filter (fun e => e.2 != 0)) (fun e s =>
    { s with store := { s.store with marks := tmod {} s.store.marks (e.1 / 32) (fun m =>
      { m with dataErr := (m.dataErr.filter (·.1 != e.1 % 32)) ++ [(e.1 % 32, e.2)] }) } }) s

/-! ### SRAM (R200, R213) -/

/-- Memory code, region and byte address within its part of word `w` of SRAM bank `k` (State.integ.sramPos). -/
def sramWordAt (k w : Nat) : Nat × Nat × Nat :=
  if k < 4 then (1, k, k * 6291456 + w * 8)
  else if k < 16 then (2, (k - 4) / 3, (k - 4) / 3 * 8388608 + (k - 4) % 3 * 2097152 + w * 8)
  else if k < 20 then (2, k - 16, (k - 16) * 8388608 + 6291456 + w * 8)
  else if k = 20 then (3, 0, w * 8)
  else (4, 0, w * 8)

/-- Words of SRAM bank `k`. -/
def sramWords (k : Nat) : Nat := if k < 4 then 786432 else if k < 20 then 262144 else 524288

/-- The SRAM bank of a byte address within its part. -/
def sramBank (mem addr : Nat) : Nat :=
  match mem with
  | 1 => addr / 6291456
  | 2 => if addr % 8388608 < 6291456 then 4 + addr / 8388608 * 3 + addr % 8388608 / 2097152 else 16 + addr / 8388608
  | 3 => 20
  | _ => 21

/-- The region of an SRAM word, 0 for the memories outside the regions. -/
def sramRegion (mem addr : Nat) : Nat := match mem with | 1 => addr / 6291456 | 2 => addr / 8388608 | _ => 0

/-- Key of an SRAM word in the tables of its errors, and back. -/
def sramKey (mem addr : Nat) : Nat := mem * 4294967296 + addr
def keyMem (key : Nat) : Nat := key / 4294967296
def keyAddr (key : Nat) : Nat := key % 4294967296

/-- Bits set in a number of `n` bits. -/
def onesIn (n x : Nat) : List Nat := (List.range n).filter (fun i => x.testBit i)

/-- R214: wrong bits of a word: data bits 0..63, check bits 64..71 (assumption log 65). -/
def wrongBits (m : SramMark) : List Nat := onesIn 64 m.data.toNat ++ (onesIn 8 m.check.toNat).map (· + 64)

/-- R200: how a word reads: 0 clean, 1 corrected, 2 uncorrectable; three or more wrong bits may be miscorrected. -/
def sramClass (m : SramMark) : Nat :=
  match (wrongBits m).length with
  | 0 => 0
  | 1 => 1
  | 2 => 2
  | _ => if Config.miscorrected m.data m.check then 1 else 2

/-- What is wrong in a word. -/
def sramMark (s : State) (key : Nat) : SramMark := tget {} s.integ.sramErr key
def setSramMark (key : Nat) (m : SramMark) (s : State) : State := { s with integ := { s.integ with sramErr := tput {} s.integ.sramErr key m } }

/-- Errors strike a word of SRAM. -/
def strikeWord (key : Nat) (data : BitVec 64) (check : BitVec 8) (s : State) : State :=
  let m := sramMark s key
  setSramMark key { m with data := m.data ^^^ data, check := m.check ^^^ check } s

/-- R214: an entry of an SRAM word. -/
def logWord (kind requester : Nat) (unit : BitVec 32) (key : Nat) (hard : Bool) (s : State) : State :=
  let m := sramMark s key
  let bit := if kind ≠ 0 then 255 else match wrongBits m with | [b] => b | _ => (Config.freeOf 208 [(key : Int), m.data.toNat, m.check.toNat]).toNat % 72
  logError { time := devTime s, address := keyAddr key, unit := unit, memory := keyMem key, kind := kind, requester := requester, symbol := bit
             syndrome := (Config.sramSyndrome m.data m.check).setWidth 32, repeats := 1, injected := m.injected, hard := hard } s

/-- R199, R200: a word is written back as corrected: right, unless three or more bits were wrong; the content is then a free value. -/
def fixWord (key : Nat) (s : State) : State :=
  let m := sramMark s key
  let s := setSramMark key {} s
  if (wrongBits m).length ≤ 1 then s
  else
    let v := natBytes 8 (Config.freeOf 209 [(key : Int), m.data.toNat, m.check.toNat, s.time.now]).toNat
    if keyMem key = 1 then writeTableWord (keyAddr key) v s
    else { s with integ := { s.integ with sramWord := tput none s.integ.sramWord key (some (BitVec.ofNat 64 (beNat v))) } }

/-- R199, R200, R210: a requester reads a word of SRAM: whether it is uncorrectable, and the state after it. -/
def readWord (requester : Nat) (unit : BitVec 32) (key : Nat) (s : State) : Bool × State :=
  let mem := keyMem key
  let addr := keyAddr key
  match sramClass (sramMark s key) with
  | 0 => (false, s)
  | 1 =>
    let s := countCorrected mem (sramRegion mem addr) (logWord 0 requester unit key false s)
    (false, { s with integ := { s.integ with sramQueue := if s.integ.sramQueue.contains key then s.integ.sramQueue else s.integ.sramQueue ++ [key] } })
  | _ =>
    let s := countUe mem (sramRegion mem addr) (logWord 1 requester unit key false s)
    let s := ev 0xB003 (integDetail mem requester addr) s (unit := unit)
    (true, if isFireCritical requester then fireCritical requester addr s else s)

/-- A requester reads the words that a test picks among those with errors: the uncorrectable ones, in ascending order, and the state. -/
def readMarked (requester : Nat) (unit : BitVec 32) (pick : Nat → Bool) (s : State) : List Nat × State :=
  ((s.integ.sramErr.map (·.1)).filter pick).foldl (fun (a : List Nat × State) key =>
    let r := readWord requester unit key a.2
    (if r.1 then a.1 ++ [key] else a.1, r.2)) ([], s)

/-- What struck SRAM words, where it lies in what a command reads. -/
def strikeWords (upsets : List WordUpset) (pick : Nat → Bool) (s : State) : State :=
  forAll (upsets.filter (fun x => pick (sramKey x.memory (8 * x.word)))) (fun x => strikeWord (sramKey x.memory (8 * x.word)) x.data x.check) s

/-- R222: the words that the checker test wrote and a test picks hold other content from now on. -/
def forgetWords (pick : Nat → Bool) (s : State) : State :=
  { s with integ := { s.integ with sramWord := s.integ.sramWord.filter (fun e => !pick e.1) } }

/-- R210 code 0Ah, R308: the nozzle entry of a channel is restored from the stored copy: the decision fields exactly, and the counter fields lose
the changes since the last write-back. -/
def restoreEntry (ch : Nat) (s : State) : State :=
  let s := { s with integ := { s.integ with sramErr := s.integ.sramErr.filter (fun e => !(keyMem e.1 == 1 && keyAddr e.1 / 48 == ch)) }
                    noz := { s.noz with planted := tput none s.noz.planted ch none } }
  setNozCnt ch (tget {} s.noz.cntStored ch) s

/-- R213: an uncorrectable read of a cluster's line-buffer bank; those of the last second are kept. -/
def noteClusterUe (c : Nat) (s : State) : State :=
  let now := s.time.now
  { s with integ := { s.integ with clusterUe := tmod [] s.integ.clusterUe c (fun l => now :: l.filter (fun t => decide (now < t + sec))) } }

/-- R213: an uncorrectable read of a nozzle-table word, by byte address / 8. -/
def noteNozzleUe (word : Nat) (s : State) : State :=
  let now := s.time.now
  { s with integ := { s.integ with nozzleUe := tmod [] s.integ.nozzleUe word (fun l => now :: l.filter (fun t => decide (now < t + sec))) } }

/-- R26, R30, R213, R550: a region fault: class 3, FAULT.REGION. The remounts in the region end: those on its engines, and those of its bands and
engines on a spare borrowed from another region. -/
def regionFault (r : Nat) (first : BitVec 32) (s : State) : State :=
  let s := endRemounts (fun e x => e / 9 == r || x.cluster / 3 == r || (x.remount.any (fun m => m.failed / 9 == r))) s
  let s := raise 0xB021 3 (faultDetail r 0 0 first.toNat) s (unit := unitRegion r)
  addFault 0xB021 3 4 (unitRegion r) s (trigger := some 7)

/-- R213, R308: a word of the nozzle table has read uncorrectable: its entry is restored, and the third time in a second is a region fault, found by
`unit`. -/
def nozzleWordUe (unit : BitVec 32) (key : Nat) (s : State) : State :=
  let word := keyAddr key / 8
  let s := restoreEntry (keyAddr key / 48) (noteNozzleUe word s)
  if 3 ≤ (tget [] s.integ.nozzleUe word).length then regionFault (sramRegion 1 (keyAddr key)) unit s else s

end Sys2Proof.Machine
end

