-- ==== Sys2Proof/Machine/Streams.lean ====
section
/-! DEFINITION. Stream rings: received bytes, gaps, the stripe index, credits, acknowledgements and requests (R146 to R163), the place
of stripes in their page (R149), regions, windows and loads of decoding (R244 to R248), and release (R150). -/

namespace Sys2Proof.Machine

/-! ### Configuration of a ring -/

def ringBase (s : State) (n : Nat) : Nat := cfgN s 0x5000 n
def ringSize (s : State) (n : Nat) : Nat := cfgN s 0x5001 n
def ringPlane (s : State) (n : Nat) : Nat := cfgN s 0x5002 n
def ringFirst (s : State) (n : Nat) : Nat := cfgN s 0x5003 n
def ringWidth (s : State) (n : Nat) : Nat := cfgN s 0x5004 n

def ringNums : List Nat := List.range 64

/-- R146: the store address of a byte of the sequence. -/
def ringAddr (s : State) (n q : Nat) : Nat := ringBase s n + (if ringSize s n = 0 then 0 else q % ringSize s n)

/-! ### Runs of bytes -/

/-- Insert a run into a list of disjoint runs in rising order, joining those it touches. -/
def addRun (a b : Nat) (l : List (Nat × Nat)) : List (Nat × Nat) :=
  if b ≤ a then l else
    let hit := l.filter (fun r => r.1 ≤ b ∧ a ≤ r.2)
    let lo := hit.foldl (fun x r => min x r.1) a
    let hi := hit.foldl (fun x r => max x r.2) b
    (l.filter (fun r => r.2 < lo)) ++ [(lo, hi)] ++ l.filter (fun r => hi < r.1)

/-- Take a run away. -/
def cutRun (a b : Nat) (l : List (Nat × Nat)) : List (Nat × Nat) :=
  (l.flatMap (fun r => [(r.1, min r.2 a), (max r.1 b, r.2)])).filter (fun r => r.1 < r.2)

/-- The parts of [a, b) that no run of the list holds. -/
def missingIn (l : List (Nat × Nat)) (a b : Nat) : List (Nat × Nat) :=
  l.foldl (fun acc r => cutRun r.1 r.2 acc) (if a < b then [(a, b)] else [])

/-- The received runs of a ring: below CUM, and the ranges above it. -/
def received (r : Ring) : List (Nat × Nat) := if r.cum = 0 then r.ranges else (0, r.cum) :: r.ranges

/-- The byte has been received. -/
def held (r : Ring) (q : Nat) : Bool := (received r).any (fun x => x.1 ≤ q ∧ q < x.2)

/-- CUM takes in the ranges that reach it. -/
def absorb (r : Ring) : Ring :=
  let c := r.ranges.foldl (fun c x => if x.1 ≤ c then max c x.2 else c) r.cum
  { r with cum := c, ranges := r.ranges.filter (fun x => c < x.1) }

/-- R154: the gaps that stand now; a part of an old gap keeps its times. -/
def regap (now : Nat) (r : Ring) : Ring :=
  let miss := missingIn (received r) 0 r.high
  let old := r.gaps.flatMap (fun g => (miss.map (fun m => { g with first := max g.first m.1, stop := min g.stop m.2 })).filter (fun g => g.first < g.stop))
  let fresh := (old.foldl (fun acc g => cutRun g.first g.stop acc) miss).map (fun m => (⟨m.1, m.2, now, none, 1⟩ : Gap))
  { r with gaps := (old ++ fresh).filter (fun g => r.release < g.stop) }

/-- The runs that the partner has received (R163). -/
def peerHeld (r : Ring) : List (Nat × Nat) := if r.peerCum = 0 then r.peerRanges else (0, r.peerCum) :: r.peerRanges

/-- R154, R155, R163: the partner's gaps that stand now: a part of an old gap keeps its times, bytes that it had received count as an integrity
request. -/
def regapPeer (now : Nat) (was : List (Nat × Nat)) (r : Ring) : Ring :=
  let top := max r.high ((was ++ peerHeld r).foldl (fun a x => max a x.2) 0)
  let miss := missingIn (peerHeld r) 0 top
  let cut := fun (l : List Gap) (m : List (Nat × Nat)) => l.foldl (fun acc g => cutRun g.first g.stop acc) m
  let old := r.peerGaps.flatMap (fun g => (miss.map (fun m => { g with first := max g.first m.1, stop := min g.stop m.2 })).filter (fun g => g.first < g.stop))
  let lost := miss.flatMap (fun m => (was.map (fun w => (max w.1 m.1, min w.2 m.2))).filter (fun x => x.1 < x.2))
  let integ := (cut old lost).map (fun m => (⟨m.1, m.2, now, none, 2⟩ : Gap))
  let fresh := (cut (old ++ integ) miss).map (fun m => (⟨m.1, m.2, now, none, 1⟩ : Gap))
  { r with peerGaps := (old ++ integ ++ fresh).filter (fun g => r.peerRelease < g.stop) }

/-! ### Acknowledgements (R153, R157, R163) -/

/-- R157: where the stream's packets go: the latest source on a port that is up. -/
def streamPeer (s : State) (n : Nat) : Option Peer := (s.ring n).sources.find? (fun p => (s.port (portNum p.port)).up)

/-- Parts common to two lists of runs. -/
def commonRuns (a b : List (Nat × Nat)) : List (Nat × Nat) :=
  a.flatMap (fun x => (b.map (fun y => (max x.1 y.1, min x.2 y.2))).filter (fun z => z.1 < z.2))

/-- R163: the ring values that the lead publishes: with a wheeler, the lower CUM and release point and the common runs. -/
def ackValues (s : State) (n : Nat) : Nat × Nat × List (Nat × Nat) :=
  let r := s.ring n
  if hasWheeler s then
    let c := min r.cum r.peerCum
    (c, min r.release r.peerRelease, (commonRuns (received r) (peerHeld r)).filter (fun x => c < x.1))
  else (r.cum, r.release, r.ranges)

/-- R151, R163: LIMIT as the device publishes it. -/
def ackLimitOf (s : State) (n : Nat) : Nat := if hasWheeler s then (ackValues s n).2.1 + ringSize s n else (s.ring n).limit

/-- R153: send an ACK. -/
def sendAck (n : Nat) (s : State) : State :=
  let r := s.ring n
  let v := ackValues s n
  let limit := ackLimitOf s n
  match (if isWheeler s then none else streamPeer s n) with
  | none => s
  | some p => emit (.ack n p (cfgN s 0x5005 n) limit v.2.1 v.1 (v.2.2.take 32))
      (s.setRing n { r with ackAt := s.time.now, dataSince := false, ackLimit := limit })

/-- R163: the wheeler's values go to the lead, and the lead's to the wheeler (R475). -/
def sendRing (n : Nat) (s : State) : State :=
  let r := s.ring n
  if isWheeler s ∨ hasWheeler s then
    sendRecord (.ring n r.cum r.release r.ranges (if isWheeler s then r.limit else r.ackLimit)) s
  else s

/-- R163: the wheeler tells the lead of each change of its CUM, ranges and release point; `old` is the ring before. -/
def noteRing (n : Nat) (old : Ring) (s : State) : State :=
  let r := s.ring n
  if isWheeler s ∧ (r.cum ≠ old.cum ∨ r.release ≠ old.release ∨ r.ranges ≠ old.ranges) then sendRing n s else s

/-- R154: send a NAK for runs, at most 32 in each packet. -/
def sendNak (n reason : Nat) : Nat → List (Nat × Nat) → State → State
  | 0, _, s => s
  | k + 1, runs, s =>
    if runs.isEmpty then s else
      match (if isWheeler s then none else streamPeer s n) with
      | none => s
      | some p =>
        let v := ackValues s n
        sendNak n reason k (runs.drop 32) (emit (.nak n p (cfgN s 0x5005 n) reason (ackLimitOf s n) v.2.1 v.1 (runs.take 32)) s)

/-- R165: DETAIL of a stream event. -/
def streamDetail (n reason : Nat) (v : Int) : BitVec 96 := detail n reason 0 v

/-! ### Stripes and pages (R149, R156, R277, R278) -/

/-- R261: vertical and horizontal upsampling factors of a plane. -/
def vFactor (e : Env) (p : Nat) : Nat := if bitOn (e.int 0x6001 (p + 1)) 1 then 2 else 1
def hFactor (e : Env) (p : Nat) : Nat := if bitOn (e.int 0x6001 (p + 1)) 0 then 2 else 1

/-- R149: contone lines of a page for a plane. -/
def contoneLines (e : Env) (p : Nat) (pg : Page) : Nat := (pg.full + vFactor e p - 1) / vFactor e p

/-- R125: the page has contone lines of the plane. -/
def pageCarries (pg : Page) (p : Nat) : Bool := !pg.blank && pg.planes.getLsbD p

/-- R278: the lowest print line of a page whose upsampling reads contone row `j`. -/
def needLine (e : Env) (p : Nat) (pg : Page) (j : Nat) : Int :=
  pg.first + (if vFactor e p = 2 then (2 * j - 1 : Nat) else j)

/-- The last print line of a page that reads contone row `j`. -/
def lastReader (e : Env) (p : Nat) (pg : Page) (j : Nat) : Int :=
  min (pg.first + (vFactor e p * j + (vFactor e p - 1) : Nat)) (pg.first + pg.lines - 1)

/-- R277: the start position S(L) of a plane, in 2^-32 line. -/
def startPos (s : State) (p : Nat) (L : Int) : Int :=
  let e := envAt s L
  (L - lookAhead e p - 1) * oneLine + planeOffset e p

/-- R156: where the decoder starts print line `L`: 64 print lines before screening, L + O_p − A_p − 64. -/
def decodeStart (s : State) (p : Nat) (L : Int) : Int :=
  let e := envAt s L
  (L - lookAhead e p - 64) * oneLine + planeOffset e p

/-- The queued page with a page number. -/
def pageNumbered (s : State) (page : BitVec 32) : Option Page := s.gait.pages.find? (fun p => p.page == page)

/-- The index entry with a base. -/
def stripeAt (r : Ring) (base : Nat) : Option Stripe := r.index.find? (fun x => x.base == base)

/-- Change the index entry with a base. -/
def Ring.modStripe (r : Ring) (base : Nat) (f : Stripe → Stripe) : Ring :=
  { r with index := r.index.map (fun x => if x.base = base then f x else x) }

/-- The bytes of a run of the sequence, as stored. -/
def ringBytes (s : State) (n q len : Nat) : List Byte := (List.range len).map (fun i => readByte s (ringAddr s n (q + i)))

/-- R149, R241: contone lines of a stripe: from its header once the first block has been received; none when the header is wrong. -/
def stripeDepth (s : State) (n : Nat) (x : Stripe) : Option Nat :=
  if x.err = 1 then none
  else match x.depth with
    | some d => some d
    | none =>
      if held (s.ring n) x.base then
        let h := parseHdr (ringBytes s n x.base 24)
        match x.len with
        | some l => if hdrInvalid h l then none else some h.lines
        | none => some h.lines
      else none

/-- The stripe `k` of a page in a ring that has not been released. -/
def openStripe (r : Ring) (page : BitVec 32) (k : Nat) : Option Stripe :=
  r.index.find? (fun x => x.page == page && x.stripe.toNat == k && x.state != .released)

/-- The record of the released stripe `k` of a page. -/
def oldStripe (r : Ring) (page : BitVec 32) (k : Nat) : Option OldStripe := r.depths.find? (fun d => d.page == page && d.stripe == k)

/-- R149: the depth of stripe `k` of a page in a ring, released or not. -/
def depthOf (s : State) (n : Nat) (page : BitVec 32) (k : Nat) : Option Nat :=
  match openStripe (s.ring n) page k with
  | some x => stripeDepth s n x
  | none => (oldStripe (s.ring n) page k).bind (·.depth)

/-- R241: stripe `k` of a page has met an error, released or not. -/
def stripeBad (s : State) (n : Nat) (page : BitVec 32) (k : Nat) : Bool :=
  match openStripe (s.ring n) page k with
  | some x => x.err != 0
  | none => match oldStripe (s.ring n) page k with | some d => d.bad | none => false

/-- R149: the first contone row of stripe number `k` of a page in a ring: the sum of the depths before it. -/
def stripeRow (s : State) (n : Nat) (page : BitVec 32) : Nat → Option Nat
  | 0 => some 0
  | k + 1 => match stripeRow s n page k, depthOf s n page k with
    | some row, some d => some (row + d)
    | _, _ => none

/-- The lowest row that stripe number `k` of a page can begin at: the sum of the depths known before it. -/
def leastRow (s : State) (n : Nat) (page : BitVec 32) (k : Nat) : Nat := (List.range k).foldl (fun a i => a + (depthOf s n page i).getD 0) 0

/-- R156, R233: the earliest line of a stripe that bytes of it from `a` on hold: line 0 for its header and table, and while the table has not
been received. -/
def firstLineHeld (s : State) (n : Nat) (x : Stripe) (a : Nat) : Nat :=
  let h := parseHdr (ringBytes s n x.base 24)
  let table := x.base + 24 + 4 * h.lines
  if a < table ∨ !held (s.ring n) x.base ∨ h.blank ∨ h.lines = 0 ∨ 4096 < h.lines ∨
      !(missingIn (received (s.ring n)) x.base table).isEmpty then 0
  else
    let t := ringBytes s n (x.base + 24) (4 * h.lines)
    ((List.range h.lines).filter (fun i => decide (x.base + 24 + beNat ((t.drop (4 * i)).take 4) ≤ a))).getLastD 0

/-- R156: a run of bytes may still be requested: the decode start of the earliest line it holds lies at least RetxMargin lines
above ⌊P⌋. Bytes of no stripe of a queued page may always be requested. -/
def inTime (s : State) (n a b : Nat) : Bool :=
  let p := ringPlane s n
  ((s.ring n).index.filter (fun x => x.base < b ∧ a < max x.top (x.base + x.len.getD 0))).all (fun x =>
    match pageNumbered s x.page with
    | none => true
    | some pg =>
      let row := (stripeRow s n x.page x.stripe.toNat).getD (leastRow s n x.page x.stripe.toNat)
      let L := needLine (envAt s pg.first) p pg (row + firstLineHeld s n x (max a x.base))
      decide ((lineOf (pPos s) + cfg s 0x5013 0) * oneLine ≤ decodeStart s p L))

/-! ### Release (R150, R151, R242) -/

/-- The end of a released stripe: where its EOS packet put it, otherwise the base of the next stripe in the index (R147), otherwise the last
byte received (assumption log 62). -/
def releasedEnd (r : Ring) (x : Stripe) : Nat :=
  match x.len with
  | some l => x.base + l
  | none => ((r.index.find? (fun y => decide (x.base < y.base))).map (·.base)).getD (max x.base x.top)

/-- R151: RELEASE and LIMIT follow the oldest stripe not released; both never fall. Bytes that lie below it and belong to no stripe of the index
are of one that has not been released either (R147). Missing bytes of released stripes hold CUM back no longer. -/
def updateRelease (n : Nat) (s : State) : State :=
  let r0 := s.ring n
  let dead := r0.index.filter (fun x => x.state == .released)
  let r := absorb (dead.foldl (fun r x => { r with ranges := addRun x.base (releasedEnd r0 x) r.ranges }) r0)
  let open' := r.index.filter (fun x => x.state != .released)
  let point := open'.foldl (fun a x => min a x.base) r.cum
  let rel := max r.release point
  let limit := max r.limit (rel + ringSize s n)
  let rises := decide (r.limit < limit) && decide (r.limitTick ≠ tickNow s)
  let r := { r with release := rel, limit := limit
                    limitTick := if rises then tickNow s else r.limitTick
                    limitWas := if rises then r.limit else r.limitWas
                    index := r.index.filter (fun x => x.state != .released || (x.len.isNone && releasedEnd r0 x == max x.base x.top) ||
                      decide (rel < releasedEnd r0 x)) }
  let s := noteRing n r0 (s.setRing n (regap s.time.now r))
  if r.ackLimit + 1048576 ≤ r.limit then sendAck n s else s

/-- R241, R242: the lines that a stripe covers from row `row` on: its own, or after a wrong header every line of the rest of the page. -/
def coverDepth (s : State) (n : Nat) (pg : Page) (x : Stripe) (row : Nat) : Option Nat :=
  let rest := contoneLines (envAt s pg.first) (ringPlane s n) pg - row
  if x.err = 1 then some rest else (stripeDepth s n x).map (fun d => min d rest)

/-- R148: the index entries in use: those of stripes not released. An entry that waits for the end of a released stripe is not counted. -/
def indexUsed (r : Ring) : Nat := (r.index.filter (fun x => x.state != .released)).length

/-- Release the stripes of a ring that a test picks. -/
def releaseWhere (n : Nat) (f : Stripe → Bool) (s : State) : State :=
  let r := s.ring n
  let gone := r.index.filter (fun x => f x && x.state != .released)
  if gone.isEmpty then s
  else
    let known := gone.map (fun x => (⟨x.page, x.stripe.toNat, stripeDepth s n x, x.err != 0⟩ : OldStripe))
    updateRelease n (s.setRing n { r with index := r.index.map (fun x => if f x then { x with state := .released } else x), depths := r.depths ++ known })

/-- R126, R150: the stripes of a page are released when it leaves the queue or an abort drops it. -/
def releasePage (page : BitVec 32) (s : State) : State :=
  forAll ringNums (fun n s =>
    let s := releaseWhere n (fun x => x.page == page) s
    s.setRing n { s.ring n with depths := (s.ring n).depths.filter (fun d => d.page != page) }) s

/-! ### Integrity (R155, R160, R208) -/

/-- R155: a stripe is bad for its data: its blocks are marked not received and requested again, once while the resend stands. -/
def integrityResend (n base reason : Nat) (s : State) : State :=
  let r := s.ring n
  match stripeAt r base with
  | none => s
  | some x =>
    if x.retx ∨ x.state = .released then s else
      let stop := max x.top (x.base + x.len.getD 0)
      let keep := cutRun x.base stop (received r)
      let cum := match keep with | (0, c) :: _ => c | _ => 0
      let r := { r with cum := cum, ranges := keep.filter (fun k => cum < k.1), status := r.status.set s.time.now 9 }
      let r := r.modStripe base (fun x => { x with state := .filling, retx := true })
      let now := s.time.now
      let r := { r with gaps := (r.gaps.filter (fun g => g.stop ≤ x.base ∨ stop ≤ g.first)) ++ [⟨x.base, stop, now, some now, 2⟩] }
      let s := s.setRing n r
      let s := ev 0x5011 (streamDetail n reason base) s (count := r.status.count 9)
      let s := if inTime s n x.base stop then sendNak n 2 1 [(x.base, stop)] s
               else s.setRing n { s.ring n with gaps := (s.ring n).gaps.map (fun g => if g.first = x.base then { g with reason := 0 } else g) }
      sendRing n s

/-- The stripe not released that holds a store address, as ring and base (R208). -/
def stripeOfAddr (s : State) (a : Nat) : Option (Nat × Nat) :=
  ringNums.findSome? (fun n =>
    let r := s.ring n
    if r.enable ∧ ringBase s n ≤ a ∧ a < ringBase s n + ringSize s n then
      (r.index.find? (fun x => x.state != .released &&
        (let stop := max x.top (x.base + x.len.getD 0)
         (List.range (2 + (stop - x.base) / max 1 (ringSize s n))).any (fun k =>
           let q := (x.base / max 1 (ringSize s n) + k) * ringSize s n + (a - ringBase s n)
           decide (x.base ≤ q) && decide (q < stop))))).map (fun x => (n, x.base))
    else none)

/-! ### Regions of decoding (R244, R246, R248) -/

/-- R244, R273: the lowest head that prints a contone column of a plane: one of the print columns that it gives, or its plane column under
bypass. -/
def headOfContone (e : Env) (p i : Nat) : Option Nat :=
  if e.nat 0x6000 (p + 1) = 2 then ((planeChans e p)[i]?).map chanHead
  else
    let H := hFactor e p
    (headsOf e p).find? (fun h => (List.range (rowCount e h)).any (fun r => (List.range H).any (fun a => (nozzleAtCol e h r ((i * H + a : Nat) : Int)).isSome)))

/-- R244: the region that decodes a ring: that of the heads that print its band's first column. -/
def ringRegion (s : State) (e : Env) (n : Nat) : Option Nat :=
  if (s.ring n).enable then (headOfContone e (ringPlane s n) (ringFirst s n)).map regionOf else none

/-- The rings that a region decodes. -/
def ringsOf (s : State) (e : Env) (r : Nat) : List Nat := ringNums.filter (fun n => ringRegion s e n == some r)

/-- R246: 5062h Code.DecodeWindow, in contone lines; none when the region decodes no ring. -/
def decodeWindow (s : State) (e : Env) (r : Nat) : Option Int :=
  let sum := (ringsOf s e r).foldl (fun a n => a + ringWidth s n * (if e.nat 0x5061 (ringPlane s n + 1) = 10 then 2 else 1)) 0
  if sum = 0 then none else some ((2097152 / sum : Nat) - 3)

/-- R248: twice the contone pixel rate that a region must decode at MaxRate. -/
def regionRate2 (s : State) (e : Env) (r : Nat) : Nat :=
  (ringsOf s e r).foldl (fun a n => a + ringWidth s n * (e.nat 0x4050 0 * 2 / vFactor e (ringPlane s n))) 0

/-- R248: 5065h Code.RegionLoad in Mpixel/s, to the nearest. -/
def regionLoad (s : State) (r : Nat) : Nat := (regionRate2 s (envNow s) r + 1000000) / 2000000

/-- R249: working decoders of a region. -/
def workingDecoders (s : State) (r : Nat) : Nat := ((List.range 6).filter (fun d => !tget false s.screen.decFailed (6 * r + d))).length

/-- R249, R287: the rate at which every region's decode load equals its capacity, in lines/s; none where no region has a load. -/
def decodeRate (s : State) : Option Nat :=
  let e := envNow s
  (List.range 4).foldl (fun a r =>
    let per := (ringsOf s e r).foldl (fun a n => a + ringWidth s n * (2 / vFactor e (ringPlane s n))) 0
    if per = 0 then a
    else
      let rate := workingDecoders s r * 2000000000 * 2 / per
      some (match a with | some b => min b rate | none => rate)) none

end Sys2Proof.Machine
end

