-- ==== Sys2Proof/Machine/Screening.lean ====
section
/-! DEFINITION. Screening: what a line prints at a plane (R125), samples, gathering and levels (R259 to R274), test bars (R419 to
R422), bands (R275, R276), lead (R279), checkpoints and verification (R281), roll-back and recompute (R284, R247), capacity
(R287). -/

namespace Sys2Proof.Machine

/-! ### What a line prints (R125) -/

/-- R125: contone of a page, a test bar in the gap of a page, or blank. -/
inductive LineKind where
  | contone (pg : Page)
  | bar (pg : Page)
  | blank
  deriving DecidableEq, Repr

/-- R125, R280: what plane `p` prints on line `L`. -/
def lineKind (s : State) (p : Nat) (L : Int) : LineKind :=
  if !linePrints s L then .blank
  else match pageOf s L with
    | some pg => if pageCarries pg p then .contone pg else .blank
    | none => match gapOf s L with
      | some pg => if pg.testbar then .bar pg else .blank
      | none => .blank

/-! ### Bands -/

/-- The engines. -/
def engineNums : List Nat := List.range 36

/-- The engines that hold a band of a plane, in band order of their numbers. -/
def bandEngines (s : State) (p : Nat) : List Nat :=
  engineNums.filter (fun e => (s.engine e).role == .band && (s.engine e).plane == some p)

/-- The engine of a band of a plane. -/
def engineOf (s : State) (p b : Nat) : Option Nat := (bandEngines s p).find? (fun e => (s.engine e).band == b)

/-- R270, R272: error diffusion carries the band at one of its lines that are not verified, or at its next. -/
def diffuses (s : State) (x : Engine) : Bool :=
  match x.plane with
  | none => false
  | some p => (List.range (x.next - x.unverified + 1).toNat).any (fun (i : Nat) => (envAt s (x.unverified + i)).nat 0x6000 (p + 1) == 1)

/-- The channels of a band, in column order; virtual columns have none. -/
def bandChans (e : Env) (x : Engine) : List Nat := ((planeChans e (x.plane.getD 0)).drop x.first).take x.width

/-- The bands of a plane that reach a head: their numbers, with or without an engine. -/
def bandsOfHead (s : State) (e : Env) (p h : Nat) : List Nat :=
  let chans := planeChans e p
  let hit := fun (first width : Nat) => ((chans.drop first).take width).any (fun c => chanHead c == h)
  ((bandEngines s p).filter (fun k => hit (s.engine k).first (s.engine k).width)).map (fun k => (s.engine k).band) ++
    (s.screen.bare.filter (fun b => b.plane == p && hit b.first b.width)).map (·.band)

/-- The heads that a band reaches. -/
def headsOfBand (e : Env) (x : Engine) : List Nat :=
  (headsOf e (x.plane.getD 0)).filter (fun h => (bandChans e x).any (fun c => chanHead c == h))

/-! ### Samples (R258 to R261, R273) -/

/-- R260: the enabled ring that carries a contone column of a plane. -/
def ringOfCol (s : State) (p i : Nat) : Option Nat :=
  ringNums.find? (fun n => (s.ring n).enable && ringPlane s n == p && decide (ringFirst s n ≤ i) && decide (i < ringFirst s n + ringWidth s n))

/-- R246: a decoded contone line in a ring's staging. -/
def stagedRow (s : State) (n : Nat) (pg : Page) (j : Nat) : Option StagedRow :=
  (s.ring n).staged.find? (fun r => r.page == pg.page && r.row == j)

/-- R259, R260: the widened sample at contone column `i`, row `j`; none when the row has not been decoded. -/
def contoneAt (s : State) (p : Nat) (pg : Page) (i j : Nat) : Option Nat :=
  match ringOfCol s p i with
  | none => some 0
  | some n => (stagedRow s n pg j).map (fun r => widen r.depth (r.pixels.getD (i - ringFirst s n) 0))

/-- R260, R261: the sample of print column `k` on page line `l`. -/
def sampleAt (s : State) (e : Env) (p : Nat) (pg : Page) (l : Nat) (k : Int) : Option Nat :=
  let H := hFactor e p
  let V := vFactor e p
  let i := k.toNat / H
  let a := k.toNat % H
  let j := l / V
  let b := l % V
  let i1 := if (ringOfCol s p (i + 1)).isSome then i + 1 else i
  let j1 := if j + 1 < contoneLines e p pg then j + 1 else j
  if k < 0 ∨ (ringOfCol s p i).isNone then some 0 else
    match contoneAt s p pg i j, (if a = 0 then some 0 else contoneAt s p pg i1 j), (if b = 0 then some 0 else contoneAt s p pg i j1),
        (if a = 0 ∨ b = 0 then some 0 else contoneAt s p pg i1 j1) with
    | some c00, some c10, some c01, some c11 => some (upsample (bitOn (e.int 0x6001 (p + 1)) 2) a b c00 c10 c01 c11)
    | _, _, _, _ => none

/-- R273: the raw pixel of a plane column under bypass. -/
def bypassAt (s : State) (p : Nat) (pg : Page) (l c : Nat) : Option Nat :=
  match ringOfCol s p c with
  | none => some 0
  | some n => (stagedRow s n pg l).map (fun r => r.pixels.getD (c - ringFirst s n) 0)

/-- The effective state code and the entry of every channel at a line. -/
def effFun (s : State) (L : Int) : Nat → Nat := effAt s L

/-- R300: the channels of a plane that give shares: dead or inhibited. -/
def giversOf (s : State) (e : Env) (p : Nat) (L : Int) : List Nat :=
  (planeChans e p).filter (fun c => effAt s L c == 2 || effAt s L c == 3)

/-- The channels whose samples a channel's gathered value reads. -/
def sampledBy (e : Env) (p : Nat) (eff : Nat → Nat) (dec : Nat → NozDec) (givers : List Nat) (n : Nat) : List Nat :=
  n :: givers.filter (fun d =>
    (match overlapPartner e p d with | some q => q == n | none => false) || (receivers e p d (dec d)).any (fun x => x.1 == n && x.2 != 0))
    |>.filter (fun c => c == n || 2 ≤ eff c)

/-- R262, R263, R300: the conditioned value of a channel; none when a sample it reads has not been decoded. A nozzle that is dead,
inhibited or absent has no gathered value and enters as 0 (assumption log 21). -/
def valueAt (s : State) (e : Env) (p : Nat) (pg : Page) (L : Int) (givers : List Nat) (ch : Nat) : Option Nat :=
  let l := (L - pg.first).toNat
  let eff := effAt s L
  let dec := nozAt s L
  if !firing (eff ch) then some 0
  else if (sampledBy e p eff dec givers ch).any (fun c => (sampleAt s e p pg l (chanColumn e c)).isNone) then none
  else
    let u := fun c => (sampleAt s e p pg l (chanColumn e c)).getD 0
    some (curveOf (dec ch).curve (gather e p eff dec u givers ch))

/-! ### Thresholds (R264 to R267) -/

/-- R264: the store address of row `r` of a slot. -/
def rowAddr (s : State) (slot r : Nat) : Nat := (purposeRange s 3).1 + slot * 2097152 + r * 4096

/-- R264, R266: the thresholds of a cell. -/
def cellThresholds (s : State) (slot n x r : Nat) : List Nat :=
  (List.range n).map (fun m => (readByte s (rowAddr s slot r + m * 512 + x)).toNat)

/-- R266, R267: the array row that line `L` of a page uses: slot × 512 + row. -/
def arrayRow (s : State) (e : Env) (p : Nat) (pg : Page) (L : Int) : Option Nat :=
  match tget none s.screen.arrays (e.nat 0x6004 (p + 1)) with
  | some a => if a.h = 0 then none else some (e.nat 0x6004 (p + 1) * 512 + (L - pg.first).toNat % a.h)
  | none => none

/-- R267: the rows an engine needs from line `L` on, 64 of them, each once. -/
def windowRows (s : State) (e : Env) (p : Nat) (pg : Page) (L : Int) : List Nat :=
  ((List.range 64).filterMap (fun i => arrayRow s e p pg (L + (i : Nat)))).eraseDups

/-- R266: the level of a plane column under the threshold method; a slot that was never loaded gives level 0 (assumption log 22). -/
def thresholdAt (s : State) (e : Env) (p : Nat) (pg : Page) (L : Int) (c v : Nat) : Nat :=
  let slot := e.nat 0x6004 (p + 1)
  match tget none s.screen.arrays slot with
  | some a => if a.w = 0 ∨ a.h = 0 then 0
              else thresholdLevel (cellThresholds s slot a.n (c % a.w) ((L - pg.first).toNat % a.h)) v
  | none => 0

/-! ### Error diffusion (R268 to R271) -/

/-- The parts of a plane's accumulators. -/
def accOf (s : State) (p : Nat) : List AccPart := tget [] s.screen.acc p
def setAcc (p : Nat) (l : List AccPart) (s : State) : State := { s with screen := { s.screen with acc := tput [] s.screen.acc p l } }

/-- R269: the accumulators of a plane are 0 at the start of line `L`: a page's first line, a line after one that is not contone, or
one from which a commit changes the method or the kernel. -/
def accStart (s : State) (p : Nat) (L : Int) : Bool :=
  (match pageOf s L with | some pg => pg.first == L | none => true) ||
  (match lineKind s p (L - 1) with | .contone _ => false | _ => true) ||
  s.proto.commits.any (fun c => c.line == L && c.writes.any (fun w => (w.idx == 0x6000 || w.idx == 0x6006) && w.sub == p + 1))

/-- The lowest source line whose parts count at line `L` (a tap reaches two lines down). -/
def accFrom (s : State) (p : Nat) (L : Int) : Int :=
  if accStart s p L then L else if accStart s p (L - 1) then L - 1 else L - 2

/-- An accumulator from its parts. -/
def accSum (parts : List AccPart) (low L : Int) (c : Nat) : Int :=
  (parts.filter (fun a => a.line == L && a.col == c && decide (low ≤ a.src))).foldl (fun x a => x + a.val) 0

/-- The taps of a plane's kernel. -/
def kernelOf (e : Env) (p : Nat) : List (Nat × Int × Nat) := (Val.elems (e 0x6006 (p + 1))).map tapOf

/-- R269: the parts that the error of a column gives. -/
def spreadError (taps : List (Nat × Int × Nat)) (cols : Nat) (L : Int) (c : Nat) (err : Int) : List AccPart :=
  (taps.filter (fun t => 0 ≤ (c : Int) + t.2.1 ∧ (c : Int) + t.2.1 < cols)).map (fun t =>
    ⟨L, c, L + (t.1 : Nat), ((c : Int) + t.2.1).toNat, err * t.2.2 / 256⟩)

/-- R269: levels of the columns from `c` on, in ascending order, and the accumulator parts after them. -/
def diffuseCols (taps : List (Nat × Int × Nat)) (cols d : Nat) (low L : Int) : List (Bool × Nat) → Nat → List AccPart → List Nat × List AccPart
  | [], _, parts => ([], parts)
  | (idle, v) :: r, c, parts =>
    let q := diffuseLevel d idle v (accSum parts low L c)
    let rest := diffuseCols taps cols d low L r (c + 1) (parts ++ spreadError taps cols L c q.2)
    (q.1 :: rest.1, rest.2)

/-- A line whose contone is missing leaves errors that the spec does not give: a free value for each column (assumption log 23). -/
def freeErrors (p : Nat) (taps : List (Nat × Int × Nat)) (cols : Nat) (L : Int) (first width : Nat) : List AccPart :=
  (List.range width).flatMap (fun i =>
    spreadError taps cols L (first + i) (min (max (Config.freeOf 269 [p, L, (first + i : Nat)]) (-2048)) 2047))

/-! ### Test bars (R419 to R422) -/

/-- The planes that have heads. -/
def barPlanes (e : Env) : List Nat := activePlanes e

/-- R419: n_b. -/
def barSlotCount (e : Env) : Nat := min (e.nat 0x6046 0) (barPlanes e).length

/-- R419: lines of a slot, K × RL + 7 × SL. -/
def slotLines (e : Env) : Nat := e.nat 0x6043 0 * e.nat 0x6044 0 + 7 * e.nat 0x6045 0

/-- R419: 6047h Loop.BarLines. -/
def barLines (e : Env) : Nat := e.nat 0x6042 0 + 48 + barSlotCount e * slotLines e

/-- R420: the planes of bar `j`'s slots. -/
def barSlots (e : Env) (j : Nat) : List Nat :=
  let ps := barPlanes e
  (List.range (barSlotCount e)).map (fun i => ps.getD ((j * barSlotCount e + i) % max 1 ps.length) 0)

/-- R420: the sections of a bar. -/
inductive BarSect where
  | quiet
  /-- Line within the section. -/
  | marks (l : Nat)
  | rung (slot r : Nat)
  /-- Step m and line of the step. -/
  | step (slot m l : Nat)
  | after
  deriving DecidableEq, Repr

/-- R420: the section that line `l` of a bar lies in. -/
def barSection (e : Env) (l : Nat) : BarSect :=
  let q := e.nat 0x6042 0
  let k := e.nat 0x6043 0
  let rl := e.nat 0x6044 0
  let sl := e.nat 0x6045 0
  let size := k * rl + 7 * sl
  if l < q then .quiet
  else if l < q + 48 then .marks (l - q)
  else
    let x := l - q - 48
    let i := x / max 1 size
    let y := x % max 1 size
    if barSlotCount e ≤ i then .after
    else if y < k * rl then .rung i (y / max 1 rl)
    else .step i ((y - k * rl) / max 1 sl + 1) ((y - k * rl) % max 1 sl)

/-- R422: rank of a plane among those that have heads. -/
def planeRank (e : Env) (p : Nat) : Nat := ((barPlanes e).filter (· < p)).length

/-- R422: the print column k_u on which head row `u`'s mark is centred. -/
def markColumn (e : Env) (u : Nat) : Int :=
  firstColumn e (u / 2) + 256 + 192 * planeRank e ((planeOf e (u / 2)).getD 0)

/-- R422: the column of the reference plane nearest to column `k` of plane `p`. -/
def refColumn (e : Env) (ref p : Nat) (k : Int) : Int := roundDiv (k * e.int 0x7020 (ref + 1)) (e.nat 0x7020 (p + 1))

/-- R421: a channel fires a mark or a companion on line `l` of the marks section. -/
def firesMark (e : Env) (ref p ch l : Nat) : Bool :=
  let h := chanHead ch
  let r := nozzleRow e h (chanIndex ch)
  let k := chanColumn e ch
  if p ≠ ref then decide (8 + 16 * r ≤ l ∧ l < 24 + 16 * r) && decide (markColumn e (2 * h + r) - 16 ≤ k ∧ k ≤ markColumn e (2 * h + r) + 15)
  else r == 0 && ((barPlanes e).filter (· ≠ ref)).any (fun q => (rowsOf e q).any (fun u =>
    let c := refColumn e ref q (markColumn e u + 96)
    decide (8 + 16 * (u % 2) ≤ l ∧ l < 24 + 16 * (u % 2)) && decide (c - 16 ≤ k ∧ k ≤ c + 15)))

/-- R421: the nozzle at a print column that fires a step of bar `j`. -/
def stepNozzle (e : Env) (p j : Nat) (k : Int) : Option Nat :=
  let here := ((headsOf e p).flatMap (fun h => (List.range (rowCount e h)).filterMap (fun r => (nozzleAtCol e h r k).map (channel h))))
  let sorted := (here.foldl (fun acc (c : Nat) => insertChan ((c : Int), c) acc) []).map (·.2)
  sorted[j % max 1 sorted.length]?

/-- R421: plane column `c` (channel `ch`) of plane `p` fires line `l` of bar `j`. -/
def firesBar (e : Env) (p j l c ch : Nat) : Bool :=
  let slots := barSlots e j
  match barSection e l with
  | .quiet | .after => false
  | .marks x => firesMark e (e.nat 0x604F 0) p ch x
  | .rung i r => slots[i]? == some p && c % max 1 (e.nat 0x6043 0) == r
  | .step i m x => slots[i]? == some p && decide (x % 7 < m) && stepNozzle e p j (chanColumn e ch) == some ch

/-- The bar that starts at line `B`, if it is known. -/
def barAt (s : State) (B : Int) : Option Bar := s.loop.bars.find? (fun b => b.first == B)

/-- R420, R435: a bar comes to be when a band first screens a line of it: it takes the next bar number. -/
def openBar (B : Int) (s : State) : State :=
  if (barAt s B).isSome then s
  else
    let e := envAt s B
    { s with loop := { s.loop with j := s.loop.j + 1
                                   bars := s.loop.bars ++ [{ j := s.loop.j, first := B, slots := barSlots e s.loop.j, mode := e.nat 0x6040 0
                                                             regPlane := e.nat 0x604F 0, gen := s.proto.gen }] } }

/-! ### Lag and lead (R279) -/

/-- R279: the lag of a band, in whole lines. -/
def lagOf (s : State) (x : Engine) : Nat :=
  match x.plane with
  | none => 0
  | some p => if x.role != .band then 0 else ((s.gait.w - startPos s p x.next - oneLine) / oneLine).toNat

/-- R279: the lag that is normal for a band. -/
def lagNormal (s : State) (x : Engine) : Bool := decide (lagOf s x ≤ (if diffuses s x then 2 * x.band else 0))

/-- R292: DETAIL of an engine event. -/
def engineDetail (subject reason standin flags : Nat) (v : Int) : BitVec 96 := detail subject reason (standin * 256 + flags) v

/-- R279: ENGINE.LEAD of an engine. -/
def checkLead (k : Nat) (s : State) : State :=
  let x := s.engine k
  match x.plane with
  | none => s
  | some p =>
    if x.role != .band then s else
      let lead : Int := lookAhead (envAt s x.next) p - lagOf s x
      if 256 ≤ lead then s.setEngine k { x with leadRaised := false }
      else if x.leadRaised then s
      else ev 0x6004 (engineDetail k 0 0xFF 0 lead) (s.setEngine k { x with leadRaised := true }) (unit := unitEngine k) (line := atLine x.next)

/-- R279: the lead of every band as W moves. -/
def checkLeads (s : State) : State := forAll engineNums checkLead s

/-! ### The dot delay (R178, R281) -/

/-- R179: D. -/
def dotDepthLines (e : Env) : Nat := e.nat 0x5042 0

/-- Key of a line of a head in the dot delay. -/
def dotKey (e : Env) (h : Nat) (L : Int) : Nat := h * 16384 + (L % (dotDepthLines e : Int)).toNat

/-- The dots of line `L` of a head. -/
def dotsAt (s : State) (h : Nat) (L : Int) : Option DotLine :=
  match tget none s.screen.dots (dotKey (envAt s L) h L) with
  | some d => if d.line = L then some d else none
  | none => none

def setDots (h : Nat) (d : DotLine) (s : State) : State :=
  { s with screen := { s.screen with dots := tput none s.screen.dots (dotKey (envAt s d.line) h d.line) (some d) } }

/-- R281: the line has been released to assembly. -/
def DotLine.released (d : DotLine) : Bool := d.missing.isEmpty && d.late.isEmpty

/-- R281: released dots of line `L` of a head. -/
def dotsReady (s : State) (h : Nat) (L : Int) : Bool := match dotsAt s h L with | some d => d.released | none => false

/-- The line as a head's engines first write it. -/
def freshDots (s : State) (e : Env) (p h : Nat) (L : Int) : DotLine := ⟨L, List.replicate (e.nat 0x7001 h) 0, bandsOfHead s e p h, []⟩

/-- R178: the 64-byte units that the dots of nozzle indices `a` to `b` of head `h` and line `L` lie in. -/
def dotUnits (s : State) (e : Env) (h : Nat) (L : Int) (a b : Nat) : List Nat :=
  let d := dotDepth e ((planeOf e h).getD 0)
  let depth := dotDepthLines e
  let base := (headNums.filter (fun g => decide (g < h))).foldl (fun x g => x + depth * headLineBytes e g) (purposeRange s 2).1
  let start := (base + (L % (depth : Int)).toNat * headLineBytes e h) / 64
  (List.range (b * d / 512 + 1 - a * d / 512)).map (fun i => start + a * d / 512 + i)

/-- The bytes of drop codes at `d` bits each, the first code in the highest bits (assumption log 63). -/
def packDots (d : Nat) (codes : List Nat) : List Byte :=
  packBits (codes.length * d / 8) (codes.flatMap (fun c => (List.range d).map (fun i => c.testBit (d - 1 - i))))

/-- R178: the segments of 64 nozzles from segment `g` on, `n` of them, of a line of head `h` go to the dot delay. -/
def storeDots (e : Env) (h : Nat) (L : Int) (codes : List Nat) (g n : Nat) (s : State) : State :=
  let d := dotDepth e ((planeOf e h).getD 0)
  let part := (codes.drop (64 * g)).take (64 * n)
  writeBytes 1 ((dotUnits s e h L 0 0).headD 0 * 64 + g * 8 * d) (packDots d (part ++ List.replicate (64 * n - part.length) 0)) s

/-- R178, R281: a band writes its dots of line `L`; a line that is late in the band stays unreleased. -/
def writeDots (e : Env) (p : Nat) (x : Engine) (L : Int) (codes : List (Nat × Nat)) (late : Bool) (s : State) : State :=
  forAll (headsOfBand e x) (fun h s =>
    let d := (dotsAt s h L).getD (freshDots s e p h L)
    let mine := codes.filter (fun c => chanHead c.1 == h)
    let out := mine.foldl (fun l c => l.set (chanIndex c.1) c.2) d.codes
    let keep := d.late.filter (· != x.band)
    let segs := (mine.map (fun c => chanIndex c.1 / 64)).eraseDups
    let runs := if segs.isEmpty then [] else runsOf ((List.range (segs.foldl max 0 + 1)).map segs.contains) 0
    let s := forAll runs (fun r s => storeDots e h L out r.1 r.2 s) s
    setDots h { d with codes := out, late := if late then keep ++ [x.band] else keep } s) s

/-! ### Release of stripes (R150, R242) -/

/-- The lowest of a quantity of the bands of a plane; none when the plane has no band. -/
def bandsLow (s : State) (p : Nat) (f : Engine → Int) : Option Int :=
  match (bandEngines s p).map (fun k => f (s.engine k)) with
  | [] => none
  | a :: r => some (r.foldl min a)

/-- R242: the last contone line of its page that a stripe covers, with the page; none until the stripe is placed. -/
def lastCovered (s : State) (n : Nat) (x : Stripe) : Option (Page × Nat) :=
  match pageNumbered s x.page, stripeRow s n x.page x.stripe.toNat with
  | some pg, some row => (coverDepth s n pg x row).map (fun d => (pg, row + d - 1))
  | _, _ => none

/-- R150, R242: a stripe whose lines have all been screened and verified, or a bad one whose last covered line has passed its need position. -/
def stripeSpent (s : State) (n : Nat) (x : Stripe) : Bool :=
  let p := ringPlane s n
  match x.state, lastCovered s n x, bandsLow s p (·.unverified) with
  | .complete, some (pg, j), some v => x.depth == some x.nextLine && decide (lastReader (envAt s pg.first) p pg j < v)
  | .bad, some (pg, j), _ => decide (startPos s p (needLine (envAt s pg.first) p pg j) ≤ s.gait.w)
  | _, _, _ => false

/-- R150, R246: release what screening has passed, and drop decoded lines that no band reads any more. -/
def settleRings (p : Nat) (s : State) : State :=
  forAll (ringNums.filter (fun n => (s.ring n).enable && ringPlane s n == p)) (fun n s =>
    let s := releaseWhere n (stripeSpent s n) s
    let r := s.ring n
    let late := s.screen.dots.foldl (fun (a : Option Int) d => match d.2 with
      | some x => if x.late.isEmpty ∨ s.rein.state = 0 ∨ planeOf (envAt s x.line) (d.1 / 16384) ≠ some p then a
                  else some (min (a.getD x.line) x.line)
      | none => a) none
    match bandsLow s p (·.next) with
    | none => s
    | some v =>
      let low := min v (late.getD v)
      s.setRing n { r with staged := r.staged.filter (fun x => match pageNumbered s x.page with
        | some pg => decide (low - 1 ≤ lastReader (envAt s pg.first) p pg x.row)
        | none => false) }) s

/-- R242: as W moves, bad stripes whose last covered line has passed its need position are released. -/
def settleBad (s : State) : State :=
  forAll (ringNums.filter (fun n => (s.ring n).index.any (fun x => x.state == .bad))) (fun n s => releaseWhere n (stripeSpent s n) s) s

/-! ### Lateness of contone (R156, R245) -/

/-- The stripe of a page that holds contone row `j`, found by walking the stripes from the first: its number and its first row. The count
bounds the walk. -/
def stripeHolding (s : State) (n : Nat) (page : BitVec 32) (j : Nat) : Nat → Nat → Nat → Nat × Nat
  | 0, k, row => (k, row)
  | fuel + 1, k, row =>
    match depthOf s n page k with
    | none => (k, row)
    | some d => if j < row + d then (k, row) else stripeHolding s n page j fuel (k + 1) (row + d)

/-- R156: bytes of stripe `k` of a page are missing at print line `L`: LATE is set and, where `raise'` holds, STREAM.LATE raised, once for each
stripe; `miss` is the first missing byte. -/
def bytesLate (n : Nat) (page : BitVec 32) (k miss : Nat) (L : Int) (raise' : Bool) (s : State) : State :=
  let r := s.ring n
  if r.lates.contains (page, k) then s
  else
    let r := { r with lates := (page, k) :: r.lates.take 63, status := r.status.set s.time.now 8 }
    let s := s.setRing n r
    if raise' then ev 0x5010 (streamDetail n 0 miss) s (line := atLine L) (count := r.status.count 8) else s

/-- R156, R241, R245, R251: contone row `j` of a page is missing from a ring when print line `L` needs it: STREAM.LATE for missing bytes and for
a stripe released early; DECODE.SLOW for a complete stripe, at most once per second for each ring; what DECODE.ERROR has reported, no event. -/
def missRow (n : Nat) (pg : Page) (j : Nat) (L : Int) (s : State) : State :=
  let r := s.ring n
  let h := stripeHolding s n pg.page j 4096 0 0
  if stripeBad s n pg.page h.1 then s
  else match openStripe r pg.page h.1 with
    | none => bytesLate n pg.page h.1 r.cum L true s
    | some x =>
      if x.state = .complete then
        let due := match r.slowAt with | some t => decide (t + sec ≤ s.time.now) | none => true
        if due && !x.err8 then ev 0x5041 (streamDetail n 0 ((x.stripe.toNat * 4294967296 + (j - h.2) * 65536 : Nat) : Int))
          (s.setRing n { r with slowAt := some s.time.now }) (line := atLine L)
        else s
      else
        let miss := ((missingIn (received r) x.base (max x.top (x.base + x.len.getD 0))).head?.map (·.1)).getD (max x.base x.top)
        bytesLate n pg.page h.1 miss L (!x.err8) s

/-- The rings and rows that a band needs for a line and that are not staged. -/
def missingRows (s : State) (e : Env) (p : Nat) (pg : Page) (x : Engine) (L : Int) : List (Nat × Nat) :=
  let l := (L - pg.first).toNat
  let V := vFactor e p
  let bypass := e.nat 0x6000 (p + 1) = 2
  let rows := if bypass then [l]
    else if l % V = 0 ∨ contoneLines e p pg ≤ l / V + 1 then [l / V] else [l / V, l / V + 1]
  let cols := if bypass then (List.range x.width).map (x.first + ·)
    else (bandChans e x).map (fun c => (chanColumn e c).toNat / hFactor e p)
  let rings := (cols.filterMap (ringOfCol s p)).eraseDups
  rings.flatMap (fun n => (rows.filter (fun j => (stagedRow s n pg j).isNone)).map (fun j => (n, j)))

/-! ### One line (R277) -/

/-- What screening a line of a band gives: the codes of its channels, lateness, the accumulator parts after it. -/
structure LineResult where
  codes : List (Nat × Nat) := []
  late : Bool := false
  parts : List AccPart := []
  deriving DecidableEq, Repr

/-- R274: the drop code of a level of a channel. -/
def codeOf (s : State) (e : Env) (p : Nat) (L : Int) (ch level : Nat) : Nat := dropOf (e.elem 0x6007 (p + 1) (nozAt s L ch).dropMap) level

/-- R262 to R274: a contone line of a band. -/
def screenContone (s : State) (e : Env) (p : Nat) (pg : Page) (x : Engine) (L : Int) : LineResult :=
  let parts := (accOf s p).filter (fun a => !(a.src == L && decide (x.first ≤ a.org) && decide (a.org < x.first + x.width)))
  let chans := bandChans e x
  let d := dotDepth e p
  let method := e.nat 0x6000 (p + 1)
  let cols := planeColumns e p
  let lostRow := method == 0 && (match arrayRow s e p pg L with
    | some k => (tget [] s.screen.lostRows (k / 512)).contains (k % 512)
    | none => false)
  if method = 2 then
    let px := (chans.zip (List.range chans.length)).map (fun c => (c.1, bypassAt s p pg (L - pg.first).toNat (x.first + c.2)))
    if px.any (fun v => v.2.isNone) then { late := true, parts := parts }
    else { codes := px.map (fun v => (v.1, codeOf s e p L v.1 (if firing (effAt s L v.1) then v.2.getD 0 % 2 ^ d else 0))), parts := parts }
  else
    let givers := giversOf s e p L
    let vs := chans.map (fun c => (c, valueAt s e p pg L givers c))
    let late := vs.any (fun v => v.2.isNone) || lostRow || (match x.lostFrom with | some l => decide (l ≤ L) && decide (pg.first ≤ l) | none => false)
    if method = 0 then
      if late then { late := true, parts := parts }
      else { codes := (vs.zip (List.range vs.length)).map (fun v =>
               (v.1.1, codeOf s e p L v.1.1 (if firing (effAt s L v.1.1) then thresholdAt s e p pg L (x.first + v.2) (v.1.2.getD 0) else 0)))
             parts := parts }
    else
      let taps := kernelOf e p
      if late then { late := true, parts := parts ++ freeErrors p taps cols L x.first x.width }
      else
        let ins := vs.map (fun v => (!firing (effAt s L v.1), v.2.getD 0)) ++ List.replicate (x.width - vs.length) (true, 0)
        let out := diffuseCols taps cols d (accFrom s p L) L ins x.first parts
        { codes := (vs.zip out.1).map (fun v => (v.1.1, codeOf s e p L v.1.1 v.2)), parts := out.2 }

/-- R421, R280: a test-bar line of a band. -/
def screenBar (s : State) (e : Env) (p : Nat) (pg : Page) (x : Engine) (L : Int) : LineResult :=
  let B := pg.first + pg.lines
  let layout := envAt s B
  let j := ((barAt s B).map (·.j)).getD s.loop.j
  let chans := bandChans e x
  { codes := (chans.zip (List.range chans.length)).map (fun c =>
      let fires := decide (effAt s L c.1 ≤ 2) && firesBar layout p j (L - B).toNat (x.first + c.2) c.1
      (c.1, codeOf s e p L c.1 (if fires then 2 ^ dotDepth e p - 1 else 0)))
    parts := accOf s p }

/-- R280: a blank line writes drop code 0. -/
def screenBlank (s : State) (e : Env) (p : Nat) (x : Engine) : LineResult := { codes := (bandChans e x).map (fun c => (c, 0)), parts := accOf s p }

/-- R290: `Screen.EngineStats`. -/
def bumpStats (k i m : Nat) (s : State) : State :=
  s.setEngine k { s.engine k with stats := tmod 0 (s.engine k).stats i (· + BitVec.ofNat 64 m) }

/-- R277: engine `k` screens line `L` of its band. -/
def screenAt (k : Nat) (L : Int) (s : State) : State :=
  let x := s.engine k
  match x.plane with
  | none => s
  | some p =>
    let e := envAt s L
    let kind := lineKind s p L
    let s := match kind with | .bar pg => openBar (pg.first + pg.lines) s | _ => s
    let r := match kind with
      | .contone pg => screenContone s e p pg x L
      | .bar pg => screenBar s e p pg x L
      | .blank => screenBlank s e p x
    let s := match kind with
      | .contone pg => if r.late then forAll (missingRows s e p pg x L) (fun m s => missRow m.1 pg m.2 (needLine e p pg m.2) s) s else s
      | _ => s
    let s := setAcc p r.parts s
    bumpStats k 0 1 (bumpStats k 1 x.width (writeDots e p x L r.codes r.late s))

/-! ### Checkpoints and verification (R281) -/

/-- The bands that verify together: a diffusion chain, or one band. -/
def chainOf (s : State) (k : Nat) : List Nat :=
  let x := s.engine k
  match x.plane with
  | none => [k]
  | some p => if diffuses s x then bandEngines s p else [k]

/-- R281: engine `k` verifies its lines below `top`: they leave the list of what a head's line waits for. -/
def verifyBand (k : Nat) (top : Int) (s : State) : State :=
  let x := s.engine k
  if top ≤ x.unverified then s else
    let lines := (List.range (top - x.unverified).toNat).map (fun (i : Nat) => x.unverified + i)
    let s := forAll lines (fun L s =>
      forAll (headsOfBand (envAt s L) x) (fun h s => match dotsAt s h L with
        | some d => setDots h { d with missing := d.missing.filter (· != x.band) } s
        | none => s) s) s
    s.setEngine k { x with unverified := top
                           checkpoints := x.checkpoints.map (fun c => if c.line ≤ top then { c with good := true } else c) }

/-- R479: the CRC-32C over a plane's drop codes of the interval of 64 lines from `first` on, line by line and in ascending column order;
none while a line is not verified or no longer held. -/
def dotDigest (s : State) (p : Nat) (first : Int) : Option (BitVec 32) :=
  let lines := (List.range 64).map (fun (i : Nat) => first + i)
  let ready := lines.all (fun L => (headsOf (envAt s L) p).all (fun h => match dotsAt s h L with | some d => d.missing.isEmpty | none => false))
  if ready then
    some (Config.crc32c (lines.flatMap (fun L => (planeChans (envAt s L) p).map (fun ch =>
      BitVec.ofNat 8 (((dotsAt s (chanHead ch) L).map (fun d => d.codes.getD (chanIndex ch) 0)).getD 0)))))
  else none

/-- R479: the lead sends its digest of the interval that ends at `C`, once every band of the plane has verified it. -/
def sendDigest (p : Nat) (C : Int) (s : State) : State :=
  match (if hasWheeler s then dotDigest s p (C - 64) else none) with
  | some crc => mirror (.digest (.dots p (C - 64) crc)) s
  | none => s

/-- Drop accumulator parts that no checkpoint needs any more. -/
def pruneAcc (p : Nat) (s : State) : State :=
  match bandsLow s p (fun x => x.checkpoints.foldl (fun a c => min a c.line) x.next) with
  | none => s
  | some low => setAcc p ((accOf s p).filter (fun a => decide (low ≤ a.line) || decide (low - 2 ≤ a.src))) s

/-- R247: the anchor that a checkpoint asks for: the decoded line just above the first contone line of the interval at `C`. -/
def takeAnchors (p : Nat) (C : Int) (s : State) : State :=
  match pageOf s C with
  | none => s
  | some pg =>
    let e := envAt s C
    let j := (C - pg.first).toNat / vFactor e p
    forAll (ringNums.filter (fun n => (s.ring n).enable && ringPlane s n == p)) (fun n s =>
      let r := s.ring n
      if r.anchors.any (fun a => a.page == pg.page && a.row == j) ∨ j = 0 then s
      else match stagedRow s n pg (j - 1) with
        | some row => s.setRing n { r with anchors := (r.anchors ++ [{ row with row := j }]).drop (r.anchors.length - 1) }
        | none => s) s

/-- R281, R282: what follows the end of line `L` of a band: at a multiple of 64 the interval is closed. -/
def closeLine (k : Nat) (s : State) : State :=
  let x := s.engine k
  match x.plane with
  | none => s
  | some p =>
    let C := x.next
    if C % 64 ≠ 0 then s else
      let tile := C % 1024 = 0 ∧ lagNormal s x
      let s := if tile then bumpStats k 3 1 (s.setEngine k { x with tileLine := C }) else s
      let x := s.engine k
      let s := s.setEngine k { x with checkpoints := (⟨C, false⟩ :: x.checkpoints).take 2 }
      let s := takeAnchors p C (bumpStats k 2 1 s)
      let chain := chainOf s k
      let s := if chain.all (fun j => decide (C ≤ (s.engine j).next)) then forAll chain (fun j s => verifyBand j C s) s else s
      let s := sendDigest p C s
      settleRings p (pruneAcc p s)

/-! ### Capacity (R287) -/

/-- The lower of two rates, either of which may bind nothing. -/
def lowerRate : Option Nat → Option Nat → Option Nat
  | some a, some b => some (min a b)
  | some a, none => some a
  | none, b => b

/-- R287: the least G_e ÷ width over all bands, and the decode limit; the object's reset value while neither binds (assumption log 24). -/
def capacityNow (s : State) : Nat :=
  let bands := engineNums.filter (fun k => (s.engine k).role == .band)
  let engines := bands.foldl (fun a k =>
    let x := s.engine k
    lowerRate a (some ((if x.borrowed then 4000000000 else 8000000000) / max 1 x.width))) none
  if s.screen.bare.isEmpty then (lowerRate engines (decodeRate s)).getD 400000 else 0

/-- R287, R550: publish a changed capacity, raise ENGINE.CAPACITY, and let the speed limit follow. -/
def updateCapacity (s : State) : State :=
  let c := capacityNow s
  if c = s.screen.capacity then s else
    let top := (envNow s).nat 0x4050 0
    let s := { s with screen := { s.screen with capacity := c } }
    let s := raise 0x6003 (if c < top then 1 else 0) (engineDetail 0xFF 0 0xFF 0 c) s (line := atLine (datumLine s))
    let s := if c < top then addFault 0x6003 1 2 0 s else s
    limitChanged s

/-! ### Band assignment (R276) -/

/-- R276 step 1: the runs of a plane by region: region, first column, columns. -/
def regionRuns (e : Env) (p : Nat) : List (Nat × Nat × Nat) :=
  let chans := planeChans e p
  (chans.zip (List.range chans.length)).foldl (fun acc c =>
    let r := regionOf (chanHead c.1)
    match acc.getLast? with
    | some (r', f, n) => if r' = r then acc.dropLast ++ [(r, f, n + 1)] else acc ++ [(r, c.2, 1)]
    | none => [(r, c.2, 1)]) []

/-- R276 steps 2 and 3: the band widths of a run. A run that is not whole segments is rounded up, and no band is empty
(assumption log 25). -/
def bandWidths (e : Env) (p n : Nat) : List Nat :=
  let segs := (n + 63) / 64
  let want := max (e.nat 0x6002 (p + 1)) (ceilDiv (segs * 64 * e.nat 0x4050 0) 8000000000)
  let m := max 1 (min want segs)
  (List.range m).map (fun i => (segs / m + (if i < segs % m then 1 else 0)) * 64)

/-- R276 step 4: the first run of `n` free engines of one cluster of a region. -/
def chainEngines (r n : Nat) (free : List Nat) : Option (List Nat) :=
  ((List.range 3).flatMap (fun c => (List.range (4 - n)).map (fun a => (List.range n).map (fun i => 9 * r + 3 * c + a + i)))).find?
    (fun g => n ≤ 3 && g.all (fun k => free.contains k))

/-- A band as the assignment places it. -/
structure BandPlace where
  engine : Nat
  plane : Nat
  first : Nat
  width : Nat
  deriving DecidableEq, Repr

/-- Cut a run into bands on the engines given. -/
def placeRun (p first : Nat) (ks ws : List Nat) : List BandPlace :=
  ((ks.zip ws).foldl (fun (acc : List BandPlace × Nat) x => (acc.1 ++ [⟨x.1, p, acc.2, x.2⟩], acc.2 + x.2)) ([], first)).1

/-- R22: the region that an engine serves at an assignment: its own, or the one that a cold start lent it to. -/
def engRegion (s : State) (k : Nat) : Nat := (s.engine k).lent.getD (k / 9)

/-- R272, R276, R596 rules 10 and 13: place every plane's bands on the free engines, a region's own before those lent to it (R22); the failures
as (rule, index, subindex). -/
def assignBands (e : Env) (reg : Nat → Nat) (free0 : List Nat) : List BandPlace × List (Nat × Nat × Nat) :=
  let planes := activePlanes e
  let runs := planes.flatMap (fun p => (regionRuns e p).map (fun r => (p, r)))
  let broken := planes.filter (fun p => !((regionRuns e p).map (·.1)).Nodup)
  let far := planes.filter (fun p => e.nat 0x6000 (p + 1) = 1 ∧ ((regionRuns e p).map (·.1)).eraseDups.length > 1)
  let fails := broken.map (fun p => (13, 0x6002, p + 1)) ++ far.map (fun p => (10, 0x6000, p + 1))
  let ok' := runs.filter (fun x => !broken.contains x.1)
  let diff := ok'.filter (fun x => e.nat 0x6000 (x.1 + 1) = 1)
  let rest := ok'.filter (fun x => e.nat 0x6000 (x.1 + 1) ≠ 1)
  let r1 := diff.foldl (fun (acc : List BandPlace × List Nat × List (Nat × Nat × Nat)) x =>
    let ws := bandWidths e x.1 x.2.2.2
    let wide := if ws.any (32768 < ·) then [(13, 0x6002, x.1 + 1)] else []
    match chainEngines x.2.1 ws.length (acc.2.1.filter (fun k => reg k == k / 9)) with
    | some ks => (acc.1 ++ placeRun x.1 x.2.2.1 ks ws, acc.2.1.filter (fun k => !ks.contains k), acc.2.2 ++ wide)
    | none => (acc.1, acc.2.1, acc.2.2 ++ wide ++ [if 3 < ws.length then (10, 0x6000, x.1 + 1) else (13, 0x6002, x.1 + 1)]))
    ([], free0, fails)
  let r2 := rest.foldl (fun (acc : List BandPlace × List Nat × List (Nat × Nat × Nat)) x =>
    let ws := bandWidths e x.1 x.2.2.2
    let wide := if ws.any (32768 < ·) then [(13, 0x6002, x.1 + 1)] else []
    let here := acc.2.1.filter (fun k => reg k == x.2.1)
    let ks := (here.filter (fun k => k / 9 == x.2.1) ++ here.filter (fun k => k / 9 != x.2.1)).take ws.length
    if ks.length = ws.length then (acc.1 ++ placeRun x.1 x.2.2.1 ks ws, acc.2.1.filter (fun k => !ks.contains k), acc.2.2 ++ wide)
    else (acc.1, acc.2.1, acc.2.2 ++ wide ++ [(13, 0x6002, x.1 + 1)])) r1
  (r2.1, r2.2.2)

/-- Engines that may take a band: free, or holding one now. -/
def assignable (s : State) : List Nat := engineNums.filter (fun k => (s.engine k).role == .free || (s.engine k).role == .band)

/-- R277: the lowest line of a plane whose start position lies above W. -/
def firstToScreen (s : State) (p : Nat) : Int :=
  let e := envNow s
  let guess := lineOf (s.gait.w - planeOffset e p) + lookAhead e p + 1
  let cands := (List.range 5).map (fun (i : Nat) => guess - 2 + i)
  (cands.find? (fun L => decide (s.gait.w < startPos s p L))).getD guess

/-- R276: assign bands for a job that runs from IDLE, by the values at its line. A spare that took a band is free in its own region from here on
and no spare again before the next cold start (DESIGN CHOICE, assumption log 61). -/
def runAssignment (L : Int) (s : State) : State :=
  let e := envAt s L
  let plan := (assignBands e (engRegion s) (assignable s)).1
  let s := forAll (assignable s) (fun k s =>
    s.setEngine k { s.engine k with role := .free, plane := none, band := 0, first := 0, width := 0, borrowed := false
                                    checkpoints := [], waitRows := [], window := [], waiting := false, remount := none, lostFrom := none }) s
  let s := { s with screen := { s.screen with bare := [], acc := [], assigned := true } }
  let numbered := plan.map (fun b => (b, ((plan.filter (fun c => c.plane == b.plane && decide (c.first < b.first))).length)))
  let s := forAll numbered (fun x s =>
    let n := firstToScreen s x.1.plane
    s.setEngine x.1.engine { s.engine x.1.engine with
      role := .band, plane := some x.1.plane, band := x.2, first := x.1.first, width := x.1.width, cluster := x.1.engine / 3
      borrowed := engRegion s x.1.engine != x.1.engine / 9, next := n, unverified := n, tileLine := n, checkpoints := [⟨n, true⟩], leadRaised := false }) s
  let s := forAll engineNums (fun k s => causeGone 0x6002 (unitEngine k) s) s
  let s := updateCapacity s
  if capacityNow s < (envAt s L).nat 0x4050 0 then s else causeGone 0x6003 0 s

/-- R121: after a preset moved W, each band goes on at the lowest line whose start position lies above W (assumption log 26). -/
def restartScreening (s : State) : State :=
  let s := { s with screen := { s.screen with acc := [], dots := [] } }
  forAll engineNums (fun k s =>
    let x := s.engine k
    match x.plane with
    | some p => if x.role != .band then s else
        let n := firstToScreen s p
        s.setEngine k { x with next := n, unverified := n, tileLine := n, checkpoints := [⟨n, true⟩], remount := none, lostFrom := none }
    | none => s) s

/-! ### Roll-back (R284, R247) -/

/-- R247: the rings of a plane decode again from the line after the anchor of checkpoint `C`. -/
def redecode (p : Nat) (C : Int) (s : State) : State :=
  forAll (ringNums.filter (fun n => (s.ring n).enable && ringPlane s n == p)) (fun n s =>
    let r := s.ring n
    let from' := fun (pg : Page) => (C - pg.first).toNat / vFactor (envAt s pg.first) p
    let last := r.staged.getLast?.map (fun x => (x.page, x.row))
    let index := r.index.map (fun x =>
      match pageNumbered s x.page, x.row, x.depth with
      | some pg, some row, some d =>
        let j := from' pg
        if pg.first + pg.lines ≤ C ∨ row + x.nextLine ≤ j ∨ x.state = .bad then x
        else if j ≤ row then { x with nextLine := 0, above := [] }
        else match r.anchors.find? (fun a => a.page == x.page && a.row == j) with
          | some a => { x with nextLine := min d (j - row), above := a.pixels }
          | none => { x with nextLine := 0, above := [] }
      | _, _, _ => x)
    let staged := r.staged.filter (fun x => match pageNumbered s x.page with
      | some pg => decide (pg.first + pg.lines ≤ C) || decide (x.row < from' pg)
      | none => false)
    s.setRing n { r with index := index, staged := staged, redo := if r.redo.isSome then r.redo else last }) s

/-- R284 step 3: the bands given return to line `C`; `chain` when they diffuse together. -/
def rollBack (p : Nat) (ks : List Nat) (C : Int) (chain : Bool) (s : State) : State :=
  let s := forAll ks (fun k s =>
    let x := s.engine k
    s.setEngine k { x with next := min x.next C, unverified := min x.unverified C, window := [], waitRows := [], waiting := false
                           checkpoints := x.checkpoints.filter (fun c => c.line ≤ C) }) s
  let s := if chain then setAcc p ((accOf s p).filter (fun a => decide (a.src < C))) s else s
  redecode p C s

end Sys2Proof.Machine
end

