-- ==== Sys2Proof/Machine/Decoding.lean ====
section
/-! DEFINITION. The raster decoders: the ready queue of a region (R245), opening a stripe (R229 to R233, R240, R241) and decoding a line
(R239, R242, R243, R247). -/

namespace Sys2Proof.Machine

/-- A line that a ring has ready: stripe, page, the line of the stripe, the contone line of the page. -/
structure ReadyLine where
  base : Nat
  page : BitVec 32
  i : Nat
  row : Nat
  need : Int
  deriving DecidableEq, Repr

/-- R246: decoded lines of a ring that screening has not passed yet. -/
def windowUsed (s : State) (n : Nat) : Nat :=
  let p := ringPlane s n
  let low := (bandsLow s p (·.next)).getD 0
  ((s.ring n).staged.filter (fun x => match pageNumbered s x.page with
    | some pg => decide (low ≤ lastReader (envAt s pg.first) p pg x.row)
    | none => false)).length

/-- R245: the ready line of a ring: the earliest line of a complete stripe that a queued page carries, once the plane position has reached
its decode start and the window has room. -/
def readyLine (s : State) (n : Nat) : Option ReadyLine :=
  let r := s.ring n
  let p := ringPlane s n
  let lines := r.index.filterMap (fun x =>
    match pageNumbered s x.page, stripeRow s n x.page x.stripe.toNat with
    | some pg, some row =>
      let e := envAt s pg.first
      if x.state = .complete ∧ x.err = 0 ∧ pageCarries pg p ∧ (x.depth.isNone ∨ x.nextLine < x.depth.getD 0) then
        some (⟨x.base, x.page, x.nextLine, row + x.nextLine, needLine e p pg (row + x.nextLine)⟩ : ReadyLine)
      else none
    | _, _ => none)
  let best := lines.foldl (fun (a : Option ReadyLine) y => match a with
    | none => some y
    | some z => if y.need < z.need ∨ (y.need = z.need ∧ y.base < z.base) then some y else some z) none
  match best with
  | none => none
  | some y =>
    let full : Bool := match decodeWindow s (envAt s y.need) ((ringRegion s (envAt s y.need) n).getD 0) with
      | some w => decide (w ≤ windowUsed s n)
      | none => true
    if decodeStart s p y.need ≤ s.gait.w ∧ linePrints s y.need ∧ !full then some y else none

/-- R245: the ring at the front of a region's queue: earliest need position, then lower ring. -/
def queueFront (s : State) (r : Nat) : Option Nat :=
  let ready := (ringsOf s (envNow s) r).filterMap (fun n => (readyLine s n).map (fun y => (n, startPos s (ringPlane s n) y.need)))
  (ready.foldl (fun (a : Option (Nat × Int)) y => match a with
    | none => some y
    | some z => if y.2 < z.2 ∨ (y.2 = z.2 ∧ y.1 < z.1) then some y else some z) none).map (·.1)

/-- Errors struck in the stored bytes of a ring since they were written: byte of the sequence and XOR mask. -/
def strike (n : Nat) (upset : List (Nat × Byte)) (s : State) : State := strikeBytes (upset.map (fun x => (ringAddr s n x.1, x.2))) s

/-- R181, R210: decoder `d` reads bytes of a ring, in class FIRE: the first byte of the first unit that gives no data, if any. -/
def readRing (requester n d q len : Nat) (s : State) : Option Nat × State :=
  ((List.range ((q + len + 63) / 64 - q / 64)).foldl (fun (acc : Option Nat × State) i =>
    match acc.1 with
    | some b => (some b, acc.2)
    | none =>
      let b := (q / 64 + i) * 64
      let r := readUnit 0 requester (unitDecoder ((ringRegion acc.2 (envNow acc.2) n).getD 0) d) (ringAddr acc.2 n b / 64) acc.2
      (if 2 ≤ r.1 then some b else none, r.2)) (none, s))

/-- R241: DECODE.ERROR, once for each stripe, and its count. -/
def decodeError (n code : Nat) (x : Stripe) (line seg : Nat) (L : Int) (s : State) : State :=
  let r := s.ring n
  let s := s.setRing n { r with errors := tinc r.errors code }
  ev 0x5040 (streamDetail n code ((x.stripe.toNat * 4294967296 + line * 65536 + seg : Nat) : Int)) s (line := atLine L)

/-- R241, R242: a stripe is marked bad for its format. -/
def badStripe (n base code : Nat) (depth row : Option Nat) (s : State) : State :=
  s.setRing n ((s.ring n).modStripe base (fun x => { x with state := .bad, err := code, depth := depth, row := row }))

/-- R155, R243, R210: an uncorrectable read of a stripe, in a segment of the line in hand or at the open: it is requested again; in a remount
recompute its lines are late. -/
def integrityError (n : Nat) (x : Stripe) (y : ReadyLine) (seg : Nat) (redo : Bool) (s : State) : State :=
  if redo then s.setRing n ((s.ring n).modStripe x.base (fun x => { x with err := 8 }))
  else
    let s := if x.err8 then s else decodeError n 8 x y.i seg y.need (s.setRing n ((s.ring n).modStripe x.base (fun x => { x with err8 := true })))
    integrityResend n x.base 1 s

/-- R229 to R231, R240: the checks at the open that the header alone decides, in order: the error code, 0 for none. -/
def headerError (s : State) (n : Nat) (pg : Page) (x : Stripe) (h : StripeHdr) (row : Nat) : Nat :=
  let p := ringPlane s n
  let e := envAt s (needLine (envAt s pg.first) p pg row)
  if hdrInvalid h (x.len.getD 0) then 1
  else if h.plane ≠ p ∨ h.firstSeg * 64 ≠ ringFirst s n ∨ h.segs * 64 ≠ ringWidth s n ∨ h.depth ≠ e.nat 0x5061 (p + 1) ∨ h.stripe ≠ x.stripe.toNat then 2
  else if capBroken h (e.nat 0x5060 0) then 3
  else 0

/-- R233, R149: the checks that follow it: the line table, and 9 for a stripe past its page. -/
def bodyError (s : State) (n : Nat) (pg : Page) (h : StripeHdr) (bytes : List Byte) (row : Nat) : Nat :=
  if !h.blank && tableBad h (bytes.drop 24) then 4
  else if contoneLines (envAt s pg.first) (ringPlane s n) pg < row + h.lines then 9
  else 0

/-- R149, R241: a stripe fails a check at its open. -/
def refuseStripe (n err : Nat) (pg : Page) (x : Stripe) (h : StripeHdr) (row : Nat) (need : Int) (s : State) : State :=
  let s := badStripe n x.base err (if err = 1 then none else some h.lines) (some row) s
  if err = 9 then ev 0x5013 (streamDetail n 0 ((pg.page.toNat * 4294967296 + x.stripe.toNat : Nat) : Int)) s (line := atLine need)
  else decodeError n err x 0 65535 need s

/-- R243, R246: a decoded line enters the staging, unless its need position has passed; a remount recompute and a rein-back still read it. -/
def stageRow (n : Nat) (redo : Bool) (need : Int) (row : StagedRow) (s : State) : State :=
  if !redo ∧ s.rein.state = 0 ∧ startPos s (ringPlane s n) need ≤ s.gait.w then s
  else s.setRing n { s.ring n with staged := (s.ring n).staged ++ [row] }

/-- R210, R257: the segment of line `i` that waits for byte `q` of the sequence. -/
def segmentAt (h : StripeHdr) (bytes : List Byte) (x : Stripe) (i q : Nat) : Nat :=
  let out := stripeLine h (bytes.take (max (q - x.base) (24 + tableEntry (bytes.drop 24) i))) i x.above
  if out.err = 0 then h.segs - 1 else min out.seg (h.segs - 1)

/-- R249, R256: the counts of a decoder that has completed a line of `w` columns; a line restarted after another decoder's fault is counted. -/
def countLine (k w : Nat) (again : Bool) (need : Int) (s : State) : State :=
  let st := tmod 0 (tmod 0 (tmod 0 s.screen.decStats (4 * k) (· + 1)) (4 * k + 1) (· + BitVec.ofNat 64 w)) (4 * k + 2) (· + BitVec.ofNat 64 ((w + 1) / 2))
  { s with screen := { s.screen with decStats := if again then tmod 0 st (4 * k + 3) (· + 1) else st
                                     decLast := tput none s.screen.decLast k (some need)
                                     restart := if again then none else s.screen.restart } }

/-- R239, R243, R247: decoder `d` of region `r` decodes line `y` of a stripe that has passed the checks of its open. -/
def runLine (n r d : Nat) (pg : Page) (x : Stripe) (h : StripeHdr) (bytes : List Byte) (y : ReadyLine) (redo : Bool) (s : State) : State :=
  let p := ringPlane s n
  let row := y.row - y.i
  let a := 24 + tableEntry (bytes.drop 24) y.i
  let z := 24 + (if y.i + 1 < h.lines then tableEntry (bytes.drop 24) (y.i + 1) else h.codedLen)
  let body := if h.blank then (none, s) else readRing (if redo then 6 else 4) n d (x.base + a) (z - a) s
  let s := body.2.setRing n ((body.2.ring n).modStripe x.base (fun x => { x with depth := some h.lines, row := some row }))
  match body.1 with
  | some q => integrityError n x y (segmentAt h bytes x y.i q) redo s
  | none =>
    let out := stripeLine h bytes y.i x.above
    if out.err ≠ 0 then decodeError n out.err x y.i out.seg y.need (badStripe n x.base out.err (some h.lines) (some row) s)
    else
      let s := countLine (6 * r + d) (h.segs * 64) (s.screen.restart == some (n, x.base, y.i)) y.need s
      let s := s.setRing n ((s.ring n).modStripe x.base (fun x => { x with nextLine := y.i + 1, above := out.pixels }))
      let s := match (s.ring n).redo with
        | some q => if q = (y.page, y.row) then s.setRing n { s.ring n with redo := none } else s
        | none => s
      settleRings p (stageRow n redo y.need ⟨pg.page, y.row, h.depth, out.pixels⟩ s)

/-- R247: the ready line belongs to a remount recompute. -/
def inRedo (s : State) (n : Nat) (pg : Page) (y : ReadyLine) : Bool :=
  match (s.ring n).redo with
  | some z => (pageNumbered s z.1).any (fun q => decide (pg.first < q.first) || (q.page == pg.page && decide (y.row ≤ z.2)))
  | none => false

/-- R241, R245: decoder `d` of region `r` takes the ready line of ring `n`; the first line needed of a stripe opens it. -/
def takeLine (n r d : Nat) (y : ReadyLine) (s : State) : State :=
  match stripeAt (s.ring n) y.base, pageNumbered s y.page with
  | some x, some pg =>
    let redo := inRedo s n pg y
    let req := if redo then 6 else 4
    let len := x.len.getD 0
    let row := y.row - y.i
    let start := x.depth.isNone || y.i == 0
    let head := if start then readRing req n d x.base (min len 64) s else (none, s)
    if head.1.isSome then integrityError n x y 65535 redo head.2
    else
      let s := head.2
      let h := parseHdr (ringBytes s n x.base 24)
      let e1 := if x.depth.isSome then 0 else headerError s n pg x h row
      if e1 ≠ 0 then refuseStripe n e1 pg x h row y.need s
      else
        let table := if start && !h.blank then readRing req n d x.base (min len (24 + 4 * h.lines)) s else (none, s)
        if table.1.isSome then integrityError n x y 65535 redo table.2
        else
          let s := table.2
          let bytes := ringBytes s n x.base len
          let e2 := if x.depth.isSome then 0 else bodyError s n pg h bytes row
          if e2 ≠ 0 then refuseStripe n e2 pg x h row y.need s else runLine n r d pg x h bytes y redo s
  | _, _ => s

/-- The words of a region's staging bank (R246). -/
def stagingWord (r key : Nat) : Bool := keyMem key == 2 && sramBank 2 (keyAddr key) == 16 + r

/-- R210 code 0Ch: decoder `d` of region `r` reads its staging; where a word is uncorrectable it reads the line's segment again from the page
store (the first unit of the line, assumption log 66), which writes the staging anew. -/
def stagingReads (n r d : Nat) (y : ReadyLine) (staging : List WordUpset) (s : State) : State :=
  let q := readMarked 0x0C (unitDecoder r d) (stagingWord r) (strikeWords staging (stagingWord r) s)
  let s := forgetWords (stagingWord r) q.2
  if q.1.isEmpty then s else (readRing 4 n d y.base 1 (forAll q.1 (fun key s => setSramMark key {} s) s)).2

/-- R245: decoder `d` of the region of ring `n` takes the ring's line, when the ring stands at the front of the region's queue. -/
def decodeStep (n d : Nat) (upset : List (Nat × Byte)) (staging : List WordUpset) (s : State) : State :=
  match ringRegion s (envNow s) n with
  | none => s
  | some r =>
    if s.faults.stopped ∨ s.power.state ≠ 0 ∨ tget false s.screen.decFailed (6 * r + d) ∨ queueFront s r ≠ some n then s
    else match readyLine s n with
      | some y => takeLine n r d y (stagingReads n r d y staging (strike n upset s))
      | none => s

/-- R184: the FIRE requests of a command have the latencies of its operand. -/
def withLatencies {α : Type} (lats : List Nat) (f : State → α × State) (s : State) : α × State :=
  let r := f { s with store := { s.store with lats := lats } }
  (r.1, { r.2 with store := { r.2.store with lats := [] } })

/-- DECODE_LINE (R245). -/
def execDecodeLine (dt : Nat) (ring : Fin 64) (decoder : Fin 6) (reads : DecodeReads) (s : State) : Host.Outcome State Fault Refusal :=
  ok (withLatencies reads.lats (fun s => ((), decodeStep ring decoder reads.upset reads.staging s)) (tick dt s)).2

end Sys2Proof.Machine
end

