-- ==== Sys2Proof/Machine/Engines.lean ====
section
/-! DEFINITION. The steps of the screening engines: SCREEN_LINE, WINDOW_REFILL, TILE_CHECK, ENGINE_FAULT, ENGINE_STALL, ENGINE_REMOUNT
(R267, R277 to R288). -/

namespace Sys2Proof.Machine

/-- Screening runs: the device is in Run (the regions are gated in every other state, R500) and no class 3 fault has stopped it (R548). -/
def screeningRuns (s : State) : Bool := !s.faults.stopped && s.power.state == 0

/-- R39: a region with no head assigned is power-gated in Run. -/
def regionPowered (s : State) (r : Nat) : Bool := headNums.any (fun h => regionOf h == r && (planeOf (envNow s) h).isSome)

/-- R39: engine `k` is powered: its region is, or it serves a band (a gated region's spare can still be lent). -/
def engineRuns (s : State) (k : Nat) : Bool := screeningRuns s && ((s.engine k).role == .band || regionPowered s (k / 9))

/-- R270: the interlocks of a diffused plane for a band that would screen line `L`. -/
def interlocked (s : State) (x : Engine) (L : Int) : Bool :=
  match x.plane with
  | none => false
  | some p =>
    if (envAt s L).nat 0x6000 (p + 1) ≠ 1 then true
    else
      let others := (bandEngines s p).map s.engine
      let bare := s.screen.bare.filter (fun b => b.plane == p)
      others.all (fun y => (y.band + 1 != x.band || decide (L < y.next)) && (y.band != x.band + 1 || decide (L ≤ y.next))) &&
        bare.all (fun b => b.band + 1 != x.band && b.band != x.band + 1)

/-- R277: engine `k` has line `next` to screen: W has passed its start position, its place in the dot delay is free, and the chain
lets it go. -/
def lineDue (s : State) (k : Nat) : Bool :=
  let x := s.engine k
  match x.plane with
  | none => false
  | some p =>
    let e := envAt s x.next
    x.role == .band && screeningRuns s && decide (startPos s p x.next ≤ s.gait.w) &&
      (rowsOf e p).all (fun u => decide (x.next - dotDepthLines e < rowNext s u)) && interlocked s x x.next

/-- R282: engine `k` has work pending: a line is due, and it does not wait for a row of its window. -/
def workPending (s : State) (k : Nat) : Bool := lineDue s k && !(s.engine k).waiting

/-- R282: since when each engine has had work pending without progress; engine `worked` has just made some. -/
def noteDue (worked : Option Nat) (s : State) : State :=
  forAll engineNums (fun k s =>
    let x := s.engine k
    let since := if workPending s k then some (if worked = some k then s.time.now else x.dueAt.getD s.time.now) else none
    if x.dueAt = since then s else s.setEngine k { x with dueAt := since }) s

/-- R384: during a rein-back, the lowest line of a band that is late and whose contone has arrived. -/
def recoverable (s : State) (k : Nat) : Option Int :=
  let x := s.engine k
  match x.plane with
  | none => none
  | some p =>
    if s.rein.state = 0 ∨ x.role ≠ .band ∨ !screeningRuns s then none
    else
      let lates := (s.screen.dots.filterMap (fun d => match d.2 with
        | some y => if y.late.contains x.band ∧ planeOf (envAt s y.line) (d.1 / 16384) = some p then some y.line else none
        | none => none)).eraseDups
      let can := lates.filter (fun L => decide (L < x.next) && (match lineKind s p L with
        | .contone pg => (missingRows s (envAt s L) p pg x L).isEmpty && (match x.lostFrom with | some l => decide (L < l) | none => true)
        | _ => true))
      if can.isEmpty then none else some (minOf can)

/-- R267: the array row that the next line of engine `k` waits for, if any: slot × 512 + row. -/
def rowAwaited (s : State) (k : Nat) : Option Nat :=
  let x := s.engine k
  match x.plane with
  | none => none
  | some p =>
    let e := envAt s x.next
    match lineKind s p x.next with
    | .contone pg => if e.nat 0x6000 (p + 1) = 0 then (arrayRow s e p pg x.next).filter (fun r => !x.window.contains r) else none
    | _ => none

/-- R267: engine `k` waits, and asks for the rows it needs from its next line on. -/
def requestRows (k : Nat) (s : State) : State :=
  let x := s.engine k
  match x.plane with
  | none => s
  | some p =>
    let e := envAt s x.next
    match lineKind s p x.next with
    | .contone pg =>
      let need := (windowRows s e p pg x.next).filter (fun r => !x.window.contains r && !x.waitRows.contains r)
      s.setEngine k { x with waiting := true, waitRows := x.waitRows ++ need }
    | _ => s

/-- R267: after a line, the row 64 further on is asked for. -/
def askNext (k : Nat) (L : Int) (s : State) : State :=
  let x := s.engine k
  match x.plane with
  | none => s
  | some p =>
    let e := envAt s L
    match lineKind s p L with
    | .contone pg =>
      if e.nat 0x6000 (p + 1) ≠ 0 then s
      else match arrayRow s e p pg (L + 64) with
        | some r => if x.window.contains r ∨ x.waitRows.contains r then s else s.setEngine k { x with waitRows := x.waitRows ++ [r] }
        | none => s
    | _ => s

/-- SRAM words that engine `k` reads as it screens: nozzle entries of its band's channels, and its cluster's line-buffer bank. -/
def entryWord (s : State) (k key : Nat) : Bool :=
  keyMem key == 1 && (bandChans (envAt s (s.engine k).next) (s.engine k)).contains (keyAddr key / 48)
def bufferWord (k key : Nat) : Bool := keyMem key == 2 && sramBank 2 (keyAddr key) == 4 + k / 3

/-- R210 code 0Ah, R308: nozzle words that engine `k` reads uncorrectable are logged and their entries restored; R213: three of one word in a
second. -/
def entryErrors (k : Nat) (s : State) : State :=
  let r := readMarked 0x0A (unitEngine k) (entryWord s k) s
  forAll r.1 (nozzleWordUe (unitEngine k)) r.2

/-- R267, R210 code 07h: the oldest row asked for arrives in the window; one that reads uncorrectable is lost until the host rewrites
the array. -/
def windowRefill (k : Nat) (s : State) : State :=
  let x := s.engine k
  match x.waitRows with
  | [] => s
  | r :: rest =>
    let slot := r / 512
    let n := ((tget none s.screen.arrays slot).map (·.n)).getD 1
    let q := readUnits 1 7 (unitEngine k) (8 * n) (rowAddr s slot (r % 512) / 64) s
    let s := q.2
    let s := if q.1.isSome then
        { s with screen := { s.screen with lostRows := tmod [] s.screen.lostRows slot (fun l => if l.contains (r % 512) then l else (r % 512) :: l) } }
      else s
    s.setEngine k { s.engine k with waitRows := rest, window := (r :: x.window.filter (· != r)).take 64, waiting := false }

/-- WINDOW_REFILL (R267). -/
def execWindowRefill (dt : Nat) (engine : Fin 36) (s : State) : Host.Outcome State Fault Refusal := ok (windowRefill engine (tick dt s))

/-- R282: a tile falls due at the end of the line just screened: a multiple of 1,024, with the lag back to normal (R288). -/
def tileDue (s : State) (k : Nat) : Bool := decide ((s.engine k).next % 1024 = 0) && lagNormal s (s.engine k)

/-! ### Faults and stand-ins (R28, R284 to R288) -/

/-- R28: the first available spare for an engine of region `r`. -/
def standIn (s : State) (r : Nat) : Option Nat :=
  (List.range 4).findSome? (fun i => engineNums.find? (fun k => k / 9 == (r + i) % 4 && (s.engine k).role == .spare))

/-- The line in hand: the next line once W has passed its start position, otherwise the last one completed. -/
def lineInHand (s : State) (x : Engine) : Int :=
  match x.plane with
  | some p => if startPos s p x.next ≤ s.gait.w then x.next else x.next - 1
  | none => x.next

/-- The engine without its band. -/
def Engine.dropBand (x : Engine) : Engine :=
  { x with plane := none, band := 0, first := 0, width := 0, borrowed := false, checkpoints := [], waitRows := [], window := []
           waiting := false, remount := none, leadRaised := false, lostFrom := none }

/-- R284, R286: engine `k` is faulty for a cause 1 to 5; `hand`: its line in hand when the faults of the cycle were found (R288). A stand-in that
fails keeps the line and the unconfirmed lines of the remount that it carries. A borrowed spare's own stand-in is searched from the region of its
band (DESIGN CHOICE, assumption log 61). -/
def engineFaultAt (k cause : Nat) (hand : Option Int) (s : State) : State :=
  let x := s.engine k
  match x.role, x.plane with
  | .out, _ => s
  | .band, some p =>
    let chained := diffuses s x
    let s := bumpStats k 4 1 s
    let x := s.engine k
    let old := x.remount
    let lf := match old, hand with
      | some m, some l => max m.lf l
      | some m, none => m.lf
      | none, some l => l
      | none, none => lineInHand s x
    let chain := chainOf s k
    let C := chain.foldl (fun a j => min a (s.engine j).unverified) x.unverified
    let unconf := max ((old.map (·.unconfirmed)).getD 0) (if cause = 2 then min 960 (x.unverified - x.tileLine).toNat else 0)
    let lost := cause == 5 && chained
    let flags := fun (borrowed inPlace : Bool) =>
      (if borrowed then 1 else 0) + (if chained then 2 else 0) + (if inPlace then 4 else 0) + (if lost then 8 else 0)
    let raiseFault := fun (sev sta fl : Nat) (s : State) =>
      raise 0x6002 sev (engineDetail k cause sta fl lf) s (unit := unitEngine k) (line := atLine (C - 1))
    let loseChain := fun (ks : List Nat) (s : State) =>
      if lost then forAll ks (fun j s => s.setEngine j { s.engine j with lostFrom := some C }) s else s
    let home := ((bandChans (envAt s x.next) x).head?.map (fun c => regionOf (chanHead c))).getD (k / 9)
    if cause = 4 then
      let s := raiseFault 0 0xFF (flags x.borrowed true) s
      let s := s.setEngine k { s.engine k with remount := some ⟨k, lf, C, cause, unconf, x.borrowed⟩ }
      addFault 0x6002 0 2 (unitEngine k) (rollBack p chain C chained s)
    else match standIn s home with
      | some m =>
        let borrowed := decide (m / 9 ≠ home)
        let s := raiseFault 0 m (flags borrowed false) s
        let y := { s.engine m with role := .band, plane := some p, band := x.band, first := x.first, width := x.width, cluster := x.cluster
                                   borrowed := borrowed, next := x.next, unverified := x.unverified, checkpoints := x.checkpoints
                                   tileLine := x.unverified, leadRaised := x.leadRaised, lostFrom := x.lostFrom
                                   remount := some ⟨k, lf, C, cause, unconf, borrowed⟩ }
        let s := (s.setEngine k { x.dropBand with role := .out }).setEngine m y
        let ks := m :: chain.filter (· != k)
        let s := addFault 0x6002 0 2 (unitEngine k) (rollBack p ks C chained (loseChain ks s))
        updateCapacity s
      | none =>
        let s := raiseFault 1 0xFF (flags false false) s
        let s := s.setEngine k { x.dropBand with role := .out }
        let s := { s with screen := { s.screen with bare := s.screen.bare ++ [⟨p, x.band, x.first, x.width⟩] } }
        let s := addFault 0x6002 1 2 (unitEngine k) (loseChain (chain.filter (· != k)) s)
        let s := updateCapacity s
        if s.pair.state = 3 ∧ partnerStandby s then leadRelease 4 false s else s
  | _, _ =>
    let s := bumpStats k 4 1 s
    let s := raise 0x6002 0 (engineDetail k cause 0xFF 0 (lineInHand s x)) s (unit := unitEngine k)
    addFault 0x6002 0 2 (unitEngine k) (s.setEngine k { (s.engine k).dropBand with role := .out })

/-- The line in hand of engine `k`, if it holds a band. -/
def handOf (s : State) (k : Nat) : Option Int := if (s.engine k).plane.isSome then some (lineInHand s (s.engine k)) else none

/-- Engine `k` is faulty. -/
def engineFault (k cause : Nat) (s : State) : State := engineFaultAt k cause (handOf s k) s

/-- R24, R213: the line-buffer bank of a cluster has failed: each engine of it is handled as an engine fault, in ascending order (R29). A spare of
the cluster can stand in for a lower engine before its own fault is handled (DESIGN CHOICE, assumption log 61). -/
def clusterFault (cluster : Nat) (s : State) : State :=
  let ks := [3 * cluster, 3 * cluster + 1, 3 * cluster + 2].map (fun k => (k, handOf s k))
  forAll ks (fun x s => engineFaultAt x.1 5 x.2 s) s

/-- R210 code 0Bh, R213: engine `k` reads its line buffer; a word that reads uncorrectable is treated in place, and its place written anew by the
recompute; the second within a second in one cluster is a cluster fault. Whether a word was uncorrectable, and the state. -/
def bufferErrors (k : Nat) (s : State) : Bool × State :=
  let c := k / 3
  let r := readMarked 0x0B (unitEngine k) (bufferWord k) s
  if r.1.isEmpty then (false, r.2)
  else
    let s := forAll r.1 (fun key s => noteClusterUe c (setSramMark key {} s)) r.2
    (true, if 2 ≤ (tget [] s.integ.clusterUe c).length then clusterFault c s else engineFault k 4 s)

/-- R277: the line that engine `k` screens next: during a rein-back a late line whose contone has come, else its next line. -/
def screenLine (k : Nat) (tileOk : Bool) (s : State) : State :=
  match recoverable s k with
  | some L => settleRings (((s.engine k).plane).getD 0) (screenAt k L (entryErrors k s))
  | none =>
    if !lineDue s k then s
    else if (rowAwaited s k).isSome then requestRows k s
    else
      let L := (s.engine k).next
      let s := screenAt k L (entryErrors k s)
      let s := askNext k L (s.setEngine k { s.engine k with next := L + 1, waiting := false })
      if tileDue s k && !tileOk then engineFault k 2 s else checkLead k (closeLine k s)

/-- R210, R277: engine `k` screens a line, unless its line buffer stops it; what the checker test wrote in the bank is written over (log 66). -/
def screenStep (k : Nat) (upsets : List WordUpset) (tileOk : Bool) (s : State) : State :=
  if (s.engine k).role != .band then s
  else
    let s := strikeWords upsets (fun key => entryWord s k key || bufferWord k key) s
    let r := bufferErrors k s
    if r.1 then r.2 else forgetWords (bufferWord k) (screenLine k tileOk r.2)

/-- SCREEN_LINE (R277): a band screens a line; `tileOk`: its tile, if one falls due at the line's end, gives the fixed value (R282). -/
def execScreenLine (dt : Nat) (engine : Fin 36) (reads : ScreenReads) (s : State) : Host.Outcome State Fault Refusal :=
  ok (noteDue (some engine.val) (screenStep engine reads.upsets reads.tileOk (tick dt s)))

/-! ### Faults of one fabric cycle (R29) -/

/-- R282: engine `k` has had work pending for 10 µs without progress. -/
def stalled (s : State) (k : Nat) : Bool :=
  workPending s k && (match (s.engine k).dueAt with | some t => decide (t + 10 * us ≤ s.time.now) | none => false)

/-- An engine fault that a command finds: engine, cause, and what struck the line buffer (cause 4). -/
structure EngFault where
  engine : Nat
  cause : Nat
  upsets : List WordUpset := []
  deriving DecidableEq, Repr

/-- The engine faults that a command finds. -/
def faultsOf : Instr → List EngFault
  | .engineFault _ k x =>
    if x.cause = 5 then [3 * (k.val / 3), 3 * (k.val / 3) + 1, 3 * (k.val / 3) + 2].map (fun j => { engine := j, cause := 5 })
    else if x.cause = 1 ∨ x.cause = 2 ∨ x.cause = 4 then [{ engine := k, cause := x.cause, upsets := x.upsets }] else []
  | .engineStall _ k => [{ engine := k, cause := 3 }]
  | .tileCheck _ k false => [{ engine := k, cause := 2 }]
  | _ => []

/-- R282, R284: the engine can have that fault: a tile runs between commands in free and spare engines only, a line buffer is read for a band. -/
def canFault (s : State) (f : EngFault) : Bool :=
  engineRuns s f.engine && (match f.cause with
    | 2 => (s.engine f.engine).role == .free || (s.engine f.engine).role == .spare
    | 3 => stalled s f.engine
    | 4 => (s.engine f.engine).role == .band
    | _ => true)

/-- Place a fault in ascending order of its engine. -/
def insertFault (f : EngFault) : List EngFault → List EngFault
  | [] => [f]
  | g :: r => if f.engine < g.engine then f :: g :: r else g :: insertFault f r

/-- R29: the faults that this command and those of the same instant behind it find, in ascending order of address, each engine once. -/
def faultsNow (own : List EngFault) (s : State) : List EngFault :=
  let seen := if s.screen.faultCycle = s.time.now / 1000 then s.screen.faultSeen else []
  let coming := (s.pending.takeWhile (fun i => instrTime i == 0)).flatMap faultsOf
  let all := (own ++ coming).filter (fun f => canFault s f && !seen.contains f.engine)
  (all.foldl (fun l f => if l.any (fun g => g.engine == f.engine) then l else l ++ [f]) []).foldl (fun l f => insertFault f l) []

/-- R29, R288: the engine faults of a cycle, each with the line in hand that it was found in. -/
def engineFaults (own : List EngFault) (s : State) : State :=
  let fs := (faultsNow own s).map (fun f => (f, handOf s f.engine))
  let seen := if s.screen.faultCycle = s.time.now / 1000 then s.screen.faultSeen else []
  let s := { s with screen := { s.screen with faultCycle := s.time.now / 1000, faultSeen := seen ++ fs.map (fun f => f.1.engine) } }
  forAll fs (fun f s =>
    if f.1.cause = 4 then (bufferErrors f.1.engine (strikeWords f.1.upsets (bufferWord f.1.engine) s)).2
    else engineFaultAt f.1.engine f.1.cause f.2 s) s

/-- ENGINE_FAULT (R284): cause 1 residue or parity, 2 tile, 4 line buffer, 5 cluster. -/
def execEngineFault (dt : Nat) (engine : Fin 36) (check : EngineCheck) (s : State) : Host.Outcome State Fault Refusal :=
  ok (engineFaults (faultsOf (.engineFault dt engine check)) (tick dt s))

/-- ENGINE_STALL (R282): an engine with work pending has made no progress for 10 µs. -/
def execEngineStall (dt : Nat) (engine : Fin 36) (s : State) : Host.Outcome State Fault Refusal :=
  ok (engineFaults [{ engine := engine, cause := 3 }] (tick dt s))

/-- R284 step 5: the stand-in has completed line L_f. -/
def remountDone (k : Nat) (s : State) : State :=
  let x := s.engine k
  match x.remount with
  | none => s
  | some m =>
    if x.next ≤ m.lf then s
    else
      let inPlace := m.failed = k
      let chained := diffuses s x
      let flags := (if m.borrowed then 1 else 0) + (if chained then 2 else 0) + (if inPlace then 4 else 0) + (if m.cause = 5 ∧ chained then 8 else 0)
      let lines := (m.lf - m.c + 1).toNat
      ev 0x6001 (engineDetail m.failed m.cause (if inPlace then 0xFF else k) flags ((lines % 65536 * 2 ^ 48 + m.unconfirmed * 2 ^ 32 : Nat) : Int))
        (s.setEngine k { x with remount := none }) (unit := unitEngine m.failed) (line := atLine m.c)

/-- ENGINE_REMOUNT (R284). -/
def execEngineRemount (dt : Nat) (engine : Fin 36) (s : State) : Host.Outcome State Fault Refusal := ok (remountDone engine (tick dt s))

/-- TILE_CHECK (R282): a free or spare engine screens its tile. -/
def execTileCheck (dt : Nat) (engine : Fin 36) (pass : Bool) (s : State) : Host.Outcome State Fault Refusal :=
  let s := tick dt s
  let r := (s.engine engine).role
  if pass then guardOk ((r == .free || r == .spare) && engineRuns s engine) (bumpStats engine 3 1) s
  else ok (engineFaults [{ engine := engine, cause := 2 }] s)

/-- REGION_FAULT (R26): a device fault of class 3. -/
def execRegionFault (dt : Nat) (region : Fin 4) (s : State) : Host.Outcome State Fault Refusal :=
  ok (regionFault region (unitRegion region) (tick dt s))

/-- R27, R249, R32: a decoder fails: the event names the last line that it completed, and VALUE the line in progress, which another decoder
starts again (the line at the front of the region's queue, assumption log 41); the last of a region takes the region with it (R26). -/
def decoderFault (r d : Nat) (s : State) : State :=
  if tget false s.screen.decFailed (6 * r + d) then s
  else
    let last := (tget none s.screen.decLast (6 * r + d)).getD (datumLine s)
    let hand := (queueFront s r).bind (fun n => (readyLine s n).map (fun y => (n, y)))
    let s := { s with screen := { s.screen with decFailed := tput false s.screen.decFailed (6 * r + d) true
                                                restart := match hand with | some h => some (h.1, h.2.base, h.2.i) | none => s.screen.restart } }
    let s := raise 0x6002 1 (engineDetail 0xFF 1 0xFF 0 ((hand.map (fun h => h.2.need)).getD last)) s (unit := unitDecoder r d) (line := atLine last)
    let s := updateCapacity (addFault 0x6002 1 2 (unitDecoder r d) s)
    if workingDecoders s r = 0 then regionFault r (unitDecoder r d) s else s

/-- DECODER_FAULT (R249). -/
def execDecoderFault (dt : Nat) (region : Fin 4) (decoder : Fin 6) (s : State) : Host.Outcome State Fault Refusal :=
  let s := tick dt s
  guardOk (regionPowered s region) (decoderFault region decoder) s

end Sys2Proof.Machine
end

