-- ==== Sys2Proof/Machine/Rules.lean ====
section
/-! DEFINITION. The consistency rules of CHECK and COMMIT (R596), each a list of failures (rule, index, subindex); and the judgement of a
staging set in the order of R62. -/

namespace Sys2Proof.Machine

/-! ### What a staging set holds -/

/-- R123: a page record from its 32 bytes. -/
def parsePage (b : List Byte) : Page :=
  let v := beNat b
  let f := fun lo n => v / 2 ^ lo % 2 ^ n
  let first : Int := (BitVec.ofNat 64 (f 160 64)).toInt
  ⟨BitVec.ofNat 32 (f 224 32), first, f 128 32, f 96 32, BitVec.ofNat 16 (f 80 16), f 73 1 == 1, f 72 1 == 1, f 128 32, false, none, false⟩

/-- R60, R124: the staged pages in subindex order: slot and record; an empty value leaves a slot empty. -/
def stagedPages (ws : List ObjWrite) : List (Nat × Page) :=
  (List.range 64).filterMap (fun i => match writeOf ws 0x4062 (i + 1) with
    | some (.bytes b) => if b.isEmpty then none else some (i + 1, parsePage b)
    | _ => none)

/-- R310: the nozzle changes of a set, in staging order; a block write's shadow is the entry at C051h. -/
def stagedNozzles (ws : List ObjWrite) : List NozChange :=
  ws.flatMap (fun w => if w.idx = 0x6013 ∨ w.idx = 0xC051 then (windowChanges (Val.oct w.val)).2 else [])

/-- Entries that a commit keeps as objects: page slots read empty again at once (R124), and a block write's shadow is no object. -/
def plainWrites (ws : List ObjWrite) : List ObjWrite := ws.filter (fun w => w.idx != 0x4062 && w.idx != 0xC051)

/-- R122: the action of `Job.Control` in a set. -/
def stagedAction (ws : List ObjWrite) : Option Nat := (writeOf ws 0x4061 0).map (fun v => (Val.int v).toNat)

/-- R63: the generation after one. -/
def nextGen (g : BitVec 32) : BitVec 32 := if g = 0xFFFFFFFF then 1 else g + 1

/-- The commit that a set would become at line `L`. -/
def commitOf (s : State) (L : Int) (ws : List ObjWrite) (noz : List NozChange) (device : Bool) (source : Nat) (src : BitVec 16)
    (target : Nat) : Commit :=
  ⟨nextGen s.proto.gen, L, plainWrites ws, noz, device, source, src, target, false, false⟩

/-- R61: the state as it would be with the commit accepted. -/
def withCommit (s : State) (c : Commit) : State := { s with proto := { s.proto with commits := s.proto.commits ++ [c], gen := c.gen } }

/-- The values that a staging set would set over the highest accepted generation. -/
def stagedEnv (s : State) (ws : List ObjWrite) : Env := fun i j => (writeOf ws i j).getD (pendVal s i j).1

/-- R62: H of a staging set. -/
def horizonWith (s : State) (ws : List ObjWrite) : Int := horizonOf (horizonEnvs s ++ [stagedEnv s ws])

/-- R62: the earliest line of a commit of this set. -/
def earliestLine (s : State) (ws : List ObjWrite) : Int := lineOf (pPos s) + horizonWith s ws

/-- R126: the page boundaries, those that the set itself appends included (R62 target 1). -/
def boundaries (s : State) (ws : List ObjWrite) : List Int := (printQueue s).map (·.first) ++ (stagedPages ws).map (·.2.first)

/-- R62: the line of target 0, 1 or 2; none when target 1 finds no boundary. -/
def targetLine (s : State) (ws : List ObjWrite) (target : Nat) (lpos : Int) : Option Int :=
  match target with
  | 0 => some (lpos / 65536)
  | 1 => match (boundaries s ws).filter (fun b => decide (earliestLine s ws ≤ b)) with
    | [] => none
    | a :: r => some (r.foldl min a)
  | _ => some (earliestLine s ws)

/-- The queue that a set's pages follow: as it will print at the set's line (R122). -/
def queueFor (s : State) (ws : List ObjWrite) (L : Int) : List Page :=
  if stagedAction ws = some 3 then (printQueue s).filterMap (cutPage L) else printQueue s

/-! ### Rules 1 to 22 -/

/-- What a rule is judged on: the state before, the state with the commit, the set, its line, the job state at the line. -/
structure Judged where
  s0 : State
  s1 : State
  ws : List ObjWrite
  line : Int
  job : Nat

/-- The values that would govern the commit's line. -/
def Judged.env (j : Judged) : Env := envAt j.s1 j.line

/-- The values that govern the line before. -/
def Judged.old (j : Judged) : Env := envAt j.s0 (j.line - 1)

/-- The set runs the job. -/
def Judged.runs (j : Judged) : Bool := stagedAction j.ws == some 1

/-- The set stages an object. -/
def Judged.stages (j : Judged) (i k : Nat) : Bool := j.ws.any (fun w => w.idx == i && w.sub == k)

/-- The set changes the value of an object. -/
def Judged.changes (j : Judged) (w : ObjWrite) : Bool := decide ((govVal j.s0 j.line w.idx w.sub).1 ≠ (writeOf j.ws w.idx w.sub).getD w.val)

def rule1 (j : Judged) : List (Nat × Nat × Nat) :=
  if j.s0.gait.job = 0 then []
  else headNums.filterMap (fun h =>
    let moved := (List.range 2).any (fun r => decide (2147483648 < (unitOffset j.env (2 * h + r) - unitOffset j.old (2 * h + r)).natAbs))
    match [0x7003, 0x7007, 0x7016].find? (fun i => j.stages i h) with
    | some i => if moved then some (1, i, h) else none
    | none => none)

def rule2 (j : Judged) : List (Nat × Nat × Nat) :=
  let e := j.env
  (activePlanes e).filterMap (fun p =>
    if (rowsOf e p).any (fun u => decide (dotDepthLines e * oneLine < lookAhead e p * oneLine + (unitOffset e u - planeOffset e p))) then
      some (2, 0x6003, p + 1) else none)

def rule3 (j : Judged) : List (Nat × Nat × Nat) :=
  if j.runs && (printQueue j.s0).any (fun p => decide (p.first < j.line)) then [(3, 0x4061, 0)] else []

/-- R124: the staged pages in order, each against the page before it. -/
def pageFails (e : Env) (L : Int) (job : Nat) : List (Nat × Page) → Option Page → Nat → List (Nat × Nat × Nat)
  | [], _, _ => []
  | (slot, p) :: r, prev, depth =>
    let bad := decide (p.first < L) || (match prev with | some q => decide (p.first < q.first + q.lines + q.gap) | none => false) ||
      decide (1024 < depth + 1) || (p.testbar && decide (p.gap < barLines e)) ||
      (List.range 16).any (fun i => p.planes.getLsbD i && (headsOf e i).isEmpty) || job == 2
    (if bad then [(4, 0x4062, slot)] else []) ++ pageFails e L job r (some p) (depth + 1)

def rule4 (j : Judged) : List (Nat × Nat × Nat) :=
  pageFails j.env j.line j.job (stagedPages j.ws) (queueFor j.s0 j.ws j.line).getLast? j.s0.gait.pages.length

def rule5 (j : Judged) : List (Nat × Nat × Nat) :=
  let e := j.env
  if (activeRows e).any (fun u => decide (1000000000000 < e.nat 0x4050 0 * basePeriod j.s1 e (u / 2)) ||
      (capWord j.s1 (u / 2) 2 != 0 && decide (capWord j.s1 (u / 2) 2 < e.nat 0x4050 0))) then [(5, 0x4050, 0)] else []

/-- R38: engines of a region in half units: 2 for each of its own that screens, 1 for each borrowed one. -/
def engineHalves (s : State) (r : Nat) : Nat :=
  engineNums.foldl (fun a k =>
    let x := s.engine k
    let home := ((bandChans (envNow s) x).head?.map (fun c => regionOf (chanHead c))).getD (k / 9)
    if x.role = .free ∧ engRegion s k = r then a + (if x.lent.isSome then 1 else 2)
    else if x.role = .band ∧ home = r then a + (if x.borrowed then 1 else 2)
    else a) 0

def rule6 (j : Judged) : List (Nat × Nat × Nat) :=
  let e := j.env
  let rate := e.nat 0x4050 0
  if (List.range 4).any (fun r =>
      decide (workingDecoders j.s1 r * 4000000000 < regionRate2 j.s1 e r) ||
      decide (engineHalves j.s1 r * 4000000000 < ((headNums.filter (fun h => regionOf h == r && (planeOf e h).isSome)).foldl (fun a h => a + e.nat 0x7001 h) 0) * rate))
  then [(6, 0x4050, 0)] else []

def rule7 (j : Judged) : List (Nat × Nat × Nat) :=
  if (purposeRange j.s1 2).2 < dotDepthLines j.env * dotDelayLine j.env then [(7, 0x5042, 0)] else []

/-- The objects that change only while the job is IDLE (R179, R289, R321, R437). -/
def idleOnly : List Nat := [0x5042, 0x6001, 0x6002, 0x6003, 0x600A, 0x6042, 0x6043, 0x6044, 0x6045, 0x6046, 0x7000, 0x7001, 0x7002, 0x7003, 0x7004,
  0x7005, 0x7006, 0x7020]

def rule8 (j : Judged) : List (Nat × Nat × Nat) :=
  if j.job = 0 then [] else (j.ws.filter (fun w => idleOnly.contains w.idx && j.changes w)).map (fun w => (8, w.idx, w.sub))

def rule9 (j : Judged) : List (Nat × Nat × Nat) :=
  if j.runs && (List.range 4).any (fun r => match decodeWindow j.s1 j.env r with | some w => decide (w < 8) | none => false) then [(9, 0x4061, 0)] else []

/-- R272: the planes that cannot be diffused on the bands in force: more than three bands, bands outside one cluster, and a fourth diffused plane
of a region. -/
def chainFails (s : State) (e : Env) : List Nat :=
  let ps := (List.range 16).filter (fun p => e.nat 0x6000 (p + 1) == 1 && !(bandEngines s p).isEmpty)
  let home := fun (p : Nat) => ((bandEngines s p).map (fun k => (s.engine k).cluster)).headD 0
  ps.filter (fun p =>
    decide (3 < (bandEngines s p).length) || (bandEngines s p).any (fun k => (s.engine k).cluster != home p) ||
    decide (3 ≤ (ps.filter (fun q => decide (q < p) && home q / 3 == home p / 3)).length))

/-- Rules 10 and 13 while the job is IDLE: from the band placement that the values give, rule 13 only where the set runs the job (R276). In a job,
rule 10 from the bands in force (R272), and for a plane without one from the placement that its values give. -/
def rule10and13 (j : Judged) : List (Nat × Nat × Nat) :=
  let fails := (assignBands j.env (engRegion j.s0) (assignable j.s0)).2
  let run := j.runs && j.job == 0
  if j.job = 0 then (fails.filter (fun (f : Nat × Nat × Nat) => f.1 == 10 || run)).eraseDups
  else ((chainFails j.s0 j.env).map (fun p => (10, 0x6000, p + 1)) ++
    fails.filter (fun (f : Nat × Nat × Nat) => f.1 == 10 && (bandEngines j.s0 (f.2.2 - 1)).isEmpty)).eraseDups

def rule11 (j : Judged) : List (Nat × Nat × Nat) :=
  let e := j.env
  (List.range 16).filterMap (fun p => if e.nat 0x6000 (p + 1) = 2 ∧ (e.nat 0x6001 (p + 1) ≠ 0 ∨ e.nat 0x5061 (p + 1) ≠ 8) then some (11, 0x6000, p + 1) else none)

def rule12 (j : Judged) : List (Nat × Nat × Nat) :=
  let e := j.env
  (List.range 16).filterMap (fun p =>
    let M := 2 ^ dotDepth e p - 1
    let bad := (Val.elems (e 0x6007 (p + 1))).any (fun w => dropOf w 0 != 0 || (List.range (M + 1)).any (fun m => decide (M < dropOf w m)))
    if bad then some (12, 0x6007, p + 1) else none)

def rule14 (j : Judged) : List (Nat × Nat × Nat) :=
  let e := j.env
  (activePlanes e).filterMap (fun p =>
    if e.nat 0x6000 (p + 1) ≠ 0 then none
    else match tget none j.s1.screen.arrays (e.nat 0x6004 (p + 1)) with
      | some a => if a.n = 2 ^ dotDepth e p - 1 then none else some (14, 0x6004, p + 1)
      | none => some (14, 0x6004, p + 1))

/-- Print columns of a head's nozzles. -/
def headColumns (e : Env) (h : Nat) : List Int := (List.range (e.nat 0x7001 h)).map (printColumn e h)

/-- A nozzle of head `g` stands at print column `k`. -/
def standsAt (e : Env) (g : Nat) (k : Int) : Bool := (List.range (rowCount e g)).any (fun r => (nozzleAtCol e g r k).isSome)

def rule15 (j : Judged) : List (Nat × Nat × Nat) :=
  let e := j.env
  (activePlanes e).flatMap (fun p =>
    let hs := headsOf e p
    if hs.length < 3 then []
    else (hs.filter (fun h => (headColumns e h).any (fun k =>
      standsAt e h k && decide (2 ≤ (hs.filter (fun g => decide (g < h) && standsAt e g k)).length)))).map (fun h => (15, 0x7006, h)))

/-- R321, R323: the bridge conditions, each reported on the head's object that breaks it (assumption log 28). -/
def rule16 (j : Judged) : List (Nat × Nat × Nat) :=
  let e := j.env
  let s := j.s1
  headNums.flatMap (fun h =>
    match planeOf e h with
    | none => []
    | some p =>
      let n := e.nat 0x7001 h
      let rows := rowCount e h
      let lead := (headsOf e p).headD h
      let c1 := capWord s h 1
      let known := c1 ≠ 0
      let last := firstColumn e h + ((n / max 1 rows - 1) * e.nat 0x7004 h : Nat) + (if rows = 2 then e.int 0x7005 h else 0)
      (if rows = 2 ∧ n % 128 ≠ 0 ∨ (known ∧ (c1 % 65536 < n ∨ capWord s h 3 < txTime s e h + 800000)) then [(16, 0x7001, h)] else []) ++
      (if rowCount e lead ≠ rows then [(16, 0x7002, h)] else []) ++
      (if rowCount e lead = rows ∧ e.nat 0x7004 lead ≠ e.nat 0x7004 h then [(16, 0x7004, h)] else []) ++
      (if e.nat 0x7004 h ≤ e.nat 0x7005 h then [(16, 0x7005, h)] else []) ++
      (if firstColumn e h < 0 ∨ 1048576 ≤ last then [(16, 0x7006, h)] else []) ++
      (if known ∧ c1 / 4194304 % 32 ≤ e.nat 0x7008 h then [(16, 0x7008, h)] else []) ++
      (if known ∧ c1 / 4194304 % 32 ≤ e.nat 0x7009 h then [(16, 0x7009, h)] else []))

def rule17 (j : Judged) : List (Nat × Nat × Nat) :=
  let e := j.env
  let offs := (activeRows e).map (unitOffset e)
  let span := maxOf offs - minOf offs
  let dist := cfg j.s1 0x4081 0
  if j.runs ∧ ((List.range 3).any (fun i => cfg j.s1 0x7030 (i + 1) == 2)) ∧
      (dist * oneLine < span + cfg j.s1 0x4082 0 * oneLine ∨ cfg j.s1 0x4083 0 < dist) then [(17, 0x4081, 0)] else []

/-! Sensors and camera ports (R393, R395, R407) -/

/-- R393: fields of a sensor's configuration. -/
structure SensorCfg where
  port : Nat
  vc : Nat
  enable : Bool
  latency : Nat
  dtype : Nat
  width : Nat
  cross : Int
  pitch : Nat
  deriving DecidableEq, Repr

def sensorCfg (e : Env) (n : Nat) : SensorCfg :=
  let v := beNat (Val.oct (e 0x8010 n))
  let f := fun lo w => v / 2 ^ lo % 2 ^ w
  ⟨f 126 2, f 122 4, f 121 1 == 1, f 119 2, f 104 8, f 88 16, (BitVec.ofNat 32 (f 32 32)).toInt, f 0 32⟩

def sensorNums : List Nat := List.range 16

/-- The enabled sensors of a port. -/
def portSensors (e : Env) (c : Nat) : List Nat := sensorNums.filter (fun n => (sensorCfg e n).enable && (sensorCfg e n).port == c)

/-- R393: bits per pixel. -/
def pixelBits (d : Nat) : Nat := if d = 0x2A then 8 else if d = 0x2B then 10 else 24

def portEnabled (e : Env) (c : Nat) : Bool := bitOn (e.int 0x8000 c) 0
def portMode (e : Env) (c : Nat) : Nat := bits (e.int 0x8000 c) 2 2
def portLanes (e : Env) (c : Nat) : Nat := 2 ^ bits (e.int 0x8000 c) 4 2
def lineTrigOf (e : Env) (c : Nat) : Nat := bits (e.int 0x8000 c) 8 8
def frameTrigOf (e : Env) (c : Nat) : Nat := bits (e.int 0x8000 c) 16 8

def rule18 (j : Judged) : List (Nat × Nat × Nat) :=
  let e := j.env
  sensorNums.filterMap (fun n =>
    let x := sensorCfg e n
    let same := (List.range n).filter (fun m => (sensorCfg e m).enable && (sensorCfg e m).port == x.port)
    let twin := same.any (fun m => (sensorCfg e m).vc == x.vc)
    let off := same.any (fun m => decide (e.int 0x4041 (m + 1) ≠ e.int 0x4041 (n + 1)))
    let load := (portSensors e x.port).foldl (fun a m => a + (sensorCfg e m).width * pixelBits (sensorCfg e m).dtype) 0 * e.nat 0x4050 0 * 65536
    let rate := decide (4500000000 * portLanes e x.port * e.nat 0x8002 x.port < load) && (portSensors e x.port).head? == some n
    if x.enable ∧ (twin || off || rate) then some (18, 0x8010, n) else none)

/-- The staged objects of a camera port (R395) and its sensors' offset. -/
def portShape (e : Env) (c : Nat) : List Val :=
  [e 0x8000 c, e 0x8001 c, e 0x8002 c, e 0x8003 c, e 0x8004 c, e 0x8005 c, e 0x8007 c] ++
    ((portSensors e c).head?.map (fun n => e 0x4041 (n + 1))).toList

def rule19 (j : Judged) : List (Nat × Nat × Nat) :=
  let e := j.env
  (List.range 4).filterMap (fun c =>
    let clash := (List.range c).any (fun d => portEnabled e d &&
      [lineTrigOf e d, frameTrigOf e d].any (fun o => o == lineTrigOf e c || o == frameTrigOf e c) && decide (portShape e c ≠ portShape e d))
    let fast := decide (e.nat 0x8002 c * 1000000000 < e.nat 0x8007 c * e.nat 0x4050 0 * 65536)
    if portEnabled e c ∧ (decide (lineTrigOf e c = frameTrigOf e c) || clash || fast) then some (19, 0x8000, c) else none)

def rule20 (j : Judged) : List (Nat × Nat × Nat) :=
  let e := j.env
  let c := e.nat 0x8006 0
  if c ≤ 3 ∧ portEnabled e c ∧ 750000000 * e.nat 0x8002 c < (portSensors e c).foldl (fun a m => a + (sensorCfg e m).width) 0 * e.nat 0x4050 0 * 65536
  then [(20, 0x8006, 0)] else []

/-- R422: the port that images a bar: an enabled port in test-bar mode. -/
def barPorts (e : Env) : List Nat := (List.range 4).filter (fun c => portEnabled e c && portMode e c == 2)

/-- R422; the rung condition is taken within each head, whose nozzles K apart in column order stand K × pitch ÷ rows apart (assumption log
29). -/
def rule21 (j : Judged) : List (Nat × Nat × Nat) :=
  let e := j.env
  let ref := cfgN j.s1 0x604F 0
  let marks := (activeRows e).any (fun u => (planeOf e (u / 2)).getD 0 != ref && decide (max (rowSpan e (u / 2) 0).2 (rowSpan e (u / 2) (rowCount e (u / 2) - 1)).2 < markColumn e u + 111))
  let rungs := (activePlanes e).any (fun p => (headsOf e p).any (fun h => decide (e.nat 0x6043 0 * e.nat 0x7004 h / max 1 (rowCount e h) < 8)))
  let frame := (barPorts e).any (fun c => decide (e.nat 0x8001 c * e.nat 0x8002 c < barLines e * 65536))
  if marks || rungs || frame then [(21, 0x6042, 0)] else []

def rule22 (j : Judged) : List (Nat × Nat × Nat) :=
  if j.runs then (headNums.filter (fun h => tget false j.s0.noz.newHead h && (planeOf j.env h).isSome)).map (fun h => (22, 0x7000, h)) else []

/-- Order of failures within a rule: index, then subindex (R597). -/
def insertFail (f : Nat × Nat × Nat) : List (Nat × Nat × Nat) → List (Nat × Nat × Nat)
  | [] => [f]
  | x :: r =>
    if f = x then x :: r
    else if f.1 < x.1 ∨ (f.1 = x.1 ∧ (f.2.1 < x.2.1 ∨ (f.2.1 = x.2.1 ∧ f.2.2 < x.2.2))) then f :: x :: r
    else x :: insertFail f r

/-- R596, R597: every failure of a set at line `L`, in ascending rule, index and subindex. -/
def failures (s : State) (c : Commit) (ws : List ObjWrite) : List (Nat × Nat × Nat) :=
  let j : Judged := ⟨s, withCommit s c, ws, c.line, jobAt s c.line⟩
  (rule1 j ++ rule2 j ++ rule3 j ++ rule4 j ++ rule5 j ++ rule6 j ++ rule7 j ++ rule8 j ++ rule9 j ++ rule10and13 j ++ rule11 j ++ rule12 j ++
    rule14 j ++ rule15 j ++ rule16 j ++ rule17 j ++ rule18 j ++ rule19 j ++ rule20 j ++ rule21 j ++ rule22 j).foldl (fun l f => insertFail f l) []

/-- R62 order 6: an action outside its states at `L`, or a run while the axis is not VALID. -/
def actionRefused (s : State) (ws : List ObjWrite) (L : Int) : Bool :=
  match stagedAction ws with
  | some a => !actionAllowed a (jobAt s L) || (a == 1 && s.axis.state != 1)
  | none => false

/-- How a COMMIT is judged: a refusal code, the failures of order 7, or its line. -/
inductive Verdict where
  | refused (code : Nat)
  | failed (fails : List (Nat × Nat × Nat))
  | passes (L : Int)
  deriving DecidableEq, Repr

/-- R62: orders 1 to 7. -/
def judgeCommit (s : State) (ws : List ObjWrite) (target : Nat) (lpos : Int) (src : BitVec 16) : Verdict :=
  if ws.isEmpty then .refused 0x0406
  else if 2 < target ∨ (target = 0 ∧ lpos % 65536 ≠ 0) then .refused 0x0303
  else if 16 ≤ (pendingCommits s).length then .refused 0x0506
  else match targetLine s ws target lpos with
    | none => .refused 0x0408
    | some L =>
      if target = 0 ∧ L < earliestLine s ws then .refused 0x0402
      else if (pendingCommits s).any (fun c => decide (L < c.line)) then .refused 0x0409
      else if actionRefused s ws L then .refused 0x0401
      else
        let c := commitOf s L ws (stagedNozzles ws) false 0 src target
        match failures s c ws with
        | [] => .passes L
        | f => .failed f

/-- R61: CHECK judges the set as a COMMIT with target 2 at order 7. -/
def judgeCheck (s : State) (ws : List ObjWrite) (src : BitVec 16) : Verdict :=
  if ws.isEmpty then .refused 0x0406
  else
    let L := earliestLine s ws
    match failures s (commitOf s L ws (stagedNozzles ws) false 0 src 2) ws with
    | [] => .passes L
    | f => .failed f

end Sys2Proof.Machine
end

