-- ==== Sys2Proof/Machine/Frames.lean ====
section
/-! DEFINITION. Inspection frames as stored things: their descriptors and flags (R400, R401), closing (R403), the space they take in the
inspection partition (R399), the backlog and the camera slices that hold them (R407). -/

namespace Sys2Proof.Machine

/-- R418: DETAIL of an inspection event. -/
def inspDetail (subject reason : Nat) (flags : BitVec 16) (v : Int) : BitVec 96 := detail subject reason flags.toNat v

/-! R401: bits of FLAGS. -/
abbrev ffDamaged : Nat := 0
abbrev ffLate : Nat := 1
abbrev ffShort : Nat := 2
abbrev ffLong : Nat := 3
abbrev ffMissing : Nat := 4
abbrev ffRetake : Nat := 5
abbrev ffExpFault : Nat := 6
abbrev ffDropped : Nat := 7
abbrev ffUe : Nat := 8
abbrev ffLineMiss : Nat := 9
abbrev ffCut : Nat := 10
abbrev ffInline : Nat := 11

/-- A set of flag bits as FLAGS holds it. -/
def flagMask (l : List Nat) : BitVec 16 := l.foldl (fun a b => a ||| BitVec.ofNat 16 (2 ^ b)) 0

def Frame.has (f : Frame) (b : Nat) : Bool := f.flags.getLsbD b
def Frame.flag (b : Nat) (f : Frame) : Frame := { f with flags := f.flags ||| BitVec.ofNat 16 (2 ^ b) }

/-- The frame with this sensor and number. -/
def Frame.is (f : Frame) (n : Nat) (k : BitVec 32) : Bool := f.sensor == n && f.frame == k

/-- R400 LINES: camera lines delivered, zero-filled ones included (R397). -/
def Frame.lines (f : Frame) : Nat := if f.has ffMissing then 0 else min f.linesCfg (f.got + f.missed.length)

/-- The camera line that the next received line is (R397: a line without a trigger is not sent). -/
def Frame.nextLine (f : Frame) : Nat :=
  ((List.range (f.linesCfg + 1)).filter (fun m => !f.missed.contains m)).getD f.got f.linesCfg

def frameOf (s : State) (n : Nat) (k : BitVec 32) : Option Frame := s.insp.frames.find? (fun f => f.is n k)

/-- Change a frame, and its descriptor in the log. -/
def modFrame (n : Nat) (k : BitVec 32) (g : Frame → Frame) (s : State) : State :=
  let h := fun (f : Frame) => if f.is n k then g f else f
  { s with insp := { s.insp with frames := s.insp.frames.map h, log := s.insp.log.map (fun f => if f.is n k then { g f with pixels := [] } else f) } }

/-- R399: a frame leaves the partition when its statistics are complete and nothing holds it. -/
def freeFrames (s : State) : State :=
  { s with insp := { s.insp with frames := s.insp.frames.filter (fun f => !(f.ended && f.processed && !f.held)) } }

/-! ### Slices (R407) -/

/-- Slices in service, ascending. -/
def workingSlices (s : State) : List Nat := (List.range 4).filter (fun k => !tget false s.insp.sliceFailed k)

/-- R407: the in-line port, unless it has moved to the store. -/
def inlinePort (s : State) (e : Env) : Option Nat := if e.nat 0x8006 0 ≤ 3 ∧ !s.insp.inlineMoved then some (e.nat 0x8006 0) else none

/-- R407: the slice of the in-line port. -/
def inlineSlice (s : State) : Option Nat := if (inlinePort s (envNow s)).isSome then (workingSlices s).head? else none

/-- Frames that wait for a slice, or have one: closed, and neither in-line nor without statistics. -/
def storedWork (s : State) : List Frame := s.insp.frames.filter (fun f => f.ended && !f.processed && !f.has ffInline)

/-- R407: 8045h Insp.Backlog. -/
def backlog (s : State) : Nat := (storedWork s).length

/-- R407: INSP.BACKLOG at 4, armed again at 0. -/
def noteBacklog (s : State) : State :=
  let n := backlog s
  if n = 0 then { s with insp := { s.insp with backlogRaised := false } }
  else if 4 ≤ n ∧ !s.insp.backlogRaised then
    ev 0x8004 (inspDetail 0xFF 0 0 n) { s with insp := { s.insp with backlogRaised := true } }
  else s

/-- R407: the frame that a slice takes next: oldest trigger, then lower sensor number. -/
def nextForSlice (s : State) : Option Frame :=
  ((storedWork s).filter (fun f => f.slice.isNone)).foldl (fun (a : Option Frame) f =>
    match a with
    | none => some f
    | some g => if f.trigAt < g.trigAt ∨ (f.trigAt = g.trigAt ∧ f.sensor < g.sensor) then some f else some g) none

/-- R407: free slices take the frames that wait. -/
def assignSlices (s : State) : State :=
  let fixed := inlineSlice s
  forAll ((workingSlices s).filter (fun k => some k ≠ fixed && !s.insp.frames.any (fun f => f.slice == some k && !f.processed))) (fun k s =>
    match nextForSlice s with
    | some f => modFrame f.sensor f.frame (fun g => { g with slice := some k }) s
    | none => s) s

/-! ### Closing (R400, R403) -/

/-- R403: INSP.FRAME_FAULT, at most once per second per sensor. -/
def frameFault (f : Frame) (s : State) : State :=
  let x := s.sensor f.sensor
  let due := match x.faultAt with | some t => decide (t + sec ≤ s.time.now) | none => true
  if f.flags.toNat % 32 = 0 ∨ !due then s
  else ev 0x8002 (inspDetail f.sensor 0 f.flags f.frame.toNat) (s.setSensor f.sensor { x with faultAt := some s.time.now }) (line := some f.first)

/-- R411: INSP.FRAME. -/
def frameDone (f : Frame) (s : State) : State := ev 0x8001 (inspDetail f.sensor 0 f.flags f.frame.toNat) s (line := some f.first)

/-- R399: bytes of a camera line in the store. -/
def lineStride (width dtype : Nat) : Nat := (width * (if dtype = 0x2A then 1 else if dtype = 0x2B then 2 else 3) + 63) / 64 * 64

/-- R403: camera lines of a stored frame that were not received read as zero. -/
def zeroFill (f : Frame) (dtype : Nat) (s : State) : State :=
  if f.space = 0 then s
  else
    let n := lineStride f.width dtype
    let sent := ((List.range f.linesCfg).filter (fun m => !f.missed.contains m)).take f.got
    forAll ((List.range f.linesCfg).filter (fun m => !sent.contains m)) (fun m s => writeUnits 1 ((f.address + m * n) / 64) (List.replicate n 0) s) s

/-- R400, R403: a frame closes with these further flags: its descriptor enters the log, newest first. -/
def closeFrame (n : Nat) (k : BitVec 32) (more : List Nat) (s : State) : State :=
  match frameOf s n k with
  | none => s
  | some f =>
    if f.ended then s else
    let f := { f with flags := f.flags ||| flagMask more, ended := true }
    let none' := f.noStats || f.has ffMissing || f.has ffDropped
    let f := { f with noStats := none', processed := none' }
    let s := modFrame n k (fun _ => f) s
    let s := { s with insp := { s.insp with log := ({ f with pixels := [] } :: s.insp.log).take 64 } }
    let s := zeroFill f (sensorCfg (envAt s (lineOf f.first)) n).dtype s
    let s := frameFault f s
    let s := if none' then frameDone f s else s
    noteBacklog (assignSlices (freeFrames s))

/-- The open frames, oldest first. -/
def openFrames (s : State) : List Frame := s.insp.frames.filter (fun f => !f.ended)

/-- R412, R414, R401: open frames of the ports chosen close SHORT with CUT. -/
def cutFrames (sel : Nat → Bool) (s : State) : State :=
  forAll ((openFrames s).filter (fun f => sel f.port)) (fun f s => closeFrame f.sensor f.frame [ffShort, ffCut] s) s

/-- R102, R412: position is lost, and open frames close. -/
def lostPosition (why : Nat) (s : State) : State := cutFrames (fun _ => true) (losePosition why s)

/-- R24, R26, R27, R407: a slice fails: ENGINE.FAULT names its last line; with no slice left to stand in the fault passes up to the logic die
(assumption log 55). Its frame is DAMAGED; the in-line port goes through the store from its next frame on; a frame in the store waits for
another slice, and one that was processed as it arrived gives no statistics. -/
def sliceFault (k : Nat) (s : State) : State :=
  if tget false s.insp.sliceFailed k then s
  else
    let line := inlineSlice s == some k
    let s := { s with insp := { s.insp with sliceFailed := tput false s.insp.sliceFailed k true, inlineMoved := s.insp.inlineMoved || line } }
    let last := ((s.insp.frames.filter (fun f => f.slice == some k)).head?.map (fun f => lineOf f.first)).getD (datumLine s)
    let s := raise 0x6002 1 (engineDetail 0xFF 1 0xFF 0 last) s (unit := unitSlice k) (line := atLine last)
    let s := addFault 0x6002 1 2 (unitSlice k) s
    let s := if (List.range 4).all (fun i => tget false s.insp.sliceFailed i) then dieFault 0 1 3 0 (some 7) false s else s
    let s := forAll (s.insp.frames.filter (fun f => f.slice == some k && !f.processed)) (fun f s =>
      let s := modFrame f.sensor f.frame (fun g => ({ g with slice := none, noStats := g.noStats || g.has ffInline }).flag ffDamaged) s
      if f.ended ∧ f.has ffInline then
        let s := modFrame f.sensor f.frame (fun g => { g with processed := true }) s
        frameDone (f.flag ffDamaged) s
      else s) s
    noteBacklog (assignSlices (freeFrames s))

/-- SLICE_FAULT (R32, R407). -/
def execSliceFault (dt : Nat) (slice : Fin 4) (s : State) : Host.Outcome State Fault Refusal := ok (sliceFault slice (tick dt s))

/-! ### Space and holds (R399) -/

/-- The inspection partition: first address and bytes. -/
def inspRange (s : State) : Nat × Nat := purposeRange s 4

/-- R399: bytes of a frame: whole 64 KiB units. -/
def frameBytes (width dtype lines : Nat) : Nat := (lines * lineStride width dtype + 65535) / 65536 * 65536

/-- R399: where a new frame goes: after the last one, or at the base when it does not fit before the end; none when that space is not free. -/
def placeFrame (s : State) (n : Nat) : Option Nat :=
  let (base, size) := inspRange s
  let a := if s.insp.alloc + n ≤ size then base + s.insp.alloc else base
  if size < n ∨ s.insp.frames.any (fun f => touches a n f.address f.space) then none else some a

/-- R399: Cmd.FrameHold: the result code and the state after it. -/
def holdFrame (n : Nat) (k : BitVec 32) (hold : Bool) (s : State) : Nat × State :=
  match frameOf s n k with
  | none => (0x0407, s)
  | some f =>
    if f.space = 0 then (0x0407, s)
    else if hold ∧ !f.held ∧ 8 ≤ (s.insp.frames.filter (·.held)).length then (0x0507, s)
    else (0, freeFrames (modFrame n k (fun g => { g with held := hold }) s))

/-! ### Commits that touch capture (R398, R401, R409, R415) -/

/-- The sensors' offset of a port (R393: they share it). -/
def portOffset (e : Env) (c : Nat) : Int :=
  match portSensors e c with
  | n :: _ => ofLpos (e.int 0x4041 (n + 1))
  | [] => 0

/-- R398: the frame requests in force: FIRST and lines, ascending FIRST. -/
def frameRequests (e : Env) : List (Int × Nat) :=
  let all := (List.range 8).filterMap (fun i =>
    let b := Val.oct (e 0x8050 (i + 1))
    let n := beNat ((b.drop 8).take 2)
    if b.length = 16 ∧ 64 ≤ n then some (ofLpos ((BitVec.ofNat 64 (beNat (b.take 8))).toInt), n) else none)
  all.foldl (fun acc r => acc.takeWhile (fun x => decide (x.1 ≤ r.1)) ++ [r] ++ acc.dropWhile (fun x => decide (x.1 ≤ r.1))) []

/-- R398: requests that a commit writes: one whose line 0 is at or below the mark is dropped and counted as missed; one written again is
a new request. -/
def takeRequests (c : Commit) (s : State) : State :=
  let subs := (c.writes.filter (fun w => w.idx == 0x8050)).map (·.sub)
  if subs.isEmpty then s
  else
    let e := envAt s c.line
    forAll ((List.range 4).filter (fun p => portEnabled e p && portMode e p == 3)) (fun p s =>
      forAll ((frameRequests e).filter (fun r => c.writes.any (fun w => w.idx == 0x8050 && ofLpos ((BitVec.ofNat 64 (beNat ((Val.oct w.val).take 8))).toInt) == r.1)))
        (fun r s =>
          let gone := (s.camPort p).mark.getD s.gait.w
          if r.1 + portOffset e p ≤ gone then
            { s with insp := { s.insp with requestMissed := s.insp.requestMissed + 1, requestsDone := (p, r.1) :: s.insp.requestsDone.filter (· != (p, r.1)) } }
          else { s with insp := { s.insp with requestsDone := s.insp.requestsDone.filter (· != (p, r.1)) } }) s) s

/-- R401, R409, R415: a commit's line passes: ports that it disables close their frames with CUT; sensors whose CROSS or PITCH it changes
lose their alignment; its frame requests are taken. -/
def camerasChanged (c : Commit) (s : State) : State :=
  let old := envAt s (c.line - 1)
  let new := envAt s c.line
  let off := (List.range 4).filter (fun p => portEnabled old p && !portEnabled new p)
  let s := cutFrames (fun p => off.contains p) s
  let s := forAll off (fun p s => s.setCamPort p { s.camPort p with frameF := none, m := 0, frameTrig := false }) s
  let s := forAll (sensorNums.filter (fun n => c.writes.any (fun w => w.idx == 0x8010 && w.sub == n) &&
      (decide ((sensorCfg old n).cross ≠ (sensorCfg new n).cross) || decide ((sensorCfg old n).pitch ≠ (sensorCfg new n).pitch))))
    (fun n s => s.setSensor n { s.sensor n with align := 0 }) s
  takeRequests c s

end Sys2Proof.Machine
end

