-- ==== Sys2Proof/Machine/FrameStarts.lean ====
section
/-! DEFINITION. The trigger program of a camera port (R395 to R398): frame starts, the line trigger that falls due next, and its predicted instant
(R119). -/

namespace Sys2Proof.Machine

/-- R395: G of a port, in 2^-32 line. -/
def camPitch (e : Env) (c : Nat) : Int := ofLpos (e.int 0x8002 c)
/-- R398: a frame's span of web. -/
def camSpan (e : Env) (c : Nat) : Int := (e.nat 0x8001 c : Int) * camPitch e c

/-- A port takes frames. -/
def portRuns (e : Env) (c : Nat) : Bool := portEnabled e c && portMode e c != 0 && !(portSensors e c).isEmpty

/-- Lines at which a commit may change a trigger program, ascending. -/
def programLines (s : State) : List Int :=
  let ls := (s.proto.commits.filter (fun k => k.writes.any (fun w => (decide (0x8000 ≤ w.idx) && decide (w.idx ≤ 0x8010)) || w.idx == 0x8050 || w.idx == 0x4041))).map (·.line)
  ls.foldl (fun acc l => acc.takeWhile (fun x => decide (x < l)) ++ [l] ++ (acc.dropWhile (fun x => decide (x < l))).filter (· ≠ l)) []

/-- The runs of web lines under one trigger program: first line (none for the first run), line after the last, values. -/
def programRuns (s : State) : List (Option Int × Option Int × Env) :=
  match programLines s with
  | [] => [(none, none, envNow s)]
  | l :: r =>
    (none, some l, envAt s (l - 1)) :: ((l :: r).zip ((r.map some) ++ [none])).map (fun x => (some x.1, x.2, envAt s x.1))

/-- The least `first + k × span`, k = 0, 1, 2 ..., at or above `lo`. -/
def firstOnGrid (first span lo : Int) : Int := if lo ≤ first ∨ span ≤ 0 then first else first + (lo - first + span - 1) / span * span

/-- R398, R412: the next frame start of a port under the program of one run of lines, at or above `lo` in 2^-32 line, and its lines. -/
def startIn (s : State) (c : Nat) (e : Env) (lo : Option Int) : Option (Int × Nat) :=
  let p := s.camPort c
  let O := portOffset e c
  let above := (p.mark.getD s.gait.w) + 1 - O
  let lo' := max above (lo.getD above)
  let lo' := match p.frameF with | some F => max lo' (F + 1) | none => lo'
  match portMode e c with
  | 1 =>
    let first := ofLpos (e.int 0x8003 c)
    let chained := match p.frameF with
      | some F0 =>
        let e0 := envAt s (lineOf F0)
        if portRuns e0 c ∧ portMode e0 c = 1 ∧ e0 0x8003 c = e 0x8003 c then some (F0 + camSpan e0 c) else none
      | none => none
    match chained with
    | some F => some (F, e.nat 0x8001 c)
    | none =>
      if p.rearmed then
        let G := camPitch e c
        some (if G ≤ 0 then first else first + (lo' - first + G - 1) / G * G, e.nat 0x8001 c)
      else some (firstOnGrid first (camSpan e c) lo', e.nat 0x8001 c)
  | 2 =>
    let bars := ((printQueue s).filter (fun g => g.testbar && decide (lo' ≤ (g.first + g.lines) * oneLine))).map (fun g => ((g.first + g.lines) * oneLine, g.gap))
    (bars.foldl (fun (a : Option (Int × Nat)) b => match a with | none => some b | some x => if b.1 < x.1 then some b else some x) none).map
      (fun b => (b.1, min (e.nat 0x8001 c) (ceilDiv (b.2 * 65536) (max 1 (e.nat 0x8002 c)))))
  | 3 => (frameRequests e).find? (fun r => decide (lo' ≤ r.1) && !s.insp.requestsDone.contains (c, r.1))
  | _ => none

/-- R398, R415: the next frame start of a port and its lines: the first that lies in the run of lines whose program gives it. -/
def nextStart (s : State) (c : Nat) : Option (Int × Nat) :=
  (programRuns s).findSome? (fun r =>
    let (lo, hi, e) := r
    if !portRuns e c then none
    else match startIn s c e (lo.map (· * oneLine)) with
      | none => none
      | some x =>
        let under := match hi with | some h => decide (x.1 < h * oneLine) | none => true
        let above := match lo with | some l => decide (l * oneLine ≤ x.1) | none => true
        if under && above then some x else none)

/-- A line trigger that falls due: its position, its frame's first web line and lines, its camera line; `new` when it begins a frame. -/
structure LineDue where
  pos : Int
  first : Int
  lines : Nat
  m : Nat
  new : Bool
  deriving DecidableEq, Repr

/-- R397: position of camera line `m` of the frame that starts at `F`. -/
def camPos (s : State) (c : Nat) (F : Int) (m : Nat) : Int :=
  let e := envAt s (lineOf F)
  F + m * camPitch e c + portOffset e c

/-- R397, R398: the next line trigger of a port: of the present frame, or the next frame's line 0 when that comes first. -/
def camDue (s : State) (c : Nat) : Option LineDue :=
  let p := s.camPort c
  let cur : Option LineDue := match p.frameF with
    | some F => if p.m < p.frameLines then some ⟨camPos s c F p.m, F, p.frameLines, p.m, false⟩ else none
    | none => none
  match nextStart s c, cur with
  | some n, none => some ⟨camPos s c n.1 0, n.1, n.2, 0, true⟩
  | some n, some d => if camPos s c n.1 0 ≤ d.pos then some ⟨camPos s c n.1 0, n.1, n.2, 0, true⟩ else some d
  | none, d => d

/-- Capture runs: Run or Idle, and no fault of class 3 has stopped it (R414, R548). -/
def captureRuns (s : State) : Bool := decide (s.power.state ≤ 1) && !s.faults.stopped

/-- R119, R397: the prediction of a port's next line trigger, `Insp.SensorDelay` before LPOS reaches its position. -/
def predictCam (c : Nat) (s : State) : State :=
  let p := s.camPort c
  let next := if captureRuns s && s.axis.state == 1 then camDue s c else none
  s.setCamPort c { p with pred := next.bind (fun d =>
    unitInstant s Config.frameLead ((envAt s (lineOf d.first)).nat 0x8005 c * ns) p.pred d.pos) }

/-- R116, R119: the predictions of every unit. -/
def predictUnits (s : State) : State := forAll (List.range 4) predictCam (predictAll s)

end Sys2Proof.Machine
end

