-- ==== Sys2Proof/Machine/Commits.lean ====
section
/-! DEFINITION. Accepting a commit (R62 to R64, R122, R124, R276, R301), its line passing the datum (R63, R65, R122), the device's own
commits (R303, R307, R432, R433), and the ends of pages and jobs (R122, R126). -/

namespace Sys2Proof.Machine

/-! ### The configuration store's due writes (R529) -/

/-- R529: objects kept in the configuration store, written within 1 s of a change. -/
def storedObject (i : Nat) : Bool :=
  [0x1010, 0x1011, 0x1013, 0x1014, 0x1020, 0x1021, 0x1022, 0x1023, 0x1024, 0x1025, 0x1030, 0x1040, 0x3001, 0x3002, 0x3003, 0x3004, 0x3005,
   0x3006, 0x3010, 0x3011, 0xA000, 0xA004, 0xA010, 0x9016, 0x9017, 0x9018, 0x9071, 0x7020, 0x7041, 0x7042, 0x7043, 0xE040].contains i ||
    (decide (0x9000 ≤ i) && decide (i ≤ 0x9008)) || (decide (0x7000 ≤ i) && decide (i ≤ 0x7009))

/-- R529: a listed object has changed: the store is due within 1 s. -/
def noteStored (i : Nat) (s : State) : State :=
  if storedObject i ∧ s.start.store.dirtyAt.isNone then
    { s with start := { s.start with store := { s.start.store with dirtyAt := some s.time.now } } }
  else s

/-! ### Acceptance -/

/-- The heads that a commit's nozzle changes or head objects touch. -/
def touchedHeads (c : Commit) : List Nat :=
  headNums.filter (fun h => c.nozzles.any (fun n => decide (n.channel < channel (h + 1) 0) && decide (channel h 0 < n.channel + n.count)) ||
    c.writes.any (fun w => (w.idx == 0x7000 || w.idx == 0x7001) && w.sub == h))

/-- R319: NOZZLE.STATE, one record for each head whose effective states a commit changes. -/
def reportStates (old : State) (c : Commit) (s : State) : State :=
  forAll (touchedHeads c) (fun h s =>
    let ch := ((List.range headChans).map (channel h)).filter (fun k => effAt old c.line k != effAt s c.line k)
    match ch with
    | [] => s
    | k :: _ => ev 0x6011 (nozzleDetail h c.source k ch.length) s (line := atLine c.line)) s

/-- R301: the runs of a plane's columns that become uncovered at the commit's line: first channel and length. -/
def newUncovered (old s : State) (c : Commit) (p : Nat) : List (Nat × Nat) :=
  let e := envAt s c.line
  let chans := planeChans e p
  let fresh := chans.map (fun k => uncoveredAt s c.line k && !uncoveredAt old c.line k)
  (runsOf fresh 0).map (fun r => (chans.getD r.1 0, r.2))

/-- R301: NOZZLE.UNCOVERED for each run, at most 64, then a summary. -/
def reportUncovered (old : State) (c : Commit) (s : State) : State :=
  if (touchedHeads c).isEmpty then s
  else
    let planes := ((touchedHeads c).flatMap (fun h => [planeOf (envAt s c.line) h, planeOf (envAt s (c.line - 1)) h].filterMap id)).eraseDups
    let runs := planes.flatMap (newUncovered old s c)
    let s := forAll (runs.take 64) (fun r s => ev 0x6010 (nozzleDetail (chanHead r.1) 1 r.1 r.2) s (line := atLine c.line)) s
    if 64 < runs.length then ev 0x6010 (nozzleDetail 0xFF 0 0 (runs.length - 64)) s (line := atLine c.line) else s

/-- R122: an abort is accepted: the pages queued before it end at its line. -/
def acceptAction (a : Option Nat) (L : Int) (s : State) : State :=
  match a with
  | some 3 => { s with gait := { s.gait with pages := s.gait.pages.map (fun p => { p with cut := some (min L (p.cut.getD L)) }) } }
  | _ => s

/-- R307: queue a device change. Only the chip that holds lead makes device commits; a wheeler keeps the change until the lead's commit
arrives, and makes the commit itself after a switch-over (R434, R493). -/
def queueChange (d : DevChange) (s : State) : State :=
  if holdsLead s ∨ isWheeler s then { s with proto := { s.proto with waiting := s.proto.waiting ++ [d] } } else s

/-- R303, R306: a device change of the condition fields of every channel of a head. -/
def headChange (h : Nat) (p : NozPatch) : DevChange := ⟨false, 4, [⟨channel h 0, headChans, p⟩], [], none, none⟩

/-- R550: conditions that end at the next job run: a head whose link is found ACTIVE. -/
def runFaults (s : State) : State :=
  forAll headNums (fun h s => if (s.lane h).state ≠ 6 then s else causeGone 0x7012 (unitAddr 2 0 3 (regionOf h) 0 h) s) s

/-- R490: the head's bridge obeys the partner's port. -/
def partnerDrives (s : State) (h : Nat) : Bool := s.pair.state == 3 && tget 0 s.pair.owner h == 2

/-- R296, R363: what a job run changes of ABSENT: an assigned head whose link is not ACTIVE when the job runs is absent, and one whose link
is ACTIVE is absent no longer. A head that the partner drives is not lost to the pair. -/
def runAbsent (L : Int) (s : State) : List NozChange :=
  headNums.filterMap (fun h =>
    let now := (nozPend s (channel h 0)).absent
    let gone := (s.lane h).state != 6 && !partnerDrives s h
    if (planeOf (envAt s L) h).isNone ∨ gone = now then none else some ⟨channel h 0, headChans, { absent := some gone }⟩)

/-- R62 to R64: accept a commit: it takes its generation, its pages join the queue, its nozzle changes enter the stored copy, a run from
IDLE assigns the bands; it is mirrored to a wheeler. -/
def acceptCommit (c : Commit) (ws : List ObjWrite) (s : State) : State :=
  let old := s
  let from' := jobAt s c.line
  let a := stagedAction ws
  let s := acceptAction a c.line s
  let c := if a = some 1 ∧ !isWheeler s then { c with nozzles := c.nozzles ++ runAbsent c.line s } else c
  let s := withCommit s c
  let pages := (stagedPages ws).map (·.2)
  let s := if pages.isEmpty then s
    else { s with gait := { s.gait with pages := s.gait.pages ++ pages, dryRaised := false } }
  let s := { s with noz := { s.noz with dirty := (touchedHeads c).foldl (fun t h => tput false t h true) s.noz.dirty } }
  let s := { s with noz := { s.noz with planted := s.noz.planted.filter (fun e => !c.nozzles.any (fun x => changeCovers x e.1)) } }
  let s := reportUncovered old c (reportStates old c s)
  let s := if a = some 1 then (if from' = 0 then runAssignment c.line (runFaults s) else runFaults s) else s
  mirror (.commit c []) s

/-! ### A line passes the datum (R63, R65, R122) -/

/-- R333: the lines of a page that an abort at `L` leaves unfired enter the defect log, one run for each plane that would print them. No code of
CAUSE stands for an abort: it is a free value (assumption log 72). -/
def logUnfired (L : Int) (p : Page) (s : State) : State :=
  let first := max L p.first
  if p.blank then s
  else forAll ((activePlanes (envAt s first)).filter (fun i => p.planes.getLsbD i)) (fun i s =>
    addDefect ⟨p.page, first, (p.first + p.lines - first).toNat, i, 0xFF, (Config.freeOf 333 [first, i]).toNat % 256, 0xFF, genAt s first, devTime s⟩ s) s

/-- R122, R390: W has reached the line of an abort: the pages queued before it are dropped or cut there, and held rows at or above it print no
more. -/
def abortPasses (L : Int) (s : State) : State :=
  let hit := s.gait.pages.filter (fun p => p.cut == some L && decide (L < p.first + p.lines))
  let s := forAll hit (logUnfired L) s
  let gone := hit.filter (fun p => decide (L ≤ p.first))
  let pages := s.gait.pages.filterMap (fun p => if p.cut = some L then
    (cutPage L p).map (fun q => { q with marked := q.marked || (q.lines != p.lines && !p.blank) }) else some p)
  let s := { s with gait := { s.gait with pages := pages, abortAt := if s.gait.job = 1 ∨ s.gait.job = 2 then some L else none } }
  reinAbort L (forAll gone (fun p s => releasePage p.page s) s)

/-- R122: the job's state at line `L` of an action. A run ends the wait of an abort at or below its line. -/
def passAction (a : Option Nat) (L : Int) (s : State) : State :=
  match a with
  | some 1 => setJob 1 { s with gait := { s.gait with abortAt := none } }
  | some 2 => if s.gait.job = 1 then setJob 2 s else s
  | some 3 => abortPasses L s
  | _ => s

/-- R65: the line of a commit passes the datum: it is pending no longer. Objects that act at the datum take effect. -/
def passCommit (g : BitVec 32) (s : State) : State :=
  match s.proto.commits.find? (fun c => c.gen == g && !c.passed) with
  | none => s
  | some c =>
    let s := { s with proto := { s.proto with commits := s.proto.commits.map (fun x => if x.gen = g then { x with passed := true } else x) } }
    let s := passAction (jobAction c) c.line s
    let s := camerasChanged c (forAll (trigsOf c) trigChanged s)
    let s := forAll c.writes (fun w s => noteStored w.idx s) s
    if c.writes.any (fun w => w.idx == 0x4050) then limitChanged s else s

/-- R63, R65: every commit whose line W has reached passes, in generation order. -/
def passCommits (s : State) : State :=
  forAll (((pendingCommits s).filter (fun c => decide (c.line ≤ lineOf s.gait.w))).map (·.gen)) passCommit s

/-! ### Device commits (R303, R307) -/

/-- R303: a session holds a claim on the nozzle stage window. -/
def claimed (s : State) (i : Nat) : Bool :=
  s.proto.claims.any (fun c => decide (c.first ≤ i) && decide (i < c.first + c.count) && decide (s.time.now < c.expires))

/-- A change that a source may make now (R303, R306, R432). No source changes an entry under a claim, but the head conditions (code 4) are no
source's (R306); the gate of SOURCE is `onlyIf`, which the defaults of a new head do not have (R314). -/
def changeAllowed (s : State) (source : Nat) (bar : Option Nat) (n : NozChange) : Bool :=
  (source == 4 || !claimed s 0x6013) && match n.fields.onlyIf with
  | none => true
  | some k =>
    let d := nozPend s n.channel
    decide (k ≤ d.source) &&
      (match bar.bind (fun j => s.loop.bars.find? (fun b => b.j == j)) with
       | some b => !(s.proto.commits.any (fun c => decide (b.gen.toNat < c.gen.toNat) && c.nozzles.any (fun x => changeCovers x n.channel)))
       | none => true)

/-- A delay correction that the loop may write (R432): not over a newer correction, or a newer offset of the row (R436). -/
def writeAllowed (s : State) (bar : Option Nat) (w : ObjWrite) : Bool :=
  !claimed s 0x7016 && !bitOn (cfg s 0x6053 0) w.sub &&
    (match bar.bind (fun j => s.loop.bars.find? (fun b => b.j == j)) with
     | some b => !(s.proto.commits.any (fun c => decide (b.gen.toNat < c.gen.toNat) && c.writes.any (fun x => [w.idx, 0x7003, 0x7007].contains x.idx && x.sub == w.sub)))
     | none => true)

/-- R439: DETAIL of a loop event. -/
def loopDetail (plane reason row : Nat) (v : Int) : BitVec 96 := detail plane reason (row * 256) v

/-- R438: DEAD, REVIVED, CURVES and ROWS of the changes that a bar makes. -/
def withChanges (s : State) (noz : List NozChange) (ws : List ObjWrite) (x : LastBar) : LastBar :=
  { x with dead := (noz.filter (fun n => n.fields.base == some 2)).length
           revived := (noz.filter (fun n => n.fields.base == some 0 && (nozPend s n.channel).base == 2)).length
           curves := (noz.filter (fun n => n.fields.curve.isSome)).length
           rows := ws.foldl (fun a w => a + (((Val.elems w.val).zip (Val.elems (pendVal s w.idx w.sub).1)).filter (fun v => v.1 != v.2)).length) 0 }

/-- R433, R438: a bar's commit is accepted or discarded; the bar is settled. -/
def settleBar (j outcome reason : Nat) (gen : BitVec 32) (withheld : Nat) (code : Nat) (line : Int) (s : State) : State :=
  let last := if s.loop.last.bar = j then
      { s.loop.last with outcome := outcome, reason := reason, gen := gen, withheld := s.loop.last.withheld + withheld }
    else s.loop.last
  let s := { s with loop := { s.loop with last := last, outstanding := none, bars := s.loop.bars.filter (fun b => b.j != j) } }
  let v : Int := if reason = 6 then code else gen.toNat
  mirror (.loop ⟨s.loop.j, none⟩) (ev 0x6021 (loopDetail 0xFF reason 0xFF v) s (line := atLine line))

/-- R433: the bar that is outstanding is discarded: 7 at a sleep, 8 when the job reaches IDLE. -/
def discardBar (reason : Nat) (s : State) : State :=
  match s.loop.outstanding with
  | none => s
  | some j =>
    let first := ((s.loop.bars.find? (fun b => b.j == j)).map (·.first)).getD s.loop.last.first
    let s := { s with proto := { s.proto with waiting := s.proto.waiting.filter (fun d => d.bar.isNone) } }
    settleBar j 3 reason 0 0 0 first s

/-- R307: the change can be accepted now: a place among the 16, and a page boundary where it needs one. -/
def changeReady (s : State) (d : DevChange) : Bool :=
  decide ((pendingCommits s).length < 16) && (!d.atPage || (targetLine s d.writes 1 0).isSome)

/-- R303, R307, R432: the device commits one change: what its source may not change is dropped and counted; the rest is judged and accepted. -/
def commitChange (d : DevChange) (s : State) : State :=
  let s := { s with proto := { s.proto with waiting := s.proto.waiting.erase d } }
  let mine := d.nozzles.filter (fun n => match n.fields.onlyAt with | some k => (nozPend s n.channel).source == k | none => true)
  let noz := mine.filter (changeAllowed s d.source d.bar)
  let moved := match d.bar.bind (fun j => s.loop.bars.find? (fun b => b.j == j)) with | some b => b.regPlane != cfgN s 0x604F 0 | none => false
  let asked := if moved then [] else d.writes
  let ws := if d.bar.isSome then asked.filter (writeAllowed s d.bar) else asked
  let out := mine.filter (fun n => !changeAllowed s d.source d.bar n)
  let lost := out.foldl (fun a n => a + n.count) 0
  let lostW := asked.length - ws.length
  let s := dropSource d.source (out.head?.map (·.channel)) (lost + lostW) s
  let L := (targetLine s ws (if d.atPage then 1 else 2) 0).getD (earliestLine s ws)
  let s := forAll (noz.filter (fun n => n.fields.inhThermal == some false)) (fun n s =>
    let h := chanHead n.channel
    ev 0x7003 (headDetail h 0 0xFF (s.head h).temp) s (line := atLine L)) s
  let s := match d.newHead with
    | some h => { s with noz := { s.noz with newHead := tput false s.noz.newHead h false } }
    | none => s
  let code := if d.source = 4 then 1 else d.source
  let c := commitOf s L ws noz true code (ownNode s) (if d.atPage then 1 else 2)
  if noz.isEmpty ∧ ws.isEmpty then
    match d.bar with
    | some j => settleBar j 0 0 s.proto.gen (lost + lostW) 0 L s
    | none => s
  else if d.bar.isSome ∧ !(failures s c ws).isEmpty then
    settleBar (d.bar.getD 0) 3 6 0 (lost + lostW) 0x0405 (((s.loop.bars.find? (fun b => some b.j == d.bar)).map (·.first)).getD L) s
  else
    let s := if d.bar.isSome then { s with loop := { s.loop with last := withChanges s noz ws s.loop.last } } else s
    let s := acceptCommit c ws s
    match d.bar with
    | some j => settleBar j 0 0 c.gen (lost + lostW) 0 L s
    | none => s

/-- DEVICE_COMMIT (R307): the oldest change that can be accepted. -/
def deviceCommitStep (s : State) : State :=
  if !holdsLead s then s
  else match s.proto.waiting.find? (changeReady s) with
    | some d => commitChange d s
    | none => s

def execDeviceCommit (dt : Nat) (s : State) : Host.Outcome State Fault Refusal := ok (deviceCommitStep (tick dt s))

/-! ### The ends of pages and jobs (R122, R126) -/

/-- Every active row has passed line `L` (without rows: W has). -/
def rowsPassed (s : State) (L : Int) : Bool :=
  let rows := activeRows (envNow s)
  if rows.isEmpty then decide (L * oneLine ≤ s.gait.w) else rows.all (fun u => decide (L < rowNext s u))

/-- R126: the most downstream head row at line `L` has passed it (without rows: W has). -/
def lastRowPassed (s : State) (L : Int) : Bool :=
  let e := envAt s L
  let rows := activeRows e
  let far := maxOf (rows.map (unitOffset e))
  if rows.isEmpty then decide (L * oneLine ≤ s.gait.w) else (rows.filter (fun u => unitOffset e u == far)).all (fun u => decide (L < rowNext s u))

/-- R126, R398: every camera sensor of a port in test-bar mode has passed line `L`: W has reached it, and the port has no line trigger left at or
below it. -/
def barCamerasPassed (s : State) (L : Int) : Bool :=
  let e := envNow s
  (barPorts e).all (fun c => (portSensors e c).all (fun n =>
    let x := L * oneLine + ofLpos (e.int 0x4041 (n + 1))
    decide (x ≤ s.gait.w) && (match camDue s c with | some d => decide (x < d.pos) | none => true)))

/-- R126: LINE.PAGE_DONE, and the records that leave the queue. -/
def checkPages (s : State) : State :=
  let due := s.gait.pages.filter (fun p => !p.done && lastRowPassed s (p.first + p.lines - 1))
  let s := forAll due (fun p s =>
    let s := { s with gait := { s.gait with lastComplete := p.page, pages := s.gait.pages.map (fun q => if q.page = p.page ∧ q.first = p.first then { q with done := true } else q) } }
    mirrorLogs (ev 0x4016 (lineDetail 0 p.page.toNat) s (line := atLine (p.first + p.lines - 1)))) s
  let gone := s.gait.pages.filter (fun p => p.done &&
    (p.gap == 0 || (lastRowPassed s (p.first + p.lines + p.gap - 1) && barCamerasPassed s (p.first + p.lines + p.gap - 1))))
  forAll gone (fun p s => releasePage p.page { s with gait := { s.gait with pages := s.gait.pages.filter (fun q => q.first != p.first) } }) s

/-- R122: a drain ends when every row has passed the last page and its gap; an abort when every row has passed its line. -/
def checkJob (s : State) : State :=
  match s.gait.abortAt with
  | some L =>
    if rowsPassed s L ∧ L ≤ lineOf s.gait.w then
      discardBar 8 (setJob 0 { s with gait := { s.gait with abortAt := none } })
    else s
  | none =>
    if s.gait.job = 2 ∧ s.gait.pages.all (fun p => rowsPassed s (p.first + p.lines + p.gap - 1)) then discardBar 8 (setJob 0 s) else s

/-! ### COMMIT_NOTICE (R65) -/

/-- COMMIT_NOTICE: every subscriber receives a notice of the oldest generation whose line has passed. -/
def commitNoticeStep (s : State) : State :=
  match s.proto.commits.find? (fun c => c.passed && !c.noticed) with
  | none => s
  | some c =>
    let s := { s with proto := { s.proto with commits := s.proto.commits.map (fun x => if x.gen = c.gen then { x with noticed := true } else x) } }
    let r : EventRec := { typ := 3, sev := 0, code := 0, rseq := 0, gen := c.gen, unit := 0, lpos := c.line * oneLine, time := devTime s
                          handle := 0, count := 0, detail := 0 }
    broadcast r s

def execCommitNotice (dt : Nat) (s : State) : Host.Outcome State Fault Refusal := ok (commitNoticeStep (tick dt s))

end Sys2Proof.Machine
end

