-- ==== Sys2Proof/Machine/Rein.lean ====
section
/-! DEFINITION. Rein-back (R377 to R391): start and held rows, the sequence of R382, what ends it early (R387), and the steps of its
timers. -/

namespace Sys2Proof.Machine

/-- R384: line `L` of head `h` can be fired: its dots are released, or R125 makes it blank. -/
def lineReady (s : State) (h : Nat) (L : Int) : Bool :=
  dotsReady s h L || (match planeOf (envAt s L) h with
    | some p => (match lineKind s p L with | .blank => true | _ => false)
    | none => true)

/-- R384: the `Rein.ReadyLines` lines from the row's next line on are released. -/
def linesReady (s : State) (u : Nat) : Bool :=
  let n := rowNext s u
  (List.range (cfgN s 0x4088 0)).all (fun i => lineReady s (u / 2) (n + i))

/-- R384: a held row is ready. -/
def rowReady (s : State) (u : Nat) : Bool :=
  let h := u / 2
  match (s.row u).heldCause with
  | 1 => linesReady s u
  | 2 => (s.head h).thermal != 2 && linesReady s u
  | 3 => (s.lane h).state == 6 && linesReady s u
  | _ => true

def allReady (s : State) : Bool := (heldRows s).all (rowReady s)

/-- R378: a row joins the held set at line `L`. -/
def holdRow (u : Nat) (L : Int) (cause : Nat) (s : State) : State :=
  if (s.row u).held then s
  else
    let s := s.setRow u { s.row u with held := true, heldCause := cause, heldLine := L, heldLogged := L, pred := none }
    let s := if L < s.rein.first then { s with rein := { s.rein with first := L, cause := cause } } else s
    updateSplice (fun x => { x with first := s.rein.first, cause := s.rein.cause, held := (heldRows s).length }) s

/-- R377: rein-backs started within the last 60 s. -/
def recentStarts (s : State) : List Nat := s.rein.starts.filter (fun t => decide (s.time.now < t + 60 * sec))

/-- R377: why a rein-back is refused; 0 when it is admitted. -/
def reinRefusal (s : State) (L : Int) (cause : Nat) : Nat :=
  if cause = 5 then 10
  else if s.gait.job ≠ 1 ∧ s.gait.job ≠ 2 then 11
  else if s.axis.state ≠ 1 then 12
  else if cfgN s 0x4089 0 ≤ (recentStarts s).length then 8
  else 0

/-- R382 step 1: a rein-back starts with the line; rows of a running one that have not resumed are carried (R390). -/
def reinBegin (u : Nat) (L : Int) (cause : Nat) (s : State) : State :=
  let carried := (List.range 128).filter (fun v => !(s.row v).resumed)
  let s := forAll carried (fun v s => s.setRow v { s.row v with held := true, resumed := true, pred := none }) s
  let first := minOf (L :: carried.map (rowNext s))
  let cause' := if first = L then cause else ((carried.find? (fun v => rowNext s v == first)).map (fun v => (s.row v).heldCause)).getD cause
  let s := { s with rein := { s.rein with state := 1, count := s.rein.count + 1, starts := s.time.now :: recentStarts s, cause := cause'
                                          first := first, skipped := 0, part := false, runRaised := false, stopAt := s.time.now }
                    faults := { s.faults with stopRein := true } }
  let s := lifeEvent 2 s
  let s := { s with rein := { s.rein with splices := (⟨s.rein.count.toNat % 256, 0, 0, cause', first, 0, 0, carried.length⟩ :: s.rein.splices).take 8 } }
  let s := ev 0x4020 (reinDetail s 0 1 (lposOf (lpos s))) s (line := atLine first)
  mirrorLogs (mirrorRein (holdRow u L cause s))

/-- R378: the lines that held rows have passed enter the defect log with ACTION 2. -/
def passHeld (s : State) : State :=
  forAll (heldRows s) (fun u s =>
    let r := s.row u
    let last := lineAt s u s.gait.w
    let s := forAll (List.range (last - r.heldLogged).toNat) (fun i s => logLateLine (u / 2) (r.heldLogged + 1 + i) r.heldCause 2 s) s
    s.setRow u { s.row u with heldLogged := max r.heldLogged last }) s

/-- R382 step 4: the web stands at or below T. -/
def reinWait (s : State) : State := mirrorRein { s with rein := { s.rein with state := 3 } }

/-- R383: T over the held rows; the position of the stop when none is left. -/
def reinTarget (s : State) : Int :=
  let f := (heldRows s).map (fun u => firePos s u (rowNext s u))
  if f.isEmpty then lpos s else minOf f - cfg s 0x4082 0 * oneLine

/-- R98: from the start of a reverse step on, REVERSE waits until the counter regains its highest value. -/
def muteReverse (s : State) : State := forAll (List.range 4) (fun c s => s.setChan c { s.chan c with reverseMute := true }) s

/-- R382 step 3, R383: the axis has stopped: T is formed, and the press is asked to run back. -/
def reinReverse (s : State) : State :=
  let s := cutFrames (fun _ => true) s
  let ps := lpos s
  let t := reinTarget s
  let s := { s with rein := { s.rein with state := 2, ps := ps, target := t, revAt := s.time.now, holdAt := s.time.now
                                          lowCount := countOf (srcChan s) } }
  let s := muteReverse (updateSplice (fun x => { x with high := ps, target := t }) s)
  if cfg s 0x4083 0 * oneLine < ps - t then reinAbandon 3 s
  else
    let s := ev 0x4021 (reinDetail s 0 3 (lposOf (max 0 (ps - t)))) s (line := some t)
    let s := mirrorRein { s with faults := { s.faults with stopRein := false } }
    if ps ≤ t then reinWait s else s

/-- R377, R378, R390: a line of row `u` is late by `cause` and asks for rein-back, or one runs. The answer says whether the row is
held. -/
def reinLate (u : Nat) (L : Int) (cause : Nat) (s : State) : Bool × State :=
  if s.rein.state ≠ 0 ∧ s.rein.state ≠ 4 then
    if cause = 5 then (false, s) else (true, mirrorRein (holdRow u L cause s))
  else if isWheeler s then (false, s)
  else
    let why := reinRefusal s L cause
    if why = 0 then
      let s := reinBegin u L cause s
      (true, if s.axis.stopped then reinReverse s else s)
    else if s.rein.state = 4 ∧ cause = 5 then (false, s)
    else
      let d := detail (s.rein.count.toNat % 256) why (cause * 256 + 1) 0
      (false, ev 0x4024 d s (line := atLine L))

/-- R382: the axis is declared stopped. -/
def reinStopped (s : State) : State :=
  if isWheeler s then s
  else if s.rein.state = 1 then reinReverse s
  else if s.rein.state = 2 ∧ lpos s ≤ s.rein.target then reinWait s
  else s

/-- The position at the lowest count since the reverse step began. -/
def lowPos (s : State) : Int := (srcChan s).base.p0 + countDiff s.rein.lowCount (srcChan s).base.c0 * (srcChan s).gear

/-- R387, R390: the source has moved to another channel: the lowest position so far stays, as a count of that channel. -/
def moveLow (low : Int) (s : State) : State :=
  let c := srcChan s
  { s with rein := { s.rein with lowCount := c.base.c0 + (low - c.base.p0) / max 1 c.gear } }

/-- R390: step 6 ends at an edge of the source that is still to come in this tick: a refusal by the press then comes too late. -/
def reinEndsNow (s : State) : Bool :=
  let c := srcChan s
  s.rein.state == 4 && (List.range 128).all (fun u => (s.row u).resumed) &&
    decide (s.rein.wOld.getD s.gait.w ≤ c.base.p0 + countDiff (countOf c + 1) c.base.c0 * c.gear)

/-- R378, R387: what a rein-back does at a count edge of the source. -/
def reinEdge (s : State) : State :=
  let s := if s.rein.state = 0 then s else passHeld s
  if s.rein.state ≠ 2 ∨ isWheeler s then s
  else
    let c := countOf (srcChan s)
    if countDiff c s.rein.lowCount < 0 then { s with rein := { s.rein with lowCount := c } }
    else if s.rein.target < lowPos s ∧ cfg s 0x4024 0 < countDiff c s.rein.lowCount then reinAbandon 2 s
    else s

/-- R385: the unit marks of the cameras fall to the sensor position of the line below FIRST. -/
def lowerCameras (first : Int) (s : State) : State :=
  let e := envAt s first
  forAll (List.range 4) (fun c s =>
    match portSensors e c with
    | [] => s
    | n :: r =>
      let off := minOf ((n :: r).map (fun k => ofLpos (e.int 0x4041 (k + 1))))
      s.setCamPort c { s.camPort c with mark := some ((first - 1) * oneLine + off), frameF := none, m := 0, frameTrig := false, rearmed := true }) s

/-- R382 step 5, R385: the re-arm. -/
def reinRearm (s : State) : State :=
  let w := max s.gait.w (s.rein.wOld.getD s.gait.w)
  let low := minOf ((heldRows s).map (fun u => firePos s u (rowNext s u)))
  let low := if (heldRows s).isEmpty then lpos s else low
  let s := { s with gait := { s.gait with w := lpos s }
                    rein := { s.rein with state := 4, wOld := some w, runAt := s.time.now, runRaised := false, lowCount := countOf (srcChan s) } }
  let s := lowerCameras s.rein.first s
  let s := forAll (heldRows s) (fun u s => s.setRow u { s.row u with held := false, resumed := false, pred := none }) s
  let s := updateSplice (fun x => { x with high := w }) s
  let s := ev 0x4022 (reinDetail s 0 5 (speedLimit s).1) s (line := some low)
  mirrorAxis (mirrorRein s)

/-- R387: the reverse timeout: abandoned while the web moves or no row can be restored; otherwise complete, or partial. -/
def reinReverseEnd (s : State) : State :=
  if !s.axis.stopped then reinAbandon 7 s
  else if lpos s ≤ s.rein.target then reinWait s
  else
    let edge := lpos s + cfg s 0x4082 0 * oneLine
    let out := (heldRows s).filter (fun u => decide (firePos s u (rowNext s u) < edge))
    if out.length = (heldRows s).length then reinAbandon 7 s
    else
      let s := forAll out (skipRow true) s
      let s := { s with rein := { s.rein with part := true } }
      reinWait (updateSplice (fun x => { x with held := (heldRows s).length }) s)

/-! ### The steps of the sequence -/

/-- A timer of `n` ms that started at `t` has run out. -/
def expired (s : State) (t n : Nat) : Bool := decide (t + n * ms ≤ s.time.now)

def execReinStopTimeout (dt : Nat) (s : State) : Host.Outcome State Fault Refusal :=
  let s := tick dt s
  guardOk (s.rein.state == 1 && !isWheeler s && expired s s.rein.stopAt (cfgN s 0x4084 0)) (reinAbandon 1) s

def execReinReverseTimeout (dt : Nat) (s : State) : Host.Outcome State Fault Refusal :=
  let s := tick dt s
  guardOk (s.rein.state == 2 && !isWheeler s && expired s s.rein.revAt (cfgN s 0x4085 0)) reinReverseEnd s

def execReinHoldTimeout (dt : Nat) (s : State) : Host.Outcome State Fault Refusal :=
  let s := tick dt s
  guardOk ((s.rein.state == 2 || s.rein.state == 3) && !isWheeler s && expired s s.rein.holdAt (cfgN s 0x4086 0) && !allReady s) (reinAbandon 4) s

/-- R382 step 6: raised once; the device keeps waiting. -/
def reinLateRun (s : State) : State :=
  ev 0x4025 (reinDetail s 1 6 ((s.time.now - s.rein.runAt) / ms : Nat)) { s with rein := { s.rein with runRaised := true } } (line := atLine (datumLine s))

def execReinRunTimeout (dt : Nat) (s : State) : Host.Outcome State Fault Refusal :=
  let s := tick dt s
  guardOk (s.rein.state == 4 && !isWheeler s && !s.rein.runRaised && expired s s.rein.runAt (cfgN s 0x4087 0) &&
    decide (countDiff (countOf (srcChan s)) s.rein.lowCount ≤ 0)) reinLateRun s

def execRearm (dt : Nat) (s : State) : Host.Outcome State Fault Refusal :=
  let s := tick dt s
  guardOk (s.rein.state == 3 && !isWheeler s && s.axis.stopped && allReady s) reinRearm s

end Sys2Proof.Machine
end

