-- ==== Sys2Proof/Machine/Axis.lean ====
section
/-! DEFINITION. The line axis (R73 to R109): count edges, wire faults, the index, the gear, the backup channel, the preset and loss
of position. -/

namespace Sys2Proof.Machine

/-- R79: the filter length N of a channel, in samples of 2.5 ns. -/
def filterLen (s : State) (ch : Nat) : Nat := bits (cfg s 0x4020 ch) 16 8 + 1

/-- R83: time from an edge to the arrival of its record: N × 2.5 ns + 40 ns. -/
def recordDelay (s : State) (ch : Nat) : Nat := filterLen s ch * 2500 + 40000

/-- R83: the stamp of the sample whose record arrives now. -/
def stampNow (s : State) (ch : Nat) : Nat := s.time.now - recordDelay s ch

/-- R105, R106: the encoder sample clock runs and its records arrive. -/
def samplesRun (s : State) : Bool := !s.axis.supervisorLost && s.power.state ≤ 2 && !s.power.down

def indexMode (s : State) (ch : Nat) : Nat := bits (cfg s 0x4020 ch) 10 2

/-- Counts of one lifetime element of a channel (R558 B066h). -/
def lifeEnc (ch k : Nat) (s : State) : State :=
  { s with faults := { s.faults with life := { s.faults.life with enc := satAdd 32 s.faults.life.enc (4 * ch + k) 1 } } }

/-- Set a status flag of a channel (R85) and raise its event with the flag's occurrence count. -/
def encFlag (ch b code pair : Nat) (v : Int) (s : State) : State :=
  let c := s.chan ch
  let s := s.setChan ch { c with status := c.status.set s.time.now b }
  ev code (axisDetail ch pair v) s (count := (s.chan ch).status.count b) (unit := if code = 0x4004 then unitDie 1 else 0)

/-! ### Conversion of counts (R89, R92, R93) -/

/-- Position of a channel at its present count, without extrapolation. -/
def countPos (c : EncChan) : Int := c.base.p0 + countDiff (countOf c) c.base.c0 * c.gear

/-- R92: put a channel's base pair at a position. -/
def rebase (ch : Nat) (x : Int) (s : State) : State :=
  let c := s.chan ch
  s.setChan ch { c with base := ⟨x, countOf c⟩ }

/-- R92: a channel's conversion set anew at its present count so that its position is `x` at elapsed time `t`. -/
def placedAt (c : EncChan) (x : Int) (t : Nat) : EncChan :=
  let c := { c with base := ⟨0, countOf c⟩ }
  { c with base := ⟨x - chanPos c t, countOf c⟩ }

/-- R91: object of the gear of channel 0 or 1. -/
def gearIdx (ch : Nat) : Nat := 0x4010 + ch

/-- R93: the gear that governs a line at a channel. -/
def gearAt (s : State) (ch : Nat) (L : Int) : Nat :=
  if ch ≤ 1 then (at' s L (gearIdx ch) 0).toNat else cfgN s 0x4012 ch

/-- R89: a part of a correction enters at an edge of the channel; the last part carries the remainder. -/
def spreadStep (c : EncChan) : EncChan :=
  if c.spread.left = 0 then c
  else
    let amt := if c.spread.left = 1 then c.spread.rest else c.spread.part
    { c with base := { c.base with p0 := c.base.p0 + amt }
             spread := { c.spread with rest := c.spread.rest - amt, left := c.spread.left - 1 } }

/-- R89, R104: a correction joins what is left of an earlier one, and the sum is spread over the next 64 edges. -/
def spreadAdd (c : EncChan) (x : Int) : EncChan :=
  let t := c.spread.rest + x
  { c with spread := ⟨t, t / 64, 64⟩ }

/-- R93: gears whose line the position under the old gear has reached take effect. -/
def gearStep (ch : Nat) (s : State) : State :=
  let c := s.chan ch
  let x := countPos c
  let due := s.proto.commits.filter (fun k => (writeOf k.writes (gearIdx ch) 0).isSome && decide (k.line * oneLine ≤ x) &&
    (match c.gearTo with | some g => decide (g < k.line) | none => true))
  if ch > 1 ∨ due.isEmpty then s
  else
    let L := maxOf (due.map (·.line))
    s.setChan ch { c with base := ⟨x, countOf c⟩, gear := gearAt s ch L, gearTo := some L }

/-- R92: the base pair moves before the modular difference is lost. -/
def wrapStep (ch : Nat) (s : State) : State :=
  let c := s.chan ch
  if (2 : Int) ^ 46 ≤ countDiff (countOf c) c.base.c0 ∨ countDiff (countOf c) c.base.c0 ≤ -((2 : Int) ^ 46) then rebase ch (countPos c) s else s

/-- R88, R89: the counter moves by `d` and the conversion with it, so that the position does not move. -/
def shiftCount (ch : Nat) (d : Int) (s : State) : State :=
  let c := s.chan ch
  let mv := fun (p : Option EdgePair) => p.map (fun k => { k with c := k.c + d })
  let mb := fun (m : BadMark) => { m with last := mv m.last, prev := mv m.prev }
  s.setChan ch { c with count := c.count + BitVec.ofInt 48 d, last := mv c.last, prev := mv c.prev, highest := c.highest + d
                        base := { c.base with c0 := c.base.c0 + d }, illegal := c.illegal.map mb, episodes := c.episodes.map mb }

/-! ### The backup channel (R99 to R101) -/

/-- R99: ENC_1 is in use as a shadow. -/
def shadowing (s : State) : Bool := s.axis.source == 0 && encEnabled s 1 && !(s.chan 1).faulty

/-- R99: ENC_1 is ready for changeover. -/
def backupReady (s : State) : Bool :=
  let c := s.chan 1
  encEnabled s 1 && !c.faulty && c.aligned && c.agreed && !c.status.on encPolarity

/-- R99: an alignment of the shadow to LPOS: D is added, and judged against `Axis.BackupAgree`. -/
def alignShadow (s : State) : State :=
  if !shadowing s then s
  else
    let c := s.chan 1
    let d := lpos s - chanPos c s.time.now
    let good := decide (d.natAbs ≤ cfgN s 0x402A 0 * 65536)
    let s := s.setChan 1 { c with base := { c.base with p0 := c.base.p0 + d }, aligned := true, agreed := good }
    let s := s.setChan 0 { s.chan 0 with sinceAlign := 0 }
    if good then s else ev 0x400A (axisDetail 1 0xFF (lposOf d)) s

/-- R99: a preset aligns the shadow at once. -/
def presetShadow (s : State) : State :=
  if !shadowing s then s
  else
    let c := s.chan 1
    let L := datumLine s
    s.setChan 1 { c with base := ⟨lpos s, countOf c⟩, gear := gearAt s 1 L, gearTo := some L, spread := {}, aligned := true, agreed := true }

/-- R101: the base pair moves to channel `ch`: LPOS continues where it stands, and with `follow` the step to that channel's own
position is spread over 64 of its counts. The rest of an earlier correction is dropped (R104). -/
def changeover (ch : Nat) (follow : Bool) (s : State) : State :=
  let x := lpos s
  let c := s.chan ch
  let L := datumLine s
  let own := chanPos c s.time.now
  let step := if follow then own - x else 0
  let c := if follow then spreadAdd { c with base := { c.base with p0 := c.base.p0 - step }, spread := {} } step
    else placedAt { c with gear := gearAt s ch L, gearTo := some L, spread := {} } x s.time.now
  let low := lowPos s
  let s := s.setChan ch c
  let s := { s with axis := { s.axis with source := ch, confidence := false } }
  let s := if s.rein.state = 0 then s else moveLow low s
  mirrorAxis (ev 0x4005 (axisDetail ch 0xFF (lposOf step)) s) 1

/-! ### Faulty channels (R76, R82, R100 to R102) -/

/-- The pairs of a channel recorded before a time. -/
def markBefore (c : EncChan) (t now : Nat) : BadMark :=
  let prev := if 2 ≤ c.sinceStop then c.prev else none
  match c.last with
  | some k => if k.t < t then ⟨now, c.last, prev⟩ else ⟨now, c.prev, none⟩
  | none => ⟨now, none, none⟩

/-- The commands still to come at this very instant. -/
def sameInstant : List Instr → List Instr
  | [] => []
  | i :: r => if instrTime i = 0 then i :: sameInstant r else []

/-- R104: ENC_1 is declared faulty in the same sample, by a row still to come: a wire-disagree episode that reaches 1 µs, or the seventeenth
illegal transition or episode of its window. -/
def backupFails (s : State) : Bool :=
  let c := s.chan 1
  let many := fun (l : List BadMark) => decide (16 ≤ (l.filter (fun x => decide (s.time.now < x.t + 10 * ms))).length)
  let watched := encEnabled s 1 && bitOn (cfg s 0x4020 1) 1
  (sameInstant s.pending).any (fun i => match i with
    | .countEdge _ ch a b => ch.val == 1 && a != c.a && b != c.b && many c.illegal
    | .wireEpisode1us _ ch p => ch.val == 1 && decide (p.val < 2) && watched && (tget {} c.pairs p).over50 && !(tget {} c.pairs p).over1us
    | .wireEpisode50ns _ ch p => ch.val == 1 && decide (p.val < 2) && watched && !(tget {} c.pairs p).over50 && many c.episodes
    | _ => false)

/-- R101, R102: what a faulty source does to position. -/
def sourceFaulty (s : State) : State :=
  let mode := cfgN s 0x4026 0
  let can := !backupFails s && mode == 1 && s.axis.source == 0 && encEnabled s 1 && !(s.chan 1).faulty && !(s.chan 1).status.on encPolarity
  let took := fun (s : State) => addFault 0x4004 1 5 (unitDie 1) s
  if isWheeler s then holdWheeler 7 s
  else match s.axis.state with
  | 0 => if can then took (changeover 1 false s) else s
  | 1 =>
    if can && backupReady s then took (changeover 1 true s)
    else lostPosition (if mode = 1 ∧ s.axis.source = 0 then 2 else 1) s
  | _ => s

/-- R100, R101: a channel is declared faulty: 1 illegal transitions, 2 wire-disagree. Its position follows the pairs of the mark. -/
def declareFaulty (ch cause : Nat) (m : BadMark) (s : State) : State :=
  let c := s.chan ch
  if c.faulty then s
  else
    let good := m.last.getD ⟨countOf c, s.time.now⟩
    let s := s.setChan ch { c with goodLast := some good, goodPrev := m.prev }
    let s := lifeEnc ch 0 (encFlag ch encFaulty 0x4004 0xFF cause s)
    if ch = s.axis.source then sourceFaulty s else s

/-- The occurrences of a window of 10 ms, newest first, with the new one. -/
def window10 (l : List BadMark) (m : BadMark) : List BadMark := (m :: l).filter (fun x => decide (m.t < x.t + 10 * ms))

/-! ### Count edges (R80 to R83, R96 to R98) -/

/-- R81: the step of a legal transition: A leading B counts up with DIR 0. -/
def quadStep (s : State) (ch : Nat) (c : EncChan) (a b : Bool) : Int :=
  let up : Bool := if a != c.a then a != b else a == b
  let up := if bitOn (cfg s 0x4020 ch) 8 then !up else up
  if up then 1 else -1

/-- R80: two edges of one signal closer than 2 N samples. -/
def overspeed (ch : Nat) (old : Option Nat) (t : Nat) (s : State) : State :=
  match old with
  | some e =>
    if t - e < 2 * filterLen s ch * 2500 then
      let s := encFlag ch encOverspeed 0x400B 0xFF ((t - e) / 1000 : Nat) s
      { s with axis := { s.axis with confidence := false } }
    else s
  | none => s

/-- R97: the residual of an edge in 1/65,536 line: the unclamped extrapolation against the new count. -/
def residualStep (ch : Nat) (dc : Int) (t : Nat) (s : State) : State :=
  let c := s.chan ch
  match c.last, c.prev with
  | some k, some k1 =>
    let d : Int := k.t - k1.t
    if s.axis.stopped ∨ c.sinceStop < 2 ∨ d ≤ 0 ∨ c.faulty then s
    else
      let r := (dc * d - countDiff k.c k1.c * (t - k.t : Int)).natAbs * c.gear / (d.toNat * 65536)
      let l := ((t, (r : Int)) :: (c.residuals.filter (fun x => decide (t < x.1 + sec)))).take 65536
      let s := s.setChan ch { c with residuals := l }
      let top := maxOf (l.map (·.2))
      let due : Bool := match s.axis.residualRaised with | some x => decide (x + sec ≤ s.time.now) | none => true
      if cfg s 0x402B 0 < top ∧ due then
        ev 0x4009 (axisDetail ch 0xFF top) { s with axis := { s.axis with residualRaised := some s.time.now } }
      else s
  | _, _ => s

/-- R98: reverse travel beyond the window. -/
def reverseStep (ch : Nat) (s : State) : State :=
  let c := s.chan ch
  let below := countDiff c.highest (countOf c)
  if below ≤ 0 then s.setChan ch { c with highest := countOf c, reversed := false, reverseMute := false }
  else if cfg s 0x4024 0 < below ∧ !c.reversed ∧ !c.reverseMute then
    encFlag ch encReverse 0x4007 0xFF below (s.setChan ch { c with reversed := true })
  else s

/-- R77: A or B reversed: backward counting beyond `Axis.DirectionCheck` without a break. -/
def directionStep (ch : Nat) (dc : Int) (s : State) : State :=
  let c := s.chan ch
  if 0 < dc ∨ s.rein.state = 2 then s.setChan ch { c with backRun := 0, backRaised := false }
  else
    let run := c.backRun + dc.natAbs
    let s := s.setChan ch { c with backRun := run }
    if cfgN s 0x402C 0 < run ∧ !c.backRaised then
      let s := encFlag ch encPolarity 0x4002 0xFF run (s.setChan ch { s.chan ch with backRaised := true })
      let c := s.chan ch
      if c.reversed ∨ c.reverseMute then s
      else encFlag ch encReverse 0x4007 0xFF (countDiff c.highest (countOf c)) (s.setChan ch { c with reversed := true })
    else s

/-- R100: a faulty channel's counts drive nothing: its travel is followed, and nothing is raised from it. -/
def travelStep (ch : Nat) (dc : Int) (s : State) : State :=
  let c := s.chan ch
  if c.faulty then
    s.setChan ch { c with backRun := 0, highest := if countDiff c.highest (countOf c) ≤ 0 then countOf c else c.highest }
  else directionStep ch dc (reverseStep ch s)

/-- R77: ENC_1 against ENC_0: a run of ENC_0 counts in one direction during which every ENC_1 count goes the other way. -/
def oppositeStep (ch : Nat) (dc : Int) (s : State) : State :=
  let c := s.chan 1
  if (s.chan 0).faulty ∨ c.faulty then s.setChan 1 { c with oppRun := 0, oppSeen := false }
  else if ch = 0 then
    let up := decide (0 < dc)
    if c.oppDir != up then s.setChan 1 { c with oppDir := up, oppRun := dc.natAbs, oppSeen := false, oppRaised := false }
    else
      let c := { c with oppRun := c.oppRun + dc.natAbs }
      let s := s.setChan 1 c
      if c.oppSeen ∧ 64 < c.oppRun ∧ !c.oppRaised ∧ encEnabled s 1 then
        encFlag 1 encPolarity 0x4002 0xFF c.oppRun (s.setChan 1 { c with oppRaised := true })
      else s
  else if ch = 1 then
    if decide (0 < dc) = c.oppDir then s.setChan 1 { c with oppRun := 0, oppSeen := false, oppRaised := false }
    else s.setChan 1 { c with oppSeen := true }
  else s

/-- R99: without an index, ENC_0 aligns the shadow every 65,536 counts. -/
def alignStep (ch : Nat) (dc : Int) (s : State) : State :=
  if ch ≠ 0 ∨ indexMode s 0 ≠ 0 ∨ s.axis.source ≠ 0 ∨ (s.chan 0).faulty then s
  else
    let c := s.chan 0
    let n := c.sinceAlign + dc.natAbs
    let s := s.setChan 0 { c with sinceAlign := n }
    if 65536 ≤ n then alignShadow (s.setChan 0 { s.chan 0 with sinceAlign := 0 }) else s

/-- R94: AXIS.RANGE when the line number reaches 2^46. -/
def rangeStep (s : State) : State :=
  let L := datumLine s
  let far := decide (2 ^ 46 ≤ L.natAbs)
  let s' := { s with axis := { s.axis with rangeRaised := far } }
  if far && !s.axis.rangeRaised then ev 0x400C (axisDetail s.axis.source 0xFF L) s' else s'

/-- R120, R121: a row that is not in use at its next line takes its mark to W, or to the line before it comes into use. -/
def syncRow (u : Nat) (s : State) : State :=
  let n := rowNext s u
  let used := fun (l : Int) => rowActive (envAt s l) u
  let last := lineAt s u s.gait.w
  if used n ∨ last < n then s
  else
    let starts := (s.proto.commits.map (·.line)).filter (fun l => decide (n < l) && used l)
    let stop := if starts.isEmpty then last else min last (minOf starts - 1)
    s.setRow u { s.row u with lastLine := some stop, mark := some (firePos s u stop), pred := none }

/-- What follows a movement of W (R65, R116, R122, R126, R127, R134, R279, R382). -/
def afterMove (s : State) : State :=
  let s := checkDry (checkJob (checkPages (passCommits s)))
  let s := reinEdge (judgeSpeed (noteDue none (checkLeads (settleBad s))))
  checkReinDone (predictUnits s)

/-- R83, R120: the record of a source edge: position, W, and all that follows it. -/
def sourceEdge (s : State) : State :=
  let ch := s.axis.source
  if (s.chan ch).faulty then judgeSpeed s
  else
    let s := s.setChan ch (spreadStep (s.chan ch))
    let s := rangeStep (wrapStep ch (gearStep ch s))
    let s := forAll (List.range 128) syncRow s
    afterMove { s with gait := { s.gait with w := max s.gait.w (edgePos s) } }

/-- R83: latch the pair of an edge. -/
def latch (ch : Nat) (dc : Int) (t : Nat) (s : State) : State :=
  let c := s.chan ch
  let cnt := c.count + BitVec.ofInt 48 dc
  let iv := match c.last with | some k => if c.faulty then c.intervals else ((dc, t - k.t) :: c.intervals).take 64 | none => c.intervals
  let s := s.setChan ch { c with count := cnt, prev := c.last, last := some ⟨cnt.toInt, t⟩, sinceStop := min 2 (c.sinceStop + 1), intervals := iv }
  if ch = s.axis.source ∧ s.axis.stopped then { s with axis := { s.axis with stopped := false } } else s

/-- R82: an illegal transition is counted and reported. -/
def illegalStep (ch : Nat) (m : BadMark) (s : State) : State :=
  let c := s.chan ch
  let l := window10 c.illegal m
  let due : Bool := match c.illegalRaised with | some x => decide (x + 10 * ms ≤ s.time.now) | none => true
  let s := s.setChan ch { c with illegal := l, status := c.status.set s.time.now encIllegal, illegalRaised := if due then some s.time.now else c.illegalRaised }
  let s := lifeEnc ch 2 { s with axis := { s.axis with confidence := false } }
  let s := if due then ev 0x4003 (axisDetail ch 0xFF l.length) s (count := (s.chan ch).status.count encIllegal) else s
  if 17 ≤ l.length then declareFaulty ch 1 (l.getD 16 m) s else s

/-- R79: the glitch filter accepts a new level at `t` once it has been stable for N samples, so N samples after the signal's last edge at the
earliest. -/
def accepts (s : State) (ch : Nat) (old : Option Nat) (t : Nat) : Bool :=
  match old with
  | some e => decide (e + filterLen s ch * 2500 ≤ t)
  | none => true

/-- R79: the levels of A and B that leave the filter. -/
def filtered (s : State) (ch : Nat) (a b : Bool) : Bool × Bool :=
  let c := s.chan ch
  let t := stampNow s ch
  (if accepts s ch c.edgeA t then a else c.a, if accepts s ch c.edgeB t then b else c.b)

/-- COUNT_EDGE (R83): the filtered levels of A and B of a sample whose record arrives now. -/
def countEdgeStep (ch : Nat) (a b : Bool) (s : State) : State :=
  let c := s.chan ch
  let bad := a != c.a && b != c.b
  let t := stampNow s ch
  let s := s.setChan ch { c with a := a, b := b, edgeA := if a != c.a then some t else c.edgeA, edgeB := if b != c.b then some t else c.edgeB }
  if !encEnabled s ch then s
  else
    let s := if a != c.a then overspeed ch c.edgeA t s else s
    let s := if b != c.b then overspeed ch c.edgeB t s else s
    let mark : BadMark := ⟨t, c.last, if 2 ≤ c.sinceStop then c.prev else none⟩
    let dc : Int := if bad then (if c.up then 2 else -2) else quadStep s ch c a b
    let s := if ch = s.axis.source then residualStep ch dc t s else s
    let s := latch ch dc t s
    let s := if bad then s else s.setChan ch { s.chan ch with up := decide (0 < dc) }
    let s := oppositeStep ch dc (travelStep ch dc s)
    let s := if ch = s.axis.source then s else wrapStep ch (gearStep ch (s.setChan ch (spreadStep (s.chan ch))))
    let s := alignStep ch dc s
    let s := if bad then illegalStep ch mark s else s
    if ch = s.axis.source then sourceEdge s else s

def execCountEdge (dt : Nat) (ch : Fin 4) (a b : Bool) (s : State) : Host.Outcome State Fault Refusal :=
  let s := tick dt s
  let l := filtered s ch a b
  guardOk (samplesRun s && ((s.chan ch).a != l.1 || (s.chan ch).b != l.2)) (countEdgeStep ch l.1 l.2) s

/-! ### The index (R86 to R90) -/

/-- R90: an entry of the index log. -/
def logIndex (ch outcome : Nat) (d x : Int) (s : State) : State :=
  { s with axis := { s.axis with indexLog := (⟨ch, outcome, d, x⟩ :: s.axis.indexLog).take 16 } }

/-- R86: offset from the nearest expected index count; halfway takes the lower multiple, so that d is positive. -/
def indexOffset (x period : Int) : Int := x + (period - 2 * x) / (2 * period) * period

/-- R88: a clean index on the source channel sets Confidence and aligns the shadow (R99). -/
def cleanIndex (ch : Nat) (s : State) : State :=
  let s := if ch = s.axis.source ∧ s.axis.state = 1 then { s with axis := { s.axis with confidence := true } } else s
  if ch = 0 ∧ s.axis.source = 0 then alignShadow s else s

/-- R88: an index is checked against its expected count. -/
def checkIndex (ch : Nat) (t : Nat) (s : State) : State :=
  let c := s.chan ch
  let period : Int := cfgN s 0x4022 ch
  if !c.hasRef ∨ period = 0 then s
  else
    let d := indexOffset (countDiff (countOf c) (cfg s 0x4021 ch)) period
    let x := lposAt s t
    if d.natAbs ≤ cfgN s 0x4023 ch then
      let s := if indexMode s ch = 1 then
          let s := shiftCount ch (-d) s
          logIndex ch 0 d x (s.setChan ch (spreadAdd (s.chan ch) (-d * (s.chan ch).gear)))
        else logIndex ch 1 d x s
      if (c.illegal.head?.map (·.t)) = some t then s else cleanIndex ch s
    else
      let s := lifeEnc ch 3 (encFlag ch encIndexOffset 0x4008 2 d s)
      logIndex ch 2 d x { s with axis := { s.axis with confidence := false } }

/-- R88: a reference load: the counter takes `Axis.IndexValue`, the position does not move. An arming of this very tick waits for the next index
(R104). -/
def loadReference (ch : Nat) (t : Nat) (s : State) : State :=
  let x := lposAt s t
  let s := shiftCount ch (countDiff (cfg s 0x4021 ch) (countOf (s.chan ch))) s
  let c := s.chan ch
  let fresh := c.armed && c.armedTick == some (tickNow s)
  let s := s.setChan ch { c with armed := fresh, armedTick := if fresh then c.armedTick else none, refNext := false, reload := false, hasRef := true }
  let s := logIndex ch 3 0 x s
  if ch = s.axis.source then mirrorAxis s else s

/-- INDEX (R77, R86 to R88): the index stayed active for `width` counts of travel. -/
def indexStep (ch width : Nat) (s : State) : State :=
  let c := s.chan ch
  let t := stampNow s ch
  if 8 < width then encFlag ch encPolarity 0x4002 2 width s
  else if indexMode s ch = 0 ∨ c.status.on encWireZ ∨ c.faulty then s
  else
    let armed := c.armed && c.armedTick != some (tickNow s)
    if c.reload || armed || (indexMode s ch == 1 && c.refNext) then loadReference ch t s else checkIndex ch t s

def execIndex (dt : Nat) (ch : Fin 4) (width : Nat) (s : State) : Host.Outcome State Fault Refusal :=
  let s := tick dt s
  guardOk (samplesRun s && encEnabled s ch) (indexStep ch width) s

/-! ### Wire monitors (R75, R76, R556) -/

/-- R84: the wire monitors of a channel are active. -/
def monitored (s : State) (ch : Nat) : Bool := samplesRun s && encEnabled s ch && bitOn (cfg s 0x4020 ch) 1

def wirePair (s : State) (ch p : Nat) : WirePair := tget {} (s.chan ch).pairs p
def setWirePair (ch p : Nat) (w : WirePair) (s : State) : State :=
  s.setChan ch { s.chan ch with pairs := tput {} (s.chan ch).pairs p w }

/-- WIRE_EPISODE_50NS (R75, R76). -/
def wire50 (ch p : Nat) (s : State) : State :=
  let now := s.time.now
  let c := s.chan ch
  let m := markBefore c (now - 50000) now
  let s := setWirePair ch p { wirePair s ch p with since := some (now - 50000), over50 := true, over1us := false, mark := some m } s
  let c := s.chan ch
  let s := lifeEnc ch 1 (s.setChan ch { c with status := c.status.set s.time.now p })
  if 2 ≤ p then s
  else
    let l := window10 c.episodes m
    let s := s.setChan ch { s.chan ch with episodes := l }
    if 17 ≤ l.length then declareFaulty ch 2 (l.getD 16 m) s else s

/-- WIRE_EPISODE_1US (R75, R76). -/
def wire1us (ch p : Nat) (s : State) : State :=
  let s := setWirePair ch p { wirePair s ch p with over1us := true } s
  let s := ev 0x4001 (axisDetail ch p 1000) s (count := (s.chan ch).status.count p)
  if 2 ≤ p then s
  else declareFaulty ch 2 ((wirePair s ch p).mark.getD (markBefore (s.chan ch) s.time.now s.time.now)) s

/-- WIRE_EPISODE_END (R75): nothing further is raised for an episode that reached 1 µs. -/
def wireEnd (ch p length : Nat) (s : State) : State :=
  let w := wirePair s ch p
  let s := setWirePair ch p { w with since := none, over50 := false, over1us := false, mark := none } s
  if w.over1us then s else ev 0x4001 (axisDetail ch p length) s (count := (s.chan ch).status.count p)

def execWireEpisode50ns (dt : Nat) (ch : Fin 4) (pair : Fin 3) (s : State) : Host.Outcome State Fault Refusal :=
  let s := tick dt s
  guardOk (monitored s ch && !(wirePair s ch pair).over50) (wire50 ch pair) s

def execWireEpisode1us (dt : Nat) (ch : Fin 4) (pair : Fin 3) (s : State) : Host.Outcome State Fault Refusal :=
  let s := tick dt s
  guardOk (monitored s ch && (wirePair s ch pair).over50 && !(wirePair s ch pair).over1us) (wire1us ch pair) s

def execWireEpisodeEnd (dt : Nat) (ch : Fin 4) (pair : Fin 3) (length : Nat) (s : State) : Host.Outcome State Fault Refusal :=
  let s := tick dt s
  guardOk (samplesRun s && (wirePair s ch pair).over50) (wireEnd ch pair length) s

/-- TERM_SWING_LOW (R556): counting goes on. -/
def execTermSwingLow (dt : Nat) (ch : Fin 4) (pair : Fin 3) (s : State) : Host.Outcome State Fault Refusal :=
  let s := tick dt s
  guardOk (samplesRun s && encEnabled s ch) (fun s => ev 0x4001 (axisDetail ch pair 0) s (count := (s.chan ch).status.count pair)) s

/-! ### The stop of the axis, and the supervisor link (R19, R96) -/

/-- R96: no source edge for `Axis.StopTime`. -/
def stopDue (s : State) : Bool :=
  let ch := s.axis.source
  !s.axis.stopped && (match (s.chan ch).last with
    | some k => decide (k.t + recordDelay s ch + cfgN s 0x4029 0 * ms ≤ s.time.now)
    | none => true)

/-- AXIS_STOP (R96, R117, R134, R382): the velocity is 0. The auxiliary channels never count as stopped (DESIGN CHOICE, assumption log 71). -/
def axisStopStep (s : State) : State :=
  let s := { s with axis := { s.axis with stopped := true } }
  let s := forAll [0, 1] (fun c s => s.setChan c { s.chan c with sinceStop := 0 }) s
  reinStopped (judgeSpeed (forAll headNums flushMgmt (predictUnits s)))

def execAxisStop (dt : Nat) (s : State) : Host.Outcome State Fault Refusal :=
  let s := tick dt s
  guardOk (stopDue s) axisStopStep s

/-- SUPERVISOR_UNREACHABLE (R19, R33, R102, R550): position is lost and the supervisor die has failed. -/
def supervisorGone (s : State) : State :=
  let s := { s with axis := { s.axis with supervisorLost := true } }
  if s.pair.state = 3 ∧ partnerStandby s then dieFault 1 2 3 0 (some 7) false s
  else
    let s := if s.axis.state = 1 ∧ !isWheeler s then lostPosition 3 s else s
    dieFault 1 2 3 0 (some 7) false s

def execSupervisorUnreachable (dt : Nat) (s : State) : Host.Outcome State Fault Refusal :=
  let s := tick dt s
  guardOk (!s.axis.supervisorLost) supervisorGone s

/-! ### Host operations on the axis (R85, R87, R94, R101, R103) -/

/-- R104: an edge of the source channel is still to come in this tick. -/
def edgeComes (s : State) : Bool :=
  (tickRest s).any (fun i => match i with
    | .countEdge _ ch a b => ch.val == s.axis.source && ((s.chan ch).a != a || (s.chan ch).b != b)
    | _ => false)

/-- R94, R104: a preset is accepted now. -/
def presetAllowed (s : State) : Bool :=
  s.axis.stopped && !edgeComes s && s.gait.job != 1 && s.gait.job != 2 && encEnabled s s.axis.source && !(s.chan s.axis.source).faulty

/-- R94, R99, R105, R121, R131: the preset to position `x`. -/
def presetTo (x : Int) (s : State) : State :=
  let ch := s.axis.source
  let L := lineOf x
  let c := s.chan ch
  let s := s.setChan ch { c with base := ⟨x, countOf c⟩, gear := gearAt s ch L, gearTo := some L, spread := {} }
  let s := { s with axis := { s.axis with state := 1, confidence := s.axis.confidence || indexMode s ch == 0 }
                    gait := { s.gait with w := x }, rein := { s.rein with wOld := none } }
  let s := passCommits (presetShadow (marksFromW s))
  let s := restartScreening s
  let s := causeGone 0x4006 (unitDie 1) s
  mirrorAxis (checkDry (rangeStep s))

/-- R87: arm a channel's index. -/
def armIndex (ch : Nat) (s : State) : State :=
  let c := s.chan ch
  if c.armed then s else mirrorAxis (s.setChan ch { c with armed := true, armedTick := some (tickNow s) })

/-- R91: a new gear of an auxiliary channel: its position goes on where it stands. -/
def setAuxGear (ch g : Nat) (s : State) : State :=
  let c := s.chan ch
  s.setChan ch (placedAt { c with gear := g } (chanPos c s.time.now) s.time.now)

/-- R85: a channel is re-enabled, unless it is declared faulty in the same instant (R71): its position continues where it stands (R92), and its next index is a reference load. -/
def reenable (ch : Nat) (s : State) : State :=
  let c := s.chan ch
  let x := chanPos c s.time.now
  let status := c.status.clear s.time.now (BitVec.ofNat 32 (2 ^ encFaulty))
  if status.on encFaulty then s
  else
  let s := s.setChan ch { c with status := status, base := if c.faulty then ⟨x, countOf c⟩ else c.base
                                 goodLast := none, goodPrev := none, illegal := [], episodes := [], refNext := true, reload := true, sinceStop := 0 }
  if ch = 0 then causeGone 0x4004 (unitDie 1) s else s

/-- R101: a host request for source `ch` is accepted: without changeover, only one that names the present source. -/
def sourceAllowed (s : State) (ch : Nat) : Bool :=
  if cfgN s 0x4026 0 = 0 then ch == s.axis.source
  else s.axis.stopped && encEnabled s ch && !(s.chan ch).faulty && !(s.chan ch).status.on encPolarity &&
    (ch != 1 || s.axis.state != 1 || backupReady s)

/-- R101: the host's change of source. -/
def requestSource (ch : Nat) (s : State) : State :=
  if ch = s.axis.source then s else changeover ch (ch == 1 && s.axis.state == 1) s

end Sys2Proof.Machine
end

