-- ==== Sys2Proof/Machine/Integrity.lean ====
section
/-! DEFINITION. Stored-data integrity as it runs by itself: STORE_REFRESH, STACK_TEMP_READ, SCRUB, SRAM_SCRUB, RETIRE_COPY_DONE,
COUNTER_WRITEBACK and NOZZLE_SAVE (R186, R187, R206 to R218, R312). -/

namespace Sys2Proof.Machine

/-- R186, R193: one refresh interval of a bank: placed in an idle bank, with one postponed refresh made up; postponed; or forced at the ninth. -/
def refreshBank (b : Nat) (busy : Bool) (s : State) : State :=
  let k := tget {} s.store.banks b
  let pc := b / 48
  if !busy then
    let n := if 0 < k.behind then 2 else 1
    { s with store := { s.store with banks := tput {} s.store.banks b { behind := k.behind - 1 }
                                     pcStats := tmod 0 s.store.pcStats (pc * 8 + 3) (· + BitVec.ofNat 64 n) } }
  else if k.behind < 8 then { s with store := { s.store with banks := tput {} s.store.banks b { behind := k.behind + 1 } } }
  else
    let now := s.time.now
    let recent := now :: s.store.forced.filter (fun t => decide (now < t + sec))
    let s := { s with store := { s.store with pcStats := tinc s.store.pcStats (pc * 8 + 4), forced := recent } }
    let due := match s.store.forcedAt with | some t => decide (t + sec ≤ now) | none => true
    if due then ev 0x5021 (detail pc (b % 48) 0 recent.length) { s with store := { s.store with forcedAt := some now } } else s

/-- The store answers requests (R190, R193). -/
def storeRuns (s : State) : Bool := s.store.state == 1 || s.store.state == 2

/-- STORE_REFRESH (R186). -/
def execStoreRefresh (dt : Nat) (bank : Fin 1536) (busy : Bool) (s : State) : Host.Outcome State Fault Refusal :=
  let s := tick dt s
  guardOk (storeRuns s) (refreshBank bank busy) s

/-- STACK_TEMP_READ (R187): the rate, and STORE.TEMP with each report above 95 °C. -/
def execStackTempRead (dt : Nat) (temp : Int) (s : State) : Host.Outcome State Fault Refusal :=
  let s := tick dt s
  let s := { s with store := { s.store with temp := temp, hot := decide (85 < temp) } }
  ok (if 95 < temp then ev 0x5022 (detail 0xFF 0 0 temp) s else s)

/-! ### The page-store scrubber -/

/-- R206: units of a pseudo-channel. -/
abbrev pcUnits : Nat := 12582912

/-- R206: the cell at a scrub position: SID, then bank, then row, then column. -/
def scrubCell (pc m : Nat) : Cell := ⟨pc, m / 4194304, m / 262144 % 16, m / 16 % 16384, m % 16 * 64⟩

/-- R206, R218: the unit (A / 64) visited at a scrub position. A retired block is visited in the spare rows that hold it and passed over in its own
place; so is a skipped slab. -/
def scrubUnit (s : State) (pc m : Nat) : Option Nat :=
  let c := scrubCell pc m
  let mine := fun (r : RetireEntry) => decide (2 ≤ r.state) && r.pc == c.pc && r.sid == c.sid && r.bank == c.bank
  let u := if 16320 ≤ c.row then
      (match s.integ.retired.find? mine with
        | some r => some (addrOf s { c with row := r.block * 64 + (c.row - 16320) } / 64)
        | none => some (addrOf s c / 64))
    else if s.integ.retired.any (fun r => mine r && r.block == c.row / 64) then none
    else some (addrOf s c / 64)
  u.bind (fun u => if slabSkipped s (slabOf (u * 64)) then none else some u)

/-- R207: the end of a lap: its duration, its lines, BOUND.SCRUB_SLOW. `k` is 0 for the page store and 1 for the SRAM. -/
def lapEnd (k : Nat) (s : State) : State :=
  let z := s.integ
  let start := tget (0, 0) z.lapStart k
  let took := (s.time.now - start.1) / ms
  let mine := fun (e : Nat × Nat) => if k = 0 then e.1 % 16 == 0 else e.1 % 16 != 0
  let s := { s with integ := { z with
    lapMs := tput 0 z.lapMs k (BitVec.ofNat 32 took)
    lapLines := tput 0 z.lapLines k (BitVec.ofInt 32 (lineOf (s.gait.w - start.2)))
    lapStart := tput (0, 0) z.lapStart k (s.time.now, s.gait.w)
    lapOld := z.lapOld.filter (fun e => !mine e) ++ z.lapNew.filter mine
    lapNew := z.lapNew.filter (fun e => !mine e)
    lapDone := if k = 0 then [] else z.lapDone
    sramDone := if k = 0 then z.sramDone else [] } }
  let target := cfgN s (if k = 0 then 0xB010 else 0xB014) 0
  if 2 * target < took then ev 0xB006 (integDetail 0 (k + 1) took) s else s

/-- R206: advance a pseudo-channel's scrubber; the lap ends when all 32 have ended theirs. -/
def advanceScrub (pc : Nat) (s : State) : State :=
  let m := tget 0 s.integ.scrubPos pc + 1
  if m < pcUnits then { s with integ := { s.integ with scrubPos := tput 0 s.integ.scrubPos pc m } }
  else
    let done := if s.integ.lapDone.contains pc then s.integ.lapDone else pc :: s.integ.lapDone
    let s := { s with integ := { s.integ with scrubPos := tput 0 s.integ.scrubPos pc 0, lapDone := done } }
    if 32 ≤ done.length then lapEnd 0 s else s

/-- What has struck a unit since it was written. -/
def strikeUnit (u : Nat) (x : Upset) (s : State) : State :=
  let hit := fun (b : Nat) (data : List (Nat × Byte)) (chk : BitVec 32) (s : State) =>
    if data.isEmpty ∧ chk = 0 then s
    else { s with store := { s.store with marks := tmod {} s.store.marks b (fun m =>
      { m with dataErr := m.dataErr.filter (fun d => !data.any (·.1 == d.1)) ++ data, checkErr := m.checkErr ^^^ chk }) } }
  let d := x.data.filter (fun e => e.2 != 0)
  hit (2 * u + 1) ((d.filter (fun e => decide (32 ≤ e.1))).map (fun e => (e.1 - 32, e.2))) x.check1
    (hit (2 * u) (d.filter (fun e => decide (e.1 < 32))) x.check0 s)

/-- R213, R214, R217: the place, in a memory, has erred in the last lap; `ue`: as an uncorrectable one. In the lap's lists the memory code is 16
higher for an uncorrectable error. -/
def erred (s : State) (mem addr : Nat) (ue : Bool) : Bool := s.integ.lapOld.contains (if ue then mem + 16 else mem, addr)

/-- The place errs in this lap. -/
def noteLap (mem addr : Nat) (ue : Bool) (s : State) : State :=
  let e := (if ue then mem + 16 else mem, addr)
  { s with integ := { s.integ with lapNew := e :: s.integ.lapNew.filter (· != e) } }

/-- R206, R214: a scrub finds a corrected burst: it is logged and counted; `hard` when the unit erred in the last lap. -/
def scrubCorrected (u b : Nat) (hard : Bool) (s : State) : State :=
  if slabSkipped s (slabOf (u * 64)) then s
  else countCorrected 0 0 (noteLap 0 (u * 64) false (logStore 0 0 0 u (correctedSymbol s b) (burstSyndrome s b) hard s))

/-- R208: a scrub finds an uncorrectable burst: it is logged, raised and counted, and its stripe is requested again. -/
def scrubUe (u b : Nat) (hard : Bool) (s : State) : State :=
  let skip := slabSkipped s (slabOf (u * 64))
  let s := logStore 3 0 0 u 255 (burstSyndrome s b) hard s
  let s := { s with integ := { s.integ with ueUnits := if s.integ.ueUnits.contains u then s.integ.ueUnits else u :: s.integ.ueUnits } }
  let s := if skip then s else countUe 0 0 (noteLap 0 (u * 64) true s)
  let s := ev 0xB001 (integDetail 0 0 (u * 64)) s
  match stripeOfAddr s (u * 64) with
  | some x => integrityResend x.1 x.2 2 s
  | none => s

/-- R206, R208, R213 to R217: the scrub of one unit: corrected bursts go back corrected, uncorrectable ones poisoned. -/
def scrubAt (u : Nat) (s : State) : State :=
  let addr := u * 64
  let skip := slabSkipped s (slabOf addr)
  let hard := erred s 0 addr false || erred s 0 addr true
  let twice := erred s 0 addr false
  let (again, s) := firstRead u (countAccess 2 u false s)
  let fixed := burstWith s u 1
  let bad := burstWith s u 3
  if fixed.isNone && bad.isNone then s
  else
    let s := if skip then uninitRead 0 0 u s else s
    let s := match fixed with | some b => scrubCorrected u b hard s | none => s
    let s := match bad with | some b => scrubUe u b hard s | none => s
    let s := countAccess 2 u true (settleBurst (2 * u + 1) (settleBurst (2 * u) s))
    if skip then s else retireCheck u (again || (fixed.isSome && twice)) s

/-- R199, R206: a BACKGROUND slot of a pseudo-channel's scrubber: a unit that a corrected read has placed, else the next in the walk. -/
def scrubStep (pc : Nat) (x : Upset) (s : State) : State :=
  match s.integ.scrubQueue.find? (fun u => (cellOf s (u * 64)).pc == pc) with
  | some u => scrubAt u { s with integ := { s.integ with scrubQueue := s.integ.scrubQueue.erase u } }
  | none =>
    match scrubUnit s pc (tget 0 s.integ.scrubPos pc) with
    | none => advanceScrub pc s
    | some u => advanceScrub pc (scrubAt u (strikeUnit u x s))

/-- SCRUB (R208). -/
def execScrub (dt : Nat) (pc : Fin 32) (upset : Upset) (s : State) : Host.Outcome State Fault Refusal :=
  let s := tick dt s
  guardOk (s.store.state == 2 && decide (s.power.state ≤ 1) && cfg s 0xB013 0 == 1) (scrubStep pc upset) s

/-! ### The SRAM scrubbers -/

/-- R206, R207: advance an SRAM scrubber; the lap ends when all 22 banks have ended theirs (assumption log 27). -/
def advanceSram (k : Nat) (s : State) : State :=
  let m := tget 0 s.integ.sramPos k + 1
  if m < sramWords k then { s with integ := { s.integ with sramPos := tput 0 s.integ.sramPos k m } }
  else
    let done := if s.integ.sramDone.contains k then s.integ.sramDone else k :: s.integ.sramDone
    let s := { s with integ := { s.integ with sramPos := tput 0 s.integ.sramPos k 0, sramDone := done } }
    if 22 ≤ done.length then lapEnd 1 s else s

/-- R200, R206, R209, R213: the scrub of an SRAM word: corrected and written back; or uncorrectable and left, but for a nozzle entry, which is
restored. -/
def scrubWord (key : Nat) (s : State) : State :=
  let mem := keyMem key
  let addr := keyAddr key
  let hard := erred s mem addr false || erred s mem addr true
  match sramClass (sramMark s key) with
  | 0 => s
  | 1 => fixWord key (countCorrected mem (sramRegion mem addr) (noteLap mem addr false (logWord 0 0 0 key hard s)))
  | _ =>
    let s := noteLap mem addr true (logWord 1 0 0 key hard s)
    let s := ev 0xB001 (integDetail mem 0 addr) (countUe mem (sramRegion mem addr) s)
    if mem = 1 then nozzleWordUe (unitRegion (sramRegion 1 addr)) key s
    else
      let k := sramBank mem addr
      if 4 ≤ k ∧ k < 16 then
        let s := noteClusterUe (k - 4) s
        if 2 ≤ (tget [] s.integ.clusterUe (k - 4)).length then clusterFault (k - 4) s else s
      else s

/-- R199, R200, R206: a slot of bank `k`'s scrubber: a word that a corrected read has placed, else the next in the walk, with what has struck it. -/
def sramScrubStep (k : Nat) (data : BitVec 64) (check : BitVec 8) (s : State) : State :=
  match s.integ.sramQueue.find? (fun key => sramBank (keyMem key) (keyAddr key) == k) with
  | some key => scrubWord key { s with integ := { s.integ with sramQueue := s.integ.sramQueue.erase key } }
  | none =>
    let x := sramWordAt k (tget 0 s.integ.sramPos k)
    let key := sramKey x.1 x.2.2
    advanceSram k (scrubWord key (strikeWord key data check s))

/-- SRAM_SCRUB (R209). -/
def execSramScrub (dt : Nat) (bank : Fin 22) (data : BitVec 64) (check : BitVec 8) (s : State) : Host.Outcome State Fault Refusal :=
  let s := tick dt s
  guardOk (decide (s.power.state ≤ 1) && cfg s 0xB013 0 == 1) (sramScrubStep bank data check) s

/-! ### Retirement and the nozzle table's copies -/

/-- R67: complete the running handles that a test on the operation picks. -/
def completeOps (f : Op → Bool) (code : Nat) (d : BitVec 96) (s : State) : State :=
  forAll ((runningHandles s).filter (fun i => f (s.handle i).op)) (fun i s => completeHandle i code d s) s

/-- R219: the 8 bytes of a map entry as a number. -/
def retireWord (r : RetireEntry) : Nat :=
  r.pc * 2 ^ 59 + r.sid * 2 ^ 57 + r.bank * 2 ^ 53 + r.block * 2 ^ 45 + r.state * 2 ^ 43 + r.hours % 2 ^ 32

/-- R218: the units of a block with something to settle: those with errors, and in slabs that hold lost contents all of them. -/
def blockUnits (r : RetireEntry) (s : State) : List Nat :=
  let marked := ((s.store.marks.map (fun e => e.1 / 2)).eraseDups).filter (fun u => blockOf s u == r.blk)
  if s.store.unwritten.isEmpty then marked
  else
    let all := (List.range 1024).map (fun i => addrOf s ⟨r.pc, r.sid, r.bank, r.block * 64 + i / 16, i % 16 * 64⟩ / 64)
    all.filter (fun u => marked.contains u || tget 0 s.store.unwritten (slabOf (u * 64)) != 0)

/-- R218 step 2: the copy of a block to its spare: corrected units go corrected, uncorrectable ones poisoned; its 1,024 units are read and written. -/
def copyBlock (r : RetireEntry) (s : State) : State :=
  let s := forAll (blockUnits r s) (fun u s => settleBurst (2 * u + 1) (settleBurst (2 * u) s)) s
  countRequests 2 r.pc 1024 true (countRequests 2 r.pc 1024 false s)

/-- The retirement map as flash takes it: the blocks whose copy is done. -/
def flashMap (s : State) : State :=
  { s with integ := { s.integ with retiredFlash := s.integ.retired.filter (fun r => decide (2 ≤ r.state)) } }

/-- R218 steps 2 and 3: the copy is done, the block is retired, the map goes to flash. -/
def retireDone (n : Nat) (s : State) : State :=
  match s.integ.retired[n]? with
  | none => s
  | some r =>
    if r.state ≠ 1 then s
    else
      let s := copyBlock r s
      let r := { r with state := 2 }
      let s := flashMap { s with integ := { s.integ with retired := s.integ.retired.set n r } }
      let s := emit (.flash 3 n) (ev 0xB004 (integDetail 0 0 (retireWord r)) s)
      retireWaiting
        (completeOps (fun o => match o with | .retire pc sid bank block => pc == r.pc && sid == r.sid && bank == r.bank && block == r.block | _ => false) 0 0 s)

/-- RETIRE_COPY_DONE (R218). -/
def execRetireCopyDone (dt : Nat) (entry : Nat) (s : State) : Host.Outcome State Fault Refusal :=
  let s := tick dt s
  guardOk (storeRuns s) (retireDone entry) s

/-- R211: the counter fields go to the stored copy; heads whose entries have changed are due for the next save (R312). -/
def writeBack (s : State) : State :=
  let changed := (s.noz.cnt.filter (fun e => tget {} s.noz.cntStored e.1 != e.2)).map (fun e => chanHead e.1)
  let gone := (s.noz.cntStored.filter (fun e => tget {} s.noz.cnt e.1 != e.2)).map (fun e => chanHead e.1)
  { s with noz := { s.noz with cntStored := s.noz.cnt, dirty := (changed ++ gone).foldl (fun t h => tput false t h true) s.noz.dirty } }

/-- COUNTER_WRITEBACK (R211). -/
def execCounterWriteback (dt : Nat) (s : State) : Host.Outcome State Fault Refusal :=
  let s := tick dt s
  guardOk (storeRuns s) writeBack s

/-- R312: write one head's part to flash: the stored copy, which holds the decision fields of the highest accepted generation (R308). -/
def savePart (h : Nat) (s : State) : State :=
  let chans := (List.range headChans).map (channel h)
  let z := s.noz
  let s := { s with noz := { z with
    flash := chans.foldl (fun t c => tput {} t c (nozStored s c)) z.flash
    flashCnt := chans.foldl (fun t c => tput {} t c (tget {} z.cntStored c)) z.flashCnt
    flashId := tput [] z.flashId h (tget [] z.identity h)
    flashed := tput false z.flashed h true
    dirty := tput false z.dirty h false } }
  emit (.flash 2 h) s

/-- R312: save every part whose stored copy has changed. -/
def saveTable (s : State) : State :=
  let s := forAll (headNums.filter (fun h => tget false s.noz.dirty h)) savePart s
  { s with noz := { s.noz with savedAt := s.time.now } }

/-- R520: flash operations work while VSUP3 is not in overload. -/
def flashWorks (s : State) : Bool := !s.power.vsup3Over && !s.power.brown

/-- NOZZLE_SAVE (R312): `Nozzle.SaveInterval` has passed since the last save. -/
def execNozzleSave (dt : Nat) (s : State) : Host.Outcome State Fault Refusal :=
  let s := tick dt s
  guardOk (storeRuns s && flashWorks s && decide (s.noz.savedAt + cfgN s 0x6033 0 * sec ≤ s.time.now)) saveTable s

end Sys2Proof.Machine
end

