-- ==== Sys2Proof/Machine/Receive.lean ====
section
/-! DEFINITION. The stream receiver: STREAM_DATA, PROBE, ACK_INTERVAL, NAK and NET_LINK (R141 to R160). -/

namespace Sys2Proof.Machine

/-- R142: count on a port. -/
def countPort (p : Port) (i : Nat) (s : State) : State :=
  s.setPort (portNum p) { s.port (portNum p) with stats := tinc (s.port (portNum p)).stats i }

/-- R158: a discarded packet sets the flag of its check; checks 1 to 6 raise STREAM.DISCARD at most once per second per ring. -/
def discardPacket (n check flag : Nat) (s : State) : State :=
  let r := s.ring n
  let r := { r with status := r.status.set s.time.now flag }
  if 6 < check then s.setRing n r
  else
    let r := { r with discards := s.time.now :: r.discards.filter (fun t => decide (s.time.now < t + sec)) }
    let due := match r.discardAt with | some t => decide (t + sec ≤ s.time.now) | none => true
    if due then ev 0x5014 (streamDetail n check r.discards.length) (s.setRing n { r with discardAt := some s.time.now }) (count := r.status.count flag)
    else s.setRing n r

/-- R144, R145, R158 check 1: the packet is well formed. -/
def packetFormed (p : StreamPkt) : Bool :=
  p.kind == 1 && p.version == 1 && p.lengthOk && p.crcOk &&
    (p.typ != 0 || (p.seq.toNat % 64 == 0 && p.offset % 64 == 0 && p.length % 64 == 0 && decide (64 ≤ p.length) && decide (p.length ≤ 8960) &&
      p.sos == (p.offset == 0) && decide (p.offset ≤ p.seq.toNat) && p.payload.length == p.length)) &&
    (p.typ != 3 || p.length == 0)

/-- R158 check 5: nothing of the packet lies above the release point, or its stripe has been released. -/
def packetStale (r : Ring) (p : StreamPkt) : Bool :=
  decide (p.seq.toNat + p.length ≤ r.release) ||
    r.index.any (fun x => x.base == p.seq.toNat - p.offset && x.state == .released)

/-- R147, R158 check 7: the packet disagrees with the stripe index. -/
def packetConflicts (r : Ring) (p : StreamPkt) : Bool :=
  let base := p.seq.toNat - p.offset
  let stop := p.seq.toNat + p.length
  r.index.any (fun x =>
    if x.base = base then
      x.page != p.page || x.stripe != p.stripe ||
        (match x.len with | some l => decide (x.base + l < stop) || (p.eos && x.base + l != stop) | none => p.eos && decide (stop < x.top))
    else touches x.base (max x.top (x.base + x.len.getD 0) - x.base) base (stop - base))

/-- R158: the checks of a packet in order, against a LIMIT: 0 when all pass, or the failing check and its flag. -/
def packetCheck (r : Ring) (limit epoch : Nat) (p : StreamPkt) : Nat × Nat :=
  if !packetFormed p then (1, 0)
  else if p.typ ≠ 0 ∧ p.typ ≠ 3 then (2, 0)
  else if !r.enable then (3, 1)
  else if p.epoch ≠ epoch then (4, 2)
  else if p.typ = 3 then (0, 0)
  else if packetStale r p then (5, 3)
  else if limit < p.seq.toNat + p.length then (6, 4)
  else if packetConflicts r p then (7, 6)
  else if !(r.index.any (fun x => x.base == p.seq.toNat - p.offset)) ∧ 8192 ≤ indexUsed r then (8, 7)
  else if (missingIn (received r) (max r.release p.seq.toNat) (p.seq.toNat + p.length)).isEmpty then (9, 5)
  else (0, 0)

/-- R147, R148: the stripe index after an accepted packet; a stripe is complete when every block to its end has been received. -/
def indexPacket (p : StreamPkt) (r : Ring) : Ring :=
  let base := p.seq.toNat - p.offset
  let stop := p.seq.toNat + p.length
  let index := if r.index.any (fun x => x.base == base) then r.index
    else r.index.filter (fun x => decide (x.base < base)) ++ [{ base := base, len := none, page := p.page, stripe := p.stripe, state := .filling }] ++
      r.index.filter (fun x => decide (base < x.base))
  let r := { r with index := index }
  r.modStripe base (fun x =>
    let len := if p.eos then some (stop - base) else x.len
    let x := { x with top := max x.top stop, len := len }
    match len with
    | some l => if x.state = .filling ∧ (missingIn (received r) base (base + l)).isEmpty then { x with state := .complete, retx := false } else x
    | none => x)

/-- R158: write the blocks of a packet that are not yet received and lie at or above RELEASE. -/
def storePacket (n : Nat) (p : StreamPkt) (s : State) : State :=
  let r := s.ring n
  let runs := missingIn (received r) (max r.release p.seq.toNat) (p.seq.toNat + p.length)
  let blocks := runs.flatMap (fun x => (List.range ((x.2 - x.1) / 64)).map (fun i => x.1 + 64 * i))
  forAll blocks (fun q s => writeUnits 1 (ringAddr s n q / 64) ((p.payload.drop (q - p.seq.toNat)).take 64) s) s

/-- R479: the lead sends the CRC-32C of a stripe that is now complete. -/
def sendStripe (n base : Nat) (whole : Bool) (s : State) : State :=
  match stripeAt (s.ring n) base with
  | some x =>
    if whole ∨ x.state ≠ .complete ∨ !hasWheeler s then s
    else mirror (.digest (.stripe n base (Config.crc32c (ringBytes s n base (x.len.getD 0))))) s
  | none => s

/-- R158: an accepted DATA packet. -/
def acceptPacket (n : Nat) (peer : Peer) (p : StreamPkt) (s : State) : State :=
  let s := storePacket n p s
  let r := s.ring n
  let r0 := r
  let whole := ((stripeAt r (p.seq.toNat - p.offset)).map (fun x => x.state == .complete)).getD false
  let old := r.cum
  let runs := missingIn (received r) (max r.release p.seq.toNat) (p.seq.toNat + p.length)
  let r := absorb { r with ranges := runs.foldl (fun l x => addRun x.1 x.2 l) r.ranges }
  let filled := r.gaps.any (fun g => decide (old ≤ g.first) && decide (g.first < r.cum))
  let r := regap s.time.now { (indexPacket p r) with high := max r.high (p.seq.toNat + p.length), dataSince := true,
                                                      sources := peer :: r.sources.filter (fun x => x.port != peer.port) }
  let s := updateRelease n (s.setRing n r)
  let s := sendStripe n (p.seq.toNat - p.offset) whole s
  let s := if filled then sendAck n s else s
  if (s.ring n).release = r.release then noteRing n r0 s else s

/-- R160: LIMIT as it stood before a rise in this tick. -/
def limitBefore (s : State) (n : Nat) : Nat := if (s.ring n).limitTick = tickNow s then (s.ring n).limitWas else (s.ring n).limit

/-- R160: the same bytes are still to arrive on NET_0 in this tick, in a packet that will be accepted. -/
def net0Twin (s : State) (n : Nat) (p : StreamPkt) : Bool :=
  (tickRest s).any (fun i => match i with
    | .streamData _ peer q => peer.port == .net0 && q.stream == n && q.seq == p.seq && q.length == p.length &&
        packetCheck (s.ring n) (limitBefore s n) (cfgN s 0x5005 n) q == (0, 0)
    | _ => false)

/-- R141, R142, R158: a packet reaches the stream receiver. -/
def receivePacket (peer : Peer) (p : StreamPkt) (s : State) : State :=
  if peer.port = .mgmt then countPort .mgmt 6 (countPort .mgmt 0 s)
  else if 63 < p.stream then countPort peer.port 7 (countPort peer.port 0 s)
  else
    let n := p.stream
    let s := countPort peer.port 0 s
    match packetCheck (s.ring n) (limitBefore s n) (cfgN s 0x5005 n) p with
    | (0, _) => if p.typ = 3 then sendAck n s
                else if peer.port = .net1 ∧ net0Twin s n p then discardPacket n 9 5 s
                else acceptPacket n peer p s
    | (7, f) => ev 0x5012 (streamDetail n 0 p.seq.toNat) (discardPacket n 7 f s) (count := ((s.ring n).status.set s.time.now 6).count 6)
    | (c, f) => discardPacket n c f s

/-- The stream receiver runs (R508: in Run and Idle). -/
def receiverRuns (s : State) : Bool := decide (s.power.state ≤ 1)

/-- STREAM_DATA (R158). -/
def execStreamData (dt : Nat) (peer : Peer) (pkt : StreamPkt) (s : State) : Host.Outcome State Fault Refusal :=
  guardOk (receiverRuns s && pkt.typ != 3) (receivePacket peer pkt) (tick dt s)

/-- PROBE (R158). -/
def execProbe (dt : Nat) (peer : Peer) (pkt : StreamPkt) (s : State) : Host.Outcome State Fault Refusal :=
  guardOk (receiverRuns s && pkt.typ == 3) (receivePacket peer pkt) (tick dt s)

/-- ACK_INTERVAL (R153): while DATA arrives, an ACK every `Stream.AckInterval`. -/
def execAckInterval (dt : Nat) (ring : Fin 64) (s : State) : Host.Outcome State Fault Refusal :=
  let s := tick dt s
  let r := s.ring ring
  guardOk (r.enable && r.dataSince && decide (r.ackAt + cfgN s 0x5010 0 * us ≤ s.time.now)) (sendAck ring) s

/-- R154: a gap's request is due: it has stood for the window, or the last one is an interval old. -/
def gapDue (s : State) (g : Gap) : Bool :=
  g.reason != 0 && (match g.naked with
    | none => decide (g.since + cfgN s 0x5011 0 * us ≤ s.time.now)
    | some t => decide (t + cfgN s 0x5012 0 * us ≤ s.time.now))

/-- The part of a gap that lies at or above RELEASE (R160). -/
def gapRun (r : Ring) (g : Gap) : Nat × Nat := (max g.first r.release, g.stop)

/-- R154, R156, R163: request the gaps of both chips that are due while time allows, each run once. -/
def requestGaps (n : Nat) (s : State) : State :=
  let r := s.ring n
  if (streamPeer s n).isNone ∨ isWheeler s then s
  else
    let due := fun (l : List Gap) => l.filter (fun g => gapDue s g && inTime s n g.first g.stop)
    let own := due r.gaps
    let peer := if hasWheeler s then due r.peerGaps else []
    let runs := fun (reason : Nat) => ((own ++ peer).filter (fun g => g.reason == reason)).foldl (fun l g => addRun (gapRun r g).1 (gapRun r g).2 l) []
    let asked := fun (l : List Gap) => l.map (fun g => if (own ++ peer).contains g then { g with naked := some s.time.now } else g)
    let s := s.setRing n { r with gaps := asked r.gaps, peerGaps := asked r.peerGaps }
    sendNak n 2 ((runs 2).length + 1) (runs 2) (sendNak n 1 ((runs 1).length + 1) (runs 1) s)

/-- NAK (R154). -/
def execNak (dt : Nat) (ring : Fin 64) (s : State) : Host.Outcome State Fault Refusal :=
  let s := tick dt s
  guardOk (s.ring ring).enable (requestGaps ring) s

/-- R143, R550: a port's link changes. -/
def linkChange (n : Nat) (up : Bool) (s : State) : State :=
  if (s.port n).up = up then s
  else
    let s := s.setPort n { s.port n with up := up }
    let s := raise 0x5015 (if up then 0 else 1) (streamDetail n (if up then 1 else 0) 0) s
    if n = 2 then s
    else if !up then addFault 0x5015 1 5 (unitDie 0) s
    else if (s.port 0).up && (s.port 1).up then causeGone 0x5015 (unitDie 0) s
    else s

end Sys2Proof.Machine
end

