-- ==== Sys2Proof/Machine/Firing.lean ====
section
/-! DEFINITION. FIRE (R324 to R336, R346 to R350): the FIRE block and line data of a row, late lines and the lateness policy. -/

namespace Sys2Proof.Machine

/-- R334: the policy value for a cause. -/
def policyOf (s : State) (cause : Nat) : Nat := cfgN s 0x7030 (if cause = 2 then 2 else if cause = 3 then 3 else 1)

/-- R334, R335: the source-3 limit falls from the speed at the first line of a run. -/
def slowPress (s : State) : State :=
  let n := (speedNum s).natAbs * cfgN s 0x7031 0 / max 1 (100 * speedDen s)
  limitChanged { s with gait := { s.gait with slowLimit := min s.gait.slowLimit (max 1000 n), slowSince := some s.time.now } }

/-- R480: a wheeler that would send a late line. -/
def wheelerLateLine (s : State) : State :=
  let s := { s with pair := { s.pair with wheelerLate := s.pair.wheelerLate + 1 } }
  if s.pair.state = 5 then holdWheeler 3 s else s

/-- R332 to R336: line `L` of row `u` is late by `cause`, under policy `pol`, `data`: its data are late among other causes. The answer says whether
the row is held. -/
def lateLine (u : Nat) (L : Int) (cause pol : Nat) (s : State) (data : Bool := false) : Bool × State :=
  if isWheeler s then (false, wheelerLateLine s)
  else
    let h := u / 2
    let runs := s.rein.state != 0 && s.rein.state != 4
    let (held, s) := if pol = 2 ∨ (runs ∧ cause ≤ 4) then reinLate u L cause s else (false, s)
    let action : Nat := if held then 2 else if pol = 1 then 1 else 0
    let fresh := (s.row u).lateRun != cause
    let s := s.setRow u { s.row u with lateRun := cause }
    let s := if fresh then ev 0x7001 (headDetail h cause (u % 2) action) s (line := atLine L) else s
    let s := if cause = 1 ∨ cause = 4 ∨ cause = 5 ∨ data then
        (if fresh ∧ action = 1 then slowPress s
         else if s.gait.slowSince.isSome then { s with gait := { s.gait with slowSince := some s.time.now } } else s)
      else s
    let s := logLateLine h L cause action s
    (held, s.setHead h { s.head h with late := (s.head h).late + 1 })

/-- The line has dots to send. -/
def lineHasDots (s : State) (u : Nat) (L : Int) : Bool := lineKind s ((planeOf (envAt s L) (u / 2)).getD 0) L != .blank

/-- R338: a FIRE with send time `ts` left before a reading that arrived at `t`, or in the slot in which that arrived; the phase of the slots is free
(R324). -/
def leftBefore (s : State) (h t ts : Nat) : Bool :=
  decide (ts ≤ t) || (decide (ts < t + slotPs (s.lane h).rate) && Config.freeOf 338 [(h : Int), t, ts] % 2 == 0)

/-- R330, R331: the thermal state that a FIRE with this send time goes by. -/
def fireThermal (s : State) (h ts : Nat) : Nat :=
  match (s.head h).turned with
  | some t => if leftBefore s h t ts then (s.head h).was else (s.head h).thermal
  | none => (s.head h).thermal

/-- R332: the causes of a line at its send time, the one that is logged first; `slow`: its assembly reads are not complete (R184). -/
def lateCauses (s : State) (u : Nat) (L : Int) (ts : Nat) (slow : Bool) : List Nat :=
  let h := u / 2
  let data := if !lineHasDots s u L || (dotsReady s h L && !slow) then [] else [1]
  if (s.lane h).state ≠ 6 then 3 :: data
  else if fireThermal s h ts = 2 then [2]
  else data

/-- The row has generated the line of a prediction (R115, R120, R382); its instant is placed unless R118 dropped the line. -/
def rowDone (u : Nat) (p : Prediction) (s : State) : State :=
  s.setRow u { s.row u with lastLine := some p.line, mark := some (firePos s u p.line), pred := none, resumed := true
                            lastFire := if p.dropped then (s.row u).lastFire else some p.tf }

/-- R324, R346, R347: the FIRE block leaves. The phase of the slot grid against device time is free (R324), so that the fine offset is
a free value within one slot, or two where the other row's FIRE takes the slot (R373). -/
def sendFire (u : Nat) (p : Prediction) (blank : Bool) (s : State) : State :=
  let h := u / 2
  let r := s.row u
  let e := envAt s p.line
  let (x, s) := drawFree s
  let fine := min 511 (x % (2 * slotPs (s.lane h).rate / 100 + 1))
  let therm := fireThermal s h p.ts
  let wave := if therm = 1 then e.nat 0x7009 h else e.nat 0x7008 h
  let s := emit (.fire h (u % 2) p.line r.fseq fine wave blank (chkField (fireContent p.line (u % 2) r.fseq.toNat fine wave blank))) s
  let s := s.setRow u { s.row u with fseq := r.fseq + 1 }
  if (s.head h).warmAnnounced ∨ therm = 2 ∨ therm ≠ (s.head h).thermal then s
  else
    let s := ev 0x7002 (headDetail h (if therm = 1 then 1 else 0) 0xFF (s.head h).temp) s (line := atLine p.line)
    s.setHead h { s.head h with warmAnnounced := true }

/-- R331: NOZZLE.THERMAL with the first blank line of a HOT head. -/
def announceHot (h : Nat) (L : Int) (s : State) : State :=
  let x := s.head h
  if x.thermal ≠ 2 ∨ x.hotAnnounced then s
  else ev 0x7003 (headDetail h x.hotReason 0xFF x.temp) (s.setHead h { x with hotAnnounced := true }) (line := atLine L)

/-- R298: FIRECOUNT of the nozzles that the line fires, and the head's lifetime count (R558). -/
def countFires (h lo : Nat) (codes : List Nat) (s : State) : State :=
  let hits := ((codes.zip (List.range codes.length)).filter (fun c => c.1 != 0)).map (·.2)
  let s := forAll hits (fun i s =>
    let k := channel h (lo + i)
    setNozCnt k { nozCnt s k with fire := min ((nozCnt s k).fire + 1) (2 ^ 48 - 1) } s) s
  { s with faults := { s.faults with life := { s.faults.life with fires := satAdd 64 s.faults.life.fires h hits.length } } }

/-- R332: a failed unit of the assembly read covers nozzle index `i`'s segment. -/
def segmentBad (d : Nat) (bad : List Nat) (i : Nat) : Bool :=
  let a := i / 64 * 64 * d
  bad.any (fun b => decide (512 * b < a + 64 * d) && decide (a < 512 * b + 512))

/-- R210 code 05h, R324: the assembly reads of a row's part of line `L`, in class FIRE, for the region of the head's link: the 64-byte units of the
head's line that gave no data, counted from its first. -/
def assemblyReads (u : Nat) (L : Int) (r : DotReads) (s : State) : List Nat × State :=
  let h := u / 2
  let e := envAt s L
  let base := (dotUnits s e h L 0 0).headD 0
  let (lo, n) := rowRange e h (u % 2)
  let s := strikeBytes (r.upset.map (fun x => (base * 64 + x.1, x.2))) s
  (dotUnits s e h L lo (lo + n - 1)).foldl (fun (a : List Nat × State) v =>
    let q := readUnit 0 5 (unitRegion (regionOf h)) v a.2
    (if 2 ≤ q.1 then a.1 ++ [v - base] else a.1, q.2)) ([], s)

/-- R324, R328, R349: the line goes out: FIRE and, unless every code is 0, its line data; `bad`: the units that gave no data. -/
def sendLine (u : Nat) (p : Prediction) (bad : List Nat) (s : State) : State :=
  let h := u / 2
  let r := u % 2
  let L := p.line
  let e := envAt s L
  if !lineHasDots s u L then sendFire u p true s
  else
    let d := dotDepth e ((planeOf e h).getD 0)
    let (lo, n) := rowRange e h r
    let all := ((dotsAt s h L).map (·.codes)).getD []
    let codes := (List.range n).map (fun i => if segmentBad d bad (lo + i) then 0 else all.getD (lo + i) 0)
    if codes.all (· == 0) then sendFire u p true s
    else
      let s := sendFire u p false s
      countFires h lo codes (emit (.lineData h r L d codes (groupCrcs d codes)) s)

/-- R431, R432: the first line of a bar fixes its mode and the generation that its commit is judged against. -/
def beginBars (L : Int) (s : State) : State :=
  { s with loop := { s.loop with bars := s.loop.bars.map (fun b =>
      if b.first ≤ L ∧ !b.begun then { b with begun := true, mode := (envAt s b.first).nat 0x6040 0, regPlane := (envAt s b.first).nat 0x604F 0, gen := s.proto.gen }
      else b) } }

/-- FIRE (R115 to R118, R324, R332): the send time of a row's next line. -/
def fireStep (u : Nat) (p : Prediction) (reads : DotReads) (s : State) : State :=
  let h := u / 2
  let L := p.line
  let s := if p.moved = 0 then s else ev 0x4014 (lineDetail u p.movedLines) s (line := atLine L)
  let s := beginBars L s
  let causes := lateCauses s u L p.ts reads.late
  let runs := !p.dropped && lineHasDots s u L && dotsReady s h L && (s.lane h).state == 6 && fireThermal s h p.ts != 2
  let (bad, s) := if runs then withLatencies reads.lats (assemblyReads u L reads) s else ([], s)
  let s := if p.dropped then
      let (held, s) := lateLine u L 4 (policyOf s 4) s
      if held then s else rowDone u p s
    else if (s.lane h).state ≠ 6 ∧ partnerDrives s h then rowDone u p s
    else match causes with
      | [] =>
        let s := rowDone u p (sendLine u p bad s)
        if bad.isEmpty then s.setRow u { s.row u with lateRun := 0 }
        else
          let s := s.setHead h { s.head h with lastC5 := tput none (s.head h).lastC5 (u % 2) (some L) }
          (lateLine u L 5 (policyOf s 5) s).2
      | c :: _ =>
        let s := if c = 2 then announceHot h L s else s
        let pol := (causes.map (policyOf s)).foldl max 0
        let (held, s) := lateLine u L c pol s (data := causes.contains 1)
        let s := if c = 3 ∧ (s.lane h).firstLate.isNone ∧ linePrints s L then s.setLane h { s.lane h with firstLate := some L } else s
        if held then s else rowDone u p (if (s.lane h).state = 6 then sendFire u p true s else s)
  checkReinDone (checkJob (checkPages (newPeriod u (predictRow u s))))

def execFire (dt : Nat) (head : Fin 64) (row : Fin 2) (line : Int) (reads : DotReads) (s : State) : Host.Outcome State Fault Refusal :=
  let s := tick dt s
  let u := 2 * head.val + row.val
  match (s.row u).pred with
  | none => ok s
  | some p => guardOk (p.line == line && decide (p.ts ≤ s.time.now) && gaitLive s && !(s.row u).held) (fireStep u p reads) s

end Sys2Proof.Machine
end

