-- ==== Sys2Proof/Machine/Line.lean ====
section
/-! DEFINITION. Timers of the speed limits (R133 to R135, R335) and the trigger outputs (R129, R130, R453). -/

namespace Sys2Proof.Machine

/-- A time of `n` ps has passed since a start, where there is one. -/
def since (s : State) (t : Option Nat) (n : Nat) : Bool := match t with | some x => decide (x + n ≤ s.time.now) | none => false

/-- SPEED_LIMIT_RISE (R133). -/
def execSpeedLimitRise (dt : Nat) (s : State) : Host.Outcome State Fault Refusal :=
  let s := tick dt s
  guardOk (since s s.gait.riseSince (100 * ms)) sendLimit s

/-- R134: LINE.OVERRATE. -/
def raiseOverrate (s : State) : State :=
  ev 0x4013 (lineDetail 0 (speedLines s)) { s with gait := { s.gait with overRaised := true } }

/-- LINE_OVERRATE (R134). -/
def execLineOverrate (dt : Nat) (s : State) : Host.Outcome State Fault Refusal :=
  let s := tick dt s
  guardOk (since s s.gait.overSince ms && !s.gait.overRaised) raiseOverrate s

/-- R335: the source-3 limit goes back to 400,000. -/
def endSlow (s : State) : State := limitChanged { s with gait := { s.gait with slowLimit := 400000, slowSince := none } }

/-- SLOW_HOLD_EXPIRY (R335). -/
def execSlowHoldExpiry (dt : Nat) (s : State) : Host.Outcome State Fault Refusal :=
  let s := tick dt s
  guardOk (since s s.gait.slowSince (cfgN s 0x7032 0 * sec)) endSlow s

/-- R453: a chip that does not lead drives no output: its occurrences count as missed if it takes over before its lead is heard again. -/
def noteUndriven (n : Nat) (s : State) : State :=
  if holdsLead s then s else s.setTrig n { s.trig n with undriven := (s.trig n).undriven + 1 }

/-- R129, R130: an output asserts for its width from instant `x` on, unless its previous pulse is still asserted then. -/
def pulse (n x : Nat) (s : State) : State :=
  let s := noteUndriven n s
  let t := s.trig n
  match t.pulseEnd with
  | some e => if x < e then trigMiss n 1 s else s.setTrig n { t with pulseEnd := some (x + trigWidth s n) }
  | none => s.setTrig n { t with pulseEnd := some (x + trigWidth s n) }

/-- R120, R129: the occurrence at `F` is produced at its instant, and the next one is predicted. -/
def occurrence (n : Nat) (F : Int) (x : Nat) (s : State) : State :=
  predictTrig n (pulse n x (s.setTrig n { s.trig n with mark := some F, pred := none }))

/-- TRIG_OCCURRENCE (R119, R120, R129, R130): the instant predicted for the output's next occurrence has come. -/
def execTrigOccurrence (dt : Nat) (trig : Fin 8) (s : State) : Host.Outcome State Fault Refusal :=
  let s := tick dt s
  match (s.trig trig).pred with
  | none => ok s
  | some (F, x) => guardOk (trigsRun s && s.axis.state == 1 && trigMode s trig == 1 && trigNextPos s trig == some F && decide (x ≤ s.time.now))
      (occurrence trig F x) s

/-- TIME_TRIGGER (R453). -/
def execTimeTrigger (dt : Nat) (trig : Fin 8) (s : State) : Host.Outcome State Fault Refusal :=
  let s := tick dt s
  let k := (s.trig trig).k
  guardOk (trigsRun s && trigMode s trig == 2 && decide (trigTime s trig k ≤ devTime s) && (k == 0 || (trigEnv s).nat 0x9042 trig != 0))
    (fun s => pulse trig s.time.now (s.setTrig trig { s.trig trig with k := k + 1 })) s

/-- TRIG_PULSE_END (R129). -/
def execTrigPulseEnd (dt : Nat) (trig : Fin 8) (s : State) : Host.Outcome State Fault Refusal :=
  let s := tick dt s
  guardOk (since s (s.trig trig).pulseEnd 0) (fun s => s.setTrig trig { s.trig trig with pulseEnd := none }) s

end Sys2Proof.Machine
end

