-- ==== Sys2Proof/Machine/Heads.lean ====
section
/-! DEFINITION. What a head reports: temperature and thermal state (R329 to R331), nozzle sense (R305), incomplete segments and
missed FIREs (R327, R347). -/

namespace Sys2Proof.Machine

/-- R320: a plane is assigned to the head at the datum. -/
def headAssigned (s : State) (h : Nat) : Bool := (planeOf (envNow s) h).isSome

def laneActive (s : State) (h : Nat) : Bool := (s.lane h).state == 6

/-- R357, R376: the bridge port that this device is wired to; FFh when it is not known. -/
def lanePort (s : State) (h : Nat) : Nat :=
  if tget 0 (s.lane h).caps 0 = 0 then 0xFF else (tget 0 (s.lane h).caps 5).toNat / 512 % 2

/-- R331: entry to HOT: later lines go blank, and a device commit inhibits the head's channels. -/
def goHot (h reason : Nat) (s : State) : State :=
  let s := s.setHead h { s.head h with thermal := 2, was := (s.head h).thermal, turned := some s.time.now, hotReason := reason, hotAnnounced := false, warmAnnounced := true, coolSince := none, inhibited := true }
  queueChange (headChange h { inhThermal := some true }) (lifeEvent 3 s)

/-- R330: since when every reading has been at or below a level. -/
def coolFrom (s : State) (x : Head) (temp level : Int) : Option Nat :=
  if temp ≤ level then some (x.coolSince.getD s.time.now) else none

/-- TEMPERATURE (R329, R330). -/
def takeReading (h : Nat) (temp : Int) (s : State) : State :=
  let hyst := cfg s 0x700C h
  let x := { s.head h with temp := temp, lastRead := some s.time.now }
  let low := decide (temp ≤ cfg s 0x700B h - hyst)
  let x := { x with inhSince := if x.inhibited && x.thermal != 2 && low then some (x.inhSince.getD s.time.now) else none }
  let s := s.setHead h x
  if !headAssigned s h then s
  else if x.thermal ≠ 2 ∧ cfg s 0x700B h ≤ temp then goHot h 1 s
  else match x.thermal with
    | 0 => if cfg s 0x700A h ≤ temp then s.setHead h { x with thermal := 1, was := 0, turned := some s.time.now, warmAnnounced := false, coolSince := none } else s
    | 1 => s.setHead h { x with coolSince := coolFrom s x temp (cfg s 0x700A h - hyst) }
    | _ => s.setHead h { x with coolSince := coolFrom s x temp (cfg s 0x700B h - hyst) }

def execTemperature (dt : Nat) (head : Fin 64) (temp : Int) (s : State) : Host.Outcome State Fault Refusal :=
  let s := tick dt s
  guardOk (laneActive s head) (takeReading head temp) s

/-- WARM_EXIT (R330). -/
def execWarmExit (dt : Nat) (head : Fin 64) (s : State) : Host.Outcome State Fault Refusal :=
  let s := tick dt s
  guardOk ((s.head head).thermal == 1 && since s (s.head head).coolSince (100 * ms))
    (fun s => s.setHead head { s.head head with thermal := 0, turned := none, warmAnnounced := false, coolSince := none }) s

/-- HOT_EXIT (R330): the head is WARM, and a device commit clears INH_THERMAL; NOZZLE.THERMAL goes out with that commit. A head whose flags
a sleep left set loses them alone. -/
def coolDown (h : Nat) (s : State) : State :=
  let x := s.head h
  let s := s.setHead h (if x.thermal = 2 then { x with thermal := 1, turned := none, hotAnnounced := true, coolSince := none, inhibited := false, inhSince := none }
    else { x with inhibited := false, inhSince := none })
  queueChange (headChange h { inhThermal := some false }) s

def execHotExit (dt : Nat) (head : Fin 64) (s : State) : Host.Outcome State Fault Refusal :=
  let s := tick dt s
  let x := s.head head
  guardOk (laneActive s head && ((x.thermal == 2 && since s x.coolSince (cfgN s 0x700D head * ms)) ||
    (x.inhibited && x.thermal != 2 && since s x.inhSince (cfgN s 0x700D head * ms)))) (coolDown head) s

/-- TELEMETRY_TIMEOUT (R330, R338): a lost link governs before the timeout. -/
def execTelemetryTimeout (dt : Nat) (head : Fin 64) (s : State) : Host.Outcome State Fault Refusal :=
  let s := tick dt s
  guardOk (laneActive s head && headAssigned s head && (s.head head).thermal != 2 && since s (s.head head).lastRead (cfgN s 0x700E head * ms))
    (goHot head 2) s

/-- NOZZLE_SENSE (R303, R305). -/
def senseReport (h i : Nat) (failed : Bool) (s : State) : State :=
  let k := channel h i
  let change := fun (p : NozPatch) => queueChange ⟨false, 1, [⟨k, 1, p⟩], [], none, none⟩ s
  if failed then change { base := some 2, source := some 1, onlyIf := some 1 }
  else change { source := some 3, onlyAt := some 1 }

def execNozzleSense (dt : Nat) (head : Fin 64) (nozzle : Nat) (failed : Bool) (s : State) : Host.Outcome State Fault Refusal :=
  let s := tick dt s
  guardOk (laneActive s head && (s.lane head).senseEn && decide (nozzle < headChans)) (senseReport head nozzle failed) s

/-- The line that a report names modulo 65,536: the newest one that the row has generated. -/
def reportedLine (s : State) (u line : Nat) : Int :=
  let l := rowFired s u
  l - (l - (line : Int)) % 65536

/-- R374: `Trace.Stats` of a lane. -/
def laneStat (h k m : Nat) (s : State) : State :=
  s.setLane h { s.lane h with stats := tmod 0 (s.lane h).stats k (· + BitVec.ofNat 64 m) }

/-- R327, R332, R338: line `L` of row `u` counts late by cause 5, once. -/
def lateOnce (u : Nat) (L : Int) (s : State) : State :=
  let h := u / 2
  if isWheeler s ∨ tget none (s.head h).lastC5 (u % 2) = some L then s
  else
    let s := s.setHead h { s.head h with lastC5 := tput none (s.head h).lastC5 (u % 2) (some L) }
    (lateLine u L 5 (policyOf s 5) s).2

/-- INCOMPLETE_SEGMENT (R327, R339). -/
def incompleteReport (h r line : Nat) (s : State) : State :=
  let u := 2 * h + r
  let L := reportedLine s u line
  let x := s.head h
  let times := s.time.now :: x.incTimes.filter (fun t => decide (s.time.now < t + sec))
  let due : Bool := match x.incAt with | some t => decide (t + sec ≤ s.time.now) | none => true
  let s := s.setHead h { x with incTimes := times, incAt := if due then some s.time.now else x.incAt }
  let s := if due then ev 0x7004 (headDetail h 0 0xFF times.length) s (line := atLine L) else s
  lateOnce u L (laneStat h 6 1 s)

/-- R354, R487: the report is of a line `L` that this chip's own FIRE strobed or lost, or, after a switch-over, of a line of the partner's above its
last mirrored log head. -/
def ownReport (s : State) (h src : Nat) (L : Int) : Bool :=
  lanePort s h == src || lanePort s h == 0xFF || (match s.pair.logHead with | some x => decide (x < L) | none => false)

def execIncompleteSegment (dt : Nat) (head : Fin 64) (row : Fin 2) (line : Reported) (s : State) : Host.Outcome State Fault Refusal :=
  let s := tick dt s
  guardOk (laneActive s head && ownReport s head line.src (reportedLine s (2 * head + row) line.value)) (incompleteReport head row line.value) s

/-- FIREs of row `u` from the one with this FSEQ on, and the line of the first of them. -/
def firesSince (s : State) (u fseq : Nat) : Nat := ((s.row u).fseq.toNat + 256 - fseq % 256) % 256

def missedFrom (s : State) (u fseq : Nat) : Int := rowFired s u - (firesSince s u fseq : Int) + 1

/-- MISSED_FIRES (R347): the lines of the FIREs from the expected FSEQ on. -/
def missedReport (h r fseq missing : Nat) (s : State) : State :=
  let u := 2 * h + r
  let first := missedFrom s u fseq
  forAll (List.range (min missing (firesSince s u fseq))) (fun i s => lateOnce u (first + i) s) (laneStat h 5 missing s)

def execMissedFires (dt : Nat) (head : Fin 64) (row : Fin 2) (fseq : Nat) (missing : Reported) (s : State) : Host.Outcome State Fault Refusal :=
  let s := tick dt s
  guardOk (laneActive s head && ownReport s head missing.src (missedFrom s (2 * head + row) fseq)) (missedReport head row fseq missing.value) s

end Sys2Proof.Machine
end

