-- ==== Sys2Proof/Machine/Trace.lean ====
section
/-! DEFINITION. The trace link lanes (R340 to R376): bring-up, capabilities, latency, retraining, bridge registers, eyes, lane power and
CLAIM. -/

namespace Sys2Proof.Machine

/-- R376: DETAIL of a trace link event. -/
def traceDetail (s : State) (h reason : Nat) (v : Int) : BitVec 96 := detail h reason (lanePort s h * 256) v

/-- Complete the handle that waits for a lane (R375). -/
def laneHandle (h code : Nat) (d : BitVec 96) (s : State) : State :=
  match (s.lane h).handle with
  | none => s
  | some w => completeWord w code d (s.setLane h { s.lane h with handle := none })

/-- R345, R540: the adaptation in force: a change holds from the SKIP that it waited for. -/
def adaptation (s : State) (h : Nat) : List Byte :=
  let x := s.lane h
  match x.adaptNext with
  | some (v, t) => if t ≤ s.time.now then v else x.adapt
  | none => x.adapt

/-- R345, R373: a wanted change of adaptation waits for the next SKIP; at which of the next 4,096 slots that is received is free. -/
def wantAdaptation (h : Nat) (v : List Byte) (s : State) : State :=
  let x := s.lane h
  let (k, s) := drawFree s
  s.setLane h { x with adapt := adaptation s h, adaptNext := some (v, s.time.now + (k % 4096 + 1) * slotPs x.rate) }

/-- R373: the register requests outstanding when a lane leaves ACTIVE end with 0401h. -/
def dropRequests (h : Nat) (s : State) : State :=
  let x := s.lane h
  let rs := x.requests ++ x.waiting
  let s := s.setLane h { x with requests := [], waiting := [], mgmt := [], mgmtSent := false, powerReq := none, measuring := false
                                adapt := adaptation s h, adaptNext := none }
  forAll (rs.filterMap (·.handle)) (fun w s => completeWord w 0x0401 0 s) s

/-- R359: training starts at the lane's rate. -/
def startTraining (h : Nat) (s : State) : State :=
  emit (.train h 0 0) (s.setLane h { s.lane h with state := 3, step := 2, capsTries := 0, capsIn := [], echoSum := 0, echoes := 0 })

/-- R359 step 1: bring-up of a lane starts. -/
def startBringUp (h reason : Nat) (s : State) : State :=
  s.setLane h { s.lane h with state := 1, step := 1, retrain := none, upReason := reason, rate := cfgN s 0x7041 h, power := 0, powerReq := none }

/-- R314: the identity that the capabilities exchange reports: words 08h..0Bh. -/
def capsIdentity (s : State) (h : Nat) : List Byte := [8, 9, 10, 11].flatMap (fun w => natBytes 4 (capWord s h w))

/-- R314: a head whose identity differs from the recorded one takes the defaults, and carries none of the old counts. -/
def checkIdentity (h : Nat) (s : State) : State :=
  let id := capsIdentity s h
  if tget [] s.noz.identity h = id then s
  else
    let others := fun (t : Tab NozCnt) => t.filter (fun e => chanHead e.1 != h)
    let l := s.faults.life
    let life := { l with retiredFires := min (l.retiredFires + tget 0 l.fires h) (2 ^ 64 - 1), fires := tput 0 l.fires h 0 }
    let s := { s with noz := { s.noz with identity := tput [] s.noz.identity h id, newHead := tput false s.noz.newHead h true
                                          dirty := tput false s.noz.dirty h true
                                          cnt := others s.noz.cnt, cntStored := others s.noz.cntStored }
                      faults := { s.faults with life := life } }
    let p := defaultPatch (envNow s) h
    let s := queueChange ⟨false, 3, [⟨channel h 0, headChans, p⟩], [], some h, none⟩ s
    ev 0x6012 (nozzleDetail h 0 (channel h 0) 0) s (line := atLine (datumLine s))

/-- R324, R360: the head's lines that are not placed yet are placed by the D_link in force. -/
def replaceLines (h : Nat) (s : State) : State := forAll [2 * h, 2 * h + 1] predictRow s

/-- R330, R347, R364: what starts anew as a lane enters ACTIVE: FSEQ of both rows, the telemetry timeout, and the send times. -/
def enterActive (h : Nat) (s : State) : State :=
  let s := forAll [2 * h, 2 * h + 1] (fun u s => s.setRow u { s.row u with fseq := 0 }) s
  replaceLines h (s.setHead h { s.head h with lastRead := some s.time.now })

/-- R359: a lane becomes ACTIVE. -/
def goActive (h : Nat) (s : State) : State :=
  let x := s.lane h
  let s := enterActive h (s.setLane h { x with state := 6, step := 0, retrain := none, firstLate := none, measuring := false, measuredAt := s.time.now, power := 0 })
  let s := s.setHead h { s.head h with lost := false }
  let s := ev 0x7010 (traceDetail s h x.upReason (x.rate * 2 ^ 56 + x.latency : Nat)) s
  let s := if tget 0 s.pair.owner h = 3 then
      ev 0xA006 (pairDetail h 0 s (rowNext s (2 * h))) { s with pair := { s.pair with owner := tput 0 s.pair.owner h 0 } }
    else s
  checkIdentity h (laneHandle h 0 0 s)

/-- R363, R490: the head of a failed lane is lost: to a single device, or to the pair when its bridge does not obey the partner. -/
def loseHead (h : Nat) (L : Int) (s : State) : State :=
  let s := s.setHead h { s.head h with lost := true }
  if isWheeler s ∨ partnerDrives s h then s
  else
    let s := if s.pair.state = 3 then
        raise 0xA006 1 (pairDetail h 1 s L) { s with pair := { s.pair with owner := tput 0 s.pair.owner h 3 } }
      else s
    queueChange (headChange h { absent := some true }) s

/-- R359, R363: the last attempt fails at a step. -/
def laneFailed (h step : Nat) (s : State) : State :=
  let x := s.lane h
  let first := x.firstLate.getD 0
  let s := s.setLane h { x with state := 9, step := 0, retrain := none }
  let s := ev 0x7012 (traceDetail s h step first) s (line := x.firstLate.elim none atLine)
  let s := if x.retrain.isSome then loseHead h first s else s
  let s := addFault 0x7012 1 2 (unitAddr 2 0 3 (regionOf h) 0 h) s
  let s := if (heldRows s).any (fun u => u / 2 == h) ∧ !isWheeler s then reinAbandon 9 s else s
  laneHandle h 0x0801 (BitVec.ofNat 96 step) s

/-- R362, R363: an ACTIVE lane retrains. -/
def startRetrain (h reason : Nat) (s : State) : State :=
  let limit := cfgN s 0x7050 0
  let s := dropRequests h s
  let s := s.setLane h { s.lane h with retrain := some (limit - 1), upReason := 1, firstLate := none }
  let s := { s with faults := { s.faults with life := { s.faults.life with retrains := satAdd 32 s.faults.life.retrains h 1 } } }
  startTraining h (ev 0x7011 (traceDetail s h reason limit) (laneStat h 4 1 s))

/-- A step of a bring-up or of a retrain attempt fails: the next rate, the next attempt, or FAILED (R359, R363). -/
def stepFailed (h step : Nat) (s : State) : State :=
  let x := s.lane h
  match x.retrain with
  | some (n + 1) => startTraining h (s.setLane h { x with retrain := some n })
  | some 0 => laneFailed h step s
  | none =>
    if x.state = 3 ∧ cfgN s 0x7042 h = 1 ∧ x.rate < 2 then startTraining h (s.setLane h { x with rate := x.rate + 1 })
    else laneFailed h step s

/-- TRACE_DETECT (R359): the termination is sensed. A lane that is DOWN with `Trace.Enable` 1 is one that start-up brings up (R361). -/
def senseBridge (h : Nat) (present : Bool) (s : State) : State :=
  let x := s.lane h
  if present then startTraining h (s.setLane h { x with openRaised := false })
  else
    let s := s.setLane h { x with state := 2, step := 0, openRaised := true, sensedAt := s.time.now }
    let s := if x.openRaised then s else ev 0x7013 (traceDetail s h 0 0) s
    laneHandle h 0x0801 1 s

/-- R359: the detection of an OPEN lane is repeated every 100 ms. -/
def senseDue (s : State) (h : Nat) : Bool := (s.lane h).state != 2 || decide ((s.lane h).sensedAt + 100 * ms ≤ s.time.now)

def execTraceDetect (dt : Nat) (head : Fin 64) (present : Bool) (s : State) : Host.Outcome State Fault Refusal :=
  let s := tick dt s
  guardOk (decide (s.power.state ≤ 1) && senseDue s head && ((s.lane head).state == 1 || (s.lane head).state == 2 || ((s.lane head).state == 0 && cfgN s 0x7043 head == 1)))
    (senseBridge head present) s

/-- BLOCK_LOCK (R359): steps 2 and 3 end, with the adaptation that training found; the device sends its own CAPS set (R357). -/
def locked (h : Nat) (adapt : List Byte) (s : State) : State :=
  let x := { s.lane h with adapt := adapt, adaptNext := none }
  let sn := Config.serial.toNat
  emit (.caps h [65536 + 4, h + x.rate * 256, sn / 2 ^ 32, sn % 2 ^ 32]) (s.setLane h { x with state := 4, step := 4, capsTries := 0, capsIn := [] })

def execBlockLock (dt : Nat) (lane : LockedLane) (s : State) : Host.Outcome State Fault Refusal :=
  let s := tick dt s
  guardOk ((s.lane lane.head).state == 3) (locked lane.head lane.adapt) s

/-- BRINGUP_STEP_FAIL (R359, R363, R373). No step of the table tells step 2 from step 3: in TRAIN the step is a free value of the two. -/
def bringupFail (h : Nat) (s : State) : State :=
  let x := s.lane h
  if x.state = 3 then
    let (v, s) := drawFree s
    stepFailed h (2 + v % 2) s
  else stepFailed h x.step s

def execBringupStepFail (dt : Nat) (head : Fin 64) (s : State) : Host.Outcome State Fault Refusal :=
  let s := tick dt s
  guardOk ((s.lane head).state == 3 || (s.lane head).state == 4 || (s.lane head).state == 5) (bringupFail head) s

/-! ### Capabilities (R357, R358) -/

/-- R358: why a set is refused, and its first failing word; none when it is accepted. -/
def capsRefusal (rate : Nat) (w : Nat → Option (BitVec 32)) : Option (Nat × Nat) :=
  match (List.range 12).find? (fun i => (w i).isNone) with
  | some i => some (1, i)
  | none =>
    let v := fun i => ((w i).map (·.toNat)).getD 0
    let n := v 1 % 65536
    let rows := v 1 / 65536 % 4
    let banks := v 1 / 262144 % 16
    let waves := v 1 / 4194304 % 32
    if v 0 / 65536 ≠ 1 then some (2, 0)
    else if banks < 2 then some (3, 1)
    else if v 5 / 2 ^ rate % 2 = 0 then some (4, 5)
    else if n < 64 ∨ 8192 < n ∨ n % 64 ≠ 0 ∨ rows < 1 ∨ 2 < rows ∨ waves < 1 ∨ 16 < waves then some (5, 1)
    else if v 6 < 1 ∨ 1000 < v 6 then some (5, 6)
    else none

/-- R356, R360: an echo request with the next SEQ. -/
def sendEcho (h : Nat) (s : State) : State :=
  let q := (s.lane h).echoSeq + 1
  queueMgmt h (.train h 1 q) (s.setLane h { s.lane h with echoSeq := q })

/-- CAPS (R358, R359 step 4): a set arrives; up to 3 tries. -/
def takeCaps (h : Nat) (words : List (Nat × BitVec 32)) (s : State) : State :=
  let x := s.lane h
  let got := words.foldl (fun t w => tput none t w.1 (some w.2)) x.capsIn
  match capsRefusal x.rate (tget none got) with
  | none =>
    let caps := (List.range 12).foldl (fun t i => tput 0 t i ((tget none got i).getD 0)) []
    sendEcho h (s.setLane h { x with state := 5, step := 5, capsIn := got, caps := caps, echoSum := 0, echoes := 0, measuring := true })
  | some (reason, word) =>
    if x.capsTries < 2 then s.setLane h { x with capsTries := x.capsTries + 1, capsIn := got }
    else
      let s := if x.retrain.getD 0 = 0 then ev 0x7016 (traceDetail s h reason word) s else s
      stepFailed h 4 s

def execCaps (dt : Nat) (head : Fin 64) (words : List (Nat × BitVec 32)) (s : State) : Host.Outcome State Fault Refusal :=
  let s := tick dt s
  guardOk ((s.lane head).state == 4) (takeCaps head words) s

/-! ### Latency (R360) -/

/-- R360: D_link from the sum of 64 loop times, to the nearest 100 ps. -/
def linkLatency (s : State) (h sum : Nat) : Nat :=
  let x := s.lane h
  let fixed := pathPs x.rate + slotPs x.rate
  let twice : Int := (128 * fixed : Nat) + (sum : Int) - (64 * capWord s h 4 : Nat)
  ((2 * twice + 12800) / 25600 * 100).toNat

/-- ECHO_REPLY (R360): `flight` is t_rx − t_tx in ps. After 64 echoes D_link is formed. -/
def takeEcho (h flight : Nat) (s : State) : State :=
  let x := s.lane h
  if x.echoes + 1 < 64 then sendEcho h (s.setLane h { x with echoes := x.echoes + 1, echoSum := x.echoSum + flight })
  else
    let s := s.setLane h { x with echoes := 0, echoSum := 0, measuring := false, latency := linkLatency s h (x.echoSum + flight) }
    if x.state = 5 then goActive h s else replaceLines h s

/-- R356: a reply that repeats another SEQ answers no request that stands. -/
def execEchoReply (dt : Nat) (head : Fin 64) (reply : EchoReply) (s : State) : Host.Outcome State Fault Refusal :=
  let s := tick dt s
  guardOk (((s.lane head).state == 5 || (s.lane head).state == 6) && (s.lane head).measuring && reply.seq == (s.lane head).echoSeq) (takeEcho head reply.flight) s

/-- LATENCY_MEASURE (R360). -/
def startMeasure (h : Nat) (s : State) : State :=
  sendEcho h (s.setLane h { s.lane h with measuring := true, measuredAt := s.time.now, echoes := 0, echoSum := 0 })

def execLatencyMeasure (dt : Nat) (head : Fin 64) (s : State) : Host.Outcome State Fault Refusal :=
  let s := tick dt s
  guardOk (laneActive s head && !(s.lane head).measuring && decide ((s.lane head).measuredAt + sec ≤ s.time.now)) (startMeasure head) s

/-! ### Retrain triggers (R362) -/

/-- R373: a retrain trigger while a Deep request is being served changes nothing. -/
def deepPending (s : State) (h : Nat) : Bool := (s.lane h).powerReq == some 2

def execLockLost (dt : Nat) (head : Fin 64) (s : State) : Host.Outcome State Fault Refusal :=
  let s := tick dt s
  guardOk (laneActive s head && !deepPending s head) (startRetrain head 1) s

def execErrorLimit (dt : Nat) (head : Fin 64) (failures : Nat) (s : State) : Host.Outcome State Fault Refusal :=
  let s := tick dt s
  guardOk (laneActive s head && !deepPending s head && decide (cfgN s 0x7051 0 < failures)) (startRetrain head 2) s

/-- TRACE_BLOCK_DISCARD (R343, R344, R374): a block that the receiver does not take is counted. -/
def execTraceBlockDiscard (dt : Nat) (head : Fin 64) (block : RxBlock) (s : State) : Host.Outcome State Fault Refusal :=
  let s := tick dt s
  match blockFault block.sync block.payload with
  | none => ok s
  | some k => ok (laneStat head k 1 s)

/-! ### Bridge registers (R355, R369 to R372) -/

/-- R355: the first tag free on a lane. -/
def freeTag (x : Lane) : Option Nat :=
  ((List.range 16).map (fun i => (x.tag + i) % 16)).find? (fun t => !x.requests.any (fun r => r.tag == t))

/-- R355: the oldest request that waits takes a free TAG and goes out. -/
def sendWaiting (h : Nat) (s : State) : State :=
  let x := s.lane h
  match x.waiting, freeTag x with
  | r :: rest, some t =>
    queueMgmt h (.config h t r.write r.addr r.data) (s.setLane h { x with tag := (t + 1) % 16, waiting := rest
                                                                          requests := x.requests ++ [{ r with tag := t, sentAt := s.time.now }] })
  | _, _ => s

/-- R355: ask for a register; with 16 requests outstanding it waits. -/
def sendConfig (h : Nat) (write : Bool) (addr : Nat) (data : BitVec 32) (handle : Option (BitVec 16)) (why : Nat) (s : State) : State :=
  let x := s.lane h
  sendWaiting h (s.setLane h { x with waiting := x.waiting ++ [⟨0, write, addr, data, s.time.now, handle, why⟩] })

/-- R355: a request is over: its TAG is free. -/
def freeRequest (h tag : Nat) (s : State) : State :=
  sendWaiting h (s.setLane h { s.lane h with requests := (s.lane h).requests.filter (fun q => q.tag != tag) })

/-- R368: an eye is judged: TRACE.EYE at most once per 60 s for each lane. -/
def judgeEye (h reason width height : Nat) (s : State) : State :=
  let x := s.lane h
  let low := decide ((width : Int) < cfgElem s 0x7052 0 0) || decide ((height : Int) < cfgElem s 0x7052 0 1)
  let due : Bool := match x.eyeAt with | some t => decide (t + 60 * sec ≤ s.time.now) | none => true
  if low && due then
    ev 0x7014 (traceDetail s h reason (width * 65536 + height : Nat)) (s.setLane h { x with eyeAt := some s.time.now })
  else s

/-- R364: the bridge has taken a lane power state: both ends go idle. -/
def powerTaken (h v : Nat) (s : State) : State :=
  let s := dropRequests h s
  s.setLane h { s.lane h with state := if v = 1 then 7 else 8, power := v }

/-- R369: registers whose value the device keeps: the bridge's counters (R362, R374), BR_CTRL and CLAIM_STATE. -/
def noteRegister (h addr : Nat) (data : BitVec 32) (s : State) : State :=
  let x := s.lane h
  if addr = 0x010 then s.setLane h { x with stats := tput 0 x.stats 1 (data.setWidth 64) }
  else if addr = 0x011 then s.setLane h { x with stats := tput 0 x.stats 2 (data.setWidth 64) }
  else if addr = 0x008 then s.setLane h { x with senseEn := data.getLsbD 1 }
  else if addr = 0x00B then s.setLane h { x with claim := data }
  else s

/-- R375: result of a register access from a bridge's answer: 0 success, 1 unknown address, 2 read-only, 3 refused value. -/
def configCode (status : Nat) : Nat :=
  if status = 0 then 0 else if status = 1 then 0x0301 else if status = 2 then 0x0202 else 0x0303

/-- CONFIG_RESPONSE (R355). -/
def takeResponse (h : Nat) (r : BridgeReq) (status : Nat) (data : BitVec 32) (s : State) : State :=
  let x := s.lane h
  let s := freeRequest h r.tag s
  let s := if status = 0 then noteRegister h r.addr (if r.write then r.data else data) s else s
  match r.why with
  | 0 => match r.handle with
    | some w => completeWord w (configCode status) (data.setWidth 96) s
    | none => s
  | 1 =>
    let v := x.powerReq.getD 0
    if status = 0 ∧ v ≠ 0 then powerTaken h v s else s.setLane h { s.lane h with powerReq := none }
  | _ =>
    if status ≠ 0 then s
    else
      let width := data.toNat / 65536
      let height := data.toNat % 65536
      judgeEye h 1 width height (s.setLane h { s.lane h with eye := [width, height, x.eye.getD 2 0, x.eye.getD 3 0] })

def execConfigResponse (dt : Nat) (head : Fin 64) (tag status : Nat) (data : BitVec 32) (s : State) : Host.Outcome State Fault Refusal :=
  let s := tick dt s
  match (s.lane head).requests.find? (fun q => q.tag == tag) with
  | none => ok s
  | some r => ok (takeResponse head r status data s)

/-- R350: a register request that waits for a line period. -/
def unsent (s : State) (h tag : Nat) : Bool := (s.lane h).mgmt.any (fun o => match o with | .config _ t _ _ _ => t == tag | _ => false)

/-- CONFIG_TIMEOUT (R355, R375): a request without a response for 100 µs is lost. -/
def requestLost (h : Nat) (r : BridgeReq) (s : State) : State :=
  let x := s.lane h
  let s := freeRequest h r.tag (s.setLane h { x with powerReq := if r.why = 1 then none else x.powerReq })
  match r.handle with
  | some w => completeWord w 0x0901 0 s
  | none => s

def execConfigTimeout (dt : Nat) (head : Fin 64) (tag : Nat) (s : State) : Host.Outcome State Fault Refusal :=
  let s := tick dt s
  match (s.lane head).requests.find? (fun q => q.tag == tag) with
  | none => ok s
  | some r => guardOk (decide (r.sentAt + 100 * us ≤ s.time.now) && !unsent s head tag) (requestLost head r) s

/-- EYE_READ (R368): the upstream eye as the device's monitor finds it; the bridge's register EYE is read. -/
def readEye (h width height : Nat) (s : State) : State :=
  let x := s.lane h
  let s := s.setLane h { x with eye := [x.eye.getD 0 0, x.eye.getD 1 0, width, height], eyeReadAt := some s.time.now }
  sendConfig h false 0x020 0 none 2 (judgeEye h 2 width height s)

/-- R345: `adapt` is the adaptation that the receiver then wants. -/
def execEyeRead (dt : Nat) (head : Fin 64) (eye : Eye) (adapt : Option (List Byte)) (s : State) : Host.Outcome State Fault Refusal :=
  let s := tick dt s
  guardOk (laneActive s head && (match (s.lane head).eyeReadAt with | some t => decide (t + sec ≤ s.time.now) | none => true))
    (fun s => adapt.elim id (wantAdaptation head) (readEye head eye.width eye.height s)) s

/-! ### Lane power (R364) -/

/-- R364: leave a low power state. -/
def laneWake (h reason : Nat) (s : State) : State :=
  let x := s.lane h
  if x.state = 7 then enterActive h (s.setLane h { x with state := 6, power := 0 })
  else if x.state = 8 then startTraining h (s.setLane h { x with upReason := reason, retrain := none, power := 0 })
  else s

/-- R364: a power state is requested of a lane. -/
def lanePower (h v : Nat) (s : State) : State :=
  if v = 0 then laneWake h 2 s
  else if laneActive s h then sendConfig h true 0x00C (BitVec.ofNat 32 v) none 1 (s.setLane h { s.lane h with powerReq := some v })
  else s

/-- R361: a lane is taken DOWN. -/
def laneDown (h : Nat) (s : State) : State :=
  let s := dropRequests h s
  laneHandle h 0x0401 0 (s.setLane h { s.lane h with state := 0, step := 0, retrain := none, openRaised := false })

/-! ### CLAIM (R365, R489) -/

/-- R489: MODE of the CLAIM that this chip sends on a lane; none when it sends none. -/
def claimMode (s : State) (h : Nat) : Option Nat :=
  let own := tget 0 s.pair.owner h
  if s.pair.state = 0 then some 1
  else if holdsLead s then some (if own = 2 then 0 else 1)
  else if s.pair.state = 5 then some (if own = 1 then 1 else 0)
  else if (s.pair.state = 4 ∨ s.pair.state = 6) ∧ own = 1 then some 1
  else none

/-- CLAIM_SEND (R365). -/
def execClaimSend (dt : Nat) (head : Fin 64) (s : State) : Host.Outcome State Fault Refusal :=
  let s := tick dt s
  match claimMode s head with
  | none => ok s
  | some m => guardOk (laneActive s head && !s.faults.stopped)
      (fun s => emit (.claim head m s.pair.epoch) s) s

end Sys2Proof.Machine
end

