-- ==== Sys2Proof/Machine/Pipeline.lean ====
section
/-! DEFINITION. The camera pipeline (R408 to R411): from the pixels of a frame to plane separations, column profiles, marks, overlap
alignment and statistics records, and SLICE_DONE. -/

namespace Sys2Proof.Machine

/-! ### Pixels (R408) -/

/-- Channels of a pixel. -/
def chanCount (dtype : Nat) : Nat := if dtype = 0x24 then 3 else 1

/-- R399: a stored line's bytes. -/
def packLine (dtype : Nat) (px : List Nat) : List Byte :=
  let b := if dtype = 0x2B then px.flatMap (natBytes 2) else px.map (fun v => BitVec.ofNat 8 v)
  b ++ List.replicate ((64 - b.length % 64) % 64) 0

/-- The channel values of a stored line. -/
def unpackLine (dtype n : Nat) (b : List Byte) : List Nat :=
  if dtype = 0x2B then (List.range n).map (fun i => beNat ((b.drop (2 * i)).take 2)) else (b.take n).map (·.toNat)

/-- R408: widening, then dark and flat, then absorbance, of channel `j` of pixel `x`. A sensor without a table has its identity. -/
def absorbance (x : Sensor) (dtype : Nat) (i j r : Nat) : Nat :=
  let n := chanCount dtype
  let v := widen (if dtype = 0x2B then 10 else 8) r
  let d := match x.dark with | some t => t.getD (i * n + j) 0 | none => 0
  let k := match x.flat with | some t => t.getD (i * n + j) 4096 | none => 4096
  let c := (min (max (((v : Int) - d) * k / 4096) 0) 4095).toNat
  match x.absorb with
  | some t => t.getD (j * 4096 + c) 0
  | none => c * 16

/-- R408: the separation of plane `p`. -/
def separation (e : Env) (p : Nat) (a : List Nat) : Nat :=
  let w := fun k => e.elem 0x8020 (p + 1) k
  let sum := w 0 * (a.getD 0 0 : Nat) + (if a.length = 3 then w 1 * (a.getD 1 0 : Nat) + w 2 * (a.getD 2 0 : Nat) else 0)
  (min (max (sum / 4096 + w 3) 0) 65535).toNat

/-- s_p of pixel `i` of a line. -/
def pixelSep (s : State) (e : Env) (n dtype p : Nat) (line : List Nat) (i : Nat) : Nat :=
  let c := chanCount dtype
  separation e p ((List.range c).map (fun j => absorbance (s.sensor n) dtype i j (line.getD (i * c + j) 0)))

/-! ### Where a pixel lies (R393, R408, R409) -/

/-- Cross-web position of pixel `i`'s centre, in 1/16 pm: CROSS + i × PITCH + alignment. -/
def pixelPos (x : SensorCfg) (align : Int) (i : Nat) : Int := x.cross * 1600000 + 16 * (i * x.pitch : Nat) + align * x.pitch

/-- The sensor's coverage. -/
def sensorSpan (x : SensorCfg) (align : Int) : Int × Int := (pixelPos x align 0, pixelPos x align (x.width - 1))

/-- R322: the print column of plane `p` nearest to a position. -/
def columnAt (e : Env) (p : Nat) (pos : Int) : Int := roundDiv (pos * e.int 0x7020 (p + 1)) 406400000000

/-- R408: of pixels in an overlap, each sensor keeps those on its own side of the midpoint. -/
def keepsPixel (s : State) (e : Env) (n : Nat) (align pos : Int) : Bool :=
  let a := sensorSpan (sensorCfg e n) align
  (sensorNums.filter (fun g => g != n && (sensorCfg e g).enable)).all (fun g =>
    let b := sensorSpan (sensorCfg e g) (s.sensor g).align
    let lo := max a.1 b.1
    let hi := min a.2 b.2
    if hi < lo ∨ pos < lo ∨ hi < pos then true
    else if a.1 < b.1 ∨ (a.1 = b.1 ∧ n < g) then decide (2 * pos < lo + hi) else decide (lo + hi ≤ 2 * pos))

/-! ### Lines of a frame -/

/-- Camera lines that were received, ascending. -/
def receivedLines (f : Frame) : List Nat := ((List.range f.linesCfg).filter (fun m => !f.missed.contains m)).take f.got

/-- The channel values of camera line `m`: as it arrived, or from the store. -/
def frameLine (s : State) (f : Frame) (dtype m : Nat) : List Nat :=
  match f.pixels.find? (fun l => l.1 == m) with
  | some l => l.2
  | none =>
    let n := lineStride f.width dtype
    unpackLine dtype (f.width * chanCount dtype) ((List.range (n / 64)).flatMap (fun i => unitData s ((f.address + m * n) / 64 + i)))

/-- R410 code 08h, R415: the pipeline reads a stored frame: a line with a unit that gives no data is excluded, and the frame is marked. -/
def readFrame (n : Nat) (k : BitVec 32) (s : State) : State :=
  match frameOf s n k with
  | none => s
  | some f =>
    if f.has ffInline ∨ f.space = 0 then s
    else
      let dtype := (sensorCfg (envAt s (lineOf f.first)) n).dtype
      let stride := lineStride f.width dtype
      forAll (receivedLines f) (fun m s =>
        let units := (List.range (stride / 64)).map (fun i => (f.address + m * stride) / 64 + i)
        let (bad, s) := units.foldl (fun (a : Bool × State) u =>
          let r := readUnit 1 8 (unitSlice (f.slice.getD 0)) u a.2
          (a.1 || decide (2 ≤ r.1), r.2)) (false, s)
        if bad then
          modFrame n k (fun g => ({ g with excluded := if g.excluded.contains m then g.excluded else g.excluded ++ [m] }.flag ffUe).flag ffDamaged) s
        else s) s

/-! ### Windows (R410, R420) -/

/-- A window: its number, first web line, lines, planes. -/
structure Window where
  num : Nat
  first : Int
  lines : Nat
  planes : List Nat
  marks : Bool := false
  deriving DecidableEq, Repr

/-- R410: the host's windows at a line. -/
def hostWindows (e : Env) : List Window :=
  (List.range 8).filterMap (fun i =>
    let b := Val.oct (e 0x8060 (i + 1))
    let mask := beNat ((b.drop 12).take 2)
    if b.length = 16 ∧ 0 < beNat ((b.drop 8).take 4) then
      some ⟨i + 1, (BitVec.ofNat 64 (beNat (b.take 8))).toInt, beNat ((b.drop 8).take 4), (List.range 16).filter (fun p => mask / 2 ^ p % 2 == 1), false⟩
    else none)

/-- R420: the windows of a bar: quiet for the planes of its slots, marks, rungs and steps. -/
def barWindows (s : State) (b : Bar) : List Window :=
  let e := envAt s b.first
  let q := e.nat 0x6042 0
  let k := e.nat 0x6043 0
  let rl := e.nat 0x6044 0
  let sl := e.nat 0x6045 0
  let slot := fun (x : Nat × Nat) =>
    let si : Int := b.first + q + 48 + x.2 * slotLines e
    (List.range k).map (fun r => (⟨0x90 + r, si + r * rl + 8, rl - 16, [x.1], false⟩ : Window)) ++
      (List.range 7).map (fun m => (⟨0xB1 + m, si + k * rl + m * sl + 8, sl - 16, [x.1], false⟩ : Window))
  [⟨0x80, b.first + 8, q - 16, b.slots.eraseDups, false⟩, ⟨0x81, b.first + q, 48, (activePlanes e).filter (· ≠ b.regPlane), true⟩] ++
    (b.slots.zip (List.range b.slots.length)).flatMap slot

/-- Every window in force for a frame. -/
def allWindows (s : State) (f : Frame) : List Window :=
  hostWindows (envAt s (lineOf f.first)) ++ s.loop.bars.flatMap (barWindows s)

/-- First position below a window, and the first above it. -/
def Window.start (w : Window) : Int := w.first * oneLine
def Window.stop (w : Window) : Int := (w.first + w.lines) * oneLine

/-- The web position after a frame's last camera line delivered. -/
def frameEnd (f : Frame) : Int := f.first + ofLpos (f.lines * f.pitch : Nat)

/-- R410: the frame holds the window whole. -/
def holdsWindow (f : Frame) (w : Window) : Bool := decide (f.first ≤ w.start) && decide (w.stop ≤ frameEnd f)

/-- The camera lines that image a window. -/
def windowLines (f : Frame) (w : Window) : List Nat :=
  (List.range f.linesCfg).filter (fun m => decide (w.start ≤ f.first + ofLpos (m * f.pitch : Nat)) && decide (f.first + ofLpos (m * f.pitch : Nat) < w.stop))

/-- Of those, the lines that statistics use (R410). -/
def usedLines (f : Frame) (w : Window) : List Nat :=
  let got := receivedLines f
  (windowLines f w).filter (fun m => got.contains m && !f.excluded.contains m)

/-! ### Profiles and marks (R410) -/

/-- Pixels that the frame's sensor keeps, with their print column in plane `p`. -/
def keptPixels (s : State) (e : Env) (f : Frame) (p : Nat) : List (Nat × Int) :=
  (List.range f.width).filterMap (fun i =>
    let x := pixelPos (sensorCfg e f.sensor) f.align i
    if keepsPixel s e f.sensor f.align x then some (i, columnAt e p x) else none)

/-- R410: the mean at a column, rounded to nearest; FFFFh without a pixel. -/
def meanAt (vals : List Nat) : Int :=
  if vals.isEmpty then 65535 else roundDiv ((vals.foldl (· + ·) 0 : Nat) : Int) vals.length

/-- R410, R411: the column profile of plane `p` in a window. -/
def profileRecord (s : State) (f : Frame) (w : Window) (p : Nat) : StatRec :=
  let e := envAt s (lineOf f.first)
  let dtype := (sensorCfg e f.sensor).dtype
  let px := keptPixels s e f p
  let lo := minOf (px.map (·.2))
  let hi := maxOf (px.map (·.2))
  let used := usedLines f w
  let lines := used.map (frameLine s f dtype)
  let cols := (List.range (hi - lo + 1).toNat).map (fun (i : Nat) =>
    meanAt (lines.flatMap (fun l => (px.filter (fun x => x.2 == lo + i)).map (fun x => pixelSep s e f.sensor dtype p l x.1))))
  ⟨f.frame, f.sensor, 1, p, w.num, f.expGen, f.flags, w.first, lo, used.length, (windowLines f w).length - used.length, if px.isEmpty then [] else cols, []⟩

/-- R429: the search of a mark or companion of row `u`: columns of plane `p` and lines from the bar's first. -/
structure Search where
  row : Nat
  companion : Bool
  plane : Nat
  col : Int
  top : Int
  deriving DecidableEq, Repr

/-- R422, R429: the searches of a bar for plane `p`. -/
def markSearches (s : State) (b : Bar) (p : Nat) : List Search :=
  let e := envAt s b.first
  (rowsOf e p).flatMap (fun u =>
    let top : Int := b.first + e.nat 0x6042 0 + 8 + 16 * (u % 2 : Nat)
    [⟨u, false, p, markColumn e u, top⟩, ⟨u, true, b.regPlane, refColumn e b.regPlane p (markColumn e u + 96), top⟩])

/-- R410: mark finding in one search window. The rule that tells a mark's pixels from the rest is not given: centroid and area are free
values of what the window holds, within it (assumption log 30). The peak is the largest s_p. -/
def findMark (s : State) (f : Frame) (x : Search) : Option MarkRec :=
  let e := envAt s (lineOf f.first)
  let dtype := (sensorCfg e f.sensor).dtype
  let px := (keptPixels s e f x.plane).filter (fun y => decide (x.col - 48 ≤ y.2) && decide (y.2 ≤ x.col + 48))
  let w : Window := ⟨0x81, x.top - 7, 30, [x.plane], true⟩
  let lines := usedLines f w
  if px.isEmpty then none
  else
    let vals := lines.flatMap (fun m => px.map (fun y => pixelSep s e f.sensor dtype x.plane (frameLine s f dtype m) y.1))
    let key : List Int := ([(x.row : Int), if x.companion then 1 else 0, f.sensor] : List Int) ++ vals.map Int.ofNat
    let xs := px.map (fun y => pixelPos (sensorCfg e f.sensor) f.align y.1 / 1600000)
    some ⟨x.row, x.companion, (x.top - 7) * 65536 + Config.freeOf 410 (0 :: key) % 1966080, minOf xs + Config.freeOf 410 (1 :: key) % (maxOf xs - minOf xs + 1),
      (Config.freeOf 410 (2 :: key) % ((vals.length : Int) + 1)).toNat, vals.foldl max 0⟩

/-- R410, R411: the mark record of plane `p`. -/
def markRecord (s : State) (f : Frame) (b : Bar) (w : Window) (p : Nat) : StatRec :=
  let used := usedLines f w
  ⟨f.frame, f.sensor, 2, p, w.num, f.expGen, f.flags, w.first, 0, used.length, (windowLines f w).length - used.length, [],
    (markSearches s b p).filterMap (findMark s f)⟩

/-- R410, R411: the records of a frame. -/
def frameRecords (s : State) (f : Frame) : List StatRec :=
  let plain := (allWindows s f).filter (fun w => !w.marks && holdsWindow f w)
  let e := envAt s (lineOf f.first)
  plain.flatMap (fun w => (w.planes.filter (fun p => (activePlanes e).contains p)).map (profileRecord s f w)) ++
    s.loop.bars.flatMap (fun b => ((barWindows s b).filter (fun w => w.marks && holdsWindow f w)).flatMap (fun w => w.planes.map (markRecord s f b w)))

/-! ### Overlap alignment (R409) -/

/-- Pixels of overlap of two sensors' coverage, in pixels of the second. -/
def overlapPixels (a b : SensorCfg) (aa ab : Int) : Int :=
  let x := sensorSpan a aa
  let y := sensorSpan b ab
  (min x.2 y.2 - max x.1 y.1) / (16 * max 1 b.pitch : Nat)

/-- Flags that shut a frame out of alignment. -/
def badForAlign (f : Frame) : Bool := f.has ffDamaged || f.has ffMissing || f.has ffDropped

/-- R409: the pair of frames of equal FIRST: the shift of the higher sensor and the correlation peak. The correlation's formula is not given:
both are free values of the two profiles (assumption log 30). -/
def alignPair (f g : Frame) (s : State) : State :=
  let (a, b) := if f.sensor < g.sensor then (f, g) else (g, f)
  let w : Window := ⟨0, lineOf a.first, a.lines, [], false⟩
  let e := envAt s (lineOf a.first)
  let p := (activePlanes e).headD 0
  let data := [(a.sensor : Int), b.sensor, a.frame.toNat, b.frame.toNat] ++ (profileRecord s a w p).entries ++ (profileRecord s b w p).entries
  let shift := Config.freeOf 409 (0 :: data)
  let peak := Config.freeOf 409 (1 :: data) % 65537
  if -256 ≤ shift ∧ shift ≤ 256 ∧ 32768 ≤ peak then
    let r : StatRec := ⟨b.frame, b.sensor, 3, 0, 0, b.expGen, b.flags, lineOf b.first, 0, b.lines, 0, [shift], []⟩
    let s := s.setSensor b.sensor { s.sensor b.sensor with align := shift }
    { s with insp := { s.insp with stats := s.insp.stats ++ [r] } }
  else
    ev 0x8006 (inspDetail b.sensor (if peak < 32768 then 1 else 2) b.flags peak) s (line := some b.first)

/-- R409: alignment against each overlapping sensor whose frame of equal FIRST has been processed. -/
def alignFrame (f : Frame) (s : State) : State :=
  if badForAlign f then s
  else
    let e := envAt s (lineOf f.first)
    let partners := s.insp.log.filter (fun g => g.sensor != f.sensor && g.first == f.first && g.processed && !g.noStats && !badForAlign g &&
      (let (a, b) := if f.sensor < g.sensor then (f, g) else (g, f)
       decide (64 ≤ overlapPixels (sensorCfg e a.sensor) (sensorCfg e b.sensor) a.align b.align)))
    forAll partners (alignPair f) s

/-! ### SLICE_DONE (R411) -/

/-- R410: windows that end at or below the end of a frame just judged, and that no frame of any sensor holds or may yet hold whole, are counted once. -/
def missWindows (f : Frame) (s : State) : State :=
  let stop := f.first + ofLpos (f.linesCfg * f.pitch : Nat)
  forAll ((allWindows s f).filter (fun w => decide (w.stop ≤ stop) && !s.insp.windowsSeen.contains (w.num, w.first))) (fun w s =>
    let seen := { s with insp := { s.insp with windowsSeen := (w.num, w.first) :: s.insp.windowsSeen } }
    if (s.insp.frames ++ s.insp.log).any (fun g => holdsWindow g w) then seen
    else if (openFrames s).any (fun g => decide (g.first ≤ w.start) && decide (w.stop ≤ g.first + ofLpos (g.linesCfg * g.pitch : Nat))) then s
    else { seen with insp := { seen.insp with windowsMissed := seen.insp.windowsMissed + 1 } }) s

/-- R411: the records kept are those of the frames in the frame log (assumption log 31). -/
def keepRecords (s : State) : State :=
  { s with insp := { s.insp with stats := s.insp.stats.filter (fun r => s.insp.log.any (fun f => f.is r.sensor r.frame) || s.insp.frames.any (fun f => f.is r.sensor r.frame)) } }

/-- R416: 8044h Insp.SliceStats; the busy cycles are a free value. -/
def sliceCount (k : Nat) (f : Frame) (s : State) : State :=
  let (c, s) := drawFree s
  let t := tinc s.insp.sliceStats (4 * k)
  let t := tmod 0 t (4 * k + 1) (· + BitVec.ofNat 64 (f.width * f.lines))
  { s with insp := { s.insp with sliceStats := tmod 0 t (4 * k + 2) (· + BitVec.ofNat 64 c) } }

/-- The frame whose statistics slice `k` completes: the oldest closed frame that it holds. -/
def sliceFrame (s : State) (k : Nat) : Option Frame := s.insp.frames.find? (fun f => f.slice == some k && f.ended && !f.processed)

/-- R411: a frame's statistics are complete. -/
def sliceDone (k : Nat) (f : Frame) (s : State) : State :=
  let s := readFrame f.sensor f.frame s
  let f := (frameOf s f.sensor f.frame).getD f
  let s := if f.noStats then s else { s with insp := { s.insp with stats := s.insp.stats ++ frameRecords s f } }
  let s := modFrame f.sensor f.frame (fun g => { g with processed := true, slice := none }) s
  let s := if f.noStats then s else alignFrame f s
  let s := sliceCount k f (missWindows f s)
  let s := frameDone f s
  noteBacklog (assignSlices (keepRecords (freeFrames s)))

/-- SLICE_DONE (R411). -/
def execSliceDone (dt : Nat) (slice : Fin 4) (s : State) : Host.Outcome State Fault Refusal :=
  let s := tick dt s
  match sliceFrame s slice with
  | some f => guardOk (captureRuns s && !tget false s.insp.sliceFailed slice) (sliceDone slice f) s
  | none => ok s

end Sys2Proof.Machine
end

