-- ==== Sys2Proof/Machine/Inspection.lean ====
section
/-! DEFINITION. Inspection capture: line triggers of a camera port (R396, R397), frames and exposures at a frame trigger (R400, R405,
R406), received packets (R402, R403) and the steps of the chapter. -/

namespace Sys2Proof.Machine

/-! ### Exposure (R404 to R406) -/

/-- R404: an entry of a write list: I²C address, flags, register, data. -/
def exposureEntries (b : List Byte) : List (Nat × Nat × Nat × Nat) :=
  (List.range (b.length / 8)).map (fun i =>
    let x := b.drop (8 * i)
    ((x.getD 0 0).toNat % 128, (x.getD 1 0).toNat, beNat ((x.drop 2).take 2), beNat ((x.drop 4).take 4)))

/-- The bytes that an entry sends after the address. -/
def entryData (x : Nat × Nat × Nat × Nat) : List Byte :=
  natBytes (if x.2.1 % 2 = 1 then 2 else 1) x.2.2.1 ++ natBytes (if x.2.1 / 2 % 2 = 1 then 2 else 1) x.2.2.2

/-- R394, R413: the lead's CCI master sends a list's entries in order. -/
def sendList (c n : Nat) (L : Int) (s : State) : State :=
  if isWheeler s then s
  else forAll (exposureEntries (Val.oct (govVal s L 0x8011 n).1)) (fun x s => emit (.cci c x.1 (entryData x)) s) s

/-- R405: a list is due: an empty one is complete; any other is in progress, or waits for a host transfer to end (R394). -/
def startList (c n : Nat) (L : Int) (s : State) : State :=
  let g := (govVal s L 0x8011 n).2
  let x := s.sensor n
  if (Val.oct (govVal s L 0x8011 n).1).isEmpty then s.setSensor n { x with expSent := g, expDone := g, expOpen := none, expRun := false }
  else
    let s := s.setSensor n { x with expSent := g, expOpen := some g, expRun := true }
    if (s.camPort c).cciHandle.isSome then s else sendList c n L s

/-- R406: a list stops: INSP.CCI_FAULT with the entry reached. -/
def failList (c n entry : Nat) (s : State) : State :=
  let x := s.sensor n
  ev 0x8005 (inspDetail c (entry % 16) 0 (x.expOpen.getD 0).toNat) (s.setSensor n { x with expRun := false })

/-- R405, R406: exposure of a sensor at a frame trigger for a frame whose first web line is `L`. A list still in progress fails, and starts
again at the next frame trigger unless a later one is due. -/
def exposureTrigger (c n : Nat) (L : Int) (s : State) : State :=
  let x := s.sensor n
  let s := s.setSensor n { x with expHist := ((x.expDone, x.expOpen) :: x.expHist).take 3 }
  let g := (govVal s L 0x8011 n).2
  let s := if x.expRun then
      let (k, s) := drawFree s
      failList c n k s
    else s
  if g ≠ x.expSent then startList c n L s
  else if x.expOpen.isSome ∧ !x.expRun then startList c n L s
  else s

/-! ### Frame triggers (R400, R403, R407, R412) -/

/-- R405: EXPGEN and EXP_FAULT of the frame whose trigger has just been sampled. -/
def frameExposure (x : Sensor) (latency : Nat) : BitVec 32 × Bool :=
  let h := x.expHist.getD (latency - 1) (0, none)
  (h.2.getD h.1, h.2.isSome)

/-- R399, R400: a frame opens at its trigger. `m` is the camera line of that trigger: the lines before it are missed. -/
def openFrame (c n : Nat) (F : Int) (lines m : Nat) (s : State) : State :=
  let e := envAt s (lineOf F)
  let y := sensorCfg e n
  let x := s.sensor n
  let at' := (s.camPort c).lastTrig.getD s.time.now
  let inl := inlinePort s e == some c
  let (exp, fault) := frameExposure x y.latency
  let retake : Bool := match s.rein.wOld with | some w => decide (lpos s < w) | none => false
  let kept := !inl || cfg s 0x8006 1 = 1
  let size := frameBytes y.width y.dtype lines
  let place := if kept then placeFrame s size else none
  let dropped := kept && place.isNone
  let flags := (if inl then [ffInline] else []) ++ (if 0 < m then [ffLineMiss] else []) ++ (if fault then [ffExpFault] else []) ++
    (if retake then [ffRetake] else []) ++ (if dropped then [ffDropped] else [])
  let f : Frame := { frame := x.frame, sensor := n, port := c, vc := y.vc, flags := flagMask flags, width := y.width, linesCfg := lines,
                     missed := List.range m, first := F, pitch := e.nat 0x8002 c, trigTime := at' + s.time.epoch, trigAt := at', expGen := exp,
                     gen := genAt s (lineOf F), address := place.getD 0, rein := if retake then s.rein.count.toNat % 256 else 0,
                     space := if place.isSome then size else 0, align := x.align, noStats := dropped, slice := if inl then inlineSlice s else none }
  let s := s.setSensor n { x with frame := x.frame + 1, inForce := exp }
  let s := { s with insp := { s.insp with frames := s.insp.frames ++ [f] } }
  match place with
  | some a => { s with insp := { s.insp with alloc := a - (inspRange s).1 + size } }
  | none =>
    if dropped then
      ev 0x8003 (inspDetail n 0 f.flags f.frame.toNat) { s with insp := { s.insp with dropped := s.insp.dropped + 1 } } (line := some F)
    else s

/-- R403: open frames of the port end at its next frame trigger. -/
def endFrames (c : Nat) (s : State) : State :=
  forAll ((openFrames s).filter (fun f => f.port == c)) (fun f s => closeFrame f.sensor f.frame [if f.started then ffShort else ffMissing] s) s

/-- A frame trigger: earlier frames end, the sensors' exposures are sampled and started, their frames open. -/
def frameTrigger (c : Nat) (F : Int) (lines m : Nat) (s : State) : State :=
  let e := envAt s (lineOf F)
  forAll (portSensors e c) (fun n s => openFrame c n F lines m (exposureTrigger c n (lineOf F) s)) (endFrames c s)

/-- R396, R413: a 200 ns pulse on an output, driven by the lead alone. -/
def camPulse (c n : Nat) (frame : Bool) (s : State) : State :=
  if isWheeler s then s
  else emit (.camTrigger c frame) (s.setTrig n { s.trig n with pulseEnd := some ((s.camPort c).lastTrig.getD s.time.now + 200 * ns) })

/-- R397: a line trigger falls due at instant `t`: produced above the mark and not too soon after the last, else the camera line is missed. -/
def lineTrigger (c : Nat) (d : LineDue) (t : Nat) (s : State) : State :=
  let e := envAt s (lineOf d.first)
  let s := if d.new then
      let s := s.setCamPort c { s.camPort c with frameF := some d.first, frameLines := d.lines, m := 0, frameTrig := false, rearmed := false }
      if portMode e c = 3 then { s with insp := { s.insp with requestsDone := (c, d.first) :: s.insp.requestsDone } } else s
    else s
  let p := s.camPort c
  let soon : Bool := match p.lastTrig with | some x => decide (t < x + e.nat 0x8007 c * ns) | none => false
  let above : Bool := match p.mark with | some m => decide (m < d.pos) | none => decide (s.gait.w < d.pos)
  let s := s.setCamPort c { p with m := d.m + 1 }
  if above ∧ !soon then
    let s := s.setCamPort c { s.camPort c with mark := some d.pos, lastTrig := some t, frameTrig := true }
    let s := camPulse c (lineTrigOf e c) false s
    if p.frameTrig then s else frameTrigger c d.first d.lines d.m (camPulse c (frameTrigOf e c) true s)
  else if p.frameTrig then
    forAll ((openFrames s).filter (fun f => f.port == c && f.first == d.first)) (fun f s =>
      modFrame f.sensor f.frame (fun g => { g with missed := g.missed ++ [d.m] }.flag ffLineMiss) s) s
  else s

/-- LINE_TRIGGER (R119, R397): the instant predicted for the port's next line trigger has come; the one after it is predicted. -/
def execLineTrigger (dt : Nat) (port : Fin 4) (s : State) : Host.Outcome State Fault Refusal :=
  let s := tick dt s
  match camDue s port, (s.camPort port).pred with
  | some d, some (F, t) => guardOk (captureRuns s && s.axis.state == 1 && d.pos == F && decide (t ≤ s.time.now))
      (fun s => predictCam port (lineTrigger port d t s)) s
  | _, _ => ok s

/-! ### Packets (R402, R403) -/

/-- R402: an error of a channel. -/
def channelError (c vc k : Nat) (s : State) : State :=
  { s with insp := { s.insp with errors := tinc s.insp.errors ((16 * c + vc) * 8 + k) } }

/-- The enabled sensor on a virtual channel of a port, under the values at the datum. -/
def sensorOn (s : State) (c vc : Nat) : Option Nat :=
  let e := envNow s
  if portEnabled e c then (portSensors e c).find? (fun n => (sensorCfg e n).vc == vc) else none

/-- The open frame of a sensor, if any: the newest. -/
def openOf (s : State) (n : Nat) : Option Frame := ((openFrames s).filter (fun f => f.sensor == n)).getLast?

/-- R402: a single-bit header error is corrected and counted; the frame open on the channel counts it too. -/
def headerFixed (c vc : Nat) (fixed : Bool) (s : State) : State :=
  if !fixed then s
  else
    let s := channelError c vc 0 s
    match (sensorOn s c vc).bind (fun n => (openOf s n).map (fun f => (n, f))) with
    | some (n, f) => if f.started then modFrame n f.frame (fun g => { g with hdrEcc := g.hdrEcc + 1 }) s else s
    | none => s

/-- FRAME_START (R402, R403). -/
def frameStartStep (c vc : Nat) (s : State) : State :=
  match sensorOn s c vc with
  | none => channelError c vc 5 s
  | some n =>
    let s := match openOf s n with
      | some f => if f.started then closeFrame n f.frame [ffShort] s else s
      | none => s
    match openOf s n with
    | none => channelError c vc 5 (s.setSensor n { s.sensor n with discard := true })
    | some f =>
      let delay := (s.time.now - f.trigAt) / ns
      let late := (envAt s (lineOf f.first)).nat 0x8004 c < delay
      let s := s.setSensor n { s.sensor n with discard := false }
      modFrame n f.frame (fun g => let g := { g with started := true, fsDelay := some delay }; if late then g.flag ffLate else g) s

def execFrameStart (dt : Nat) (port : Fin 4) (packet : ShortPacket) (s : State) : Host.Outcome State Fault Refusal :=
  let s := tick dt s
  guardOk (captureRuns s) (fun s => headerFixed port packet.vc packet.eccFixed (frameStartStep port packet.vc s)) s

/-- The values of a line cut or zero-filled to the sensor's width. -/
def fitLine (n : Nat) (px : List Nat) : List Nat := (px ++ List.replicate (n - px.length) 0).take n

/-- The words of the camera line memory. -/
def lineMemoryWord (key : Nat) : Bool := keyMem key == 3

/-- R402, R210 code 0Dh: the pipeline reads camera line `m` from the line memory, with what has struck it: an uncorrectable word excludes the line and
marks the frame; the next line is written over it (log 66). -/
def lineMemoryReads (n : Nat) (k : BitVec 32) (m : Nat) (upsets : List WordUpset) (s : State) : State :=
  let unit := unitSlice (((frameOf s n k).bind (·.slice)).getD 0)
  let q := readMarked 0x0D unit lineMemoryWord (strikeWords upsets lineMemoryWord s)
  let s := forgetWords lineMemoryWord (forAll q.1 (fun key s => setSramMark key {} s) q.2)
  if q.1.isEmpty then s else modFrame n k (fun g => ({ g with excluded := g.excluded ++ [m] }.flag ffUe).flag ffDamaged) s

/-- A pixel packet of the sensor's type enters the open frame: the next camera line, or surplus. -/
def takeCameraLine (n : Nat) (f : Frame) (dtype : Nat) (px : List Nat) (crcOk : Bool) (upsets : List WordUpset) (s : State) : State :=
  let c := f.port
  let want := f.width * chanCount dtype
  let m := f.nextLine
  if f.linesCfg ≤ f.got + f.missed.length ∨ f.linesCfg ≤ m then
    modFrame n f.frame (fun g => { g with surplus := min (g.surplus + 1) 65535 }.flag ffLong) s
  else
    let short := px.length ≠ want
    let s := if crcOk then s else channelError c f.vc 2 s
    let s := if short then channelError c f.vc 4 s else s
    let bad := !crcOk || short
    let line := (fitLine want px).map (fun v => v % (if dtype = 0x2B then 1024 else 256))
    let s := modFrame n f.frame (fun g =>
      let g := { g with got := g.got + 1, dtype := dtype, crcErr := g.crcErr + (if crcOk then 0 else 1)
                        excluded := if bad then g.excluded ++ [m] else g.excluded
                        pixels := if g.has ffInline then g.pixels ++ [(m, line)] else g.pixels }
      if bad then g.flag ffDamaged else g) s
    let s := if f.has ffInline then lineMemoryReads n f.frame m upsets s else s
    if f.space = 0 then s else writeUnits 1 ((f.address + m * lineStride f.width dtype) / 64) (packLine dtype line) s

/-- CAMERA_LINE (R402). -/
def cameraLineStep (c vc dtype : Nat) (px : List Nat) (crcOk eccFixed : Bool) (upsets : List WordUpset) (s : State) : State :=
  let s := if eccFixed then channelError c vc 0 s else s
  match sensorOn s c vc with
  | none => s
  | some n =>
    if (s.sensor n).discard then s
    else match openOf s n with
      | none => s
      | some f =>
        if !f.started then s
        else
          let s := if eccFixed then modFrame n f.frame (fun g => { g with hdrEcc := g.hdrEcc + 1 }) s else s
          if dtype ≠ (sensorCfg (envAt s (lineOf f.first)) n).dtype then
            let s := channelError c vc 3 s
            if [0x2A, 0x2B, 0x24].contains dtype then modFrame n f.frame (Frame.flag ffDamaged) s else s
          else takeCameraLine n f dtype px crcOk upsets s

def execCameraLine (dt : Nat) (port : Fin 4) (vc : Fin 16) (dtype : Nat) (pixels : List Nat) (crcOk eccFixed : Bool) (upsets : List WordUpset)
    (s : State) :
    Host.Outcome State Fault Refusal :=
  let s := tick dt s
  guardOk (captureRuns s) (cameraLineStep port vc dtype pixels crcOk eccFixed upsets) s

/-- CAMERA_PACKET_ERROR (R402): `why` 0: a header ECC error beyond correction, whose channel is unknown; 1: an unknown data type; 2: a pixel type
other than the sensor's. -/
def packetErrorStep (c vc why : Nat) (s : State) : State :=
  if why = 0 then
    let s := channelError c 0 1 s
    forAll ((openFrames s).filter (fun f => f.port == c && f.started)) (fun f s =>
      modFrame f.sensor f.frame (fun g => { g with hdrEcc := g.hdrEcc + 1 }.flag ffDamaged) s) s
  else
    match sensorOn s c vc with
    | none => channelError c vc 3 s
    | some n =>
      if (s.sensor n).discard then s
      else
        let s := channelError c vc 3 s
        match openOf s n with
        | some f => if why = 2 ∧ f.started then modFrame n f.frame (Frame.flag ffDamaged) s else s
        | none => s

def execCameraPacketError (dt : Nat) (port : Fin 4) (vc : Fin 16) (why : Nat) (s : State) : Host.Outcome State Fault Refusal :=
  let s := tick dt s
  guardOk (captureRuns s) (packetErrorStep port vc why) s

/-- FRAME_END (R402, R403). -/
def frameEndStep (c vc : Nat) (s : State) : State :=
  match sensorOn s c vc with
  | none => s
  | some n =>
    if (s.sensor n).discard then s.setSensor n { s.sensor n with discard := false }
    else match openOf s n with
      | some f => if f.started then closeFrame n f.frame (if f.lines < f.linesCfg then [ffShort] else []) s else s
      | none => s

def execFrameEnd (dt : Nat) (port : Fin 4) (packet : ShortPacket) (s : State) : Host.Outcome State Fault Refusal :=
  let s := tick dt s
  guardOk (captureRuns s) (fun s => frameEndStep port packet.vc (headerFixed port packet.vc packet.eccFixed s)) s

/-- START_WINDOW (R403): frames of the port without a Frame Start within the window are LATE. -/
def startWindowStep (c : Nat) (s : State) : State :=
  forAll ((openFrames s).filter (fun f => f.port == c && !f.started && decide (f.trigAt + (envAt s (lineOf f.first)).nat 0x8004 c * ns < s.time.now)))
    (fun f s => modFrame f.sensor f.frame (Frame.flag ffLate) s) s

def execStartWindow (dt : Nat) (port : Fin 4) (s : State) : Host.Outcome State Fault Refusal :=
  let s := tick dt s
  guardOk (captureRuns s) (startWindowStep port) s

/-- EXPOSURE_LIST_DONE (R406): every byte acknowledged, or stopped at an entry. -/
def listDone (n : Nat) (failed : Option (Fin 16)) (s : State) : State :=
  let x := s.sensor n
  match failed with
  | none => s.setSensor n { x with expDone := x.expOpen.getD x.expDone, expOpen := none, expRun := false }
  | some k => failList (sensorCfg (envNow s) n).port n k s

def execExposureListDone (dt : Nat) (sensor : Fin 16) (failed : Option (Fin 16)) (s : State) : Host.Outcome State Fault Refusal :=
  let s := tick dt s
  guardOk ((s.sensor sensor).expRun && (s.camPort (sensorCfg (envNow s) sensor).port).cciHandle.isNone) (listDone sensor failed) s

end Sys2Proof.Machine
end

