-- ==== Sys2Proof/Machine/Loop.lean ====
section
/-! DEFINITION. The closed loop (R419 to R439): what a bar is measured from (R423, R424), nozzle measurements and changes (R425 to R428),
register (R429, R430), and LOOP_BAR. -/

namespace Sys2Proof.Machine

/-! ### What a bar is measured from (R423, R424) -/

/-- First line after a bar. -/
def barEnd (s : State) (b : Bar) : Int := b.first + barLines (envAt s b.first)

/-- R423: the enabled sensors whose coverage reaches the columns of the bar's planes. -/
def barSensors (s : State) (b : Bar) : List Nat :=
  let e := envAt s b.first
  sensorNums.filter (fun n =>
    let x := sensorCfg e n
    x.enable && portRuns e x.port && b.slots.any (fun p =>
      let cols := (planeChans e p).map (chanColumn e)
      let span := sensorSpan x (s.sensor n).align
      !cols.isEmpty && decide (columnAt e p span.1 ≤ maxOf cols) && decide (minOf cols ≤ columnAt e p span.2)))

/-- R423: the record of a window and plane from a sensor: the lower FRAME number of two. -/
def recordOf (s : State) (n p : Nat) (w : Window) : Option StatRec :=
  (s.insp.stats.filter (fun r => r.sensor == n && r.window == w.num && r.plane == p && r.wfirst == w.first && r.kind == (if w.marks then 2 else 1))).foldl
    (fun (a : Option StatRec) r => match a with | none => some r | some x => if r.frame.toNat < x.frame.toNat then some r else some x) none

/-- R424: FLAGS that a bar's frames may carry: LATE, LONG, RETAKE, INLINE. -/
def flagsFit (r : StatRec) : Bool := r.flags &&& ~~~ flagMask [ffLate, ffLong, ffRetake, ffInline] == 0

/-- R424: a window straddles two frames of a sensor. -/
def straddles (s : State) (n : Nat) (w : Window) : Bool :=
  let fs := s.insp.log.filter (fun f => f.sensor == n && decide (f.first < w.stop) && decide (w.start < frameEnd f))
  decide (2 ≤ fs.length) && !fs.any (fun f => holdsWindow f w)

/-- The records of a bar, by sensor, window and plane; none where one is missing. -/
def barRecords (s : State) (b : Bar) : List (Nat × Window × Option StatRec) :=
  (barSensors s b).flatMap (fun n => (barWindows s b).flatMap (fun w => w.planes.map (fun p => (n, w, recordOf s n p w))))

/-- R424: why a bar is skipped; 0 when it is measured. -/
def skipReason (s : State) (b : Bar) : Nat :=
  let recs := barRecords s b
  let lost := recs.any (fun x => match x.2.2 with | none => !straddles s x.1 x.2.1 | some r => !flagsFit r)
  let split := recs.any (fun x => x.2.2.isNone)
  let seam := s.rein.splices.any (fun x => decide (x.first < barEnd s b) && decide (b.first ≤ lineOf x.high))
  let exp := recs.any (fun x => match x.2.2 with
    | none => false
    | some r => (s.insp.stats.find? (fun q => q.sensor == x.1 && q.window == 0x80 && q.wfirst == b.first + 8)).any (fun q => q.expGen != r.expGen))
  if b.mode = 0 then 1
  else if recs.isEmpty || lost then 2
  else if split then 3
  else if seam then 4
  else if exp then 5
  else 0

/-- R424: a head has a defect log entry for a line of the bar. -/
def headSpoilt (s : State) (b : Bar) (h : Nat) : Bool :=
  s.fire.defects.any (fun d => (d.head == h || (d.head == 0xFF && planeOf (envAt s b.first) h == some d.plane)) &&
    decide (d.first < barEnd s b) && decide (b.first < d.first + d.count))

/-! ### Nozzle measurements (R425, R426) -/

/-- The profile of plane `p` in a window at print column `k`; none where no sensor covers it or every line was excluded. -/
def profileAt (s : State) (b : Bar) (p : Nat) (w : Window) (k : Int) : Option Int :=
  ((barSensors s b).filterMap (fun n => recordOf s n p w)).findSome? (fun r =>
    let i := k - r.firstCol
    if i < 0 then none
    else match r.entries[i.toNat]? with
      | some v => if v = 65535 then none else some v
      | none => none)

/-- A bar's window by number and plane. -/
def barWindow (s : State) (b : Bar) (num p : Nat) : Option Window :=
  (barWindows s b).find? (fun w => w.num == num && w.planes.contains p)

/-- R425: max(P − b, 0) at a column, where both are known. -/
def inkAt (s : State) (b : Bar) (p : Nat) (quiet w : Window) (k : Int) : Option Int :=
  match profileAt s b p w k, profileAt s b p quiet k with
  | some x, some y => some (max (x - y) 0)
  | _, _ => none

/-- Insert into a rising list. -/
def insertInt (x : Int) : List Int → List Int
  | [] => [x]
  | y :: r => if x ≤ y then x :: y :: r else y :: insertInt x r

/-- The median; of an even number of values, a free value from the lower to the upper of the middle two (assumption log 32). -/
def medianOf (l : List Int) : Int :=
  let v := l.foldl (fun acc x => insertInt x acc) []
  let hi := v.getD (v.length / 2) 0
  if v.length % 2 = 1 then hi
  else
    let lo := v.getD (v.length / 2 - 1) 0
    lo + Config.freeOf 425 v % (hi - lo + 1)

/-- A nozzle measured in a bar: channel, ink and centroid error (R425). -/
structure NozMeas where
  ch : Nat
  ink : Int
  err : Int
  deriving DecidableEq, Repr

/-- The channels of plane `p` that fired the rungs of the bar and whose heads are not spoilt, with their rung. -/
def rungChannels (s : State) (b : Bar) (p : Nat) : List (Nat × Nat) :=
  let e := envAt s b.first
  let cs := planeChans e p
  let k := max 1 (e.nat 0x6043 0)
  (cs.zip (List.range cs.length)).filterMap (fun x =>
    let fired := decide (effAt s b.first x.1 ≤ 2)
    if fired && !headSpoilt s b (chanHead x.1) then some (x.1, x.2 % k) else none)

/-- R425: ink and centroid error of a nozzle in its rung. A nozzle with no column that a sensor covers gives no measurement. -/
def measureNozzle (s : State) (b : Bar) (p : Nat) (c : Nat × Nat) : Option NozMeas :=
  match barWindow s b 0x80 p, barWindow s b (0x90 + c.2) p with
  | some q, some w =>
    let k := chanColumn (envAt s b.first) c.1
    let terms := (List.range 7).filterMap (fun (j : Nat) => (inkAt s b p q w (k - 3 + j)).map (fun t => ((j : Int) - 3, t)))
    let d := terms.foldl (fun (a : Int) t => a + t.2) 0
    let m := terms.foldl (fun (a : Int) t => a + t.1 * t.2) 0
    if terms.isEmpty then none else some ⟨c.1, d, if d ≤ 0 then 0 else roundDiv (16 * m) d.toNat⟩
  | _, _ => none

/-- R425: the nozzles of plane `p` measured in the bar. -/
def planeMeas (s : State) (b : Bar) (p : Nat) : List NozMeas := (rungChannels s b p).filterMap (measureNozzle s b p)

/-- R425: N. -/
def densityOf (d med : Int) : Nat := (min (32768 * d / med) 65534).toNat

/-- R425: the score h. -/
def scoreOf (n : Nat) (e : Int) : Nat := 65534 - min 65534 (2 * ((n : Int) - 32768).natAbs + 4096 * e.natAbs)

/-- R426: the counter fields of a measured nozzle. -/
def measureWrite (miss : Nat) (med : Int) (m : NozMeas) (s : State) : State :=
  let c := nozCnt s m.ch
  let n := densityOf m.ink med
  let old := if c.health = 65535 then 65534 else c.health
  setNozCnt m.ch { c with densPrev := c.densLast, densLast := n, health := (old + scoreOf n m.err) / 2
                          dropout := if n < miss then min (c.dropout + 1) 65535 else c.dropout } s

/-! ### Decisions (R427, R428) -/

/-- R428: R_m and whether the nozzle counts in step `m`: it fired the step and its column is covered. -/
def stepLevel (s : State) (b : Bar) (p m ch : Nat) : Option Int :=
  let e := envAt s b.first
  match barWindow s b 0x80 p, barWindow s b (0xB0 + m) p with
  | some q, some w =>
    if effAt s b.first ch ≤ 2 ∧ stepNozzle e p b.j (chanColumn e ch) = some ch then inkAt s b p q w (chanColumn e ch) else none
  | _, _ => none

/-- R428: M_m for m = 1..7. -/
def stepMedians (s : State) (b : Bar) (p : Nat) : List Int :=
  let cs := (planeChans (envAt s b.first) p).filter (fun c => !headSpoilt s b (chanHead c))
  (List.range 7).map (fun m => medianOf (cs.filterMap (stepLevel s b p (m + 1))))

/-- R428: one point of the curve: the new y_m, and whether it is held at a drift-cap bound. -/
def curvePoint (gain limit cap : Int) (m : Nat) (prev y med : Int) (r : Option Int) : Int × Bool :=
  let moved := match r with
    | some v => if 0 < med then y + min (max (gain * (med - v) * y / (256 * med)) (-limit)) limit else y
    | none => y
  let lo := 585 * (m : Int) - cap
  let hi := 585 * (m : Int) + cap
  (min (min (max (max (max moved lo) prev) 0) hi) 4095, decide (moved < lo) || decide (hi < moved))

/-- R428: the curve after an update, and the points held at the cap. -/
def curveUpdate (gain limit cap : Int) (y : List Nat) (meds : List Int) (rs : List (Option Int)) : List Nat × Nat :=
  let (ys, held) := (List.range 7).foldl (fun (a : List Nat × Nat) i =>
    let (v, h) := curvePoint gain limit cap (i + 1) (a.1.getLastD 0 : Nat) (y.getD (i + 1) 0 : Nat) (meds.getD i 0) (rs.getD i none)
    (a.1 ++ [v.toNat], a.2 + (if h then 1 else 0))) ([y.getD 0 0], 0)
  (ys, held)

/-- R427: δ_max of a curve. -/
def deltaMax (y : List Nat) : Nat := (List.range 8).foldl (fun a m => max a ((y.getD m 0 : Int) - 585 * m).natAbs) 0

/-- What the loop decides of a nozzle: its change, and the curve points held at the drift cap. -/
structure Decision where
  change : Option NozChange
  held : Nat := 0
  deriving DecidableEq, Repr

/-- R427: the decision for a measured nozzle; the counter fields are written already. -/
def decide427 (s : State) (b : Bar) (p : Nat) (meds : List Int) (m : NozMeas) : Decision :=
  let d := nozPend s m.ch
  let h := (nozCnt s m.ch).health
  let on := fun (k : Nat) => bitOn (cfg s 0x6041 0) k
  let change := fun (q : NozPatch) => some (⟨m.ch, 1, { q with source := some 2, onlyIf := some 2 }⟩ : NozChange)
  if d.base ≤ 1 ∧ h < cfgN s 0x6048 0 ∧ on 0 then { change := change { base := some 2 } }
  else if d.base = 2 ∧ cfgN s 0x6049 0 ≤ h then
    if on 0 then { change := change { base := some 0 } } else { change := none }
  else if d.base ≤ 1 ∧ on 1 then
    let rs := (List.range 7).map (fun i => stepLevel s b p (i + 1) m.ch)
    let (y, held) := curveUpdate (cfg s 0x604B 0) (cfg s 0x604C 0) (cfg s 0x604D 0) d.curve meds rs
    let dm := deltaMax y
    let base := if cfgN s 0x604E 0 < dm then 1 else if d.base = 1 ∧ dm ≤ cfgN s 0x604E 0 / 2 then 0 else d.base
    if y = d.curve ∧ base = d.base then { change := none, held := held }
    else { change := change { base := if base = d.base then none else some base, curve := if y = d.curve then none else some y }, held := held }
  else { change := none }

/-- R428, R439: LOOP.DRIFT, at most once per second per plane. -/
def driftEvent (b : Bar) (p held : Nat) (s : State) : State :=
  let due := match tget none s.loop.driftAt p with | some t => decide (t + sec ≤ s.time.now) | none => true
  if held = 0 ∨ !due then s
  else ev 0x6023 (loopDetail p 0 0xFF held) { s with loop := { s.loop with driftAt := tput none s.loop.driftAt p (some s.time.now) } } (line := atLine b.first)

/-! ### Register (R429, R430) -/

/-- R429: a mark or companion of row `u` that is found: area at least half of 32 columns × 16 lines. -/
def foundMark (s : State) (b : Bar) (p u : Nat) (companion : Bool) : Option MarkRec :=
  match barWindow s b 0x81 p with
  | none => none
  | some w => ((barSensors s b).filterMap (fun n => recordOf s n p w)).findSome? (fun r =>
      r.marks.find? (fun m => m.row == u && m.companion == companion && decide (256 ≤ m.area)))

/-- Rounding to nearest, halves away from 0. -/
def roundAway (a : Int) (b : Nat) : Int := if 0 ≤ a then (2 * a + b) / (2 * b) else -((2 * (-a) + b) / (2 * b))

/-- R429: e_u and x_u of a row whose mark and companion are found. -/
def registerOf (s : State) (b : Bar) (p u : Nat) : Option (Int × Int) :=
  match foundMark s b p u false, foundMark s b p u true with
  | some m, some c =>
    some (m.lpos - c.lpos, (c.cross - m.cross) - roundDiv (96 * 254000) ((envAt s b.first).nat 0x7020 (p + 1)))
  | _, _ => none

/-- R430: the row's new correction, where the error passes the dead band. -/
def newCorrection (s : State) (e corr : Int) : Option Int :=
  if (e.natAbs : Int) < cfg s 0x6051 0 * 256 then none
  else
    let lim := cfg s 0x6052 0
    let step := min (max (-(roundAway (e * cfg s 0x6050 0) 65536)) (-lim)) lim
    some (corr + step)

/-- R429, R430: one row: its register is published; the correction to make, if any. -/
def registerRow (b : Bar) (p u : Nat) (s : State) : Option Int × State :=
  match registerOf s b p u with
  | none => (none, ev 0x6022 (loopDetail p 1 u 0) s (line := atLine b.first))
  | some (e, x) =>
    let s := { s with loop := { s.loop with register := tput (0, 0, 0) s.loop.register u (e, x, b.j) } }
    if !bitOn (cfg s 0x6041 0) 2 then (none, s)
    else
      let corr := (Val.elems (pendVal s 0x7016 (u / 2)).1).getD (u % 2) 0
      match newCorrection s e corr with
      | none => (none, s)
      | some v =>
        let held := min (max v (-1024)) 1024
        let s := if held ≠ v ∧ !bitOn (cfg s 0x6053 0) (u / 2) then ev 0x6022 (loopDetail p 2 u e) s (line := atLine b.first) else s
        (if held = corr then none else some held, s)

/-- The rows whose marks a bar measures: of every plane but the reference, of heads that are not spoilt. -/
def markRows (s : State) (b : Bar) : List (Nat × Nat) :=
  let e := envAt s b.first
  ((activePlanes e).filter (· ≠ b.regPlane)).flatMap (fun p => ((rowsOf e p).filter (fun u => !headSpoilt s b (u / 2))).map (fun u => (p, u)))

/-- R433: the entries for the changed delays, one for each head. -/
def delayWrites (s : State) (vs : List (Nat × Int)) : List ObjWrite :=
  ((vs.map (fun v => v.1 / 2)).eraseDups).map (fun h =>
    let old := Val.elems (pendVal s 0x7016 h).1
    let at_ := fun (r : Nat) => ((vs.find? (fun v => v.1 == 2 * h + r)).map (·.2)).getD (old.getD r 0)
    ⟨0x7016, h, .arr [at_ 0, at_ 1]⟩)

/-! ### LOOP_BAR (R424, R433, R438) -/

/-- R438: bit mask of a bar's slots. -/
def slotMask (b : Bar) : BitVec 16 := b.slots.foldl (fun a p => a ||| BitVec.ofNat 16 (2 ^ p)) 0

/-- A bar leaves the list without a commit. -/
def dropBar (j : Nat) (s : State) : State := { s with loop := { s.loop with bars := s.loop.bars.filter (fun b => b.j != j) } }

/-- R424: a bar is skipped. -/
def skipBar (b : Bar) (reason : Nat) (s : State) : State :=
  let s := { s with loop := { s.loop with last := { bar := b.j, first := b.first, planes := slotMask b, outcome := 2, reason := reason } } }
  dropBar b.j (ev 0x6020 (loopDetail 0xFF reason 0xFF b.j) s (line := atLine b.first))

/-- R425 to R428 for one plane: the counter fields are written, then the decisions are made. -/
def measurePlane (b : Bar) (p : Nat) (s : State) : List Decision × State :=
  let ms := planeMeas s b p
  let med := medianOf (ms.map (·.ink))
  let meds := stepMedians s b p
  let s := forAll ms (measureWrite (cfgN s 0x604A 0) med) s
  let ds := ms.map (decide427 s b p meds)
  (ds, driftEvent b p (ds.foldl (fun a d => a + d.held) 0) s)

/-- R426 to R433: a bar is measured. -/
def measureBar (b : Bar) (s : State) : State :=
  let s := ev 0x6020 (loopDetail 0xFF 0 0xFF b.j) s (line := atLine b.first)
  let (ds, s) := b.slots.eraseDups.foldl (fun (a : List Decision × State) p =>
    let (d, s) := measurePlane b p a.2
    (a.1 ++ d, s)) ([], s)
  let (vs, s) := (markRows s b).foldl (fun (a : List (Nat × Int) × State) r =>
    let (v, s) := registerRow b r.1 r.2 a.2
    ((match v with | some x => a.1 ++ [(r.2, x)] | none => a.1), s)) ([], s)
  let noz := ds.filterMap (·.change)
  let ws := delayWrites s vs
  let free := noz.filter (changeAllowed s 2 (some b.j))
  let freeW := ws.filter (writeAllowed s (some b.j))
  let last := withChanges s free freeW { bar := b.j, first := b.first, planes := slotMask b, outcome := 1
                                         withheld := if b.mode = 1 then noz.length - free.length + (ws.length - freeW.length) else 0 }
  if b.mode ≠ 2 then dropBar b.j { s with loop := { s.loop with last := last } }
  else if noz.isEmpty ∧ ws.isEmpty then dropBar b.j { s with loop := { s.loop with last := { last with outcome := 0 } } }
  else
    let s := { s with loop := { s.loop with last := { last with outcome := 4 }, outstanding := some b.j }
                      proto := { s.proto with waiting := s.proto.waiting ++ [⟨true, 2, noz, ws, none, some b.j⟩] } }
    mirror (.loop ⟨s.loop.j, some b.j⟩) s

/-- R433: the bar's statistics are complete: every sensor that images it has passed its end, and no frame over it waits. -/
def barComplete (s : State) (b : Bar) : Bool :=
  let e := envAt s b.first
  let stop := barEnd s b * oneLine
  let offs := (barSensors s b).map (fun n => ofLpos (e.int 0x4041 (n + 1)))
  b.begun && decide (stop + maxOf (0 :: offs) ≤ s.gait.w) &&
    !s.insp.frames.any (fun f => !f.processed && decide (f.first < stop) && decide (b.first * oneLine < f.first + ofLpos (f.linesCfg * f.pitch : Nat)))

/-- R425: the median ink of a plane is 0. -/
def noInk (s : State) (b : Bar) : Bool := b.slots.any (fun p => medianOf ((planeMeas s b p).map (·.ink)) == 0)

/-- LOOP_BAR (R424, R433). -/
def loopBarStep (s : State) : State :=
  match s.loop.bars.find? (barComplete s) with
  | none => s
  | some b =>
    let why := skipReason s b
    if why ≠ 0 then skipBar b why s else if noInk s b then skipBar b 2 s else measureBar b s

/-- LOOP_BAR (R424). -/
def execLoopBar (dt : Nat) (s : State) : Host.Outcome State Fault Refusal :=
  let s := tick dt s
  guardOk (s.loop.outstanding.isNone && captureRuns s) loopBarStep s

end Sys2Proof.Machine
end

