-- ==== Sys2Proof/Machine/Time.lean ====
section
/-! DEFINITION. Network time and triggers (R440 to R462): ports and master selection, stamps, residence-time mode, the servo and its steps,
event capture, process data and correlation records. -/

namespace Sys2Proof.Machine

/-! ### Roles and ports (R440 to R442) -/

/-- R462: DETAIL of a time event. -/
def timeDetail (subject reason : Nat) (v : Int) : BitVec 96 := detail subject reason 0 v

def timeRole (s : State) : Nat := cfgN s 0x9000 0

/-- R442: a port takes part in PTP: its link is up, it is enabled, and the role uses it. -/
def ptpUsed (s : State) (n : Nat) : Bool :=
  let live := fun k => (s.port k).up && cfg s 0x9004 k == 1
  live n && (match timeRole s with
    | 1 => (if (s.port 0).up then n == 0 else if (s.port 1).up then n == 1 else n == 2)
    | 2 => decide (n ≤ 2)
    | 3 => decide (n ≤ 1)
    | _ => false)

/-- The device's own clockIdentity, which the spec does not derive. -/
def ownClock : BitVec 64 := BitVec.ofInt 64 (Config.freeOf 440 [Config.serial.toNat])

/-- Lists compared from their first elements on. -/
def lexLess : List Nat → List Nat → Bool
  | a :: r, b :: t => decide (a < b) || (a == b && lexLess r t)
  | [], _ :: _ => true
  | _, [] => false

/-- R440: the device's own data set. -/
def ownRank (s : State) : List Nat :=
  [(cfgElem s 0x9002 0 0).toNat, 248, 0xFE, 0xFFFF, (cfgElem s 0x9002 0 1).toNat, ownClock.toNat, 0]

/-- R440: a foreign master counts after two Announce messages. -/
def qualified (f : Foreign) : Bool := decide (2 ≤ f.heard)

/-- The best qualified foreign master of a list. -/
def bestForeign (l : List Foreign) : Option Foreign :=
  (l.filter qualified).foldl (fun (a : Option Foreign) f => match a with | none => some f | some g => if lexLess f.rank g.rank then some f else some g) none

/-- R442: a NET port holds a qualified foreign master. -/
def netMaster (s : State) : Bool := [0, 1].any (fun n => ptpUsed s n && (bestForeign (s.ptpPort n).foreign).isSome)

/-- The best qualified foreign master of a port that R442 lets count. -/
def portBest (s : State) (n : Nat) : Option Foreign :=
  if !ptpUsed s n ∨ (n = 2 ∧ netMaster s) then none else bestForeign (s.ptpPort n).foreign

/-- The port of the best master and that master; the lower port on a tie. -/
def bestMaster (s : State) : Option (Nat × Foreign) :=
  ([0, 1, 2].filterMap (fun n => (portBest s n).map (fun f => (n, f)))).foldl
    (fun (a : Option (Nat × Foreign)) x => match a with | none => some x | some y => if lexLess x.2.rank y.2.rank then some x else some y) none

/-- R441, R442, R452: a port may enter MASTER. -/
def mayMaster (s : State) (n : Nat) : Bool := cfg s 0x9003 0 == 0 && decide (n ≤ 1) && timeRole s != 3 && !isWheeler s

/-- R440, R442: the state of a port by the default comparison (1 INITIALIZING, 3 DISABLED, 4 LISTENING, 6 MASTER, 7 PASSIVE, 9 SLAVE). -/
def portStateOf (s : State) (n : Nat) : Nat :=
  if !ptpUsed s n then 3
  else match bestMaster s with
    | some (m, f) =>
      if mayMaster s n ∧ lexLess (ownRank s) f.rank then 6
      else if m = n then 9
      else if mayMaster s n ∧ timeRole s = 2 ∧ (portBest s n).isNone then 6
      else if timeRole s = 2 ∧ (portBest s n).isSome then 7
      else 4
    | none => if mayMaster s n then 6 else 4

/-- Port states follow the comparison. -/
def decidePorts (s : State) : State :=
  forAll [0, 1, 2] (fun n s => s.setPtpPort n { s.ptpPort n with state := portStateOf s n }) s

/-- R441: every port returns to INITIALIZING; the servo keeps its state, but for role 0, which is FREE (R448). -/
def ptpInit (s : State) : State :=
  let s := forAll [0, 1, 2] (fun n s => s.setPtpPort n { s.ptpPort n with state := 1, foreign := [], sync := none, t1t2 := none, delayReq := none }) s
  { s with time := { s.time with hasMaster := false, fwd := [] } }

/-! ### The servo (R448 to R450) -/

/-- R474: the lead mirrors its servo. -/
def timeRecord (s : State) (accepted : Bool) : TimeRec := ⟨s.time.servo, s.time.freq, s.time.pendingStep, s.time.grandmaster, accepted⟩

def mirrorTime (s : State) (accepted : Bool := false) : State :=
  let s := mirror (.time (timeRecord s accepted)) s
  { s with pair := { s.pair with timeAt := s.time.now } }

/-- R448: a change of servo state. -/
def setServo (st : Nat) (s : State) : State :=
  if s.time.servo = st then s
  else
    let hist := s.time.freqHist.filter (fun x => decide (s.time.now < x.1 + 16 * sec))
    let avg := if hist.isEmpty then s.time.freq else hist.foldl (fun (a : Int) x => a + x.2) 0 / hist.length
    let s := { s with time := { s.time with servo := st, inLock := 0, freq := if 3 ≤ st then avg else s.time.freq } }
    mirrorTime (ev 0x9001 (timeDetail 0xFF st s.time.offset) s)

/-- R450, R453, R457: device time steps by `d` ps. Positions keep their instants, which are held as elapsed time; occurrences of time-mode
outputs and process-data instants that a forward step passes over are lost; measurements under way are void. -/
def stepTime (d : Int) (reason : Nat) (s : State) : State :=
  let s := { s with time := { s.time with epoch := s.time.epoch + d, stepped := true, lastStep := some (s.time.now, d) } }
  let s := if d ≤ 0 then s
    else
      let s := forAll ((List.range 8).filter (fun n => trigMode s n == 2)) (fun n s =>
        let e := trigEnv s
        let k := trigIndexFrom (e.int 0x9041 n) (e.int 0x9042 n) (devTime s)
        let t := s.trig n
        if t.k < k then trigMiss n (k - t.k) (s.setTrig n { t with k := k }) else s) s
      let p := s.time.pd
      let n := (devNs s - p.phase - 1) / max 1 (p.cycle : Int)
      let passed : Bool := match p.lastN with | some m => decide (m < n) | none => true
      if p.running ∧ passed then
        { s with time := { s.time with pd := { p with lastN := some n } } }
      else s
  let s := forAll [0, 1, 2] (fun n s => s.setPtpPort n { s.ptpPort n with sync := none, t1t2 := none, delayReq := none }) s
  ev 0x9003 (timeDetail 0xFF reason (d / 1000)) s

/-- A stamp or offset of 2^-16 ns in ps, floored. -/
def psOf (x : Int) : Int := x * 1000 / 65536

/-- R449: a step of −Δ, after which the state is 1. -/
def stepBy (x : Int) (reason : Nat) (s : State) : State :=
  setServo 1 { stepTime (-(psOf x)) reason s with time := { (stepTime (-(psOf x)) reason s).time with outliers := 0, inLock := 0 } }

/-- R449: the frequency estimate, a free value within ±500 ppm (assumption log 33). -/
def newFreq (s : State) : State :=
  let (v, s) := drawFree s
  let f : Int := (v % 1000001 : Nat) - 500000
  let hist := if s.time.servo = 2 then ((s.time.now, f) :: s.time.freqHist).filter (fun x => decide (s.time.now < x.1 + 16 * sec)) else s.time.freqHist
  { s with time := { s.time with freq := f, freqHist := hist } }

/-- R448, R449: an offset is measured, in 2^-16 ns. -/
def judgeOffset (x : Int) (s : State) : State :=
  let s := { s with time := { s.time with offset := x / 65536 } }
  let size : Int := x.natAbs
  let jump := cfg s 0x9016 0 * 65536
  let slew := cfg s 0x9017 0 * 65536
  if s.time.servo = 0 then stepBy x 0 s
  else if size ≤ jump then
    let s := { s with time := { s.time with outliers := 0 } }
    if slew < size then stepBy x 1 s
    else
      let s := newFreq s
      let s := if s.time.servo = 3 ∨ s.time.servo = 4 then setServo 1 s else s
      if s.time.servo ≠ 1 then s
      else
        let n := if size ≤ cfg s 0x9018 0 * 65536 then s.time.inLock + 1 else 0
        let s := { s with time := { s.time with inLock := n } }
        if 16 ≤ n then setServo 2 s else s
  else
    let n := s.time.outliers + 1
    let s := { s with time := { s.time with outliers := n, inLock := 0 } }
    if s.time.servo = 4 then mirrorTime { s with time := { s.time with pendingStep := -x / 65536 } }
    else if n < 4 then s
    else
      let s := { s with time := { s.time with pendingStep := -x / 65536 } }
      ev 0x9002 (timeDetail 0xFF 0 s.time.pendingStep) (setServo 4 s)

/-- R451: the pending step is applied. -/
def acceptJump (s : State) : State :=
  let s := mirrorTime (stepTime (s.time.pendingStep * 1000) 2 s) true
  setServo 1 { s with time := { s.time with outliers := 0 } }

/-- R448: no port has a master any more. -/
def loseMaster (s : State) : State :=
  let s := { s with time := { s.time with hasMaster := false } }
  if s.time.servo = 1 ∨ s.time.servo = 2 then setServo 3 s else s

/-- R448, R449: the master that the comparison selects; a new grandmaster restarts the count of outliers (R459). -/
def selectMaster (s : State) : State :=
  let s := decidePorts s
  match bestMaster s with
  | none => if s.time.hasMaster then loseMaster s else s
  | some (_, f) =>
    if (List.range 3).all (fun n => (s.ptpPort n).state != 9) then (if s.time.hasMaster then loseMaster s else s)
    else
      let gm := BitVec.ofNat 64 (f.rank.getD 5 0)
      let s := { s with time := { s.time with hasMaster := true } }
      if gm = s.time.grandmaster then s
      else ev 0x9004 (timeDetail 0xFF 0 gm.toNat) { s with time := { s.time with grandmaster := gm, outliers := 0 } }

/-- R441, R448: a write of the role, the domain or the transport. -/
def roleWritten (s : State) : State :=
  let s := ptpInit s
  if timeRole s = 0 then setServo 0 s else s

/-! ### Stamps (R443 to R445) -/

/-- R443: a stamp of port `n` taken `ago` ps ago, in 2^-16 ns: ingress (0) or egress (1) correction added. -/
def stampOf (s : State) (n way ago : Nat) : Int := (devTime s - ago + cfgElem s 0x9007 n way) * 65536 / 1000

/-- R459: a write at this moment takes entries out of the queue that object `obj` pops. -/
def popsNow (s : State) (obj n : Nat) : Bool :=
  (sameInstant s.pending).any (fun i => match i with
    | .txStampPop _ _ sub _ v => obj == 0x9021 && sub == n && decide (1 ≤ Val.int v)
    | .capturePop _ _ sub _ v => obj == 0x9052 && sub == n && decide (1 ≤ Val.int v)
    | .write _ _ es => es.any (fun e => e.idx == obj && e.sub == n && decide (1 ≤ Val.int e.val))
    | _ => false)

/-- R444, R445: an event message has left port `n`. One that finds the queue full is kept if the same moment's pop makes room (R459). -/
def pushStamp (n msgType : Nat) (byHost : Bool) (domain seqId : Nat) (s : State) : State :=
  let p := s.ptpPort n
  if p.tx.length < 64 ∨ popsNow s 0x9021 n then
    s.setPtpPort n { p with tx := p.tx ++ [⟨msgType, byHost, domain, seqId, (stampOf s n 1 0 / 65536).toNat⟩] }
  else
    let p := { p with txStatus := p.txStatus.set s.time.now 0 }
    let due := match p.txAt with | some t => decide (t + sec ≤ s.time.now) | none => true
    if due then ev 0x9005 (timeDetail n 0 (p.txStatus.count 0)) (s.setPtpPort n { p with txAt := some s.time.now }) (count := p.txStatus.count 0)
    else s.setPtpPort n p

/-! ### Messages -/

/-- R440, R441: a message that the device's own engine takes: PTP is on, the port takes part, the domain is its own. -/
def ptpTakes (s : State) (m : PtpMsg) : Bool := timeRole s != 0 && ptpUsed s m.port && m.domain == cfgN s 0x9001 0

/-- Discarded and counted. -/
def ptpDrop (n : Nat) (s : State) : State := s.setPtpPort n { s.ptpPort n with discarded := (s.ptpPort n).discarded + 1 }

/-- R447: the port opposite. -/
def otherNet (n : Nat) : Nat := 1 - n

/-- R447: residence-time mode forwards what NET_0 and NET_1 receive. -/
def forwards (s : State) (n : Nat) : Bool := timeRole s == 3 && decide (n ≤ 1)

/-- R447: a general message is forwarded with this correction. -/
def forwardGeneral (m : PtpMsg) (msgType : Nat) (corr : Int) (s : State) : State :=
  emit (.ptp (otherNet m.port) msgType m.seqId corr []) { s with time := { s.time with residence := tinc s.time.residence 1 } }

/-- R447: an event message is forwarded; its residence time is what the egress stamp shows, a free value (assumption log 33). A two-step Sync
leaves its correction to the Follow_Up. -/
def forwardEvent (m : PtpMsg) (msgType : Nat) (s : State) : State :=
  let (r, s) := drawFree s
  let t := s.time.residence
  let s := { s with time := { s.time with residence := tput 0 (tinc t 0) 3 (BitVec.ofNat 64 (max (tget 0 t 3).toNat (r / 65536))) } }
  if msgType = 0 ∧ m.twoStep then
    let room := decide (s.time.fwd.length < 16)
    let s := if room then { s with time := { s.time with fwd := s.time.fwd ++ [(m.port.val, m.seqId, m.sourceClock.toNat * 65536 + m.sourcePort, (r : Int), s.time.now)] } } else s
    emit (.ptp (otherNet m.port) msgType m.seqId m.correction []) s
  else emit (.ptp (otherNet m.port) msgType m.seqId (m.correction + r) []) s

/-- A port that is SLAVE to the sender of a message. -/
def fromMaster (s : State) (m : PtpMsg) : Bool :=
  (s.ptpPort m.port).state == 9 && ((portBest s m.port).map (fun f => f.identity == m.sourceClock)).getD false

/-- SYNC (R447, R448). -/
def syncStep (m : PtpMsg) (ago : Nat) (s : State) : State :=
  let n := m.port.val
  let t2 := stampOf s n 0 ago
  let s := if forwards s n then forwardEvent m 0 s else s
  if !ptpTakes s m ∨ !fromMaster s m then s
  else if m.twoStep then s.setPtpPort n { s.ptpPort n with sync := some (m.seqId, t2, m.correction) }
  else s.setPtpPort n { s.ptpPort n with sync := none, t1t2 := some (m.origin * 65536 + m.correction + cfg s 0x9008 n * 65536 / 1000, t2) }

/-- PTP runs in Run and Idle (R452). -/
def ptpRuns (s : State) : Bool := decide (s.power.state ≤ 1)

/-- R142: a PTP message is a frame with a good FCS. -/
def ptpFrame (n : Nat) (f : State → State) (s : State) : State := f (s.setPort n { s.port n with stats := tinc (s.port n).stats 0 })

def execSync (dt : Nat) (m : PtpMsg) (ago : Nat) (s : State) : Host.Outcome State Fault Refusal :=
  let s := tick dt s
  guardOk (ptpRuns s) (ptpFrame m.port (syncStep m ago)) s

/-- FOLLOW_UP (R447, R448). -/
def followUpStep (m : PtpMsg) (s : State) : State :=
  let n := m.port.val
  let s := if forwards s n then
      let key := m.sourceClock.toNat * 65536 + m.sourcePort
      match s.time.fwd.find? (fun f => f.1 == n && f.2.1 == m.seqId && f.2.2.1 == key && decide (s.time.now ≤ f.2.2.2.2 + sec)) with
      | some f => forwardGeneral m 8 (m.correction + f.2.2.2.1) { s with time := { s.time with fwd := s.time.fwd.erase f } }
      | none => forwardGeneral m 8 m.correction { s with time := { s.time with residence := tinc s.time.residence 2 } }
    else s
  if !ptpTakes s m ∨ !fromMaster s m then s
  else match (s.ptpPort n).sync with
    | some (seq, t2, corr) =>
      if seq = m.seqId then
        s.setPtpPort n { s.ptpPort n with sync := none, t1t2 := some (m.origin * 65536 + m.correction + corr + cfg s 0x9008 n * 65536 / 1000, t2) }
      else s
    | none => s

def execFollowUp (dt : Nat) (m : PtpMsg) (s : State) : Host.Outcome State Fault Refusal :=
  let s := tick dt s
  guardOk (ptpRuns s) (ptpFrame m.port (followUpStep m)) s

/-- FOLLOW_UP_TIMEOUT (R447): Syncs that have waited 1 s wait no longer. -/
def followUpGone (s : State) : State :=
  { s with time := { s.time with fwd := s.time.fwd.filter (fun f => decide (s.time.now < f.2.2.2.2 + sec)) } }

def execFollowUpTimeout (dt : Nat) (s : State) : Host.Outcome State Fault Refusal := ok (followUpGone (tick dt s))

/-- DELAY_REQ (R440, R447). -/
def delayReqStep (m : PtpMsg) (ago : Nat) (s : State) : State :=
  let n := m.port.val
  let t4 := stampOf s n 0 ago
  if forwards s n then forwardEvent m 1 s
  else if ptpTakes s m ∧ (s.ptpPort n).state = 6 then emit (.ptp n 9 m.seqId m.correction (natBytes 10 (t4 / 65536).toNat)) s
  else s

def execDelayReq (dt : Nat) (m : PtpMsg) (ago : Nat) (s : State) : Host.Outcome State Fault Refusal :=
  let s := tick dt s
  guardOk (ptpRuns s) (ptpFrame m.port (delayReqStep m ago)) s

/-- DELAY_RESP (R448, R449): it completes a measurement: path delay, then the offset. -/
def delayRespStep (m : PtpMsg) (s : State) : State :=
  let n := m.port.val
  let s := if forwards s n then forwardGeneral m 9 m.correction s else s
  let p := s.ptpPort n
  match p.t1t2, p.delayReq with
  | some (t1, t2), some (seq, t3) =>
    if !ptpTakes s m ∨ !fromMaster s m ∨ m.reqClock ≠ ownClock ∨ m.reqPort ≠ n + 1 ∨ m.seqId ≠ seq then s
    else
      let t4 := m.origin * 65536 - m.correction + cfg s 0x9008 n * 65536 / 1000
      let path := ((t2 - t1) + (t4 - t3)) / 2
      let s := s.setPtpPort n { p with delayReq := none }
      let s := { s with time := { s.time with pathDelay := (path / 65536).toNat } }
      judgeOffset (t2 - t1 - path) s
  | _, _ => s

def execDelayResp (dt : Nat) (m : PtpMsg) (s : State) : Host.Outcome State Fault Refusal :=
  let s := tick dt s
  guardOk (ptpRuns s) (ptpFrame m.port (delayRespStep m)) s

/-- R459: an offset back within the jump threshold is still to come at this moment. -/
def offsetReturns (s : State) : Bool :=
  (tickRest s).any (fun i => match i with | .delayResp _ m => (delayRespStep m s).time.servo != s.time.servo | _ => false)

/-- The announce interval, in ps. -/
def announcePs (s : State) : Nat :=
  let k := cfgElem s 0x9005 0 0
  if 0 ≤ k then sec * 2 ^ k.toNat else sec / 2 ^ (-k).toNat

/-- ANNOUNCE (R440, R442, R447). -/
def announceStep (m : PtpMsg) (d : Dataset) (s : State) : State :=
  let n := m.port.val
  let s := if forwards s n then forwardGeneral m 11 m.correction s else s
  if !ptpTakes s m ∨ m.sourceClock = ownClock ∨ 255 ≤ d.steps ∨ (n = 2 ∧ netMaster s) then s
  else
    let p := s.ptpPort n
    let rank := [d.priority1, d.clockClass, d.accuracy, d.variance, d.priority2, d.identity.toNat, d.steps]
    let old := p.foreign.find? (fun f => f.identity == m.sourceClock)
    let heard := match old with | some f => if s.time.now ≤ f.lastHeard + 4 * announcePs s then f.heard + 1 else 1 | none => 1
    let f : Foreign := ⟨m.sourceClock, heard, rank, s.time.now⟩
    selectMaster (s.setPtpPort n { p with foreign := p.foreign.filter (fun g => g.identity != m.sourceClock) ++ [f] })

def execAnnounce (dt : Nat) (m : PtpMsg) (d : Dataset) (s : State) : Host.Outcome State Fault Refusal :=
  let s := tick dt s
  guardOk (ptpRuns s) (ptpFrame m.port (announceStep m d)) s

/-- PTP_OTHER (R440, R447): discarded and counted; residence-time mode forwards the general ones. -/
def ptpOtherStep (n msgType : Nat) (s : State) : State :=
  let s := if forwards s n ∧ 8 ≤ msgType then
      emit (.ptp (otherNet n) msgType 0 0 []) { s with time := { s.time with residence := tinc s.time.residence 1 } }
    else s
  ptpDrop n s

def execPtpOther (dt : Nat) (port : Fin 3) (msgType : Nat) (s : State) : Host.Outcome State Fault Refusal :=
  let s := tick dt s
  guardOk (ptpRuns s) (ptpFrame port (ptpOtherStep port msgType)) s

/-- R448: masters that have been silent for announceReceiptTimeout intervals, or whose link is down, are dropped. -/
def dropMasters (s : State) : State :=
  let limit := (cfgElem s 0x9005 0 3).toNat * announcePs s
  let s := forAll [0, 1, 2] (fun n s =>
    let p := s.ptpPort n
    s.setPtpPort n { p with foreign := if ptpUsed s n then p.foreign.filter (fun f => decide (s.time.now < f.lastHeard + limit)) else [] }) s
  let s := selectMaster s
  if s.time.hasMaster then s else loseMaster s

/-- ANNOUNCE_TIMEOUT (R448). -/
def execAnnounceTimeout (dt : Nat) (s : State) : Host.Outcome State Fault Refusal := ok (dropMasters (tick dt s))

/-- NET_LINK (R143, R441, R448): a port comes up or goes down; PTP follows. -/
def execNetLink (dt : Nat) (port : Fin 3) (up : Bool) (s : State) : Host.Outcome State Fault Refusal :=
  let s := tick dt s
  guardOk (decide (s.power.state ≤ 1) && !s.power.down) (fun s => dropMasters (linkChange port up s)) s

/-- PTP_SEND_INTERVAL (R440, R444, R447): Sync with its Follow_Up and Announce from a MASTER port, Delay_Req from a SLAVE port. -/
def ptpSendStep (n msgType : Nat) (s : State) : State :=
  let s := if (s.ptpPort n).state = 1 then decidePorts s else s
  let p := s.ptpPort n
  let dom := cfgN s 0x9001 0
  match msgType, p.state with
  | 0, 6 =>
    let t := stampOf s n 1 0
    let s := s.setPtpPort n { p with syncSeq := p.syncSeq + 1 }
    let s := emit (.ptp n 0 p.syncSeq.toNat 0 []) (pushStamp n 0 false dom p.syncSeq.toNat s)
    emit (.ptp n 8 p.syncSeq.toNat 0 (natBytes 10 (t / 65536).toNat)) s
  | 11, 6 => emit (.ptp n 11 p.annSeq.toNat 0 ((ownRank s).flatMap (natBytes 8))) (s.setPtpPort n { p with annSeq := p.annSeq + 1 })
  | 1, 9 =>
    let t := stampOf s n 1 0
    let s := s.setPtpPort n { p with reqSeq := p.reqSeq + 1, delayReq := some (p.reqSeq.toNat, t) }
    emit (.ptp n 1 p.reqSeq.toNat 0 []) (pushStamp n 1 false dom p.reqSeq.toNat s)
  | _, _ => s

def execPtpSendInterval (dt : Nat) (port : Fin 3) (msgType : Nat) (s : State) : Host.Outcome State Fault Refusal :=
  let s := tick dt s
  guardOk (ptpRuns s && timeRole s != 0) (ptpSendStep port msgType) s

/-! ### Event capture (R454, R455) -/

/-- R454: the input takes an edge of this direction. -/
def evtEnabled (s : State) (n : Nat) (rising : Bool) : Bool := bitOn (cfg s 0x9050 n) (if rising then 0 else 1)

/-- R454: the filter's delay: FILTER + 1 samples at 1.0 GHz, in ps. -/
def evtDelay (s : State) (n : Nat) : Nat := (bits (cfg s 0x9050 n) 8 8 + 1) * 1000

/-- R454: a level is accepted after FILTER + 1 stable samples: it differs from the last one, which the ball then held for at least that long. -/
def evtAccepted (s : State) (n : Nat) (rising : Bool) : Bool :=
  let x := s.evt n
  x.level != some rising && (match x.edgeAt with | some t => decide (t + 2 * evtDelay s n ≤ s.time.now) | none => true)

/-- R459: device time, in ps, of an edge at elapsed time `t`: an edge of the cycle of a step, or before it, has the time before the step. -/
def edgeTime (s : State) (t : Nat) : Int :=
  let now : Int := s.time.epoch + t
  match s.time.lastStep with | some (u, d) => if t ≤ u then now - d else now | none => now

/-- R454, R455: an accepted edge that crossed the ball `ago` ps ago, stamped `dev` ps beside it, by at most 3 ns. -/
def capture (n : Nat) (rising : Bool) (ago : Nat) (dev : Int) (s : State) : State :=
  let x := s.evt n
  let t := ((s.time.now : Int) - ago + max (-3000) (min dev 3000)).toNat
  let flags := (if s.time.servo = 2 then 1 else 0) + (if s.axis.stopped then 2 else 0) + (if s.axis.confidence then 4 else 0)
  let c : Capture := ⟨x.seq, if rising then 1 else 2, flags, (edgeTime s t / 1000).toNat, lposOf (lposAt s t)⟩
  let full := decide (64 ≤ x.queue.length) && !popsNow s 0x9052 n
  let x' := { x with seq := x.seq + 1, queue := if full then x.queue else x.queue ++ [c], status := if full then x.status.set s.time.now 0 else x.status }
  let recent := x.raised.filter (fun u => decide (s.time.now < u + sec))
  if bitOn (cfg s 0x9050 n) 2 ∧ recent.length < 1000 then
    ev 0x9006 (timeDetail n c.edge (x.seq.toNat * 4294967296 + x'.status.count 0 : Nat)) (s.setEvt n { x' with raised := s.time.now :: recent })
      (line := some (lposAt s t)) (count := x'.status.count 0)
  else s.setEvt n { x' with raised := recent }

/-! ### Process data and correlation (R456 to R458) -/

/-- R457: T_n of a process-data instant in ns. -/
def pdInstant (s : State) (n : Int) : Int := n * s.time.pd.cycle + s.time.pd.phase

/-- LPOS at a device time in ns. -/
def lposAtNs (s : State) (t : Int) : Int := lposAt s (t * 1000 - s.time.epoch).toNat

/-- R457: the process-data frame of instant `n`. -/
def pdFrame (slot : Nat) (n : Int) (s : State) : State :=
  let x := s.sess slot
  let t := pdInstant s n
  let late := decide (t * 1000 + 20 * us < devTime s)
  let flags : Nat := (if s.time.servo = 2 then 128 else 0) + (if s.axis.confidence then 64 else 0) + (if stopReqN s then 32 else 0) +
    (if holdsLead s then 16 else 0) + (if late then 8 else 0)
  let lim := speedLimit s
  let fields : List Int := [n % 4294967296, flags, s.axis.state, s.gait.job, s.rein.state, t, lposOf (lposAtNs s t), (speedF32 s).toNat, lim.1,
    lposOf s.gait.w, (datumGen s).toNat, lim.2]
  let s := { s with time := { s.time with pd := { s.time.pd with lastN := some n, late := s.time.pd.late + (if late then 1 else 0) } } }
  emit (.pd x.peer x.id (BitVec.ofNat 64 (2 ^ 63 + x.devSeq)) fields) (s.setSess slot { s.sess slot with devSeq := x.devSeq + 1 })

/-- PD_CYCLE (R456, R457): the next instant of the stream has come. -/
def execPdCycle (dt : Nat) (s : State) : Host.Outcome State Fault Refusal :=
  let s := tick dt s
  match slotOf s s.time.pd.session, s.time.pd.lastN with
  | some i, some m => guardOk (s.time.pd.running && ptpRuns s && decide (pdInstant s (m + 1) * 1000 ≤ devTime s)) (pdFrame i (m + 1)) s
  | _, _ => ok s

/-- R456: a stream starts: instants at or above the start are sent. -/
def pdStart (sess : BitVec 32) (cycle phase : Nat) (s : State) : State :=
  { s with time := { s.time with pd := { s.time.pd with running := true, cycle := cycle, phase := phase, session := sess,
                                                        lastN := some ((devNs s - phase - 1) / (max 1 cycle : Nat)) } } }

/-- R456: the stream ends. -/
def pdStop (s : State) : State :=
  { s with time := { s.time with pd := { s.time.pd with running := false, cycle := 0, phase := 0, session := 0, lastN := none } } }

/-- R458: the latest multiple of the interval, in ns. -/
def corrInstant (s : State) : Int :=
  let i := cfg s 0x9071 0 * 1000000
  devNs s / max 1 i * i

/-- R458: a correlation record. -/
def correlate (s : State) : State :=
  let t := corrInstant s
  let flags := (if s.time.stepped then 1 else 0) + (if s.axis.stopped then 2 else 0) + (if s.axis.confidence then 4 else 0)
  let off := max (-2147483648) (min 2147483647 s.time.offset)
  let c : Corr := ⟨t.toNat, lposOf (lposAtNs s t), speedF32 s, off, s.time.servo, flags, datumGen s⟩
  { s with time := { s.time with corr := (c :: s.time.corr).take 16, stepped := false } }

/-- CORRELATION (R458): once for each instant. -/
def execCorrelation (dt : Nat) (s : State) : Host.Outcome State Fault Refusal :=
  let s := tick dt s
  let t := corrInstant s
  let fresh : Bool := match s.time.corr with | c :: _ => decide ((c.time : Int) < t) || (s.time.stepped && decide ((c.time : Int) ≠ t)) | [] => true
  guardOk (fresh && decide (s.power.state ≤ 2)) correlate s

end Sys2Proof.Machine
end

