-- ==== Sys2Proof/Machine/Tandem.lean ====
section
/-! DEFINITION. Tandem operation (R463 to R496): the records of the pair link, roles and switch-overs, what a wheeler takes from its lead,
and what the two chips compare. -/

namespace Sys2Proof.Machine

/-! ### Lead and wheeler (R467, R468, R485 to R489) -/

/-- Lanes PL_0 to PL_3 that are aligned (R470). -/
def lanesUp (s : State) : Nat := ((List.range 4).filter (fun n => tget false s.pair.lanes n)).length

/-- R463: the chip works in tandem mode since its cold start, and its pair link is up. -/
def pairRuns (s : State) : Bool := s.pair.state != 0 && decide (0 < lanesUp s)

/-- R499: DETAIL of a PAIR event without a subject. -/
def pairEvent (code reason : Nat) (v : Int) (s : State) : State :=
  raise code (if code = 0xA004 then (if reason = 2 then 0 else 1) else tget 0 sevTable code) (pairDetail 0xFF reason s v) s

/-- R489: the EPOCH that a new lead takes: one more than the highest seen, modulo 65,536, skipping 0. -/
def nextEpoch (s : State) : BitVec 16 := if s.pair.epochSeen = 65535 then 1 else s.pair.epochSeen + 1

/-- R485 step 3, R489: the chip leads: EPOCH, CLAIM MODE 1 on every ACTIVE lane, LEAD_n. -/
def becomeLead (s : State) : State :=
  let e := nextEpoch s
  let s := { s with pair := { s.pair with epoch := e, epochSeen := e, leadN := true, reason2 := false, partnerHeld := false
                                          fromStandby := false, elected := false, leads := false, ledBefore := none } }
  forAll (headNums.filter (fun h => laneActive s h)) (fun h s => emit (.claim h 1 e) s) (setPairState 3 0 s)

/-- R453, R485 steps 3 and 5, R486: a switch-over. The occurrences in the gap count as missed, and the new lead acknowledges every enabled ring. -/
def takeLead (reason : Nat) (s : State) : State :=
  let s := lifeEvent 1 (becomeLead s)
  let s := { s with pair := { s.pair with switches := s.pair.switches + 1
                                          logHead := some ((s.fire.defects.head?.map (fun (d : Defect) => d.first + (d.count : Int) - 1)).getD (-(2 ^ 63))) } }
  let s := pairEvent 0xA003 reason (datumLine s + 1) s
  let s := forAll (List.range 8) (fun n s => trigMiss n (s.trig n).undriven (s.setTrig n { s.trig n with undriven := 0 })) s
  forAll (ringNums.filter (fun n => (s.ring n).enable)) sendAck s

/-- R486: REASON of a takeover without a RELEASE: 80h, and the held reason of a chip that was HELD before its partner fell silent. -/
def takeoverReason (s : State) : Nat := 0x80 + (if s.pair.state = 6 ∧ !s.pair.fromStandby then s.pair.heldReason else 0)

/-- R468, R481: entry to JOINING; a wheeler with another firmware release is HELD (R464). The lines screened so far mark where pages count
as begun after entry. -/
def joinPair (s : State) : State :=
  let top := engineNums.foldl (fun (a : Int) k => if (s.engine k).role == .band then max a (s.engine k).next else a) (datumLine s + 1)
  let s := { s with pair := { s.pair with snapshot := false, kKnown := false, joinedAt := top, early := [], blocks := [], digests := []
                                          realigned := false, agreeSince := none, leadN := false, elected := false, ledBefore := none } }
  if s.pair.fwDiffers then setPairState 6 5 s else setPairState 4 0 s

/-- R467: SEARCHING from now on. -/
def searchPair (s : State) : State :=
  setPairState 1 0 { s with pair := { s.pair with leadN := false, elected := false, searchAt := s.time.now } }

/-- R468: both chips search: the higher preference leads, the lower serial on a tie; after a sleep the one that led before it (R496). The one
that leads waits for PEER_LEAD_n (R469). -/
def elect (s : State) : State :=
  let mine := cfgN s 0xA004 0
  let first := s.pair.ledBefore.getD
    (decide (s.pair.partnerPref < mine) || (mine == s.pair.partnerPref && decide (Config.serial.toNat < s.pair.partnerSerial.toNat)))
  if !first then joinPair s
  else if s.pair.peerLeadN then s
  else
    let s := becomeLead s
    { s with pair := { s.pair with elected := true } }

/-- R473, R486, R488: the partner is silent. -/
def goSilent (s : State) : State :=
  if s.pair.silent then s
  else
    let s := pairEvent 0xA004 0 (lanesUp s) { s with pair := { s.pair with silent := true, fromStandby := s.pair.state == 5 } }
    if !isWheeler s then s
    else if 5 ≤ s.pair.state ∧ s.pair.reason2 then takeLead (takeoverReason s) s
    else
      let s := forAll (headNums.filter (fun h => tget 0 s.pair.owner h == 1)) (fun h s => emit (.release h s.pair.epoch) s) s
      if s.pair.state = 6 then s else setPairState 6 4 s

/-- R464: the IDENT record of this chip, signed over the partner's random. -/
def sendIdent (s : State) : State :=
  sendRecord (.ident { key := Config.publicKey, serial := Config.serial, stepping := stepping, release := firmwareRelease s, sigOk := true
                       random := s.pair.random, preference := cfgN s 0xA004 0, pairing := s.pair.pairing.isSome } (Config.sign s.pair.partnerRandom)) s

/-- R464: link up: a random of 32 bytes, and the first IDENT record. -/
def startIdent (s : State) : State :=
  let n := s.model.free
  sendIdent { s with model := { s.model with free := n + 1 }, pair := { s.pair with random := (Config.deviceRandom n).take 32, partnerRandom := [] } }

/-! ### Receiving a record (R471, R473) -/

/-- The records received in order reach on through those received above the gap. -/
def advanceSeq : Nat → Nat → List Nat → Nat
  | 0, n, _ => n
  | k + 1, n, above => if above.contains (n + 1) then advanceSeq k (n + 1) above else n

/-- R471: a record is acknowledged, and what waited for it goes on (R476). -/
def takeAck (n : Nat) (s : State) : State :=
  let s := { s with pair := { s.pair with pending := s.pair.pending.filter (fun p => decide (n < p.seq)) } }
  settleWithheld (fun w => decide (w.record ≤ n)) id s

/-- R471, R473: a record arrives: one whose CRC fails is discarded; any other is a sign of the partner and acknowledges; one already
received is not applied again; one with ACKREQ is acknowledged. -/
def receiveRecord (h : PairHdr) (f : State → State) (s : State) : State :=
  if !pairRuns s ∨ !h.crcOk then s
  else
    let was := s.pair.silent
    let s := { s with pair := { s.pair with heardAt := some s.time.now, silent := false, reason2 := false } }
    let s := if was then pairEvent 0xA004 2 (lanesUp s) s else s
    let s := takeAck h.ackSeq s
    let again := decide (h.seq ≤ s.pair.rxSeq) || s.pair.rxAbove.contains h.seq
    let s := if again then s else
        let above := h.seq :: s.pair.rxAbove
        let n := advanceSeq above.length s.pair.rxSeq above
        f { s with pair := { s.pair with rxSeq := n, rxAbove := above.filter (fun x => decide (n < x)) } }
    if h.ackReq then sendRecord .ack s else s

/-- A record's outcome. -/
def recordOk (dt : Nat) (h : PairHdr) (f : State → State) (s : State) : Host.Outcome State Fault Refusal := ok (receiveRecord h f (tick dt s))

/-! ### Comparison (R478, R479) -/

def addCompare (k : Nat) (s : State) : State := { s with pair := { s.pair with compare := tinc s.pair.compare k } }

/-- R478, R479: PAIR.DIVERGE. -/
def diverge (subject reason : Nat) (v : Int) (s : State) : State := ev 0xA001 (pairDetail subject reason s v) s

/-- R479: one interval's dot digests are compared. A match ends the cause of a HELD wheeler's reason 2 (R481). -/
def compareDots (p : Nat) (first : Int) (crc own : BitVec 32) (s : State) : State :=
  let s := addCompare 2 s
  if crc = own then (if s.pair.state = 6 ∧ s.pair.heldReason = 2 then joinPair s else s)
  else
    let s := diverge p 2 first (addCompare 3 s)
    if s.pair.state = 4 ∨ s.pair.state = 5 then holdWheeler 2 s else s

/-- The lead's digests whose interval this chip has verified are compared; those of intervals no longer held here are dropped. -/
def compareWaiting (s : State) : State :=
  let ready := s.pair.digests.filter (fun d => (dotDigest s d.1 d.2.1).isSome)
  let old := fun (d : Nat × Int × BitVec 32) => decide (d.2.1 + 64 + (dotDepthLines (envNow s) : Int) < datumLine s)
  let s := { s with pair := { s.pair with digests := s.pair.digests.filter (fun d => (dotDigest s d.1 d.2.1).isNone && !old d) } }
  forAll ready (fun d s => match dotDigest s d.1 d.2.1 with | some own => compareDots d.1 d.2.1 d.2.2 own s | none => s) s

/-- R479: a stripe of the wheeler against the lead's; a copy that differs or lacks bytes is marked bad. -/
def compareStripe (n base : Nat) (crc : BitVec 32) (s : State) : State :=
  let s := addCompare 4 s
  let good : Bool := match stripeAt (s.ring n) base with
    | some x => (x.state == .complete || x.state == .released) && (x.state == .released || Config.crc32c (ringBytes s n base (x.len.getD 0)) == crc)
    | none => decide (base < (s.ring n).release)
  if good then s
  else
    let s := s.setRing n ((s.ring n).modStripe base (fun x => { x with state := .bad }))
    diverge n 3 base (addCompare 5 s)

/-- DIGEST (R479). -/
def takeDigest (d : DigestRec) (s : State) : State :=
  if !isWheeler s then s
  else match d with
    | .dots p first crc => compareWaiting { s with pair := { s.pair with digests := s.pair.digests ++ [(p, first, crc)] } }
    | .stripe n base crc => compareStripe n base crc s

/-- FILL (R479): bytes that this chip lacks enter the ring; the stripe is whole once every byte of it has been received. -/
def takeFill (b : FillRec) (s : State) : State :=
  let n := b.ring
  let r := s.ring n
  if 63 < n ∨ !r.enable ∨ b.seq < b.base ∨ b.base + b.len < b.seq + b.data.length ∨ b.base + b.len ≤ r.release ∨ r.release + ringSize s n < b.base + b.len then s
  else
    let s := writeBytes 1 (ringAddr s n b.seq) b.data s
    let stop := b.seq + b.data.length
    let r := s.ring n
    let r0 := r
    let r := if (stripeAt r b.base).isSome then r
      else { r with index := r.index.filter (fun x => decide (x.base < b.base)) ++
               [{ base := b.base, len := some b.len, page := b.page, stripe := b.stripe, state := .bad }] ++ r.index.filter (fun x => decide (b.base < x.base)) }
    let runs := missingIn (received r) (max r.release b.seq) stop
    let r := absorb { r with ranges := runs.foldl (fun l x => addRun x.1 x.2 l) r.ranges }
    let r := r.modStripe b.base (fun x => { x with top := max x.top stop, len := some b.len })
    let whole := (missingIn (received r) b.base (b.base + b.len)).isEmpty
    let r := r.modStripe b.base (fun x => if x.state = .bad ∧ x.err = 0 ∧ whole ∧ stop = b.base + b.len then { x with state := .complete } else x)
    let s := updateRelease n (s.setRing n (regap s.time.now { r with high := max r.high stop }))
    if (s.ring n).release = r.release then noteRing n r0 s else s

/-- Own elapsed time at an instant of the partner's device time (R474, R477). -/
def ownInstant (s : State) (t : Int) : Int := t - s.pair.offset - s.time.epoch

/-- LPOS (R478): the partner's position against this chip's own at the mapped time, in 1/65,536 line; one count is the gear. -/
def takeLpos (t x : Int) (s : State) : State :=
  let held := s.pair.state == 6 && s.pair.heldReason == 1
  if !(((s.pair.state == 4 || s.pair.state == 5) && s.pair.kKnown) || hasWheeler s || (held && s.pair.realigned)) then s
  else
    let d := (x - lposOf (lposAt s (ownInstant s t).toNat)).natAbs
    let s := addCompare 0 s
    let s := { s with pair := { s.pair with compare := tput 0 s.pair.compare 1 (BitVec.ofNat 32 (max (tget 0 s.pair.compare 1).toNat d)) } }
    if (srcChan s).gear < d * 65536 then
      let s := diverge 0xFF 1 d { s with pair := { s.pair with agreeSince := none } }
      if s.pair.state = 4 ∨ s.pair.state = 5 then holdWheeler 1 s else s
    else if !held then s
    else match s.pair.agreeSince with
      | none => { s with pair := { s.pair with agreeSince := some s.time.now } }
      | some a => if a + sec ≤ s.time.now then joinPair s else s

/-! ### What a wheeler takes from its lead (R475 to R477) -/

/-- A unit mark as the lead has it. -/
def setMark (m : Nat × Option Int) (s : State) : State :=
  let (u, x) := m
  if u < 128 then s.setRow u { s.row u with mark := x, lastLine := x.map (lineAt s u), pred := none }
  else if u < 136 then s.setTrig (u - 128) { s.trig (u - 128) with mark := x }
  else s.setCamPort (u - 136) { s.camPort (u - 136) with mark := x }

/-- R477: k from this chip's edge within 10 ns of the lead's. -/
def matchEdge (s : State) (ch : Nat) (e : Int × Int) : Option Int :=
  let t := ownInstant s e.2
  let own := ([(s.chan ch).last, (s.chan ch).prev].filterMap id).find? (fun k => decide (((k.t : Int) - t).natAbs ≤ 10 * ns))
  own.map (fun k => countDiff e.1 k.c)

/-- R477: an AXIS record. A change of k between alignments is a divergence (R478). -/
def takeAxis (a : AxisRec) (s : State) : State :=
  if !isWheeler s then s
  else if a.kind = 2 then lostPosition a.why s
  else
    let old := lpos s
    let k := ((a.edge.bind (matchEdge s a.source))).getD s.pair.countOffset
    let moved := s.pair.kKnown && k != s.pair.countOffset
    let L := lineOf a.p0
    let s := s.setChan a.source { s.chan a.source with base := ⟨a.p0, a.c0 - k⟩, gear := gearAt s a.source L, gearTo := some L, spread := {} }
    let s := { s with axis := { s.axis with source := a.source, state := if a.valid then 1 else s.axis.state }
                      gait := { s.gait with w := a.w }
                      pair := { s.pair with countOffset := k, kKnown := true, realigned := true } }
    let s := forAll (List.range 4) (fun c s => if a.armed.contains c ∧ !(s.chan c).armed then
        s.setChan c { s.chan c with armed := true, armedTick := some (tickNow s) } else s) s
    let s := forAll a.marks setMark s
    let s := if a.kind = 1 then ev 0x4005 (axisDetail a.source 0xFF (lposOf (lpos s - old))) s else s
    let s := passCommits s
    if moved ∧ (s.pair.state = 4 ∨ s.pair.state = 5) then
      holdWheeler 1 (diverge 0xFF 1 (lposOf (lpos s - old)).natAbs { s with pair := { s.pair with realigned := false } })
    else s

/-- R307, R434: a mirrored commit of the device settles the change that this chip has kept. -/
def dropChange (c : Commit) (s : State) : State :=
  let code := fun (d : DevChange) => if d.source = 4 then 1 else d.source
  match (if c.device then s.proto.waiting.find? (fun d => code d == c.source && c.nozzles.all (fun n => d.nozzles.contains n) &&
      c.writes.all (fun w => d.writes.contains w)) else none) with
  | some d => { s with proto := { s.proto with waiting := s.proto.waiting.erase d } }
  | none => s

/-- R476: mirrored commits are applied in generation order, at the same L. -/
def applyCommitsInOrder : Nat → State → State
  | 0, s => s
  | n + 1, s =>
    match s.pair.early.find? (fun c => c.gen == s.proto.gen + 1) with
    | none => s
    | some c =>
      let s := { s with pair := { s.pair with early := s.pair.early.filter (fun x => x.gen != c.gen) } }
      applyCommitsInOrder n (passCommits (acceptCommit { c with passed := false, noticed := false } c.writes (dropChange c s)))

/-- R475, R310: the nozzle changes of a mirrored shadow. -/
def shadowChanges (s : State) (handle : Nat) : List NozChange :=
  match s.pair.blocks.find? (fun b => b.handle == handle) with
  | some ⟨_, .nozzleWrite first count, got⟩ => (parseEntries first (cutEntries count (dataBytes got (48 * count)))).2
  | _ => []

def takeCommit (c : Commit) (shadows : List Nat) (s : State) : State :=
  if s.pair.state ≠ 4 ∧ s.pair.state ≠ 5 then s
  else
    let c := { c with nozzles := c.nozzles ++ shadows.flatMap (shadowChanges s) }
    let s := { s with pair := { s.pair with early := s.pair.early ++ [c], blocks := s.pair.blocks.filter (fun b => !shadows.contains b.handle) } }
    if s.pair.state = 4 ∧ !s.pair.snapshot then s else applyCommitsInOrder s.pair.early.length s

/-- R264, R265: the bytes of a threshold array go to their rows and boundary planes; the description is published. -/
def storeArray (slot w h n : Nat) (crc : BitVec 32) (got : List Byte) (s : State) : State :=
  let s := forAll (List.range (h * n)) (fun i s => writeBytes 1 (rowAddr s slot (i / n) + i % n * 512) ((got.drop (i * w)).take w) s) s
  { s with screen := { s.screen with arrays := tput none s.screen.arrays slot (some ⟨w, h, n, crc⟩), lostRows := tput [] s.screen.lostRows slot [] } }

/-- R264, R265: the content of a threshold array, as its load gave it. -/
def arrayContent (s : State) (slot : Nat) (a : ArrayInfo) : List Byte :=
  (List.range (a.h * a.n)).flatMap (fun i => readBytes s (rowAddr s slot (i / a.n) + i % a.n * 512) a.w)

/-- Big-endian 16-bit words of bytes. -/
def words16 : List Byte → List Nat
  | a :: b :: r => beNat [a, b] :: words16 r
  | _ => []

/-- R408, R417: an inspection table of a sensor. -/
def storeTable (n table : Nat) (vals : List Nat) (s : State) : State :=
  let x := s.sensor n
  s.setSensor n (match table with
    | 0 => { x with dark := some vals }
    | 1 => { x with flat := some vals }
    | _ => { x with absorb := some vals })

/-- R408: the bytes that a table of a sensor holds. -/
def tableBytes (s : State) (n table : Nat) : Nat :=
  let x := sensorCfg (envNow s) n
  if table = 2 then 8192 * chanCount x.dtype else 2 * x.width * chanCount x.dtype

/-- R475: block data of a mirrored transfer; a load that is whole is stored as on the lead. -/
def takeBlock (b : BlockRec) (s : State) : State :=
  if s.pair.state ≠ 4 ∧ s.pair.state ≠ 5 then s
  else
    let old := ((s.pair.blocks.find? (fun x => x.handle == b.handle)).map (·.got)).getD []
    let got := putData old b.offset b.data
    let rest := s.pair.blocks.filter (fun x => x.handle != b.handle)
    let keep := { s with pair := { s.pair with blocks := rest ++ [⟨b.handle, b.op, got⟩] } }
    let done := { s with pair := { s.pair with blocks := rest } }
    match b.op with
    | .nozzleWrite _ _ => keep
    | .thresholdLoad slot w h n crc => if got.length < w * h * n then keep else storeArray slot w h n crc (dataBytes got (w * h * n)) done
    | .inspLoad n table => if got.length < tableBytes s n table then keep else storeTable n table (words16 (dataBytes got (tableBytes s n table))) done

/-- LOOP (R434): the bar number and the bar whose commit is outstanding; a bar that the lead has settled is settled here. -/
def takeLoop (b : LoopRec) (s : State) : State :=
  if !isWheeler s then s
  else
    let s := { s with loop := { s.loop with j := b.j, outstanding := b.outstanding } }
    if b.outstanding.isSome then s
    else { s with proto := { s.proto with waiting := s.proto.waiting.filter (fun d => d.bar.isNone) } }

/-- R389: a mirrored instant as elapsed time of this chip. -/
def mirrored (s : State) (t : Int) : Nat := (ownInstant s t).toNat

/-- REIN (R389): the wheeler holds the same rows and applies the same re-arm; an abandoned rein-back leaves its rows as on the lead. -/
def takeRein (b : ReinRec) (s : State) : State :=
  if !isWheeler s then s
  else
    let was := s.rein.state
    let s := { s with rein := { s.rein with state := b.state, target := b.target, wOld := b.wOld, cause := b.cause, first := b.first
                                            stopAt := mirrored s b.stopAt, revAt := mirrored s b.revAt, holdAt := mirrored s b.holdAt
                                            runAt := mirrored s b.runAt, lowCount := if b.state = was then s.rein.lowCount else countOf (srcChan s) }
                      faults := { s.faults with stopRein := b.state == 1 } }
    let s := if b.state = 2 ∧ was ≠ 2 then muteReverse s else s
    if b.state = 4 ∧ was ≠ 4 then
      forAll (heldRows s) (fun u s => s.setRow u { s.row u with held := false, resumed := false, pred := none })
        (lowerCameras b.first { s with gait := { s.gait with w := lpos s } })
    else if b.state = 0 ∧ was ≠ 0 ∧ was ≠ 4 then forAll (heldRows s) (skipRow false) s
    else
      let s := forAll (heldRows s) (fun u s => if b.held.any (fun x => x.1 == u) then s else skipRow false u s) s
      forAll b.held (fun x s => s.setRow x.1 { s.row x.1 with held := true, heldCause := x.2.1, heldLine := x.2.2, heldLogged := max (s.row x.1).heldLogged x.2.2
                                                              pred := none }) s

/-- TIME (R474): the lead's servo; a wheeler whose own is not LOCKED steers toward the lead and takes its accepted jumps. -/
def takeTime (b : TimeRec) (s : State) : State :=
  if !isWheeler s ∨ s.time.servo = 2 then s
  else
    let s := { s with time := { s.time with grandmaster := b.grandmaster } }
    if b.accepted ∧ s.time.servo = 4 then acceptJump s
    else judgeOffset (-(s.pair.timeDiff * 65536)) s

/-- LOG (R472): the newest entries of the logs and the two counts. -/
def takeLog (b : LogRec) (s : State) : State :=
  if !isWheeler s then s
  else
    let defects := match b.defect, s.fire.defects with
      | some d, x :: r => if x.first = d.first ∧ x.head = d.head ∧ x.plane = d.plane ∧ x.cause = d.cause then d :: r else (d :: x :: r).take 64
      | some d, [] => [d]
      | none, l => l
    let splices := match b.splice, s.rein.splices with
      | some d, x :: r => if x.number = d.number then d :: r else (d :: x :: r).take 8
      | some d, [] => [d]
      | none, l => l
    { s with gait := { s.gait with lastComplete := b.lastComplete }, rein := { s.rein with count := b.reinCount, splices := splices }
             fire := { s.fire with defects := defects }, loop := { s.loop with last := b.lastBar } }

/-- RING (R163): the wheeler's CUM, ranges and release point at the lead; the values of the lead's last ACK at the wheeler. An advance of
what the lead may acknowledge is acknowledged (R153). -/
def takeRing (n cum release : Nat) (ranges : List (Nat × Nat)) (limit : Nat) (s : State) : State :=
  let old := ackValues s n
  let r := s.ring n
  let was := peerHeld r
  let s := s.setRing n (regapPeer s.time.now was
    { r with peerCum := cum, peerRanges := ranges, peerRelease := release, ackLimit := if isWheeler s then limit else r.ackLimit })
  let new := ackValues s n
  let lost := if hasWheeler s then ((s.ring n).peerGaps.filter (fun g => g.reason == 2 && g.naked.isNone && inTime s n g.first g.stop)) else []
  let s := if lost.isEmpty then s
    else sendNak n 2 lost.length (lost.map (fun g => (max g.first r.release, g.stop)))
      (s.setRing n { s.ring n with peerGaps := (s.ring n).peerGaps.map (fun g => if lost.contains g then { g with naked := some s.time.now } else g) })
  if hasWheeler s ∧ (old.1 < new.1 ∨ old.2.1 < new.2.1) then sendAck n s else s

/-- R481: every mirrored item, commits included, as this lead holds it. -/
def snapshotOf (s : State) : Snapshot :=
  { objects := (s.proto.cfg.filterMap (fun e => e.2.map (fun v => (e.1 / 256, e.1 % 256, v.val, v.gen)))).filter (fun o => !chipLocal o.1)
    gen := s.proto.gen, commits := s.proto.commits, job := s.gait.job, pages := s.gait.pages, nozzles := s.noz.base
    arrays := (List.range 32).filterMap (fun k => (tget none s.screen.arrays k).map (fun a => (k, a, arrayContent s k a)))
    tables := sensorNums.flatMap (fun n => ([(s.sensor n).dark, (s.sensor n).flat, (s.sensor n).absorb].zip (List.range 3)).filterMap (fun t => t.1.map (fun v => (n, t.2, v))))
    axis := axisRecord s 0 0, rein := reinRecord s, loop := ⟨s.loop.j, s.loop.outstanding⟩, time := timeRecord s false, log := logRecord s }

/-- R481: every mirrored item of the lead. Bands of a running job are placed on this chip's own engines. -/
def takeSnapshot (b : Snapshot) (s : State) : State :=
  if s.pair.state ≠ 4 then s
  else
    let s := forAll (b.objects.filter (fun o => !chipLocal o.1)) (fun o s => setCfg s o.1 o.2.1 o.2.2.1 o.2.2.2) s
    let s := { s with proto := { s.proto with commits := b.commits, gen := b.gen }
                      gait := { s.gait with job := b.job, pages := b.pages }
                      noz := { s.noz with base := b.nozzles.foldl (fun t e => tput {} t e.1 e.2) s.noz.base } }
    let s := forAll b.arrays (fun x s => storeArray x.1 x.2.1.w x.2.1.h x.2.1.n x.2.1.crc x.2.2 s) s
    let s := forAll b.tables (fun x s => storeTable x.1 x.2.1 x.2.2 s) s
    let s := takeLog b.log (takeTime b.time (takeLoop b.loop (takeRein b.rein (takeAxis b.axis s))))
    let s := if b.job ≠ 0 ∧ !s.screen.assigned then runAssignment (datumLine s + commitHorizon s) s else s
    let s := { s with pair := { s.pair with snapshot := true, early := s.pair.early.filter (fun c => decide (s.proto.gen.toNat < c.gen.toNat)) } }
    applyCommitsInOrder s.pair.early.length s

/-! ### Identity and pairing (R464 to R466) -/

/-- R464: this chip is not paired with its partner: state 2; a lead goes on leading without a standby (R465). -/
def isolate (s : State) : State :=
  let leads := s.pair.state == 3 || (s.pair.state == 2 && s.pair.leads)
  let s := { s with pair := { s.pair with identified := false, leads := leads, leadN := leads } }
  setPairState 2 0 s

/-- R464: a paired chip takes its role: one in state 2 that leads is LEAD, any other searches. -/
def takeRole (s : State) : State :=
  let s := { s with pair := { s.pair with identified := true } }
  let s := causeGone 0xA002 (unitAddr 7 0 0 0 0 (ownNode s).toNat) s
  if s.pair.state ≠ 2 then s
  else if s.pair.leads then setPairState 3 0 { s with pair := { s.pair with leads := false } }
  else searchPair s

/-- R466: both chips run `Cmd.Pair`: the hash is stored and the handle completes. -/
def completePair (key : List Byte) (s : State) : State :=
  match s.pair.pairing with
  | none => s
  | some (h, _) =>
    let s := { s with pair := { s.pair with partnerHash := Config.sha384 key, pairing := none, partnerPairing := none } }
    takeRole (completeWord h 0 0 s)

/-- IDENT (R464, R466). -/
def takeIdent (b : IdentRec) (s : State) : State :=
  let own := (firmwareRelease s).toNat
  let s := if b.random = s.pair.partnerRandom then s else sendIdent { s with pair := { s.pair with partnerRandom := b.random } }
  let s := { s with pair := { s.pair with partnerSerial := b.serial, partnerPref := b.preference
                                          fwDiffers := b.release.toNat / 65536 != own / 65536
                                          partnerPairing := if b.pairing then some (s.time.now, b.key) else s.pair.partnerPairing } }
  if b.pairing ∧ s.pair.pairing.isSome then completePair b.key s
  else if s.pair.partnerHash ≠ [] ∧ Config.sha384 b.key = s.pair.partnerHash ∧ b.sigOk then
    let s := takeRole s
    if s.pair.fwDiffers ∧ (s.pair.state = 4 ∨ s.pair.state = 5) then holdWheeler 5 s else s
  else
    let s := pairEvent 0xA002 0 b.serial.toNat (isolate s)
    addFault 0xA002 1 7 (unitAddr 7 0 0 0 0 (ownNode s).toNat) s

/-- R466: `Cmd.Pair` has been started on this chip; the partner learns it from an IDENT record. -/
def startPair (handle : BitVec 16) (s : State) : State :=
  let s := sendIdent { s with pair := { s.pair with pairing := some (handle, s.time.now) } }
  match s.pair.partnerPairing with
  | some (t, key) => if s.time.now ≤ t + 60 * sec then completePair key s else s
  | none => s

/-- R466: `Cmd.Unpair` erases the hash, and the chip takes state 2. -/
def unpair (s : State) : State :=
  let s := { s with pair := { s.pair with partnerHash := [] } }
  if s.pair.state = 0 then s else isolate s

/-! ### Heartbeats (R468, R472, R481) -/

/-- R481: for every active head row, the next line lies in a page screened here from its first line since JOINING, or needs no contone. -/
def rowsJoined (s : State) : Bool :=
  (activeRows (envNow s)).all (fun u =>
    match pageOf s (rowNext s u) with
    | some pg => pg.blank || pg.testbar || decide (s.pair.joinedAt ≤ pg.first)
    | none => true)

/-- R481: a HELD wheeler returns to JOINING when its cause has gone; reasons 1 and 2 end by comparison, 5 and 6 only at a cold start. -/
def rejoin (s : State) : State :=
  match s.pair.heldReason with
  | 3 => if (List.range 128).all (fun u => (s.row u).lateRun == 0) then joinPair s else s
  | 4 => joinPair s
  | 7 => if (srcChan s).faulty then s else joinPair s
  | _ => s

/-- R468, R472: what the partner tells is kept, and a handover that it confirms ends. -/
def noteHeartbeat (b : Heartbeat) (s : State) : State :=
  let s := forAll (List.range 8) (fun n s => s.setTrig n { s.trig n with undriven := 0 }) s
  let s := { s with pair := { s.pair with heartbeat := some b
                                          epochSeen := if s.pair.epochSeen.toNat < b.epoch.toNat then b.epoch else s.pair.epochSeen
                                          partnerHeld := s.pair.partnerHeld && b.state != 4 && b.state != 6
                                          elected := s.pair.elected && b.state < 4 } }
  match s.pair.handover with
  | some h => if b.state = 3 then completeWord h 0 0 { s with pair := { s.pair with handover := none } } else s
  | none => s

/-- R481: a joining chip stands by once it holds what the lead holds. -/
def tryStandby (b : Heartbeat) (s : State) : State :=
  if s.pair.state = 4 ∧ s.pair.snapshot ∧ s.proto.gen = b.high ∧ rowsJoined s then setPairState 5 0 s else s

/-- HEARTBEAT (R468, R472, R481, R484). -/
def takeHeartbeat (b : Heartbeat) (s : State) : State :=
  let was := (s.pair.heartbeat.map (·.state)).getD 0
  let s := noteHeartbeat b s
  match s.pair.state with
  | 1 => if !s.pair.identified then s else if b.state = 3 then joinPair s else if b.state = 1 then elect s else s
  | 3 => if b.state = 4 ∧ was ≠ 4 then sendRecord (.snapshot (snapshotOf s)) s else s
  | 4 => tryStandby b (compareWaiting s)
  | 5 => compareWaiting s
  | 6 => if b.state = 3 then compareWaiting (rejoin s) else s
  | _ => s

/-- R472: what a heartbeat carries. -/
def heartbeatOf (s : State) : Heartbeat :=
  { state := s.pair.state, epoch := s.pair.epoch, gen := datumGen s, high := s.proto.gen, w := s.gait.w, servo := s.time.servo, stopReq := stopReqN s
    inkEn := inkEnN s, headPwr := headPwrN s, faultN := faultN s, fireUe := fireUeCount s }

/-- HEARTBEAT_SEND (R472): the lead's TIME record goes out beside it once every 1 ms. -/
def sendHeartbeat (s : State) : State :=
  let s := sendRecord (.heartbeat (heartbeatOf s)) { s with pair := { s.pair with beatAt := s.time.now } }
  if s.pair.timeAt + ms ≤ s.time.now then mirrorTime s else s

/-! ### Ownership of heads (R366, R486, R489, R490, R494) -/

/-- CLAIM_STATUS: a bridge reports a change of owner (0 none, 1 port 0, 2 port 1), or a refused take (REASON 6). -/
def takeClaim (h owner reason : Nat) (epoch : Nat) (s : State) : State :=
  let word := BitVec.ofNat 32 (owner % 4 * 2 ^ 30 + reason % 16 * 2 ^ 24 + epoch % 65536)
  let s := s.setLane h { s.lane h with claim := word }
  let s := ev 0x7015 (traceDetail s h reason (owner * 65536 + epoch : Nat)) s
  let mine := owner ≠ 0 ∧ owner - 1 = lanePort s h
  let who := if owner = 0 then 0 else if mine then 1 else 2
  let s := if tget 0 s.pair.owner h = 3 ∧ who ≠ 0 then ev 0xA006 (pairDetail h 0 s (rowNext s (2 * h))) s else s
  let s := { s with pair := { s.pair with owner := tput 0 s.pair.owner h who
                                          epochSeen := if s.pair.epochSeen.toNat < epoch % 65536 then BitVec.ofNat 16 epoch else s.pair.epochSeen } }
  if s.pair.state = 5 ∨ s.pair.state = 6 then
    if mine ∧ reason = 2 then
      let s := { s with pair := { s.pair with reason2 := true } }
      if s.pair.silent then takeLead (takeoverReason s) s else s
    else if mine ∧ reason = 4 ∧ s.pair.state = 6 then takeLead (takeoverReason s) s
    else s
  else s

def execClaimStatus (dt : Nat) (head : Fin 64) (owner reason epoch : Nat) (s : State) : Host.Outcome State Fault Refusal :=
  let s := tick dt s
  guardOk (laneActive s head) (takeClaim head owner reason epoch) s

/-! ### The steps of the pair link -/

def execHeartbeatSend (dt : Nat) (s : State) : Host.Outcome State Fault Refusal :=
  let s := tick dt s
  guardOk (pairRuns s && decide (s.pair.beatAt + 2 * us ≤ s.time.now)) sendHeartbeat s

def execPairAck (dt : Nat) (h : PairHdr) (s : State) : Host.Outcome State Fault Refusal := recordOk dt h id s

def execCommitRecord (dt : Nat) (h : PairHdr) (c : Commit) (shadows : List Nat) (s : State) : Host.Outcome State Fault Refusal :=
  recordOk dt h (takeCommit c shadows) s

def execBlockRecord (dt : Nat) (h : PairHdr) (b : BlockRec) (s : State) : Host.Outcome State Fault Refusal := recordOk dt h (takeBlock b) s

def execAxisRecord (dt : Nat) (h : PairHdr) (a : AxisRec) (s : State) : Host.Outcome State Fault Refusal := recordOk dt h (takeAxis a) s

/-- LPOS_RECORD (R478). The count shows in the difference of positions, so it is not compared on its own. -/
def execLposRecord (dt : Nat) (h : PairHdr) (t _count lpos : Int) (s : State) : Host.Outcome State Fault Refusal := recordOk dt h (takeLpos t lpos) s

/-- LPOS_SEND (R478). -/
def sendLpos (s : State) : State :=
  sendRecord (.lpos (devTime s) (countOf (srcChan s)) (lposOf (lpos s))) { s with pair := { s.pair with lposAt := s.time.now } }

def execLposSend (dt : Nat) (s : State) : Host.Outcome State Fault Refusal :=
  let s := tick dt s
  guardOk (pairRuns s && decide (s.pair.lposAt + 10 * us ≤ s.time.now)) sendLpos s

def execRingRecord (dt : Nat) (h : PairHdr) (ring : Fin 64) (cum releaseTo : Nat) (ranges : List (Nat × Nat)) (limit : Nat) (s : State) :
    Host.Outcome State Fault Refusal := recordOk dt h (takeRing ring cum releaseTo ranges limit) s

def execDigest (dt : Nat) (h : PairHdr) (d : DigestRec) (s : State) : Host.Outcome State Fault Refusal := recordOk dt h (takeDigest d) s

def execLoopRecord (dt : Nat) (h : PairHdr) (b : LoopRec) (s : State) : Host.Outcome State Fault Refusal := recordOk dt h (takeLoop b) s

def execReinRecord (dt : Nat) (h : PairHdr) (b : ReinRec) (s : State) : Host.Outcome State Fault Refusal := recordOk dt h (takeRein b) s

def execTimeRecord (dt : Nat) (h : PairHdr) (b : TimeRec) (s : State) : Host.Outcome State Fault Refusal := recordOk dt h (takeTime b) s

def execLogRecord (dt : Nat) (h : PairHdr) (b : LogRec) (s : State) : Host.Outcome State Fault Refusal := recordOk dt h (takeLog b) s

/-- RELEASE_RECORD (R484, R485): only a STANDBY wheeler answers with a takeover. -/
def takeRelease (trigger : Nat) (s : State) : State := if s.pair.state = 5 then takeLead trigger s else s

def execReleaseRecord (dt : Nat) (h : PairHdr) (trigger : Nat) (s : State) : Host.Outcome State Fault Refusal := recordOk dt h (takeRelease trigger) s

def execIdent (dt : Nat) (h : PairHdr) (b : IdentRec) (s : State) : Host.Outcome State Fault Refusal := recordOk dt h (takeIdent b) s

def execSnapshot (dt : Nat) (h : PairHdr) (b : Snapshot) (s : State) : Host.Outcome State Fault Refusal := recordOk dt h (takeSnapshot b) s

def execFill (dt : Nat) (h : PairHdr) (b : FillRec) (s : State) : Host.Outcome State Fault Refusal := recordOk dt h (takeFill b) s

/-- ECHO (R474): latency in ps, the partner's device time counter minus the own in ps, its PTP time minus the own in ns. -/
def takeEchoRecord (latency : Nat) (offset diff : Int) (s : State) : State :=
  { s with pair := { s.pair with latency := latency, offset := offset, timeDiff := diff } }

def execEcho (dt : Nat) (h : PairHdr) (latency : Nat) (offset diff : Int) (s : State) : Host.Outcome State Fault Refusal :=
  recordOk dt h (takeEchoRecord latency offset diff) s

def execEchoSend (dt : Nat) (s : State) : Host.Outcome State Fault Refusal :=
  let s := tick dt s
  guardOk (pairRuns s && decide (s.pair.echoAt + sec ≤ s.time.now))
    (fun s => sendRecord (.echo (devTime s)) { s with pair := { s.pair with echoAt := s.time.now } }) s

/-- RECORD_RESEND (R471): the record goes out again; after its fourth send the partner counts as silent. -/
def resendRecord (p : PairPending) (s : State) : State :=
  if 4 ≤ p.sends then goSilent { s with pair := { s.pair with pending := s.pair.pending.filter (fun x => x.seq != p.seq) } }
  else
    emit (.pair p.seq true s.pair.rxSeq p.body)
      { s with pair := { s.pair with pending := s.pair.pending.map (fun x => if x.seq = p.seq then { x with sends := x.sends + 1, sentAt := s.time.now } else x) } }

def execRecordResend (dt : Nat) (seq : Nat) (s : State) : Host.Outcome State Fault Refusal :=
  let s := tick dt s
  match s.pair.pending.find? (fun p => p.seq == seq) with
  | none => ok s
  | some p => guardOk (pairRuns s && decide (p.sentAt + 5 * us ≤ s.time.now)) (resendRecord p) s

def execPartnerSilent (dt : Nat) (s : State) : Host.Outcome State Fault Refusal :=
  let s := tick dt s
  let due : Bool := match s.pair.heardAt with | some t => decide (t + 8 * us ≤ s.time.now) | none => false
  guardOk (s.pair.state != 0 && decide (s.power.state ≤ 1) && !s.pair.silent && due) goSilent s

/-- MIRROR_TIMEOUT (R476): the lead answers as usual, and its wheeler counts as HELD; a wheeler whose acknowledgements do not arrive is HELD
with reason 4, unless it is HELD already (R494). -/
def mirrorTimeout (s : State) : State :=
  if isWheeler s then (if s.pair.state = 6 then s else holdWheeler 4 s)
  else settleWithheld (fun w => decide (w.since + 100 * us ≤ s.time.now)) id { s with pair := { s.pair with partnerHeld := true } }

def execMirrorTimeout (dt : Nat) (s : State) : Host.Outcome State Fault Refusal :=
  let s := tick dt s
  guardOk (isWheeler s || s.proto.withheld.any (fun w => decide (w.since + 100 * us ≤ s.time.now))) mirrorTimeout s

/-- PAIR_LANE_CHANGE (R464, R470, R471): a lane falls or aligns; at link up the sequences start again and IDENT records are exchanged. -/
def laneChange (n : Nat) (aligned : Bool) (s : State) : State :=
  let up := decide (0 < lanesUp s)
  let s := { s with pair := { s.pair with lanes := tput false s.pair.lanes n aligned } }
  let s := pairEvent 0xA004 (if aligned then 2 else 1) (lanesUp s) s
  if !aligned ∨ up then s
  else startIdent { s with pair := { s.pair with txSeq := 1, rxSeq := 0, rxAbove := [], pending := [], identified := false } }

def execPairLaneChange (dt : Nat) (lane : Fin 4) (aligned : Bool) (s : State) : Host.Outcome State Fault Refusal :=
  let s := tick dt s
  guardOk (s.pair.state != 0 && decide (s.power.state ≤ 1) && tget false s.pair.lanes lane != aligned) (laneChange lane aligned) s

/-- PEER_LEAD (R469, R485): a lead that sees the signal asserted gives up lead, and after a start-up race both chips search again; a STANDBY
wheeler that sees it deasserted takes lead. -/
def peerLeadChange (asserted : Bool) (s : State) : State :=
  let s := { s with pair := { s.pair with peerLeadN := asserted } }
  if asserted then
    if s.pair.state = 3 ∧ s.pair.elected then
      searchPair { s with pair := { s.pair with races := s.pair.races + 1, heartbeat := none } }
    else if s.pair.state = 3 then joinPair (leadRelease 9 false s)
    else if s.pair.state = 2 ∧ s.pair.leads then { releaseLanes s with pair := { (releaseLanes s).pair with leads := false, leadN := false } }
    else s
  else if s.pair.state = 5 then takeLead 0x80 s
  else s

def execPeerLead (dt : Nat) (asserted : Bool) (s : State) : Host.Outcome State Fault Refusal :=
  let s := tick dt s
  guardOk (s.pair.state != 0 && decide (s.power.state ≤ 1) && s.pair.peerLeadN != asserted) (peerLeadChange asserted) s

/-- R468, R469: the wait after the search: ten bits of the serial, the next ten after each race, times 4 µs. -/
def searchWait (s : State) : Nat := Config.serial.toNat / 2 ^ (10 * s.pair.races) % 1024 * 4 * us

/-- SEARCH_TIMEOUT (R468): no heartbeat has been heard since the search began: the chip leads unless PEER_LEAD_n is asserted. -/
def searchOver (s : State) : State :=
  if s.pair.peerLeadN then s
  else
    let s := becomeLead s
    { s with pair := { s.pair with elected := true } }

def execSearchTimeout (dt : Nat) (s : State) : Host.Outcome State Fault Refusal :=
  let s := tick dt s
  let heard : Bool := match s.pair.heardAt with | some t => decide (s.pair.searchAt ≤ t) | none => false
  guardOk (s.pair.state == 1 && decide (s.power.state ≤ 1) && !heard && decide (s.pair.searchAt + cfgN s 0xA010 0 * ms + searchWait s ≤ s.time.now)) searchOver s

/-- R484: `Cmd.Handover` may run. -/
def handoverAllowed (s : State) : Bool := s.pair.state == 3 && partnerStandby s && s.rein.state == 0

end Sys2Proof.Machine
end

