-- ==== Sys2Proof/Machine/Records.lean ====
section
/-! DEFINITION. What the device keeps in flash and stable RAM: lifetime records (R558 to R560), the configuration store (R529), boot
control and image slots (R531 to R533); and the values that a cold start gives the objects (R529, R598, R599). -/

namespace Sys2Proof.Machine

/-! ### Two copies, written alternately (R529, R559) -/

/-- Copy `k` of two is the one that a read would take now, or there is none: the other is written next. -/
def newerOf (l : List FlashCopy) (k j : Nat) : Bool :=
  let a := l.getD k {}
  let b := l.getD j {}
  a.valid && (!b.valid || decide (b.seq < a.seq))

/-- Which copy a write goes to: the one that does not govern. -/
def writeSlot (l : List FlashCopy) : Nat := if newerOf l 0 1 then 1 else 0

/-- Sequence number of the next write. -/
def nextSeq (l : List FlashCopy) : Nat := l.foldl (fun a c => if c.valid then max a c.seq else a) 0 + 1

/-- The copy to take: a valid CRC, the OTP serial, the higher sequence number. -/
def bestSlot (l : List FlashCopy) : Option Nat :=
  let own := (List.range l.length).filter (fun k => (l.getD k {}).valid && (l.getD k {}).serial == Config.serial)
  own.foldl (fun (a : Option Nat) k =>
    match a with
    | none => some k
    | some j => if (l.getD j {}).seq < (l.getD k {}).seq then some k else some j) none

/-- A valid copy of another serial. -/
def foreignCopy (l : List FlashCopy) : Option FlashCopy := l.find? (fun c => c.valid && c.serial != Config.serial)

/-! ### Lifetime records (R558 to R560) -/

/-- R559: write one copy of the lifetime records. -/
def writeLife (s : State) : State :=
  if s.power.vsup3Over then s
  else
    let l := s.faults.life
    let l := { l with storedHours := powerHours s, writes := min (l.writes + 1) 4294967295 }
    let heads := s.faults.lifeFlash.map (·.copy)
    let data := { l with onMs := powerOnMs s, since := none }
    let copy : LifeCopy := ⟨⟨nextSeq heads, true, Config.serial⟩, data⟩
    emit (.flash 4 (writeSlot heads)) { s with faults := { s.faults with life := l, lifeFlash := s.faults.lifeFlash.set (writeSlot heads) copy } }

/-- R560: the records of a cold start: those of stable RAM, else the governing flash copy, else zero with an event. -/
def restoreLife (ram : Bool) (s : State) : State :=
  let heads := s.faults.lifeFlash.map (·.copy)
  let run := fun (l : Life) => { l with since := some s.time.now }
  if ram then s
  else match bestSlot heads with
    | some k => { s with faults := { s.faults with life := run ((s.faults.lifeFlash.map (·.data)).getD k {}) } }
    | none =>
      let s := { s with faults := { s.faults with life := run { since := none } } }
      match foreignCopy heads with
      | some c => ev 0xB031 (faultDetail 0xFF 0 0 c.serial.toNat) s
      | none => ev 0xB030 (faultDetail 0xFF 0 0 0) s

/-- LIFE_HOUR (R559): a full hour of `Life.PowerOnHours` since the last write. -/
def execLifeHour (dt : Nat) (s : State) : Host.Outcome State Fault Refusal :=
  let s := tick dt s
  guardOk (decide (s.faults.life.storedHours < powerHours s) && !s.power.down && s.power.state != 4) writeLife s

/-! ### The configuration store (R529) -/

/-- The head delay corrections now in the store. -/
def storedDelays (s : State) : List (Nat × Val) :=
  match bestSlot (s.start.store.copies.map (·.copy)) with
  | some k => (((s.start.store.copies.map (·.objs)).getD k [])).filter (fun o => o.1 / 256 == 0x7016)
  | none => []

/-- Keys of the objects that have been written or committed. -/
def writtenKeys (s : State) : List Nat :=
  (s.proto.cfg.map (·.1) ++ s.proto.commits.flatMap (fun c => c.writes.map (fun w => key w.idx w.sub))).eraseDups

/-- The value of an object at the datum, by its key. -/
def datumVal (s : State) (k : Nat) : Nat × Val := (k, (govVal s (datumLine s) (k / 256) (k % 256)).1)

/-- `Head.DelayCorrection` by the values that govern the line at the datum. -/
def currentDelays (s : State) : List (Nat × Val) := ((writtenKeys s).filter (fun k => k / 256 == 0x7016)).map (datumVal s)

/-- R529: the delay corrections are due: they have changed, and 60 s have passed since they were stored last. -/
def delaysDue (s : State) : Bool :=
  decide (s.start.store.delaysAt + 60 * sec ≤ s.time.now) && !((currentDelays s).all (fun o => (storedDelays s).contains o))

/-- R529: write one copy of the store. -/
def writeConfig (s : State) : State :=
  if s.power.vsup3Over then s
  else
    let st := s.start.store
    let heads := st.copies.map (·.copy)
    let late := delaysDue s
    let objs := ((writtenKeys s).filter (fun k => storedObject (k / 256))).map (datumVal s) ++ (if late then currentDelays s else storedDelays s)
    let copy : CfgCopy := ⟨⟨nextSeq heads, true, Config.serial⟩, objs⟩
    emit (.flash 5 (writeSlot heads)) { s with start := { s.start with store :=
      { copies := st.copies.set (writeSlot heads) copy, dirtyAt := none, delaysAt := if late then s.time.now else st.delaysAt } } }

/-- R529: a pending write is completed before the supply goes. -/
def flushConfig (s : State) : State := if s.start.store.dirtyAt.isSome then writeConfig s else s

/-- CONFIG_STORE_WRITE (R529). -/
def execConfigStoreWrite (dt : Nat) (s : State) : Host.Outcome State Fault Refusal :=
  let s := tick dt s
  guardOk ((s.start.store.dirtyAt.isSome || delaysDue s) && flashWorks s && s.start.step == 9) writeConfig s

/-- R599: the Kinov profile: index, subindex, value. -/
def kinov : List (Nat × Nat × Int) :=
  [(0x4010, 0, 0x5AB56AD6), (0x4011, 0, 0x5AB56AD6), (0x4022, 0, 80000), (0x4020, 0, 0x000F0407), (0x4020, 1, 0x000F0007), (0x4026, 0, 1),
   (0x4050, 0, 200000), (0x6040, 0, 2), (0x7030, 1, 2), (0x7030, 2, 2), (0x7030, 3, 2), (0x4089, 0, 4), (0x5013, 0, 1024), (0x3002, 0, 1)] ++
  (List.range 8).map (fun i => (0x6000, i + 1, (1 : Int))) ++ (List.range 8).map (fun i => (0x6001, i + 1, (3 : Int)))

/-- R525: VALUE of POWER.RAIL: the address in force since the cold start (R523), and STATUS_WORD. -/
def railWord (s : State) (rail : Nat) (status : BitVec 16) : Int := ((s.start.rails.getD (rail - 1) 0 * 65536 + status.toNat : Nat) : Int)

/-- R523, R529: the rail addresses that the configuration store gives a cold start. -/
def storedRails (s : State) : List Nat :=
  let copies := s.start.store.copies
  let objs : List (Nat × Val) := match bestSlot (copies.map (·.copy)) with | some k => (copies.map (·.objs)).getD k [] | none => []
  (List.range 9).map (fun i => match objs.find? (fun o => o.1 == key 0x3010 (i + 1)) with | some o => (Val.int o.2).toNat | none => 0x40 + i)

/-- R545: DETAIL of a start-up or calibration event. -/
def startDetail (subject reason unit : Nat) (v : Int) : BitVec 96 := detail subject reason unit v

/-- R529, R598: the objects of a cold start: defaults, then the profile, then the store; each counts as generation 0. -/
def restoreConfig (s : State) : State :=
  let copies := s.start.store.copies
  let heads := copies.map (·.copy)
  let best := bestSlot heads
  let objs := match best with | some k => (copies.map (·.objs)).getD k [] | none => []
  let profile : Nat := match objs.find? (fun o => o.1 == key 0x1040 0) with | some o => (Val.int o.2).toNat | none => 0
  let s := { s with start := { s.start with profile := profile } }
  let s := if s.start.profile == 1 then forAll kinov (fun x s => setCfg s x.1 x.2.1 (.num x.2.2) 0) s else s
  let s := forAll objs (fun o s => setCfg s (o.1 / 256) (o.1 % 256) o.2 0) s
  let num := fun (i d : Nat) => match objs.find? (fun o => o.1 == key i 0) with | some o => (Val.int o.2).toNat | none => d
  let s := { s with start := { s.start with udpPort := num 0x1013 51664, streamUdpPort := num 0x1014 51665
                                            macs := (List.range 3).foldl (fun t p => tput [] t p (Val.oct (baseVal s 0x1020 p).1)) [] } }
  let s := { s with start := { s.start with node := (objs.find? (fun o => o.1 == key 0x1010 0)).map (fun o => (Val.int o.2).toNat) } }
  if best.isSome then s
  else ev 0x3012 (startDetail 0xFF (if (foreignCopy heads).isSome then 2 else 1) 0 0) s

/-! ### Images and boot control (R531 to R534) -/

/-- R531: the first check that a slot fails, 0 when it is valid; the rollback counter is compared as it stands now. -/
def slotReason (s : State) (k : Nat) : Nat :=
  let x := slotOfImage s k
  if (x.reason = 0 ∨ x.reason = 5) ∧ x.rollback < s.start.rollback then 4 else x.reason

/-- R532: write boot control, to the other copy. -/
def writeBoot (b : BootCtl) (s : State) : State :=
  emit (.flash 6 (b.seq.toNat % 2)) { s with start := { s.start with boot := { b with seq := b.seq + 1 } } }

/-- R533: choose the slot; one found bad since (R542) is taken as invalid with check 5. None is recovery mode. -/
def bootChoice (bad : Option Nat) (s : State) : Option Nat × State :=
  let reason := fun (s : State) (k : Nat) => if bad = some k then 5 else slotReason s k
  let b := s.start.boot
  let back := fun (b : BootCtl) => { b with preferred := b.confirmed, trial := false }
  let s := if b.trial ∧ 1 ≤ b.tries then ev 0x3010 (startDetail b.confirmed 2 0 0) (writeBoot (back b) s)
    else if b.trial then writeBoot { b with tries := 1 } s
    else s
  let p := s.start.boot.preferred
  if reason s p = 0 then (some p, s)
  else if reason s (1 - p) = 0 then
    let s := ev 0x3010 (startDetail (1 - p) 1 0 (reason s p)) s
    (some (1 - p), if s.start.boot.trial then writeBoot (back s.start.boot) s else s)
  else (none, s)

end Sys2Proof.Machine
end

