-- ==== Sys2Proof/Machine/Start.lean ====
section
/-! DEFINITION. A cold start (R526 to R543): what survives it, the steps in order, its failures, recovery mode, and the events that it
raises in step 9. A start is one step of the model, with the facts it finds as operands. -/

namespace Sys2Proof.Machine

/-! ### What survives (R36, R529, R531, R559, R560) -/

/-- R36: the state after the reset of domains L and M, and at power-on of the supervisor die as well: what is in flash and OTP stays; what is
in stable RAM stays where `ram`. The device time counter starts again. -/
def freshState (ram : Bool) (s : State) : State :=
  let now := s.time.now
  let wires := (List.range 4).foldl (fun (t : Tab EncChan) c =>
    tput {} t c { a := (s.chan c).a, b := (s.chan c).b, pairs := (s.chan c).pairs.filter (fun p => p.2.termOff) }) []
  let f : State := {
    model := s.model, pending := s.pending
    time := { now := now, epoch := -(now : Int), coldStart := now }
    axis := { chans := wires }
    noz := { flash := s.noz.flash, flashCnt := s.noz.flashCnt, flashId := s.noz.flashId, flashed := s.noz.flashed, savedAt := now }
    integ := { retired := s.integ.retiredFlash.map (fun r => { r with state := 2 }), retiredFlash := s.integ.retiredFlash, spareRows := s.integ.spareRows, repaired := s.integ.repaired
               lapStart := [(0, (now, 0)), (1, (now, 0))] }
    insp := { sensors := s.insp.sensors.foldl (fun t e => tput {} t e.1 { dark := e.2.dark, flat := e.2.flat, absorb := e.2.absorb }) [] }
    pair := { partnerHash := s.pair.partnerHash, peerLeadN := s.pair.peerLeadN }
    start := { slots := s.start.slots, boot := s.start.boot, rollback := s.start.rollback, faultLog := s.start.faultLog
               unraised := s.start.unraised, store := s.start.store, learned := s.start.learned }
    power := { wakePerm := s.power.wakePerm, vsupMv := s.power.vsupMv }
    faults := { lifeFlash := s.faults.lifeFlash } }
  if ram then
    { f with power := { f.power with wakeLog := s.power.wakeLog, wakeRun := s.power.wakeRun, wakeUnraised := s.power.wakeUnraised
                                     suspended := s.power.suspended, vsup3Over := s.power.vsup3Over, brown := s.power.brown }
             start := { f.start with held := s.start.held ++ s.power.held }
             faults := { f.faults with life := s.faults.life } }
  else f

/-- Switch rails; the list gives order, on, and mV (0 the nominal value). -/
def setRails (l : List (Nat × Bool × Nat)) (s : State) : State :=
  forAll l (fun x s => s.setRail x.1 { s.rail x.1 with on := x.2.1, mv := x.2.2 }) s

/-- Rails 9 down to `n` off (R502). -/
def railsOff (n : Nat) (s : State) : State := setRails (((List.range 10).filter (fun k => n ≤ k ∧ 1 ≤ k)).map (fun k => (k, false, 0))) s

/-! ### Failures (R542) -/

/-- R516, R542: seconds of the crystal count since the last cold start. -/
def aonSeconds (s : State) : Nat := (s.time.now - s.time.coldStart) / sec

/-- R542: a start fault record, in stable RAM and flash. -/
def startFault (step cause rail : Nat) (status : BitVec 16) (s : State) : State :=
  let r : WakeFault := ⟨aonSeconds s, 4, step, cause, rail, status, s.power.wakeRun⟩
  lifeEvent 6 (emit (.flash 7 0) { s with start := { s.start with faultLog := (r :: s.start.faultLog).take 8, unraised := s.start.unraised + 1 } })

/-- R503, R526 step 2: ON_OFF_CONFIG, VOUT_MODE and OPERATION 80h to rails 1 to `n`. -/
def railsUp (n : Nat) (s : State) : State :=
  forAll ((List.range n).map (· + 1)) (fun r s => emit (.pmbus r 1 (nominalMv r)) (emit (.pmbus r 6 0) (emit (.pmbus r 5 0) s))) s

/-- R542: rails `n` down to 1 off, one attempt each. -/
def railsDown (n : Nat) (s : State) : State := forAll ((List.range n).map (n - ·)) (fun r s => emit (.pmbus r 0 (nominalMv r)) s) s

/-- R527: after RESET_n the boot ROM sends CLEAR_FAULTS to each rail and reads STATUS_WORD. -/
def checkRails (s : State) : State := forAll ((List.range 9).map (· + 1)) (fun r s => emit (.pmbus r 7 0) (emit (.pmbus r 3 0) s)) s

/-- R542: a start that fails at step 2 or 3 leaves the supervisor die alone, its rails off, with FAULT_n asserted; it is retried once. The
state then has the outputs and clocks of Deep sleep: nothing of the logic die runs. -/
def startFailed (step cause rail : Nat) (status : BitVec 16) (retried : Bool) (s : State) : State :=
  let s := startFault step cause rail status (railsOff 1 (railsDown (if step = 2 then rail - 1 else 9) s))
  let s := if cause = 1 then raise 0x3003 1 (detail rail 1 0 (railWord s rail status)) s else s
  { s with start := { s.start with step := 0, retried := true, retryAt := if retried then none else some s.time.now }
           power := { s.power with state := 3 }, store := { s.store with state := 0 }, faults := { s.faults with inkEn := false, headPwr := false } }

/-- R535: recovery mode. -/
def recoveryMode (s : State) : State :=
  { s with start := { s.start with step := 4, recovery := true }, store := { s.store with state := 0 }
           faults := { s.faults with inkEn := false, headPwr := false } }

/-! ### Steps 5 and 6: the store and its fill (R205, R312, R313, R542) -/

/-- R203, R205: the slabs that the fill omits. -/
def skippedSlabs (s : State) : List Nat :=
  let v := cfg s 0x3002 0
  (List.range 49152).filter (fun k =>
    match partAt s k with
    | none => bitOn v 1
    | some p => (bitOn v 0 && p.purpose == 4) || (bitOn v 1 && p.purpose == 6))

/-- R205 step 1, R220: entries leave the retirement map whose faulty rows have all been repaired; one with none on record, when any row of its block
has been (assumption log 64). -/
def dropRepaired (s : State) : State :=
  let done := fun (r : RetireEntry) =>
    s.integ.repaired.any (fun x => x.1 == r.pc && x.2.1 == r.sid && x.2.2.1 == r.bank && x.2.2.2 / 64 == r.block) &&
      r.rows.all (fun w => s.integ.repaired.contains (r.pc, r.sid, r.bank, w))
  { s with integ := { s.integ with retired := s.integ.retired.filter (fun r => !done r) } }

/-- R313: a head's part of the table, or its defaults with an event. A part that holds INH_THERMAL is cleared as after a sleep (R330). -/
def loadPart (badParts : List Nat) (h : Nat) (s : State) : State :=
  let z := s.noz
  if tget false z.flashed h ∧ !badParts.contains h then
    let own := fun (k : Nat) => chanHead k == h
    let s := if z.flash.any (fun e => own e.1 && e.2.inhThermal) then s.setHead h { s.head h with inhibited := true } else s
    { s with noz := { z with base := (z.flash.filter (fun e => own e.1)).foldl (fun t e => tput {} t e.1 e.2) z.base
                             cnt := (z.flashCnt.filter (fun e => own e.1)).foldl (fun t e => tput {} t e.1 e.2) z.cnt
                             cntStored := (z.flashCnt.filter (fun e => own e.1)).foldl (fun t e => tput {} t e.1 e.2) z.cntStored
                             identity := tput [] z.identity h (tget [] z.flashId h) } }
  else
    let d := applyPatch (defaultPatch (envNow s) h) {}
    let base := if d = {} then z.base else (List.range headChans).foldl (fun t i => tput {} t (channel h i) d) z.base
    ev 0x6013 (nozzleDetail h 0 0 0) { s with noz := { z with base := base } } (line := atLine (datumLine s))

/-- Steps 5 and 6: training, the fill, and the nozzle table. A store that cannot be trained (1) stays at state 0, one whose fill does not end (2) at
state 1. -/
def fillStore (f : StartFacts) (s : State) : State :=
  let s := dropRepaired s
  let skip := skippedSlabs s
  let filled := { s with store := { s.store with state := 1, mem := [], marks := [], fresh := [], unwritten := skip.map (fun k => (k, s.time.now + 1)) }
                         integ := { s.integ with skipped := skip.map (fun k => (k, true)) } }
  let s := if f.store = 0 then { filled with store := { filled.store with state := 2 } }
    else dieFault 2 3 2 0 none false (if f.store = 2 then filled else { s with store := { s.store with state := 0 } })
  forAll headNums (loadPart f.badParts) s

/-! ### Step 7: calibration (R536 to R541) -/

/-- Occurrence count of a flag of `Cal.Status`. -/
def calCount (s : State) (b : Nat) : Nat := s.start.cal.count b

/-- R541, R537: CAL.MARGIN. -/
def marginEvent (reason : Nat) (m : Nat × Nat × Nat) (s : State) : State :=
  ev 0xB011 (startDetail m.1 reason m.2.1 m.2.2) s (count := calCount s 2)

/-- Set a flag of `Cal.Status`. -/
def calFlag (b : Nat) (s : State) : State := { s with start := { s.start with cal := s.start.cal.set s.time.now b } }

/-- R538: HOURS of a calibration record's header. -/
def recordHours (b : List Byte) : Nat := beNat ((b.drop 8).take 4)

/-- R536, R541: what calibration measures of a receiver: eye, slicer mask, termination segments; the figures are free values. -/
def measureEyes (s : State) : State :=
  let fig := fun (k e : Nat) => (Config.freeOf 541 [(k : Int), (e : Int), (s.time.now : Int)]).toNat % 65536
  { s with start := { s.start with laneEye := (List.range 77).foldl (fun t k => tput [] t k ((List.range 4).map (fig k))) [] } }

/-- R541: at each self-refresh exit the ECC margins are measured anew (free values), and a figure below the limit raises CAL.MARGIN. -/
def refreshMargins (s : State) : State :=
  forAll (List.range 32) (fun p s =>
    let m := tget [0, 0, 0] s.start.storeMargin p
    let x := (Config.freeOf 542 [(p : Int), (s.time.now : Int)]).toNat % 128
    let s := { s with start := { s.start with storeMargin := tput [] s.start.storeMargin p [x, m.getD 1 0, m.getD 2 0] } }
    let due := match tget none s.start.marginAt p with | some t => decide (t + 60 * sec ≤ s.time.now) | none => true
    if (x : Int) < cfgElem s 0xE040 0 2 && due then
      marginEvent 2 (3, p, x) { s with start := { s.start with marginAt := tput none s.start.marginAt p (some s.time.now) } }
    else s) s

/-- R539: the taps of an encoder channel: those chosen, or for a moving channel the learned ones. -/
def tapsOf (f : StartFacts) (s : State) (c : Nat) : List Nat :=
  let old := s.start.learned.1.getD c []
  if f.moving.contains c ∧ !f.learnedBad ∧ old ≠ [] then old else f.encTaps.getD c []

/-- R538: the learned record is rewritten at the end of step 7 when a value has changed, or when it failed its check (R539). -/
def learn (f : StartFacts) (s : State) : State :=
  let new := ((List.range 4).map (tapsOf f s), f.trims, f.storeMargin)
  if f.learnedBad ∨ new ≠ s.start.learned then emit (.flash 1 0) { s with start := { s.start with learned := new } } else s

/-- Step 7: the calibration records, the elements without a candidate, and the choices made. -/
def calibrate (f : StartFacts) (s : State) : State :=
  let s := measureEyes s
  let head := fun (k : Nat) => recordHours (f.headers.getD k [])
  let s := { s with start := { s.start with storeInfo := f.headers, tempTrim := f.trims
                                            encThreshold := (List.range 4).foldl (fun t c => tput [] t c (tapsOf f s c)) []
                                            storeMargin := (List.range 32).foldl (fun t p => tput [] t p (f.storeMargin.getD p [])) [] } }
  let s := if f.learnedBad then raise 0xB010 0 (startDetail 0xFF 1 0 (head 1)) (addFault 0xB010 0 5 (unitDie 1) (calFlag 0 s)) (count := calCount s 0 + 1)
    else s
  let s := if f.learnedBad ∧ f.factoryBad then
      let s := { s with start := { s.start with factoryBad := true } }
      raise 0xB010 1 (startDetail 0xFF 2 0 (head 0)) (addFault 0xB010 1 5 (unitDie 1) (calFlag 1 s)) (count := calCount s 1 + 1)
    else s
  let s := forAll f.margins (fun m s => addFault 0xB011 1 5 (unitDie 0) (marginEvent 1 m (calFlag 2 s))) s
  let s := forAll f.moving (fun c s => { calFlag 3 s with start := { (calFlag 3 s).start with deferred := tput false s.start.deferred c true } }) s
  let figure := fun (p : Nat) => ((f.storeMargin.getD p []).getD 0 0 : Nat)
  let low := (List.range f.storeMargin.length).filter (fun p => decide ((figure p : Int) < cfgElem s 0xE040 0 2))
  learn f (forAll low (fun p s => marginEvent 2 (3, p, figure p) { s with start := { s.start with marginAt := tput none s.start.marginAt p (some s.time.now) } }) s)

/-- R408: an inspection table whose CRC fails in flash becomes the identity. -/
def dropTable (x : Nat × Nat) (s : State) : State :=
  let n := s.sensor x.1
  let s := s.setSensor x.1 (match x.2 with
    | 0 => { n with dark := none }
    | 1 => { n with flat := none }
    | _ => { n with absorb := none })
  ev 0x8007 (inspDetail x.1 0 0 x.2) s

/-- R22: the engines of a region that pass their tile. -/
def passing (bad : List Nat) (r : Nat) : List Nat := ((List.range 9).map (fun i => 9 * r + i)).filter (fun k => !bad.contains k)

/-- R22, R28: a region takes the first available spare of the others for an engine that it lacks. -/
def lendSpare (r : Nat) (s : State) : State :=
  match standIn s r with
  | some k => s.setEngine k { s.engine k with role := .free, lent := some r }
  | none => s

/-- R22: engines whose tile fails are out of service; with nine passing, the highest is the region's spare; a region with fewer than eight borrows
spares for those it lacks, the lowest region first. -/
def chooseSpares (bad : List Nat) (s : State) : State :=
  let s := forAll (List.range 4) (fun r s =>
    forAll ((List.range 9).map (fun i => 9 * r + i)) (fun k s =>
      s.setEngine k { role := if bad.contains k then .out else if (passing bad r).length = 9 ∧ some k = (passing bad r).getLast? then .spare else .free }) s) s
  forAll (List.range 4) (fun r s => forAll (List.range (8 - (passing bad r).length)) (fun _ s => lendSpare r s) s) s

/-! ### Steps 8 and 9 -/

/-- R463, R468: tandem mode is taken at a cold start, and the chip searches. -/
def startTandem (s : State) : State :=
  if cfgN s 0xA000 0 = 0 then s
  else
    let hash := s.pair.partnerHash
    { s with pair := { s.pair with tandem := true, state := 1, searchAt := s.time.now, partnerHash := hash } }

/-- R516: bits 127..64 of a record. -/
def faultHigh (r : WakeFault) : Nat := r.aonSeconds % 2 ^ 32 * 2 ^ 32 + r.frm % 256 * 2 ^ 24 + r.step % 256 * 2 ^ 16 + r.cause % 256 * 2 ^ 8 + r.rail % 256

/-- Step 9: the object server is ready; what was found earlier is raised, oldest first (R527), and START.FAULT for each record (R542). -/
def serve (s : State) : State :=
  let old := s.start.held
  let s := { s with start := { s.start with step := 9, held := [] } }
  let s := forAll old broadcast s
  let s := forAll ((s.start.faultLog.take s.start.unraised).reverse) (fun r s => ev 0x3011 (startDetail 0xFF r.cause 0 (faultHigh r)) s) s
  { s with start := { s.start with unraised := 0 }, faults := { s.faults with inkEn := cfgN s 0x3006 0 == 1, headPwr := true } }

/-- R526: steps 3 to 9 with the image of a slot. -/
def startWith (ram : Bool) (f : StartFacts) (slot : Nat) (s : State) : State :=
  let s := { s with start := { s.start with bootSlot := slot, timeline := f.times, step := 5 } }
  let s := chooseSpares f.badTiles (restoreConfig s)
  let s := calibrate f (fillStore f s)
  let s := restoreLife ram (forAll f.badTables dropTable s)
  let s := startTandem (ptpInit s)
  let s := if s.power.vsup3Over then addFault 0x3004 1 6 unitDevice s else s
  updateLimit (serve s)

/-- R526, R527, R542: a cold start. `ram`: stable RAM has kept its contents; `retried`: this is the one retry. A second digest that differs
starts again with that slot taken as invalid; flash that cannot be read ends step 4 in recovery mode (R555). -/
def coldStart (ram retried : Bool) (f : StartFacts) (s : State) : State :=
  let s := freshState ram s
  let s := { s with start := { s.start with step := 1, rails := storedRails s } }
  match f.failed with
  | some (step, cause, rail, status) => if step = 4 then recoveryMode (startFault 4 cause rail status s) else startFailed step cause rail status retried s
  | none =>
    let (slot, s) := bootChoice none s
    match slot with
    | none => recoveryMode s
    | some k =>
      if f.digestBad then
        let (again, s) := bootChoice (some k) (startFault 7 6 0 0 s)
        match again with
        | none => recoveryMode s
        | some j => startWith ram f j s
      else startWith ram f k s

/-- R526: a start from step 1, which brings up the rails as far as it gets. -/
def powerStart (ram retried : Bool) (f : StartFacts) (s : State) : State :=
  coldStart ram retried f (railsUp (match f.failed with | some (2, _, rail, _) => rail | _ => 9) s)

/-- R527: a start from step 3, with the rails kept on. -/
def resetStart (f : StartFacts) (s : State) : State := coldStart true false f (checkRails s)

/-- POWER_ON_RESET (R518, R526): VSUP rises through 6.8 V; stable RAM is lost. -/
def execPowerOnReset (dt : Nat) (f : StartFacts) (s : State) : Host.Outcome State Fault Refusal := ok (powerStart false false f (tick dt s))

/-- R36: RESET_n is asserted: domains L and M are held in reset, and firing stops at once. -/
def holdReset (s : State) : State :=
  let t := freshState true s
  { t with start := { t.start with step := 3, retried := s.start.retried }, store := { t.store with state := 0 }
           power := { t.power with state := 3, rails := s.power.rails }, faults := { t.faults with resetN := true, inkEn := false, headPwr := false } }

/-- RESET_N (R36, R522, R527, R542, R543): asserted, or released, which starts from step 3, or from step 1 where the rails were off. In Off the die that reads it has no supply. -/
def execResetN (dt : Nat) (release : Bool) (f : StartFacts) (s : State) : Host.Outcome State Fault Refusal :=
  let s := tick dt s
  guardOk (!s.power.down && s.power.state != 4 && (s.faults.resetN == release)) (if release then (if (s.rail 9).on then resetStart f else powerStart true s.start.retried f) else holdReset) s

/-- START_RETRY (R542): 1 s after a failure at step 2 or 3. -/
def execStartRetry (dt : Nat) (f : StartFacts) (s : State) : Host.Outcome State Fault Refusal :=
  let s := tick dt s
  guardOk (match s.start.retryAt with | some t => decide (t + sec ≤ s.time.now) | none => false) (powerStart true true f) s

/-! ### Calibration after the start (R539, R540) -/

/-- ENC_CAL_DEFERRED (R539, R540): a stop of 100 ms: the spare comparator's taps take over. -/
def encCalDeferred (ch : Nat) (taps : List Nat) (s : State) : State :=
  { s with start := { s.start with deferred := tput false s.start.deferred ch false, encThreshold := tput [] s.start.encThreshold ch taps } }

def execEncCalDeferred (dt : Nat) (ch : Fin 4) (taps : List Nat) (s : State) : Host.Outcome State Fault Refusal :=
  let s := tick dt s
  let still : Bool := match (s.chan ch).last with | some k => decide (k.t + 100 * ms ≤ s.time.now) | none => true
  guardOk (tget false s.start.deferred ch && s.axis.stopped && still) (encCalDeferred ch taps) s

/-- TAP_STEP (R540): one tap step of a lane; drift beyond 8 taps from the start value sets MARGIN. The published drift of the lane's
pseudo-channel is the largest (R544); a pseudo-channel has 32 DQ and 4 ECC lanes (R167). -/
def tapStep (lane : Nat) (up : Bool) (s : State) : State :=
  let t := tget (64, 64) s.start.taps lane
  let now := if up then min 127 (t.1 + 1) else t.1 - 1
  let drift := fun (x : Nat × Nat) => ((x.1 : Int) - x.2).natAbs
  let was := drift t
  let pc := lane / 36
  let m := tget [0, 0, 0] s.start.storeMargin pc
  let s := { s with start := { s.start with taps := tput (64, 64) s.start.taps lane (now, t.2), tapAt := tput none s.start.tapAt lane (some s.time.now) } }
  let largest := (s.start.taps.filter (fun e => e.1 / 36 == pc)).foldl (fun a e => max a (drift e.2)) 0
  let s := { s with start := { s.start with storeMargin := tput [] s.start.storeMargin pc [m.getD 0 0, largest, m.getD 2 0] } }
  if 8 < drift (now, t.2) ∧ was ≤ 8 then calFlag 2 s else s

def execTapStep (dt : Nat) (lane : Nat) (up : Bool) (s : State) : Host.Outcome State Fault Refusal :=
  let s := tick dt s
  let rested : Bool := match tget none s.start.tapAt lane with | some t => decide (t + ms ≤ s.time.now) | none => true
  guardOk (s.store.state == 2 && decide (lane < 1152) && rested) (tapStep lane up) s

end Sys2Proof.Machine
end

