-- ==== Sys2Proof/Machine/Power.lean ====
section
/-! DEFINITION. Power states (R500 to R517, R521, R522): the rail requests and their acknowledgement, entry to Idle, Sleep, Deep sleep and
Off, the wakes and their failures, and the supply input (R518 to R520). -/

namespace Sys2Proof.Machine

/-! ### Events and rails (R502 to R506, R519) -/

/-- R519: a POWER event; while no link is up it waits for Run. -/
def powerEvent (code sev : Nat) (d : BitVec 96) (s : State) (count : Nat := 0) : State :=
  if s.power.state ≤ 1 then raise code sev d s (count := count)
  else { s with power := { s.power with held := s.power.held ++ [eventRec s code sev d 0 none count] } }

/-- R525: POWER.STATE: the state entered, and the bit of the wake source or FFh for a request. -/
def stateEvent (st src : Nat) (s : State) : State := powerEvent 0x3001 0 (detail 0xFF st 0 src) s

/-- R505, R506, R525: POWER.RAIL. -/
def railEvent (rail reason sev : Nat) (status : BitVec 16) (s : State) : State :=
  powerEvent 0x3003 sev (detail rail reason 0 (railWord s rail status)) s

/-- The voltage that a request asks for; 0 mV stands for the nominal one. -/
def targetMv (rail mv : Nat) : Nat := if mv = 0 then nominalMv rail else mv

/-- R503, R504: OPERATION or VOUT_COMMAND goes to a rail. -/
def railRequest (r : RailReq) (s : State) : State := emit (.pmbus r.rail r.kind (targetMv r.rail r.mv)) { s with power := { s.power with req := some r } }

/-- Send the next rail request of a sequence (R504). Kinds: 0 off, 1 on, 2 change; 0 mV is the nominal voltage. -/
def startRail (s : State) : State :=
  match s.power.todo with
  | [] => s
  | (rail, kind, mv) :: rest =>
    railRequest ⟨rail, kind, mv, 1, s.time.now⟩ { s with power := { s.power with todo := rest } }

/-- Begin a sequence of rail requests. -/
def beginSeq (k : SeqKind) (todo : List (Nat × Nat × Nat)) (s : State) : State :=
  startRail { s with power := { s.power with seq := k, todo := todo, req := none } }

/-- R504: STATUS_WORD, the level of RAIL_PG (`good`) and READ_VOUT (`mv`) acknowledge a request in the rail's mode. -/
def acknowledges (s : State) (r : RailReq) (status : BitVec 16) (good : Bool) (mv : Nat) : Bool :=
  let pg := cfgN s 0x3011 r.rail == 1
  match r.kind with
  | 0 => if pg then !good else status.getLsbD 6
  | 1 => !status.getLsbD 15 && (if pg then good else !status.getLsbD 11 && !status.getLsbD 6)
  | _ => !status.getLsbD 15 && decide (50 * ((mv : Int) - targetMv r.rail r.mv).natAbs ≤ targetMv r.rail r.mv)

/-- What an acknowledged request has done to its rail. -/
def applyRail (r : RailReq) (s : State) : State :=
  let x := s.rail r.rail
  s.setRail r.rail (match r.kind with
    | 0 => { x with on := false }
    | 1 => { x with on := true, mv := 0 }
    | _ => { x with mv := r.mv })

/-! ### What stops and starts with the regions (R36, R250, R289) -/

/-- R36, R250, R289: the regions come out of power gating through their reset: staging, anchors, windows and checkpoints are gone. Each ring
decodes again from line 0 of its next stripe; a plane is screened from the first line whose start position lies above W. -/
def restartRegions (s : State) : State :=
  let s := forAll ringNums (fun n s =>
    let r := s.ring n
    s.setRing n { r with staged := [], anchors := [], redo := none, index := r.index.map (fun x => { x with nextLine := 0, above := [] }) }) s
  let s := { s with screen := { s.screen with acc := [] } }
  forAll engineNums (fun k s =>
    let x := s.engine k
    match x.role, x.plane with
    | .band, some p =>
      let n := firstToScreen s p
      s.setEngine k { x with next := n, unverified := n, tileLine := n, checkpoints := [⟨n, true⟩], waitRows := [], window := [], waiting := false
                             remount := none, lostFrom := none }
    | _, _ => s) s

/-- R496: a power request of the lead goes to its wheeler, in a heartbeat. -/
def askWheeler (target : Nat) (s : State) : State :=
  if hasWheeler s then sendRecord (.heartbeat { heartbeatOf s with request := some target }) s else s

/-- R510: entry to Idle. -/
def goIdle (s : State) : State :=
  let s := { s with power := { s.power with state := 1, coresRun := false, enteredAt := s.time.now } }
  let s := stateEvent 1 0xFF s
  forAll (headNums.filter (laneActive s)) (fun h s => powerTaken h 1 s) s

/-- R496, R507, R510: `Cmd.PowerState` with target 1. -/
def enterIdleState (slot : Nat) (s : State) : State := goIdle (completeHandle slot 0 0 (askWheeler 1 s))

/-- R511: the device returns from Idle to Run; `src` is the wake source bit, or FFh for a request. -/
def returnToRun (src : Nat) (s : State) : State :=
  if s.power.state ≠ 1 then s
  else
    let s := askWheeler 0 s
    let s := { s with power := { s.power with state := 0, coresRun := true } }
    let s := forAll headNums (fun h s => if (s.lane h).state = 7 then laneWake h 2 s else s) s
    resumeRows (restartRegions (stateEvent 0 src s))

/-- R507: `Cmd.PowerState` is refused with this code. -/
def powerRefusal (target : Nat) (s : State) : Option Nat :=
  if 4 < target then some 0x0303
  else if isWheeler s then some 0x040B
  else if s.power.seq ≠ .idle ∨ target = s.power.state ∨ 1 < s.power.state then some 0x0401
  else if 2 ≤ target ∧ (s.gait.job ≠ 0 ∨ s.rein.state ≠ 0 ∨ !(pendingCommits s).isEmpty) then some 0x0401
  else if target = 1 ∧ (s.gait.job = 1 ∨ s.gait.job = 2 ∨ s.rein.state ≠ 0) then some 0x0401
  else none

/-! ### Entry to Sleep, Deep sleep and Off (R508, R509) -/

/-- A capture transfer is in progress. -/
def captureBusy (s : State) : Bool :=
  (List.range 4).any (fun c => (s.camPort c).cciHandle.isSome) || sensorNums.any (fun n => (s.sensor n).expRun)

/-- Running mover handles, which refuse self-refresh (R188). -/
def moverHandles (s : State) : List Nat :=
  (runningHandles s).filter (fun i => match (s.handle i).op with
    | .storeFill .. => true
    | .storeCopy .. => true
    | .thresholdLoad .. => true
    | .encode _ => true
    | .retire .. => true
    | _ => false)

/-- R508, R522: the block that refuses the entry, and its reason. -/
def entryRefusal (f : EntryFacts) (s : State) : Option (Nat × Nat) :=
  if f.wake.isSome then some (0, 0)
  else if (runningHandles s).any (fun i => match (s.handle i).op with | .encode _ => true | _ => false) then some (1, 1)
  else if f.capture && captureBusy s then some (2, 1)
  else if !(moverHandles s).isEmpty then some (4, 2)
  else if f.store.isSome || s.integ.retired.any (fun r => r.state == 1) then some (4, 1)
  else match f.partner with
    | some (block, reason) => if hasWheeler s then some (5, 0x80 + block % 8 * 16 + reason % 16) else none
    | none => none

/-- R508 order 2: transfers that end within the bound complete; ports and CCI masters go idle, and open frames close. -/
def stopCapture (s : State) : State :=
  let s := forAll (List.range 4) (fun c s =>
    match (s.camPort c).cciHandle with
    | some h =>
      let (v, s) := drawFree s
      completeWord h 0 (BitVec.ofNat 96 (v % 4294967296)) (s.setCamPort c { s.camPort c with cciHandle := none })
    | none => s) s
  let s := forAll sensorNums (fun n s => if (s.sensor n).expRun then listDone n none s else s) s
  cutFrames (fun _ => true) s

/-- R509: a refusal: the blocks already stopped start again, and the handle completes with the refusing block and its reason. -/
def refuseEntry (slot block reason : Nat) (f : EntryFacts) (s : State) : State :=
  let stopped := match f.wake with | some n => n | none => block - 1
  let s := if 2 ≤ stopped then stopCapture s else s
  let s := if 3 ≤ stopped then restartRegions s else s
  let s := if block = 4 then
      ev 0x5023 (detail 0xFF reason 0 (if reason = 2 then (handleWord s ((moverHandles s).headD 0)).toNat else f.store.getD 0 : Nat)) s
    else s
  completeHandle slot 0x0403 (detail block reason 0 0) s

/-- R508 order 6: what entry does to a lane: an ACTIVE or Standby one goes to Deep; one in training is taken down. -/
def laneSleep (h : Nat) (s : State) : State :=
  let st := (s.lane h).state
  if st = 6 ∨ st = 7 then powerTaken h 2 s
  else if st = 1 ∨ st = 3 ∨ st = 4 ∨ st = 5 then laneDown h s
  else s

/-- R502, R508 order 10: the rail requests of an entry. -/
def entryRails (target : Nat) : List (Nat × Nat × Nat) :=
  match target with
  | 2 => [(4, 2, 600), (6, 2, 600)]
  | 3 => [(4, 2, 600), (9, 0, 0), (8, 0, 0), (7, 0, 0), (6, 0, 0), (5, 0, 0)]
  | _ => [(9, 0, 0), (8, 0, 0), (7, 0, 0), (6, 0, 0), (5, 0, 0), (4, 0, 0), (3, 0, 0), (2, 0, 0), (1, 0, 0)]

/-- R508: orders 1 to 10 of an entry that no block refuses; the commit point, with `commit`, comes after order 5. -/
def enterDeep (target : Nat) (commit : State → State) (s : State) : State :=
  let lead := s.pair.state == 3
  let s := stopCapture s
  let s := { s with store := { s.store with state := if target = 4 then 0 else 3 } }
  let s := settleNozzles (discardBar 7 s)
  let s := { s with loop := { s.loop with bars := [] } }
  let s := stateEvent target 0xFF (commit s)
  let s := { s with power := { s.power with state := target, enteredAt := s.time.now, wakePending := none } }
  let s := forAll headNums laneSleep s
  let s := { s with faults := { s.faults with inkEn := false, headPwr := target = 2 && s.faults.headPwr && cfgN s 0x3004 0 == 1 } }
  let s := dropMasters (forAll [0, 1, 2] (fun n s => linkChange n false s) s)
  let s := if s.pair.state = 0 then s
    else forAll (List.range 4) (fun n s => if tget false s.pair.lanes n then laneChange n false s else s)
      { s with pair := { s.pair with ledBefore := some lead } }
  let s := if target = 4 then flushConfig (writeLife s) else s
  beginSeq (.enter target) (entryRails target) s

/-- R508, R509: `Cmd.PowerState` with target 2, 3 or 4, once R507 has let it start. -/
def enterPower (slot target : Nat) (f : EntryFacts) (s : State) : State :=
  match entryRefusal f s with
  | some (block, reason) => refuseEntry slot block reason f (if block = 5 then askWheeler target s else s)
  | none => enterDeep target (completeHandle slot 0 0) (askWheeler target s)

/-- R496: what a wheeler's blocks meet beside what its state shows: nothing that refuses. -/
def calmEntry : EntryFacts := ⟨none, false, none, none⟩

/-- R496: the wheeler returns its outcome. -/
def reportOutcome (block reason : Nat) (s : State) : State := sendRecord (.heartbeat { heartbeatOf s with outcome := some (block, reason) }) s

/-- R496, R508 order 5: a wheeler follows its lead's power request. -/
def followPower (request : Option Nat) (s : State) : State :=
  match request with
  | none => s
  | some t =>
    if !isWheeler s ∨ s.power.seq ≠ .idle ∨ t = s.power.state ∨ 1 < s.power.state ∨ 4 < t then s
    else match t with
      | 0 => returnToRun 0xFF s
      | 1 => goIdle s
      | _ => match entryRefusal calmEntry s with
        | some (block, reason) =>
          let s := if 3 ≤ block then stopCapture s else s
          reportOutcome block reason (if 4 ≤ block then restartRegions s else s)
        | none => enterDeep t (reportOutcome 0 0) s

/-- HEARTBEAT (R468, R472, R496). -/
def execHeartbeat (dt : Nat) (h : PairHdr) (b : Heartbeat) (s : State) : Host.Outcome State Fault Refusal :=
  recordOk dt h (fun s => followPower b.request (takeHeartbeat b s)) s

/-! ### Waking (R512 to R517) -/

/-- R515: rails that a failed wake returns, in descending order, from the values they have. -/
def returnRails (frm : Nat) (failed : Nat) (s : State) : List (Nat × Nat × Nat) :=
  let off := if frm = 3 then ([9, 8, 7, 6, 5].filter (fun r => r == failed || (s.rail r).on)).map (fun r => (r, 0, 0)) else []
  let low := (if frm = 3 then [4] else [6, 4]).filter (fun r => r == failed || (s.rail r).mv != 600)
  off ++ low.map (fun r => (r, 2, 600))

/-- R515: a wake fails at a step: the record, FAULT_n, the sources suspended, and the return. -/
def wakeFail (step cause rail : Nat) (status : BitVec 16) (s : State) : State :=
  let run := min (s.power.wakeRun + 1) 255
  let r : WakeFault := ⟨aonSeconds s, s.power.state, step, cause, rail, status, run⟩
  let p := s.power
  let perm := if 3 ≤ run ∧ p.wakePerm.length < 64 then p.wakePerm ++ [r] else p.wakePerm
  let s := lifeEvent 5 { s with power := { p with wakeLog := (r :: p.wakeLog).take 16, wakeRun := run, suspended := true, wakeUnraised := p.wakeUnraised + 1
                                                  wakePerm := perm }
                                faults := { s.faults with headPwr := s.power.state == 2 && s.faults.headPwr } }
  let s := if perm.length = p.wakePerm.length then s else emit (.flash 7 perm.length) s
  match returnRails s.power.state rail s with
  | [] => { s with power := { s.power with seq := .idle, todo := [], req := none } }
  | l => beginSeq (.wakeReturn s.power.state) l s

/-- R512 to R514: a wake starts; a crystal that does not confirm stops it at step 1. -/
def beginWake (src : Nat) (crystal : Bool) (s : State) : State :=
  let s := { s with power := { s.power with wakeBy := src, wakeAt := s.time.now, wakePending := none } }
  if !crystal then wakeFail 1 4 0 0 s
  else if s.power.state = 2 then beginSeq .wakeSleep [(6, 2, 0), (4, 2, 0)] s
  else beginSeq .wakeDeep [(4, 2, 0), (5, 1, 0), (6, 1, 0), (7, 1, 0), (8, 1, 0), (9, 1, 0)] s

/-- R515, R519, R521: the device is in Run again: outputs, held events, and POWER.WAKE_FAULT for each record since the last success. -/
def reachRun (s : State) : State :=
  let p := s.power
  let faults := (p.wakeLog.take p.wakeUnraised).reverse
  let held := p.held
  let s := { s with power := { p with state := 0, seq := .idle, todo := [], req := none, coresRun := true, wakeRun := 0, wakeUnraised := 0
                                      suspended := false, held := [] }
                    faults := { s.faults with inkEn := !s.faults.stopped && cfgN s 0x3006 0 == 1, headPwr := !s.faults.stopped } }
  let s := forAll held broadcast s
  let s := stateEvent 0 p.wakeBy s
  forAll faults (fun r s => ev 0x3002 (detail 0xFF r.cause 0 (faultHigh r)) s) s

/-- R330: thermal states after a wake. -/
def coolHeads (s : State) : State :=
  forAll headNums (fun h s => s.setHead h { s.head h with thermal := 0, turned := none, coolSince := none, lastRead := none, inhSince := none, hotAnnounced := true
                                                          warmAnnounced := true }) s

/-- R359, R364: lanes that were in Deep are brought up from step 2. -/
def wakeLanes (s : State) : State := forAll headNums (fun h s => if (s.lane h).state = 8 then laneWake h 2 s else s) s

/-- R496: both chips of a pair search again. -/
def researchPair (s : State) : State := if s.pair.state = 0 then s else searchPair { s with pair := { s.pair with heartbeat := none, identified := false } }

/-- R513: the wake from Sleep ends. -/
def wakeFromSleep (s : State) : State :=
  let s := refreshMargins { s with store := { s.store with state := 2, banks := [] } }
  let s := forAll (List.range 4) (fun c s => s.setChan c { s.chan c with sinceStop := 0 }) s
  let s := wakeLanes (coolHeads s)
  resumeRows (restartRegions (researchPair (reachRun s)))

/-- R517: what the retention list and stable RAM bring back after Deep sleep; the rest is as after a reset. Position counters and base
pairs stay with the supervisor die, but the axis is INVALID (R106). An index reference does not stay, so that the next index in mode always is
a reference load (DESIGN CHOICE, assumption log 71). -/
def retain (s : State) : State :=
  let proto := { s.proto with sessions := [], claims := [], handles := [], discover := [], withheld := [], tickReqs := [], served := 7
                              cfg := s.proto.cfg.filter (fun e => e.1 / 1048576 != 0xB) }
  let chans := (List.range 4).foldl (fun (t : Tab EncChan) c =>
    let x := s.chan c
    tput {} t c { a := x.a, b := x.b, count := x.count, base := x.base, gear := x.gear, gearTo := x.gearTo, status := x.status
                  highest := x.highest, reversed := x.reversed, reverseMute := x.reverseMute
                  pairs := x.pairs.filter (fun p => p.2.termOff) }) []
  let rows := (List.range 128).foldl (fun (t : Tab Row) u => tput {} t u { mark := (s.row u).mark, lastLine := (s.row u).lastLine }) []
  let engine := fun (x : Engine) => match x.role with
    | .out => { x with waitRows := [], window := [], waiting := false, stats := [] }
    | .spare => ({ role := .spare } : Engine)
    | _ => ({ role := .free } : Engine)
  let z := s.insp
  { model := s.model, pending := s.pending, proto := proto
    axis := { chans := chans, indexLog := s.axis.indexLog, source := s.axis.source, supervisorLost := s.axis.supervisorLost }
    gait := { w := s.gait.w, rows := rows, job := s.gait.job, lastComplete := s.gait.lastComplete }
    rings := ringNums.foldl (fun (t : Tab Ring) n => tput {} t n { status := (s.ring n).status }) []
    store := { state := 2, mem := s.store.mem, marks := s.store.marks, unwritten := s.store.unwritten, fresh := s.store.fresh
               parts := s.store.parts, temp := s.store.temp, hot := s.store.hot }
    integ := { skipped := s.integ.skipped, scrubPos := s.integ.scrubPos, sramPos := s.integ.sramPos, lapStart := s.integ.lapStart
               retired := s.integ.retired, retiredFlash := s.integ.retiredFlash, spareRows := s.integ.spareRows, repaired := s.integ.repaired
               log := s.integ.log, sramErr := s.integ.sramErr.filter (fun e => keyMem e.1 == 1) }
    screen := { engines := engineNums.foldl (fun (t : Tab Engine) k => tput {} t k (engine (s.engine k))) [], dots := s.screen.dots
                arrays := s.screen.arrays, lostRows := s.screen.lostRows, decFailed := s.screen.decFailed, capacity := s.screen.capacity }
    noz := { s.noz with dropped := 0, drops := [], dropAt := [] }
    fire := { heads := headNums.foldl (fun (t : Tab Head) h => tput {} t h { inhibited := (s.head h).inhibited, lost := (s.head h).lost }) []
              defects := s.fire.defects }
    lanes := headNums.foldl (fun (t : Tab Lane) h =>
      let x := s.lane h
      tput {} t h { state := x.state, rate := x.rate, openRaised := x.openRaised, caps := x.caps, latency := x.latency, senseEn := x.senseEn, adapt := adaptation s h }) []
    rein := { splices := s.rein.splices }
    insp := { sensors := sensorNums.foldl (fun (t : Tab Sensor) n =>
                let x := s.sensor n
                tput {} t n { frame := x.frame, expDone := x.expDone, expSent := x.expSent, inForce := x.inForce, align := x.align, dark := x.dark
                              flat := x.flat, absorb := x.absorb }) []
              frames := z.frames, log := z.log, sliceFailed := z.sliceFailed, inlineMoved := z.inlineMoved, stats := z.stats, alloc := z.alloc
              requestsDone := z.requestsDone, windowsSeen := z.windowsSeen }
    loop := { j := s.loop.j, last := s.loop.last, register := s.loop.register }
    time := { now := s.time.now, epoch := s.time.epoch, coldStart := s.time.coldStart, freq := s.time.freq, grandmaster := s.time.grandmaster, corr := s.time.corr
              ports := (List.range 3).foldl (fun (t : Tab PtpPort) n => tput {} t n { txStatus := (s.ptpPort n).txStatus }) []
              evts := (List.range 4).foldl (fun (t : Tab Evt) n => tput {} t n { status := (s.evt n).status }) [] }
    pair := { tandem := s.pair.tandem, state := s.pair.state, partnerHash := s.pair.partnerHash, epoch := s.pair.epoch, epochSeen := s.pair.epochSeen
              owner := s.pair.owner, compare := s.pair.compare, peerLeadN := s.pair.peerLeadN, ledBefore := s.pair.ledBefore }
    power := s.power, start := s.start
    faults := { s.faults with counts := [], cores := [], output := { counts := s.faults.output.counts } } }

/-- R452: device time after Deep sleep comes from the crystal's count, to within 31 µs. -/
def crystalTime (s : State) : State :=
  let (v, s) := drawFree s
  { s with time := { s.time with epoch := s.time.epoch + ((v % 62000001 : Nat) : Int) - 31000000 } }

/-- R514: the wake from Deep sleep ends. -/
def wakeFromDeep (s : State) : State :=
  let s := ptpInit (crystalTime (retain s))
  let s := coolHeads (updateCapacity s)
  researchPair (wakeLanes (refreshMargins (reachRun s)))

/-- R514 step 4, R517: a retention item fails its check: a cold start, and POWER.RETENTION once it serves. -/
def retentionLost (item : Nat) (f : StartFacts) (s : State) : State :=
  let r := eventRec s 0x3005 1 (detail 0xFF item 0 0) 0 none 0
  resetStart f { s with start := { s.start with held := s.start.held ++ [r] } }

/-- R513 to R515: the step at which a cause stops a wake once the rails are up. -/
def failStep (frm cause : Nat) : Nat := if frm = 2 then 3 else if cause = 5 then 5 else if cause = 6 then 6 else 3

/-- The last request of a sequence has been settled. -/
def seqDone (after : AfterRails) (s : State) : State :=
  match s.power.seq with
  | .idle => s
  | .enter _ | .wakeReturn _ =>
    let s := { s with power := { s.power with seq := .idle } }
    match s.power.wakePending with
    | some c => if s.power.state = 2 ∨ s.power.state = 3 then beginWake 0 c s else s
    | none => s
  | .wakeSleep =>
    match after with
    | .fails c => wakeFail (failStep 2 c) c 0 0 s
    | _ => wakeFromSleep s
  | .wakeDeep =>
    match after with
    | .fails c => wakeFail (failStep 3 c) c 0 0 s
    | .retention item f => retentionLost item f s
    | .good => wakeFromDeep s

/-- The sequence goes on with its next request. -/
def sendNext (after : AfterRails) (s : State) : State :=
  let s := { s with power := { s.power with req := none } }
  if s.power.todo.isEmpty then seqDone after s else startRail s

/-- PMBUS_ACK (R504). -/
def railAck (status : BitVec 16) (good : Bool) (mv : Nat) (after : AfterRails) (s : State) : State :=
  match s.power.req with
  | some r => if acknowledges s r status good mv then sendNext after (applyRail r s) else s
  | none => s

def execPmbusAck (dt : Nat) (poll : RailPoll) (after : AfterRails) (s : State) : Host.Outcome State Fault Refusal :=
  ok (railAck poll.status poll.good poll.mv after (tick dt s))

/-- PMBUS_TIMEOUT (R505, R508, R515): CLEAR_FAULTS and the request again, at most three times. -/
def railTimeout (r : RailReq) (status : BitVec 16) (s : State) : State :=
  let back : Bool := match s.power.seq with | .wakeReturn _ => true | _ => false
  if r.attempt < (if back then 1 else 4) then
    railRequest { r with attempt := r.attempt + 1, sentAt := s.time.now } (emit (.pmbus r.rail 3 0) s)
  else
    let s := railEvent r.rail 1 1 status s
    match s.power.seq with
    | .wakeSleep => wakeFail 2 1 r.rail status s
    | .wakeDeep => wakeFail 2 1 r.rail status s
    | _ => sendNext .good s

def execPmbusTimeout (dt : Nat) (status : BitVec 16) (s : State) : Host.Outcome State Fault Refusal :=
  let s := tick dt s
  match s.power.req with
  | none => ok s
  | some r => guardOk (decide (r.sentAt + 2 * ms ≤ s.time.now)) (railTimeout r status) s

/-- R522: number of the 32.768 kHz crystal cycle of a time in ps. -/
def crystalCycle (t : Nat) : Nat := t * 32768 / sec

/-- R522: a WAKE edge in the crystal cycle in which the timer has started a wake makes it a wake by WAKE. -/
def joinWake (s : State) : State :=
  if s.power.wakeBy = 1 ∧ crystalCycle s.power.wakeAt = crystalCycle s.time.now then { s with power := { s.power with wakeBy := 0 } } else s

/-- WAKE (R512, R522, R542, R543): a rising edge. -/
def wakeEdge (crystal : Bool) (f : StartFacts) (s : State) : State :=
  if s.power.down ∨ s.faults.failed then s
  else if s.start.step = 0 ∧ s.power.state = 3 then powerStart true true f s
  else if s.start.step ≠ 9 then s
  else match s.power.state with
    | 0 => s
    | 1 => returnToRun 0 s
    | 4 => powerStart false false f (railsOff 1 s)
    | _ =>
      match s.power.seq with
      | .idle => beginWake 0 crystal s
      | .enter _ => { s with power := { s.power with wakePending := some crystal } }
      | .wakeReturn _ => { s with power := { s.power with wakePending := some crystal } }
      | _ => joinWake s

def execWake (dt : Nat) (crystal : Bool) (f : StartFacts) (s : State) : Host.Outcome State Fault Refusal := ok (wakeEdge crystal f (tick dt s))

/-- A wake source other than WAKE may start a wake. -/
def sourceReady (s : State) (bit : Nat) : Bool := s.power.seq == .idle && !s.power.suspended && bitOn (cfg s 0x3001 0) bit && s.start.step == 9

/-- WAKE_TIMER (R512). -/
def execWakeTimer (dt : Nat) (crystal : Bool) (s : State) : Host.Outcome State Fault Refusal :=
  let s := tick dt s
  guardOk ((s.power.state == 2 || s.power.state == 3) && sourceReady s 1 && cfgN s 0x3003 0 != 0 &&
    decide (s.power.enteredAt + cfgN s 0x3003 0 * sec ≤ s.time.now)) (beginWake 1 crystal) s

/-- EVT_CAPTURE (R454, R512): `dev`, by how much the stamp misses the edge, at most 3 ns. A capture in Run, Idle and Sleep; an accepted edge on EVT_0 may end Sleep. -/
def evtEdge (n : Nat) (rising : Bool) (dev : Int) (crystal : Bool) (s : State) : State :=
  let at' := s.time.now - evtDelay s n
  let s := s.setEvt n { s.evt n with level := some rising, edgeAt := some at' }
  let taken := evtEnabled s n rising
  let s := if taken then capture n rising (evtDelay s n) dev s else s
  if taken ∧ n = 0 ∧ s.power.state = 2 ∧ sourceReady s 2 then beginWake 2 crystal s else s

def execEvtCapture (dt : Nat) (n : Fin 4) (rising : Bool) (dev : Int) (crystal : Bool) (s : State) : Host.Outcome State Fault Refusal :=
  let s := tick dt s
  guardOk (evtAccepted s n rising && decide (s.power.state ≤ 2)) (evtEdge n rising dev crystal) s

/-- CORE_IDLE_STOP (R511). -/
def execCoreIdleStop (dt : Nat) (s : State) : Host.Outcome State Fault Refusal :=
  let s := tick dt s
  guardOk (s.power.state == 1 && s.power.coresRun && decide (s.power.coreMsgAt + 10 * ms ≤ s.time.now))
    (fun s => { s with power := { s.power with coresRun := false } }) s

/-! ### Supply input (R518 to R520) -/

/-- R518: the supervisor die is supplied. -/
def supplied (s : State) : Bool := !s.power.down && s.power.state != 4

/-- R520, R525: a flag of `Power.VsupStatus`, its event, and the note or fault of R550. -/
def vsupFault (b reason cls mv : Nat) (s : State) : State :=
  let s := { s with power := { s.power with vsup := s.power.vsup.set s.time.now b } }
  addFault 0x3004 cls 6 unitDevice (powerEvent 0x3004 cls (detail 0xFF reason 0 mv) s (count := s.power.vsup.count b))

/-- BROWNOUT (R519, R529, R559): the lifetime records, the wake fault log and pending configuration go to flash. -/
def brownout (mv : Nat) (s : State) : State :=
  let s := vsupFault 0 1 0 mv { s with power := { s.power with vsupMv := mv, brown := true } }
  emit (.flash 7 1) (flushConfig (writeLife s))

def execBrownout (dt : Nat) (mv : Nat) (s : State) : Host.Outcome State Fault Refusal :=
  let s := tick dt s
  guardOk (supplied s && !s.power.brown) (brownout mv) s

/-- VSUP_RECOVERED (R519). -/
def execVsupRecovered (dt : Nat) (mv : Nat) (s : State) : Host.Outcome State Fault Refusal :=
  let s := tick dt s
  guardOk (supplied s && s.power.brown)
    (fun s => powerEvent 0x3004 0 (detail 0xFF 0 0 mv) { s with power := { s.power with vsupMv := mv, brown := false } }) s

/-- SUPERVISOR_RESET (R518): VSUP falls below 4.5 V: every domain but OTP and flash is lost. -/
def supervisorReset (s : State) : State :=
  let s := railsOff 1 (freshState false s)
  { s with power := { s.power with down := true, state := 4 }, start := { s.start with step := 0 }, store := { s.store with state := 0 }
           faults := { s.faults with inkEn := false, headPwr := false, life := { since := none } } }

def execSupervisorReset (dt : Nat) (s : State) : Host.Outcome State Fault Refusal :=
  let s := tick dt s
  guardOk (!s.power.down) supervisorReset s

/-- OVERVOLT (R518). -/
def execOvervolt (dt : Nat) (mv : Nat) (s : State) : Host.Outcome State Fault Refusal :=
  let s := tick dt s
  guardOk (supplied s) (fun s => vsupFault 1 2 0 mv { s with power := { s.power with vsupMv := mv } }) s

/-- VSUP3_OVERLOAD (R520). -/
def execVsup3Overload (dt : Nat) (s : State) : Host.Outcome State Fault Refusal :=
  let s := tick dt s
  guardOk (supplied s && !s.power.vsup3Over)
    (fun s => vsupFault 2 3 1 s.power.vsupMv { s with power := { s.power with vsup3Over := true } }) s

/-- VSUP3_LOAD_RECOVERED (R520, R550). -/
def execVsup3LoadRecovered (dt : Nat) (s : State) : Host.Outcome State Fault Refusal :=
  let s := tick dt s
  guardOk (supplied s && s.power.vsup3Over) (fun s => causeGone 0x3004 unitDevice { s with power := { s.power with vsup3Over := false } }) s

/-- R558: bin of a mean voltage in mV. -/
def vsupBin (mv : Nat) : Nat := if mv < 7000 then 0 else if 75000 ≤ mv then 31 else if 65000 ≤ mv then 30 else (mv - 5000) / 2000

/-- VSUP_SAMPLE (R523, R558): every 1 ms; each second is placed by the mean of its samples. -/
def vsupSample (mv : Nat) (s : State) : State :=
  let l := s.faults.life
  let l := { l with low := some (min mv (l.low.getD mv)), high := some (max mv (l.high.getD mv)), vsupSum := l.vsupSum + mv, vsupNum := l.vsupNum + 1 }
  let l := if l.vsupNum < 1000 then l
    else { l with vsup := satAdd 32 l.vsup (vsupBin (l.vsupSum / l.vsupNum)) 1, vsupSum := 0, vsupNum := 0 }
  { s with power := { s.power with vsupMv := mv }, faults := { s.faults with life := l } }

def execVsupSample (dt : Nat) (mv : Nat) (s : State) : Host.Outcome State Fault Refusal :=
  let s := tick dt s
  guardOk (supplied s) (vsupSample mv) s

/-- RAIL_TELEMETRY (R503, R523): voltage in mV, current in 10 mA, temperature in °C of each rail. -/
def railTelemetry (readings : List (List Int)) (s : State) : State :=
  forAll (List.range 9) (fun i s => s.setRail (i + 1) { s.rail (i + 1) with tele := readings.getD i (s.rail (i + 1)).tele }) s

def execRailTelemetry (dt : Nat) (readings : List (List Int)) (s : State) : Host.Outcome State Fault Refusal :=
  let s := tick dt s
  guardOk (supplied s) (railTelemetry readings) s

end Sys2Proof.Machine
end

