-- ==== Sys2Proof/Machine/Sessions.lean ====
section
/-! DEFINITION. Sessions, claims and handles as things that end (R48, R50, R57, R67): what a session's end takes with it, cancellation and the
freeing of handles. -/

namespace Sys2Proof.Machine

/-- R56: the staging entry that a block write fills has this index. -/
abbrev shadowIdx : Nat := 0xC051

/-- R50: a session ends: its staging set, claims and event queue go; handles that it started run on and belong to no session (R593);
process data that it started ends (R456). -/
def endSession (slot : Nat) (s : State) : State :=
  let x := s.sess slot
  let p := s.proto
  let hs : Tab Handle := p.handles.map (fun e => if e.2.owner = x.id ∧ x.phase = .opened then (e.1, { e.2 with owner := 0 }) else e)
  let held := p.withheld.filter (fun w => w.slot != slot)
  let s : State := { s with proto := { p with claims := p.claims.filter (fun c => c.session != x.id), handles := hs, withheld := held } }
  let s := if s.time.pd.running && s.time.pd.session == x.id then pdStop s else s
  s.setSess slot {}

/-- End every session. -/
def endSessions (s : State) : State := forAll ((List.range 8).filter (fun i => (s.sess i).phase != .free)) endSession s

/-- R394: a host transfer no longer occupies its CCI master: lists that fell due meanwhile are sent. -/
def freeMaster (c : Nat) (s : State) : State :=
  let s := s.setCamPort c { s.camPort c with cciHandle := none }
  let L := lineOf ((s.camPort c).frameF.getD (lpos s))
  forAll (sensorNums.filter (fun n => (sensorCfg (envNow s) n).port == c && (s.sensor n).expRun)) (fun n s => sendList c n L s) s

/-- R67: what a cancelled operation leaves: nothing that it holds outside its handle. -/
def dropOp (w : BitVec 16) (s : State) : State :=
  let s := { s with pair := { s.pair with pairing := match s.pair.pairing with | some (h, t) => if h = w then none else some (h, t) | none => none
                                          handover := if s.pair.handover = some w then none else s.pair.handover } }
  let s := forAll (List.range 4) (fun c s => if (s.camPort c).cciHandle = some w then freeMaster c s else s) s
  forAll headNums (fun h s => if (s.lane h).handle = some w then s.setLane h { s.lane h with handle := none } else s) s

/-- R67: a running handle ends at its next safe point with 040Ah. -/
def cancelHandle (slot : Nat) (s : State) : State := completeHandle slot 0x040A 0 (dropOp (handleWord s slot) s)

/-- R66, R67: a handle is freed; its USE stays until the next use. -/
def freeHandle (slot : Nat) (s : State) : State := s.setHandle slot { use := (s.handle slot).use, used := true }

/-- R66: the lowest free handle slot. -/
def freeSlot (s : State) : Option Nat := (List.range 256).find? (fun i => (s.handle i).phase == .free)

/-- R66: a handle starts for a session: its USE goes up at each reuse of the slot; a session without an event queue receives one (R68). -/
def startHandle (sess : Nat) (cmd : Nat) (op : Op) (slot : Nat) (s : State) : State :=
  let x := s.sess sess
  let old := s.handle slot
  let s := s.setHandle slot { use := if old.used then old.use + 1 else 0, used := true, phase := .running, owner := x.id, role := x.role, cmd := cmd, op := op
                              startedAt := s.time.now, order := s.proto.starts }
  let s := { s with proto := { s.proto with starts := s.proto.starts + 1 } }
  if x.queue.isSome then s else s.setSess sess { x with queue := some {} }

end Sys2Proof.Machine
end

