-- ==== Sys2Proof/Machine/Faults.lean ====
section
/-! DEFINITION. Faults that the device finds in itself and on its balls (R506, R550, R552, R555, R557, R574, R579, R582): die temperatures, output
readback, core pairs, dies, rails, buses, the reference clock, JTAG and the encoder terminations. -/

namespace Sys2Proof.Machine

/-! ### Temperatures (R550, R558) -/

/-- R558: bin of a temperature in °C. -/
def tempBin (t : Int) : Nat := if t < -20 then 0 else min 30 ((t + 25) / 5).toNat

/-- R550: the limits: die as DIE of R25, class, the temperature that enters it, and the one at or below which its cause has gone. -/
def tempLimits : List (Nat × Nat × Int × Option Int) :=
  [(0, 1, 100, some 95), (0, 2, 110, some 105), (0, 3, 120, none), (2, 2, 105, some 100), (1, 3, 150, none)]

/-- R550: the fault of a limit stands with its cause. -/
def overTemp (s : State) (die cls : Nat) : Bool :=
  s.faults.active.any (fun f => f.code == 0xB023 && f.unit == unitDie die && f.cls == cls && f.cause)

/-- R548, R550: above the last limit of a die its rails go off, and the logic die runs no longer; only a cold start ends it. -/
def tempShutdown (die : Nat) (s : State) : State :=
  let s := railsOff (if die = 0 then 5 else 1) s
  { s with power := { s.power with state := 3, seq := .idle, todo := [], req := none }, store := { s.store with state := 0 }
           faults := { s.faults with failed := true } }

/-- R550, R564: one limit judged: FAULT.TEMP at each crossing. -/
def judgeTemp (l : Nat × Nat × Int × Option Int) (t : Int) (s : State) : State :=
  let (die, cls, enter, exit) := l
  if !overTemp s die cls ∧ enter ≤ t then
    let s := raise 0xB023 cls (faultDetail die cls 0 t) s (unit := unitDie die)
    let s := if 2 ≤ cls then lifeEvent 4 s else s
    let s := addFault 0xB023 cls 5 (unitDie die) s (trigger := if 2 ≤ cls then some 6 else none) (exact := true)
    if cls = 3 then tempShutdown die s else s
  else if overTemp s die cls ∧ (exit.map (fun x => decide (t ≤ x))).getD false then
    causeGone 0xB023 (unitDie die) (raise 0xB023 0 (faultDetail die 0 0 t) s (unit := unitDie die)) (only := some cls)
  else s

/-- DIE_TEMP (R550, R558): the readings of logic, stack and supervisor die, 1 ms apart; `Fault.DieTemp` publishes them. -/
def dieTempStep (logic stack supervisor : Int) (s : State) : State :=
  let l := s.faults.life
  let bins := [(1, logic), (2, stack), (3, supervisor)].foldl (fun t x => tadd t (32 * x.1 + tempBin x.2) 1) l.temp
  let s := { s with faults := { s.faults with dieTemp := [logic, stack, supervisor], life := { l with temp := bins } } }
  forAll tempLimits (fun l s => judgeTemp l (if l.1 = 0 then logic else if l.1 = 2 then stack else supervisor) s) s

def execDieTemp (dt : Nat) (logic stack supervisor : Int) (s : State) : Host.Outcome State Fault Refusal :=
  let s := tick dt s
  guardOk (supplied s && !s.faults.failed) (dieTempStep logic stack supervisor) s

/-! ### Output readback (R550, R557) -/

/-- R575: a privileged output is driven low: STOP_REQ_n and FAULT_n when asserted, INK_EN and HEAD_PWR_EN when deasserted. -/
def drivenLow (s : State) (k : Nat) : Bool :=
  match k with
  | 0 => stopReqN s
  | 1 => !inkEnN s
  | 2 => !headPwrN s
  | _ => faultN s

/-- R453: the level of a trigger output that is driven. -/
def trigLevel (s : State) (n : Nat) : Bool := (s.trig n).pulseEnd.isSome != bitOn ((trigEnv s).int 0x9040 n) 2

/-- R557: the level that an output's ball must show, true high; none where it is not judged. Outputs are numbered as in `Fault.OutputStatus`. -/
def expectedLevel (s : State) (k : Nat) : Option Bool :=
  if 4 ≤ k then (if holdsLead s ∧ s.power.state ≤ 1 then some (trigLevel s (k - 4)) else none)
  else if s.pair.state = 1 ∨ (s.pair.state = 2 ∧ !s.pair.leads) ∨ (isWheeler s ∧ s.pair.heartbeat.isNone) then none
  else if isWheeler s ∧ s.pair.silent then none
  else if drivenLow s k then some false
  else if s.pair.state ≠ 0 ∧ s.pair.silent then none
  else some true

/-- OUTPUT_READBACK (R557): a ball has differed for more than 10 µs. -/
def readback (k : Nat) (high : Bool) (s : State) : State :=
  let s := { s with faults := { s.faults with output := s.faults.output.set s.time.now k, disagree := if s.faults.disagree.contains k then s.faults.disagree else s.faults.disagree ++ [k] } }
  let s := ev 0xB024 (faultDetail k (if high then 2 else 1) 0 s.faults.output.word.toNat) s (count := s.faults.output.count k) (unit := unitDevice)
  addFault 0xB024 1 6 unitDevice s

def execOutputReadback (dt : Nat) (output : Fin 12) (high : Bool) (s : State) : Host.Outcome State Fault Refusal :=
  let s := tick dt s
  guardOk (supplied s && expectedLevel s output == some (!high)) (readback output high) s

/-- OUTPUT_AGREEMENT (R550): the fault's cause has gone when every output has agreed for 1 s. -/
def agreement (k : Nat) (s : State) : State :=
  let rest := s.faults.disagree.filter (· != k)
  let s := { s with faults := { s.faults with disagree := rest } }
  if rest.isEmpty then causeGone 0xB024 unitDevice s else s

def execOutputAgreement (dt : Nat) (output : Fin 12) (s : State) : Host.Outcome State Fault Refusal :=
  let s := tick dt s
  guardOk (supplied s && s.faults.disagree.contains output.val) (agreement output) s

/-! ### Clock, cores, dies (R33, R483, R552, R579) -/

/-- REFCLK_LOSS (R579): in Run the loss is trigger 5 of R483, a silent one, and a die fault of the logic die. -/
def refclkLoss (s : State) : State := dieFault 0 1 3 0 (some 5) true { s with faults := { s.faults with refclkLost := true } }

def execRefclkLoss (dt : Nat) (s : State) : Host.Outcome State Fault Refusal :=
  let s := tick dt s
  guardOk (s.power.state == 0 && !s.power.down && !s.faults.refclkLost) refclkLoss s

/-- R552: key of a core pair. -/
def coreKey (pairB : Bool) : Nat := if pairB then 1 else 0

def corePair (s : State) (k : Nat) : CorePair := tget {} s.faults.cores k
def setCorePair (k : Nat) (c : CorePair) (s : State) : State := { s with faults := { s.faults with cores := tput {} s.faults.cores k c } }

/-- R552: a restart of pair B discards the bar whose results are not yet committed. -/
def discardMeasured (s : State) : State :=
  match s.loop.outstanding with
  | none => s
  | some j =>
    let last := if s.loop.last.bar = j then { s.loop.last with outcome := 3 } else s.loop.last
    { s with loop := { s.loop with last := last, outstanding := none, bars := s.loop.bars.filter (fun b => b.j != j) }
             proto := { s.proto with waiting := s.proto.waiting.filter (fun d => d.bar.isNone) } }

/-- R210 codes 01h and 02h: a supervisor core (the logic die) reads stored data uncorrectable. -/
def supervisorUe (x : MemRead) (s : State) : State :=
  if x.memory = 0 then storeUe x.requester (unitDie 0) (x.address / 64) (if unitClass s (x.address / 64) = 2 then 2 else 3) s
  else
    let key := sramKey x.memory (x.address / 8 * 8)
    let s := countUe x.memory 0 (logWord 1 x.requester (unitDie 0) key false s)
    ev 0xB003 (integDetail x.memory x.requester (x.address / 8 * 8)) s (unit := unitDie 0)

/-- CORE_FAULT (R552): the pair is held in reset and its restart begins. A restart of pair A ends every session, completes every running handle
with 0801h and discards every staging set; one of pair B discards the bar outstanding. A second fault within 1 h is class 3, and the lifetime
records are written (R559). `ue`: the trap is that of an uncorrectable read (R210). -/
def coreFault (pairB trap : Bool) (ue : Option MemRead) (s : State) : State :=
  let k := coreKey pairB
  let s := match ue with | some x => if trap then supervisorUe x s else s | none => s
  let again : Bool := match (corePair s k).lastAt with | some t => decide (s.time.now < t + 3600 * sec) | none => false
  let s := setCorePair k ⟨some s.time.now, some s.time.now⟩ s
  let s := if pairB then discardMeasured s
    else
      let s := endSessions s
      forAll (runningHandles s) (fun i s => completeHandle i 0x0801 0 (dropOp (handleWord s i) s)) s
  let s := if again then writeLife s else s
  addFault 0xB022 (if again then 3 else 2) 5 (unitDie 0) s (trigger := some (if trap then 2 else 1))

def execCoreFault (dt : Nat) (pairB : Bool) (error : CoreError) (s : State) : Host.Outcome State Fault Refusal :=
  let s := tick dt s
  guardOk (decide (s.power.state ≤ 1) && s.start.step == 9 && (corePair s (coreKey pairB)).inReset.isNone) (coreFault pairB error.trap error.ue) s

/-- CORE_RESTART_DONE (R552): the pair runs again; the fault's cause has gone when both run. -/
def coreRestarted (k : Nat) (s : State) : State :=
  let s := setCorePair k { corePair s k with inReset := none } s
  if (corePair s (1 - k)).inReset.isSome then s else causeGone 0xB022 (unitDie 0) s (only := some 2)

def execCoreRestartDone (dt : Nat) (pairB : Bool) (s : State) : Host.Outcome State Fault Refusal :=
  let s := tick dt s
  guardOk ((corePair s (coreKey pairB)).inReset.isSome) (coreRestarted (coreKey pairB)) s

/-- DIE_FAULT (R33, R550): a block of a die that has no regions fails. -/
def dieFails (die : Nat) (s : State) : State :=
  if die = 0 then dieFault 0 1 3 0 (some 7) true s
  else if die = 1 then supervisorGone s
  else dieFault 2 3 2 0 (some 7) false { s with store := { s.store with state := 0 } }

def execDieFault (dt : Nat) (die : Fin 3) (s : State) : Host.Outcome State Fault Refusal :=
  let s := tick dt s
  guardOk (decide (s.power.state ≤ 1) && !s.power.down) (dieFails die) s

/-! ### Buses and rails (R506, R555) -/

/-- R555: a transfer that a CCI bus was carrying, and that its retry does not complete either, fails: an exposure list in progress at an entry the
model does not count, and a host transfer. -/
def cciFails (c : Nat) (s : State) : State :=
  let e := envNow s
  let s := forAll (sensorNums.filter (fun n => (sensorCfg e n).port == c && (s.sensor n).expRun)) (fun n s =>
    let (v, s) := drawFree s
    failList c n v s) s
  match (s.camPort c).cciHandle with
  | some w => completeWord w 0x0801 0 (s.setCamPort c { s.camPort c with cciHandle := none })
  | none => s

/-- CCI_BUS_STUCK (R555): 9 clocks and a STOP, then a retry; `released`: the bus is free again. Buses 0 to 3 are the camera ports', bus 4 is
PMBus, whose request is repeated and times out as R505 sets out. -/
def busStuck (bus : Nat) (released : Bool) (s : State) : State :=
  if bus < 4 then
    let s := emit (.cci bus 0 []) s
    if released then s else cciFails bus s
  else
    match s.power.req with
    | some r => emit (.pmbus r.rail r.kind (targetMv r.rail r.mv)) (emit (.pmbus 0 4 0) s)
    | none => emit (.pmbus 0 4 0) s

def execCciBusStuck (dt : Nat) (bus : Fin 5) (released : Bool) (s : State) : Host.Outcome State Fault Refusal :=
  let s := tick dt s
  guardOk (if bus.val < 4 then captureRuns s else supplied s) (busStuck bus released) s

/-- R502, R550: the die that a rail feeds. -/
def railDie (rail : Nat) : Nat := if rail ≤ 3 then 2 else 0

/-- PMB_ALERT (R506, R550): CLEAR_FAULTS, POWER.RAIL, and in Run the class by the voltage read 1 ms later. -/
def pmbAlert (rail : Nat) (status : BitVec 16) (mv : Nat) (s : State) : State :=
  let bad := s.power.state == 0 && !railGood rail mv
  let s := railEvent rail 2 (if bad then 3 else 0) status (emit (.pmbus rail 3 0) s)
  if bad then
    let s := if railDie rail = 2 then { s with store := { s.store with state := 0 } } else s
    dieFault (railDie rail) 4 3 rail (some 7) ([5, 8, 9].contains rail) s
  else if s.power.state = 0 then addFault 0x3003 0 5 (unitDie (railDie rail)) s
  else s

def execPmbAlert (dt : Nat) (rail : Fin 9) (status : BitVec 16) (mv : Nat) (s : State) : Host.Outcome State Fault Refusal :=
  let s := tick dt s
  guardOk (supplied s) (pmbAlert (rail + 1) status mv) s

/-! ### JTAG and terminations (R574, R582) -/

/-- R582: the instruction that takes effect: EXTEST and its kin act only while RESET_n is asserted; every delivered device is in the field state
(R591), where a debug instruction reads as BYPASS. -/
def jtagEffect (s : State) (i : JtagInstr) : JtagInstr :=
  match i with
  | .debug => .bypass
  | .extest | .extestPulse | .extestTrain => if s.faults.resetN then i else .samplePreload
  | _ => i

/-- JTAG_INSTRUCTION (R582). -/
def execJtagInstruction (dt : Nat) (i : JtagInstr) (s : State) : Host.Outcome State Fault Refusal :=
  let s := tick dt s
  guardOk (supplied s) (fun s => { s with faults := { s.faults with jtag := jtagEffect s i } }) s

/-- TERMINATION_DISCONNECT (R574): the wire monitor then sees the pair as R78 sets out for a short. -/
def disconnect (ch p : Nat) (s : State) : State :=
  let s := setWirePair ch p { wirePair s ch p with termOff := true, termAt := s.time.now } s
  if monitored s ch ∧ !(wirePair s ch p).over50 then wire50 ch p s else s

def execTerminationDisconnect (dt : Nat) (ch : Fin 4) (pair : Fin 3) (s : State) : Host.Outcome State Fault Refusal :=
  let s := tick dt s
  guardOk (bitOn (cfg s 0x4020 ch) 2 && supplied s && !(wirePair s ch pair).termOff) (disconnect ch pair) s

/-- TERMINATION_RECONNECT (R574, R587): after 10 ms below 6 V. -/
def execTerminationReconnect (dt : Nat) (ch : Fin 4) (pair : Fin 3) (s : State) : Host.Outcome State Fault Refusal :=
  let s := tick dt s
  guardOk ((wirePair s ch pair).termOff && supplied s && decide ((wirePair s ch pair).termAt + 10 * ms ≤ s.time.now)) (fun s => setWirePair ch pair { wirePair s ch pair with termOff := false } s) s

end Sys2Proof.Machine
end

