-- ==== Sys2Proof/Machine/Objects.lean ====
section
/-! DEFINITION. What a READ of each object gives (R52, R55, R65, R593, and the object tables of the chapters): the values that the device
produces, with the byte layouts of its records; every other object reads its configuration value. -/

namespace Sys2Proof.Machine

/-- Pack fields (width in bits, value), most significant first. -/
def packFields (l : List (Nat × Int)) : Nat := l.foldl (fun (a : Nat) (f : Nat × Int) => a * 2 ^ f.1 + (f.2 % ((2 ^ f.1 : Nat) : Int)).toNat) 0

/-- A record of `n` bytes from its fields (R5). -/
def packBytes (n : Nat) (l : List (Nat × Int)) : Val := .bytes (natBytes n (packFields l))

/-- A number as an object's value. -/
def vNat (n : Nat) : Val := .num n
def vBool (b : Bool) : Val := .num (if b then 1 else 0)
/-- Elements 0 to n − 1 of a counter table from key `base` on. -/
def vRun {w : Nat} (t : Tab (BitVec w)) (base n : Nat) : Val := .arr ((List.range n).map (fun i => ((tget 0 t (base + i)).toNat : Int)))
def vRunN (t : Tab Nat) (base n : Nat) : Val := .arr ((List.range n).map (fun i => ((tget (0 : Nat) t (base + i) : Nat) : Int)))
/-- An entry of a list of records, or the empty value. -/
def vEntry {α : Type} (l : List α) (i : Nat) (f : α → Val) : Val := match l[i]? with | some x => f x | none => .bytes []

/-- A device time in ps as a TIME value in ns (R51). -/
def timeField (t : Int) : Int := t / 1000 % 18446744073709551616

/-! ### Records -/

/-- R90. An offset d beyond 16 bits is taken modulo 65,536 (DESIGN CHOICE, assumption log 71). -/
def indexBytes (x : IndexLogEntry) : Val := packBytes 16 [(8, x.channel), (8, x.outcome), (16, x.d), (64, lposOf x.lpos), (32, 0)]

/-- R388: HIGH and TARGET in LPOS format. -/
def spliceBytes (x : Splice) : Val :=
  packBytes 32 [(8, x.number), (8, x.outcome), (8, x.reason), (8, x.cause), (64, x.first), (64, lposOf x.high), (64, lposOf x.target), (16, x.held), (16, 0)]

/-- R333. -/
def defectBytes (x : Defect) : Val :=
  packBytes 32 [(32, x.page.toNat), (64, x.first), (32, x.count), (8, x.plane), (8, x.head), (8, x.cause), (8, x.action), (32, x.gen.toNat), (64, timeField x.time)]

/-- R275. -/
def bandBytes (chained : Bool) (x : Engine) : Val :=
  let role : Nat := match x.role with | .free => 0 | .band => 1 | .spare => 2 | .out => 3
  let own := x.plane.isSome
  packBytes 12 [(8, role), (8, x.plane.getD 0xFF), (8, if own then x.band else 0xFF), (8, (if x.borrowed then 1 else 0) + (if chained then 2 else 0)), (32, x.first), (32, x.width)]

/-- R290: array description. -/
def arrayBytes (x : Option ArrayInfo) : Val :=
  match x with
  | some a => packBytes 12 [(16, a.w), (16, a.h), (8, a.n), (24, 0), (32, a.crc.toNat)]
  | none => .bytes (natBytes 12 0)

/-- R438. -/
def barBytes (x : LastBar) : Val :=
  packBytes 32 [(32, x.bar), (64, x.first), (16, x.planes.toNat), (8, x.outcome), (8, x.reason), (32, x.gen.toNat), (20, x.dead), (20, x.revived), (20, x.curves),
    (20, x.withheld), (8, x.rows), (8, 0)]

/-- R444. -/
def stampBytes (port : Nat) (x : TxStamp) : List Byte :=
  natBytes 16 (packFields [(2, port), (4, x.msgType), (1, if x.byHost then 1 else 0), (1, 0), (8, x.domain), (16, x.seqId), (32, 0), (64, x.time)])

/-- R455. -/
def captureBytes (x : Capture) : List Byte :=
  natBytes 24 (packFields [(32, x.seq.toNat), (8, x.edge), (8, x.flags), (16, 0), (64, x.time), (64, x.lpos)])

/-- R458. -/
def corrBytes (x : Corr) : Val :=
  packBytes 32 [(64, x.time), (64, x.lpos), (32, x.speed.toNat), (32, x.offset), (8, x.servo), (8, x.flags), (16, 0), (32, x.gen.toNat)]

/-- R516, R542. -/
def wakeBytes (x : WakeFault) : Val :=
  packBytes 16 [(32, x.aonSeconds), (8, x.frm), (8, x.step), (8, x.cause), (8, x.rail), (16, x.status.toNat), (8, x.run), (40, 0)]

/-- R400. -/
def frameBytes64 (x : Frame) : Val :=
  packBytes 64 [(32, x.frame.toNat), (8, x.sensor), (2, x.port), (4, x.vc), (2, 0), (8, x.dtype), (8, x.rein), (16, x.flags.toNat), (16, x.width), (16, x.linesCfg),
    (16, x.lines), (16, min x.surplus 65535), (16, x.excluded.length), (64, lposOf x.first), (32, x.pitch), (64, timeField x.trigTime),
    (32, x.fsDelay.getD 0xFFFFFFFF), (32, x.expGen.toNat), (32, x.gen.toNat), (16, x.hdrEcc), (16, x.crcErr), (64, x.address)]

/-- R214. -/
def logBytes (x : LogEntry) : Val :=
  packBytes 32 [(64, timeField x.time), (64, x.address), (32, x.unit.toNat), (8, x.memory), (8, x.kind), (8, x.requester), (8, x.symbol), (32, x.syndrome.toNat),
    (16, min x.repeats 65535), (1, if x.injected then 1 else 0), (1, if x.hard then 1 else 0), (14, 0)]

/-- R563. -/
def faultBytes (x : ActiveFault) : Val := packBytes 16 [(16, x.code), (8, x.cls), (8, x.level), (32, x.unit.toNat), (64, timeField x.time)]

/-- R593: `Cmd.Handle`. -/
def handleBytes (s : State) (slot : Nat) : Val :=
  let h := s.handle slot
  let st : Nat := match h.phase with | .free => 0 | .running => 1 | .done => if h.owner = 0 then 3 else 2
  packBytes 16 [(16, (handleWord s slot).toNat), (16, h.cmd), (8, st), (16, h.result), (8, 0), (32, h.owner.toNat), (32, h.progress)]

/-- Order commits by ascending L, earlier generations first where L is equal. -/
def insertCommit (c : Commit) : List Commit → List Commit
  | [] => [c]
  | x :: r => if c.line < x.line then c :: x :: r else x :: insertCommit c r

/-- R593: the pending commits in ascending L. -/
def pendingByLine (s : State) : List Commit := (pendingCommits s).foldl (fun a c => insertCommit c a) []

/-- R593: `Cmd.PendingCommit`. -/
def commitBytes (c : Commit) : Val :=
  packBytes 16 [(32, c.gen.toNat), (64, c.line * 65536), (16, c.src.toNat), (8, if c.device then c.source else 0), (8, c.target)]

/-- R70: the highest RSEQ acknowledged. -/
def ackedRseq (q : EventQueue) : Nat := (match q.records.head? with | some r => r.rseq | none => q.nextRseq) - 1

/-- R593: `Event.Queue`. -/
def queueBytes (x : Session) : Val :=
  match x.queue with
  | none => .bytes []
  | some q => packBytes 16 [(32, x.id.toNat), (16, q.records.length), (16, (q.records.filter (fun r => r.rseq ≤ q.pushed)).length), (32, q.lost), (32, ackedRseq q)]

/-- R203: bits of the fill record, lowest slab first. -/
def fillBytes (s : State) (sub : Nat) : Val :=
  let base := (sub - 1) * 8192
  .bytes ((List.range 1024).map (fun i => BitVec.ofNat 8 ((List.range 8).foldl (fun a b => a * 2 + (if slabSkipped s (base + 8 * i + b) then 1 else 0)) 0)))

/-- R219. -/
def retireBytes (s : State) (sub : Nat) : Val :=
  let l := (s.integ.retired.drop ((sub - 1) * 128)).take 128
  if l.isEmpty then .bytes []
  else .bytes ((List.range 128).flatMap (fun i => natBytes 8 (match l[i]? with | some r => retireWord r | none => 0)))

/-- R309, R310: entries of the nozzle table as bytes, from the generation that governs a line. -/
def nozzleBytes (s : State) (L : Int) (first n : Nat) : List Byte :=
  (List.range n).flatMap (fun i => entryBytes (envAt s L) (nozShown s L (first + i)) (uncoveredAt s L (first + i)) (nozCnt s (first + i)) (first + i))

/-- R310: `Nozzle.ReadWindow`. -/
def readWindow (s : State) (pending : Bool) : Val :=
  let b := cfgN s 0x6010 0
  .bytes (nozzleBytes s (if pending then lastLine s else datumLine s) b (min 21 (524288 - b)))

/-- R595, R49: the enrolment window. -/
def hasIntegrator (s : State) : Bool :=
  (List.range 32).any (fun i => let b := Val.oct (baseVal s 0x1030 (i + 1)).1; b.length == 49 && b.getLast? == some 2)
def enrolOpen (s : State) : Bool := !s.proto.enrolClosed && !hasIntegrator s && decide (s.time.now < s.time.coldStart + 600 * sec)

/-- R602: `Axis.Speed` rounded to nearest, 0 when negative. -/
def compatSpeed (s : State) : Nat := if s.axis.stopped ∨ speedDen s = 0 then 0 else (roundDiv (speedNum s) (speedDen s)).toNat

/-- R602: `Compat.Status`. -/
def compatStatus (s : State) : Nat :=
  (if s.axis.state = 1 then 1 else 0) + (if s.gait.job = 1 ∨ s.gait.job = 2 then 2 else 0) + 4 * (faultClass s % 4) + (if holdsLead s then 16 else 0) +
    (if stopReqN s then 32 else 0)

/-- R97: `Axis.Residual`: RMS and largest of the last 65,536 edges that lie within the last 1 s. -/
def residualOf (s : State) (sub : Nat) : Nat :=
  let l := ((srcChan s).residuals.filter (fun x => decide (s.time.now < x.1 + sec))).map (fun x => x.2.natAbs)
  if sub = 1 then rmsOf l else l.foldl max 0

/-- R541: a lane's eye: for TL lanes the upstream figures of the eye last read (R368). -/
def laneEyeOf (s : State) (sub : Nat) : List Nat :=
  let e := tget [0, 0, 0, 0] s.start.laneEye sub
  if sub < 64 then [(s.lane sub).eye.getD 2 0, (s.lane sub).eye.getD 3 0, e.getD 2 0, e.getD 3 0] else e

/-! ### Values by area -/

def liveIdentity (s : State) (i j : Nat) : Option Val :=
  match i with
  | 0x100A => some (vNat (firmwareRelease s).toNat)
  | 0x1012 => some (if j = 0 then vNat s.proto.comm.word.toNat else vNat (s.proto.comm.count (j - 1)))
  | 0x1026 => some (vBool (s.port j).up)
  | 0x1027 => some (vRun (s.port j).stats 0 8)
  | 0x1031 => some (vBool (enrolOpen s))
  | 0x2002 => some (.num (BitVec.ofInt 32 (datumLine s)).toInt)
  | 0x2003 => some (vNat (compatSpeed s))
  | 0x2021 => some (vNat (compatStatus s))
  | 0x2022 => some (vNat ((s.faults.active.head?.map (·.code)).getD 0))
  | 0x3000 => some (vNat s.power.state)
  | 0x3012 => some (.arr (s.rail j).tele)
  | 0x3020 => some (vNat s.power.vsup.word.toNat)
  | 0x3021 => some (vNat (s.power.vsup.count (j - 1)))
  | 0x3022 => some (vNat s.power.vsupMv)
  | 0x3031 => some (vNat s.start.bootSlot)
  | 0x3032 => some (.bytes (if slotReason s (j - 1) = 1 then [] else (slotOfImage s (j - 1)).header))
  | 0x3033 => some (.arr ((List.range 9).map (fun k => (s.start.timeline.getD k 0 : Int))))
  | 0x3034 => some (vNat s.start.rollback)
  | 0x3035 => some (vEntry s.start.faultLog (j - 1) wakeBytes)
  | 0x3040 => some (vEntry s.power.wakeLog (j - 1) wakeBytes)
  | 0x3041 => some (vEntry s.power.wakePerm (j - 1) wakeBytes)
  | 0x3042 => some (vNat s.power.wakeRun)
  | _ => none

def liveAxis (s : State) (i j : Nat) : Option Val :=
  match i with
  | 0x4000 => some (vNat s.axis.state)
  | 0x4001 => some (vBool s.axis.confidence)
  | 0x4002 => some (vNat s.axis.source)
  | 0x4004 => some (vNat (s.chan j).status.word.toNat)
  | 0x4005 => some (vNat ((s.chan ((j - 1) / 9)).status.count ((j - 1) % 9)))
  | 0x4030 => some (.num (countOf (s.chan j)))
  | 0x4031 => some (.num (lposOf (lpos s)))
  | 0x4032 => some (vNat (speedF32 s).toNat)
  | 0x4033 => some (vNat (residualOf s j))
  | 0x4034 => some (vEntry s.axis.indexLog (j - 1) indexBytes)
  | 0x4038 => some (.num (lposOf (chanPos (s.chan j) s.time.now)))
  | 0x4040 => some (.num (lposOf (planeOffset (envNow s) (j - 1))))
  | 0x4042 => some (.num (lposOf (unitOffset (envNow s) j)))
  | 0x4043 => some (.num (lposOf s.gait.w))
  | 0x4047 => some (vNat s.gait.unpredicted.toNat)
  | 0x4052 => some (vNat (speedLimit s).1)
  | 0x4053 => some (vNat (speedLimit s).2)
  | 0x4060 => some (vNat s.gait.job)
  | 0x4063 => some (vNat s.gait.pages.length)
  | 0x4064 => some (vNat (((pageOf s (datumLine s)).map (·.page.toNat)).getD 0))
  | 0x4065 => some (vNat s.gait.lastComplete.toNat)
  | 0x4074 => some (vNat (s.trig j).missed.toNat)
  | 0x4080 => some (vNat s.rein.state)
  | 0x408B => some (vNat s.rein.count.toNat)
  | 0x408D => some (vEntry s.rein.splices (j - 1) spliceBytes)
  | _ => none

def liveStream (s : State) (i j : Nat) : Option Val :=
  match i with
  | 0x5006 => some (vBool (s.ring j).enable)
  | 0x5007 => some (vNat (s.ring j).status.word.toNat)
  | 0x5008 => some (.arr ((List.range 10).map (fun b => ((s.ring j).status.count b : Int))))
  | 0x5009 => some (vNat (s.ring j).cum)
  | 0x500A => some (vNat (s.ring j).release)
  | 0x500B => some (vNat (s.ring j).limit)
  | 0x5014 => some (vNat (indexUsed (s.ring j)))
  | 0x5043 => some (vNat (dotDelayLine (envNow s)))
  | 0x5048 => some (vNat s.store.state)
  | 0x5049 => some (.num s.store.temp)
  | 0x5050 => some (vRun s.store.pcStats (8 * j) 6)
  | 0x5051 => some (vRun s.store.classStats (8 * j) 5)
  | 0x5062 => some (.num (max 0 ((decodeWindow s (envNow s) j).getD 0)))
  | 0x5063 => some (vRun s.screen.decStats (4 * j) 4)
  | 0x5064 => some (vRun (s.ring j).errors 1 8)
  | 0x5065 => some (vNat (regionLoad s j))
  | 0x5066 => some (vNat (2000 * workingDecoders s j))
  | 0x5067 => some (vNat ((ringRegion s (envNow s) j).getD 0xFF))
  | _ => none

def liveScreen (s : State) (pending : Bool) (i j : Nat) : Option Val :=
  match i with
  | 0x6005 => some (arrayBytes (tget none s.screen.arrays j))
  | 0x6008 => some (bandBytes (diffuses s (s.engine j)) (s.engine j))
  | 0x6009 => some (vNat (planeColumns (envNow s) (j - 1)))
  | 0x600B => some (vNat (lagOf s (s.engine j)))
  | 0x600C => some (vRun (s.engine j).stats 0 5)
  | 0x600D => some (vNat s.screen.capacity)
  | 0x6012 => some (readWindow s pending)
  | 0x6030 => some (.arr (headCounts s j))
  | 0x6031 => some (vNat (uncoveredCount s))
  | 0x6032 => some (vNat s.noz.dropped.toNat)
  | 0x6034 => some (.bytes (tget [] s.noz.identity j))
  | 0x6047 => some (vNat (barLines (envNow s)))
  | 0x6054 => some (barBytes s.loop.last)
  | 0x6055 =>
    let r := tget (0, 0, 0) s.loop.register j
    some (packBytes 12 [(32, r.1), (32, r.2.1), (32, r.2.2)])
  | _ => none

def liveHead (s : State) (i j : Nat) : Option Val :=
  match i with
  | 0x7010 => some (.num (s.head j).temp)
  | 0x7011 => some (vNat (s.head j).thermal)
  | 0x7012 => some (vNat (sendLead s j))
  | 0x7013 => some (vNat (ceilDiv (minPeriod s (envNow s) j) 1000))
  | 0x7014 => some (.num (firstColumn (envNow s) j))
  | 0x7015 => some (.num (crossResidual (envNow s) j))
  | 0x7033 => some (vEntry s.fire.defects (j - 1) defectBytes)
  | 0x7034 => some (vNat (s.head j).late.toNat)
  | 0x7036 => some (vNat s.fire.overflow.toNat)
  | 0x7040 => some (vNat (s.lane j).state)
  | 0x7044 => some (vRun (s.lane j).caps 0 12)
  | 0x7045 => some (vNat (s.lane j).latency)
  | 0x7046 => some (vNat (txTime s (envNow s) j / 1000))
  | 0x7047 => some (.arr ((s.lane j).eye.map Int.ofNat))
  | 0x7048 => some (vRun (s.lane j).stats 0 8)
  | 0x7049 => some (vNat (s.lane j).power)
  | 0x704A => some (vNat (s.lane j).claim.toNat)
  | _ => none

def liveInsp (s : State) (i j : Nat) : Option Val :=
  match i with
  | 0x8012 => some (vNat (s.sensor j).inForce.toNat)
  | 0x8013 => some (.num (s.sensor j).align)
  | 0x8040 => some (vEntry s.insp.log (j - 1) frameBytes64)
  | 0x8041 => some (vRun s.insp.errors (8 * j) 6)
  | 0x8044 => some (vRun s.insp.sliceStats (4 * j) 3)
  | 0x8045 => some (vNat (backlog s))
  | 0x8046 => some (vNat s.insp.windowsMissed.toNat)
  | 0x8047 => some (vNat s.insp.dropped.toNat)
  | 0x8048 => some (vNat s.insp.requestMissed.toNat)
  | _ => none

def liveTime (s : State) (i j : Nat) : Option Val :=
  match i with
  | 0x9010 => some (vNat s.time.servo)
  | 0x9011 => some (.num s.time.offset)
  | 0x9012 => some (.num s.time.freq)
  | 0x9013 => some (vNat s.time.pathDelay)
  | 0x9014 => some (.bytes (if s.time.grandmaster = 0 then [] else natBytes 8 s.time.grandmaster.toNat))
  | 0x9015 => some (vNat (s.ptpPort j).state)
  | 0x9019 => some (.num s.time.pendingStep)
  | 0x901A => some (.num (timeField (devTime s)))
  | 0x9020 => some (.bytes (((s.ptpPort j).tx.take 32).flatMap (stampBytes j)))
  | 0x9022 => some (vNat (s.ptpPort j).txStatus.word.toNat)
  | 0x9023 => some (vNat ((s.ptpPort j).txStatus.count 0))
  | 0x9024 => some (vNat (min 64 (s.ptpPort j).tx.length))
  | 0x9030 => some (vRun s.time.residence 0 4)
  | 0x9051 => some (.bytes (((s.evt j).queue.take 32).flatMap captureBytes))
  | 0x9053 => some (vNat (s.evt j).status.word.toNat)
  | 0x9054 => some (vNat ((s.evt j).status.count 0))
  | 0x9060 => some (vNat s.time.pd.cycle)
  | 0x9061 => some (vNat s.time.pd.phase)
  | 0x9062 => some (vBool s.time.pd.running)
  | 0x9063 => some (vNat s.time.pd.late.toNat)
  | 0x9070 => some (vEntry s.time.corr (j - 1) corrBytes)
  | _ => none

def livePair (s : State) (i j : Nat) : Option Val :=
  match i with
  | 0xA001 => some (vNat s.pair.state)
  | 0xA002 => some (.bytes s.pair.partnerHash)
  | 0xA003 => some (vNat s.pair.partnerSerial.toNat)
  | 0xA005 => some (vNat s.pair.epoch.toNat)
  | 0xA006 => some (.arr ((List.range 4).map (fun k => if tget false s.pair.lanes k then 1 else 0)))
  | 0xA007 => some (vNat s.pair.latency)
  | 0xA008 => some (.num s.pair.timeDiff)
  | 0xA009 => some (.num s.pair.countOffset)
  | 0xA00A => some (vRun s.pair.compare 0 6)
  | 0xA00B => some (vNat (tget 0 s.pair.owner j))
  | 0xA00C => some (vNat s.pair.switches.toNat)
  | 0xA00D => some (vNat s.pair.heldReason)
  | 0xA00F => some (vNat s.pair.wheelerLate.toNat)
  | _ => none

def liveFault (s : State) (i j : Nat) : Option Val :=
  let l := s.faults.life
  match i with
  | 0xB001 => some (fillBytes s j)
  | 0xB004 => some (vNat s.integ.skipped.length)
  | 0xB011 => some (vNat (tget 0 s.integ.lapMs (j - 1)).toNat)
  | 0xB012 => some (vNat (tget 0 s.integ.lapLines (j - 1)).toNat)
  | 0xB020 => some (vEntry s.integ.log j logBytes)
  | 0xB022 => some (vNat s.integ.logOverflow.toNat)
  | 0xB030 => some (vNat (tget 0 s.integ.corrected j).toNat)
  | 0xB031 => some (vNat (tget 0 s.integ.ue j).toNat)
  | 0xB032 => some (vNat (min (fireUeCount s) 255))
  | 0xB040 => some (vNat s.integ.retired.length)
  | 0xB041 => some (retireBytes s j)
  | 0xB050 => some (vEntry s.faults.active (j - 1) faultBytes)
  | 0xB051 => some (vNat (faultClass s))
  | 0xB052 => some (vRunN s.faults.counts 0 4)
  | 0xB053 => some (vNat s.faults.output.word.toNat)
  | 0xB054 => some (.arr s.faults.dieTemp)
  | 0xB055 => some (vNat (s.faults.output.count (j - 1)))
  | 0xB060 => some (vNat (powerHours s))
  | 0xB061 => some (.arr ((List.range 31).map (fun k => ((min (tget 0 l.temp (32 * j + k) / 1000) 4294967295 : Nat) : Int))))
  | 0xB062 => some (vRunN l.vsup 0 32)
  | 0xB063 => some (.arr [((l.low.getD 0 : Nat) : Int), ((l.high.getD 0 : Nat) : Int)])
  | 0xB064 => some (.arr [((tget (0 : Nat) l.corrected j : Nat) : Int), ((tget (0 : Nat) l.ue j : Nat) : Int)])
  | 0xB065 => some (vNat (tget 0 l.retrains j))
  | 0xB066 => some (vRunN l.enc (4 * j) 4)
  | 0xB067 => some (vNat (tget 0 l.fires j))
  | 0xB068 => some (vNat l.retiredFires)
  | 0xB069 => some (vRunN l.events 0 8)
  | 0xB06A => some (.arr [(l.storedHours : Int), (l.writes : Int)])
  | 0xC001 => some (handleBytes s j)
  | 0xC010 => some (.num (commitHorizon s))
  | 0xC011 => some (vNat (datumGen s).toNat)
  | 0xC012 => some (vEntry (pendingByLine s) (j - 1) commitBytes)
  | 0xD000 => some (queueBytes (s.sess (j - 1)))
  | 0xE000 => some (vNat s.start.cal.word.toNat)
  | 0xE001 => some (vNat (s.start.cal.count (j - 1)))
  | 0xE002 => some (.bytes (s.start.storeInfo.getD (j - 1) []))
  | 0xE010 => some (.arr ((laneEyeOf s j).map Int.ofNat))
  | 0xE020 => some (.arr ((tget [0, 0, 0] s.start.storeMargin j).map Int.ofNat))
  | 0xE030 => some (.arr ((tget (List.replicate 12 0) s.start.encThreshold j).map Int.ofNat))
  | 0xE031 => some (.arr (s.start.tempTrim.map Int.ofNat))
  | _ => none

/-- The value that the device produces for an object; none for a configuration object. -/
def liveVal (s : State) (pending : Bool) (i j : Nat) : Option Val :=
  if i < 0x4000 then liveIdentity s i j
  else if i < 0x5000 then liveAxis s i j
  else if i < 0x6000 then liveStream s i j
  else if i < 0x7000 then liveScreen s pending i j
  else if i < 0x8000 then liveHead s i j
  else if i < 0x9000 then liveInsp s i j
  else if i < 0xA000 then liveTime s i j
  else if i < 0xB000 then livePair s i j
  else liveFault s i j

/-- R65, R309: the generation of a value that the device produces: an RW object's is that of its last WRITE, the nozzle window's that of the
decision fields it returns, any other that of the line at the datum. -/
def liveGen (s : State) (pending : Bool) (i j : Nat) : BitVec 32 :=
  if i = 0x6012 then (if pending then s.proto.gen else datumGen s)
  else if (objAt i j).any (fun o => o.acc == .rw) then (baseVal s i j).2
  else datumGen s

/-- R65, R601: value and generation that a READ returns. -/
def readObject (s : State) (pending : Bool) (i j : Nat) : Val × BitVec 32 :=
  let t := aliasTarget i
  match liveVal s pending i j with
  | some v => (v, liveGen s pending i j)
  | none =>
    let acc : Acc := ((objAt t j).map (·.acc)).getD .ro
    let r := if acc = .staged ∧ pending then pendVal s t j else if acc = .staged then govVal s (datumLine s) t j else baseVal s t j
    (aliasRead i r.1, if acc = .ro then datumGen s else r.2)

end Sys2Proof.Machine
end

