-- ==== Sys2Proof/Machine/Judge.lean ====
section
/-! DEFINITION. How an entry of a READ, WRITE or STAGE is judged (R606): the grounds in their order, with the rules that the chapters set on the
values of single objects. A code of 0 is no refusal. -/

namespace Sys2Proof.Machine

/-! ### The session and the object (R606 orders 1 to 5) -/

/-- R601: the compatibility area is open, or the index lies outside it. -/
def areaOpen (s : State) (i : Nat) : Bool := i ≤ 0x2000 || 0x3000 ≤ i || cfg s 0x2000 0 == 1

/-- R595, R589: orders 1 and 2. No object of the F000h area is listed, so each of its indices is unknown. -/
def judgeIndex (s : State) (role i j : Nat) : Nat :=
  if 0xF000 ≤ i ∧ role < 3 then 0x0203
  else if 0xF000 ≤ i ∨ !areaOpen s i ∨ (objRuns i).isEmpty then 0x0301
  else if (objAt i j).isNone then 0x0302
  else 0

/-- R52: order 3 of a READ. -/
def judgeReadAccess (a : Acc) : Nat := if a = .wo ∨ a = .cmd then 0x0201 else 0

/-- R52: order 3 of a WRITE or STAGE. -/
def judgeWriteAccess (staged : Bool) (a : Acc) : Nat :=
  if staged then (if a = .staged then 0 else 0x0204)
  else match a with
    | .staged => 0x0204
    | .ro | .cmd => 0x0202
    | .rw | .wo => 0

/-- The claims that stand. -/
def liveClaims (s : State) : List Claim := s.proto.claims.filter (fun c => decide (s.time.now < c.expires))

/-- R57: a claim covers an index. -/
def Claim.covers (c : Claim) (i : Nat) : Bool := decide (c.first ≤ i) && decide (i < c.first + c.count)

/-- R57, R601: order 5: another session of equal or higher role owns the object, by its index or by an alias's target. -/
def ownedByOther (claims : List Claim) (sess : BitVec 32) (role i : Nat) : Bool :=
  claims.any (fun c => (c.covers i || c.covers (aliasTarget i)) && c.session != sess && decide (role ≤ c.role))

/-- R190: values that live in the page store cannot be read while it is in self-refresh. -/
def livesInStore (i : Nat) : Bool := i == 0x4062 || i == 0x5014 || i == 0xB020 || i == 0xB041

/-- R19, R72: an object that the supervisor die serves: rail and supply readings, OTP and stable RAM records, the encoder receivers' settings, and
the sequencer's (DEDUCED from the traffic that R19 lists; assumption log 69). -/
def supervisorServes (write : Bool) (i : Nat) : Bool :=
  if write then (decide (0x3001 ≤ i) && decide (i ≤ 0x3006) && i != 0x3002) || i == 0x4020 || i == 0x7049
  else i == 0x3012 || (decide (0x3020 ≤ i) && decide (i ≤ 0x3022)) || i == 0x3034 || i == 0x3035 || (decide (0x3040 ≤ i) && decide (i ≤ 0x3042)) ||
    (decide (0xB060 ≤ i) && decide (i ≤ 0xB06F))

/-- R72, R210: what the unit that serves an object finds: the supervisor die unreachable, or stored data uncorrectable. -/
def servingCode (s : State) (write : Bool) (i : Nat) (ue : Option (Nat × Nat)) : Nat :=
  if s.axis.supervisorLost && supervisorServes write i then 0x0802 else if ue.isSome then 0x0702 else 0

/-- R606: a READ entry. -/
def judgeRead (s : State) (role i j : Nat) : Nat :=
  let c := judgeIndex s role i j
  if c ≠ 0 then c
  else
    let a := judgeReadAccess (((objAt i j).map (·.acc)).getD .ro)
    if a ≠ 0 then a
    else if role < readRole i then 0x0203
    else if livesInStore i ∧ s.store.state = 3 then 0x0401
    else 0

/-! ### The value (orders 6 to 9) -/

/-- R51: a value has the shape of its type. -/
def shapeOk (ty : Nat) (v : Val) : Bool :=
  match v with
  | .num _ => ty < tStr
  | .bytes _ => ty == tStr || ty == tOct
  | .arr _ => tArr 0 ≤ ty

/-- R51: order 7. -/
def judgeCount (r : Rng) (v : Val) : Nat :=
  match r, v with
  | .elems l, .arr a => if a.length = l.length then 0 else 0x0307
  | .upTo n, .arr a => if 1 ≤ a.length ∧ a.length ≤ n then 0 else 0x0307
  | _, _ => 0

/-- The bit pattern of a number and a mask share a bit. -/
def hits (v : Int) (mask : Nat) : Bool := (v % 18446744073709551616).toNat &&& mask != 0

/-- R6: order 8. -/
def judgeReserved (mask : Nat) (v : Val) : Nat :=
  let bad : Bool := match v with
    | .num n => hits n mask
    | .bytes b => beNat b &&& mask != 0
    | .arr a => a.any (fun x => hits x mask)
  if bad then 0x0306 else 0

/-- Order 9: the range of the object's table. -/
def inRange (r : Rng) (v : Val) : Bool :=
  match r, v with
  | .rng lo hi, .num n => decide (lo ≤ n) && decide (n ≤ hi)
  | .mul lo hi m, .num n => decide (lo ≤ n) && decide (n ≤ hi) && n % m == 0
  | .zeroOr lo hi, .num n => n == 0 || (decide (lo ≤ n) && decide (n ≤ hi))
  | .among l, .num n => l.contains n
  | .lpos lo hi, .num n => decide (lo ≤ n / 65536) && decide (n / 65536 ≤ hi) && n % 256 == 0
  | .lens l, .bytes b => l.contains b.length
  | .elems l, .arr a => (l.zip a).all (fun x => decide (x.1.1 ≤ x.2) && decide (x.2 ≤ x.1.2))
  | _, _ => true

/-- R123: the ranges of a page record. -/
def pageOk (b : List Byte) : Bool :=
  let p := parsePage b
  b.isEmpty || (decide (-70368744177664 ≤ p.first) && decide (p.first ≤ 70368744177663) && decide (1 ≤ p.lines) && decide (p.lines ≤ 16777216) &&
    decide (p.gap ≤ 1048575))

/-- R268: a kernel's taps. -/
def kernelOk (a : List Int) : Bool :=
  let taps := a.map tapOf
  taps.all (fun t => decide (t.1 ≤ 2) && decide (-4 ≤ t.2.1) && decide (t.2.1 ≤ 4) && decide (1 ≤ t.2.2) && !(t.1 == 0 && decide (t.2.1 ≤ 0))) &&
    decide ((taps.map (fun t => (t.1, t.2.1))).Nodup) && decide (taps.foldl (fun n t => n + t.2.2) 0 ≤ 256)

/-- R294, R302: default weights: each three add up to at most 256. -/
def weightsOk (a : List Int) : Bool :=
  decide (a.getD 0 0 + a.getD 1 0 + a.getD 2 0 ≤ 256) && decide (a.getD 3 0 + a.getD 4 0 + a.getD 5 0 ≤ 256)

/-- R161: a ring may be enabled as `t` configures it; `on` says which rings are enabled. -/
def ringOk (t : State) (n : Nat) (on : Nat → Bool) : Bool :=
  let b := ringBase t n
  let z := ringSize t n
  let p := purposeRange t 1
  b % 65536 == 0 && z % 65536 == 0 && decide (1048576 ≤ z) && decide (z ≤ 4294967296) && decide (p.1 ≤ b) && decide (b + z ≤ p.1 + p.2) &&
    ringWidth t n % 64 == 0 && decide (64 ≤ ringWidth t n) && ringFirst t n % 64 == 0 &&
    ringNums.all (fun m => m == n || !on m || !touches b z (ringBase t m) (ringSize t m))

/-- R170: the partition table as `t` holds it. -/
def partitionsOk (t : State) : Bool :=
  let ps := partitions t
  let used := ps.filter (fun p => decide (0 < p.2.count))
  used.all (fun p => p.1 == 16 || decide (p.2.first + p.2.count ≤ 46656)) &&
    used.all (fun p => used.all (fun q => p.1 == q.1 || !touches p.2.first p.2.count q.2.first q.2.count)) &&
    [1, 2, 3, 4].all (fun k => (used.filter (fun p => p.2.purpose == k)).length == 1) &&
    ps.all (fun p => (p.1 == 16 || p.2.purpose != 5) && decide (p.2.purpose ≤ 6) && decide (p.2.order ≤ 3) &&
      !(p.2.order == 3 && (p.2.purpose == 1 || p.2.purpose == 2)))

/-- Field `lo` of `n` bits of an octet string. -/
def octField (b : List Byte) (lo n : Nat) : Nat := beNat b / 2 ^ lo % 2 ^ n

/-- Order 9 beyond the range of the object's table. `t` is the state as it would be with every entry of the request written; `on` says which
rings would be enabled. -/
def valueOk (s t : State) (on : Nat → Bool) (i j : Nat) (v : Val) : Bool :=
  let n := Val.int v
  let b := Val.oct v
  match i with
  | 0x1020 => !((b.getD 0 0).getLsbD 0)
  | 0x1030 => b.isEmpty || decide ((b.getD 48 0).toNat ≤ 2)
  | 0x4020 => bits n 10 2 != 3 && !(bits n 10 2 == 1 && cfgN t 0x4022 j == 0)
  | 0x4062 => pageOk b
  | 0x4070 => n % 256 == 0
  | 0x4071 => n % 256 == 0 && decide (0 ≤ n) && decide (n ≤ 1048575 * 65536)
  | 0x5006 => n == 0 || (s.ring j).enable || ringOk t j on
  | 0x500C => decide (n ≤ (s.ring j).cum)
  | 0x5040 => partitionsOk t
  | 0x6006 => kernelOk (Val.elems v)
  | 0x6013 => (windowChanges b).1 == 0
  | 0x6021 => weightsOk (Val.elems v)
  | 0x6045 => (n - 16) % 7 == 0
  | 0x6049 => decide (cfg t 0x6048 0 < cfg t 0x6049 0)
  | 0x604F => !(headsOf (envNow s) n.toNat).isEmpty
  | 0x700A | 0x700B => decide (cfg t 0x700A j < cfg t 0x700B j)
  | 0x8000 => bits n 4 2 != 3 && decide (bits n 8 8 ≤ 7) && decide (bits n 16 8 ≤ 7)
  | 0x8010 => octField b 119 2 != 0 && [0x2A, 0x2B, 0x24].contains (octField b 104 8) && decide (64 ≤ octField b 88 16) && decide (octField b 88 16 ≤ 16384)
  | 0x8050 => b.isEmpty || (decide (64 ≤ octField b 48 16) && decide (octField b 48 16 ≤ 8192))
  | 0x9017 => decide (cfg t 0x9017 0 ≤ cfg t 0x9016 0)
  | 0x9021 => decide (n ≤ (s.ptpPort j).tx.length)
  | 0x9052 => decide (n ≤ (s.evt j).queue.length)
  | _ => true

/-- Order 8 for what a window object holds (R311). -/
def windowReserved (i : Nat) (v : Val) : Bool := i == 0x6013 && (windowChanges (Val.oct v)).1 == 0x0306

/-! ### The state (order 10) -/

/-- R161: the ring holds stripes of queued pages. -/
def holdsQueued (s : State) (n : Nat) : Bool :=
  (s.ring n).index.any (fun x => x.state != .released && s.gait.pages.any (fun p => p.page == x.page))

/-- R192: handles whose operation runs on a mover channel. -/
def moverCount (s : State) : Nat := (moverHandles s).length

/-- R606 order 10: the write is allowed in the present state. -/
def stateAllows (s : State) (i j : Nat) (v : Val) : Bool :=
  let n := Val.int v
  match i with
  | 0x4003 => sourceAllowed s n.toNat
  | 0x4020 => s.axis.stopped || decide (2 ≤ j)
  | 0x4035 => presetAllowed s
  | 0x4037 => n == 0 || s.axis.stopped
  | 0x408A => n == 0 || (s.rein.state != 0 && !(edgeComes s && reinEndsNow s))
  | 0x408C => n == 0 || s.rein.state != 1
  | 0x5000 | 0x5001 | 0x5002 | 0x5003 | 0x5004 | 0x5005 => !(s.ring j).enable
  | 0x5006 => n != 0 || !(s.ring j).enable || s.gait.job == 0 || !holdsQueued s j
  | 0x5040 => ringNums.all (fun m => !(s.ring m).enable) && s.gait.job == 0 && moverCount s == 0
  | 0x7043 => n != 0 || s.gait.job == 0 || !headAssigned s j
  | 0x7049 => s.power.state == 0 && (n == 0 || s.gait.job == 0 || !headAssigned s j)
  | _ => true

/-! ### An entry -/

/-- The values that a WRITE would leave: every entry of an RW object set, aliases at their targets. -/
def overlay (es : List Entry) (s : State) : State :=
  es.foldl (fun t e => match aliasWrite e.idx e.val with
    | some w => setCfg t (aliasTarget e.idx) e.sub w 0
    | none => t) s

/-- The rings that would be enabled after the request. -/
def ringsAfter (es : List Entry) (s : State) (n : Nat) : Bool :=
  es.foldl (fun on e => if e.idx = 0x5006 ∧ e.sub = n then Val.int e.val == 1 else on) (s.ring n).enable

/-- R606 orders 6 to 9 for one object's value. -/
def judgeValue (s t : State) (on : Nat → Bool) (o : Obj) (j : Nat) (v : Val) : Nat :=
  let c := judgeCount o.rng v
  if c ≠ 0 then c
  else if judgeReserved o.resv v ≠ 0 ∨ windowReserved o.idx v then 0x0306
  else if !inRange o.rng v ∨ !valueOk s t on o.idx j v then 0x0303
  else 0

/-- R482: a wheeler takes writes in its chip-local set only, and stages nothing. -/
def wheelerRefuses (s : State) (staged : Bool) (i : Nat) : Bool := isWheeler s && (staged || !chipLocal i)

/-- R606: one entry of a WRITE (or STAGE) of the request `es`. -/
def judgeEntry (s : State) (es : List Entry) (claims : List Claim) (sess : BitVec 32) (role : Nat) (staged : Bool) (e : Entry) : Nat :=
  if wheelerRefuses s staged e.idx then 0x040B else
  let c := judgeIndex s role e.idx e.sub
  if c ≠ 0 then c else
  match objAt e.idx e.sub with
  | none => 0x0302
  | some o =>
    let a := judgeWriteAccess staged o.acc
    if a ≠ 0 then a
    else if role < writeRole (aliasTarget e.idx) then 0x0203
    else if ownedByOther claims sess role e.idx then 0x0602
    else if e.ty ≠ o.ty ∨ !shapeOk o.ty e.val then 0x0305
    else
      let t := overlay es s
      let on := ringsAfter es s
      let w := judgeValue s t on o e.sub e.val
      if w ≠ 0 then w
      else if aliasTarget e.idx ≠ e.idx then
        match aliasWrite e.idx e.val, objAt (aliasTarget e.idx) e.sub with
        | some x, some p =>
          let y := judgeValue s t on p e.sub x
          if y ≠ 0 then y else if stateAllows s p.idx e.sub x then servingCode s true p.idx e.ue else 0x0401
        | _, _ => 0x0303
      else if stateAllows s e.idx e.sub e.val then servingCode s true e.idx e.ue else 0x0401

/-- R55: the first entry that fails, with its position. -/
def judgeEntries (s : State) (all : List Entry) (claims : List Claim) (sess : BitVec 32) (role : Nat) (staged : Bool) : List Entry → Nat → Option (Nat × Nat)
  | [], _ => none
  | e :: r, k =>
    let c := judgeEntry s all claims sess role staged e
    if c ≠ 0 then some (c, k) else judgeEntries s all claims sess role staged r (k + 1)

end Sys2Proof.Machine
end

