-- ==== Sys2Proof/Machine/Effects.lean ====
section
/-! DEFINITION. What a write of an RW or WO object does in the tick of the write (R52, R55): the stored value, flags cleared (R71), and the effects that the
chapters give to single objects. -/

namespace Sys2Proof.Machine

/-! ### Streams (R150, R161) -/

/-- R161: an accepted enable empties the ring. A write of 1 to an enabled ring changes nothing. -/
def enableRing (n : Nat) (s : State) : State :=
  let r := s.ring n
  if r.enable then s
  else
    let z := ringSize s n
    let r := { r with enable := true, cum := 0, release := 0, limit := z, limitTick := 0, limitWas := 0, ranges := [], high := 0, gaps := []
                      index := [], depths := [], ackAt := s.time.now, dataSince := false, ackLimit := z, sources := [], lates := []
                      peerCum := 0, peerRanges := [], peerRelease := 0, peerGaps := [], staged := [], anchors := [], redo := none }
    updateCapacity (s.setRing n r)

/-- R160, R161: a ring is disabled in the tick of the write. -/
def disableRing (n : Nat) (s : State) : State := updateCapacity (s.setRing n { s.ring n with enable := false })

/-- R150: the host releases every stripe that ends at or below `v`. -/
def releaseTo (n v : Nat) (s : State) : State :=
  releaseWhere n (fun x => match x.len with | some l => decide (x.base + l ≤ v) | none => false) s

/-! ### The page store (R172, R203) -/

/-- R203: the slabs that a test picks become skipped. -/
def skipSlabs (pick : Nat → Bool) (s : State) : State :=
  let skipped : Tab Bool := ((List.range 49152).filter (fun k => pick k || slabSkipped s k)).map (fun k => (k, true))
  { s with integ := { s.integ with skipped := skipped } }

/-- R172, R202: nothing counts as written any more in the slabs that a test picks. -/
def loseSlabs (pick : Nat → Bool) (s : State) : State :=
  let t := s.time.now + 1
  let lost : Tab Nat := ((List.range 49152).filter (fun k => pick k || tget 0 s.store.unwritten k != 0)).map
    (fun k => (k, if pick k then t else tget 0 s.store.unwritten k))
  { s with store := { s.store with unwritten := lost, fresh := s.store.fresh.filter (fun e => !pick (slabOf (e.1 * 32)))
                                   marks := s.store.marks.filter (fun e => !pick (slabOf (e.1 * 32))) } }

/-- The slab lies in a partition. -/
def Partition.holds (p : Partition) (k : Nat) : Bool := decide (p.first ≤ k) && decide (k < p.first + p.count)

/-- R172, R203: a partition entry has changed from `old`. A change of place or order skips its slabs and takes their contents; any change skips the
slabs that lie in no partition. A slab that leaves a partition of another order reads under the interleaved one (R170), other cells than before. -/
def partitionChanged (sub : Nat) (old : Partition) (s : State) : State :=
  let p := partition s sub
  if old = p then s
  else
    let moved := !(old.first = p.first ∧ old.count = p.count ∧ old.order = p.order)
    let s := skipSlabs (fun k => (moved && p.holds k) || (partAt s k).isNone) s
    if moved then loseSlabs (fun k => p.holds k || (old.order != 0 && old.holds k && (partAt s k).isNone)) s else s

/-! ### Trace links (R361, R364) -/

/-- R361: `Trace.Enable` is written. -/
def setTraceEnable (h : Nat) (on : Bool) (s : State) : State :=
  if on then (if (s.lane h).state = 0 then startBringUp h 0 s else s) else laneDown h s

/-! ### Press, faults and logs (R215, R333, R379, R380, R521) -/

/-- R521: INK_EN follows `Power.InkEnable` in Run and Idle unless a fault class has deasserted it (R548). -/
def setInk (on : Bool) (s : State) : State :=
  if s.power.state ≤ 1 ∧ !s.faults.stopped then { s with faults := { s.faults with inkEn := on } } else s

/-- R379. -/
def stopClear (s : State) : State := { s with faults := { s.faults with stopLost := false } }

/-- R215. -/
def clearErrorLog (s : State) : State := { s with integ := { s.integ with log := [] } }

/-- R333. -/
def clearDefectLog (s : State) : State := mirrorLogs { s with fire := { s.fire with defects := [] } }

/-- R445. -/
def popStamps (n k : Nat) (s : State) : State := s.setPtpPort n { s.ptpPort n with tx := (s.ptpPort n).tx.drop k }

/-- R455. -/
def popCaptures (n k : Nat) (s : State) : State := s.setEvt n { s.evt n with queue := (s.evt n).queue.drop k }

/-! ### Multicast groups (R140, R163) -/

/-- R163: the groups of a NET port: subindices 01h to 10h for NET_0 and 11h to 20h for NET_1, each of 4 or 16 octets. -/
def groupsOf (s : State) (n : Nat) : List (List Byte) :=
  if 2 ≤ n then []
  else ((List.range 16).map (fun i => Val.oct (baseVal s 0x1025 (16 * n + i + 1)).1)).filter (fun b => b.length == 4 || b.length == 16)

def groups4 (s : State) (n : Nat) : List Nat := ((groupsOf s n).filter (fun b => b.length == 4)).map beNat
def groups6 (s : State) (n : Nat) : List Nat := ((groupsOf s n).filter (fun b => b.length == 16)).map beNat

/-- R140: a change of a port's groups is reported to the routers: IGMPv3 to 224.0.0.22, MLDv2 to FF02::16 (PRESUMED, assumption log 68). -/
def reportGroups (j : Nat) (old s : State) : State :=
  let n := (j - 1) / 16
  let port : Port := if n = 0 then .net0 else .net1
  let s := if groups4 s n = groups4 old n then s
    else emit (.protocolReply { port := port, addr := 0xE0000016, mac := 0x01005E000016 } 3 (groups4 s n)) s
  if groups6 s n = groups6 old n then s
  else emit (.protocolReply { port := port, addr := 0xFF02 * 2 ^ 112 + 0x16, mac := 0x333300000016 } 4 (groups6 s n)) s

/-! ### Flags (R71) -/

/-- R71: the status flag objects: a write clears the flags named. -/
def clearFlags (i j : Nat) (mask : BitVec 32) (s : State) : Option State :=
  match i, j with
  | 0x1012, 0 => some { s with proto := { s.proto with comm := s.proto.comm.clear s.time.now mask } }
  | 0x3020, _ => some { s with power := { s.power with vsup := s.power.vsup.clear s.time.now mask } }
  | 0x4004, c => some (s.setChan c { s.chan c with status := (s.chan c).status.clear s.time.now (mask &&& ~~~ (BitVec.ofNat 32 (2 ^ encFaulty))) })
  | 0x5007, n => some (s.setRing n { s.ring n with status := (s.ring n).status.clear s.time.now mask })
  | 0x9022, n => some (s.setPtpPort n { s.ptpPort n with txStatus := (s.ptpPort n).txStatus.clear s.time.now mask })
  | 0x9053, n => some (s.setEvt n { s.evt n with status := (s.evt n).status.clear s.time.now mask })
  | 0xB053, _ => some { s with faults := { s.faults with output := s.faults.output.clear s.time.now mask } }
  | 0xE000, _ => some { s with start := { s.start with cal := s.start.cal.clear s.time.now mask } }
  | _, _ => none

/-! ### One object -/

/-- WO objects: a write acts and leaves no value (R52). -/
def writeOnly (i j : Nat) (n : Int) (s : State) : Option State :=
  match i with
  | 0x4025 => some (if n = 1 then armIndex j s else s)
  | 0x4035 => some (presetTo (ofLpos n) s)
  | 0x4037 => some (if n = 1 then reenable j s else s)
  | 0x408A => some (if n = 1 then reinAbandon 5 s else s)
  | 0x408C => some (if n = 1 then stopClear s else s)
  | 0x500C => some (releaseTo j n.toNat s)
  | 0x7035 => some (if n = 1 then clearDefectLog s else s)
  | 0x9021 => some (popStamps j n.toNat s)
  | 0x9052 => some (popCaptures j n.toNat s)
  | 0xB021 => some (if n = 1 then clearErrorLog s else s)
  | _ => none

/-- What the new value of an RW object does at once. `own` is false for a write that the lead mirrors: the change of source comes by its
AXIS record (R475). -/
def writeEffect (own : Bool) (i j : Nat) (n : Int) (old s : State) : State :=
  match i with
  | 0x3006 => setInk (n == 1) s
  | 0x1025 => reportGroups j old s
  | 0x4003 => if own then requestSource n.toNat s else s
  | 0x4012 => setAuxGear j n.toNat s
  | 0x4051 => limitChanged s
  | 0x5006 => if n = 1 then enableRing j s else disableRing j s
  | 0x5040 => partitionChanged j (partition old j) s
  | 0x7043 => setTraceEnable j (n == 1) s
  | 0x7049 => lanePower j n.toNat s
  | 0x9000 | 0x9001 | 0x9006 => roleWritten s
  | 0x9002 | 0x9003 | 0x9004 => decidePorts s
  | _ => s

/-- R523: bit 0 of `Power.WakeSource` reads 1. -/
def storedValue (i : Nat) (v : Val) : Val := if i = 0x3001 then .num ((Val.int v).toNat ||| 1 : Nat) else v

/-- R52, R55, R65: a write of one object takes effect. -/
def applyWrite (own : Bool) (i j : Nat) (v : Val) (s : State) : State :=
  let n := Val.int v
  match clearFlags i j (BitVec.ofInt 32 n) s with
  | some t => setCfg t i j (.num 0) (datumGen s)
  | none => match writeOnly i j n s with
    | some t => t
    | none => noteStored i (writeEffect own i j n s (setCfg s i j (storedValue i v) (datumGen s)))

/-- R602: a write through an alias is a write of its target. -/
def applyEntry (e : Entry) (s : State) : State :=
  match aliasWrite e.idx e.val with
  | some v => applyWrite true (aliasTarget e.idx) e.sub v s
  | none => s

/-- R475: RW objects outside the chip-local set are mirrored. -/
def mirroredObject (i : Nat) : Bool := !chipLocal i && ((objRuns i).head?.map (fun o => o.acc == .rw)).getD false

/-- R475: one WRITE record for the mirrored entries of a request. -/
def mirrorWrite (es : List Entry) (s : State) : State :=
  let l := es.filter (fun e => mirroredObject (aliasTarget e.idx))
  if l.isEmpty then s else mirror (.write (l.map (fun e => ⟨aliasTarget e.idx, e.sub, (aliasWrite e.idx e.val).getD e.val⟩))) s

/-- R55: every entry of a WRITE in one tick, in order. -/
def applyEntries (es : List Entry) (s : State) : State := mirrorWrite es (forAll es applyEntry s)

/-- WRITE_RECORD (R475): the wheeler applies the lead's writes. -/
def takeWrites (es : List ObjWrite) (s : State) : State := forAll es (fun w s => applyWrite false w.idx w.sub w.val s) s

def execWriteRecord (dt : Nat) (h : PairHdr) (es : List ObjWrite) (s : State) : Host.Outcome State Fault Refusal := recordOk dt h (takeWrites es) s

end Sys2Proof.Machine
end

