-- ==== Sys2Proof/Machine/Arrivals.lean ====
section
/-! DEFINITION. The requests of one resolution tick (R58): which requests are still to come in this tick, what they ask, the claims as CLAIM and
RELEASE of the tick leave them, and arbitration (R59). -/

namespace Sys2Proof.Machine

/-! ### What a row asks -/

/-- R71: object and subindex of a flag object. -/
def flagKey : FlagObj → Nat × Nat
  | .comm => (0x1012, 0)
  | .vsup => (0x3020, 0)
  | .enc ch => (0x4004, ch)
  | .stream n => (0x5007, n)
  | .txStamp n => (0x9022, n)
  | .evt n => (0x9053, n)
  | .output => (0xB053, 0)
  | .cal => (0xE000, 0)

/-- The part of a request that arbitration and ownership look at. -/
inductive Ask where
  | write (es : List Entry)
  | stage (es : List Entry)
  | commit
  | discard
  | claim (first count lease : Nat)
  | release (first : Nat)
  deriving DecidableEq, Repr

/-- The WRITE of one object that a row of the table stands for. -/
def objectWrite : Instr → Option (Req × Entry)
  | .axisPreset _ r ty v => some (r, entry 0x4035 0 ty v)
  | .indexArm _ r sub ty v => some (r, entry 0x4025 sub ty v)
  | .encReenable _ r sub ty v => some (r, entry 0x4037 sub ty v)
  | .sourceRequest _ r ty v => some (r, entry 0x4003 0 ty v)
  | .hostSpeedLimit _ r ty v => some (r, entry 0x4051 0 ty v)
  | .streamEnable _ r sub ty v => some (r, entry 0x5006 sub ty v)
  | .streamReleaseTo _ r sub ty v => some (r, entry 0x500C sub ty v)
  | .traceEnable _ r sub ty v => some (r, entry 0x7043 sub ty v)
  | .tracePower _ r sub ty v => some (r, entry 0x7049 sub ty v)
  | .pressRefuse _ r ty v => some (r, entry 0x408A 0 ty v)
  | .stopClear _ r ty v => some (r, entry 0x408C 0 ty v)
  | .timeRoleWrite _ r idx ty v => some (r, entry idx 0 ty v)
  | .txStampPop _ r sub ty v => some (r, entry 0x9021 sub ty v)
  | .capturePop _ r sub ty v => some (r, entry 0x9052 sub ty v)
  | .statusClear _ r obj ty v => some (r, entry (flagKey obj).1 (flagKey obj).2 ty v)
  | .storePartition _ r sub ty v => some (r, entry 0x5040 sub ty v)
  | .errorLogClear _ r ty v => some (r, entry 0xB021 0 ty v)
  | .defectLogClear _ r ty v => some (r, entry 0x7035 0 ty v)
  | _ => none

/-- What a row asks, if arbitration or ownership concerns it. -/
def asked (i : Instr) : Option (Req × Ask) :=
  match objectWrite i with
  | some (r, e) => some (r, .write [e])
  | none => match i with
    | .write _ r es => some (r, .write es)
    | .stage _ r es => some (r, .stage es)
    | .commit _ r _ _ => some (r, .commit)
    | .discard _ r => some (r, .discard)
    | .claim _ r first count lease => some (r, .claim first count lease)
    | .release _ r first => some (r, .release first)
    | _ => none

/-! ### The tick (R58) -/

/-- R44, R50: the slot of the open session that a request names. -/
def openSlot (s : State) (id : BitVec 32) : Option Nat := (List.range 8).find? (fun i => (s.sess i).phase == .opened && (s.sess i).id == id)

/-- R44: the request is a new one of an open session: its slot. -/
def freshSlot (s : State) (r : Req) : Option Nat :=
  match openSlot s r.sess with
  | none => none
  | some k =>
    let x := s.sess k
    if r.seq.getLsbD 63 || decide (r.seq.toNat + 64 < x.highSeq) || x.seen.contains r.seq.toNat then none else some k

/-- The requests still to come in this tick: slot, header, what they ask (log 35). -/
def comers (s : State) : List (Nat × Req × Ask) :=
  (tickRest s).filterMap (fun i =>
    match asked i with
    | some (r, a) => (freshSlot s r).map (fun k => (k, r, a))
    | none => none)

/-! ### Claims of the tick (R57, R58) -/

/-- R57, R482, R595: the code that a CLAIM is answered with. -/
def claimCode (s : State) (claims : List Claim) (role first count lease : Nat) : Nat :=
  let last := first + count - 1
  if count = 0 ∨ 4096 < count ∨ first / 4096 ≠ last / 4096 ∨ 65535 < last ∨ lease = 0 ∨ 3600 < lease then 0x0303
  else if isWheeler s ∧ !(chipLocal first && chipLocal last) then 0x040B
  else if 0xF000 ≤ first ∧ role < 3 then 0x0203
  else if claims.any (fun c => decide (first < c.first + c.count) && decide (c.first < first + count)) then 0x0603
  else if 64 ≤ claims.length then 0x0507
  else 0

/-- A claim as a CLAIM makes it now. -/
def claimOf (s : State) (sess : BitVec 32) (role first count lease : Nat) : Claim := ⟨first, count, sess, role, s.time.now + lease * sec⟩

/-- R57: a RELEASE ends the session's claim with this first index. -/
def dropClaim (sess : BitVec 32) (first : Nat) (claims : List Claim) : List Claim := claims.filter (fun c => !(c.session == sess && c.first == first))

/-- R58: the claims once every CLAIM and RELEASE of the tick has been processed. -/
def claimsOfTick (s : State) : List Claim :=
  (comers s).foldl (fun cs a =>
    let x := s.sess a.1
    match a.2.2 with
    | .claim first count lease => if claimCode s cs x.role first count lease = 0 then cs ++ [claimOf s x.id x.role first count lease] else cs
    | .release first => dropClaim x.id first cs
    | _ => cs) (liveClaims s)

/-! ### Arbitration (R59) -/

/-- R59, R601: the objects that entries touch; an alias and its target are one object. -/
def objectKeys (es : List Entry) : List (Nat × Nat) := es.map (fun e => (aliasTarget e.idx, e.sub))

/-- The objects of a session's staging set. -/
def stagedKeys (s : State) (slot : Nat) : List (Nat × Nat) := (s.sess slot).staging.map (fun w => (w.idx, w.sub))

/-- A request as arbitration sees it. -/
def arbReq (s : State) (slot : Nat) (r : Req) (objs : List (Nat × Nat)) (commit : Bool) : ArbReq :=
  ⟨(s.sess slot).id, (s.sess slot).role, r.src, objs, commit⟩

/-- The WRITE, STAGE and COMMIT requests still to come; `staged` is what each slot's set holds by then: its earlier STAGEs of the tick add to it,
and a DISCARD empties it (R60). -/
def comingReqs (s : State) : List (Nat × Req × Ask) → (Nat → List (Nat × Nat)) → List ArbReq
  | [], _ => []
  | (k, r, a) :: l, staged =>
    match a with
    | .write es => arbReq s k r (objectKeys es) false :: comingReqs s l staged
    | .stage es => arbReq s k r (objectKeys es) false :: comingReqs s l (fun i => if i = k then staged k ++ objectKeys es else staged i)
    | .commit => arbReq s k r (staged k) true :: comingReqs s l staged
    | .discard => comingReqs s l (fun i => if i = k then [] else staged i)
    | _ => comingReqs s l staged

/-- The requests still to come in the tick. -/
def comingAll (s : State) : List ArbReq := comingReqs s (comers s) (stagedKeys s)

/-- Every WRITE, STAGE and COMMIT of the tick but the present one. -/
def rivals (s : State) : List ArbReq :=
  (if s.proto.tick = tickNow s then s.proto.tickReqs else []) ++ comingAll s

/-- R59 rule 1: the request's session owns an object. -/
def ownsObject (claims : List Claim) (a : ArbReq) (o : Nat × Nat) : Bool := claims.any (fun c => c.covers o.1 && c.session == a.session)

/-- R59 rules 2 to 4. -/
def outranks (a b : ArbReq) : Bool :=
  decide (b.role < a.role) || (a.role == b.role && (decide (a.src.toNat < b.src.toNat) || (a.src == b.src && decide (a.session.toNat < b.session.toNat))))

/-- R59: `a` ranks above `b` on an object. -/
def above (claims : List Claim) (o : Nat × Nat) (a b : ArbReq) : Bool :=
  let x := ownsObject claims a o
  let y := ownsObject claims b o
  (x && !y) || (x == y && outranks a b)

/-- Objects in ascending index, then subindex. -/
def lowerKey (o p : Nat × Nat) : Bool := decide (o.1 < p.1) || (o.1 == p.1 && decide (o.2 < p.2))

/-- The lowest of a list of objects. -/
def lowestKey : List (Nat × Nat) → Option (Nat × Nat)
  | [] => none
  | o :: r => match lowestKey r with
    | none => some o
    | some p => some (if lowerKey p o then p else o)

/-- R59: a request loses to this node: the one that ranks first on the lowest object on which it was beaten. -/
def lostTo (claims : List Claim) (others : List ArbReq) (q : ArbReq) : Option (BitVec 16) :=
  let beaten := q.objs.filter (fun o => others.any (fun a => a.session != q.session && a.objs.contains o && above claims o a q))
  match lowestKey beaten with
  | none => none
  | some o =>
    let top := (others.filter (fun a => a.objs.contains o)).foldl (fun (w : ArbReq) a => if above claims o a w then a else w) q
    some top.src

/-- R59: the request enters the tick's record. -/
def noteRequest (q : ArbReq) (s : State) : State :=
  let k := tickNow s
  { s with proto := { s.proto with tick := k, tickReqs := (if s.proto.tick = k then s.proto.tickReqs else []) ++ [q] } }

/-- R59: the node that a WRITE, STAGE or COMMIT of these objects loses to, if it loses, and the state that has seen it. -/
def arbitrate (slot : Nat) (r : Req) (objs : List (Nat × Nat)) (commit : Bool) (s : State) : Option (BitVec 16) × State :=
  let q := arbReq s slot r objs commit
  (lostTo (claimsOfTick s) (rivals s) q, noteRequest q s)

/-- R59: a COMMIT still to come in this tick ranks above this one. -/
def commitAhead (s : State) (q : ArbReq) : Bool := (comingAll s).any (fun a => a.commit && a.session != q.session && outranks a q)

end Sys2Proof.Machine
end

