-- ==== Sys2Proof/Machine/Server.lean ====
section
/-! DEFINITION. The object server's frame around every request: whether it runs, the session that a frame belongs to and its record of sequence
numbers (R43, R44, R50), the command queue (R54), and the response, sent at once or withheld (R476). -/

namespace Sys2Proof.Machine

/-! ### The server (R511, R526, R535, R552) -/

/-- The object server answers: after step 9 of a start, or in recovery mode, in Run and Idle, with core pair A out of reset. It stops with the
supervisor link (R548), but on a wheeler, which enters no class of its own (R554). -/
def serverUp (s : State) : Bool :=
  (s.start.step == 9 || s.start.recovery) && decide (s.power.state ≤ 1) && !s.power.down && !s.faults.resetN && !s.faults.refclkLost &&
    !s.faults.failed && (corePair s 0).inReset.isNone && (!s.axis.supervisorLost || isWheeler s)

/-- R535: in recovery mode only MGMT is up. -/
def hears (s : State) (p : Peer) : Bool := serverUp s && (!s.start.recovery || p.port == .mgmt)

/-- R142, R511: a frame for the object server: it is counted, and in Idle it starts the cores. -/
def frameIn (p : Peer) (s : State) : State :=
  let s := countPort p.port 0 s
  if s.power.state = 1 then { s with power := { s.power with coresRun := true, coreMsgAt := s.time.now } } else s

/-- R71: a flag of `Comm.Status`. -/
def commFlag (b : Nat) (s : State) : State := { s with proto := { s.proto with comm := s.proto.comm.set s.time.now b } }

/-! ### Responses (R53, R476) -/

/-- What a request leads to: its response (EVENT_ACK has none), the state, and what follows the response. -/
structure Answer where
  resp : Option Response
  state : State
  after : State → State := id

/-- A response without effect. -/
def refuse (op code : Nat) (s : State) : Answer := { resp := some ⟨op, code, .none⟩, state := s }

/-- Opcodes whose response waits for the wheeler (R476). -/
def waitsForWheeler (op : Nat) : Bool := op == 0x02 || op == 0x05 || op == 0x15

/-- R54, R476: the record that a response waits for: one of those sent from SEQ `first` on, or what an earlier response of the session
waits for. -/
def awaitedRecord (slot first op : Nat) (s : State) : Option (Nat × Nat) :=
  let sent := s.pair.pending.filter (fun p => decide (first ≤ p.seq) && (p.body.type == 3 || p.body.type == 4 || p.body.type == 5))
  match (if waitsForWheeler op then sent.getLast? else none), (s.proto.withheld.filter (fun w => w.slot == slot)).getLast? with
  | some p, _ => some (p.seq, s.time.now)
  | none, some w => some (w.record, w.since)
  | none, none => none

/-- A response goes out, or waits. `first` is the pair link's next SEQ from before the request. -/
def reply (slot seq first : Nat) (r : Response) (s : State) : State :=
  match awaitedRecord slot first r.opcode s with
  | some (rec, since) => { s with proto := { s.proto with withheld := s.proto.withheld ++ [⟨slot, (s.sess slot).id, seq, r, rec, since⟩] } }
  | none => sendResponse slot seq r s

/-- What a request has led to takes effect. -/
def settle (slot seq first : Nat) (a : Answer) : State :=
  a.after (match a.resp with
    | some r => reply slot seq first r a.state
    | none => a.state)

/-! ### COMMIT in its order (R59, R62) -/

/-- R511: in Idle, a COMMIT whose set holds `Job.Control` brings the device back to Run. -/
def wakeForJob (slot : Nat) (s : State) : State := if (s.sess slot).staging.any (fun w => w.idx == 0x4061) then returnToRun 0xFF s else s

/-- R62: a COMMIT is judged and, if it passes, accepted. -/
def runCommit (slot target : Nat) (lpos : Int) (src : BitVec 16) (s : State) : Answer :=
  let s := wakeForJob slot s
  let ws := (s.sess slot).staging
  match judgeCommit s ws target lpos src with
  | .refused c => refuse 0x05 c s
  | .failed f => { resp := some ⟨0x05, 0x0405, .failures f.length (f.take 32)⟩, state := s }
  | .passes L =>
    let c := commitOf s L ws (stagedNozzles ws) false 0 src target
    let s := acceptCommit c ws s
    { resp := some ⟨0x05, 0x0002, .accepted c.gen L⟩, state := s.setSess slot { s.sess slot with staging := [] } }

/-- A held COMMIT runs, unless its session has ended. -/
def runHeld (h : HeldCommit) (s : State) : State :=
  if (s.sess h.slot).phase ≠ .opened ∨ (s.sess h.slot).id ≠ h.session then s
  else settle h.slot h.seq s.pair.txSeq (runCommit h.slot h.target h.lpos h.src s)

/-- A held COMMIT as arbitration sees it. -/
def heldReq (h : HeldCommit) : ArbReq := ⟨h.session, h.role, h.src, [], true⟩

/-- R59: order of the COMMITs of a tick. -/
def insertHeld (h : HeldCommit) : List HeldCommit → List HeldCommit
  | [] => [h]
  | x :: r => if outranks (heldReq h) (heldReq x) then h :: x :: r else x :: insertHeld h r

/-- The held COMMITs that a test picks run, in their order. -/
def flushHeld (pick : HeldCommit → Bool) (s : State) : State :=
  let go := (s.proto.heldCommits.filter pick).foldl (fun l h => insertHeld h l) []
  forAll go runHeld { s with proto := { s.proto with heldCommits := s.proto.heldCommits.filter (fun h => !pick h) } }

/-- R59: the held COMMITs above which no COMMIT of the tick is still to come. -/
def flushReady (s : State) : State := flushHeld (fun h => !commitAhead s (heldReq h)) s

/-! ### A request (R43, R44, R54) -/

/-- R535: what the boot ROM answers to another request than those of recovery mode (log 34). -/
def barred (s : State) (recovery : Bool) : Bool := s.start.recovery && !recovery

/-- R44: the request enters the record of sequence numbers seen. -/
def noteSeq (slot seq : Nat) (s : State) : State :=
  let x := s.sess slot
  let high := max x.highSeq seq
  let k := tickNow s
  s.setSess slot { x with highSeq := high, seen := (seq :: x.seen).filter (fun n => decide (high ≤ n + 64)), cache := x.cache.filter (fun c => decide (high ≤ c.1 + 64))
                          reqTick := k, tickReqs := if x.reqTick = k then x.tickReqs + 1 else 1 }

/-- A new request of an open session runs: the 33rd of a tick finds the queue full (R54). -/
def serveRequest (slot : Nat) (r : Req) (op : Nat) (recovery : Bool) (f : Nat → State → Answer) (s : State) : State :=
  let s := flushHeld (fun h => h.slot == slot) (noteSeq slot r.seq.toNat s)
  let s := { s with proto := { s.proto with served := slot } }
  let a := if 32 < (s.sess slot).tickReqs then refuse op 0x0505 s
    else if barred s recovery then refuse op 0x0401 s
    else f slot s
  settle slot r.seq.toNat s.pair.txSeq a

/-- R44: an authenticated message of the session in a slot. -/
def sessionMessage (slot : Nat) (r : Req) (op : Nat) (recovery : Bool) (f : Nat → State → Answer) (s : State) : State :=
  let s := s.setSess slot { s.sess slot with lastHeard := s.time.now, peer := r.peer }
  let x := s.sess slot
  let n := r.seq.toNat
  if r.seq.getLsbD 63 then commFlag 2 s
  else if n + 64 < x.highSeq then commFlag 1 s
  else if x.seen.contains n then
    match x.cache.find? (fun c => c.1 == n) with
    | some c => emit (.response x.peer x.id r.seq c.2) s
    | none => s
  else serveRequest slot r op recovery f s

/-- R43, R50: a request of no open session is not authenticated; one of a session that has timed out is answered 0902h. -/
def strayRequest (r : Req) (op : Nat) (s : State) : State :=
  if s.proto.expired.contains r.sess then emit (.plain r.peer op 0x0902) s else commFlag 0 s

/-- A request of an open session; `f` runs it. -/
def request (dt : Nat) (r : Req) (op : Nat) (f : Nat → State → Answer) (s : State) (recovery : Bool := false) : State :=
  let s := tick dt s
  if !hears s r.peer then s
  else
    let s := frameIn r.peer s
    match openSlot s r.sess with
    | some k => sessionMessage k r op recovery f s
    | none => strayRequest r op s

/-- A request that needs a role (R590). -/
def needsRole (op role : Nat) (f : Nat → State → Answer) (k : Nat) (s : State) : Answer :=
  if (s.sess k).role < role then refuse op 0x0203 s else f k s

end Sys2Proof.Machine
end

