-- ==== Sys2Proof/Machine/Wire.lean ====
section
/-! DEFINITION. The octets of the object protocol: the header (R42), values (R51), event records (R69), the payloads of what the device sends
(R53, R55, R59, R62, R66, R597) and the sealed message (R41, R43). Where the spec names the contents of a payload and not their order, the
order here is the one of its sentence (assumption log 67). -/

namespace Sys2Proof.Machine

/-! ### Values (R51) -/

/-- Octets that a number of a type code takes; 8 for the types of 64 bits. -/
def typeSize (ty : Nat) : Nat :=
  if ty = tBool ∨ ty = tU8 ∨ ty = tI8 then 1
  else if ty = tU16 ∨ ty = tI16 then 2
  else if ty = tU32 ∨ ty = tI32 ∨ ty = tF32 then 4
  else 8

/-- A value as octets of its type. -/
def valBytes (ty : Nat) : Val → List Byte
  | .num v => intBytes (typeSize ty) v
  | .bytes b => (if ty = tStr then natBytes 1 b.length else natBytes 2 b.length) ++ b
  | .arr a => natBytes 2 a.length ++ a.flatMap (intBytes (typeSize (ty - tArr 0)))

/-- The type code with which a READ answers (R51). -/
def readType (idx sub : Nat) : Nat := ((objAt idx sub).map (·.ty)).getD 0

/-! ### Event records (R69) -/

/-- The 48 octets of an event record. -/
def eventBytes (r : EventRec) : List Byte :=
  natBytes 1 r.typ ++ natBytes 1 r.sev ++ natBytes 2 r.code ++ natBytes 4 r.rseq ++ natBytes 4 r.gen.toNat ++ natBytes 4 r.unit.toNat ++
    intBytes 8 (lposOf r.lpos) ++ intBytes 8 (r.time / 1000) ++ natBytes 2 r.handle.toNat ++ natBytes 2 r.count.toNat ++ natBytes 12 r.detail.toNat

/-! ### Payloads (R53) -/

/-- One entry of a READ's answer: its code, then type code, value and generation where the code is 0000h (R55, R65). -/
def readOutBytes (e : ReadOut) : List Byte :=
  natBytes 2 e.code ++ (match e.val with
    | some v => natBytes 1 e.ty ++ valBytes e.ty v ++ natBytes 4 e.gen.toNat
    | none => [])

/-- What follows the result code of a response. -/
def bodyBytes : RespBody → List Byte
  | .none => []
  | .position n => natBytes 2 n
  | .winner n => natBytes 2 n.toNat
  | .values g es => natBytes 4 g.toNat ++ es.flatMap readOutBytes
  | .accepted g L => natBytes 4 g.toNat ++ intBytes 8 (L * 65536)
  | .handle h => natBytes 2 h.toNat
  | .failures n l =>
    natBytes 2 n ++ natBytes 2 l.length ++ l.flatMap (fun f => natBytes 2 f.1 ++ natBytes 2 f.2.1 ++ natBytes 1 f.2.2 ++ natBytes 1 0)
  | .data b => b

/-- R53: every response payload begins with a 16-bit result code. -/
def respBytes (r : Response) : List Byte := natBytes 2 r.code ++ bodyBytes r.body

/-- R41: the longest payload of a message. -/
abbrev maxPayload : Nat := 1408

/-! ### Messages (R41 to R43) -/

/-- R42: the fields of a header. -/
structure Header where
  kind : Nat
  version : Nat
  flags : BitVec 16
  dst : BitVec 16
  src : BitVec 16
  sess : BitVec 32
  seq : BitVec 64
  opcode : Nat
  length : Nat
  deriving DecidableEq, Repr

/-- R42 FLAGS. -/
abbrev flagBcast : Nat := 15
abbrev flagResp : Nat := 14
abbrev flagPlain : Nat := 13

/-- The 24 octets of a header. -/
def headerBytes (h : Header) : List Byte :=
  natBytes 1 h.kind ++ natBytes 1 h.version ++ natBytes 2 h.flags.toNat ++ natBytes 2 h.dst.toNat ++ natBytes 2 h.src.toNat ++
    natBytes 4 h.sess.toNat ++ natBytes 8 h.seq.toNat ++ natBytes 1 h.opcode ++ natBytes 1 0 ++ natBytes 2 h.length

/-- Octets `i` to `i + n` of a message as a number. -/
def octets (b : List Byte) (i n : Nat) : Nat := beNat ((b.drop i).take n)

/-- R42: the header that a message of at least 24 octets begins with. -/
def headerOf (b : List Byte) : Header :=
  { kind := octets b 0 1, version := octets b 1 1, flags := BitVec.ofNat 16 (octets b 2 2), dst := BitVec.ofNat 16 (octets b 4 2)
    src := BitVec.ofNat 16 (octets b 6 2), sess := BitVec.ofNat 32 (octets b 8 4), seq := BitVec.ofNat 64 (octets b 12 8)
    opcode := octets b 20 1, length := octets b 22 2 }

/-- R43: the 96-bit nonce of a message. -/
def nonceOf (h : Header) : List Byte := natBytes 4 h.sess.toNat ++ natBytes 8 h.seq.toNat

/-- R41, R43: a message: in plain, or sealed under a key: the encrypted payload and the 16-byte tag, with the header authenticated too. -/
def messageBytes (key : List Byte) (h : Header) (payload : List Byte) : List Byte :=
  let h := { h with length := payload.length }
  headerBytes h ++ (if h.flags.getLsbD flagPlain then payload else Config.aesGcm key (nonceOf h) (headerBytes h) payload)

/-- The flags and the payload of what the object server sends; none for the outputs of other units. -/
def outputPayload : Output → Option (Nat × BitVec 16 × BitVec 32 × BitVec 64 × List Byte)
  | .response _ id seq r => some (r.opcode, 0x4000, id, seq, respBytes r)
  | .plain _ op code => some (op, 0x6000, 0, 0, natBytes 2 code)
  | .discover _ node serial stepping release key free enrol =>
    some (0x16, 0x6000, 0, 0, natBytes 2 0 ++ natBytes 2 node.toNat ++ natBytes 8 serial.toNat ++ natBytes 2 stepping.toNat ++ natBytes 4 release.toNat ++
      key ++ natBytes 1 free ++ natBytes 1 enrol.toNat)
  | .open2 _ id payload => some (0x11, 0x6000, id, 0, natBytes 2 0 ++ payload)
  | .open4 _ id seq code => some (0x13, 0x4000, id, seq, natBytes 2 code)
  | .event _ id seq rs => some (0x0D, 0, id, seq, rs.flatMap eventBytes)
  | .block _ id seq handle off data => some (0x15, 0, id, seq, natBytes 2 handle.toNat ++ natBytes 4 off ++ data)
  | _ => none

/-- The octets of a message to a host: `own` and `host` are the node addresses. -/
def outputBytes (own host : BitVec 16) (key : List Byte) (o : Output) : Option (List Byte) :=
  (outputPayload o).map (fun x => messageBytes key ⟨2, 1, x.2.1, host, own, x.2.2.1, x.2.2.2.1, x.1, 0⟩ x.2.2.2.2)

/-! ### Which message a row stands for (R53) -/

/-- R53: the rows that are WRITEs of one object. -/
def isObjectWrite : Instr → Bool
  | .axisPreset .. | .indexArm .. | .encReenable .. | .sourceRequest .. | .hostSpeedLimit .. | .streamEnable .. | .streamReleaseTo ..
  | .traceEnable .. | .tracePower .. | .pressRefuse .. | .stopClear .. | .timeRoleWrite .. | .txStampPop .. | .capturePop .. | .statusClear ..
  | .storePartition .. | .errorLogClear .. | .defectLogClear .. => true
  | _ => false

/-- R53, R66: the rows that are a CMD_START of a command. -/
def isCommand : Instr → Bool
  | .enterIdle .. | .enterSleep .. | .enterDeepSleep .. | .enterOff .. | .returnToRun .. | .storeFill .. | .storeCopy .. | .integInject ..
  | .integReadRaw .. | .rowRepair .. | .retire .. | .encode .. | .thresholdLoad .. | .nozzleTableWrite .. | .nozzleTableRead ..
  | .nozzleTableSave .. | .nozzleCountReset .. | .traceBringUp .. | .bridgeAccess .. | .inspTableLoad .. | .frameHold .. | .cciAccess ..
  | .inspStatRead .. | .timeAcceptJump .. | .ptpSend .. | .pdStart .. | .pdStop .. | .pair .. | .unpair .. | .handover .. | .imageWrite ..
  | .imageActivate .. | .imageConfirm .. | .faultClear .. | .unknownCommand .. => true
  | _ => false

/-- R53: the OPCODE of the message that a row stands for. -/
def opcodeOf (i : Instr) : Option Nat :=
  if isObjectWrite i then some 0x02
  else if isCommand i then some 0x07
  else match i with
    | .read .. => some 0x01
    | .write .. => some 0x02
    | .stage .. => some 0x03
    | .check .. => some 0x04
    | .commit .. => some 0x05
    | .discard .. => some 0x06
    | .cmdCancel .. => some 0x08
    | .claim .. => some 0x09
    | .release .. => some 0x0A
    | .subscribe .. => some 0x0B
    | .unsubscribe .. => some 0x0C
    | .eventAck .. => some 0x0E
    | .keepalive .. => some 0x0F
    | .open1 .. => some 0x10
    | .open3 .. => some 0x12
    | .sessionClose .. => some 0x14
    | .blockData .. => some 0x15
    | .discover .. => some 0x16
    | .unknownOpcode _ _ op => some op
    | _ => none

end Sys2Proof.Machine
end

