-- ==== Sys2Proof/Machine/Rx.lean ====
section
/-! DEFINITION. Received frames that reach no session as requests (R40 to R46, R139 to R142, R163): the address filter, the sorting of a frame,
and what the frame counts as; the groups that a port has joined. A frame that passes every check here is a row of its own. -/

namespace Sys2Proof.Machine

/-! ### A port's addresses (R139, R140, R163, R164) -/

/-- A port's MAC address since the last cold start, as a number. -/
def macOf (s : State) (n : Nat) : Nat :=
  match tget [] s.start.macs n with
  | [] => beNat (defaultMac n)
  | b => beNat b

def ipv4Of (s : State) (n : Nat) : Nat := cfgN s 0x1021 n
def ipv6Of (s : State) (n : Nat) : Nat := beNat (Val.oct (baseVal s 0x1023 n).1)

/-- The multicast MAC addresses of an IPv4 and of an IPv6 group (PRESUMED, assumption log 68). -/
def groupMac4 (g : Nat) : Nat := 0x01005E000000 + g % 2 ^ 23
def groupMac6 (g : Nat) : Nat := 0x333300000000 + g % 2 ^ 32

/-- The groups that every IPv6 node is in: all nodes, and the solicited-node group of its address (PRESUMED, assumption log 68). -/
def nodeGroups6 (s : State) (n : Nat) : List Nat := [0xFF02 * 2 ^ 112 + 1, 0xFF02 * 2 ^ 112 + 0x1FF000000 + ipv6Of s n % 2 ^ 24]

/-- PTP's multicast addresses, which the time unit listens to (PRESUMED, assumption log 68). -/
abbrev ptpMacs : List Nat := [0x011B19000000, 0x0180C200000E, groupMac4 0xE0000181, groupMac4 0xE000006B]

/-- R139: the address filter. -/
def passesFilter (s : State) (n : Nat) (f : RxFrame) : Bool :=
  f.dst == macOf s n || f.dst == 0xFFFFFFFFFFFF || ptpMacs.contains f.dst || (groups4 s n).any (fun g => groupMac4 g == f.dst) ||
    (groups6 s n ++ nodeGroups6 s n).any (fun g => groupMac6 g == f.dst)

/-- R140: the IP packet is for this port: its address, a group it has joined, or a broadcast. -/
def ipForPort (s : State) (n : Nat) (h : IpHeader) : Bool :=
  if h.v6 then h.dst == ipv6Of s n || (groups6 s n ++ nodeGroups6 s n).contains h.dst
  else
    let host := 2 ^ (32 - cfgN s 0x1022 n)
    ipv4Of s n != 0 && (h.dst == ipv4Of s n || h.dst == 0xFFFFFFFF || (h.dst / host == ipv4Of s n / host && h.dst % host == host - 1) ||
      (groups4 s n).contains h.dst)

/-- R140: a packet that the port's IP layer takes. -/
def ipAccepted (s : State) (n : Nat) (h : IpHeader) : Bool :=
  !h.fragment && !h.extended && ipForPort s n h &&
    (h.protocol != 17 || h.checksum == .good || (h.checksum == .absent && !h.v6))

/-! ### Sorting (R141) -/

/-- Where a frame goes. -/
inductive Sorted where
  | stream
  | objects
  | time
  | responder
  /-- R40: a frame of EtherType 88B5h, or a datagram to the object port, with another KIND. -/
  | kind
  | other
  deriving DecidableEq, Repr

/-- R40, R141: the first rule that matches. A query of a protocol that the port answers may be a broadcast or carry options. -/
def sortFrame (s : State) (f : RxFrame) : Sorted :=
  let n := match f.port with | .net0 => 0 | .net1 => 1 | .mgmt => 2
  let kind := (f.payload.getD 0 0).toNat
  if f.etherType = 0x88B5 then (if kind = 1 then .stream else if kind = 2 then .objects else .kind)
  else if f.etherType = 0x88F7 then .time
  else if f.etherType = 0x0806 then .responder
  else match f.ip with
    | none => .other
    | some h =>
      if h.protocol = 2 ∨ h.protocol = 58 then .responder
      else if !ipAccepted s n h then .other
      else if h.protocol = 1 then .responder
      else if h.protocol ≠ 17 then .other
      else if h.dstPort = s.start.streamUdpPort then .stream
      else if h.dstPort = s.start.udpPort then (if kind = 2 then .objects else .kind)
      else if h.dstPort = 319 ∨ h.dstPort = 320 then .time
      else .other

/-! ### A message of the object protocol (R41 to R46) -/

/-- The sender of a frame (R45). -/
def framePeer (f : RxFrame) : Peer :=
  match f.ip with
  | some h => { port := f.port, addr := h.src, mac := f.src, encap := if h.v6 then .udp6 h.srcPort else .udp4 h.srcPort }
  | none => { port := f.port, addr := 0, mac := f.src }

/-- The request header that a row of a request would carry. -/
def frameReq (f : RxFrame) : Req :=
  let h := headerOf f.payload
  ⟨h.sess, h.seq, h.src, (framePeer f)⟩

/-- R41: the frame's length agrees with LENGTH; a frame of EtherType 88B5h may be padded to the 64 octets of the shortest frame (DEDUCED from
R139, assumption log 68). -/
def lengthAgrees (f : RxFrame) (h : Header) : Bool :=
  let n := 24 + h.length + (if h.flags.getLsbD flagPlain then 0 else 16)
  decide (24 ≤ f.payload.length) && decide (h.length ≤ maxPayload) &&
    (f.payload.length == n || (f.ip.isNone && decide (n ≤ f.payload.length) && decide (f.payload.length ≤ 46)))

/-- R43, R44: a message that authenticates is heard, even one that is not executed. -/
def heard (r : Req) (s : State) : State :=
  match openSlot s r.sess with
  | some k => s.setSess k { s.sess k with lastHeard := s.time.now, peer := r.peer }
  | none => s

/-- R43: the message verifies under the key of an open session, or of one that is opening and awaits OPEN_3. -/
def authentic (s : State) (f : RxFrame) (h : Header) : Bool :=
  f.tagOk && ((openSlot s h.sess).isSome || (h.opcode == 0x12 && (slotOf s h.sess).isSome))

/-- R41 to R46: a message that is not a request to run: malformed, not for this node, unauthenticated, a forbidden broadcast, or a SEQ of the
device's own series. Any other message is a row of its own, and nothing happens here. -/
def discardMessage (f : RxFrame) (s : State) : State :=
  let h := headerOf f.payload
  let r := frameReq f
  let plain := h.flags.getLsbD flagPlain
  let bcast := h.flags.getLsbD flagBcast
  if !lengthAgrees f h then commFlag 2 s
  else if !bcast && h.dst != ownNode s then s
  else if plain then (if h.opcode = 0x10 ∨ h.opcode = 0x11 ∨ h.opcode = 0x16 then s else commFlag 0 s)
  else if (slotOf s h.sess).isNone then strayRequest r h.opcode s
  else if !authentic s f h then commFlag 0 s
  else if bcast then
    match openSlot s h.sess with
    | some k => sessionMessage k r h.opcode true (fun _ s => refuse h.opcode 0x0105 s) s
    | none => s
  else if h.version ≠ 1 then commFlag 2 s
  else if h.seq.getLsbD 63 then commFlag 2 (heard r s)
  else s

/-- R40, R139 to R142: what a received frame counts as. -/
def discardFrame (f : RxFrame) (s : State) : State :=
  let n := peerNum (framePeer f)
  if !f.fcsOk then countPort f.port 1 s
  else
    let t := countPort f.port 0 s
    if 1 < f.tags.length ∨ (if f.tags.isEmpty then 9018 else 9022) < f.length then countPort f.port 4 t
    else if f.etherType = 0x8808 then countPort f.port 5 t
    else if !passesFilter s n f then t
    else match sortFrame s f with
      | .other => countPort f.port 6 t
      | .kind => if hears s (framePeer f) then commFlag 2 t else t
      | .objects => if hears s (framePeer f) then discardMessage f (frameIn (framePeer f) s) else t
      | .stream | .time | .responder => t

/-- R142: RS-FEC codewords corrected and uncorrectable; MGMT has none. -/
def countCodewords (n : Nat) (fec : Codewords) (s : State) : State :=
  if n = 2 then s
  else
    let p := s.port n
    s.setPort n { p with stats := tmod 0 (tmod 0 p.stats 2 (· + BitVec.ofNat 64 fec.fixed)) 3 (· + BitVec.ofNat 64 fec.bad) }

/-- FRAME_DISCARD (R141). -/
def execFrameDiscard (dt : Nat) (f : RxFrame) (fec : Codewords) (s : State) : Host.Outcome State Fault Refusal :=
  let s := tick dt s
  guardOk (receiverRuns s && !s.power.down && !s.faults.resetN) (fun s => discardFrame f (countCodewords (peerNum (framePeer f)) fec s)) s

/-! ### The protocol responder (R140) -/

/-- R140: an answer to a query, or the groups that a report names; none where the port answers nothing. -/
def queryAnswer (s : State) (n : Nat) (q : Asked) : Option (Nat × List Nat) :=
  let report := fun (k : Nat) (gs : List Nat) =>
    let gs := if q.target = 0 then gs else gs.filter (· == q.target)
    if gs.isEmpty then none else some (k, gs)
  match q.query with
  | .arp => if ipv4Of s n ≠ 0 ∧ q.target = ipv4Of s n then some (0, []) else none
  | .icmp => if ipv4Of s n ≠ 0 ∧ q.target = ipv4Of s n then some (1, []) else none
  | .icmpv6 => if q.target = ipv6Of s n then some (2, []) else none
  | .igmp => if ipv4Of s n ≠ 0 then report 3 (groups4 s n) else none
  | .mld => report 4 (groups6 s n)

/-- PROTOCOL_QUERY (R140): a query for one of the port's addresses or groups is answered. -/
def execProtocolQuery (dt : Nat) (peer : Peer) (q : Asked) (s : State) : Host.Outcome State Fault Refusal :=
  let s := tick dt s
  guardOk (receiverRuns s && !s.power.down && !s.faults.resetN) (fun s =>
    let t := countPort peer.port 0 s
    match queryAnswer s (peerNum peer) q with
    | some (k, gs) => emit (.protocolReply peer k gs) t
    | none => t) s

end Sys2Proof.Machine
end

