-- ==== Sys2Proof/Machine/SessionRows.lean ====
section
/-! DEFINITION. The meanings of the rows that open, keep and end sessions (R46, R48 to R50), claims (R57), event queues (R68, R70), handles
(R66, R67), and of the messages without one (R46, R53). -/

namespace Sys2Proof.Machine

/-! ### Claims (R57, R58) -/

def runClaim (first count lease k : Nat) (s : State) : Answer :=
  let x := s.sess k
  let c := claimCode s (liveClaims s) x.role first count lease
  if c ≠ 0 then refuse 0x09 c s
  else { resp := some ⟨0x09, 0, .none⟩, state := { s with proto := { s.proto with claims := s.proto.claims ++ [claimOf s x.id x.role first count lease] } } }

/-- CLAIM (R57). -/
def execClaim (dt : Nat) (r : Req) (first count lease : Nat) (s : State) : Host.Outcome State Fault Refusal :=
  ok (request dt r 0x09 (runClaim first count lease) s)

/-- R595: an index of the F000h area is closed to a session below service role. -/
def runRelease (first k : Nat) (s : State) : Answer :=
  let x := s.sess k
  if 0xF000 ≤ first ∧ x.role < 3 then refuse 0x0A 0x0203 s
  else { resp := some ⟨0x0A, 0, .none⟩, state := { s with proto := { s.proto with claims := dropClaim x.id first s.proto.claims } } }

/-- RELEASE (R57). -/
def execRelease (dt : Nat) (r : Req) (first : Nat) (s : State) : Host.Outcome State Fault Refusal := ok (request dt r 0x0A (runRelease first) s)

/-- CLAIM_LEASE_EXPIRY (R57): the claims from this index whose lease has run out. -/
def execClaimLeaseExpiry (dt : Nat) (first : Nat) (s : State) : Host.Outcome State Fault Refusal :=
  let s := tick dt s
  ok { s with proto := { s.proto with claims := s.proto.claims.filter (fun c => !(c.first == first && decide (c.expires ≤ s.time.now))) } }

/-! ### Event queues (R68, R70) -/

/-- R68: the ranges and the least severity of the session's queue. That a count of ranges or a severity out of range answers 0303h is a
DESIGN CHOICE (assumption log 78). -/
def runSubscribe (ranges : List (Nat × Nat)) (minSev k : Nat) (s : State) : Answer :=
  if ranges.isEmpty ∨ 8 < ranges.length ∨ 3 < minSev then refuse 0x0B 0x0303 s
  else
    let x := s.sess k
    { resp := some ⟨0x0B, 0, .none⟩, state := s.setSess k { x with queue := some { x.queue.getD {} with subscribed := true, ranges := ranges, minSev := minSev } } }

/-- SUBSCRIBE (R68). -/
def execSubscribe (dt : Nat) (r : Req) (ranges : List (Nat × Nat)) (minSev : Nat) (s : State) : Host.Outcome State Fault Refusal :=
  ok (request dt r 0x0B (runSubscribe ranges minSev) s)

def runUnsubscribe (k : Nat) (s : State) : Answer :=
  let x := s.sess k
  { resp := some ⟨0x0C, 0, .none⟩, state := s.setSess k { x with queue := x.queue.map (fun q => { q with subscribed := false, ranges := [], minSev := 0 }) } }

/-- UNSUBSCRIBE (R68). -/
def execUnsubscribe (dt : Nat) (r : Req) (s : State) : Host.Outcome State Fault Refusal := ok (request dt r 0x0C runUnsubscribe s)

/-- R70: a queue whose pushing had stopped resumes from its oldest unacknowledged record. -/
def resumeQueue (q : EventQueue) : EventQueue :=
  if q.stopped then { q with stopped := false, sends := [], pushed := ackedRseq q } else q

/-- R70: pushing goes on. -/
def resumePush (k : Nat) (s : State) : State :=
  let x := s.sess k
  pushQueue k (s.setSess k { x with queue := x.queue.map resumeQueue })

/-- R67: the handle of an acknowledged completion record is freed. -/
def freeAcked (r : EventRec) (s : State) : State :=
  let slot := r.handle.toNat % 256
  if r.typ = 1 ∧ (s.handle slot).phase = .done ∧ handleWord s slot = r.handle then freeHandle slot s else s

/-- R67, R70: the records up to a sequence number are acknowledged. -/
def ackEvents (rseq k : Nat) (s : State) : State :=
  let x := s.sess k
  match x.queue with
  | none => s
  | some q =>
    let rest := { q with records := q.records.filter (fun r => decide (rseq < r.rseq)), sends := q.sends.filter (fun e => decide (rseq < e.1)) }
    let q' := queueOverflow rest (eventRec s 0 0 0 0 none 0)
    let s := forAll (q.records.filter (fun r => decide (r.rseq ≤ rseq))) freeAcked s
    resumePush k (s.setSess k { x with queue := some q' })

/-- EVENT_ACK (R70): it has no response. -/
def execEventAck (dt : Nat) (r : Req) (rseq : Nat) (s : State) : Host.Outcome State Fault Refusal :=
  ok (request dt r 0x0E (fun k s => { resp := none, state := ackEvents rseq k s }) s)

/-- KEEPALIVE (R50, R70). -/
def execKeepalive (dt : Nat) (r : Req) (s : State) : Host.Outcome State Fault Refusal :=
  ok (request dt r 0x0F (fun k s => { resp := some ⟨0x0F, 0, .none⟩, state := s, after := resumePush k }) s (recovery := true))

/-- R70: the records sent and not acknowledged go out again; after five times pushing stops. -/
def resendEvents (k : Nat) (q : EventQueue) (s : State) : State :=
  let x := s.sess k
  let sent := (q.records.filter (fun r => decide (r.rseq ≤ q.pushed))).map (·.rseq)
  if sent.any (fun n => decide (5 ≤ tget 0 q.sends n)) then s.setSess k { x with queue := some { q with stopped := true } }
  else
    let recs := q.records.filter (fun r => decide (r.rseq ≤ q.pushed))
    let chunks := (List.range ((recs.length + 28) / 29)).map (fun i => (recs.drop (29 * i)).take 29)
    let q' := { q with sends := sent.foldl (fun t n => tadd t n 1) q.sends, lastPush := s.time.now }
    let s := s.setSess k { x with queue := some q', devSeq := x.devSeq + chunks.length }
    forAll (chunks.zip (List.range chunks.length)) (fun c s => emit (.event x.peer x.id (BitVec.ofNat 64 (2 ^ 63 + x.devSeq + c.2)) c.1) s) s

/-- EVENT_RESEND (R70): 20 ms after the last sending. -/
def execEventResend (dt : Nat) (slot : Fin 8) (s : State) : Host.Outcome State Fault Refusal :=
  let s := tick dt s
  match (s.sess slot).queue with
  | none => ok s
  | some q =>
    guardOk (!q.stopped && q.records.any (fun r => decide (r.rseq ≤ q.pushed)) && decide (q.lastPush + 20 * ms ≤ s.time.now) && serverUp s)
      (resendEvents slot q) s

/-! ### Opening (R48, R49) -/

/-- R54: the lowest free session slot. -/
def freeSession (s : State) : Option Nat := (List.range 8).find? (fun i => (s.sess i).phase == .free)

/-- R48: the keys of a session, host to device and device to host: HKDF of the ECDH secret, salted with the host random and the device random. -/
def sessionKeys (n : Nat) (ephemeral hostRandom : List Byte) : List Byte × List Byte :=
  let k := Config.hkdf (Config.ecdh n ephemeral) (hostRandom ++ Config.deviceRandom n)
  (k.take 32, (k.drop 32).take 32)

/-- R48: OPEN_1 is refused in plain, or takes a slot and is answered by OPEN_2. A drawn SESSION of 0 counts as 1. -/
def openSession (peer : Peer) (src : BitVec 16) (version role : Nat) (ephemeral credential hostRandom : List Byte) (s : State) : State :=
  if version ≠ 1 then emit (.plain peer 0x10 0x0102) s
  else match freeSession s with
    | none => emit (.plain peer 0x10 0x0501) s
    | some k =>
      let n := s.model.free
      let drawn := Config.sessionId n
      let id := if drawn = 0 then 1 else drawn
      let asked := natBytes 1 role ++ ephemeral ++ credential ++ hostRandom
      let own := Config.ephemeral n ++ Config.deviceRandom n
      let answer := own ++ Config.sign (asked ++ own)
      let keys := sessionKeys n ephemeral hostRandom
      let x : Session := { phase := .opening, id := id, reqRole := role, node := src, peer := peer, credential := credential, transcript := asked ++ answer
                           keyIn := keys.1, keyOut := keys.2, openedAt := s.time.now }
      emit (.open2 peer id answer) ({ s with model := { s.model with free := n + 1 } }.setSess k x)

/-- OPEN_1 (R48). -/
def execOpen1 (dt : Nat) (peer : Peer) (src : BitVec 16) (version role : Nat) (ephemeral credential hostRandom : List Byte) (s : State) :
    Host.Outcome State Fault Refusal :=
  let s := tick dt s
  guardOk (hears s peer) (fun s => openSession peer src version role ephemeral credential hostRandom (frameIn peer s)) s

/-- R49: an entry of `Comm.Credential`. -/
def credentialEntry (s : State) (sub : Nat) : List Byte := Val.oct (baseVal s 0x1030 sub).1

/-- R49: subindices 1 to 32. -/
def credentialSubs : List Nat := (List.range 32).map (· + 1)

/-- R49: the highest role for which a credential stands in the table. -/
def enrolledRole (s : State) (credential : List Byte) : Option Nat :=
  let hits := credentialSubs.filter (fun j => (credentialEntry s j).take 48 == Config.sha384 credential && !(credentialEntry s j).isEmpty)
  match hits.map (fun j => ((credentialEntry s j).getD 48 0).toNat) with
  | [] => none
  | r :: l => some (l.foldl max r)

/-- R48, R49: how OPEN_3 ends: its code, and the subindex at which the credential is enrolled. -/
def openVerdict (s : State) (x : Session) (sigOk service : Bool) : Nat × Option Nat :=
  if !sigOk ∨ 3 < x.reqRole ∨ (s.start.recovery ∧ (!service ∨ x.reqRole ≠ 3)) then (0x0205, none)
  else if service then (0, none)
  else match enrolledRole s x.credential with
    | some r => if x.reqRole ≤ r then (0, none) else (0x0205, none)
    | none =>
      if x.peer.port ≠ .mgmt ∨ x.reqRole ≠ 2 ∨ hasIntegrator s then (0x0205, none)
      else if !enrolOpen s then (0x0206, none)
      else match credentialSubs.find? (fun j => (credentialEntry s j).isEmpty) with
        | some j => (0, some j)
        | none => (0x0003, none)

/-- R49: a credential is enrolled as an integrator entry. -/
def enrol (j : Nat) (credential : List Byte) (s : State) : State :=
  noteStored 0x1030 (setCfg s 0x1030 j (.bytes (Config.sha384 credential ++ [2])) (datumGen s))

/-- R48: OPEN_4: the session is open, or its slot is free again. -/
def finishOpen (k : Nat) (r : Req) (sigOk service : Bool) (s : State) : State :=
  let x := s.sess k
  let v := openVerdict s x sigOk service
  if v.1 = 0 ∨ v.1 = 3 then
    let s := match v.2 with | some j => enrol j x.credential s | none => s
    let n := r.seq.toNat
    emit (.open4 r.peer x.id r.seq v.1) (s.setSess k
      { x with phase := .opened, role := x.reqRole, peer := r.peer, lastHeard := s.time.now, highSeq := n, seen := [n], cache := [(n, ⟨0x13, v.1, .none⟩)] })
  else emit (.open4 r.peer x.id r.seq v.1) (s.setSess k {})

/-- R48: the slot in which an OPEN_3 is awaited. -/
def openingSlot (s : State) (id : BitVec 32) : Option Nat :=
  (List.range 8).find? (fun i => (s.sess i).phase == .opening && (s.sess i).id == id && decide (s.time.now < (s.sess i).openedAt + sec))

/-- OPEN_3 (R48, R49). One for a session that is open already is a repeat, or is refused with 0401h. -/
def execOpen3 (dt : Nat) (r : Req) (sigOk service : Bool) (s : State) : Host.Outcome State Fault Refusal :=
  let t := tick dt s
  match openingSlot t r.sess with
  | some k =>
    if r.seq.getLsbD 63 then guardOk (hears t r.peer) (fun s => commFlag 2 (frameIn r.peer s)) t
    else guardOk (hears t r.peer) (fun s => finishOpen k r sigOk service (frameIn r.peer s)) t
  | none => ok (request dt r 0x12 (fun _ s => refuse 0x13 0x0401 s) s (recovery := true))

/-- OPEN_TIMEOUT (R48): OPEN_3 has not come within 1 s. -/
def execOpenTimeout (dt : Nat) (slot : Fin 8) (s : State) : Host.Outcome State Fault Refusal :=
  let s := tick dt s
  guardOk ((s.sess slot).phase == .opening && decide ((s.sess slot).openedAt + sec ≤ s.time.now)) (fun s => s.setSess slot {}) s

/-- ENROL_WINDOW_END (R49). -/
def execEnrolWindowEnd (dt : Nat) (s : State) : Host.Outcome State Fault Refusal :=
  let s := tick dt s
  guardOk (decide (s.time.coldStart + 600 * sec ≤ s.time.now)) (fun s => { s with proto := { s.proto with enrolClosed := true } }) s

/-! ### Ending (R50) -/

/-- SESSION_CLOSE (R50). -/
def execSessionClose (dt : Nat) (r : Req) (s : State) : Host.Outcome State Fault Refusal :=
  ok (request dt r 0x14 (fun k s => { resp := some ⟨0x14, 0, .none⟩, state := s, after := endSession k }) s (recovery := true))

/-- R50: the session has expired. -/
def expireSession (k : Nat) (s : State) : State :=
  endSession k { s with proto := { s.proto with expired := (s.sess k).id :: s.proto.expired } }

/-- SESSION_TIMEOUT (R50). -/
def execSessionTimeout (dt : Nat) (slot : Fin 8) (s : State) : Host.Outcome State Fault Refusal :=
  let s := tick dt s
  guardOk ((s.sess slot).phase == .opened && decide ((s.sess slot).lastHeard + cfgN s 0x1011 0 * sec ≤ s.time.now)) (expireSession slot) s

/-! ### Handles (R66, R67) -/

/-- R254: an encode whose output is not published leaves zeros in the first 64 bytes of its destination; its other bytes are undefined: free
values. -/
def voidStripe (args : List Nat) (s : State) : State :=
  let dest := args.getD 9 0
  let rest : List Byte := (List.range (args.getD 10 64 - 64)).map (fun i => BitVec.ofInt 8 (Config.freeOf 254 [(dest + 64 + i : Nat), s.time.now]))
  writeUnits (args.getD 11 2) (dest / 64) (List.replicate 64 0 ++ rest) s

/-- What a cancelled operation does at its safe point (R67, R254). -/
def cancelOp (slot : Nat) (s : State) : State :=
  match (s.handle slot).op with
  | .encode args => cancelHandle slot (voidStripe args s)
  | _ => cancelHandle slot s

/-- R66: a handle word names a handle in use. -/
def namesHandle (s : State) (w : BitVec 16) : Bool := (s.handle (w.toNat % 256)).phase != .free && handleWord s (w.toNat % 256) == w

def runCancel (w : BitVec 16) (k : Nat) (s : State) : Answer :=
  let slot := w.toNat % 256
  if !namesHandle s w then refuse 0x08 0x0407 s
  else if (s.sess k).role < (s.handle slot).role then refuse 0x08 0x0203 s
  else { resp := some ⟨0x08, 0, .none⟩, state := s, after := fun s => if (s.handle slot).phase = .running then cancelOp slot s else s }

/-- CMD_CANCEL (R67). -/
def execCmdCancel (dt : Nat) (r : Req) (handle : BitVec 16) (s : State) : Host.Outcome State Fault Refusal := ok (request dt r 0x08 (runCancel handle) s)

/-- HANDLE_EXPIRY (R67). -/
def execHandleExpiry (dt : Nat) (slot : Fin 256) (s : State) : Host.Outcome State Fault Refusal :=
  let s := tick dt s
  guardOk ((s.handle slot).phase == .done && (s.handle slot).owner == 0 && decide ((s.handle slot).doneAt + 60 * sec ≤ s.time.now)) (freeHandle slot) s

/-! ### Frames outside a session -/

/-- R46, R535: the reply to DISCOVER. -/
def discoverReply (p : Peer) (s : State) : State :=
  let free := ((List.range 8).filter (fun i => (s.sess i).phase == .free)).length
  emit (.discover p (ownNode s) Config.serial stepping (firmwareRelease s) Config.publicKey (if s.start.recovery then free + 128 else free) (enrolOpen s)) s

/-- R46: the delay of the reply. -/
def discoverDelay (s : State) : Nat := (ownNode s).toNat % 64 * 100 * us

/-- DISCOVER (R46). -/
def execDiscover (dt : Nat) (peer : Peer) (s : State) : Host.Outcome State Fault Refusal :=
  let s := tick dt s
  guardOk (hears s peer) (fun s =>
    let s := frameIn peer s
    { s with proto := { s.proto with discover := s.proto.discover ++ [⟨peer, s.time.now + discoverDelay s⟩] } }) s

/-- DISCOVER_REPLY (R46): the oldest reply whose delay has passed. -/
def execDiscoverReply (dt : Nat) (s : State) : Host.Outcome State Fault Refusal :=
  let s := tick dt s
  match s.proto.discover with
  | [] => ok s
  | d :: r => guardOk (decide (d.due ≤ s.time.now) && hears s d.peer) (fun s => discoverReply d.peer { s with proto := { s.proto with discover := r } }) s

/-- UNKNOWN_OPCODE (R53). -/
def execUnknownOpcode (dt : Nat) (r : Req) (opcode : Nat) (s : State) : Host.Outcome State Fault Refusal :=
  ok (request dt r opcode (fun _ s => refuse opcode 0x0101 s) s)

end Sys2Proof.Machine
end

