-- ==== Sys2Proof/Machine/Commands.lean ====
section
/-! DEFINITION. CMD_START (R66, R190, R590): how every command is judged, started and answered, and the commands of the page store, of the
stored-data integrity and of the encoder. -/

namespace Sys2Proof.Machine

/-! ### Starting a command (R66, R482, R590) -/

/-- R192: the operation needs a mover channel. -/
def needsMover (o : Op) : Bool :=
  match o with
  | .storeFill .. => true
  | .storeCopy .. => true
  | .thresholdLoad .. => true
  | .encode _ => true
  | .retire .. => true
  | _ => false

/-- A command: its index and role, what it does, why it is refused (0 for not), what its start does, and what follows the answer. -/
structure Command where
  idx : Nat
  role : Nat
  op : Op
  bad : State → Nat := fun _ => 0
  begin : Nat → State → State := fun _ s => s
  after : Nat → State → State := fun _ s => s

/-- R19, R72: a command that the supervisor die's sequencer or OTP carries out (assumption log 69). -/
def supervisorRuns (i : Nat) : Bool := i == 0xC0A0 || i == 0xC0B2

/-- A CMD_START is judged: role, lead, the command's own refusals, a mover channel, a handle; then it is answered 0001h with its handle. -/
def runCommand (c : Command) (k : Nat) (s : State) : Answer :=
  if (s.sess k).role < c.role then refuse 0x07 0x0203 s
  else if isWheeler s && !chipLocalCmd c.idx then refuse 0x07 0x040B s
  else
    let n := c.bad s
    if n ≠ 0 then refuse 0x07 n s
    else if s.axis.supervisorLost && supervisorRuns c.idx then refuse 0x07 0x0802 s
    else match freeSlot s with
      | none => refuse 0x07 0x0504 s
      | some h =>
        if needsMover c.op && decide (96 ≤ moversUsed s) then refuse 0x07 0x0504 s
        else
          let s := c.begin h (startHandle k c.idx c.op h s)
          { resp := some ⟨0x07, 0x0001, .handle (handleWord s h)⟩, state := s, after := c.after h }

/-- The row of a command. -/
def command (dt : Nat) (r : Req) (c : Command) (s : State) (recovery : Bool := false) : Host.Outcome State Fault Refusal :=
  ok (request dt r 0x07 (runCommand c) s recovery)

/-- A command that does its work at once and completes with success. -/
def doneAtOnce (f : State → State) (h : Nat) (s : State) : State := completeHandle h 0 0 (f s)

/-- The first refusal that applies. -/
def firstOf : List (Bool × Nat) → Nat
  | [] => 0
  | (c, n) :: r => if c then n else firstOf r

/-- UNKNOWN_COMMAND (R66, R595). -/
def execUnknownCommand (dt : Nat) (r : Req) (idx : Nat) (s : State) : Host.Outcome State Fault Refusal :=
  ok (request dt r 0x07 (fun k s => refuse 0x07 (if 0xF000 ≤ idx ∧ (s.sess k).role < 3 then 0x0203 else 0x0301) s) s)

/-! ### Page store (R190, R192) -/

/-- R190: a store command while the store is in self-refresh; with no store at all its unit has failed. -/
def storeBarred (s : State) : Nat := if s.store.state = 3 then 0x0401 else if s.store.state = 0 then 0x0801 else 0

/-- R192, R252: a destination range touches an enabled ring or, while the job is not IDLE, the dot delay or threshold partitions. -/
def rangeBusy (s : State) (a n : Nat) : Bool :=
  ringNums.any (fun m => (s.ring m).enable && touches a n (ringBase s m) (ringSize s m)) ||
    (s.gait.job != 0 && [2, 3].any (fun p => touches a n (purposeRange s p).1 (purposeRange s p).2))

/-- R192: service class 1 WORK or 2 BACKGROUND. -/
def badClass (c : Nat) : Bool := c != 1 && c != 2

/-- STORE_FILL (R192). -/
def execStoreFill (dt : Nat) (r : Req) (address length : Nat) (pattern : BitVec 64) (cls : Nat) (s : State) : Host.Outcome State Fault Refusal :=
  command dt r { idx := 0xC030, role := 2, op := .storeFill address length pattern cls
                 bad := fun s => firstOf [(storeBarred s != 0, storeBarred s), (address % 64 != 0 || length % 64 != 0 || badClass cls, 0x0303),
                                          (decide (storeBytesTotal < address + length), 0x0303), (rangeBusy s address length, 0x0401)] } s

/-- STORE_COPY (R192). -/
def execStoreCopy (dt : Nat) (r : Req) (source dest length cls : Nat) (s : State) : Host.Outcome State Fault Refusal :=
  command dt r { idx := 0xC031, role := 2, op := .storeCopy source dest length cls
                 bad := fun s => firstOf [(storeBarred s != 0, storeBarred s),
                                          (source % 64 != 0 || dest % 64 != 0 || length % 64 != 0 || badClass cls, 0x0303),
                                          (decide (storeBytesTotal < source + length) || decide (storeBytesTotal < dest + length), 0x0303),
                                          (rangeBusy s dest length, 0x0401)] } s

/-! ### Stored-data integrity (R217, R220, R222, R223, R226) -/

/-- R223: the address lies in a host partition or an unpartitioned slab. -/
def hostAddress (s : State) (memory a : Nat) : Bool :=
  memory == 0 && (match partAt s (slabOf a) with | some p => p.purpose == 6 | none => true)

/-- R214, R222: bytes of the memory with a code: the nozzle table and the cluster and staging banks, the camera line memory, the supervisor's. -/
def memoryBytes (memory : Nat) : Nat :=
  match memory with
  | 0 => storeBytesTotal
  | 1 => 4 * 6291456
  | 2 => 4 * 8388608
  | 3 => 4194304
  | 4 => 4194304
  | _ => 0

/-- R222: bytes of the unit of a memory. -/
def unitBytes (memory : Nat) : Nat := if memory = 0 then 32 else 8

/-- R223, R226: the refusals that both checker commands share. -/
def checkerBarred (s : State) (memory a : Nat) : Nat :=
  firstOf [(storeBarred s != 0, storeBarred s), (a % unitBytes memory != 0 || decide (memoryBytes memory ≤ a), 0x0303),
           (s.gait.job != 0 && !hostAddress s memory a, 0x0401)]

/-- R222: the errors that a data mask plants: byte positions and their masks. -/
def maskErrors (mask : List Byte) : List (Nat × Byte) := ((List.range mask.length).zip mask).filter (fun e => e.2 != 0)

/-- R197, R222: the checker test writes a burst of the page store. -/
def injectBurst (a : InjectArgs) (s : State) : State :=
  let b := a.address / 32
  let s := writeBytes 1 a.address a.data s
  let poison := a.mode == 1
  let m : Mark := { poisoned := poison, dataErr := if poison then [] else maskErrors a.dataMask, checkErr := if poison then 0 else a.checkMask
                    foldErr := foldOf s (a.fold.getD a.address) != foldOf s a.address, injected := true }
  let clean := m.dataErr.isEmpty && m.checkErr == 0 && !m.foldErr && !m.poisoned
  { s with store := { s.store with marks := tput {} s.store.marks b (if clean then {} else m) } }

/-- R200, R222: the checker test writes a word of SRAM, which has 8 check bits and no poison. -/
def injectWord (a : InjectArgs) (s : State) : State :=
  let key := sramKey a.memory a.address
  let m : SramMark := { data := BitVec.ofNat 64 (beNat a.dataMask), check := a.checkMask.setWidth 8, injected := true }
  let s := setSramMark key (if m.data = 0 ∧ m.check = 0 then {} else m) s
  if a.memory = 1 then writeTableWord a.address a.data s
  else { s with integ := { s.integ with sramWord := tput none s.integ.sramWord key (some (BitVec.ofNat 64 (beNat a.data))) } }

/-- INTEG_INJECT (R222, R223). -/
def execIntegInject (dt : Nat) (r : Req) (a : InjectArgs) (s : State) : Host.Outcome State Fault Refusal :=
  let n := unitBytes a.memory
  command dt r { idx := 0xC032, role := 3, op := .none
                 bad := fun s => firstOf [(a.data.length != n || a.dataMask.length != n || decide (1 < a.mode), 0x0303),
                                          (checkerBarred s a.memory a.address != 0, checkerBarred s a.memory a.address)]
                 after := doneAtOnce (fun s => if a.memory = 0 then injectBurst a s else injectWord a s) } s

/-- R53: the device sends data in BLOCK_DATA messages of at most 1,024 bytes. -/
def sendBlocks (sess : Nat) (w : BitVec 16) (data : List Byte) (s : State) : State :=
  forAll (List.range ((data.length + 1023) / 1024)) (fun i s =>
    let x := s.sess sess
    emit (.block x.peer x.id (BitVec.ofNat 64 (2 ^ 63 + x.devSeq)) w (1024 * i) ((data.drop (1024 * i)).take 1024))
      (s.setSess sess { x with devSeq := x.devSeq + 1 })) s

/-- R222: what a raw read of a burst gives: stored data and check symbols. -/
def rawBurst (s : State) (a : Nat) : List Byte :=
  let b := a / 32
  let m := tget {} s.store.marks b
  let check := if neverWritten s b ∨ m.foldErr ∨ m.poisoned then BitVec.ofInt 32 (Config.freeOf 223 [b, lostAt s b])
    else Config.checkSymbols (loadBytes s.store.mem a 32) (foldOf s a) ^^^ m.checkErr
  storedBurst s b ++ natBytes 4 check.toNat

/-- R222: what a raw read of an SRAM word gives: the bits stored and the check bits. A word of the nozzle table holds its entry's bytes (R293,
R294); one of the buffers what the checker test wrote in it last, else a free value, and the check bits are free (their code is not given). -/
def rawWord (s : State) (memory a : Nat) : List Byte :=
  let key := sramKey memory a
  let now := (s.time.now : Int)
  let word := if memory = 1 then beNat (((tableEntryBytes s (a / 48)).drop (a % 48)).take 8)
    else ((tget none s.integ.sramWord key).getD (BitVec.ofInt 64 (Config.freeOf 224 [(key : Int), now]))).toNat
  natBytes 8 (BitVec.ofNat 64 word ^^^ (sramMark s key).data).toNat ++
    natBytes 1 (BitVec.ofInt 8 (Config.freeOf 225 [(word : Int)]) ^^^ (sramMark s key).check).toNat

/-- R196, R200: class of what a raw read finds: 0 clean, 1 corrected, 2 poisoned, 3 uncorrectable. -/
def rawClass (s : State) (memory a : Nat) : Nat :=
  if memory = 0 then burstClass s (a / 32)
  else match sramClass (sramMark s (sramKey memory a)) with
    | 0 => 0
    | 1 => 1
    | _ => 3

/-- R204, R222: a raw read: nothing is corrected, written back or counted; one of a skipped slab is logged and raises BOUND.UNINIT. -/
def rawRead (sess : Nat) (memory a h : Nat) (s : State) : State :=
  let bytes := if memory = 0 then rawBurst s a else rawWord s memory a
  let c := rawClass s memory a
  let s := if memory == 0 && slabSkipped s (slabOf a) then
      logStore 4 0x0E (unitDie 0) (a / 64) (correctedSymbol s (a / 32)) (burstSyndrome s (a / 32)) false
        (ev 0x5030 (integDetail 0 0x0E (a / 64 * 64)) s (unit := unitDie 0))
    else s
  completeHandle h 0 (detail 0 0 0 c) (sendBlocks sess (handleWord s h) bytes s)

/-- INTEG_READ_RAW (R222, R223). The data go out by BLOCK_DATA, the class in DETAIL (log 36). -/
def execIntegReadRaw (dt : Nat) (r : Req) (memory address : Nat) (s : State) : Host.Outcome State Fault Refusal :=
  command dt r { idx := 0xC033, role := 3, op := .none, bad := fun s => checkerBarred s memory address
                 after := fun h s => match openSlot s r.sess with
                   | some k => rawRead k memory address h s
                   | none => s } s

/-- R220: key of a bank's spare rows. -/
def spareKey (pc sid bank : Nat) : Nat := (pc * 3 + sid) * 16 + bank

/-- A bank of the stack. -/
def badBank (pc sid bank : Nat) : Bool := decide (31 < pc) || decide (2 < sid) || decide (15 < bank)

/-- R220, R226: a bank whose spare rows are used, or taken by repairs that run, refuses with 0508h and raises BOUND.REPAIR_NEEDED. -/
def noSpareRow (s : State) (pc sid bank : Nat) : Bool :=
  let coming := (runningHandles s).filter (fun i => match (s.handle i).op with
    | .rowRepair p l b _ => p == pc && l == sid && b == bank
    | _ => false)
  decide (2 ≤ tget 0 s.integ.spareRows (spareKey pc sid bank) + coming.length)

/-- A command whose refusal with 0508h raises BOUND.REPAIR_NEEDED. -/
def withRepairEvent (reason pc sid bank row : Nat) (a : Answer) : Answer :=
  if a.resp = some ⟨0x07, 0x0508, .none⟩ then { a with state := repairEvent reason pc sid bank row a.state } else a

/-- R220: the fuse map takes a row; a retired block with a row pending repair reads STATE 3. -/
def repairRow (pc sid bank row : Nat) (s : State) : State :=
  let z := s.integ
  { s with integ := { z with spareRows := tadd z.spareRows (spareKey pc sid bank) 1
                             repaired := if z.repaired.contains (pc, sid, bank, row) then z.repaired else (pc, sid, bank, row) :: z.repaired
                             retired := z.retired.map (fun r =>
                               if r.pc = pc ∧ r.sid = sid ∧ r.bank = bank ∧ r.block = row / 64 ∧ r.state = 2 then { r with state := 3 } else r) } }

/-- ROW_REPAIR (R220). -/
def execRowRepair (dt : Nat) (r : Req) (pc sid bank row : Nat) (s : State) : Host.Outcome State Fault Refusal :=
  let c : Command := { idx := 0xC034, role := 3, op := .rowRepair pc sid bank row
                       bad := fun s => firstOf [(storeBarred s != 0, storeBarred s), (badBank pc sid bank || decide (16383 < row), 0x0303),
                                                (noSpareRow s pc sid bank, 0x0508)] }
  ok (request dt r 0x07 (fun k s => withRepairEvent 2 pc sid bank row (runCommand c k s)) s)

/-- RETIRE (R218, R226): the block enters the map; its copy ends with RETIRE_COPY_DONE. -/
def execRetire (dt : Nat) (r : Req) (pc sid bank block : Nat) (s : State) : Host.Outcome State Fault Refusal :=
  let c : Command := { idx := 0xC035, role := 2, op := .retire pc sid bank block
                       bad := fun s => firstOf [(storeBarred s != 0, storeBarred s), (badBank pc sid bank || decide (254 < block), 0x0303),
                                                (noSpareBlock s pc sid bank, 0x0508)]
                       begin := fun _ s => enterRetired (pc, sid, bank, block) [] s }
  ok (request dt r 0x07 (fun k s => withRepairEvent 1 pc sid bank (block * 64) (runCommand c k s)) s)

/-! ### The encoder (R252, R255) -/

/-- R252: the arguments of `Cmd.Encode` by name. -/
structure EncArgs where
  source : Nat
  pitch : Nat
  stride : Nat
  width : Nat
  lines : Nat
  depth : Nat
  plane : Nat
  firstSeg : Nat
  stripe : Nat
  dest : Nat
  capacity : Nat
  cls : Nat
  deriving DecidableEq, Repr

def encArgs (l : List Nat) : EncArgs :=
  let f := fun i => l.getD i 0
  ⟨f 0, f 1, f 2, f 3, f 4, f 5, f 6, f 7, f 8, f 9, f 10, l.getD 11 2⟩

/-- Bytes of a source pixel. -/
def EncArgs.bytes (a : EncArgs) : Nat := if a.depth = 10 then 2 else 1

/-- R252: segments of a line. -/
def EncArgs.segs (a : EncArgs) : Nat := (a.width + 63) / 64

/-- The byte after the last source byte. -/
def EncArgs.sourceEnd (a : EncArgs) : Nat := a.source + (a.lines - 1) * a.pitch + (a.width - 1) * a.stride + a.bytes

/-- R252: an argument outside its range. -/
def EncArgs.bad (a : EncArgs) : Bool :=
  a.pitch == 0 || decide (4294967295 < a.pitch) || a.stride == 0 || decide (8 < a.stride) || a.width == 0 || decide (65536 < a.width) ||
  a.lines == 0 || decide (4096 < a.lines) || (a.depth != 8 && a.depth != 10) || decide (15 < a.plane) || decide (1024 < a.firstSeg + a.segs) ||
  decide (1023 < a.firstSeg) || decide (4294967295 < a.stripe) || a.dest % 64 != 0 || a.capacity % 64 != 0 || a.capacity == 0 || badClass a.cls ||
  decide (storeBytesTotal < a.sourceEnd) || decide (storeBytesTotal < a.dest + a.capacity)

/-- ENCODE (R252, R253). -/
def execEncode (dt : Nat) (r : Req) (args : List Nat) (s : State) : Host.Outcome State Fault Refusal :=
  let a := encArgs args
  command dt r { idx := 0xC040, role := 1, op := .encode args
                 bad := fun s => firstOf [(storeBarred s != 0, storeBarred s), (a.bad, 0x0303), (rangeBusy s a.dest a.capacity, 0x0401)] } s

end Sys2Proof.Machine
end

