-- ==== Sys2Proof/Machine/DeviceCommands.lean ====
section
/-! DEFINITION. The commands on links, time, the tandem pair, firmware images, faults and power (R375, R446, R451, R456, R466, R484, R507, R534,
R551). -/

namespace Sys2Proof.Machine

/-! ### Trace links (R372, R373, R375) -/

/-- R373: the lane is in bring-up or retraining, or asleep. -/
def laneBusy (s : State) (h : Nat) : Bool := [1, 3, 4, 5, 7, 8].contains (s.lane h).state

/-- R375: the command waits on the lane, which trains. -/
def bringUpLane (lane h : Nat) (s : State) : State :=
  let was := (s.lane lane).state
  let s := s.setLane lane { s.lane lane with handle := some (handleWord s h) }
  if was = 6 then startRetrain lane 3 s else startBringUp lane 0 s

/-- TRACE_BRING_UP (R375, R511): in Idle the device returns to Run first. -/
def execTraceBringUp (dt : Nat) (r : Req) (lane : Nat) (s : State) : Host.Outcome State Fault Refusal :=
  let c : Command := { idx := 0xC060, role := 2, op := .traceBringUp lane
                       bad := fun s => firstOf [(decide (63 < lane), 0x0303), (laneBusy s lane || cfgN s 0x7043 lane == 0, 0x0401)]
                       begin := bringUpLane lane }
  ok (request dt r 0x07 (fun k s => runCommand c k (if (s.sess k).role < 2 ∨ isWheeler s then s else returnToRun 0xFF s)) s)

/-- R372: a host write that the device refuses: to LANE_POWER, or one that changes BR_CTRL bit 1. -/
def ownRegister (s : State) (lane addr : Nat) (value : BitVec 32) : Bool := addr == 0x00C || (addr == 0x008 && value.getLsbD 1 != (s.lane lane).senseEn)

/-- BRIDGE_ACCESS (R375): reads at integrator role, writes at service role. -/
def execBridgeAccess (dt : Nat) (r : Req) (lane : Nat) (write : Bool) (addr : Nat) (value : BitVec 32) (s : State) : Host.Outcome State Fault Refusal :=
  command dt r { idx := 0xC061, role := if write then 3 else 2, op := .bridgeAccess lane write addr value
                 bad := fun s => firstOf [(decide (63 < lane), 0x0303), ((s.lane lane).state != 6, 0x0401), (decide (0x3FF < addr), 0x0303),
                   (write && ownRegister s lane addr value, 0x0202)]
                 begin := fun h s => sendConfig lane write addr value (some (handleWord s h)) 0 s } s

/-! ### Time (R446, R451, R456, R461) -/

/-- TIME_ACCEPT_JUMP (R451); an offset of the same tick is handled first (R459). -/
def execTimeAcceptJump (dt : Nat) (r : Req) (s : State) : Host.Outcome State Fault Refusal :=
  command dt r { idx := 0xC080, role := 2, op := .none, bad := fun s => if s.time.servo = 4 ∧ !offsetReturns s then 0 else 0x0401, after := doneAtOnce acceptJump } s

/-- R446: the host's message leaves; an event message is stamped (R445). -/
def sendPtp (port : Nat) (msg : List Byte) (s : State) : State :=
  let kind := (msg.getD 0 0).toNat % 16
  let seqId := beNat ((msg.drop 30).take 2)
  let s := if kind < 4 then pushStamp port kind true (msg.getD 4 0).toNat seqId s else s
  emit (.ptp port kind seqId 0 msg) s

/-- PTP_SEND (R446, R461). -/
def execPtpSend (dt : Nat) (r : Req) (port : Nat) (msg : List Byte) (s : State) : Host.Outcome State Fault Refusal :=
  command dt r { idx := 0xC081, role := 2, op := .ptpSend port msg
                 bad := fun s => firstOf [(decide (2 < port) || decide (msg.length < 34) || decide (1024 < msg.length), 0x0303),
                   (timeRole s == 0 || !(s.port port).up, 0x0401)]
                 after := doneAtOnce (sendPtp port msg) } s

/-- PD_START (R456, R461). -/
def execPdStart (dt : Nat) (r : Req) (cycle phase : Nat) (s : State) : Host.Outcome State Fault Refusal :=
  command dt r { idx := 0xC082, role := 1, op := .none
                 bad := fun s => firstOf [(decide (cycle < 100000) || decide (100000000 < cycle) || cycle % 1000 != 0 || decide (cycle < phase + 1000), 0x0303),
                   (s.time.pd.running, 0x0401)]
                 begin := fun _ s => pdStart r.sess cycle phase s
                 after := doneAtOnce id } s

/-- PD_STOP (R456, R461). -/
def execPdStop (dt : Nat) (r : Req) (s : State) : Host.Outcome State Fault Refusal :=
  command dt r { idx := 0xC083, role := 1, op := .none, bad := fun s => if s.time.pd.running then 0 else 0x0401, after := doneAtOnce pdStop } s

/-! ### The pair (R466, R484, R498) -/

/-- PAIR (R466). -/
def execPair (dt : Nat) (r : Req) (s : State) : Host.Outcome State Fault Refusal :=
  command dt r { idx := 0xC090, role := 2, op := .pairing
                 bad := fun s => if s.gait.job ≠ 0 ∨ lanesUp s = 0 ∨ s.pair.pairing.isSome then 0x0401 else 0
                 after := fun h s => startPair (handleWord s h) s } s

/-- UNPAIR (R466). -/
def execUnpair (dt : Nat) (r : Req) (s : State) : Host.Outcome State Fault Refusal :=
  command dt r { idx := 0xC091, role := 2, op := .none, after := doneAtOnce unpair } s

/-- HANDOVER (R484, R485): the handle completes when the partner leads. -/
def execHandover (dt : Nat) (r : Req) (s : State) : Host.Outcome State Fault Refusal :=
  command dt r { idx := 0xC092, role := 2, op := .handover, bad := fun s => if handoverAllowed s then 0 else 0x0401
                 begin := fun h s => { s with pair := { s.pair with handover := some (handleWord s h) } }
                 after := fun _ s => leadRelease 8 false s } s

/-! ### Firmware images (R530 to R535) -/

/-- R534: the slot that did not boot. -/
def otherSlot (s : State) : Nat := 1 - s.start.bootSlot

/-- Change an image slot. -/
def setSlot (k : Nat) (x : Slot) (s : State) : State := { s with start := { s.start with slots := s.start.slots.set k x } }

/-- IMAGE_WRITE (R534): the slot is erased at once; the data follow by BLOCK_DATA. -/
def execImageWrite (dt : Nat) (r : Req) (length : Nat) (crc : BitVec 32) (s : State) : Host.Outcome State Fault Refusal :=
  command dt r { idx := 0xC0B0, role := 3, op := .imageWrite length crc []
                 bad := fun _ => if length = 0 ∨ 33554432 < length then 0x0303 else 0
                 begin := fun _ s => setSlot (otherSlot s) {} s } s (recovery := true)

/-- R534: the other slot is preferred, on trial; in recovery mode a cold start follows (R535). -/
def activateImage (f : StartFacts) (h : Nat) (s : State) : State :=
  let s := completeHandle h 0 0 (writeBoot { s.start.boot with preferred := otherSlot s, trial := true, tries := 0 } s)
  if s.start.recovery then resetStart f s else s

/-- IMAGE_ACTIVATE (R534, R535). -/
def execImageActivate (dt : Nat) (r : Req) (f : StartFacts) (s : State) : Host.Outcome State Fault Refusal :=
  command dt r { idx := 0xC0B1, role := 3, op := .none, bad := fun s => if (slotOfImage s (otherSlot s)).checked then 0 else 0x0401
                 after := activateImage f } s (recovery := true)

/-- R534: the booted slot is confirmed, and the OTP counter rises to its image's ROLLBACK. -/
def confirmImage (s : State) : State :=
  let s := writeBoot { s.start.boot with trial := false, confirmed := s.start.bootSlot } s
  { s with start := { s.start with rollback := max s.start.rollback (slotOfImage s s.start.bootSlot).rollback } }

/-- IMAGE_CONFIRM (R534). -/
def execImageConfirm (dt : Nat) (r : Req) (s : State) : Host.Outcome State Fault Refusal :=
  command dt r { idx := 0xC0B2, role := 3, op := .none
                 bad := fun s => if s.start.boot.trial ∧ s.start.boot.preferred = s.start.bootSlot then 0 else 0x0401
                 after := doneAtOnce confirmImage } s

/-! ### Faults (R550, R551) -/

/-- R551: the first hold that stays: one of class 3, or one of class 2 whose cause still holds. -/
def remainingHold (s : State) : Option ActiveFault := s.faults.active.find? (fun f => f.cls == 3 || (f.cls == 2 && f.cause))

/-- R550: the cause of FAULT.FIRE_UE has gone once `Integ.FireUe` is below 2. -/
def fireUeGone (s : State) : State := if fireUeCount s < 2 then causeGone 0xB025 unitDevice s else s

/-- R562: the state that a row which can find a hold leads to. -/
def foundBy (i : Instr) (s : State) : State :=
  let out := fun (r : Host.Outcome State Fault Refusal) => match r with | .next t => t | _ => s
  match i with
  | .dieTemp dt a b c => out (execDieTemp dt a b c s)
  | .coreFault dt b x => out (execCoreFault dt b x s)
  | .dieFault dt d => out (execDieFault dt d s)
  | .regionFault dt r => out (execRegionFault dt r s)
  | .refclkLoss dt => out (execRefclkLoss dt s)
  | .pmbAlert dt r st mv => out (execPmbAlert dt r st mv s)
  | .supervisorUnreachable dt => out (execSupervisorUnreachable dt s)
  | .wireEpisode1us dt c p => out (execWireEpisode1us dt c p s)
  | .countEdge dt c a b => out (execCountEdge dt c a b s)
  | .decodeLine dt r d x => out (execDecodeLine dt r d x s)
  | .screenLine dt e x => out (execScreenLine dt e x s)
  | .windowRefill dt e => out (execWindowRefill dt e s)
  | .fire dt h r l d => out (execFire dt h r l d s)
  | _ => s

/-- R562: a hold is found later in this tick. -/
def holdComing (s : State) : Option ActiveFault :=
  let held := fun (f : ActiveFault) => s.faults.active.any (fun g => g.code == f.code && g.unit == f.unit && g.cls == f.cls)
  ((tickRest s).flatMap (fun i => (foundBy i s).faults.active)).find? (fun f => 2 ≤ f.cls && !held f)

/-- R551: every hold is cleared, and rows go on. CODE and UNIT of FAULT.CLASS are those of the first hold cleared. -/
def clearHolds (s : State) : State :=
  let held := s.faults.stopHold
  let first := s.faults.active.find? (fun f => f.cls == 2)
  let s := { s with faults := { s.faults with active := s.faults.active.filter (fun f => f.cls != 2), stopHold := false } }
  syncClass ((first.map (·.code)).getD 0) ((first.map (·.unit)).getD 0) (if held then resumeRows s else s)

/-- R551: the outcome of `Cmd.FaultClear`; a new hold of the same tick counts first (R562). -/
def clearFaults (h : Nat) (s : State) : State :=
  let s := fireUeGone s
  match (remainingHold s).or (holdComing s) with
  | some f => completeHandle h 0x0401 (detail 0 0 0 (f.code * 2 ^ 48 : Nat)) s
  | none => completeHandle h 0 0 (clearHolds s)

/-- FAULT_CLEAR (R551). -/
def execFaultClear (dt : Nat) (r : Req) (s : State) : Host.Outcome State Fault Refusal :=
  command dt r { idx := 0xC0C0, role := 2, op := .faultClear, after := clearFaults } s

/-! ### Power (R507 to R511, R524) -/

/-- `Cmd.PowerState` with a target: targets 0 to 2 need operator role, 3 and 4 integrator role (R507). -/
def powerCommand (target : Nat) (enter : Nat → State → State) : Command :=
  { idx := 0xC0A0, role := if target ≤ 2 then 1 else 2, op := .power target, bad := fun s => (powerRefusal target s).getD 0, after := enter }

/-- ENTER_IDLE (R507, R510). -/
def execEnterIdle (dt : Nat) (r : Req) (s : State) : Host.Outcome State Fault Refusal := command dt r (powerCommand 1 enterIdleState) s

/-- ENTER_SLEEP (R507, R508). -/
def execEnterSleep (dt : Nat) (r : Req) (f : EntryFacts) (s : State) : Host.Outcome State Fault Refusal :=
  command dt r (powerCommand 2 (fun h s => enterPower h 2 f s)) s

/-- ENTER_DEEP_SLEEP (R507, R508). -/
def execEnterDeepSleep (dt : Nat) (r : Req) (f : EntryFacts) (s : State) : Host.Outcome State Fault Refusal :=
  command dt r (powerCommand 3 (fun h s => enterPower h 3 f s)) s

/-- ENTER_OFF (R507, R508). -/
def execEnterOff (dt : Nat) (r : Req) (f : EntryFacts) (s : State) : Host.Outcome State Fault Refusal :=
  command dt r (powerCommand 4 (fun h s => enterPower h 4 f s)) s

/-- RETURN_TO_RUN (R507, R511, R524). -/
def execReturnToRun (dt : Nat) (r : Req) (s : State) : Host.Outcome State Fault Refusal :=
  command dt r (powerCommand 0 (fun h s => returnToRun 0xFF (completeHandle h 0 0 s))) s

end Sys2Proof.Machine
end

