-- ==== Sys2Proof/Machine/Requests.lean ====
section
/-! DEFINITION. The meanings of the requests on objects: READ, WRITE, STAGE, CHECK, COMMIT, DISCARD (R55, R59 to R62), and the rows that write
one object. -/

namespace Sys2Proof.Machine

/-! ### READ (R55, R65) -/

/-- R53: a request holds 1 to 64 entries; that another count answers 0303h is a DESIGN CHOICE (assumption log 78). -/
def entryCount (n : Nat) : Bool := decide (1 ≤ n) && decide (n ≤ 64)

/-- One entry of a READ: its code, value and generation; 0702h where the stored data that serve it are uncorrectable (R210). -/
def readEntry (s : State) (role : Nat) (e : ReadEntry) : ReadOut :=
  let c := judgeRead s role e.idx e.sub
  if c ≠ 0 then { code := c }
  else if servingCode s false e.idx e.ue ≠ 0 then { code := servingCode s false e.idx e.ue }
  else
    let v := readObject s e.pending e.idx e.sub
    ⟨0, readType e.idx e.sub, some v.1, v.2⟩

/-- R210 code 02h: the entries whose read finds stored data uncorrectable, each logged and raised; an entry refused before reads nothing. -/
def readErrors (es : List ReadEntry) (role : Nat) (s : State) : State :=
  forAll (es.filter (fun e => (readEntry s role { e with ue := none }).code == 0)) (fun e s =>
    match e.ue with
    | some x => supervisorUe ⟨2, x.1, x.2⟩ s
    | none => s) s

/-- READ (R55): an answer that one message cannot hold is refused (R41; assumption log 67). -/
def runRead (es : List ReadEntry) (k : Nat) (s : State) : Answer :=
  if !entryCount es.length then refuse 0x01 0x0303 s
  else
    let role := (s.sess k).role
    let answer : Response := ⟨0x01, 0, .values (datumGen s) (es.map (readEntry s role))⟩
    if maxPayload < (respBytes answer).length then refuse 0x01 0x0303 (readErrors es role s)
    else { resp := some answer, state := readErrors es role s }

def execRead (dt : Nat) (r : Req) (es : List ReadEntry) (s : State) : Host.Outcome State Fault Refusal := ok (request dt r 0x01 (runRead es) s)

/-! ### WRITE (R52, R55, R59, R606) -/

/-- R59: the answer to a request that loses its arbitration. -/
def lost (op : Nat) (winner : BitVec 16) (s : State) : Answer := { resp := some ⟨op, 0x0601, .winner winner⟩, state := s }

/-- R55, R606: the answer to a request whose entry at a position fails; stored data that were uncorrectable are logged and raised (R210). -/
def badEntry (op code pos : Nat) (es : List Entry) (s : State) : Answer :=
  { resp := some ⟨op, code, .position pos⟩
    state := match (es.getD pos (entry 0 0 0 (.num 0))).ue with
      | some x => if code = 0x0702 then supervisorUe ⟨2, x.1, x.2⟩ s else s
      | none => s }

def runWrite (r : Req) (es : List Entry) (k : Nat) (s : State) : Answer :=
  if !entryCount es.length then refuse 0x02 0x0303 s
  else
    match arbitrate k r (objectKeys es) false s with
    | (some w, s) => lost 0x02 w s
    | (none, s) =>
      let x := s.sess k
      match judgeEntries s es (claimsOfTick s) x.id x.role false es 0 with
      | some (c, p) => badEntry 0x02 c p es s
      | none => { resp := some ⟨0x02, 0, .none⟩, state := applyEntries es s }

def execWrite (dt : Nat) (r : Req) (es : List Entry) (s : State) : Host.Outcome State Fault Refusal := ok (request dt r 0x02 (runWrite r es) s)

/-! ### STAGE, DISCARD (R60) -/

/-- R60, R603: the staged value of an entry, at the target of an alias. -/
def stagedWrite (e : Entry) : ObjWrite := ⟨aliasTarget e.idx, e.sub, (aliasWrite e.idx e.val).getD e.val⟩

/-- R60: an object enters a staging set; one that is there already takes the new value, staged last. -/
def stageObject (l : List ObjWrite) (w : ObjWrite) : List ObjWrite := l.filter (fun x => !(x.idx == w.idx && x.sub == w.sub)) ++ [w]

/-- R60: entries enter a set of at most 1,024; the position of the first that finds no place. -/
def stageAll : List ObjWrite → List ObjWrite → Nat → List ObjWrite × Option Nat
  | l, [], _ => (l, none)
  | l, w :: r, n => if 1024 < (stageObject l w).length then (l, some n) else stageAll (stageObject l w) r (n + 1)

def runStage (r : Req) (es : List Entry) (k : Nat) (s : State) : Answer :=
  if !entryCount es.length then refuse 0x03 0x0303 s
  else
    match arbitrate k r (objectKeys es) false s with
    | (some w, s) => lost 0x03 w s
    | (none, s) =>
      let x := s.sess k
      match judgeEntries s es (claimsOfTick s) x.id x.role true es 0 with
      | some (c, p) => badEntry 0x03 c p es s
      | none =>
        match stageAll x.staging (es.map stagedWrite) 0 with
        | (_, some p) => badEntry 0x03 0x0503 p es s
        | (l, none) => { resp := some ⟨0x03, 0, .none⟩, state := s.setSess k { x with staging := l } }

def execStage (dt : Nat) (r : Req) (es : List Entry) (s : State) : Host.Outcome State Fault Refusal := ok (request dt r 0x03 (runStage r es) s)

def runDiscard (k : Nat) (s : State) : Answer :=
  { resp := some ⟨0x06, 0, .none⟩, state := s.setSess k { s.sess k with staging := [] } }

def execDiscard (dt : Nat) (r : Req) (s : State) : Host.Outcome State Fault Refusal := ok (request dt r 0x06 (needsRole 0x06 1 runDiscard) s)

/-! ### CHECK, COMMIT (R59, R61, R62) -/

def runCheck (r : Req) (k : Nat) (s : State) : Answer :=
  match judgeCheck s (s.sess k).staging r.src with
  | .refused c => refuse 0x04 c s
  | .failed f => { resp := some ⟨0x04, 0x0405, .failures f.length (f.take 32)⟩, state := s }
  | .passes _ => refuse 0x04 0 s

def execCheck (dt : Nat) (r : Req) (s : State) : Host.Outcome State Fault Refusal := ok (request dt r 0x04 (needsRole 0x04 1 (runCheck r)) s)

/-- R59, R62, R482: a COMMIT loses its arbitration, waits for one ranked above it, or runs. -/
def takeCommitRequest (r : Req) (target : Nat) (lpos : Int) (k : Nat) (s : State) : Answer :=
  let objs := stagedKeys s k
  match arbitrate k r objs true s with
  | (some w, s) => lost 0x05 w s
  | (none, s) =>
    let x := s.sess k
    if commitAhead s (arbReq s k r objs true) then
      { resp := none, state := { s with proto := { s.proto with heldCommits := s.proto.heldCommits ++ [⟨k, x.id, r.seq.toNat, target, lpos, x.role, r.src⟩] } } }
    else runCommit k target lpos r.src s

def runCommitRequest (r : Req) (target : Nat) (lpos : Int) (k : Nat) (s : State) : Answer :=
  if isWheeler s then refuse 0x05 0x040B s else needsRole 0x05 1 (takeCommitRequest r target lpos) k s

def execCommit (dt : Nat) (r : Req) (target : Nat) (lpos : Int) (s : State) : Host.Outcome State Fault Refusal :=
  ok (flushReady (request dt r 0x05 (runCommitRequest r target lpos) s))

/-! ### Rows that write one object -/

/-- A WRITE of one entry. -/
def writeObject (dt : Nat) (r : Req) (e : Entry) (s : State) : Host.Outcome State Fault Refusal := ok (request dt r 0x02 (runWrite r [e]) s)

/-- AXIS_PRESET (R94). -/
def execAxisPreset (dt : Nat) (r : Req) (ty : Nat) (val : Val) (s : State) : Host.Outcome State Fault Refusal := writeObject dt r (entry 0x4035 0 ty val) s
/-- INDEX_ARM (R87). -/
def execIndexArm (dt : Nat) (r : Req) (sub ty : Nat) (val : Val) (s : State) : Host.Outcome State Fault Refusal := writeObject dt r (entry 0x4025 sub ty val) s
/-- ENC_REENABLE (R85). -/
def execEncReenable (dt : Nat) (r : Req) (sub ty : Nat) (val : Val) (s : State) : Host.Outcome State Fault Refusal := writeObject dt r (entry 0x4037 sub ty val) s
/-- SOURCE_REQUEST (R101). -/
def execSourceRequest (dt : Nat) (r : Req) (ty : Nat) (val : Val) (s : State) : Host.Outcome State Fault Refusal := writeObject dt r (entry 0x4003 0 ty val) s
/-- HOST_SPEED_LIMIT (R132). -/
def execHostSpeedLimit (dt : Nat) (r : Req) (ty : Nat) (val : Val) (s : State) : Host.Outcome State Fault Refusal := writeObject dt r (entry 0x4051 0 ty val) s
/-- STREAM_ENABLE (R161). -/
def execStreamEnable (dt : Nat) (r : Req) (sub ty : Nat) (val : Val) (s : State) : Host.Outcome State Fault Refusal := writeObject dt r (entry 0x5006 sub ty val) s
/-- STREAM_RELEASE_TO (R150). -/
def execStreamReleaseTo (dt : Nat) (r : Req) (sub ty : Nat) (val : Val) (s : State) : Host.Outcome State Fault Refusal :=
  writeObject dt r (entry 0x500C sub ty val) s
/-- TRACE_ENABLE (R361). -/
def execTraceEnable (dt : Nat) (r : Req) (sub ty : Nat) (val : Val) (s : State) : Host.Outcome State Fault Refusal := writeObject dt r (entry 0x7043 sub ty val) s
/-- TRACE_POWER (R364). -/
def execTracePower (dt : Nat) (r : Req) (sub ty : Nat) (val : Val) (s : State) : Host.Outcome State Fault Refusal := writeObject dt r (entry 0x7049 sub ty val) s
/-- PRESS_REFUSE (R380). -/
def execPressRefuse (dt : Nat) (r : Req) (ty : Nat) (val : Val) (s : State) : Host.Outcome State Fault Refusal := writeObject dt r (entry 0x408A 0 ty val) s
/-- STOP_CLEAR (R379). -/
def execStopClear (dt : Nat) (r : Req) (ty : Nat) (val : Val) (s : State) : Host.Outcome State Fault Refusal := writeObject dt r (entry 0x408C 0 ty val) s
/-- TIME_ROLE_WRITE (R441). -/
def execTimeRoleWrite (dt : Nat) (r : Req) (idx ty : Nat) (val : Val) (s : State) : Host.Outcome State Fault Refusal := writeObject dt r (entry idx 0 ty val) s
/-- TX_STAMP_POP (R445). -/
def execTxStampPop (dt : Nat) (r : Req) (sub ty : Nat) (val : Val) (s : State) : Host.Outcome State Fault Refusal := writeObject dt r (entry 0x9021 sub ty val) s
/-- CAPTURE_POP (R455). -/
def execCapturePop (dt : Nat) (r : Req) (sub ty : Nat) (val : Val) (s : State) : Host.Outcome State Fault Refusal := writeObject dt r (entry 0x9052 sub ty val) s
/-- STATUS_CLEAR (R71). -/
def execStatusClear (dt : Nat) (r : Req) (obj : FlagObj) (ty : Nat) (val : Val) (s : State) : Host.Outcome State Fault Refusal :=
  writeObject dt r (entry (flagKey obj).1 (flagKey obj).2 ty val) s
/-- STORE_PARTITION (R170). -/
def execStorePartition (dt : Nat) (r : Req) (sub ty : Nat) (val : Val) (s : State) : Host.Outcome State Fault Refusal :=
  writeObject dt r (entry 0x5040 sub ty val) s
/-- ERROR_LOG_CLEAR (R215). -/
def execErrorLogClear (dt : Nat) (r : Req) (ty : Nat) (val : Val) (s : State) : Host.Outcome State Fault Refusal := writeObject dt r (entry 0xB021 0 ty val) s
/-- DEFECT_LOG_CLEAR (R333). -/
def execDefectLogClear (dt : Nat) (r : Req) (ty : Nat) (val : Val) (s : State) : Host.Outcome State Fault Refusal := writeObject dt r (entry 0x7035 0 ty val) s

end Sys2Proof.Machine
end

