-- ==== Sys2Proof/Machine/TableCommands.lean ====
section
/-! DEFINITION. The commands on tables and on inspection: threshold arrays (R265, R291), the nozzle table (R310 to R312, R318), and the inspection
tables, frames, camera registers and statistics (R394, R399, R411, R417). -/

namespace Sys2Proof.Machine

/-! ### Threshold arrays (R264, R265, R291) -/

/-- R265: a plane's `Screen.ArraySlot` names the slot in the governing generation or in a pending one. -/
def slotInUse (s : State) (slot : Nat) : Bool :=
  let lines := datumLine s :: (pendingCommits s).map (·.line)
  (List.range 16).any (fun p => atN s (datumLine s) 0x6004 (p + 1) == slot || (Val.int (pendVal s 0x6004 (p + 1)).1).toNat == slot ||
    lines.any (fun L => atN s L 0x6004 (p + 1) == slot))

/-- R265: the load rewrites the content that the slot has. -/
def sameContent (s : State) (slot : Nat) (crc : BitVec 32) : Bool :=
  match tget none s.screen.arrays slot with
  | some a => a.crc == crc
  | none => false

/-- THRESHOLD_LOAD (R265, R291). -/
def execThresholdLoad (dt : Nat) (r : Req) (slot w h n : Nat) (crc : BitVec 32) (s : State) : Host.Outcome State Fault Refusal :=
  command dt r { idx := 0xC050, role := 2, op := .thresholdLoad slot w h n crc []
                 bad := fun s => firstOf [(storeBarred s != 0, storeBarred s),
                   (decide (15 < slot) || w == 0 || decide (512 < w) || h == 0 || decide (512 < h) || !([1, 3, 7].contains n), 0x0303),
                   (decide ((purposeRange s 3).2 < (slot + 1) * 2097152), 0x0303),
                   (slotInUse s slot && !sameContent s slot crc, 0x0401)] } s

/-! ### The nozzle table (R298, R310, R312, R318) -/

/-- R310, R318: a range of the table. -/
def badRange (first count : Nat) : Bool := count == 0 || decide (524288 < first + count)

/-- The staging set of a session has no place for one more object (R60). -/
def stagingFull (s : State) (k : Nat) : Bool := decide (1024 ≤ (s.sess k).staging.length)

/-- NOZZLE_TABLE_WRITE (R310). Its shadow will take one place of the staging set. -/
def execNozzleTableWrite (dt : Nat) (r : Req) (first count : Nat) (crc : BitVec 32) (s : State) : Host.Outcome State Fault Refusal :=
  command dt r { idx := 0xC051, role := 2, op := .nozzleWrite first count crc []
                 bad := fun s => firstOf [(storeBarred s != 0, storeBarred s), (badRange first count, 0x0303),
                   (match openSlot s r.sess with | some k => stagingFull s k | none => false, 0x0503)] } s

/-- R310: the generation that a block read takes its decision fields from, and its line. -/
def readGen (s : State) (pending : Bool) : BitVec 32 × Int := if pending then (s.proto.gen, lastLine s) else (datumGen s, datumLine s)

/-- R310: the entries go out by BLOCK_DATA, and the generation in DETAIL. -/
def readTable (sess first count : Nat) (pending : Bool) (h : Nat) (s : State) : State :=
  let g := readGen s pending
  let s := sendBlocks sess (handleWord s h) (nozzleBytes s g.2 first count) s
  completeHandle h 0 (detail 0 0 0 g.1.toNat) (s.setHandle h { s.handle h with progress := 48 * count })

/-- NOZZLE_TABLE_READ (R310, R318). -/
def execNozzleTableRead (dt : Nat) (r : Req) (first count : Nat) (pending : Bool) (s : State) : Host.Outcome State Fault Refusal :=
  command dt r { idx := 0xC052, role := 0, op := .nozzleRead first count pending
                 bad := fun s => firstOf [(storeBarred s != 0, storeBarred s), (badRange first count, 0x0303)]
                 after := fun h s => match openSlot s r.sess with
                   | some k => readTable k first count pending h s
                   | none => s } s

/-- NOZZLE_TABLE_SAVE (R312). -/
def execNozzleTableSave (dt : Nat) (r : Req) (s : State) : Host.Outcome State Fault Refusal :=
  command dt r { idx := 0xC053, role := 1, op := .nozzleSave, bad := storeBarred } s

/-- R298: FIRECOUNT and DROPOUT of a range of channels are 0. -/
def resetCounts (first count : Nat) (s : State) : State :=
  forAll ((s.noz.cnt.map (·.1)).filter (fun c => decide (first ≤ c) && decide (c < first + count)))
    (fun c s => setNozCnt c { nozCnt s c with fire := 0, dropout := 0 } s) s

/-- NOZZLE_COUNT_RESET (R298, R318). -/
def execNozzleCountReset (dt : Nat) (r : Req) (first count : Nat) (s : State) : Host.Outcome State Fault Refusal :=
  command dt r { idx := 0xC054, role := 2, op := .countReset first count
                 bad := fun s => firstOf [(storeBarred s != 0, storeBarred s), (badRange first count, 0x0303)]
                 after := doneAtOnce (resetCounts first count) } s

/-! ### Inspection (R394, R399, R411, R417) -/

/-- R414: commands that are refused in self-refresh. -/
def asleep (s : State) : Bool := s.store.state == 3

/-- INSP_TABLE_LOAD (R408, R417). -/
def execInspTableLoad (dt : Nat) (r : Req) (sensor table : Nat) (crc : BitVec 32) (s : State) : Host.Outcome State Fault Refusal :=
  command dt r { idx := 0xC070, role := 2, op := .inspLoad sensor table crc []
                 bad := fun s => firstOf [(asleep s, 0x0401), (decide (15 < sensor) || decide (2 < table), 0x0303)] } s

/-- FRAME_HOLD (R399, R417). -/
def execFrameHold (dt : Nat) (r : Req) (sensor : Nat) (frame : BitVec 32) (hold : Bool) (s : State) : Host.Outcome State Fault Refusal :=
  command dt r { idx := 0xC071, role := 1, op := .none, bad := fun s => (holdFrame sensor frame hold s).1
                 after := doneAtOnce (fun s => (holdFrame sensor frame hold s).2) } s

/-- R394: an exposure list is in progress on a master, or a host transfer occupies it. -/
def masterBusy (s : State) (c : Nat) : Bool :=
  (s.camPort c).cciHandle.isSome || sensorNums.any (fun n => (sensorCfg (envNow s) n).port == c && (s.sensor n).expRun)

/-- The bytes of a host transfer: register, and data of a write (R404 flags). -/
def cciBytes (flags register : Nat) (data : BitVec 32) (write : Bool) : List Byte :=
  if write then entryData (0, flags, register, data.toNat) else natBytes (if flags % 2 = 1 then 2 else 1) register

/-- R394: a host transfer starts on a master that is free; on another it waits. -/
def startTransfer (c address flags register : Nat) (data : BitVec 32) (write : Bool) (h : Nat) (s : State) : State :=
  if masterBusy s c then s
  else emit (.cci c address (cciBytes flags register data write)) (s.setCamPort c { s.camPort c with cciHandle := some (handleWord s h) })

/-- CCI_ACCESS (R394, R417): reads at integrator role, writes at service role. -/
def execCciAccess (dt : Nat) (r : Req) (port address flags register : Nat) (data : BitVec 32) (op : Nat) (s : State) : Host.Outcome State Fault Refusal :=
  command dt r { idx := 0xC072, role := if op = 1 then 3 else 2, op := .cci port address flags register data (op == 1)
                 bad := fun s => firstOf [(asleep s, 0x0401),
                   (decide (3 < port) || decide (127 < address) || decide (3 < flags) || decide (1 < op) || decide (65535 < register), 0x0303)]
                 begin := startTransfer port address flags register data (op == 1) } s

/-- R411: the bytes of a statistics record. -/
def statBytes (x : StatRec) : List Byte :=
  let n := if x.kind = 2 then x.marks.length else x.entries.length
  let head : List (Nat × Int) := [(32, (x.frame.toNat : Int)), (8, x.sensor), (8, x.kind), (8, x.plane), (8, x.window), (32, x.expGen.toNat),
    (32, x.flags.toNat), (64, x.wfirst), (20, x.firstCol), (14, x.used), (14, x.excluded), (16, n)]
  let body := match x.kind with
    | 2 => x.marks.flatMap (fun m => natBytes 16 (packFields [(64, m.lpos), (32, m.cross), (16, m.area), (16, m.peak)]))
    | 3 => x.entries.flatMap (fun e => natBytes 4 (packFields [(32, e)]))
    | _ => x.entries.flatMap (fun e => natBytes 2 (packFields [(16, e)]))
  natBytes 32 (packFields head) ++ body

/-- The records of a frame. -/
def statsOf (s : State) (sensor : Nat) (frame : BitVec 32) : List StatRec := s.insp.stats.filter (fun x => x.sensor == sensor && x.frame == frame)

/-- INSP_STAT_READ (R411, R417). -/
def execInspStatRead (dt : Nat) (r : Req) (sensor : Nat) (frame : BitVec 32) (s : State) : Host.Outcome State Fault Refusal :=
  command dt r { idx := 0xC073, role := 0, op := .inspRead sensor frame
                 bad := fun s => if (statsOf s sensor frame).isEmpty then 0x0407 else 0
                 after := fun h s => match openSlot s r.sess with
                   | some k =>
                     let bytes := (statsOf s sensor frame).flatMap statBytes
                     completeHandle h 0 0 (sendBlocks k (handleWord s h) bytes (s.setHandle h { s.handle h with progress := bytes.length }))
                   | none => s } s

end Sys2Proof.Machine
end

