-- ==== Sys2Proof/Machine/Completion.lean ====
section
/-! DEFINITION. The data of block transfers (R56) and the end of the operations that take time (R67): what each does when it ends, and its result. -/

namespace Sys2Proof.Machine

/-! ### BLOCK_DATA (R56, R475) -/

/-- Bytes of a block write's content, and what it has received; none for another operation. -/
def blockOp (s : State) (o : Op) : Option (Nat × Tab (Option Byte)) :=
  match o with
  | .thresholdLoad _ w h n _ got => some (w * h * n, got)
  | .nozzleWrite _ count _ got => some (48 * count, got)
  | .inspLoad n table _ got => some (tableBytes s n table, got)
  | .imageWrite n _ got => some (n, got)
  | _ => none

/-- The operation with more data. -/
def withData (o : Op) (got : Tab (Option Byte)) : Op :=
  match o with
  | .thresholdLoad slot w h n crc _ => .thresholdLoad slot w h n crc got
  | .nozzleWrite first count crc _ => .nozzleWrite first count crc got
  | .inspLoad n table crc _ => .inspLoad n table crc got
  | .imageWrite n crc _ => .imageWrite n crc got
  | x => x

/-- R475: the transfer as its BLOCK records name it. -/
def blockOpOf : Op → Option BlockOp
  | .nozzleWrite first count _ _ => some (.nozzleWrite first count)
  | .thresholdLoad slot w h n crc _ => some (.thresholdLoad slot w h n crc)
  | .inspLoad n table _ _ => some (.inspLoad n table)
  | _ => none

/-- R475: an accepted BLOCK_DATA goes to the wheeler. -/
def mirrorBlock (w : BitVec 16) (op : Op) (offset : Nat) (data : List Byte) (s : State) : State :=
  match blockOpOf op with
  | some o => mirror (.block ⟨w.toNat, o, offset, data⟩) s
  | none => s

/-- R56: data for a running block write of the session that started it. That empty data, more than 1,024 B and data past the declared count
answer 0303h is a DESIGN CHOICE (assumption log 78). -/
def runBlockData (w : BitVec 16) (offset : Nat) (data : List Byte) (k : Nat) (s : State) : Answer :=
  let slot := w.toNat % 256
  let h := s.handle slot
  match (if namesHandle s w && h.phase == .running && h.owner == (s.sess k).id then blockOp s h.op else none) with
  | none => refuse 0x15 0x0407 s
  | some (n, got) =>
    if data.isEmpty ∨ 1024 < data.length ∨ n < offset + data.length then refuse 0x15 0x0303 s
    else
      let got := putData got offset data
      let s := s.setHandle slot { h with op := withData h.op got, progress := got.length }
      { resp := some ⟨0x15, 0, .none⟩
        state := mirrorBlock w h.op offset data s }

/-- BLOCK_DATA (R56). -/
def execBlockData (dt : Nat) (r : Req) (handle : BitVec 16) (offset : Nat) (data : List Byte) (s : State) : Host.Outcome State Fault Refusal :=
  ok (request dt r 0x15 (runBlockData handle offset data) s (recovery := true))

/-! ### Store commands (R192) -/

/-- R192: a fill: every unit of the range with its check symbols, and the range cleared in the fill record. -/
def fillRange (a n : Nat) (pattern : BitVec 64) (cls : Nat) (s : State) : State :=
  let s := writeUnits cls (a / 64) ((List.range (n / 8)).flatMap (fun _ => natBytes 8 pattern.toNat)) s
  let whole := fun (k : Nat) => decide (a ≤ k * 524288) && decide ((k + 1) * 524288 ≤ a + n)
  { s with integ := { s.integ with skipped := s.integ.skipped.filter (fun e => !whole e.1) }
           store := { s.store with unwritten := s.store.unwritten.filter (fun e => !whole e.1)
                                   fresh := s.store.fresh.filter (fun e => !whole (slabOf (e.1 * 32))) } }

/-- R192: a copy in ascending order, a unit at a time: the first unit that cannot be read stops it. The unit numbers are of source and
destination; `moved` counts the bytes. -/
def copyUnits (cls : Nat) : Nat → Nat → Nat → Nat → State → Nat × Nat × State
  | 0, _, _, moved, s => (0, moved, s)
  | n + 1, u, v, moved, s =>
    let r := readUnit cls 3 (unitDie 0) u s
    if 2 ≤ r.1 then (0x0701, moved, r.2)
    else copyUnits cls n (u + 1) (v + 1) (moved + 64) (writeUnits cls v (unitData r.2 u) r.2)

/-! ### The encoder (R252 to R254) -/

/-- R252: the source pixels of a line, the last one repeated to the end of its last segment. -/
def sourceLine (s : State) (a : EncArgs) (y : Nat) : List Nat :=
  let px := fun (x : Nat) =>
    let p := a.source + y * a.pitch + min x (a.width - 1) * a.stride
    if a.depth = 10 then beNat (readBytes s p 2) % 1024 else beNat (readBytes s p 1)
  (List.range (64 * a.segs)).map px

/-- The units that a source line touches: first and number. -/
def lineUnits (a : EncArgs) (y : Nat) : Nat × Nat :=
  let p := a.source + y * a.pitch
  let z := p + (a.width - 1) * a.stride + a.bytes
  (p / 64, (z + 63) / 64 - p / 64)

/-- R254: the limit that `n` bytes of output reach, if any: the lower one first. -/
def encodeLimit (a : EncArgs) (n : Nat) : Nat :=
  let input := a.width * a.lines * a.bytes
  if a.capacity < input ∧ a.capacity ≤ n then 0x0502 else if input ≤ n then 0x0304 else 0

/-- Every pixel of the lines is the same (R253). -/
def flatLines (lines : List (List Nat)) : Bool := lines.all (fun l => l.all (· == (lines.headD []).headD 0))

/-- R253, R254: source lines are read and coded in order, from line `y` with `len` bytes of coded lines; a unit that cannot be read ends the
job, and so does a limit once the stripe is known not to be blank: the code, the lines, the state. -/
def encodeFrom (a : EncArgs) : Nat → Nat → List (List Nat) → Nat → State → Nat × List (List Nat) × State
  | 0, _, lines, _, s => (0, lines, s)
  | n + 1, y, lines, len, s =>
    let u := lineUnits a y
    let r := readUnits a.cls 3 (unitDie 0) u.2 u.1 s
    if r.1.isSome then (0x0701, lines, r.2)
    else
      let line := sourceLine r.2 a y
      let len := len + (encodeLine a.segs a.depth (lines.getLastD []) line).length
      let lines := lines ++ [line]
      let code := if flatLines lines then 0 else encodeLimit a (24 + 4 * a.lines + len)
      if code ≠ 0 then (code, lines, r.2) else encodeFrom a n (y + 1) lines len r.2

/-- R254: the outcome of a job: its code, the stripe's length, and the state. -/
def runEncode (args : List Nat) (s : State) : Nat × Nat × State :=
  let a := encArgs args
  let r := encodeFrom a a.lines 0 [] 0 s
  let out := encodeStripe a.depth a.plane a.segs a.firstSeg a.stripe r.2.1
  let code := if r.1 ≠ 0 then r.1 else encodeLimit a out.length
  if code ≠ 0 then (code, 0, voidStripe args r.2.2) else (0, out.length, writeUnits a.cls (a.dest / 64) out r.2.2)

/-- R255: two jobs run at once, the earliest started first. -/
def encodeRuns (s : State) (slot : Nat) : Bool :=
  let ahead := (runningHandles s).filter (fun i => decide ((s.handle i).order < (s.handle slot).order) &&
    (match (s.handle i).op with | .encode _ => true | _ => false))
  decide (ahead.length < 2)

/-! ### Images (R531, R534) -/

/-- R531: the checks of an image in order; `sensed` says whether the OTP's keys refuse it with check 2 or 3. -/
def imageReason (bytes : List Byte) (sensed : Nat) : Nat :=
  let f := fun (i n : Nat) => beNat ((bytes.drop i).take n)
  if f 0 4 ≠ 0x4C4D4746 ∨ 33554432 - 384 < f 16 4 ∨ 3145728 < f 20 4 ∨ f 16 4 < f 20 4 ∨ bytes.length < 384 + f 16 4 then 1
  else if sensed = 2 ∨ sensed = 3 then sensed
  else if Config.sha384 ((bytes.drop 384).take (f 16 4)) = (bytes.drop 24).take 48 then 0 else 5

/-- R534: a slot as written and checked. -/
def slotFrom (s : State) (bytes : List Byte) (sensed : Nat) : Slot :=
  let x : Slot := { header := bytes.take 24, reason := imageReason bytes sensed, rollback := beNat ((bytes.drop 12).take 4) }
  { x with checked := x.reason == 0 && decide (s.start.rollback ≤ x.rollback) }

/-! ### HANDLE_COMPLETE (R67) -/

/-- The data of a whole transfer, if it has come and its check word agrees: none is 0703h (R56). -/
def checkedData (n : Nat) (crc : BitVec 32) (got : Tab (Option Byte)) : Option (List Byte) :=
  if Config.crc32c (dataBytes got n) = crc then some (dataBytes got n) else none

/-- R56, R310, R311: a whole block write of the nozzle table becomes one entry of the staging set, known by the place of its handle in the order
of starts: a later transfer on the same slot is another entry. -/
def stageShadow (slot first count : Nat) (bytes : List Byte) (s : State) : Nat × State :=
  let code := (parseEntries first (cutEntries count bytes)).1
  if code ≠ 0 then (code, s)
  else match slotOf s (s.handle slot).owner with
    | none => (0, s)
    | some k =>
      let l := stageObject (s.sess k).staging ⟨shadowIdx, (s.handle slot).order, .bytes (natBytes 4 first ++ bytes)⟩
      if 1024 < l.length then (0x0503, s) else (0, s.setSess k { s.sess k with staging := l })

/-- R408: an inspection table is kept in the camera line memory and in flash. -/
def keepTable (sensor table : Nat) (bytes : List Byte) (s : State) : Nat × State :=
  if flashWorks s then (0, emit (.flash 0 sensor) (storeTable sensor table (words16 bytes) s)) else (0x0801, s)

/-- R394, R417: a host transfer on a CCI master ends. -/
def endTransfer (slot port flags : Nat) (write failed : Bool) (data : BitVec 32) (s : State) : State :=
  let late := decide ((s.handle slot).startedAt + 100 * ms ≤ s.time.now)
  let s := if (s.camPort port).cciHandle = some (handleWord s slot) then freeMaster port s else s
  if late then completeHandle slot 0x0901 0 s
  else if failed then completeHandle slot 0x0801 0 s
  else completeHandle slot 0 (if write then 0 else BitVec.ofNat 96 (data.toNat % 2 ^ (if flags / 2 % 2 = 1 then 16 else 8))) s

/-- R394: a host transfer that waited for its master runs now. -/
def lateTransfer (port address flags register : Nat) (data : BitVec 32) (write : Bool) (s : State) : State :=
  if (s.camPort port).cciHandle.isNone then emit (.cci port address (cciBytes flags register data write)) s else s

/-- Bytes moved so far. -/
def withProgress (slot n : Nat) (s : State) : State := s.setHandle slot { s.handle slot with progress := n }

/-- The operation can end now: its data are there, its unit is free, or its time is up. -/
def canEnd (slot : Nat) (s : State) : Bool :=
  match (s.handle slot).op with
  | .storeFill .. => s.store.state != 3
  | .storeCopy .. => s.store.state != 3
  | .rowRepair .. => true
  | .encode _ => s.store.state != 3 && encodeRuns s slot
  | .thresholdLoad _ w h n _ got => s.store.state != 3 && decide (w * h * n ≤ got.length)
  | .nozzleWrite _ count _ got => decide (48 * count ≤ got.length)
  | .inspLoad n table _ got => decide (tableBytes s n table ≤ got.length)
  | .imageWrite n _ got => decide (n ≤ got.length)
  | .nozzleSave => true
  | .cci port _ _ _ _ _ => (s.camPort port).cciHandle == some (handleWord s slot) || !masterBusy s port
  | .pairing => decide ((s.handle slot).startedAt + 60 * sec ≤ s.time.now)
  | _ => false

/-- HANDLE_COMPLETE: what an operation does when it ends, and its result. `failed`: the flash or the camera register did not take it; `data`: what
a camera register gave, or the check of R531 that the OTP's keys fail. -/
def endOp (slot : Nat) (failed : Bool) (data : BitVec 32) (s : State) : State :=
  match (s.handle slot).op with
  | .storeFill a n pattern cls => completeHandle slot 0 0 (withProgress slot n (fillRange a n pattern cls s))
  | .storeCopy a b n cls =>
    let r := copyUnits cls (n / 64) (a / 64) (b / 64) 0 s
    completeHandle slot r.1 0 (withProgress slot r.2.1 r.2.2)
  | .rowRepair pc sid bank row => completeHandle slot 0 0 (repairRow pc sid bank row s)
  | .encode args =>
    let r := runEncode args s
    completeHandle slot r.1 (detail 0 0 0 r.2.1) (withProgress slot r.2.1 r.2.2)
  | .thresholdLoad n w h m crc got =>
    match checkedData (w * h * m) crc got with
    | some bytes => completeHandle slot 0 0 (storeArray n w h m crc bytes s)
    | none => completeHandle slot 0x0703 0 s
  | .nozzleWrite first count crc got =>
    match checkedData (48 * count) crc got with
    | some bytes => (fun r => completeHandle slot r.1 0 r.2) (stageShadow slot first count bytes s)
    | none => completeHandle slot 0x0703 0 s
  | .inspLoad n table crc got =>
    match checkedData (tableBytes s n table) crc got with
    | some bytes => (fun r => completeHandle slot r.1 0 r.2) (if failed then (0x0801, s) else keepTable n table bytes s)
    | none => completeHandle slot 0x0703 0 s
  | .imageWrite n crc got =>
    if failed ∨ !flashWorks s then completeHandle slot 0x0801 0 s
    else match checkedData n crc got with
      | none => completeHandle slot 0x0703 0 s
      | some bytes =>
        let k := otherSlot s
        let s := emit (.flash 8 k) (setSlot k (slotFrom s bytes data.toNat) s)
        let reason := slotReason s k
        if reason = 0 then completeHandle slot 0 0 s else completeHandle slot 0x0303 (detail 0 0 0 reason) s
  | .nozzleSave => if failed ∨ !flashWorks s then completeHandle slot 0x0801 0 s else completeHandle slot 0 0 (saveTable s)
  | .cci port address flags register value write =>
    endTransfer slot port flags write failed data (lateTransfer port address flags register value write s)
  | .pairing => completeHandle slot 0x0901 0 { s with pair := { s.pair with pairing := none } }
  | _ => s

/-- HANDLE_COMPLETE (R67). -/
def execHandleComplete (dt : Nat) (slot : Fin 256) (failed : Bool) (data : BitVec 32) (s : State) : Host.Outcome State Fault Refusal :=
  let s := tick dt s
  guardOk ((s.handle slot).phase == .running && serverUp s && canEnd slot s) (endOp slot failed data) s

end Sys2Proof.Machine
end

