-- ==== Sys2Proof/Machine/Dispatch.lean ====
section
/-! DEFINITION. One arm for each command: a call of its meaning. -/

namespace Sys2Proof.Machine

/-- What a command does to the state, its place in the queue apart. -/
def exec (i : Instr) (s : State) : Host.Outcome State Fault Refusal :=
  match i with
  | .read dt r es => Sys2Proof.Machine.execRead dt r es s
  | .write dt r es => Sys2Proof.Machine.execWrite dt r es s
  | .stage dt r es => Sys2Proof.Machine.execStage dt r es s
  | .check dt r => Sys2Proof.Machine.execCheck dt r s
  | .commit dt r target lpos => Sys2Proof.Machine.execCommit dt r target lpos s
  | .discard dt r => Sys2Proof.Machine.execDiscard dt r s
  | .cmdCancel dt r handle => Sys2Proof.Machine.execCmdCancel dt r handle s
  | .claim dt r first count lease => Sys2Proof.Machine.execClaim dt r first count lease s
  | .release dt r first => Sys2Proof.Machine.execRelease dt r first s
  | .subscribe dt r ranges minSev => Sys2Proof.Machine.execSubscribe dt r ranges minSev s
  | .unsubscribe dt r => Sys2Proof.Machine.execUnsubscribe dt r s
  | .eventAck dt r rseq => Sys2Proof.Machine.execEventAck dt r rseq s
  | .keepalive dt r => Sys2Proof.Machine.execKeepalive dt r s
  | .open1 dt peer src version role ephemeral credential hostRandom => Sys2Proof.Machine.execOpen1 dt peer src version role ephemeral credential hostRandom s
  | .open3 dt r sigOk service => Sys2Proof.Machine.execOpen3 dt r sigOk service s
  | .sessionClose dt r => Sys2Proof.Machine.execSessionClose dt r s
  | .blockData dt r handle offset data => Sys2Proof.Machine.execBlockData dt r handle offset data s
  | .discover dt peer => Sys2Proof.Machine.execDiscover dt peer s
  | .discoverReply dt => Sys2Proof.Machine.execDiscoverReply dt s
  | .unknownOpcode dt r opcode => Sys2Proof.Machine.execUnknownOpcode dt r opcode s
  | .frameDiscard dt f fec => Sys2Proof.Machine.execFrameDiscard dt f fec s
  | .protocolQuery dt peer q => Sys2Proof.Machine.execProtocolQuery dt peer q s
  | .sessionTimeout dt slot => Sys2Proof.Machine.execSessionTimeout dt slot s
  | .openTimeout dt slot => Sys2Proof.Machine.execOpenTimeout dt slot s
  | .enrolWindowEnd dt => Sys2Proof.Machine.execEnrolWindowEnd dt s
  | .claimLeaseExpiry dt first => Sys2Proof.Machine.execClaimLeaseExpiry dt first s
  | .eventResend dt slot => Sys2Proof.Machine.execEventResend dt slot s
  | .handleComplete dt slot failed data => Sys2Proof.Machine.execHandleComplete dt slot failed data s
  | .handleExpiry dt slot => Sys2Proof.Machine.execHandleExpiry dt slot s
  | .commitNotice dt => Sys2Proof.Machine.execCommitNotice dt s
  | .deviceCommit dt => Sys2Proof.Machine.execDeviceCommit dt s
  | .countEdge dt ch a b => Sys2Proof.Machine.execCountEdge dt ch a b s
  | .index dt ch width => Sys2Proof.Machine.execIndex dt ch width s
  | .wireEpisode50ns dt ch pair => Sys2Proof.Machine.execWireEpisode50ns dt ch pair s
  | .wireEpisodeEnd dt ch pair length => Sys2Proof.Machine.execWireEpisodeEnd dt ch pair length s
  | .wireEpisode1us dt ch pair => Sys2Proof.Machine.execWireEpisode1us dt ch pair s
  | .axisStop dt => Sys2Proof.Machine.execAxisStop dt s
  | .supervisorUnreachable dt => Sys2Proof.Machine.execSupervisorUnreachable dt s
  | .termSwingLow dt ch pair => Sys2Proof.Machine.execTermSwingLow dt ch pair s
  | .axisPreset dt r ty val => Sys2Proof.Machine.execAxisPreset dt r ty val s
  | .indexArm dt r sub ty val => Sys2Proof.Machine.execIndexArm dt r sub ty val s
  | .encReenable dt r sub ty val => Sys2Proof.Machine.execEncReenable dt r sub ty val s
  | .sourceRequest dt r ty val => Sys2Proof.Machine.execSourceRequest dt r ty val s
  | .fire dt head row line reads => Sys2Proof.Machine.execFire dt head row line reads s
  | .speedLimitRise dt => Sys2Proof.Machine.execSpeedLimitRise dt s
  | .lineOverrate dt => Sys2Proof.Machine.execLineOverrate dt s
  | .slowHoldExpiry dt => Sys2Proof.Machine.execSlowHoldExpiry dt s
  | .hostSpeedLimit dt r ty val => Sys2Proof.Machine.execHostSpeedLimit dt r ty val s
  | .trigOccurrence dt trig => Sys2Proof.Machine.execTrigOccurrence dt trig s
  | .timeTrigger dt trig => Sys2Proof.Machine.execTimeTrigger dt trig s
  | .trigPulseEnd dt trig => Sys2Proof.Machine.execTrigPulseEnd dt trig s
  | .streamData dt peer pkt => Sys2Proof.Machine.execStreamData dt peer pkt s
  | .probe dt peer pkt => Sys2Proof.Machine.execProbe dt peer pkt s
  | .ackInterval dt ring => Sys2Proof.Machine.execAckInterval dt ring s
  | .nak dt ring => Sys2Proof.Machine.execNak dt ring s
  | .streamEnable dt r sub ty val => Sys2Proof.Machine.execStreamEnable dt r sub ty val s
  | .streamReleaseTo dt r sub ty val => Sys2Proof.Machine.execStreamReleaseTo dt r sub ty val s
  | .netLink dt port up => Sys2Proof.Machine.execNetLink dt port up s
  | .decodeLine dt ring decoder reads => Sys2Proof.Machine.execDecodeLine dt ring decoder reads s
  | .decoderFault dt region decoder => Sys2Proof.Machine.execDecoderFault dt region decoder s
  | .storeRefresh dt bank busy => Sys2Proof.Machine.execStoreRefresh dt bank busy s
  | .stackTempRead dt temp => Sys2Proof.Machine.execStackTempRead dt temp s
  | .scrub dt pc upset => Sys2Proof.Machine.execScrub dt pc upset s
  | .sramScrub dt bank data check => Sys2Proof.Machine.execSramScrub dt bank data check s
  | .retireCopyDone dt entry => Sys2Proof.Machine.execRetireCopyDone dt entry s
  | .counterWriteback dt => Sys2Proof.Machine.execCounterWriteback dt s
  | .nozzleSave dt => Sys2Proof.Machine.execNozzleSave dt s
  | .screenLine dt engine reads => Sys2Proof.Machine.execScreenLine dt engine reads s
  | .windowRefill dt engine => Sys2Proof.Machine.execWindowRefill dt engine s
  | .tileCheck dt engine pass => Sys2Proof.Machine.execTileCheck dt engine pass s
  | .engineFault dt engine check => Sys2Proof.Machine.execEngineFault dt engine check s
  | .engineStall dt engine => Sys2Proof.Machine.execEngineStall dt engine s
  | .engineRemount dt engine => Sys2Proof.Machine.execEngineRemount dt engine s
  | .sliceFault dt slice => Sys2Proof.Machine.execSliceFault dt slice s
  | .regionFault dt region => Sys2Proof.Machine.execRegionFault dt region s
  | .dieFault dt die => Sys2Proof.Machine.execDieFault dt die s
  | .temperature dt head temp => Sys2Proof.Machine.execTemperature dt head temp s
  | .warmExit dt head => Sys2Proof.Machine.execWarmExit dt head s
  | .hotExit dt head => Sys2Proof.Machine.execHotExit dt head s
  | .telemetryTimeout dt head => Sys2Proof.Machine.execTelemetryTimeout dt head s
  | .nozzleSense dt head nozzle failed => Sys2Proof.Machine.execNozzleSense dt head nozzle failed s
  | .incompleteSegment dt head row line => Sys2Proof.Machine.execIncompleteSegment dt head row line s
  | .missedFires dt head row fseq missing => Sys2Proof.Machine.execMissedFires dt head row fseq missing s
  | .claimStatus dt head owner reason epoch => Sys2Proof.Machine.execClaimStatus dt head owner reason epoch s
  | .configResponse dt head tag status data => Sys2Proof.Machine.execConfigResponse dt head tag status data s
  | .configTimeout dt head tag => Sys2Proof.Machine.execConfigTimeout dt head tag s
  | .caps dt head words => Sys2Proof.Machine.execCaps dt head words s
  | .echoReply dt head reply => Sys2Proof.Machine.execEchoReply dt head reply s
  | .latencyMeasure dt head => Sys2Proof.Machine.execLatencyMeasure dt head s
  | .traceDetect dt head present => Sys2Proof.Machine.execTraceDetect dt head present s
  | .blockLock dt lane => Sys2Proof.Machine.execBlockLock dt lane s
  | .bringupStepFail dt head => Sys2Proof.Machine.execBringupStepFail dt head s
  | .lockLost dt head => Sys2Proof.Machine.execLockLost dt head s
  | .errorLimit dt head failures => Sys2Proof.Machine.execErrorLimit dt head failures s
  | .eyeRead dt head eye adapt => Sys2Proof.Machine.execEyeRead dt head eye adapt s
  | .claimSend dt head => Sys2Proof.Machine.execClaimSend dt head s
  | .traceEnable dt r sub ty val => Sys2Proof.Machine.execTraceEnable dt r sub ty val s
  | .tracePower dt r sub ty val => Sys2Proof.Machine.execTracePower dt r sub ty val s
  | .reinStopTimeout dt => Sys2Proof.Machine.execReinStopTimeout dt s
  | .reinReverseTimeout dt => Sys2Proof.Machine.execReinReverseTimeout dt s
  | .reinHoldTimeout dt => Sys2Proof.Machine.execReinHoldTimeout dt s
  | .reinRunTimeout dt => Sys2Proof.Machine.execReinRunTimeout dt s
  | .rearm dt => Sys2Proof.Machine.execRearm dt s
  | .pressRefuse dt r ty val => Sys2Proof.Machine.execPressRefuse dt r ty val s
  | .stopClear dt r ty val => Sys2Proof.Machine.execStopClear dt r ty val s
  | .lineTrigger dt port => Sys2Proof.Machine.execLineTrigger dt port s
  | .frameStart dt port packet => Sys2Proof.Machine.execFrameStart dt port packet s
  | .cameraLine dt port vc dtype pixels crcOk eccFixed upsets => Sys2Proof.Machine.execCameraLine dt port vc dtype pixels crcOk eccFixed upsets s
  | .frameEnd dt port packet => Sys2Proof.Machine.execFrameEnd dt port packet s
  | .startWindow dt port => Sys2Proof.Machine.execStartWindow dt port s
  | .exposureListDone dt sensor failed => Sys2Proof.Machine.execExposureListDone dt sensor failed s
  | .sliceDone dt slice => Sys2Proof.Machine.execSliceDone dt slice s
  | .cciBusStuck dt bus released => Sys2Proof.Machine.execCciBusStuck dt bus released s
  | .loopBar dt => Sys2Proof.Machine.execLoopBar dt s
  | .sync dt m ago => Sys2Proof.Machine.execSync dt m ago s
  | .followUp dt m => Sys2Proof.Machine.execFollowUp dt m s
  | .delayReq dt m ago => Sys2Proof.Machine.execDelayReq dt m ago s
  | .delayResp dt m => Sys2Proof.Machine.execDelayResp dt m s
  | .announce dt m d => Sys2Proof.Machine.execAnnounce dt m d s
  | .ptpOther dt port msgType => Sys2Proof.Machine.execPtpOther dt port msgType s
  | .announceTimeout dt => Sys2Proof.Machine.execAnnounceTimeout dt s
  | .ptpSendInterval dt port msgType => Sys2Proof.Machine.execPtpSendInterval dt port msgType s
  | .followUpTimeout dt => Sys2Proof.Machine.execFollowUpTimeout dt s
  | .timeRoleWrite dt r idx ty val => Sys2Proof.Machine.execTimeRoleWrite dt r idx ty val s
  | .txStampPop dt r sub ty val => Sys2Proof.Machine.execTxStampPop dt r sub ty val s
  | .evtCapture dt n rising dev crystal => Sys2Proof.Machine.execEvtCapture dt n rising dev crystal s
  | .capturePop dt r sub ty val => Sys2Proof.Machine.execCapturePop dt r sub ty val s
  | .pdCycle dt => Sys2Proof.Machine.execPdCycle dt s
  | .correlation dt => Sys2Proof.Machine.execCorrelation dt s
  | .heartbeat dt h b => Sys2Proof.Machine.execHeartbeat dt h b s
  | .heartbeatSend dt => Sys2Proof.Machine.execHeartbeatSend dt s
  | .pairAck dt h => Sys2Proof.Machine.execPairAck dt h s
  | .commitRecord dt h c shadows => Sys2Proof.Machine.execCommitRecord dt h c shadows s
  | .writeRecord dt h es => Sys2Proof.Machine.execWriteRecord dt h es s
  | .blockRecord dt h b => Sys2Proof.Machine.execBlockRecord dt h b s
  | .axisRecord dt h a => Sys2Proof.Machine.execAxisRecord dt h a s
  | .lposRecord dt h t count lpos => Sys2Proof.Machine.execLposRecord dt h t count lpos s
  | .lposSend dt => Sys2Proof.Machine.execLposSend dt s
  | .ringRecord dt h ring cum releaseTo ranges limit => Sys2Proof.Machine.execRingRecord dt h ring cum releaseTo ranges limit s
  | .digest dt h d => Sys2Proof.Machine.execDigest dt h d s
  | .loopRecord dt h b => Sys2Proof.Machine.execLoopRecord dt h b s
  | .reinRecord dt h b => Sys2Proof.Machine.execReinRecord dt h b s
  | .timeRecord dt h b => Sys2Proof.Machine.execTimeRecord dt h b s
  | .logRecord dt h b => Sys2Proof.Machine.execLogRecord dt h b s
  | .releaseRecord dt h trigger => Sys2Proof.Machine.execReleaseRecord dt h trigger s
  | .ident dt h b => Sys2Proof.Machine.execIdent dt h b s
  | .snapshot dt h b => Sys2Proof.Machine.execSnapshot dt h b s
  | .fill dt h b => Sys2Proof.Machine.execFill dt h b s
  | .echo dt h latency offset diff => Sys2Proof.Machine.execEcho dt h latency offset diff s
  | .echoSend dt => Sys2Proof.Machine.execEchoSend dt s
  | .recordResend dt seq => Sys2Proof.Machine.execRecordResend dt seq s
  | .partnerSilent dt => Sys2Proof.Machine.execPartnerSilent dt s
  | .mirrorTimeout dt => Sys2Proof.Machine.execMirrorTimeout dt s
  | .pairLaneChange dt lane aligned => Sys2Proof.Machine.execPairLaneChange dt lane aligned s
  | .peerLead dt asserted => Sys2Proof.Machine.execPeerLead dt asserted s
  | .searchTimeout dt => Sys2Proof.Machine.execSearchTimeout dt s
  | .enterIdle dt r => Sys2Proof.Machine.execEnterIdle dt r s
  | .enterSleep dt r f => Sys2Proof.Machine.execEnterSleep dt r f s
  | .enterDeepSleep dt r f => Sys2Proof.Machine.execEnterDeepSleep dt r f s
  | .enterOff dt r f => Sys2Proof.Machine.execEnterOff dt r f s
  | .returnToRun dt r => Sys2Proof.Machine.execReturnToRun dt r s
  | .coreIdleStop dt => Sys2Proof.Machine.execCoreIdleStop dt s
  | .wake dt crystal f => Sys2Proof.Machine.execWake dt crystal f s
  | .wakeTimer dt crystal => Sys2Proof.Machine.execWakeTimer dt crystal s
  | .pmbusAck dt poll after => Sys2Proof.Machine.execPmbusAck dt poll after s
  | .pmbusTimeout dt status => Sys2Proof.Machine.execPmbusTimeout dt status s
  | .pmbAlert dt rail status mv => Sys2Proof.Machine.execPmbAlert dt rail status mv s
  | .railTelemetry dt readings => Sys2Proof.Machine.execRailTelemetry dt readings s
  | .powerOnReset dt f => Sys2Proof.Machine.execPowerOnReset dt f s
  | .resetN dt release f => Sys2Proof.Machine.execResetN dt release f s
  | .startRetry dt f => Sys2Proof.Machine.execStartRetry dt f s
  | .brownout dt mv => Sys2Proof.Machine.execBrownout dt mv s
  | .vsupRecovered dt mv => Sys2Proof.Machine.execVsupRecovered dt mv s
  | .supervisorReset dt => Sys2Proof.Machine.execSupervisorReset dt s
  | .overvolt dt mv => Sys2Proof.Machine.execOvervolt dt mv s
  | .vsup3Overload dt => Sys2Proof.Machine.execVsup3Overload dt s
  | .dieTemp dt logic stack supervisor => Sys2Proof.Machine.execDieTemp dt logic stack supervisor s
  | .outputReadback dt output high => Sys2Proof.Machine.execOutputReadback dt output high s
  | .refclkLoss dt => Sys2Proof.Machine.execRefclkLoss dt s
  | .coreFault dt pairB error => Sys2Proof.Machine.execCoreFault dt pairB error s
  | .coreRestartDone dt pairB => Sys2Proof.Machine.execCoreRestartDone dt pairB s
  | .configStoreWrite dt => Sys2Proof.Machine.execConfigStoreWrite dt s
  | .lifeHour dt => Sys2Proof.Machine.execLifeHour dt s
  | .encCalDeferred dt ch taps => Sys2Proof.Machine.execEncCalDeferred dt ch taps s
  | .tapStep dt lane up => Sys2Proof.Machine.execTapStep dt lane up s
  | .statusClear dt r obj ty val => Sys2Proof.Machine.execStatusClear dt r obj ty val s
  | .storePartition dt r sub ty val => Sys2Proof.Machine.execStorePartition dt r sub ty val s
  | .errorLogClear dt r ty val => Sys2Proof.Machine.execErrorLogClear dt r ty val s
  | .defectLogClear dt r ty val => Sys2Proof.Machine.execDefectLogClear dt r ty val s
  | .storeFill dt r address length pattern cls => Sys2Proof.Machine.execStoreFill dt r address length pattern cls s
  | .storeCopy dt r source dest length cls => Sys2Proof.Machine.execStoreCopy dt r source dest length cls s
  | .integInject dt r a => Sys2Proof.Machine.execIntegInject dt r a s
  | .integReadRaw dt r memory address => Sys2Proof.Machine.execIntegReadRaw dt r memory address s
  | .rowRepair dt r pc sid bank row => Sys2Proof.Machine.execRowRepair dt r pc sid bank row s
  | .retire dt r pc sid bank block => Sys2Proof.Machine.execRetire dt r pc sid bank block s
  | .encode dt r args => Sys2Proof.Machine.execEncode dt r args s
  | .thresholdLoad dt r slot w h n crc => Sys2Proof.Machine.execThresholdLoad dt r slot w h n crc s
  | .nozzleTableWrite dt r first count crc => Sys2Proof.Machine.execNozzleTableWrite dt r first count crc s
  | .nozzleTableRead dt r first count pending => Sys2Proof.Machine.execNozzleTableRead dt r first count pending s
  | .nozzleTableSave dt r => Sys2Proof.Machine.execNozzleTableSave dt r s
  | .nozzleCountReset dt r first count => Sys2Proof.Machine.execNozzleCountReset dt r first count s
  | .traceBringUp dt r lane => Sys2Proof.Machine.execTraceBringUp dt r lane s
  | .bridgeAccess dt r lane write addr value => Sys2Proof.Machine.execBridgeAccess dt r lane write addr value s
  | .inspTableLoad dt r sensor table crc => Sys2Proof.Machine.execInspTableLoad dt r sensor table crc s
  | .frameHold dt r sensor frame hold => Sys2Proof.Machine.execFrameHold dt r sensor frame hold s
  | .cciAccess dt r port address flags register data op => Sys2Proof.Machine.execCciAccess dt r port address flags register data op s
  | .inspStatRead dt r sensor frame => Sys2Proof.Machine.execInspStatRead dt r sensor frame s
  | .timeAcceptJump dt r => Sys2Proof.Machine.execTimeAcceptJump dt r s
  | .ptpSend dt r port msg => Sys2Proof.Machine.execPtpSend dt r port msg s
  | .pdStart dt r cycle phase => Sys2Proof.Machine.execPdStart dt r cycle phase s
  | .pdStop dt r => Sys2Proof.Machine.execPdStop dt r s
  | .pair dt r => Sys2Proof.Machine.execPair dt r s
  | .unpair dt r => Sys2Proof.Machine.execUnpair dt r s
  | .handover dt r => Sys2Proof.Machine.execHandover dt r s
  | .imageWrite dt r length crc => Sys2Proof.Machine.execImageWrite dt r length crc s
  | .imageActivate dt r f => Sys2Proof.Machine.execImageActivate dt r f s
  | .imageConfirm dt r => Sys2Proof.Machine.execImageConfirm dt r s
  | .faultClear dt r => Sys2Proof.Machine.execFaultClear dt r s
  | .unknownCommand dt r idx => Sys2Proof.Machine.execUnknownCommand dt r idx s
  | .traceBlockDiscard dt head block => Sys2Proof.Machine.execTraceBlockDiscard dt head block s
  | .cameraPacketError dt port vc why => Sys2Proof.Machine.execCameraPacketError dt port vc why s
  | .jtagInstruction dt jtag => Sys2Proof.Machine.execJtagInstruction dt jtag s
  | .terminationDisconnect dt ch pair => Sys2Proof.Machine.execTerminationDisconnect dt ch pair s
  | .terminationReconnect dt ch pair => Sys2Proof.Machine.execTerminationReconnect dt ch pair s
  | .outputAgreement dt output => Sys2Proof.Machine.execOutputAgreement dt output s
  | .vsup3LoadRecovered dt => Sys2Proof.Machine.execVsup3LoadRecovered dt s
  | .vsupSample dt mv => Sys2Proof.Machine.execVsupSample dt mv s

end Sys2Proof.Machine
end

