-- ==== Sys2Proof/Safety.lean ====
section
/-! DEFINITION. What every state of a run satisfies: the page store's memory in canonical form, every log within its depth, and
every state code one that the spec names; and what it means that a request is served and answered. -/

namespace Sys2Proof.Machine

/-- The invariant of the block. -/
structure Inv (s : State) : Prop where
  /-- The page store's memory is in canonical form. -/
  mem : Memory.wf s.store.mem = true
  /-- R214: the error log holds at most 256 entries. -/
  errorLog : s.integ.log.length ≤ 256
  /-- R90: the index log holds at most 16 entries. -/
  indexLog : s.axis.indexLog.length ≤ 16
  /-- R400: the frame log holds at most 64 frames. -/
  frameLog : s.insp.log.length ≤ 64
  /-- R516: the wake fault log holds at most 16 records, and the permanent one (R515) at most 64. -/
  wakeLog : s.power.wakeLog.length ≤ 16
  wakePerm : s.power.wakePerm.length ≤ 64
  /-- R542: the start fault log holds at most 8 records. -/
  faultLog : s.start.faultLog.length ≤ 8
  /-- R523: `Power.State` is one of 0..4. -/
  power : s.power.state ≤ 4
  /-- R193: `Store.State` is one of 0..3. -/
  store : s.store.state ≤ 3
  /-- R526: the step of a start is at most 9. -/
  step : s.start.step ≤ 9
  /-- R497: `Pair.State` is one of 0..6. -/
  pair : s.pair.state ≤ 6

/-- The state in which a request of the session in slot `k` runs: time has passed, its frame is counted (R142), the session has been heard (R50)
and has noted the sequence number (R44), and the COMMITs that the session still holds have run (R59). -/
def servedState (dt : Nat) (r : Req) (k : Nat) (s : State) : State :=
  let s := frameIn r.peer (tick dt s)
  let s := s.setSess k { s.sess k with lastHeard := s.time.now, peer := r.peer }
  let s := flushHeld (fun h => h.slot == k) (noteSeq k r.seq.toNat s)
  { s with proto := { s.proto with served := k } }

/-- A request is served: its frame is heard (R43, R535), it is a new request of the open session in slot `k` (R44), its tick has room (R54),
and recovery mode lets it through (R535); `u` is the state in which it runs. -/
structure Served (dt : Nat) (r : Req) (recovery : Bool) (k : Nat) (s u : State) : Prop where
  heard : hears (tick dt s) r.peer = true
  fresh : freshSlot (tick dt s) r = some k
  state : u = servedState dt r k s
  room : (u.sess k).tickReqs ≤ 32
  open_ : barred u recovery = false

/-- It has gone out, with the tag that its port puts on what it sends (R139). -/
def Sent (o : Output) (s t : State) : Prop := o.withTag s ∈ t.model.tx

/-- The response has gone out, or waits for the wheeler (R476). -/
def Answered (k : Nat) (r : Req) (resp : Response) (t : State) : Prop :=
  (∃ peer sess, Output.response peer sess (BitVec.ofNat 64 r.seq.toNat) resp ∈ t.model.tx) ∨
    ∃ w ∈ t.proto.withheld, w.slot = k ∧ w.seq = r.seq.toNat ∧ w.resp = resp

/-- What has gone out is still in the record of outputs. -/
def TxKept (s t : State) : Prop := ∀ o ∈ s.model.tx, o ∈ t.model.tx

/-- Only the host's side has changed: sessions, handles and their order, `Dev.CommStatus`, what has gone out and what waits to go out. -/
structure Quiet (s t : State) : Prop where
  axis : t.axis = s.axis
  gait : t.gait = s.gait
  ports : t.ports = s.ports
  rings : t.rings = s.rings
  store : t.store = s.store
  integ : t.integ = s.integ
  screen : t.screen = s.screen
  noz : t.noz = s.noz
  fire : t.fire = s.fire
  lanes : t.lanes = s.lanes
  rein : t.rein = s.rein
  insp : t.insp = s.insp
  loop : t.loop = s.loop
  time : t.time = s.time
  pair : t.pair = s.pair
  power : t.power = s.power
  faults : t.faults = s.faults
  pending : t.pending = s.pending
  start : t.start = { s.start with held := t.start.held }
  free : t.model.free = s.model.free
  proto : t.proto = { s.proto with sessions := t.proto.sessions, handles := t.proto.handles, starts := t.proto.starts, comm := t.proto.comm, withheld := t.proto.withheld }

/-- A CMD_START passes every check but those of the command itself (R66, R67): its session's role, the lead (R475), the supervisor die where it
carries the command out (R19, R72), a handle and a mover channel; its handle takes slot `h`. -/
structure Starts (k idx role : Nat) (op : Op) (h : Nat) (u : State) : Prop where
  role : role ≤ (u.sess k).role
  lead : isWheeler u = false ∨ chipLocalCmd idx = true
  supervisor : u.axis.supervisorLost = false ∨ supervisorRuns idx = false
  slot : freeSlot u = some h
  mover : needsMover op = false ∨ moversUsed u < 96

/-- The handle in slot `h` runs the command `op` of the session in slot `k`. -/
structure Running (k h idx : Nat) (op : Op) (u t : State) : Prop where
  phase : (t.handle h).phase = .running
  op : (t.handle h).op = op
  cmd : (t.handle h).cmd = idx
  owner : (t.handle h).owner = (u.sess k).id

/-- The handle in slot `h` has ended with this result and this detail. -/
structure Completed (h code : Nat) (d : BitVec 96) (t : State) : Prop where
  phase : (t.handle h).phase = .done
  result : (t.handle h).result = code
  detail : (t.handle h).detail = d
  time : (t.handle h).doneAt = t.time.now

/-- R55, R58: a WRITE of these entries is served, no rival of its tick outranks it, and every entry passes; it takes effect in `v`. -/
structure WritePasses (dt : Nat) (r : Req) (es : List Entry) (k : Nat) (s v : State) : Prop where
  served : ∃ u, Served dt r false k s u ∧ arbitrate k r (objectKeys es) false u = (none, v)
  count : 1 ≤ es.length ∧ es.length ≤ 64
  passes : judgeEntries v es (claimsOfTick v) (v.sess k).id (v.sess k).role false es 0 = none

/-- R29: no command of the same instant is still to come, and no engine fault of this fabric cycle has been handled yet, so that a fault found now
is the only one of its cycle. -/
structure LoneFault (dt : Nat) (s : State) : Prop where
  queue : ∀ i ∈ s.pending, instrTime i ≠ 0
  cycle : s.screen.faultCycle ≠ (s.time.now + dt) / 1000

/-- Nothing is wrong in the page store or the SRAM, and the host has injected nothing (R195, R202, R203). -/
structure CleanMemories (s : State) : Prop where
  marks : s.store.marks = []
  unwritten : s.store.unwritten = []
  skipped : s.integ.skipped = []
  sram : s.integ.sramErr = []

/-- R526: what a start keeps of a state, and the rails it has on record, as it enters step 1; `ram`: stable RAM has kept its contents. -/
def atStepOne (ram : Bool) (s : State) : State :=
  { freshState ram s with start := { (freshState ram s).start with step := 1, rails := storedRails (freshState ram s) } }

/-- R471: a record of the pair link that is heard, verifies and has not come before. -/
structure FreshRecord (h : PairHdr) (s : State) : Prop where
  runs : pairRuns s = true
  crc : h.crcOk = true
  above : s.pair.rxSeq < h.seq
  new : s.pair.rxAbove.contains h.seq = false

end Sys2Proof.Machine
end

