-- ==== Sys2Proof/Certificates/Slice0/Obligations.lean ====
section
/-! DEFINITION. What is to be proved of the block: each statement names the rules that it formalises. A row's own effect is stated where its
conditions, which are on the state and the operands alone, hold; `tick dt s` is the state after the time that the row carries. -/

open Sys2Proof Sys2Proof.Machine

/-! ### The block as a whole -/

/-- The command at the front of the queue is what a step runs, on the rest of the queue. -/
def Obligations.StepRunsFrontCommand : Prop := ∀ (c : Instr) (rest : List Instr) (s : State),
  step { s with pending := c :: rest } = exec c { s with pending := rest }

/-- Log 7: on an empty queue the block idles. -/
def Obligations.IdleStepKeepsState : Prop := ∀ s : State, s.pending = [] → step s = .next s

/-- Every command of the table ends in a next state, in every state. -/
def Obligations.EveryCommandAnswers : Prop := ∀ (c : Instr) (s : State), ∃ t, exec c s = .next t

/-- A command changes neither the queue nor what has gone out before, and lets exactly the time pass that it carries (log 1). -/
def Obligations.CommandKeepsQueueAndOutputs : Prop := ∀ (c : Instr) (s t : State), exec c s = .next t →
  t.pending = s.pending ∧ t.time.now = s.time.now + instrTime c ∧ TxKept s t

/-- The state after reset meets the invariant. -/
def Obligations.ResetMeetsInvariant : Prop := Inv State.reset

/-- R168, R214, R90, R400, R515, R516, R542, R523, R193, R526, R497: every step keeps the invariant: the page store's memory stays in canonical form,
every log within its depth, and every state code one that the spec names. -/
def Obligations.StepKeepsInvariant : Prop := ∀ s t : State, Inv s → step s = .next t → Inv t

/-- R166: a byte of the page store reads as the last byte stored there; every other byte reads as before. -/
def Obligations.StoredBytesReadBack : Prop := ∀ (m : Tab Byte) (a : Nat) (d : List Byte) (b : Nat),
  loadByte (storeBytes m a d) b = if a ≤ b ∧ b < a + d.length then d.getD (b - a) 0 else loadByte m b

/-! ### Requests of the host -/

/-- R55, R64, R210: a READ that is served is answered with the generation and, for each entry in order, its result and value; stored data that are
found uncorrectable are logged, and where none are, nothing but the host's side of the state changes. An answer that no message holds (R41) is
refused with 0303h, which is the model's choice (log 67). -/
def Obligations.ReadAnswersEachEntry : Prop := ∀ (dt : Nat) (r : Req) (es : List ReadEntry) (k : Nat) (s u : State) (answer : Response),
  Served dt r false k s u → 1 ≤ es.length → es.length ≤ 64 →
  answer = ⟨0x01, 0, .values (datumGen u) (es.map (readEntry u (u.sess k).role))⟩ →
  ∃ t, exec (.read dt r es) s = .next t ∧ Quiet (readErrors es (u.sess k).role u) t ∧
    (es.all (fun e => e.ue.isNone) = true → Quiet u t) ∧
    ((respBytes answer).length ≤ maxPayload → Answered k r answer t) ∧
    (maxPayload < (respBytes answer).length → Answered k r ⟨0x01, 0x0303, .none⟩ t)

/-- R55, R58, R210: a WRITE that passes is answered 0000h and every entry takes effect, in order; one with an entry that does not pass, or that a
rival of its tick outranks, is answered with the code and changes nothing but the host's side of the state, and the log of errors where the
entry's stored data are uncorrectable (0702h). -/
def Obligations.WriteAppliesAllOrNone : Prop := ∀ (dt : Nat) (r : Req) (es : List Entry) (k : Nat) (s u v : State),
  (WritePasses dt r es k s v →
    ∃ t, exec (.write dt r es) s = .next t ∧ Quiet (applyEntries es v) t ∧ Answered k r ⟨0x02, 0, .none⟩ t) ∧
  (Served dt r false k s u → 1 ≤ es.length → es.length ≤ 64 →
    (∀ code pos, arbitrate k r (objectKeys es) false u = (none, v) →
      judgeEntries v es (claimsOfTick v) (v.sess k).id (v.sess k).role false es 0 = some (code, pos) →
      ∃ t, exec (.write dt r es) s = .next t ∧ Quiet (badEntry 0x02 code pos es v).state t ∧ (code ≠ 0x0702 → Quiet v t) ∧
        Answered k r ⟨0x02, code, .position pos⟩ t) ∧
    (∀ winner, arbitrate k r (objectKeys es) false u = (some winner, v) →
      ∃ t, exec (.write dt r es) s = .next t ∧ Quiet v t ∧ Answered k r ⟨0x02, 0x0601, .winner winner⟩ t))

/-- R94, R87, R85, R101, R132, R380, R379: writes of the axis, of the line and of the rein that pass. -/
def Obligations.AxisWritesTakeEffect : Prop := ∀ (dt : Nat) (r : Req) (sub ty k : Nat) (n : Int) (s v : State),
  (WritePasses dt r [entry 0x4035 0 ty (.num n)] k s v →
    ∃ t, exec (.axisPreset dt r ty (.num n)) s = .next t ∧ Quiet (presetTo (ofLpos n) v) t ∧ t.axis.state = 1 ∧ t.gait.w = ofLpos n) ∧
  (WritePasses dt r [entry 0x4025 sub ty (.num 1)] k s v →
    ∃ t, exec (.indexArm dt r sub ty (.num 1)) s = .next t ∧ Quiet (armIndex sub v) t ∧ (t.chan sub).armed = true) ∧
  (WritePasses dt r [entry 0x4037 sub ty (.num 1)] k s v →
    ∃ t, exec (.encReenable dt r sub ty (.num 1)) s = .next t ∧ Quiet (reenable sub v) t ∧ (t.chan sub).faulty = false ∧
      (t.chan sub).illegal = [] ∧ (t.chan sub).refNext = true) ∧
  (WritePasses dt r [entry 0x4003 0 ty (.num n)] k s v →
    ∃ t, exec (.sourceRequest dt r ty (.num n)) s = .next t ∧ t.axis.source = n.toNat ∧ cfg t 0x4003 0 = n ∧
      (n.toNat ≠ v.axis.source → t.axis.confidence = false)) ∧
  (WritePasses dt r [entry 0x4051 0 ty (.num n)] k s v →
    ∃ t, exec (.hostSpeedLimit dt r ty (.num n)) s = .next t ∧ cfg t 0x4051 0 = n ∧ t.axis = v.axis ∧ t.store = v.store) ∧
  (WritePasses dt r [entry 0x408A 0 ty (.num 1)] k s v →
    ∃ t, exec (.pressRefuse dt r ty (.num 1)) s = .next t ∧ Quiet (reinAbandon 5 v) t ∧ t.rein.state = 0) ∧
  (WritePasses dt r [entry 0x408C 0 ty (.num 1)] k s v →
    ∃ t, exec (.stopClear dt r ty (.num 1)) s = .next t ∧ Quiet { v with faults := { v.faults with stopLost := false } } t)

/-- R161, R150, R170, R361, R364, R215, R333: writes of a ring, of the partitions, of a trace link and of the logs that pass. -/
def Obligations.StreamStoreTraceWritesTakeEffect : Prop := ∀ (dt : Nat) (r : Req) (sub ty k : Nat) (n : Nat) (b : List Byte) (s v : State),
  (WritePasses dt r [entry 0x5006 sub ty (.num 1)] k s v →
    ∃ t, exec (.streamEnable dt r sub ty (.num 1)) s = .next t ∧ (t.ring sub).enable = true ∧
      ((v.ring sub).enable = true → t.ring sub = v.ring sub) ∧
      ((v.ring sub).enable = false → (t.ring sub).cum = 0 ∧ (t.ring sub).release = 0 ∧ (t.ring sub).index = [] ∧ (t.ring sub).ranges = [])) ∧
  (WritePasses dt r [entry 0x5006 sub ty (.num 0)] k s v →
    ∃ t, exec (.streamEnable dt r sub ty (.num 0)) s = .next t ∧ t.ring sub = { v.ring sub with enable := false } ∧
      ∀ m, m ≠ sub → t.ring m = v.ring m) ∧
  (WritePasses dt r [entry 0x500C sub ty (.num n)] k s v →
    ∃ t, exec (.streamReleaseTo dt r sub ty (.num n)) s = .next t ∧ Quiet (releaseTo sub n v) t ∧ t.store = v.store) ∧
  (WritePasses dt r [entry 0x5040 sub ty (.bytes b)] k s v →
    ∃ t, exec (.storePartition dt r sub ty (.bytes b)) s = .next t ∧ (baseVal t 0x5040 sub).1 = .bytes b ∧ t.store.mem = v.store.mem) ∧
  (WritePasses dt r [entry 0x7043 sub ty (.num 1)] k s v →
    ∃ t, exec (.traceEnable dt r sub ty (.num 1)) s = .next t ∧
      ((v.lane sub).state = 0 → (t.lane sub).state = 1 ∧ (t.lane sub).step = 1) ∧ ((v.lane sub).state ≠ 0 → t.lane sub = v.lane sub)) ∧
  (WritePasses dt r [entry 0x7043 sub ty (.num 0)] k s v →
    ∃ t, exec (.traceEnable dt r sub ty (.num 0)) s = .next t ∧ (t.lane sub).state = 0 ∧ (t.lane sub).requests = []) ∧
  (WritePasses dt r [entry 0x7049 sub ty (.num n)] k s v →
    ∃ t, exec (.tracePower dt r sub ty (.num n)) s = .next t ∧
      (n = 0 → (v.lane sub).state = 7 → (t.lane sub).state = 6 ∧ (t.lane sub).power = 0) ∧
      (n ≠ 0 → laneActive v sub = true → (t.lane sub).powerReq = some n)) ∧
  (WritePasses dt r [entry 0xB021 0 ty (.num 1)] k s v →
    ∃ t, exec (.errorLogClear dt r ty (.num 1)) s = .next t ∧ Quiet { v with integ := { v.integ with log := [] } } t) ∧
  (WritePasses dt r [entry 0x7035 0 ty (.num 1)] k s v →
    ∃ t, exec (.defectLogClear dt r ty (.num 1)) s = .next t ∧ t.fire = { v.fire with defects := [] })

/-- R441, R445, R455: writes of the roles of the clock, and pops of the stamp and capture queues, that pass. R71: a write of a status word that passes
clears the flags that it names, and no others; one that the hardware sets at that instant stays set; the counts stay; an encoder's faulty bit
stays. -/
def Obligations.TimeAndStatusWritesTakeEffect : Prop :=
  (∀ (dt : Nat) (r : Req) (idx sub ty k : Nat) (n : Nat) (s v : State),
    (WritePasses dt r [entry 0x9000 0 ty (.num n)] k s v →
      ∃ t, exec (.timeRoleWrite dt r 0x9000 ty (.num n)) s = .next t ∧ timeRole t = n ∧ t.time.hasMaster = false ∧
        ∀ m, m < 3 → (t.ptpPort m).state = 1 ∧ (t.ptpPort m).foreign = []) ∧
    (idx ∈ [0x9001, 0x9002, 0x9003, 0x9004, 0x9006] → WritePasses dt r [entry idx 0 ty (.num n)] k s v →
      ∃ t, exec (.timeRoleWrite dt r idx ty (.num n)) s = .next t ∧ cfg t idx 0 = n) ∧
    (WritePasses dt r [entry 0x9021 sub ty (.num n)] k s v →
      ∃ t, exec (.txStampPop dt r sub ty (.num n)) s = .next t ∧ t.ptpPort sub = { v.ptpPort sub with tx := (v.ptpPort sub).tx.drop n }) ∧
    (WritePasses dt r [entry 0x9052 sub ty (.num n)] k s v →
      ∃ t, exec (.capturePop dt r sub ty (.num n)) s = .next t ∧ t.evt sub = { v.evt sub with queue := (v.evt sub).queue.drop n })) ∧
  (∀ (dt : Nat) (r : Req) (obj : FlagObj) (ty k : Nat) (n : Nat) (s v : State) (f : Flags)
      (mask : BitVec 32) (of : State → Flags),
    WritePasses dt r [entry (flagKey obj).1 (flagKey obj).2 ty (.num n)] k s v →
    (of, mask) = (match obj with
      | .comm => (fun x => x.proto.comm, BitVec.ofNat 32 n)
      | .vsup => (fun x => x.power.vsup, BitVec.ofNat 32 n)
      | .enc c => (fun x => (x.chan c).status, BitVec.ofNat 32 n &&& ~~~ (BitVec.ofNat 32 (2 ^ encFaulty)))
      | .stream m => (fun x => (x.ring m).status, BitVec.ofNat 32 n)
      | .txStamp m => (fun x => (x.ptpPort m).txStatus, BitVec.ofNat 32 n)
      | .evt m => (fun x => (x.evt m).status, BitVec.ofNat 32 n)
      | .output => (fun x => x.faults.output, BitVec.ofNat 32 n)
      | .cal => (fun x => x.start.cal, BitVec.ofNat 32 n)) →
    f = of v →
    ∃ t, exec (.statusClear dt r obj ty (.num n)) s = .next t ∧ (of t).counts = f.counts ∧
      ∀ b, b < 32 → (of t).on b = (f.on b && (!mask.getLsbD b || (f.setNow v.time.now).getLsbD b)))

/-- R60: STAGE puts its entries into the session's staging set of at most 1,024 objects, a later entry of an object replacing the earlier one and
using no new place; one beyond the 1,024th is refused with 0503h and the set stays as it was; no object changes. DISCARD empties the set. -/
def Obligations.StagingSet : Prop :=
  (∀ (dt : Nat) (r : Req) (k : Nat) (s u : State), Served dt r false k s u →
    (∀ (es : List Entry) (v : State), 1 ≤ es.length → es.length ≤ 64 → arbitrate k r (objectKeys es) false u = (none, v) →
      judgeEntries v es (claimsOfTick v) (v.sess k).id (v.sess k).role true es 0 = none →
      (∀ l, stageAll (v.sess k).staging (es.map stagedWrite) 0 = (l, none) →
        ∃ t, exec (.stage dt r es) s = .next t ∧ Answered k r ⟨0x03, 0, .none⟩ t ∧ (t.sess k).staging = l ∧ t.proto.cfg = v.proto.cfg) ∧
      (∀ l p, stageAll (v.sess k).staging (es.map stagedWrite) 0 = (l, some p) →
        ∃ t, exec (.stage dt r es) s = .next t ∧ Answered k r ⟨0x03, 0x0503, .position p⟩ t ∧ (t.sess k).staging = (v.sess k).staging ∧
          t.proto.cfg = v.proto.cfg)) ∧
    (1 ≤ (u.sess k).role →
      ∃ t, exec (.discard dt r) s = .next t ∧ Answered k r ⟨0x06, 0, .none⟩ t ∧ (t.sess k).staging = [] ∧ t.proto.cfg = u.proto.cfg)) ∧
  (∀ (l ws l' : List ObjWrite) (n : Nat), l.length ≤ 1024 → stageAll l ws n = (l', none) → l'.length ≤ 1024 ∧
    ∀ w ∈ ws, ∃ x ∈ l', x.idx = w.idx ∧ x.sub = w.sub) ∧
  (∀ (l : List ObjWrite) (w : ObjWrite), w ∈ stageObject l w ∧ (∀ x ∈ stageObject l w, x.idx = w.idx → x.sub = w.sub → x = w) ∧
    (∀ x ∈ l, ¬(x.idx = w.idx ∧ x.sub = w.sub) → x ∈ stageObject l w) ∧
    ((∃ x ∈ l, x.idx = w.idx ∧ x.sub = w.sub) → (stageObject l w).length ≤ l.length))

/-- R61: CHECK judges the staging set as a COMMIT would, answers what it finds with at most 32 failures, and changes nothing but the host's side. R62,
R63: a COMMIT that passes is answered 0002h with its generation and its line, the commit waits for that line, and the staging set is empty; held
COMMITs that it leaves free to run then run (R59). R62, R63: the notice of a commit that has passed goes out once; a change that the device makes
itself is committed as soon as it is ready. -/
def Obligations.CheckAndCommit : Prop :=
  (∀ (dt : Nat) (r : Req) (k : Nat) (s u : State), Served dt r false k s u → 1 ≤ (u.sess k).role →
    ∃ t, exec (.check dt r) s = .next t ∧ Quiet u t ∧ (t.sess k).staging = (u.sess k).staging ∧
      match judgeCheck u (u.sess k).staging r.src with
      | .refused c => Answered k r ⟨0x04, c, .none⟩ t
      | .failed f => Answered k r ⟨0x04, 0x0405, .failures f.length (f.take 32)⟩ t
      | .passes _ => Answered k r ⟨0x04, 0, .none⟩ t) ∧
  (∀ (dt : Nat) (r : Req) (target : Nat) (lpos : Int) (k : Nat) (s u v : State) (L : Int),
    Served dt r false k s u → isWheeler u = false → 1 ≤ (u.sess k).role → arbitrate k r (stagedKeys u k) true u = (none, v) →
    commitAhead v (arbReq v k r (stagedKeys u k) true) = false →
    judgeCommit (wakeForJob k v) ((wakeForJob k v).sess k).staging target lpos r.src = .passes L →
    ∃ t, exec (.commit dt r target lpos) s = .next (flushReady t) ∧
      Answered k r ⟨0x05, 0x0002, .accepted (nextGen (wakeForJob k v).proto.gen) L⟩ t ∧ (t.sess k).staging = [] ∧
      ∃ c ∈ t.proto.commits, c.gen = nextGen (wakeForJob k v).proto.gen ∧ c.line = L ∧ c.passed = false) ∧
  (∀ (dt : Nat) (s : State),
    (∀ c, s.proto.commits.find? (fun x => x.passed && !x.noticed) = some c → ∃ t, exec (.commitNotice dt) s = .next t ∧
      t.proto.commits = s.proto.commits.map (fun x => if x.gen = c.gen then { x with noticed := true } else x) ∧ t.gait = s.gait ∧ t.noz = s.noz) ∧
    (s.proto.commits.find? (fun x => x.passed && !x.noticed) = none → ∃ t, exec (.commitNotice dt) s = .next t ∧ t.proto = s.proto) ∧
    (∀ d, holdsLead s = true → s.proto.waiting.find? (changeReady (tick dt s)) = some d → ∃ t, exec (.deviceCommit dt) s = .next t ∧
      t = commitChange d (tick dt s)) ∧
    (holdsLead s = false ∨ (∀ d ∈ s.proto.waiting, changeReady (tick dt s) d = false) → ∃ t, exec (.deviceCommit dt) s = .next t ∧ t.proto = s.proto ∧ t.noz = s.noz))

/-- R57: CLAIM adds a claim with its lease, RELEASE drops the session's claims that begin at an index, and a lease that has run out ends. R68:
SUBSCRIBE sets the ranges and the least severity of the session's event queue and keeps its records; UNSUBSCRIBE ends the subscription. -/
def Obligations.ClaimsAndSubscriptions : Prop :=
  (∀ (dt : Nat) (r : Req) (first : Nat) (k : Nat) (s u : State), Served dt r false k s u →
    (∀ count lease, claimCode u (liveClaims u) (u.sess k).role first count lease = 0 →
      ∃ t, exec (.claim dt r first count lease) s = .next t ∧ Answered k r ⟨0x09, 0, .none⟩ t ∧
        t.proto.claims = u.proto.claims ++ [⟨first, count, (u.sess k).id, (u.sess k).role, u.time.now + lease * sec⟩]) ∧
    (¬(0xF000 ≤ first ∧ (u.sess k).role < 3) →
      ∃ t, exec (.release dt r first) s = .next t ∧ Answered k r ⟨0x0A, 0, .none⟩ t ∧
        t.proto.claims = u.proto.claims.filter (fun c => !(c.session == (u.sess k).id && c.first == first))) ∧
    (∃ t, exec (.claimLeaseExpiry dt first) s = .next t ∧
      t.proto.claims = s.proto.claims.filter (fun c => !(c.first == first && decide (c.expires ≤ s.time.now + dt))))) ∧
  (∀ (dt : Nat) (r : Req) (k : Nat) (s u : State), Served dt r false k s u →
    (∀ ranges minSev, ranges ≠ [] → ranges.length ≤ 8 → minSev ≤ 3 →
      ∃ t q, exec (.subscribe dt r ranges minSev) s = .next t ∧ Answered k r ⟨0x0B, 0, .none⟩ t ∧
        (t.sess k).queue = some q ∧ q.subscribed = true ∧ q.ranges = ranges ∧ q.minSev = minSev ∧ q.records = ((u.sess k).queue.getD {}).records) ∧
    (∃ t, exec (.unsubscribe dt r) s = .next t ∧ Answered k r ⟨0x0C, 0, .none⟩ t ∧
        (t.sess k).queue = (u.sess k).queue.map (fun q => { q with subscribed := false, ranges := [], minSev := 0 })))

/-- R46, R48, R49: OPEN_1 takes a free session, derives its keys and is answered with OPEN_2, or is answered 0102h or 0501h and opens none; OPEN_3
opens the session or frees it, and OPEN_4 says which. -/
def Obligations.SessionOpens : Prop := ∀ (dt : Nat) (s : State),
  (∀ (peer : Peer) (src : BitVec 16) (version role : Nat) (a b c : List Byte), hears (tick dt s) peer = true →
    ∃ t, exec (.open1 dt peer src version role a b c) s = .next t ∧
      (version ≠ 1 → Sent (.plain peer 0x10 0x0102) s t ∧ t.proto = s.proto) ∧
      (version = 1 → freeSession s = none → Sent (.plain peer 0x10 0x0501) s t ∧ t.proto = s.proto) ∧
      (∀ k, version = 1 → freeSession s = some k →
        (t.sess k).phase = .opening ∧ (t.sess k).reqRole = role ∧ (t.sess k).node = src ∧ (t.sess k).id ≠ 0 ∧
        (t.sess k).openedAt = s.time.now + dt ∧ ((t.sess k).keyIn, (t.sess k).keyOut) = sessionKeys s.model.free a c ∧
        ∃ payload, Sent (.open2 peer (t.sess k).id payload) s t ∧ (t.sess k).transcript = natBytes 1 role ++ a ++ b ++ c ++ payload)) ∧
  (∀ (r : Req) (sigOk service : Bool) (k : Nat), openingSlot (tick dt s) r.sess = some k → r.seq.getLsbD 63 = false →
    hears (tick dt s) r.peer = true →
    ∃ t c, exec (.open3 dt r sigOk service) s = .next t ∧ Sent (.open4 r.peer (s.sess k).id r.seq c) s t ∧
      (c = (openVerdict (frameIn r.peer (tick dt s)) (s.sess k) sigOk service).1) ∧
      (c = 0 ∨ c = 3 → (t.sess k).phase = .opened ∧ (t.sess k).role = (s.sess k).reqRole ∧ (t.sess k).highSeq = r.seq.toNat ∧
        (t.sess k).lastHeard = s.time.now + dt) ∧
      (c ≠ 0 → c ≠ 3 → t.sess k = {}))

/-- R48, R49, R50, R67: the time-outs of an opening session, of the enrolment window, of a session and of a handle. R50: SESSION_CLOSE is answered and
ends the session: its slot is free and its claims are gone. -/
def Obligations.SessionsAndHandlesEnd : Prop :=
  (∀ (dt : Nat) (s : State),
    (∀ slot : Fin 8, (s.sess slot).phase = .opening → (s.sess slot).openedAt + sec ≤ s.time.now + dt →
      ∃ t, exec (.openTimeout dt slot) s = .next t ∧ t.sess slot = {} ∧ ∀ m, m ≠ slot.val → t.sess m = s.sess m) ∧
    (s.time.coldStart + 600 * sec ≤ s.time.now + dt →
      ∃ t, exec (.enrolWindowEnd dt) s = .next t ∧ enrolOpen t = false ∧ t.proto.sessions = s.proto.sessions) ∧
    (∀ slot : Fin 8, (s.sess slot).phase = .opened → (s.sess slot).lastHeard + cfgN (tick dt s) 0x1011 0 * sec ≤ s.time.now + dt →
      ∃ t, exec (.sessionTimeout dt slot) s = .next t ∧ t.sess slot = {} ∧ (s.sess slot).id ∈ t.proto.expired ∧
        (∀ c ∈ t.proto.claims, c.session ≠ (s.sess slot).id) ∧ ∀ m, m ≠ slot.val → t.sess m = s.sess m) ∧
    (∀ slot : Fin 256, (s.handle slot).phase = .done → (s.handle slot).owner = 0 → (s.handle slot).doneAt + 60 * sec ≤ s.time.now + dt →
      ∃ t, exec (.handleExpiry dt slot) s = .next t ∧ (t.handle slot).phase = .free ∧ (t.handle slot).use = (s.handle slot).use ∧
        ∀ m, m ≠ slot.val → t.handle m = s.handle m)) ∧
  (∀ (dt : Nat) (r : Req) (k : Nat) (s u : State), Served dt r true k s u →
    ∃ t, exec (.sessionClose dt r) s = .next t ∧ t.sess k = {} ∧ (∀ c ∈ t.proto.claims, c.session ≠ (u.sess k).id) ∧
      (u.proto.withheld.all (fun w => w.slot != k) = true → Answered k r ⟨0x14, 0, .none⟩ t))

/-- R50, R70: KEEPALIVE, EVENT_ACK and the resending of events. -/
def Obligations.EventQueueService : Prop :=
  (∀ (dt : Nat) (r : Req) (k : Nat) (s u : State), Served dt r true k s u →
    ∃ t, exec (.keepalive dt r) s = .next t ∧ Answered k r ⟨0x0F, 0, .none⟩ t ∧ ∀ q ∈ (t.sess k).queue, q.stopped = false) ∧
  (∀ (dt : Nat) (r : Req) (rseq k : Nat) (s u : State) (q : EventQueue), Served dt r false k s u → (u.sess k).queue = some q →
    ∃ t q', exec (.eventAck dt r rseq) s = .next t ∧ (t.sess k).queue = some q' ∧ q'.stopped = false ∧
      (q.pendingLost = 0 → q'.records = q.records.filter (fun x => decide (rseq < x.rseq)))) ∧
  (∀ (dt : Nat) (slot : Fin 8) (s : State) (q : EventQueue), (s.sess slot).queue = some q → q.stopped = false →
    q.records.any (fun x => decide (x.rseq ≤ q.pushed)) = true → q.lastPush + 20 * ms ≤ s.time.now + dt → serverUp (tick dt s) = true →
    ∃ t q', exec (.eventResend dt slot) s = .next t ∧ (t.sess slot).queue = some q' ∧ q'.records = q.records ∧
      if (q.records.filter (fun x => decide (x.rseq ≤ q.pushed))).any (fun x => decide (5 ≤ tget 0 q.sends x.rseq)) = true
      then q'.stopped = true
      else q'.stopped = false ∧ q'.lastPush = s.time.now + dt)

/-- R46, R140: DISCOVER is answered after the device's own delay; a query of another protocol for an address or a group of the port is answered. R53,
R66: an opcode, or a command, that names nothing is refused. -/
def Obligations.DiscoveryAndProtocols : Prop :=
  (∀ (dt : Nat) (s : State),
    (∀ peer : Peer, hears (tick dt s) peer = true →
      ∃ t, exec (.discover dt peer) s = .next t ∧
        t.proto.discover = s.proto.discover ++ [⟨peer, s.time.now + dt + (ownNode (tick dt s)).toNat % 64 * 100 * us⟩]) ∧
    (∀ d rest, s.proto.discover = d :: rest → d.due ≤ s.time.now + dt → hears (tick dt s) d.peer = true →
      ∃ t, exec (.discoverReply dt) s = .next t ∧ t.proto.discover = rest ∧
        Sent (.discover d.peer (ownNode s) Config.serial stepping (firmwareRelease s) Config.publicKey
          (((List.range 8).filter (fun i => (s.sess i).phase == .free)).length + if s.start.recovery then 128 else 0) (enrolOpen (tick dt s))) s t) ∧
    (∀ (peer : Peer) (q : Asked), receiverRuns s = true → s.power.down = false → s.faults.resetN = false →
      ∃ t, exec (.protocolQuery dt peer q) s = .next t ∧
        tget 0 (t.port (peerNum peer)).stats 0 = tget 0 (s.port (peerNum peer)).stats 0 + 1 ∧
        (∀ kind groups, queryAnswer s (peerNum peer) q = some (kind, groups) → Sent (.protocolReply peer kind groups) s t) ∧
        (queryAnswer s (peerNum peer) q = none → t.model = s.model))) ∧
  (∀ (dt : Nat) (r : Req) (k : Nat) (s u : State), Served dt r false k s u →
    (∀ opcode, ∃ t, exec (.unknownOpcode dt r opcode) s = .next t ∧ Answered k r ⟨opcode, 0x0101, .none⟩ t) ∧
    (∀ idx, ∃ t, exec (.unknownCommand dt r idx) s = .next t ∧
      Answered k r ⟨0x07, if 0xF000 ≤ idx ∧ (u.sess k).role < 3 then 0x0203 else 0x0301, .none⟩ t))

/-- R40, R41, R139 to R142: a received frame that is no row of its own is counted by the first of these that holds: a bad FCS, an excess of length or
tags, MAC control, an address that the filter does not pass, a frame that no one takes; a message of another KIND or length is MALFORMED; the
codewords that its port corrected are counted with it. R42 to R45: a message that a session cannot run: one whose tag does not verify, one for
another node, and a broadcast of a request, which is refused with 0105h. -/
def Obligations.FramesThatDoNotRun : Prop :=
  (∀ (dt n : Nat) (f : RxFrame) (fec : Codewords) (s : State) (long : Prop),
    receiverRuns s = true → s.power.down = false → s.faults.resetN = false → n = peerNum (framePeer f) →
    (long ↔ 1 < f.tags.length ∨ (if f.tags.isEmpty then 9018 else 9022) < f.length) →
    ∃ t, exec (.frameDiscard dt f fec) s = .next t ∧ (∀ m, m ≠ n → t.port m = s.port m) ∧
      (n ≠ 2 → tget 0 (t.port n).stats 2 = tget 0 (s.port n).stats 2 + BitVec.ofNat 64 fec.fixed ∧
        tget 0 (t.port n).stats 3 = tget 0 (s.port n).stats 3 + BitVec.ofNat 64 fec.bad) ∧
      (f.fcsOk = false → tget 0 (t.port n).stats 1 = tget 0 (s.port n).stats 1 + 1 ∧ t.proto = s.proto) ∧
      (f.fcsOk = true → long → tget 0 (t.port n).stats 0 = tget 0 (s.port n).stats 0 + 1 ∧
        tget 0 (t.port n).stats 4 = tget 0 (s.port n).stats 4 + 1 ∧ t.proto = s.proto) ∧
      (f.fcsOk = true → ¬long → f.etherType = 0x8808 → tget 0 (t.port n).stats 0 = tget 0 (s.port n).stats 0 + 1 ∧
        tget 0 (t.port n).stats 5 = tget 0 (s.port n).stats 5 + 1 ∧ t.proto = s.proto) ∧
      (f.fcsOk = true → ¬long → f.etherType ≠ 0x8808 → passesFilter s n f = false →
        tget 0 (t.port n).stats 0 = tget 0 (s.port n).stats 0 + 1 ∧ t.proto = s.proto) ∧
      (f.fcsOk = true → ¬long → f.etherType ≠ 0x8808 → passesFilter s n f = true →
        (sortFrame s f = .other → tget 0 (t.port n).stats 0 = tget 0 (s.port n).stats 0 + 1 ∧
          tget 0 (t.port n).stats 6 = tget 0 (s.port n).stats 6 + 1 ∧ t.proto = s.proto) ∧
        (sortFrame s f = .kind → hears (tick dt s) (framePeer f) = true →
          t.proto = { s.proto with comm := s.proto.comm.set (s.time.now + dt) 2 }) ∧
        (sortFrame s f = .objects → hears (tick dt s) (framePeer f) = true → lengthAgrees f (headerOf f.payload) = false →
          t.proto = { s.proto with comm := s.proto.comm.set (s.time.now + dt) 2 }))) ∧
  (∀ (dt : Nat) (f : RxFrame) (fec : Codewords) (h : Header) (s : State),
    receiverRuns s = true → s.power.down = false → s.faults.resetN = false → f.fcsOk = true → f.tags.length ≤ 1 →
    f.length ≤ (if f.tags.isEmpty then 9018 else 9022) → f.etherType ≠ 0x8808 → passesFilter s (peerNum (framePeer f)) f = true →
    sortFrame s f = .objects → hears (tick dt s) (framePeer f) = true → h = headerOf f.payload → lengthAgrees f h = true →
    (h.flags.getLsbD flagBcast = false → h.dst ≠ ownNode s →
      ∃ t, exec (.frameDiscard dt f fec) s = .next t ∧ t.proto = s.proto) ∧
    ((h.flags.getLsbD flagBcast = true ∨ h.dst = ownNode s) → h.flags.getLsbD flagPlain = false → (slotOf s h.sess).isSome = true → f.tagOk = false →
      ∃ t, exec (.frameDiscard dt f fec) s = .next t ∧ t.proto = { s.proto with comm := s.proto.comm.set (s.time.now + dt) 0 }) ∧
    (∀ k u, h.flags.getLsbD flagBcast = true → h.flags.getLsbD flagPlain = false → f.tagOk = true → Served dt (frameReq f) true k s u →
      ∃ t, exec (.frameDiscard dt f fec) s = .next t ∧ Answered k (frameReq f) ⟨h.opcode, 0x0105, .none⟩ t))

/-! ### Commands through handles -/

/-- R66, R67, R192, R220, R252, R312: a command that passes its checks is answered 0001h with its handle, which runs; nothing else changes but the
host's side. -/
def Obligations.CommandsRun : Prop := ∀ (dt : Nat) (r : Req) (k h : Nat) (s u : State), Served dt r false k s u → storeBarred u = 0 →
  (∀ address length pattern cls, Starts k 0xC030 2 (.storeFill address length pattern cls) h u → address % 64 = 0 → length % 64 = 0 →
    badClass cls = false → address + length ≤ storeBytesTotal → rangeBusy u address length = false →
    ∃ t, exec (.storeFill dt r address length pattern cls) s = .next t ∧ Answered k r ⟨0x07, 1, .handle (handleWord t h)⟩ t ∧
      Running k h 0xC030 (.storeFill address length pattern cls) u t ∧ Quiet u t) ∧
  (∀ source dest length cls, Starts k 0xC031 2 (.storeCopy source dest length cls) h u → source % 64 = 0 → dest % 64 = 0 → length % 64 = 0 →
    badClass cls = false → source + length ≤ storeBytesTotal → dest + length ≤ storeBytesTotal → rangeBusy u dest length = false →
    ∃ t, exec (.storeCopy dt r source dest length cls) s = .next t ∧ Answered k r ⟨0x07, 1, .handle (handleWord t h)⟩ t ∧
      Running k h 0xC031 (.storeCopy source dest length cls) u t ∧ Quiet u t) ∧
  (∀ pc sid bank row, Starts k 0xC034 3 (.rowRepair pc sid bank row) h u → badBank pc sid bank = false → row ≤ 16383 → noSpareRow u pc sid bank = false →
    ∃ t, exec (.rowRepair dt r pc sid bank row) s = .next t ∧ Answered k r ⟨0x07, 1, .handle (handleWord t h)⟩ t ∧
      Running k h 0xC034 (.rowRepair pc sid bank row) u t ∧ Quiet u t) ∧
  (∀ args, Starts k 0xC040 1 (.encode args) h u → (encArgs args).bad = false → rangeBusy u (encArgs args).dest (encArgs args).capacity = false →
    ∃ t, exec (.encode dt r args) s = .next t ∧ Answered k r ⟨0x07, 1, .handle (handleWord t h)⟩ t ∧
      Running k h 0xC040 (.encode args) u t ∧ Quiet u t) ∧
  (Starts k 0xC053 1 .nozzleSave h u →
    ∃ t, exec (.nozzleTableSave dt r) s = .next t ∧ Answered k r ⟨0x07, 1, .handle (handleWord t h)⟩ t ∧
      Running k h 0xC053 .nozzleSave u t ∧ Quiet u t)

/-- R66, R67, R265, R310, R408, R534: the commands that wait for block data; IMAGE_WRITE erases the slot that the device does not run from. -/
def Obligations.UploadsBegin : Prop := ∀ (dt : Nat) (r : Req) (k h : Nat) (s u : State) (crc : BitVec 32),
  (∀ slot w hh n, Served dt r false k s u → storeBarred u = 0 → Starts k 0xC050 2 (.thresholdLoad slot w hh n crc []) h u → slot ≤ 15 → 1 ≤ w → w ≤ 512 →
    1 ≤ hh → hh ≤ 512 → n ∈ [1, 3, 7] → (slot + 1) * 2097152 ≤ (purposeRange u 3).2 → (slotInUse u slot = true → sameContent u slot crc = true) →
    ∃ t, exec (.thresholdLoad dt r slot w hh n crc) s = .next t ∧ Answered k r ⟨0x07, 1, .handle (handleWord t h)⟩ t ∧
      Running k h 0xC050 (.thresholdLoad slot w hh n crc []) u t ∧ Quiet u t) ∧
  (∀ first count, Served dt r false k s u → storeBarred u = 0 → Starts k 0xC051 2 (.nozzleWrite first count crc []) h u → 1 ≤ count → first + count ≤ 524288 →
    (u.sess k).staging.length < 1024 → openSlot u r.sess = some k →
    ∃ t, exec (.nozzleTableWrite dt r first count crc) s = .next t ∧ Answered k r ⟨0x07, 1, .handle (handleWord t h)⟩ t ∧
      Running k h 0xC051 (.nozzleWrite first count crc []) u t ∧ Quiet u t) ∧
  (∀ sensor table, Served dt r false k s u → asleep u = false → Starts k 0xC070 2 (.inspLoad sensor table crc []) h u → sensor ≤ 15 → table ≤ 2 →
    ∃ t, exec (.inspTableLoad dt r sensor table crc) s = .next t ∧ Answered k r ⟨0x07, 1, .handle (handleWord t h)⟩ t ∧
      Running k h 0xC070 (.inspLoad sensor table crc []) u t ∧ Quiet u t) ∧
  (∀ length, Served dt r true k s u → Starts k 0xC0B0 3 (.imageWrite length crc []) h u → 1 ≤ length → length ≤ 33554432 →
    ∃ t, exec (.imageWrite dt r length crc) s = .next t ∧ Answered k r ⟨0x07, 1, .handle (handleWord t h)⟩ t ∧
      Running k h 0xC0B0 (.imageWrite length crc []) u t ∧ Quiet (setSlot (otherSlot u) {} u) t)

/-- R223, R310, R411: the commands that send their data by BLOCK_DATA and end at once. -/
def Obligations.CommandsReadOut : Prop := ∀ (dt : Nat) (r : Req) (k h : Nat) (s u : State), Served dt r false k s u → openSlot u r.sess = some k →
  (∀ memory address, Starts k 0xC033 3 .none h u → checkerBarred u memory address = 0 → slabSkipped u (slabOf address) = false →
    ∃ t v, exec (.integReadRaw dt r memory address) s = .next t ∧ Quiet u v ∧ Quiet v t ∧ Answered k r ⟨0x07, 1, .handle (handleWord t h)⟩ t ∧
      Completed h 0 (detail 0 0 0 (rawClass v memory address)) t ∧
      ∃ peer id n, Output.block peer id n (handleWord t h) 0 (if memory = 0 then rawBurst v address else rawWord v memory address) ∈ t.model.tx) ∧
  (∀ first count pending, Starts k 0xC052 0 (.nozzleRead first count pending) h u → storeBarred u = 0 → badRange first count = false →
    ∃ t v, exec (.nozzleTableRead dt r first count pending) s = .next t ∧ Quiet u v ∧ Quiet v t ∧
      Answered k r ⟨0x07, 1, .handle (handleWord t h)⟩ t ∧ Completed h 0 (detail 0 0 0 (readGen v pending).1.toNat) t ∧
      ∀ i < (48 * count + 1023) / 1024, ∃ peer id n, Output.block peer id n (handleWord t h) (1024 * i)
        (((nozzleBytes v (readGen v pending).2 first count).drop (1024 * i)).take 1024) ∈ t.model.tx) ∧
  (∀ sensor frame, Starts k 0xC073 0 (.inspRead sensor frame) h u → statsOf u sensor frame ≠ [] →
    ∃ t, exec (.inspStatRead dt r sensor frame) s = .next t ∧ Quiet u t ∧ Answered k r ⟨0x07, 1, .handle (handleWord t h)⟩ t ∧ Completed h 0 0 t ∧
      ∀ i < (((statsOf u sensor frame).flatMap statBytes).length + 1023) / 1024, ∃ peer id n, Output.block peer id n (handleWord t h) (1024 * i)
        ((((statsOf u sensor frame).flatMap statBytes).drop (1024 * i)).take 1024) ∈ t.model.tx)

/-- R222, R298, R399: fault injection, the reset of nozzle counters and the hold of a frame end at once. R551, R562: FAULT_CLEAR ends the holds of
class 2 where no cause remains, and answers 0401h with the code of one that does, or of a new one that the same tick still finds. -/
def Obligations.CommandsEndAtOnce : Prop :=
  (∀ (dt : Nat) (r : Req) (k h : Nat) (s u : State), Served dt r false k s u →
    (∀ a : InjectArgs, Starts k 0xC032 3 .none h u → a.data.length = unitBytes a.memory → a.dataMask.length = unitBytes a.memory → a.mode ≤ 1 →
      checkerBarred u a.memory a.address = 0 →
      ∃ t, exec (.integInject dt r a) s = .next t ∧ Answered k r ⟨0x07, 1, .handle (handleWord t h)⟩ t ∧ Completed h 0 0 t ∧
        (a.memory = 0 → (∀ b, b / 32 = a.address / 32 → loadByte t.store.mem b = a.data.getD (b - a.address) 0) ∧
          (∀ b, b / 64 ≠ a.address / 64 → loadByte t.store.mem b = loadByte u.store.mem b) ∧
          (tget {} t.store.marks (a.address / 32)).poisoned = (a.mode == 1) ∧
          (tget {} t.store.marks (a.address / 32)).dataErr = (if a.mode = 1 then [] else maskErrors a.dataMask) ∧
          (tget {} t.store.marks (a.address / 32)).checkErr = (if a.mode = 1 then 0 else a.checkMask)) ∧
        (a.memory ≠ 0 → t.store = u.store ∧ (sramMark t (sramKey a.memory a.address)).data = BitVec.ofNat 64 (beNat a.dataMask) ∧
          (sramMark t (sramKey a.memory a.address)).check = a.checkMask.setWidth 8)) ∧
    (∀ first count, Starts k 0xC054 2 (.countReset first count) h u → storeBarred u = 0 → badRange first count = false →
      ∃ t, exec (.nozzleCountReset dt r first count) s = .next t ∧ Answered k r ⟨0x07, 1, .handle (handleWord t h)⟩ t ∧ Completed h 0 0 t ∧
        (∀ c, first ≤ c → c < first + count → (nozCnt t c).fire = 0 ∧ (nozCnt t c).dropout = 0) ∧
        (∀ c, ¬(first ≤ c ∧ c < first + count) → nozCnt t c = nozCnt u c)) ∧
    (∀ (sensor : Nat) (frame : BitVec 32) (f : Frame), Starts k 0xC071 1 .none h u → frameOf u sensor frame = some f → f.space ≠ 0 →
      (f.held = true ∨ (u.insp.frames.filter (·.held)).length < 8) →
      ∃ t, exec (.frameHold dt r sensor frame true) s = .next t ∧ Answered k r ⟨0x07, 1, .handle (handleWord t h)⟩ t ∧ Completed h 0 0 t ∧
        ∃ g, frameOf t sensor frame = some g ∧ g.held = true) ∧
    (∀ (sensor : Nat) (frame : BitVec 32) (f : Frame), Starts k 0xC071 1 .none h u → frameOf u sensor frame = some f → f.space ≠ 0 →
      ∃ t, exec (.frameHold dt r sensor frame false) s = .next t ∧ Answered k r ⟨0x07, 1, .handle (handleWord t h)⟩ t ∧ Completed h 0 0 t ∧
        ∀ g, frameOf t sensor frame = some g → g.held = false)) ∧
  (∀ (dt : Nat) (r : Req) (k h : Nat) (s u : State), Served dt r false k s u →
    Starts k 0xC0C0 2 .faultClear h u →
    ∃ t v, exec (.faultClear dt r) s = .next t ∧ Quiet u v ∧ Answered k r ⟨0x07, 1, .handle (handleWord t h)⟩ t ∧
      (remainingHold (fireUeGone u) = none → holdComing (fireUeGone v) = none →
        Completed h 0 0 t ∧ t.faults.stopHold = false ∧ t.faults.active = (fireUeGone u).faults.active.filter (fun f => f.cls != 2)) ∧
      (∀ f, remainingHold (fireUeGone u) = some f → Completed h 0x0401 (detail 0 0 0 (f.code * 2 ^ 48 : Nat)) t ∧ t.faults = (fireUeGone u).faults) ∧
      (∀ f, remainingHold (fireUeGone u) = none → holdComing (fireUeGone v) = some f →
        Completed h 0x0401 (detail 0 0 0 (f.code * 2 ^ 48 : Nat)) t ∧ t.faults = (fireUeGone u).faults))

/-- R446, R451, R456: the commands of the clock and of the process-data stream. -/
def Obligations.TimeCommands : Prop := ∀ (dt : Nat) (r : Req) (k h : Nat) (s u : State), Served dt r false k s u →
  (Starts k 0xC080 2 .none h u → u.time.servo = 4 → offsetReturns u = false →
    ∃ t, exec (.timeAcceptJump dt r) s = .next t ∧ Answered k r ⟨0x07, 1, .handle (handleWord t h)⟩ t ∧ Completed h 0 0 t ∧ t.time.servo = 1 ∧ t.time.outliers = 0 ∧
      t.time.epoch = u.time.epoch + u.time.pendingStep * 1000) ∧
  (∀ port msg, Starts k 0xC081 2 (.ptpSend port msg) h u → port ≤ 2 → 34 ≤ msg.length → msg.length ≤ 1024 → timeRole u ≠ 0 → (u.port port).up = true →
    ∃ t, exec (.ptpSend dt r port msg) s = .next t ∧ Answered k r ⟨0x07, 1, .handle (handleWord t h)⟩ t ∧ Completed h 0 0 t ∧
      Sent (.ptp port ((msg.getD 0 0).toNat % 16) (beNat ((msg.drop 30).take 2)) 0 msg) u t) ∧
  (∀ cycle phase, Starts k 0xC082 1 .none h u → 100000 ≤ cycle → cycle ≤ 100000000 → cycle % 1000 = 0 → phase + 1000 ≤ cycle → u.time.pd.running = false →
    ∃ t, exec (.pdStart dt r cycle phase) s = .next t ∧ Answered k r ⟨0x07, 1, .handle (handleWord t h)⟩ t ∧ Completed h 0 0 t ∧
      t.time.pd.running = true ∧ t.time.pd.cycle = cycle ∧ t.time.pd.phase = phase ∧ t.time.pd.session = r.sess) ∧
  (Starts k 0xC083 1 .none h u → u.time.pd.running = true →
    ∃ t, exec (.pdStop dt r) s = .next t ∧ Answered k r ⟨0x07, 1, .handle (handleWord t h)⟩ t ∧ Completed h 0 0 t ∧
      t.time.pd.running = false ∧ t.time.pd.session = 0)

/-- R218, R394, R375: RETIRE enters the block into the map; CCI_ACCESS sends its transfer where the master is free and waits where it is not;
BRIDGE_ACCESS sends a configuration request under a free tag. R375, R511: TRACE_BRING_UP begins the bring-up of a lane that is down, or the
retraining of one that is up; in Idle the device returns to Run first. -/
def Obligations.CommandsThatAct : Prop :=
  (∀ (dt : Nat) (r : Req) (k h : Nat) (s u : State), Served dt r false k s u →
    (∀ pc sid bank block, Starts k 0xC035 2 (.retire pc sid bank block) h u → storeBarred u = 0 → badBank pc sid bank = false → block ≤ 254 →
      noSpareBlock u pc sid bank = false →
      ∃ t, exec (.retire dt r pc sid bank block) s = .next t ∧ Answered k r ⟨0x07, 1, .handle (handleWord t h)⟩ t ∧
        Running k h 0xC035 (.retire pc sid bank block) u t ∧ t.store = u.store ∧
        t.integ = { u.integ with retired := u.integ.retired ++ [⟨pc, sid, bank, block, 1, powerHours u, faultyRows u (pc, sid, bank, block)⟩] }) ∧
    (∀ port address flags register data op, Starts k 0xC072 (if op = 1 then 3 else 2) (.cci port address flags register data (op == 1)) h u →
      asleep u = false → port ≤ 3 → address ≤ 127 → flags ≤ 3 → op ≤ 1 → register ≤ 65535 →
      ∃ t, exec (.cciAccess dt r port address flags register data op) s = .next t ∧ Answered k r ⟨0x07, 1, .handle (handleWord t h)⟩ t ∧
        Running k h 0xC072 (.cci port address flags register data (op == 1)) u t ∧
        (masterBusy u port = true → Quiet u t) ∧
        (masterBusy u port = false → (t.camPort port).cciHandle = some (handleWord t h) ∧
          Output.cci port address (cciBytes flags register data (op == 1)) ∈ t.model.tx)) ∧
    (∀ lane write addr value tag, Starts k 0xC061 (if write then 3 else 2) (.bridgeAccess lane write addr value) h u → lane ≤ 63 →
      (u.lane lane).state = 6 → addr ≤ 0x3FF → (write = true → ownRegister u lane addr value = false) → freeTag (u.lane lane) = some tag →
      ∃ t, exec (.bridgeAccess dt r lane write addr value) s = .next t ∧ Answered k r ⟨0x07, 1, .handle (handleWord t h)⟩ t ∧
        Running k h 0xC061 (.bridgeAccess lane write addr value) u t ∧ Output.config lane tag write addr value ∈ t.model.tx ∧
        (t.lane lane).requests = (u.lane lane).requests ++ [⟨tag, write, addr, value, u.time.now, some (handleWord t h), 0⟩] ∧
        (t.lane lane).tag = (tag + 1) % 16)) ∧
  (∀ (dt : Nat) (r : Req) (lane k h : Nat) (s u : State), Served dt r false k s u →
    Starts k 0xC060 2 (.traceBringUp lane) h u → lane ≤ 63 → cfgN u 0x7043 lane ≠ 0 → laneBusy u lane = false →
    (u.power.state ≠ 1 →
      ∃ t, exec (.traceBringUp dt r lane) s = .next t ∧ Answered k r ⟨0x07, 1, .handle (handleWord t h)⟩ t ∧
        Running k h 0xC060 (.traceBringUp lane) u t ∧ (t.lane lane).handle = some (handleWord t h) ∧
        ((u.lane lane).state ≠ 6 → (t.lane lane).state = 1 ∧ (t.lane lane).step = 1 ∧ (t.lane lane).rate = cfgN u 0x7041 lane) ∧
        ((u.lane lane).state = 6 → (t.lane lane).state = 3 ∧ (t.lane lane).step = 2 ∧ ∃ q, Output.train lane 0 q ∈ t.model.tx)) ∧
    (u.power.state = 1 → isWheeler u = false →
      ∃ t, exec (.traceBringUp dt r lane) s = .next t ∧ t.power.state = 0 ∧ t.power.coresRun = true))

/-- R466, R484, R485: PAIR offers the pairing or completes one that the partner offers; UNPAIR forgets the partner; HANDOVER gives up the lead. R534,
R535: IMAGE_ACTIVATE prefers the other slot, on trial, and in recovery mode starts the device from it; IMAGE_CONFIRM ends the trial. -/
def Obligations.PairAndImageCommands : Prop :=
  (∀ (dt : Nat) (r : Req) (k h : Nat) (s u : State), Served dt r false k s u →
    (Starts k 0xC090 2 .pairing h u → u.gait.job = 0 → lanesUp u ≠ 0 → u.pair.pairing = none →
      ∃ t, exec (.pair dt r) s = .next t ∧
        (u.pair.partnerPairing = none → Answered k r ⟨0x07, 1, .handle (handleWord t h)⟩ t ∧ Running k h 0xC090 .pairing u t ∧
          t.pair.pairing = some (handleWord t h, u.time.now) ∧ t.pair.txSeq = u.pair.txSeq + 1) ∧
        (∀ at' key, u.pair.partnerPairing = some (at', key) → u.time.now ≤ at' + 60 * sec →
          Completed h 0 0 t ∧ t.pair.partnerHash = Config.sha384 key ∧ t.pair.pairing = none)) ∧
    (Starts k 0xC091 2 .none h u →
      ∃ t, exec (.unpair dt r) s = .next t ∧ Answered k r ⟨0x07, 1, .handle (handleWord t h)⟩ t ∧ Completed h 0 0 t ∧ t.pair.partnerHash = [] ∧
        (u.pair.state ≠ 0 → t.pair.state = 2 ∧ t.pair.identified = false) ∧ (u.pair.state = 0 → t.pair.state = 0)) ∧
    (Starts k 0xC092 2 .handover h u → handoverAllowed u = true →
      ∃ t, exec (.handover dt r) s = .next t ∧ t.pair.state = 4 ∧ t.pair.leadN = false ∧ t.pair.handover = some (handleWord t h) ∧
        Running k h 0xC092 .handover u t ∧ ∀ m, m < 8 → (t.sess m).staging = [])) ∧
  (∀ (dt : Nat) (r : Req) (f : StartFacts) (k h : Nat) (s u : State),
    (Served dt r true k s u → Starts k 0xC0B1 3 .none h u → (slotOfImage u (otherSlot u)).checked = true →
      ∃ t v, exec (.imageActivate dt r f) s = .next t ∧ Quiet (writeBoot { u.start.boot with preferred := otherSlot u, trial := true, tries := 0 } u) v ∧
        Answered k r ⟨0x07, 1, .handle (handleWord v h)⟩ v ∧ Completed h 0 0 v ∧
        (u.start.recovery = false → t = v) ∧ (u.start.recovery = true → t = resetStart f v)) ∧
    (Served dt r false k s u → Starts k 0xC0B2 3 .none h u → u.start.boot.trial = true → u.start.boot.preferred = u.start.bootSlot →
      ∃ t, exec (.imageConfirm dt r) s = .next t ∧ Answered k r ⟨0x07, 1, .handle (handleWord t h)⟩ t ∧ Completed h 0 0 t ∧
        t.start.boot.trial = false ∧ t.start.boot.confirmed = u.start.bootSlot ∧
        t.start.rollback = max u.start.rollback (slotOfImage u u.start.bootSlot).rollback))

/-- R507, R510, R511: ENTER_IDLE and RETURN_TO_RUN. R507, R508, R514: an entry into Sleep, DeepSleep or Off that no block refuses: the handle ends,
the state is entered, INK_EN is off, the ports are down and the rails follow; one that a block refuses ends with 0403h and the block. -/
def Obligations.PowerStateCommands : Prop :=
  (∀ (dt : Nat) (r : Req) (k h : Nat) (s u : State), Served dt r false k s u →
    (Starts k 0xC0A0 1 (.power 1) h u → powerRefusal 1 u = none →
      ∃ t, exec (.enterIdle dt r) s = .next t ∧ Answered k r ⟨0x07, 1, .handle (handleWord t h)⟩ t ∧ Completed h 0 0 t ∧ t.power.state = 1 ∧
        t.power.coresRun = false ∧ t.power.enteredAt = u.time.now ∧ t.store = u.store) ∧
    (Starts k 0xC0A0 1 (.power 0) h u → powerRefusal 0 u = none →
      ∃ t, exec (.returnToRun dt r) s = .next t ∧ Answered k r ⟨0x07, 1, .handle (handleWord t h)⟩ t ∧ Completed h 0 0 t ∧ t.power.state = 0 ∧
        t.power.coresRun = true ∧ t.store = u.store)) ∧
  (∀ (dt : Nat) (r : Req) (f : EntryFacts) (k h : Nat) (s u : State), Served dt r false k s u →
    (Starts k 0xC0A0 1 (.power 2) h u → powerRefusal 2 u = none → entryRefusal f (startHandle k 0xC0A0 (.power 2) h u) = none →
      ∃ t, exec (.enterSleep dt r f) s = .next t ∧ Completed h 0 0 t ∧ t.power.state = 2 ∧ t.power.seq = .enter 2 ∧ t.store.state = 3 ∧
        t.faults.inkEn = false) ∧
    (Starts k 0xC0A0 2 (.power 3) h u → powerRefusal 3 u = none → entryRefusal f (startHandle k 0xC0A0 (.power 3) h u) = none →
      ∃ t, exec (.enterDeepSleep dt r f) s = .next t ∧ Completed h 0 0 t ∧ t.power.state = 3 ∧ t.power.seq = .enter 3 ∧ t.store.state = 3 ∧
        t.faults.inkEn = false) ∧
    (Starts k 0xC0A0 2 (.power 4) h u → powerRefusal 4 u = none → entryRefusal f (startHandle k 0xC0A0 (.power 4) h u) = none →
      ∃ t, exec (.enterOff dt r f) s = .next t ∧ Completed h 0 0 t ∧ t.power.state = 4 ∧ t.power.seq = .enter 4 ∧ t.store.state = 0 ∧
        t.faults.inkEn = false) ∧
    (∀ block reason, Starts k 0xC0A0 1 (.power 2) h u → powerRefusal 2 u = none →
      entryRefusal f (startHandle k 0xC0A0 (.power 2) h u) = some (block, reason) →
      ∃ t, exec (.enterSleep dt r f) s = .next t ∧ Completed h 0x0403 (detail block reason 0 0) t ∧ t.power.state = u.power.state))

/-- R56, R67: BLOCK_DATA of a transfer that waits for it stores the bytes at their offset; CMD_CANCEL ends a running handle with 040Ah and leaves one
that has ended. -/
def Obligations.BlockDataAndCancel : Prop := ∀ (dt : Nat) (r : Req) (w : BitVec 16) (k : Nat) (s u : State),
  (∀ offset data n got, Served dt r true k s u → namesHandle u w = true → (u.handle (w.toNat % 256)).phase = .running →
    (u.handle (w.toNat % 256)).owner = (u.sess k).id → blockOp u (u.handle (w.toNat % 256)).op = some (n, got) → data ≠ [] → data.length ≤ 1024 →
    offset + data.length ≤ n →
    ∃ t, exec (.blockData dt r w offset data) s = .next t ∧ Answered k r ⟨0x15, 0, .none⟩ t ∧
      (t.handle (w.toNat % 256)).op = withData (u.handle (w.toNat % 256)).op (putData got offset data) ∧
      (t.handle (w.toNat % 256)).phase = .running ∧ t.store = u.store) ∧
  (Served dt r false k s u → namesHandle u w = true → (u.handle (w.toNat % 256)).role ≤ (u.sess k).role →
    ∃ t, exec (.cmdCancel dt r w) s = .next t ∧ Answered k r ⟨0x08, 0, .none⟩ t ∧
      ((u.handle (w.toNat % 256)).phase = .running → Completed (w.toNat % 256) 0x040A 0 t) ∧
      ((u.handle (w.toNat % 256)).phase ≠ .running → Quiet u t ∧ t.handle (w.toNat % 256) = u.handle (w.toNat % 256)))

/-- R67, R192: a fill of a range of whole units ends with every byte of the range at its pattern, and every other byte as it was. -/
def Obligations.FillStoresPattern : Prop := ∀ (dt a n : Nat) (pattern : BitVec 64) (cls : Nat) (slot : Fin 256) (s : State),
  (s.handle slot).phase = .running → (s.handle slot).op = .storeFill a n pattern cls → a % 64 = 0 → n % 64 = 0 → serverUp (tick dt s) = true →
  s.store.state ≠ 3 →
  ∀ data, ∃ t, exec (.handleComplete dt slot false data) s = .next t ∧ Completed slot 0 0 t ∧
    ∀ b, loadByte t.store.mem b = if a ≤ b ∧ b < a + n then (natBytes 8 pattern.toNat).getD ((b - a) % 8) 0 else loadByte s.store.mem b

/-- R67: the other running commands end with their results: a copy, a row repair, an encode, and the saving of the nozzle table. -/
def Obligations.CommandsEnd : Prop := ∀ (dt : Nat) (slot : Fin 256) (failed : Bool) (data : BitVec 32) (s : State),
  (s.handle slot).phase = .running → serverUp (tick dt s) = true →
  (∀ a b n cls, (s.handle slot).op = .storeCopy a b n cls → s.store.state ≠ 3 →
    ∃ t v code moved, exec (.handleComplete dt slot failed data) s = .next t ∧ copyUnits cls (n / 64) (a / 64) (b / 64) 0 (tick dt s) = (code, moved, v) ∧
      t.store = v.store ∧ t.integ = v.integ ∧ (t.handle slot).phase = .done ∧ (t.handle slot).result = code ∧ (t.handle slot).progress = moved) ∧
  (∀ pc sid bank row, (s.handle slot).op = .rowRepair pc sid bank row →
    ∃ t, exec (.handleComplete dt slot failed data) s = .next t ∧ Completed slot 0 0 t ∧ (pc, sid, bank, row) ∈ t.integ.repaired ∧
      tget 0 t.integ.spareRows (spareKey pc sid bank) = tget 0 s.integ.spareRows (spareKey pc sid bank) + 1 ∧ t.store = s.store) ∧
  (∀ args, (s.handle slot).op = .encode args → s.store.state ≠ 3 → encodeRuns (tick dt s) slot = true →
    ∃ t v code length, exec (.handleComplete dt slot failed data) s = .next t ∧ runEncode args (tick dt s) = (code, length, v) ∧
      t.store = v.store ∧ Completed slot code (detail 0 0 0 length) t) ∧
  ((s.handle slot).op = .nozzleSave →
    ∃ t, exec (.handleComplete dt slot failed data) s = .next t ∧
      (failed = true ∨ flashWorks (tick dt s) = false → Completed slot 0x0801 0 t ∧ t.noz = s.noz) ∧
      (failed = false → flashWorks (tick dt s) = true → Completed slot 0 0 t ∧ t.noz.savedAt = s.time.now + dt))

/-- R56, R67: an upload ends when its bytes are there: 0703h where their CRC-32C is not the one given, else its effect. R394, R466: a camera transfer
ends with its data, or with 0901h 100 ms after it began; a pairing that finds no partner ends after 60 s. -/
def Obligations.UploadsAndTransfersEnd : Prop :=
  (∀ (dt : Nat) (slot : Fin 256) (failed : Bool) (data : BitVec 32) (s : State),
    (s.handle slot).phase = .running → serverUp (tick dt s) = true →
    (∀ n w h m crc got, (s.handle slot).op = .thresholdLoad n w h m crc got → s.store.state ≠ 3 → w * h * m ≤ got.length →
      ∃ t, exec (.handleComplete dt slot failed data) s = .next t ∧
        (Config.crc32c (dataBytes got (w * h * m)) = crc → Completed slot 0 0 t ∧ tget none t.screen.arrays n = some ⟨w, h, m, crc⟩) ∧
        (Config.crc32c (dataBytes got (w * h * m)) ≠ crc → Completed slot 0x0703 0 t ∧ t.screen = s.screen ∧ t.store = s.store)) ∧
    (∀ first count crc got, (s.handle slot).op = .nozzleWrite first count crc got → 48 * count ≤ got.length →
      ∃ t, exec (.handleComplete dt slot failed data) s = .next t ∧ t.noz = s.noz ∧
        (Config.crc32c (dataBytes got (48 * count)) = crc → (t.handle slot).phase = .done ∧
          (t.handle slot).result = (stageShadow slot first count (dataBytes got (48 * count)) (tick dt s)).1) ∧
        (Config.crc32c (dataBytes got (48 * count)) ≠ crc → Completed slot 0x0703 0 t)) ∧
    (∀ n table crc got, (s.handle slot).op = .inspLoad n table crc got → tableBytes (tick dt s) n table ≤ got.length →
      ∃ t, exec (.handleComplete dt slot failed data) s = .next t ∧
        (Config.crc32c (dataBytes got (tableBytes (tick dt s) n table)) ≠ crc → Completed slot 0x0703 0 t ∧ t.insp = s.insp) ∧
        (Config.crc32c (dataBytes got (tableBytes (tick dt s) n table)) = crc → failed = false → flashWorks (tick dt s) = true →
          Completed slot 0 0 t ∧ t.insp = (storeTable n table (words16 (dataBytes got (tableBytes (tick dt s) n table))) (tick dt s)).insp)) ∧
    (∀ n crc got, (s.handle slot).op = .imageWrite n crc got → n ≤ got.length →
      ∃ t, exec (.handleComplete dt slot failed data) s = .next t ∧
        (failed = true ∨ flashWorks (tick dt s) = false → Completed slot 0x0801 0 t ∧ t.start.slots = s.start.slots) ∧
        (failed = false → flashWorks (tick dt s) = true → Config.crc32c (dataBytes got n) ≠ crc → Completed slot 0x0703 0 t ∧ t.start.slots = s.start.slots) ∧
        (failed = false → flashWorks (tick dt s) = true → Config.crc32c (dataBytes got n) = crc → (t.handle slot).phase = .done ∧
          t.start.slots = s.start.slots.set (otherSlot s) (slotFrom (tick dt s) (dataBytes got n) data.toNat)))) ∧
  (∀ (dt : Nat) (slot : Fin 256) (failed : Bool) (data : BitVec 32) (s : State),
    (s.handle slot).phase = .running → serverUp (tick dt s) = true →
    (∀ port address flags register value write, (s.handle slot).op = .cci port address flags register value write →
      (s.camPort port).cciHandle = some (handleWord s slot) →
      ∃ t, exec (.handleComplete dt slot failed data) s = .next t ∧ (t.camPort port).cciHandle = none ∧
        ((s.handle slot).startedAt + 100 * ms ≤ s.time.now + dt → Completed slot 0x0901 0 t) ∧
        (s.time.now + dt < (s.handle slot).startedAt + 100 * ms → failed = true → Completed slot 0x0801 0 t) ∧
        (s.time.now + dt < (s.handle slot).startedAt + 100 * ms → failed = false → write = true → Completed slot 0 0 t)) ∧
    ((s.handle slot).op = .pairing → (s.handle slot).startedAt + 60 * sec ≤ s.time.now + dt →
      ∃ t, exec (.handleComplete dt slot failed data) s = .next t ∧ Completed slot 0x0901 0 t ∧ t.pair.pairing = none))

/-! ### The web's position and the line -/

/-- R75, R76, R77, R79: an edge of A or B that the glitch filter accepts: a legal one counts one up or down by the quadrature of the pair, an illegal
one two in the direction of the last edge and is flagged, and a disabled channel counts nothing; the levels are latched; where the channel is the
source, the position then moves. Levels that the filter does not accept change nothing. -/
def Obligations.CountEdgeCounts : Prop := ∀ (dt : Nat) (ch : Fin 4) (a b : Bool) (s : State), samplesRun (tick dt s) = true →
  (filtered (tick dt s) ch a b = ((s.chan ch).a, (s.chan ch).b) → exec (.countEdge dt ch a b) s = .next (tick dt s)) ∧
  (encEnabled (tick dt s) ch = true → filtered (tick dt s) ch a b = (a, b) → (a != (s.chan ch).a) ≠ (b != (s.chan ch).b) →
    ∃ t v, exec (.countEdge dt ch a b) s = .next t ∧ t = (if ch.val = s.axis.source then sourceEdge v else v) ∧
      (v.chan ch).count = (s.chan ch).count + BitVec.ofInt 48 (quadStep (tick dt s) ch (s.chan ch) a b) ∧ (v.chan ch).a = a ∧ (v.chan ch).b = b ∧
      (v.chan ch).prev = (s.chan ch).last ∧ v.store = s.store) ∧
  (encEnabled (tick dt s) ch = true → filtered (tick dt s) ch a b = (a, b) → a ≠ (s.chan ch).a → b ≠ (s.chan ch).b → (s.chan ch).illegal.length < 16 →
    ∃ t v, exec (.countEdge dt ch a b) s = .next t ∧ t = (if ch.val = s.axis.source then sourceEdge v else v) ∧
      (v.chan ch).count = (s.chan ch).count + BitVec.ofInt 48 (if (s.chan ch).up then 2 else -2) ∧ (v.chan ch).a = a ∧ (v.chan ch).b = b ∧
      (v.chan ch).status.on encIllegal = true ∧ v.axis.confidence = false ∧ v.store = s.store) ∧
  (encEnabled (tick dt s) ch = false → filtered (tick dt s) ch a b = (a, b) → (a ≠ (s.chan ch).a ∨ b ≠ (s.chan ch).b) →
    ∃ t, exec (.countEdge dt ch a b) s = .next t ∧ (t.chan ch).count = (s.chan ch).count ∧ (t.chan ch).a = a ∧ (t.chan ch).b = b ∧
      ∀ m, m ≠ ch.val → t.chan m = s.chan m)

/-- R77, R86, R87, R88, R90: an index pulse on an enabled channel: one that stayed active for more than 8 counts is flagged; one that index mode 0, a
wire fault or a fault of the channel rules out is passed over; a reload loads the reference, so that the counter takes the index value; any other
is checked: within the tolerance it is logged, and in mode 1 corrects the counter; beyond it the flag is set and the counter stays. R75, R76, R78,
R100, R556, R574: what the wires of a channel show: the flag of a pair that has been wrong for 50 ns; at 1 µs a wrong A or B makes the channel
faulty; the end of an episode; a weak termination, of which an event tells; and a termination that is disconnected, and is connected again once it
has been off for 10 ms. -/
def Obligations.IndexAndWireEvents : Prop :=
  (∀ (dt : Nat) (ch : Fin 4) (width : Nat) (s : State), samplesRun (tick dt s) = true →
    encEnabled (tick dt s) ch = true →
    (8 < width → ∃ t, exec (.index dt ch width) s = .next t ∧ (t.chan ch).status.on encPolarity = true ∧ (t.chan ch).count = (s.chan ch).count) ∧
    (width ≤ 8 → (indexMode (tick dt s) ch = 0 ∨ (s.chan ch).status.on encWireZ = true ∨ (s.chan ch).faulty = true) →
      exec (.index dt ch width) s = .next (tick dt s)) ∧
    (width ≤ 8 → indexMode (tick dt s) ch ≠ 0 → (s.chan ch).status.on encWireZ = false → (s.chan ch).faulty = false → (s.chan ch).reload = true →
      ∃ t x, exec (.index dt ch width) s = .next t ∧ (t.chan ch).hasRef = true ∧ (t.chan ch).reload = false ∧
        (t.chan ch).count = BitVec.ofInt 48 (cfg s 0x4021 ch) ∧ t.axis.indexLog = (⟨ch.val, 3, 0, x⟩ :: s.axis.indexLog).take 16) ∧
    (∀ d, width ≤ 8 → indexMode (tick dt s) ch ≠ 0 → (s.chan ch).status.on encWireZ = false → (s.chan ch).faulty = false → (s.chan ch).reload = false →
      (s.chan ch).armed = false → (s.chan ch).refNext = false → (s.chan ch).hasRef = true → cfgN s 0x4022 ch ≠ 0 →
      d = indexOffset (countDiff (countOf (s.chan ch)) (cfg s 0x4021 ch)) (cfgN s 0x4022 ch) →
      ∃ t x, exec (.index dt ch width) s = .next t ∧
        (d.natAbs ≤ cfgN s 0x4023 ch →
          t.axis.indexLog = (⟨ch.val, if indexMode (tick dt s) ch = 1 then 0 else 1, d, x⟩ :: s.axis.indexLog).take 16 ∧
          (t.chan ch).count = if indexMode (tick dt s) ch = 1 then (s.chan ch).count + BitVec.ofInt 48 (-d) else (s.chan ch).count) ∧
        (cfgN s 0x4023 ch < d.natAbs → t.axis.indexLog = (⟨ch.val, 2, d, x⟩ :: s.axis.indexLog).take 16 ∧
          (t.chan ch).status.on encIndexOffset = true ∧ t.axis.confidence = false ∧ (t.chan ch).count = (s.chan ch).count))) ∧
  (∀ (dt : Nat) (ch : Fin 4) (pair : Fin 3) (s : State),
    (monitored (tick dt s) ch = true → (wirePair s ch pair).over50 = false → (s.chan ch).episodes.length < 16 →
      ∃ t, exec (.wireEpisode50ns dt ch pair) s = .next t ∧ (wirePair t ch pair).over50 = true ∧ (wirePair t ch pair).over1us = false ∧
        (t.chan ch).status.on pair = true ∧ (t.chan ch).count = (s.chan ch).count) ∧
    (monitored (tick dt s) ch = true → (wirePair s ch pair).over50 = true → (wirePair s ch pair).over1us = false →
      ∃ t, exec (.wireEpisode1us dt ch pair) s = .next t ∧ (wirePair t ch pair).over1us = true ∧ (t.chan ch).count = (s.chan ch).count ∧
        (pair.val < 2 → (t.chan ch).faulty = true)) ∧
    (∀ length, samplesRun (tick dt s) = true → (wirePair s ch pair).over50 = true →
      ∃ t, exec (.wireEpisodeEnd dt ch pair length) s = .next t ∧ (wirePair t ch pair).over50 = false ∧ (wirePair t ch pair).over1us = false ∧
        (t.chan ch).status = (s.chan ch).status ∧ (t.chan ch).count = (s.chan ch).count) ∧
    (samplesRun (tick dt s) = true → encEnabled (tick dt s) ch = true →
      ∃ t, exec (.termSwingLow dt ch pair) s = .next t ∧ Quiet (tick dt s) t) ∧
    (bitOn (cfg s 0x4020 ch) 2 = true → supplied s = true → (wirePair s ch pair).termOff = false →
      ((wirePair s ch pair).over50 = true ∨ (s.chan ch).episodes.length < 16) →
      ∃ t, exec (.terminationDisconnect dt ch pair) s = .next t ∧ (wirePair t ch pair).termOff = true ∧ (t.chan ch).count = (s.chan ch).count ∧
        (monitored (tick dt s) ch = true → (wirePair t ch pair).over50 = true)) ∧
    ((wirePair s ch pair).termOff = true → supplied s = true → (wirePair s ch pair).termAt + 10 * ms ≤ s.time.now + dt →
      ∃ t, exec (.terminationReconnect dt ch pair) s = .next t ∧ (wirePair t ch pair).termOff = false ∧ (t.chan ch).count = (s.chan ch).count))

/-- R19, R96, R102: the axis has stopped once no edge of the source has come for the stop time; and the position is lost where the die that holds it
no longer answers and no standby stands by. R133, R134, R335: the speed limit after it has risen for 100 ms, the overrate event after 1 ms, and
the end of the slow hold. R379, R380, R382, R383: the time-outs of a rein-back and its re-arming. -/
def Obligations.AxisLimitAndReinTimers : Prop :=
  (∀ (dt : Nat) (s : State),
    (stopDue (tick dt s) = true → s.rein.state = 0 →
      ∃ t, exec (.axisStop dt) s = .next t ∧ t.axis.stopped = true ∧ (t.chan 0).sinceStop = 0 ∧ (t.chan 1).sinceStop = 0 ∧ t.axis.source = s.axis.source ∧ t.gait.w = s.gait.w) ∧
    (s.axis.supervisorLost = false →
      ∃ t, exec (.supervisorUnreachable dt) s = .next t ∧ t.axis.supervisorLost = true ∧
        (s.axis.state = 1 → isWheeler s = false → s.pair.state ≠ 3 → t.axis.state ≠ 1))) ∧
  (∀ (dt : Nat) (s : State),
    (since (tick dt s) s.gait.riseSince (100 * ms) = true →
      ∃ t, exec (.speedLimitRise dt) s = .next t ∧ t.gait = { s.gait with sentLimit := (speedLimit (tick dt s)).1, riseSince := none } ∧ t.axis = s.axis) ∧
    (since (tick dt s) s.gait.overSince ms = true → s.gait.overRaised = false →
      ∃ t, exec (.lineOverrate dt) s = .next t ∧ t.gait = { s.gait with overRaised := true } ∧ t.axis = s.axis) ∧
    (since (tick dt s) s.gait.slowSince (cfgN s 0x7032 0 * sec) = true →
      ∃ t, exec (.slowHoldExpiry dt) s = .next t ∧ t.gait.slowLimit = 400000 ∧ t.gait.slowSince = none ∧ t.axis = s.axis)) ∧
  (∀ (dt : Nat) (s : State), isWheeler s = false →
    (s.rein.state = 1 → s.rein.stopAt + cfgN s 0x4084 0 * ms ≤ s.time.now + dt →
      ∃ t, exec (.reinStopTimeout dt) s = .next t ∧ t.rein.state = 0 ∧ t.faults.stopRein = false ∧ t.axis = s.axis ∧ t.store = s.store) ∧
    (s.rein.state = 2 → s.rein.revAt + cfgN s 0x4085 0 * ms ≤ s.time.now + dt →
      ∃ t, exec (.reinReverseTimeout dt) s = .next t ∧ (t.rein.state = 0 ∨ t.rein.state = 3) ∧ (s.axis.stopped = false → t.rein.state = 0) ∧
        (s.axis.stopped = true → lpos (tick dt s) ≤ s.rein.target → t.rein.state = 3) ∧ t.axis = s.axis) ∧
    (s.rein.state = 2 ∨ s.rein.state = 3 → s.rein.holdAt + cfgN s 0x4086 0 * ms ≤ s.time.now + dt → allReady (tick dt s) = false →
      ∃ t, exec (.reinHoldTimeout dt) s = .next t ∧ t.rein.state = 0 ∧ t.axis = s.axis) ∧
    (s.rein.state = 4 → s.rein.runRaised = false → s.rein.runAt + cfgN s 0x4087 0 * ms ≤ s.time.now + dt →
      countDiff (countOf (srcChan s)) s.rein.lowCount ≤ 0 →
      ∃ t, exec (.reinRunTimeout dt) s = .next t ∧ t.rein = { s.rein with runRaised := true } ∧ t.axis = s.axis ∧ t.gait = s.gait) ∧
    (s.rein.state = 3 → s.axis.stopped = true → allReady (tick dt s) = true →
      ∃ t, exec (.rearm dt) s = .next t ∧ t.rein.state = 4 ∧ t.rein.runAt = s.time.now + dt ∧ t.gait.w = lpos (tick dt s) ∧ t.axis = s.axis))

/-- R119, R120, R129, R130, R453: an output in position mode pulses at the instant predicted for its next occurrence, one in time mode when its
instant has come; it misses the occurrence where the last pulse still lasts; and the pulse ends. -/
def Obligations.TriggersPulse : Prop := ∀ (dt : Nat) (trig : Fin 8) (s : State),
  (∀ F x, (s.trig trig).pred = some (F, x) → x ≤ s.time.now + dt → trigsRun s = true → s.axis.state = 1 → trigMode s trig = 1 →
    trigNextPos s trig = some F →
    ∃ t, exec (.trigOccurrence dt trig) s = .next t ∧ (t.trig trig).mark = some F ∧
      ((s.trig trig).pulseEnd = none → (t.trig trig).pulseEnd = some (x + trigWidth s trig) ∧ (t.trig trig).missed = (s.trig trig).missed) ∧
      (∀ e, (s.trig trig).pulseEnd = some e → x < e → (t.trig trig).pulseEnd = some e ∧ (t.trig trig).missed = (s.trig trig).missed + 1)) ∧
  (trigsRun s = true → trigMode s trig = 2 → trigTime s trig (s.trig trig).k ≤ devTime (tick dt s) →
    ((s.trig trig).k = 0 ∨ (trigEnv s).nat 0x9042 trig ≠ 0) →
    ∃ t, exec (.timeTrigger dt trig) s = .next t ∧ (t.trig trig).k = (s.trig trig).k + 1 ∧
      ((s.trig trig).pulseEnd = none → (t.trig trig).pulseEnd = some (s.time.now + dt + trigWidth s trig))) ∧
  (∀ e, (s.trig trig).pulseEnd = some e → e ≤ s.time.now + dt →
    ∃ t, exec (.trigPulseEnd dt trig) s = .next t ∧ t.trig trig = { s.trig trig with pulseEnd := none } ∧ t.axis = s.axis ∧ t.gait.rows = s.gait.rows ∧
      ∀ m, m ≠ trig.val → t.trig m = s.trig m)

/-- R116, R117, R328, R329, R346: a row fires its predicted line at its instant: where nothing makes the line late, its FIRE block goes out with the
row's next FSEQ; where the row has no prediction the command only lets time pass. -/
def Obligations.FireSendsTheLine : Prop := ∀ (dt : Nat) (head : Fin 64) (row : Fin 2) (reads : DotReads) (s : State),
  (∀ (p : Prediction) (v : State), (s.row (2 * head + row)).pred = some p → p.ts ≤ s.time.now + dt → gaitLive s = true →
    (s.row (2 * head + row)).held = false → p.dropped = false →
    v = beginBars p.line (if p.moved = 0 then tick dt s
      else ev 0x4014 (lineDetail (2 * head + row) p.movedLines) (tick dt s) (line := atLine p.line)) →
    lateCauses v (2 * head + row) p.line p.ts reads.late = [] → (s.lane head).state = 6 →
    ∃ t fine wave blank crc, exec (.fire dt head row p.line reads) s = .next t ∧ (t.row (2 * head + row)).fseq = (s.row (2 * head + row)).fseq + 1 ∧
      Output.fire head row p.line (s.row (2 * head + row)).fseq fine wave blank crc ∈ t.model.tx) ∧
  ((s.row (2 * head + row)).pred = none → ∀ line, exec (.fire dt head row line reads) s = .next (tick dt s))

/-! ### Image streams, the page store and screening -/

/-- R141, R142, R146, R158, R160: a DATA packet that passes every check is accepted: nothing outside its units changes in the store, and the blocks of
a new one lie at their places in the ring; one that a check refuses sets the flag of the check and stores nothing; one that comes by MGMT, or
names no ring, is counted only. -/
def Obligations.StreamDataIsStored : Prop := ∀ (dt : Nat) (peer : Peer) (pkt : StreamPkt) (s : State), receiverRuns s = true → pkt.typ ≠ 3 →
  (peer.port = .mgmt →
    ∃ t, exec (.streamData dt peer pkt) s = .next t ∧ t.store = s.store ∧ t.rings = s.rings ∧
      tget 0 (t.port 2).stats 6 = tget 0 (s.port 2).stats 6 + 1) ∧
  (peer.port ≠ .mgmt → 63 < pkt.stream →
    ∃ t, exec (.streamData dt peer pkt) s = .next t ∧ t.store = s.store ∧ t.rings = s.rings ∧
      tget 0 (t.port (portNum peer.port)).stats 7 = tget 0 (s.port (portNum peer.port)).stats 7 + 1) ∧
  (∀ flag, peer.port ≠ .mgmt → pkt.stream ≤ 63 → pkt.typ = 0 →
    packetCheck (s.ring pkt.stream) (limitBefore (tick dt s) pkt.stream) (cfgN s 0x5005 pkt.stream) pkt = (0, flag) →
    (peer.port = .net1 → net0Twin (tick dt s) pkt.stream pkt = false) →
    ∃ t, exec (.streamData dt peer pkt) s = .next t ∧ pkt.seq.toNat + pkt.length ≤ (t.ring pkt.stream).high ∧
      (t.ring pkt.stream).sources.head? = some peer ∧
      (∀ a, (∀ q, pkt.seq.toNat ≤ q → q < pkt.seq.toNat + pkt.length → ringAddr s pkt.stream q / 64 ≠ a / 64) →
        loadByte t.store.mem a = loadByte s.store.mem a) ∧
      (missingIn (received (s.ring pkt.stream)) (max (s.ring pkt.stream).release pkt.seq.toNat) (pkt.seq.toNat + pkt.length) =
          [(pkt.seq.toNat, pkt.seq.toNat + pkt.length)] →
        ringBase s pkt.stream % 64 = 0 → ringSize s pkt.stream % 64 = 0 → pkt.length ≤ ringSize s pkt.stream →
        ∀ i, i < pkt.length → loadByte t.store.mem (ringAddr s pkt.stream (pkt.seq.toNat + i)) = pkt.payload.getD i 0)) ∧
  (∀ check flag, peer.port ≠ .mgmt → pkt.stream ≤ 63 →
    packetCheck (s.ring pkt.stream) (limitBefore (tick dt s) pkt.stream) (cfgN s 0x5005 pkt.stream) pkt = (check + 1, flag) →
    ∃ t, exec (.streamData dt peer pkt) s = .next t ∧ t.store = s.store ∧ (t.ring pkt.stream).status.on flag = true ∧
      (t.ring pkt.stream).cum = (s.ring pkt.stream).cum ∧ (t.ring pkt.stream).index = (s.ring pkt.stream).index)

/-- R153, R154, R158: a PROBE that passes is answered with an ACK; an ACK goes out after each interval in which DATA came; a NAK asks for a gap whose
request is due, and the gap notes when. R143: a port of the device comes up or goes down. -/
def Obligations.AcksNaksAndLinks : Prop :=
  (∀ (dt : Nat) (s : State),
    (∀ (peer p : Peer) (pkt : StreamPkt) (flag : Nat), receiverRuns s = true → pkt.typ = 3 → peer.port ≠ .mgmt → pkt.stream ≤ 63 →
      packetCheck (s.ring pkt.stream) (limitBefore (tick dt s) pkt.stream) (cfgN s 0x5005 pkt.stream) pkt = (0, flag) →
      isWheeler s = false → streamPeer s pkt.stream = some p →
      ∃ t, exec (.probe dt peer pkt) s = .next t ∧ t.store = s.store ∧
        Sent (.ack pkt.stream p (cfgN s 0x5005 pkt.stream) (ackLimitOf s pkt.stream) (ackValues s pkt.stream).2.1 (ackValues s pkt.stream).1
          ((ackValues s pkt.stream).2.2.take 32)) s t) ∧
    (∀ (ring : Fin 64) (p : Peer), (s.ring ring).enable = true → (s.ring ring).dataSince = true →
      (s.ring ring).ackAt + cfgN s 0x5010 0 * us ≤ s.time.now + dt → isWheeler s = false → streamPeer s ring = some p →
      ∃ t, exec (.ackInterval dt ring) s = .next t ∧ (t.ring ring).ackAt = s.time.now + dt ∧ (t.ring ring).dataSince = false ∧ t.store = s.store ∧
        Sent (.ack ring p (cfgN s 0x5005 ring) (ackLimitOf s ring) (ackValues s ring).2.1 (ackValues s ring).1 ((ackValues s ring).2.2.take 32)) s t) ∧
    (∀ (ring : Fin 64) (p : Peer) (g : Gap), (s.ring ring).enable = true → isWheeler s = false → streamPeer s ring = some p → g ∈ (s.ring ring).gaps →
      gapDue (tick dt s) g = true → inTime (tick dt s) ring g.first g.stop = true → g.reason = 1 → g.first < g.stop → (s.ring ring).release < g.stop →
      ∃ t runs, exec (.nak dt ring) s = .next t ∧ runs ≠ [] ∧ { g with naked := some (s.time.now + dt) } ∈ (t.ring ring).gaps ∧ t.store = s.store ∧
        Sent (.nak ring p (cfgN s 0x5005 ring) 1 (ackLimitOf s ring) (ackValues s ring).2.1 (ackValues s ring).1 runs) s t)) ∧
  (∀ (dt : Nat) (port : Fin 3) (up : Bool) (s : State), s.power.state ≤ 1 → s.power.down = false →
    ∃ t, exec (.netLink dt port up) s = .next t ∧ (t.port port).up = up ∧ t.store = s.store ∧ t.axis = s.axis ∧ ∀ m, m ≠ port.val → t.port m = s.port m)

/-- R237: the prediction of a pixel from the pixel to its left (the last one of the line so far), the one above it and the one above-left. -/
def Obligations.PredictorsFollowTheirTable : Prop := ∀ (above line : List Nat) (left x : Nat) (b c : Int), 0 < x →
  b = above.getD x 0 → c = above.getD (x - 1) 0 →
  predict 0 above (left :: line) x = left ∧ predict 1 above (left :: line) x = b ∧ predict 2 above (left :: line) x = (left + b) / 2 ∧
  (max (left : Int) b ≤ c → predict 3 above (left :: line) x = min (left : Int) b) ∧
  (c ≤ min (left : Int) b → predict 3 above (left :: line) x = max (left : Int) b) ∧
  (min (left : Int) b < c → c < max (left : Int) b → predict 3 above (left :: line) x = left + b - c)

/-- R239, R241, R245, R249, R256: the decoder that takes the line at the front of its region's queue counts the line as completed where it decodes,
and marks its stripe bad and counts the error where it does not; a decoder that fails is out of use. R277, R267: a band that is due screens its
next line; one whose row of the threshold array is not in its window asks for it and waits; one that is not due screens nothing; and a refill
brings the oldest row asked for. -/
def Obligations.DecodersAndBandsTakeLines : Prop :=
  (∀ (dt : Nat) (s : State),
    (∀ (ring : Fin 64) (decoder : Fin 6) (lats : List Nat) (r : Nat) (y : ReadyLine) (x : Stripe) (pg : Page) (len : Nat) (h : StripeHdr) (out : LineOut),
      ringRegion (tick dt s) (envNow (tick dt s)) ring = some r → s.faults.stopped = false → s.power.state = 0 →
      tget false s.screen.decFailed (6 * r + decoder) = false → queueFront (tick dt s) r = some ring.val → readyLine (tick dt s) ring = some y →
      CleanMemories s → stripeAt (s.ring ring) y.base = some x → pageNumbered s y.page = some pg → x.len = some len → x.depth.isSome = true → y.i ≠ 0 →
      h = parseHdr (ringBytes s ring x.base 24) → out = stripeLine h (ringBytes s ring x.base len) y.i x.above →
      ∃ t, exec (.decodeLine dt ring decoder { lats := lats }) s = .next t ∧ t.store.mem = s.store.mem ∧
        (out.err = 0 → tget 0 t.screen.decStats (4 * (6 * r + decoder)) = tget 0 s.screen.decStats (4 * (6 * r + decoder)) + 1 ∧
          tget none t.screen.decLast (6 * r + decoder) = some y.need) ∧
        (out.err ≠ 0 → tget 0 (t.ring ring).errors out.err = tget 0 (s.ring ring).errors out.err + 1 ∧
          ∃ z ∈ (t.ring ring).index, z.base = x.base ∧ z.state = .bad ∧ z.err = out.err)) ∧
    (∀ (region : Fin 4) (decoder : Fin 6), regionPowered (tick dt s) region = true → tget false s.screen.decFailed (6 * region + decoder) = false →
      ∃ t, exec (.decoderFault dt region decoder) s = .next t ∧ tget false t.screen.decFailed (6 * region + decoder) = true ∧
        t.store.mem = s.store.mem) ∧
    (∀ (region : Fin 4) (decoder : Fin 6), tget false s.screen.decFailed (6 * region + decoder) = true →
      exec (.decoderFault dt region decoder) s = .next (tick dt s))) ∧
  (∀ (dt : Nat) (engine : Fin 36) (s : State),
    ((s.engine engine).role = .band → s.integ.sramErr = [] → recoverable (tick dt s) engine = none →
      (lineDue (tick dt s) engine = true → rowAwaited (tick dt s) engine = none →
        ∃ t, exec (.screenLine dt engine {}) s = .next t ∧ (t.engine engine).next = (s.engine engine).next + 1) ∧
      (∀ row tileOk, lineDue (tick dt s) engine = true → rowAwaited (tick dt s) engine = some row →
        ∃ t, exec (.screenLine dt engine { tileOk := tileOk }) s = .next t ∧ (t.engine engine).waiting = true ∧ (t.engine engine).next = (s.engine engine).next ∧
          t.screen.dots = s.screen.dots ∧ t.store = s.store) ∧
      (∀ tileOk, lineDue (tick dt s) engine = false →
        ∃ t, exec (.screenLine dt engine { tileOk := tileOk }) s = .next t ∧ (t.engine engine).next = (s.engine engine).next ∧
          t.screen.dots = s.screen.dots ∧ t.store = s.store)) ∧
    (∀ row rest, (s.engine engine).waitRows = row :: rest →
      ∃ t, exec (.windowRefill dt engine) s = .next t ∧ (t.engine engine).waitRows = rest ∧ (t.engine engine).waiting = false ∧
        (t.engine engine).window = (row :: (s.engine engine).window.filter (· != row)).take 64 ∧ t.store.mem = s.store.mem))

/-- R186, R187: a refresh of a bank, or one that is put off: at most eight may be behind, the ninth is forced and counted; the temperature of the
stack sets its refresh rate. R199, R206, R208, R209: the scrubs go through their memories word by word: one scrub moves its position on by one, or
back to the start of a new lap; what waits in the scrub queue is taken first, and a unit's corrected bursts go back right, its uncorrectable ones
poisoned. R218, R211, R312: the copy of a retired block ends; the counters are written back to the store; and the nozzle table is saved. -/
def Obligations.StoreUpkeep : Prop :=
  (∀ (dt : Nat) (s : State),
    (∀ bank : Fin 1536, storeRuns s = true →
      (∃ t, exec (.storeRefresh dt bank false) s = .next t ∧ (tget {} t.store.banks bank).behind = (tget {} s.store.banks bank).behind - 1 ∧
        tget 0 t.store.pcStats (bank / 48 * 8 + 3) =
          tget 0 s.store.pcStats (bank / 48 * 8 + 3) + (if 0 < (tget {} s.store.banks bank).behind then 2 else 1) ∧ t.store.mem = s.store.mem) ∧
      ((tget {} s.store.banks bank).behind < 8 →
        ∃ t, exec (.storeRefresh dt bank true) s = .next t ∧ (tget {} t.store.banks bank).behind = (tget {} s.store.banks bank).behind + 1 ∧
          t.store.pcStats = s.store.pcStats ∧ t.store.mem = s.store.mem) ∧
      (8 ≤ (tget {} s.store.banks bank).behind →
        ∃ t, exec (.storeRefresh dt bank true) s = .next t ∧ tget {} t.store.banks bank = tget {} s.store.banks bank ∧
          tget 0 t.store.pcStats (bank / 48 * 8 + 4) = tget 0 s.store.pcStats (bank / 48 * 8 + 4) + 1 ∧ t.store.mem = s.store.mem)) ∧
    (∀ temp : Int, ∃ t, exec (.stackTempRead dt temp) s = .next t ∧ t.store = { s.store with temp := temp, hot := decide (85 < temp) } ∧ t.integ = s.integ)) ∧
  (∀ (dt : Nat) (s : State), s.power.state ≤ 1 → cfg s 0xB013 0 = 1 →
    (∀ (pc : Fin 32) (upset : Upset), s.store.state = 2 → s.integ.scrubQueue.find? (fun u => (cellOf s (u * 64)).pc == pc.val) = none →
      ∃ t, exec (.scrub dt pc upset) s = .next t ∧
        tget 0 t.integ.scrubPos pc = if tget 0 s.integ.scrubPos pc + 1 < pcUnits then tget 0 s.integ.scrubPos pc + 1 else 0) ∧
    (∀ (pc : Fin 32) (upset : Upset) (u : Nat), s.store.state = 2 → s.integ.scrubQueue.find? (fun u => (cellOf s (u * 64)).pc == pc.val) = some u →
      ∃ t, exec (.scrub dt pc upset) s = .next t ∧ t.integ.scrubPos = s.integ.scrubPos ∧ t.integ.scrubQueue = s.integ.scrubQueue.erase u ∧
        ∀ b, b = 2 * u ∨ b = 2 * u + 1 → (burstClass s b = 1 → tget {} t.store.marks b = {}) ∧
          (burstClass s b = 3 → (tget {} t.store.marks b).poisoned = true)) ∧
    (∀ (bank : Fin 22) (data : BitVec 64) (check : BitVec 8),
      s.integ.sramQueue.find? (fun key => sramBank (keyMem key) (keyAddr key) == bank.val) = none →
      ∃ t, exec (.sramScrub dt bank data check) s = .next t ∧ t.store.mem = s.store.mem ∧
        tget 0 t.integ.sramPos bank = if tget 0 s.integ.sramPos bank + 1 < sramWords bank then tget 0 s.integ.sramPos bank + 1 else 0) ∧
    (∀ (bank : Fin 22) (data : BitVec 64) (check : BitVec 8) (key : Nat),
      s.integ.sramQueue.find? (fun key => sramBank (keyMem key) (keyAddr key) == bank.val) = some key →
      ∃ t, exec (.sramScrub dt bank data check) s = .next t ∧ t.store.mem = s.store.mem ∧ t.integ.sramPos = s.integ.sramPos ∧
        t.integ.sramQueue = s.integ.sramQueue.erase key)) ∧
  (∀ (dt : Nat) (s : State), storeRuns s = true →
    (∀ entry r, s.integ.retired[entry]? = some r → r.state = 1 →
      ∃ t, exec (.retireCopyDone dt entry) s = .next t ∧ t.integ.retired[entry]? = some { r with state := 2 } ∧
        { r with state := 2 } ∈ t.integ.retiredFlash ∧ Output.flash 3 entry ∈ t.model.tx) ∧
    (∃ t, exec (.counterWriteback dt) s = .next t ∧ t.noz.cntStored = s.noz.cnt ∧ t.noz.cnt = s.noz.cnt ∧ t.store = s.store ∧ t.integ = s.integ) ∧
    (flashWorks s = true → s.noz.savedAt + cfgN s 0x6033 0 * sec ≤ s.time.now + dt →
      ∃ t, exec (.nozzleSave dt) s = .next t ∧ t.noz.savedAt = s.time.now + dt ∧ t.store = s.store ∧
        ∀ h, h < 64 → tget false t.noz.dirty h = false ∧ (tget false s.noz.dirty h = true → tget false t.noz.flashed h = true ∧ Output.flash 2 h ∈ t.model.tx)))

/-- R26, R29, R39, R282, R284, R213: a powered engine that errs, stalls or fails its tile is out of service, a cluster's fault takes each of its
engines out, a gated engine finds no fault; a remount ends once its lines are made up; a region that fails takes its engines' remounts with it and
is a fault of class 3. -/
def Obligations.EngineFaultsTakeEnginesOut : Prop := ∀ (dt : Nat) (engine : Fin 36) (s : State),
  (LoneFault dt s →
    (engineRuns (tick dt s) engine = true → (s.engine engine).role ≠ .out →
      ∃ t, exec (.engineFault dt engine { cause := 1 }) s = .next t ∧ (t.engine engine).role = .out ∧ t.store.mem = s.store.mem) ∧
    (∃ t, exec (.engineFault dt engine { cause := 5 }) s = .next t ∧
      ∀ j : Fin 36, j.val / 3 = engine.val / 3 → engineRuns (tick dt s) j = true → (t.engine j).role = .out) ∧
    (stalled (tick dt s) engine = true → ∃ t, exec (.engineStall dt engine) s = .next t ∧ (t.engine engine).role = .out) ∧
    (engineRuns (tick dt s) engine = true → (s.engine engine).role = .free ∨ (s.engine engine).role = .spare →
      ∃ t, exec (.tileCheck dt engine false) s = .next t ∧ (t.engine engine).role = .out) ∧
    (engineRuns (tick dt s) engine = false → ∀ cause, cause ≠ 5 →
      ∃ t, exec (.engineFault dt engine { cause := cause }) s = .next t ∧ t.screen.engines = s.screen.engines ∧ t.faults = s.faults)) ∧
  (engineRuns (tick dt s) engine = true → (s.engine engine).role = .free ∨ (s.engine engine).role = .spare →
    ∃ t, exec (.tileCheck dt engine true) s = .next t ∧ tget 0 (t.engine engine).stats 3 = tget 0 (s.engine engine).stats 3 + 1 ∧
      (t.engine engine).role = (s.engine engine).role) ∧
  (∀ m, (s.engine engine).remount = some m → m.lf < (s.engine engine).next →
    ∃ t, exec (.engineRemount dt engine) s = .next t ∧ (t.engine engine).remount = none) ∧
  (∀ region : Fin 4, ∃ t, exec (.regionFault dt region) s = .next t ∧ (∀ i, i < 9 → (t.engine (9 * region + i)).remount = none) ∧
      ∃ f ∈ t.faults.active, f.code = 0xB021 ∧ f.unit = unitRegion region ∧ 3 ≤ f.cls)

/-! ### Print heads and trace links -/

/-- R330: a reading at or above the hot level makes the head hot and inhibits it, one at or above the warm level makes a normal head warm, and the
levels fall again only after their times below hysteresis; a head that sends no reading in time is hot. R305, R327, R347, R354: a sensed nozzle,
failed or recovered, changes the table by a device commit; an incomplete segment and missed FIREs of this chip's own FIREs are counted on the
link. -/
def Obligations.HeadsReport : Prop :=
  (∀ (dt : Nat) (head : Fin 64) (s : State),
    (∀ temp, laneActive s head = true → headAssigned (tick dt s) head = true → (s.head head).thermal ≠ 2 → cfg s 0x700B head ≤ temp →
      ∃ t, exec (.temperature dt head temp) s = .next t ∧ (t.head head).temp = temp ∧ (t.head head).thermal = 2 ∧ (t.head head).hotReason = 1 ∧
        (t.head head).inhibited = true ∧ (t.head head).lastRead = some (s.time.now + dt)) ∧
    (∀ temp, laneActive s head = true → headAssigned (tick dt s) head = true → (s.head head).thermal = 0 → temp < cfg s 0x700B head →
      ∃ t, exec (.temperature dt head temp) s = .next t ∧ (t.head head).temp = temp ∧
        (t.head head).thermal = (if cfg s 0x700A head ≤ temp then 1 else 0) ∧ t.proto = s.proto ∧ ∀ m, m ≠ head.val → t.head m = s.head m) ∧
    (∀ temp, laneActive s head = true → headAssigned (tick dt s) head = true → (s.head head).thermal = 2 →
      ∃ t, exec (.temperature dt head temp) s = .next t ∧ (t.head head).temp = temp ∧ (t.head head).thermal = 2 ∧ t.proto = s.proto ∧
        (cfg s 0x700B head - cfg s 0x700C head < temp → (t.head head).coolSince = none)) ∧
    ((s.head head).thermal = 1 → since (tick dt s) (s.head head).coolSince (100 * ms) = true →
      ∃ t, exec (.warmExit dt head) s = .next t ∧
        t.head head = { s.head head with thermal := 0, turned := none, warmAnnounced := false, coolSince := none } ∧ ∀ m, m ≠ head.val → t.head m = s.head m) ∧
    (laneActive s head = true → (s.head head).thermal = 2 → since (tick dt s) (s.head head).coolSince (cfgN s 0x700D head * ms) = true →
      ∃ t, exec (.hotExit dt head) s = .next t ∧ (t.head head).thermal = 1 ∧ (t.head head).inhibited = false) ∧
    (laneActive s head = true → headAssigned (tick dt s) head = true → (s.head head).thermal ≠ 2 →
      since (tick dt s) (s.head head).lastRead (cfgN s 0x700E head * ms) = true →
      ∃ t, exec (.telemetryTimeout dt head) s = .next t ∧ (t.head head).thermal = 2 ∧ (t.head head).hotReason = 2 ∧ (t.head head).inhibited = true)) ∧
  (∀ (dt : Nat) (head : Fin 64) (s : State), laneActive s head = true →
    (∀ nozzle, (s.lane head).senseEn = true → nozzle < headChans → holdsLead s = true →
      (∃ t, exec (.nozzleSense dt head nozzle true) s = .next t ∧ t.proto.waiting = s.proto.waiting ++
        [⟨false, 1, [⟨channel head nozzle, 1, { base := some 2, source := some 1, onlyIf := some 1 }⟩], [], none, none⟩]) ∧
      (∃ t, exec (.nozzleSense dt head nozzle false) s = .next t ∧ t.proto.waiting = s.proto.waiting ++
        [⟨false, 1, [⟨channel head nozzle, 1, { source := some 3, onlyAt := some 1 }⟩], [], none, none⟩])) ∧
    (∀ (row src : Fin 2) (line : Nat), ownReport s head src (reportedLine s (2 * head + row) line) = true →
      ∃ t, exec (.incompleteSegment dt head row ⟨line, src⟩) s = .next t ∧ tget 0 (t.lane head).stats 6 = tget 0 (s.lane head).stats 6 + 1) ∧
    (∀ (row src : Fin 2) (fseq missing : Nat), ownReport s head src (missedFrom s (2 * head + row) fseq) = true →
      ∃ t, exec (.missedFires dt head row fseq ⟨missing, src⟩) s = .next t ∧
        tget 0 (t.lane head).stats 5 = tget 0 (s.lane head).stats 5 + BitVec.ofNat 64 missing))

/-- R356 to R360, R363: the steps of a lane's bring-up: a bridge is found or gone, the block locks, the capability words come, 64 echoes give the
latency, and a step that fails costs an attempt of a retrain, whose last one fails the lane. -/
def Obligations.LaneBringUpSteps : Prop := ∀ (dt : Nat) (head : Fin 64) (s : State),
  (s.power.state ≤ 1 → senseDue (tick dt s) head = true →
    ((s.lane head).state = 1 ∨ (s.lane head).state = 2 ∨ ((s.lane head).state = 0 ∧ cfgN s 0x7043 head = 1)) →
    (∃ t, exec (.traceDetect dt head true) s = .next t ∧ (t.lane head).state = 3 ∧ (t.lane head).step = 2 ∧ Output.train head 0 0 ∈ t.model.tx) ∧
    (∃ t, exec (.traceDetect dt head false) s = .next t ∧ (t.lane head).state = 2 ∧ (t.lane head).openRaised = true ∧ (t.lane head).handle = none)) ∧
  (∀ adapt, (s.lane head).state = 3 → ∃ t words, exec (.blockLock dt ⟨head, adapt⟩) s = .next t ∧ (t.lane head).state = 4 ∧ (t.lane head).capsIn = [] ∧
    (t.lane head).adapt = adapt ∧ Output.caps head words ∈ t.model.tx) ∧
  (∀ words, (s.lane head).state = 4 →
    capsRefusal (s.lane head).rate (tget none (words.foldl (fun t w => tput none t w.1 (some w.2)) (s.lane head).capsIn)) = none →
    ∃ t, exec (.caps dt head words) s = .next t ∧ (t.lane head).state = 5 ∧ (t.lane head).measuring = true ∧ (t.lane head).echoes = 0) ∧
  (∀ words refusal, (s.lane head).state = 4 →
    capsRefusal (s.lane head).rate (tget none (words.foldl (fun t w => tput none t w.1 (some w.2)) (s.lane head).capsIn)) = some refusal →
    (s.lane head).capsTries < 2 →
    ∃ t, exec (.caps dt head words) s = .next t ∧ (t.lane head).state = 4 ∧ (t.lane head).capsTries = (s.lane head).capsTries + 1) ∧
  (∀ flight, ((s.lane head).state = 5 ∨ (s.lane head).state = 6) → (s.lane head).measuring = true →
    ((s.lane head).echoes < 63 → ∃ t, exec (.echoReply dt head ⟨(s.lane head).echoSeq, flight⟩) s = .next t ∧
      (t.lane head).echoes = (s.lane head).echoes + 1 ∧ (t.lane head).echoSum = (s.lane head).echoSum + flight ∧
      (t.lane head).state = (s.lane head).state) ∧
    (63 ≤ (s.lane head).echoes → ∃ t, exec (.echoReply dt head ⟨(s.lane head).echoSeq, flight⟩) s = .next t ∧ (t.lane head).measuring = false ∧
      (t.lane head).state = 6 ∧ (t.lane head).echoes = 0) ∧
    (∀ seq, seq ≠ (s.lane head).echoSeq → exec (.echoReply dt head ⟨seq, flight⟩) s = .next (tick dt s))) ∧
  (((s.lane head).state = 3 ∨ (s.lane head).state = 4 ∨ (s.lane head).state = 5) →
    (∀ n, (s.lane head).retrain = some (n + 1) →
      ∃ t, exec (.bringupStepFail dt head) s = .next t ∧ (t.lane head).state = 3 ∧ (t.lane head).retrain = some n) ∧
    ((s.lane head).retrain = some 0 →
      ∃ t, exec (.bringupStepFail dt head) s = .next t ∧ (t.lane head).state = 9 ∧ (t.lane head).retrain = none))

/-- R343, R344, R345, R350, R360, R362, R365, R366, R368: an active link measures its latency once a second, retrains when its lock is lost or its
errors pass the limit, counts blocks it discards, reads its eye and wants its adaptation, and carries CLAIM and the bridge's answer to it. R355,
R364, R375: a bridge's answer ends its request, and the command that asked with it; one that does not come in 100 µs ends it with 0901h; an
accepted power request puts the lane to sleep. -/
def Obligations.ActiveLinksAndBridges : Prop :=
  (∀ (dt : Nat) (head : Fin 64) (s : State),
    (laneActive s head = true → (s.lane head).measuring = false → (s.lane head).measuredAt + sec ≤ s.time.now + dt →
      ∃ t, exec (.latencyMeasure dt head) s = .next t ∧ (t.lane head).measuring = true ∧ (t.lane head).measuredAt = s.time.now + dt ∧
        (Output.train head 1 ((s.lane head).echoSeq + 1) ∈ t.model.tx ∨ Output.train head 1 ((s.lane head).echoSeq + 1) ∈ (t.lane head).mgmt) ∧
        ∀ m, m ≠ head.val → t.lane m = s.lane m) ∧
    (laneActive s head = true → deepPending s head = false →
      (∃ t, exec (.lockLost dt head) s = .next t ∧ (t.lane head).state = 3 ∧ (t.lane head).step = 2 ∧ (t.lane head).requests = [] ∧
        (t.lane head).retrain = some (cfgN s 0x7050 0 - 1) ∧ tget 0 (t.lane head).stats 4 = tget 0 (s.lane head).stats 4 + 1) ∧
      ∀ failures, cfgN s 0x7051 0 < failures →
        ∃ t, exec (.errorLimit dt head failures) s = .next t ∧ (t.lane head).state = 3 ∧ (t.lane head).retrain = some (cfgN s 0x7050 0 - 1) ∧
          tget 0 (t.lane head).stats 4 = tget 0 (s.lane head).stats 4 + 1) ∧
    (∀ sync payload,
      (∀ k, blockFault sync payload = some k → ∃ t, exec (.traceBlockDiscard dt head ⟨sync, payload⟩) s = .next t ∧
        tget 0 (t.lane head).stats k = tget 0 (s.lane head).stats k + 1 ∧ (t.lane head).state = (s.lane head).state) ∧
      (blockFault sync payload = none → exec (.traceBlockDiscard dt head ⟨sync, payload⟩) s = .next (tick dt s))) ∧
    (∀ width height adapt, laneActive s head = true → (∀ x, (s.lane head).eyeReadAt = some x → x + sec ≤ s.time.now + dt) →
      ∃ t, exec (.eyeRead dt head ⟨width, height⟩ adapt) s = .next t ∧
        (t.lane head).eye = [(s.lane head).eye.getD 0 0, (s.lane head).eye.getD 1 0, width, height] ∧
        (t.lane head).eyeReadAt = some (s.time.now + dt) ∧ ∀ v, adapt = some v → ∃ x, (t.lane head).adaptNext = some (v, x)) ∧
    (∀ mode, claimMode s head = some mode → laneActive s head = true → s.faults.stopped = false →
      ∃ t, exec (.claimSend dt head) s = .next t ∧ Output.claim head mode s.pair.epoch ∈ t.model.tx ∧ Quiet (tick dt s) t) ∧
    (∀ owner reason epoch, laneActive s head = true → s.pair.state ≠ 5 → s.pair.state ≠ 6 →
      ∃ t, exec (.claimStatus dt head owner reason epoch) s = .next t ∧
        (t.lane head).claim = BitVec.ofNat 32 (owner % 4 * 2 ^ 30 + reason % 16 * 2 ^ 24 + epoch % 65536) ∧
        tget 0 t.pair.owner head = if owner = 0 then 0 else if owner - 1 = lanePort s head then 1 else 2)) ∧
  (∀ (dt : Nat) (head : Fin 64) (q : BridgeReq) (w : BitVec 16) (s : State),
    (s.lane head).requests.find? (fun x => x.tag == q.tag) = some q → (s.lane head).waiting = [] →
    (∀ status data, q.why = 0 → q.handle = some w → (s.handle (w.toNat % 256)).phase = .running → handleWord s (w.toNat % 256) = w →
      ∃ t, exec (.configResponse dt head q.tag status data) s = .next t ∧ Completed (w.toNat % 256) (configCode status) (data.setWidth 96) t ∧
        (t.lane head).requests = (s.lane head).requests.filter (fun x => x.tag != q.tag)) ∧
    (∀ data v, q.why = 1 → (s.lane head).powerReq = some v → v ≠ 0 →
      ∃ t, exec (.configResponse dt head q.tag 0 data) s = .next t ∧ (t.lane head).state = (if v = 1 then 7 else 8) ∧ (t.lane head).power = v ∧
        (t.lane head).powerReq = none) ∧
    (∀ data : BitVec 32, q.why = 2 →
      ∃ t, exec (.configResponse dt head q.tag 0 data) s = .next t ∧
        (t.lane head).eye = [data.toNat / 65536, data.toNat % 65536, (s.lane head).eye.getD 2 0, (s.lane head).eye.getD 3 0]) ∧
    (q.sentAt + 100 * us ≤ s.time.now + dt → unsent s head q.tag = false → q.handle = some w → (s.handle (w.toNat % 256)).phase = .running → handleWord s (w.toNat % 256) = w →
      ∃ t, exec (.configTimeout dt head q.tag) s = .next t ∧ Completed (w.toNat % 256) 0x0901 0 t ∧
        (t.lane head).requests = (s.lane head).requests.filter (fun x => x.tag != q.tag)))

/-! ### Inspection, the loop and network time -/

/-- R402, R403: packets of a camera: a frame starts, its lines are taken, packets in error are counted, and it ends or is late. -/
def Obligations.CameraFramesAreTaken : Prop := ∀ (dt : Nat) (port : Fin 4) (vc : Fin 16) (s : State), captureRuns s = true →
  (∀ n f ecc, sensorOn (tick dt s) port vc = some n → openOf s n = some f → f.started = false →
    ∃ t g, exec (.frameStart dt port ⟨vc, ecc⟩) s = .next t ∧ frameOf t n f.frame = some g ∧ g.started = true ∧ (t.sensor n).discard = false ∧ t.store = s.store) ∧
  (∀ n ecc, sensorOn (tick dt s) port vc = some n → openOf s n = none →
    ∃ t, exec (.frameStart dt port ⟨vc, ecc⟩) s = .next t ∧ (t.sensor n).discard = true ∧
      tget 0 t.insp.errors ((16 * port + vc) * 8 + 5) = tget 0 s.insp.errors ((16 * port + vc) * 8 + 5) + 1) ∧
  (∀ n f dtype pixels, sensorOn (tick dt s) port vc = some n → s.integ.sramErr = [] → (s.sensor n).discard = false → openOf s n = some f → frameOf s n f.frame = some f →
    f.started = true → dtype = (sensorCfg (envAt (tick dt s) (lineOf f.first)) n).dtype → f.got + f.missed.length < f.linesCfg → f.nextLine < f.linesCfg →
    pixels.length = f.width * chanCount dtype →
    ∃ t g, exec (.cameraLine dt port vc dtype pixels true false []) s = .next t ∧ frameOf t n f.frame = some g ∧ g.got = f.got + 1 ∧
      g.excluded = f.excluded ∧ t.insp.errors = s.insp.errors) ∧
  (sensorOn (tick dt s) port vc = none → ∀ dtype pixels,
    exec (.cameraLine dt port vc dtype pixels true false []) s = .next (tick dt s)) ∧
  ((∃ t, exec (.cameraPacketError dt port vc 0) s = .next t ∧
      tget 0 t.insp.errors (16 * port * 8 + 1) = tget 0 s.insp.errors (16 * port * 8 + 1) + 1) ∧
    (∀ why, why ≠ 0 → sensorOn (tick dt s) port vc = none → ∃ t, exec (.cameraPacketError dt port vc why) s = .next t ∧
      tget 0 t.insp.errors ((16 * port + vc) * 8 + 3) = tget 0 s.insp.errors ((16 * port + vc) * 8 + 3) + 1)) ∧
  (∀ n f ecc, sensorOn (tick dt s) port vc = some n → (s.sensor n).discard = false → openOf s n = some f → frameOf s n f.frame = some f →
    f.started = true → ∃ t, exec (.frameEnd dt port ⟨vc, ecc⟩) s = .next t ∧ ∃ g ∈ t.insp.log, g.is n f.frame = true ∧ g.ended = true) ∧
  (∀ n, sensorOn (tick dt s) port vc = some n → (s.sensor n).discard = true →
    ∃ t, exec (.frameEnd dt port ⟨vc, false⟩) s = .next t ∧ (t.sensor n).discard = false ∧ t.store = s.store) ∧
  (∀ f ∈ openFrames s, f.port = port.val → f.started = false → f.trigAt + (envAt (tick dt s) (lineOf f.first)).nat 0x8004 port * ns < s.time.now + dt →
    ∃ t, exec (.startWindow dt port) s = .next t ∧ t.store = s.store ∧ ∃ g ∈ t.insp.frames, g.is f.sensor f.frame = true ∧ g.has ffLate = true)

/-- R119, R397: a camera port gives a line trigger at the instant predicted for it, and goes on to the frame's next line; the pulse goes out where the
position lies above the port's mark. R406, R411, R407, R555: an exposure list ends, a slice finishes its frame, a slice that fails takes no more,
and a stuck camera or power bus is clocked free. -/
def Obligations.LinesListsAndSlices : Prop :=
  (∀ (dt : Nat) (port : Fin 4) (d : LineDue) (x : Nat) (s : State), camDue (tick dt s) port = some d →
    (s.camPort port).pred = some (d.pos, x) → x ≤ s.time.now + dt → captureRuns s = true → s.axis.state = 1 →
    ∃ t, exec (.lineTrigger dt port) s = .next t ∧ (t.camPort port).m = d.m + 1 ∧ (d.new = true → (t.camPort port).frameF = some d.first) ∧
      (∀ p, (s.camPort port).mark = some p → p < d.pos → (s.camPort port).lastTrig = none → isWheeler s = false →
        (t.camPort port).mark = some d.pos ∧ (t.camPort port).lastTrig = some x ∧ Output.camTrigger port false ∈ t.model.tx)) ∧
  (∀ (dt : Nat) (s : State),
    (∀ (sensor : Fin 16) (failed : Option (Fin 16)), (s.sensor sensor).expRun = true →
      (s.camPort (sensorCfg (envNow (tick dt s)) sensor).port).cciHandle = none →
      ∃ t, exec (.exposureListDone dt sensor failed) s = .next t ∧ (t.sensor sensor).expRun = false ∧
        (failed = none → (t.sensor sensor).expOpen = none ∧ (t.sensor sensor).expDone = (s.sensor sensor).expOpen.getD (s.sensor sensor).expDone) ∧
        (failed ≠ none → (t.sensor sensor).expDone = (s.sensor sensor).expDone)) ∧
    (∀ (slice : Fin 4) (f : Frame), sliceFrame s slice = some f → captureRuns s = true → tget false s.insp.sliceFailed slice = false →
      ∃ t, exec (.sliceDone dt slice) s = .next t ∧ t.store.mem = s.store.mem ∧
        ∀ g ∈ t.insp.frames, g.is f.sensor f.frame = true → g.processed = true) ∧
    (∀ slice : Fin 4, tget false s.insp.sliceFailed slice = false →
      ∃ t, exec (.sliceFault dt slice) s = .next t ∧ tget false t.insp.sliceFailed slice = true ∧ t.store.mem = s.store.mem) ∧
    (∀ slice : Fin 4, tget false s.insp.sliceFailed slice = true → exec (.sliceFault dt slice) s = .next (tick dt s)) ∧
    (∀ (bus : Fin 5) (released : Bool), bus.val < 4 → captureRuns s = true →
      ∃ t, exec (.cciBusStuck dt bus released) s = .next t ∧ Output.cci bus 0 [] ∈ t.model.tx) ∧
    (∀ released : Bool, supplied s = true → ∃ t, exec (.cciBusStuck dt 4 released) s = .next t ∧ Output.pmbus 0 4 0 ∈ t.model.tx ∧ Quiet (tick dt s) t))

/-- R424, R425, R430: a complete bar is measured, or is skipped for a reason; the last bar says which, and the bar is done with. -/
def Obligations.LoopBarsAreMeasured : Prop := ∀ (dt : Nat) (b : Bar) (s : State), s.loop.outstanding = none → captureRuns s = true →
  s.loop.bars.find? (barComplete (tick dt s)) = some b →
  (skipReason (tick dt s) b ≠ 0 →
    ∃ t, exec (.loopBar dt) s = .next t ∧ t.loop.last.bar = b.j ∧ t.loop.last.outcome = 2 ∧ t.loop.last.reason = skipReason (tick dt s) b ∧
      t.loop.bars = s.loop.bars.filter (fun x => x.j != b.j)) ∧
  (skipReason (tick dt s) b = 0 → noInk (tick dt s) b = true →
    ∃ t, exec (.loopBar dt) s = .next t ∧ t.loop.last.bar = b.j ∧ t.loop.last.outcome = 2 ∧ t.loop.last.reason = 2 ∧
      t.loop.bars = s.loop.bars.filter (fun x => x.j != b.j)) ∧
  (skipReason (tick dt s) b = 0 → noInk (tick dt s) b = false →
    ∃ t, exec (.loopBar dt) s = .next t ∧ t.loop.last.bar = b.j ∧ (t.loop.last.outcome = 0 ∨ t.loop.last.outcome = 1 ∨ t.loop.last.outcome = 4) ∧
      (b.mode ≠ 2 → t.loop.last.outcome = 1 ∧ t.proto.waiting = s.proto.waiting))

/-- R440, R447, R448, R449: frames of the master of a clock that follows: a two-step Sync waits for its Follow_Up, which gives the instants; the
Delay_Resp that answers the clock's request gives the path delay. R440, R447, R448: a master sends Sync with Follow_Up and Announce, and a
follower Delay_Req; other messages are counted and dropped; what a boundary clock holds for a Follow_Up, and masters that fall silent, are
forgotten. -/
def Obligations.PtpMessagesAndTimers : Prop :=
  (∀ (dt : Nat) (m : PtpMsg) (s : State), ptpRuns s = true → ptpTakes s m = true →
    (∀ ago, forwards s m.port = false → fromMaster s m = true → m.twoStep = true →
      ∃ t t2, exec (.sync dt m ago) s = .next t ∧ (t.ptpPort m.port).sync = some (m.seqId, t2, m.correction) ∧
        (t.ptpPort m.port).t1t2 = (s.ptpPort m.port).t1t2 ∧ t.axis = s.axis) ∧
    (∀ ago, forwards s m.port = false → fromMaster s m = true → m.twoStep = false →
      ∃ t t2, exec (.sync dt m ago) s = .next t ∧ (t.ptpPort m.port).sync = none ∧
        (t.ptpPort m.port).t1t2 = some (m.origin * 65536 + m.correction + cfg s 0x9008 m.port * 65536 / 1000, t2)) ∧
    (∀ t2 corr, forwards s m.port = false → fromMaster s m = true → (s.ptpPort m.port).sync = some (m.seqId, t2, corr) →
      ∃ t, exec (.followUp dt m) s = .next t ∧ (t.ptpPort m.port).sync = none ∧
        (t.ptpPort m.port).t1t2 = some (m.origin * 65536 + m.correction + corr + cfg s 0x9008 m.port * 65536 / 1000, t2)) ∧
    (∀ t1 t2 t3, fromMaster s m = true → m.reqClock = ownClock → m.reqPort = m.port + 1 → (s.ptpPort m.port).t1t2 = some (t1, t2) →
      (s.ptpPort m.port).delayReq = some (m.seqId, t3) →
      ∃ t, exec (.delayResp dt m) s = .next t ∧ (t.ptpPort m.port).delayReq = none ∧ t.time.pathDelay =
        (((t2 - t1) + ((m.origin * 65536 - m.correction + cfg s 0x9008 m.port * 65536 / 1000) - t3)) / 2 / 65536).toNat) ∧
    (∀ ago, forwards s m.port = false → (s.ptpPort m.port).state = 6 →
      ∃ t body, exec (.delayReq dt m ago) s = .next t ∧ Sent (.ptp m.port 9 m.seqId m.correction body) s t) ∧
    (∀ d : Dataset, m.sourceClock ≠ ownClock → d.steps < 255 → (m.port.val ≠ 2 ∨ netMaster s = false) →
      ∃ t, exec (.announce dt m d) s = .next t ∧ ∃ f ∈ (t.ptpPort m.port).foreign, f.identity = m.sourceClock ∧ f.lastHeard = s.time.now + dt ∧
        f.rank = [d.priority1, d.clockClass, d.accuracy, d.variance, d.priority2, d.identity.toNat, d.steps])) ∧
  (∀ (dt : Nat) (s : State),
    (∀ port : Fin 3, ptpRuns s = true → timeRole s ≠ 0 → (s.ptpPort port).state = 6 →
      (∃ t body, exec (.ptpSendInterval dt port 0) s = .next t ∧ Sent (.ptp port 0 (s.ptpPort port).syncSeq.toNat 0 []) s t ∧
        Sent (.ptp port 8 (s.ptpPort port).syncSeq.toNat 0 body) s t ∧ (t.ptpPort port).syncSeq = (s.ptpPort port).syncSeq + 1) ∧
      (∃ t body, exec (.ptpSendInterval dt port 11) s = .next t ∧ Sent (.ptp port 11 (s.ptpPort port).annSeq.toNat 0 body) s t ∧
        (t.ptpPort port).annSeq = (s.ptpPort port).annSeq + 1)) ∧
    (∀ port : Fin 3, ptpRuns s = true → timeRole s ≠ 0 → (s.ptpPort port).state = 9 →
      ∃ t x, exec (.ptpSendInterval dt port 1) s = .next t ∧ Sent (.ptp port 1 (s.ptpPort port).reqSeq.toNat 0 []) s t ∧
        (t.ptpPort port).delayReq = some ((s.ptpPort port).reqSeq.toNat, x)) ∧
    (∀ (port : Fin 3) (msgType : Nat), ptpRuns s = true →
      ∃ t, exec (.ptpOther dt port msgType) s = .next t ∧ (t.ptpPort port).discarded = (s.ptpPort port).discarded + 1 ∧
        tget 0 (t.port port).stats 0 = tget 0 (s.port port).stats 0 + 1) ∧
    (∃ t, exec (.followUpTimeout dt) s = .next t ∧ t.time.fwd = s.time.fwd.filter (fun f => decide (s.time.now + dt < f.2.2.2.2 + sec)) ∧
      t.store = s.store ∧ t.axis = s.axis) ∧
    (∃ t, exec (.announceTimeout dt) s = .next t ∧
      ∀ n, n < 3 → ∀ f ∈ (t.ptpPort n).foreign, s.time.now + dt < f.lastHeard + (cfgElem s 0x9005 0 3).toNat * announcePs s))

/-- R454, R456, R457, R458: an edge of an EVT pin that the filter accepts is captured where the queue has room and flagged where it is full; a
process-data frame goes out at each instant; and a correlation is kept for each, newest first, of the last sixteen. -/
def Obligations.CapturesAndCorrelations : Prop := ∀ (dt : Nat) (s : State),
  (∀ (n : Fin 4) (dev : Int) (rising crystal : Bool), evtAccepted (tick dt s) n rising = true → s.power.state ≤ 1 →
    (evtEnabled s n rising = true →
      ∃ t, exec (.evtCapture dt n rising dev crystal) s = .next t ∧ (t.evt n).seq = (s.evt n).seq + 1 ∧ (t.evt n).level = some rising ∧
        ((s.evt n).queue.length < 64 → ∃ c, (t.evt n).queue = (s.evt n).queue ++ [c] ∧ c.seq = (s.evt n).seq ∧ c.edge = if rising then 1 else 2) ∧
        (64 ≤ (s.evt n).queue.length → popsNow (tick dt s) 0x9052 n = false → (t.evt n).queue = (s.evt n).queue ∧ (t.evt n).status.on 0 = true)) ∧
    (evtEnabled s n rising = false →
      ∃ t, exec (.evtCapture dt n rising dev crystal) s = .next t ∧ (t.evt n).level = some rising ∧ (t.evt n).queue = (s.evt n).queue)) ∧
  (∀ (n : Fin 4) (dev : Int) (rising crystal : Bool), evtAccepted (tick dt s) n rising = false → exec (.evtCapture dt n rising dev crystal) s = .next (tick dt s)) ∧
  (∀ (slot : Nat) (m : Int), slotOf s s.time.pd.session = some slot → s.time.pd.lastN = some m → s.time.pd.running = true → ptpRuns s = true →
    pdInstant s (m + 1) * 1000 ≤ devTime (tick dt s) →
    ∃ t fields, exec (.pdCycle dt) s = .next t ∧ t.time.pd.lastN = some (m + 1) ∧ t.axis = s.axis ∧
      Sent (.pd (s.sess slot).peer (s.sess slot).id (BitVec.ofNat 64 (2 ^ 63 + (s.sess slot).devSeq)) fields) s t) ∧
  (s.power.state ≤ 2 → s.time.corr = [] →
    ∃ t c, exec (.correlation dt) s = .next t ∧ t.time.corr = [c] ∧ c.time = (corrInstant (tick dt s)).toNat ∧ t.time.stepped = false) ∧
  (∀ c rest, s.power.state ≤ 2 → s.time.corr = c :: rest → (c.time : Int) < corrInstant (tick dt s) →
    ∃ t x, exec (.correlation dt) s = .next t ∧ t.time.corr = (x :: s.time.corr).take 16 ∧ x.time = (corrInstant (tick dt s)).toNat) ∧
  (∀ c rest, s.time.corr = c :: rest → s.time.stepped = false → corrInstant (tick dt s) ≤ c.time → exec (.correlation dt) s = .next (tick dt s))

/-! ### The pair link -/

/-- R471, R473: the header of every record: one that does not verify changes nothing; one that does ends the partner's silence, takes off what it
acknowledges, and is acknowledged where it asks for it, a repeat too. R472, R474, R478, R163: HEARTBEAT, LPOS, RING and ECHO are taken by either
chip. -/
def Obligations.RecordsAreTaken : Prop :=
  (∀ (dt : Nat) (h : PairHdr) (s : State),
    ((pairRuns s = false ∨ h.crcOk = false) → exec (.pairAck dt h) s = .next (tick dt s)) ∧
    (pairRuns s = true → h.crcOk = true →
      ∃ t, exec (.pairAck dt h) s = .next t ∧ t.pair.heardAt = some (s.time.now + dt) ∧ t.pair.silent = false ∧ t.axis = s.axis ∧ t.store = s.store ∧
        (h.ackReq = false → t.pair.pending = s.pair.pending.filter (fun p => decide (h.ackSeq < p.seq)) ∧ t.pair.txSeq = s.pair.txSeq) ∧
        (h.ackReq = true → t.pair.txSeq = s.pair.txSeq + 1 ∧ ∃ a, Output.pair s.pair.txSeq false a .ack ∈ t.model.tx))) ∧
  (∀ (dt : Nat) (h : PairHdr) (s : State), FreshRecord h s →
    (∀ b : Heartbeat, ∃ t, exec (.heartbeat dt h b) s = .next t ∧ t.pair.heartbeat = some b) ∧
    (∀ t0 count lpos, s.pair.state = 5 → s.pair.kKnown = true →
      ∃ t, exec (.lposRecord dt h t0 count lpos) s = .next t ∧ tget 0 t.pair.compare 0 = tget 0 s.pair.compare 0 + 1 ∧ t.axis = s.axis) ∧
    (∀ (ring : Fin 64) (cum release limit : Nat) (ranges : List (Nat × Nat)),
      ∃ t, exec (.ringRecord dt h ring cum release ranges limit) s = .next t ∧ (t.ring ring).peerCum = cum ∧ (t.ring ring).peerRelease = release ∧
        (t.ring ring).peerRanges = ranges ∧ t.store = s.store) ∧
    (∀ (latency : Nat) (offset diff : Int), ∃ t, exec (.echo dt h latency offset diff) s = .next t ∧ t.pair.latency = latency ∧ t.pair.offset = offset ∧
        t.pair.timeDiff = diff ∧ t.axis = s.axis))

/-- R475, R476, R477: the wheeler takes over what the lead mirrors: a commit in its turn, a write, block data, and the axis. R389, R434, R472, R474:
the wheeler takes over the loop's bars, the rein-back, the grandmaster and the logs; a lead changes nothing. -/
def Obligations.WheelerFollowsTheLead : Prop :=
  (∀ (dt : Nat) (h : PairHdr) (s : State), FreshRecord h s →
    (∀ c : Commit, s.pair.state = 5 → s.pair.early = [] → c.gen = s.proto.gen + 1 →
      ∃ t, exec (.commitRecord dt h c []) s = .next t ∧ t.proto.gen = c.gen ∧ t.pair.early = [] ∧ ∃ x ∈ t.proto.commits, x.gen = c.gen ∧ x.line = c.line) ∧
    (∀ c : Commit, s.pair.state = 4 → s.pair.snapshot = false →
      ∃ t, exec (.commitRecord dt h c []) s = .next t ∧ t.pair.early = s.pair.early ++ [c] ∧ t.proto.commits = s.proto.commits) ∧
    (∀ w : ObjWrite, clearFlags w.idx w.sub 0 s = none → writeOnly w.idx w.sub 0 s = none →
      ∃ t, exec (.writeRecord dt h [w]) s = .next t ∧ (baseVal t w.idx w.sub).1 = storedValue w.idx w.val) ∧
    (∀ (b : BlockRec) (first count : Nat), s.pair.state = 5 → b.op = .nozzleWrite first count → s.pair.blocks = [] →
      ∃ t, exec (.blockRecord dt h b) s = .next t ∧ t.pair.blocks = [⟨b.handle, b.op, putData [] b.offset b.data⟩] ∧ t.store = s.store) ∧
    (∀ a : AxisRec, isWheeler s = true → a.kind ≠ 2 → a.edge = none →
      ∃ t, exec (.axisRecord dt h a) s = .next t ∧ t.axis.source = a.source ∧ t.gait.w = a.w ∧ t.pair.kKnown = true ∧ (a.valid = true → t.axis.state = 1)) ∧
    (isWheeler s = false → ∀ a, ∃ t, exec (.axisRecord dt h a) s = .next t ∧ t.axis = s.axis ∧ t.gait = s.gait)) ∧
  (∀ (dt : Nat) (h : PairHdr) (s : State), FreshRecord h s →
    (isWheeler s = true →
      (∀ b : LoopRec, ∃ t, exec (.loopRecord dt h b) s = .next t ∧ t.loop.j = b.j ∧ t.loop.outstanding = b.outstanding ∧ t.axis = s.axis) ∧
      (∀ b : ReinRec, ∃ t, exec (.reinRecord dt h b) s = .next t ∧ t.rein.state = b.state ∧ t.rein.target = b.target ∧ t.rein.wOld = b.wOld ∧
        t.faults.stopRein = (b.state == 1) ∧ t.axis.source = s.axis.source) ∧
      (∀ b : TimeRec, s.time.servo ≠ 2 → ∃ t, exec (.timeRecord dt h b) s = .next t ∧ t.time.grandmaster = b.grandmaster ∧ t.axis = s.axis) ∧
      (∀ b : LogRec, ∃ t, exec (.logRecord dt h b) s = .next t ∧ t.gait.lastComplete = b.lastComplete ∧ t.rein.count = b.reinCount ∧
        t.loop.last = b.lastBar ∧ t.axis = s.axis)) ∧
    (isWheeler s = false →
      (∀ b, ∃ t, exec (.loopRecord dt h b) s = .next t ∧ t.loop = s.loop) ∧ (∀ b, ∃ t, exec (.reinRecord dt h b) s = .next t ∧ t.rein = s.rein) ∧
      (∀ b, ∃ t, exec (.timeRecord dt h b) s = .next t ∧ t.time.grandmaster = s.time.grandmaster) ∧
      (∀ b, ∃ t, exec (.logRecord dt h b) s = .next t ∧ t.gait.lastComplete = s.gait.lastComplete)))

/-- R464, R479, R481, R485: identities, digests, fills and the snapshot, by which a chip joins, and RELEASE, by which a standby takes the lead. -/
def Obligations.JoiningRecords : Prop := ∀ (dt : Nat) (h : PairHdr) (s : State), FreshRecord h s →
  (∀ b : IdentRec, b.pairing = false → s.pair.partnerHash ≠ [] → Config.sha384 b.key = s.pair.partnerHash → b.sigOk = true →
    ∃ t, exec (.ident dt h b) s = .next t ∧ t.pair.identified = true ∧ t.pair.partnerSerial = b.serial ∧ t.pair.partnerPref = b.preference) ∧
  (∀ b : IdentRec, b.pairing = false → (s.pair.partnerHash = [] ∨ Config.sha384 b.key ≠ s.pair.partnerHash ∨ b.sigOk = false) →
    ∃ t, exec (.ident dt h b) s = .next t ∧ t.pair.identified = false ∧ t.pair.state = 2 ∧ t.pair.partnerSerial = b.serial) ∧
  (∀ ring base crc, isWheeler s = true →
    ∃ t, exec (.digest dt h (.stripe ring base crc)) s = .next t ∧ tget 0 t.pair.compare 4 = tget 0 s.pair.compare 4 + 1 ∧ t.store = s.store) ∧
  (∀ d, isWheeler s = false → ∃ t, exec (.digest dt h d) s = .next t ∧ t.pair.compare = s.pair.compare ∧ t.pair.digests = s.pair.digests) ∧
  (∀ b : FillRec, b.ring ≤ 63 → (s.ring b.ring).enable = true → b.base ≤ b.seq → b.seq + b.data.length ≤ b.base + b.len →
    CleanMemories s → (s.ring b.ring).release < b.base + b.len → b.base + b.len ≤ (s.ring b.ring).release + ringSize s b.ring →
    ∃ t, exec (.fill dt h b) s = .next t ∧ t.store.mem = storeBytes s.store.mem (ringAddr s b.ring b.seq) b.data ∧
      b.seq + b.data.length ≤ (t.ring b.ring).high) ∧
  (∀ b : Snapshot, s.pair.state = 4 → s.pair.early = [] →
    ∃ t, exec (.snapshot dt h b) s = .next t ∧ t.pair.snapshot = true ∧ t.proto.gen = b.gen) ∧
  (∀ b : Snapshot, s.pair.state ≠ 4 → ∃ t, exec (.snapshot dt h b) s = .next t ∧ t.proto.gen = s.proto.gen ∧ t.store = s.store) ∧
  (∀ trigger, s.pair.state = 5 → ∃ t, exec (.releaseRecord dt h trigger) s = .next t ∧ t.pair.state = 3 ∧ t.pair.leadN = true ∧
    t.pair.switches = s.pair.switches + 1) ∧
  (∀ trigger, s.pair.state ≠ 5 → ∃ t, exec (.releaseRecord dt h trigger) s = .next t ∧ t.pair.state = s.pair.state)

/-- R471, R472, R474, R478: the records that a chip sends: a heartbeat every 2 µs, a position every 10 µs, an echo every second, and a record again
every 5 µs until it is acknowledged, at most four times. R468, R469, R470, R473, R476: the partner falls silent, holds up a mirrored request, its
lanes come and go, and it gives up or takes the lead. -/
def Obligations.RecordsAndPairState : Prop :=
  (∀ (dt : Nat) (s : State), pairRuns s = true →
    (s.pair.beatAt + 2 * us ≤ s.time.now + dt → ∃ t b, exec (.heartbeatSend dt) s = .next t ∧ t.pair.beatAt = s.time.now + dt ∧
      s.pair.txSeq < t.pair.txSeq ∧ Output.pair s.pair.txSeq false s.pair.rxSeq (.heartbeat b) ∈ t.model.tx ∧ t.axis = s.axis ∧
      b.state = s.pair.state ∧ b.epoch = s.pair.epoch ∧ b.high = s.proto.gen ∧ b.w = s.gait.w) ∧
    (s.pair.lposAt + 10 * us ≤ s.time.now + dt → ∃ t, exec (.lposSend dt) s = .next t ∧ t.pair.lposAt = s.time.now + dt ∧ t.axis = s.axis ∧
      Output.pair s.pair.txSeq false s.pair.rxSeq (.lpos (devTime (tick dt s)) (countOf (srcChan s)) (lposOf (lpos (tick dt s)))) ∈ t.model.tx) ∧
    (s.pair.echoAt + sec ≤ s.time.now + dt → ∃ t, exec (.echoSend dt) s = .next t ∧ t.pair.echoAt = s.time.now + dt ∧ t.axis = s.axis ∧
      Output.pair s.pair.txSeq false s.pair.rxSeq (.echo (devTime (tick dt s))) ∈ t.model.tx) ∧
    (∀ p, s.pair.pending.find? (fun x => x.seq == p.seq) = some p → p.sentAt + 5 * us ≤ s.time.now + dt →
      (p.sends < 4 → ∃ t, exec (.recordResend dt p.seq) s = .next t ∧ Output.pair p.seq true s.pair.rxSeq p.body ∈ t.model.tx ∧
        t.pair.pending = s.pair.pending.map (fun x => if x.seq = p.seq then { x with sends := x.sends + 1, sentAt := s.time.now + dt } else x)) ∧
      (4 ≤ p.sends → ∃ t, exec (.recordResend dt p.seq) s = .next t ∧ t.pair.silent = true))) ∧
  (∀ (dt : Nat) (s : State),
    (∀ x, s.pair.state ≠ 0 → s.power.state ≤ 1 → s.pair.silent = false → s.pair.heardAt = some x → x + 8 * us ≤ s.time.now + dt →
      ∃ t, exec (.partnerSilent dt) s = .next t ∧ t.pair.silent = true ∧ (s.pair.state = 4 → t.pair.state = 6) ∧
        (isWheeler s = false → t.pair.state = s.pair.state)) ∧
    (isWheeler s = true → ∃ t, exec (.mirrorTimeout dt) s = .next t ∧ t.pair.state = 6 ∧ (s.pair.state ≠ 6 → t.pair.heldReason = 4)) ∧
    (∀ w ∈ s.proto.withheld, isWheeler s = false → w.since + 100 * us ≤ s.time.now + dt →
      ∃ t, exec (.mirrorTimeout dt) s = .next t ∧ t.pair.partnerHeld = true ∧
        ∀ x ∈ t.proto.withheld, s.time.now + dt < x.since + 100 * us) ∧
    (∀ (lane : Fin 4) (aligned : Bool), s.pair.state ≠ 0 → s.power.state ≤ 1 → tget false s.pair.lanes lane ≠ aligned →
      ∃ t, exec (.pairLaneChange dt lane aligned) s = .next t ∧ tget false t.pair.lanes lane = aligned ∧ t.pair.state = s.pair.state ∧
        (aligned = true → lanesUp s = 0 → t.pair.identified = false ∧ t.pair.txSeq = 2 ∧ ∃ b sig, Output.pair 1 false 0 (.ident b sig) ∈ t.model.tx)) ∧
    (∀ asserted, s.power.state ≤ 1 → s.pair.peerLeadN ≠ asserted →
      (s.pair.state = 5 → asserted = false → ∃ t, exec (.peerLead dt asserted) s = .next t ∧ t.pair.state = 3 ∧ t.pair.leadN = true ∧ t.pair.peerLeadN = false) ∧
      (s.pair.state = 3 → s.pair.elected = true → asserted = true →
        ∃ t, exec (.peerLead dt asserted) s = .next t ∧ t.pair.state = 1 ∧ t.pair.races = s.pair.races + 1 ∧ t.pair.leadN = false) ∧
      (s.pair.state = 1 ∨ s.pair.state = 4 ∨ s.pair.state = 6 →
        ∃ t, exec (.peerLead dt asserted) s = .next t ∧ t.pair = { s.pair with peerLeadN := asserted })) ∧
    (s.pair.state = 1 → s.power.state ≤ 1 → s.pair.heardAt = none → s.pair.searchAt + cfgN s 0xA010 0 * ms + searchWait s ≤ s.time.now + dt →
      s.pair.peerLeadN = false → ∃ t, exec (.searchTimeout dt) s = .next t ∧ t.pair.state = 3 ∧ t.pair.elected = true ∧ t.pair.leadN = true))

/-! ### Start, power and faults -/

/-- R526, R527, R542: a cold start that fails at step 2 or 3 leaves the device without clocks or outputs, and the first failure is retried after 1 s;
one that finds a valid image ends serving at step 9 from that image; one that finds none ends in recovery mode at step 4; RESET_n holds the device
at step 3, and its release starts from there while the rails are on. -/
def Obligations.StartsEnd : Prop := ∀ (dt : Nat) (f : StartFacts) (s : State),
  (∀ x, f.failed = some x → x.1 ≠ 4 → ∃ t, exec (.powerOnReset dt f) s = .next t ∧ t.start.step = 0 ∧ t.power.state = 3 ∧ t.store.state = 0 ∧
    t.faults.inkEn = false ∧ t.faults.headPwr = false ∧ t.start.retryAt = some (s.time.now + dt)) ∧
  (∀ k, f.failed = none → f.digestBad = false → (bootChoice none (atStepOne false (railsUp 9 (tick dt s)))).1 = some k →
    ∃ t, exec (.powerOnReset dt f) s = .next t ∧ t.start.step = 9 ∧ t.start.bootSlot = k ∧ t.time.coldStart = s.time.now + dt) ∧
  (f.failed = none → (bootChoice none (atStepOne false (railsUp 9 (tick dt s)))).1 = none →
    ∃ t, exec (.powerOnReset dt f) s = .next t ∧ t.start.step = 4 ∧ t.start.recovery = true ∧ t.store.state = 0) ∧
  (supplied s = true →
    (s.faults.resetN = false → ∃ t, exec (.resetN dt false f) s = .next t ∧ t.faults.resetN = true ∧ t.start.step = 3 ∧ t.power.state = 3 ∧
      t.faults.inkEn = false ∧ t.faults.headPwr = false ∧ t.store.state = 0) ∧
    (∀ k, s.faults.resetN = true → (s.rail 9).on = true → f.failed = none → f.digestBad = false →
      (bootChoice none (atStepOne true (checkRails (tick dt s)))).1 = some k →
      ∃ t, exec (.resetN dt true f) s = .next t ∧ t.start.step = 9 ∧ t.start.bootSlot = k ∧ t.faults.resetN = false)) ∧
  (∀ x p, s.start.retryAt = some p → p + sec ≤ s.time.now + dt → f.failed = some x → x.1 ≠ 4 →
    ∃ t, exec (.startRetry dt f) s = .next t ∧ t.start.step = 0 ∧ t.power.state = 3 ∧ t.start.retryAt = none) ∧
  (∀ k p, s.start.retryAt = some p → p + sec ≤ s.time.now + dt → f.failed = none → f.digestBad = false →
    (bootChoice none (atStepOne true (railsUp 9 (tick dt s)))).1 = some k →
    ∃ t, exec (.startRetry dt f) s = .next t ∧ t.start.step = 9 ∧ t.start.bootSlot = k)

/-- R504, R505: a request to a rail that its status word, the level of RAIL_PG or READ_VOUT acknowledges takes effect and the next one goes out; one
that is not acknowledged within 2 ms goes out again, after CLEAR_FAULTS, at most four times. R518 to R520, R523: the supply's events. -/
def Obligations.RailsAndSupplyEvents : Prop :=
  (∀ (dt : Nat) (status : BitVec 16) (good : Bool) (volts : Nat) (s : State),
    (∀ after, s.power.req = none → ∃ t, exec (.pmbusAck dt ⟨status, good, volts⟩ after) s = .next t ∧ t.power = s.power) ∧
    (∀ after q, s.power.req = some q → acknowledges s q status good volts = false →
      ∃ t, exec (.pmbusAck dt ⟨status, good, volts⟩ after) s = .next t ∧ t.power = s.power) ∧
    (∀ after q rail kind mv rest, s.power.req = some q → acknowledges s q status good volts = true → s.power.todo = (rail, kind, mv) :: rest →
      ∃ t, exec (.pmbusAck dt ⟨status, good, volts⟩ after) s = .next t ∧ t.power.todo = rest ∧ t.power.req = some ⟨rail, kind, mv, 1, s.time.now + dt⟩ ∧
        t.power.state = s.power.state ∧ t.power.seq = s.power.seq ∧ t.faults = s.faults ∧ t.store = s.store ∧ t.axis = s.axis ∧
        (q.kind = 0 → (t.rail q.rail).on = false) ∧ (q.kind = 1 → (t.rail q.rail).on = true ∧ (t.rail q.rail).mv = 0) ∧
        (2 ≤ q.kind → (t.rail q.rail).mv = q.mv) ∧ (∀ k, k ≠ q.rail → t.rail k = s.rail k) ∧ Output.pmbus rail kind (targetMv rail mv) ∈ t.model.tx) ∧
    (∀ q, s.power.req = some q → q.sentAt + 2 * ms ≤ s.time.now + dt → (∀ n, s.power.seq ≠ .wakeReturn n) → q.attempt < 4 →
      ∃ t, exec (.pmbusTimeout dt status) s = .next t ∧ t.power = { s.power with req := some { q with attempt := q.attempt + 1, sentAt := s.time.now + dt } } ∧
        Output.pmbus q.rail 3 0 ∈ t.model.tx ∧ Output.pmbus q.rail q.kind (targetMv q.rail q.mv) ∈ t.model.tx)) ∧
  (∀ (dt mv : Nat) (s : State),
    (s.power.down = false → ∃ t, exec (.supervisorReset dt) s = .next t ∧ t.power.down = true ∧ t.power.state = 4 ∧ t.start.step = 0 ∧
      t.store.state = 0 ∧ t.faults.inkEn = false) ∧
    (supplied s = true →
      (s.power.brown = false → ∃ t, exec (.brownout dt mv) s = .next t ∧ t.power.brown = true ∧ t.power.vsupMv = mv ∧
        t.power.vsup.word.getLsbD 0 = true ∧ Output.flash 7 1 ∈ t.model.tx ∧ t.store.mem = s.store.mem) ∧
      (s.power.brown = true → ∃ t, exec (.vsupRecovered dt mv) s = .next t ∧ t.power.brown = false ∧ t.power.vsupMv = mv ∧
        t.power.vsup = s.power.vsup) ∧
      (∃ t, exec (.overvolt dt mv) s = .next t ∧ t.power.vsup.word.getLsbD 1 = true ∧ t.power.vsupMv = mv ∧ t.store.mem = s.store.mem) ∧
      (s.power.vsup3Over = false → ∃ t, exec (.vsup3Overload dt) s = .next t ∧ t.power.vsup3Over = true ∧ t.power.vsup.word.getLsbD 2 = true ∧
        t.store.mem = s.store.mem) ∧
      (s.power.vsup3Over = true → ∃ t, exec (.vsup3LoadRecovered dt) s = .next t ∧ t.power = { s.power with vsup3Over := false } ∧
        ∀ g ∈ t.faults.active, g.code = 0x3004 → g.unit = unitDevice → g.cause = false) ∧
      (∃ t, exec (.vsupSample dt mv) s = .next t ∧ t.power = { s.power with vsupMv := mv } ∧ t.axis = s.axis ∧ t.store = s.store ∧
        t.faults.life.low = some (min mv (s.faults.life.low.getD mv)) ∧ t.faults.life.high = some (max mv (s.faults.life.high.getD mv)))))

/-- R511, R512, R515, R522: the wake sources, and Idle's cores. -/
def Obligations.WakesAndIdleCores : Prop := ∀ (dt : Nat) (f : StartFacts) (s : State), s.power.down = false → s.faults.failed = false →
  s.start.step = 9 →
  (∀ crystal, s.power.state = 1 → ∃ t, exec (.wake dt crystal f) s = .next t ∧ t.power.state = 0 ∧ t.power.coresRun = true ∧ t.store.mem = s.store.mem) ∧
  (∀ crystal, s.power.state = 0 → ∃ t, exec (.wake dt crystal f) s = .next t ∧ t.power = s.power) ∧
  (s.power.seq = .idle → s.power.state = 2 → ∃ t, exec (.wake dt true f) s = .next t ∧ t.power.seq = .wakeSleep ∧ t.power.wakeBy = 0 ∧
    t.power.wakeAt = s.time.now + dt ∧ t.power.req = some ⟨6, 2, 0, 1, s.time.now + dt⟩) ∧
  (s.power.seq = .idle → s.power.state = 3 → ∃ t, exec (.wake dt true f) s = .next t ∧ t.power.seq = .wakeDeep ∧ t.power.wakeBy = 0 ∧
    t.power.req = some ⟨4, 2, 0, 1, s.time.now + dt⟩) ∧
  (s.power.seq = .idle → s.power.state = 2 ∨ s.power.state = 3 → ∃ t, exec (.wake dt false f) s = .next t ∧ t.power.suspended = true ∧
    t.power.state = s.power.state) ∧
  (∀ crystal n, s.power.seq = .enter n → s.power.state = 2 ∨ s.power.state = 3 →
    ∃ t, exec (.wake dt crystal f) s = .next t ∧ t.power = { s.power with wakePending := some crystal }) ∧
  (s.power.state = 2 → sourceReady s 1 = true → cfgN s 0x3003 0 ≠ 0 → s.power.enteredAt + cfgN s 0x3003 0 * sec ≤ s.time.now + dt →
    ∃ t, exec (.wakeTimer dt true) s = .next t ∧ t.power.seq = .wakeSleep ∧ t.power.wakeBy = 1 ∧ t.power.wakeAt = s.time.now + dt) ∧
  (s.power.state = 1 → s.power.coresRun = true → s.power.coreMsgAt + 10 * ms ≤ s.time.now + dt →
    ∃ t, exec (.coreIdleStop dt) s = .next t ∧ t.power = { s.power with coresRun := false } ∧ t.proto = s.proto)

/-- R503, R506, R550, R557, R582: readings of the rails, of the dies and of the outputs, and JTAG. R529, R539, R540, R559: what the device keeps in
its flash, and the eyes it watches in the background. -/
def Obligations.ReadingsAndUpkeep : Prop :=
  (∀ (dt : Nat) (s : State), supplied s = true →
    (∀ (readings : List (List Int)) (i : Fin 9), ∃ t, exec (.railTelemetry dt readings) s = .next t ∧
      (t.rail (i + 1)).tele = readings.getD i (s.rail (i + 1)).tele ∧ (t.rail (i + 1)).on = (s.rail (i + 1)).on ∧ t.faults = s.faults) ∧
    (∀ (rail : Fin 9) (status : BitVec 16) (mv : Nat), ∃ t, exec (.pmbAlert dt rail status mv) s = .next t ∧
      Output.pmbus (rail + 1) 3 0 ∈ t.model.tx ∧ t.store.mem = s.store.mem) ∧
    (∀ (output : Fin 12) (high : Bool), expectedLevel (tick dt s) output = some (!high) → ∃ t, exec (.outputReadback dt output high) s = .next t ∧
      output.val ∈ t.faults.disagree ∧ t.faults.output.word.getLsbD output = true ∧ t.store.mem = s.store.mem) ∧
    (∀ output : Fin 12, output.val ∈ s.faults.disagree → ∃ t, exec (.outputAgreement dt output) s = .next t ∧
      output.val ∉ t.faults.disagree ∧ t.faults.output = s.faults.output ∧ t.store = s.store) ∧
    (∀ jtag, ∃ t, exec (.jtagInstruction dt jtag) s = .next t ∧ t.faults = { s.faults with jtag := jtagEffect s jtag } ∧ t.store = s.store ∧ t.axis = s.axis) ∧
    (s.faults.resetN = false → ∃ t, exec (.jtagInstruction dt .extest) s = .next t ∧ t.faults.jtag = .samplePreload) ∧
    (s.faults.failed = false → ∀ logic stack supervisor, ∃ t, exec (.dieTemp dt logic stack supervisor) s = .next t ∧
      t.faults.dieTemp = [logic, stack, supervisor] ∧ t.store.mem = s.store.mem)) ∧
  (∀ (dt : Nat) (s : State),
    (s.start.store.dirtyAt ≠ none → flashWorks s = true → s.start.step = 9 → ∃ t, exec (.configStoreWrite dt) s = .next t ∧
      t.start.store.dirtyAt = none ∧ Output.flash 5 (writeSlot (s.start.store.copies.map (·.copy))) ∈ t.model.tx ∧ t.axis = s.axis) ∧
    (s.faults.life.storedHours < powerHours (tick dt s) → supplied s = true → s.power.vsup3Over = false → ∃ t, exec (.lifeHour dt) s = .next t ∧
      t.faults.life.storedHours = powerHours (tick dt s) ∧ Output.flash 4 (writeSlot (s.faults.lifeFlash.map (·.copy))) ∈ t.model.tx ∧ t.store = s.store) ∧
    (∀ (ch : Fin 4) taps, tget false s.start.deferred ch = true → s.axis.stopped = true → (s.chan ch).last = none →
      ∃ t, exec (.encCalDeferred dt ch taps) s = .next t ∧ tget false t.start.deferred ch = false ∧ tget [] t.start.encThreshold ch = taps ∧ t.axis = s.axis) ∧
    (∀ lane, s.store.state = 2 → lane < 1152 → (∀ x, tget none s.start.tapAt lane = some x → x + ms ≤ s.time.now + dt) →
      (∃ t, exec (.tapStep dt lane true) s = .next t ∧ tget (64, 64) t.start.taps lane =
        (min 127 ((tget (64, 64) s.start.taps lane).1 + 1), (tget (64, 64) s.start.taps lane).2) ∧ t.store = s.store) ∧
      (∃ t, exec (.tapStep dt lane false) s = .next t ∧ tget (64, 64) t.start.taps lane =
        ((tget (64, 64) s.start.taps lane).1 - 1, (tget (64, 64) s.start.taps lane).2) ∧ t.store = s.store)))

/-- R33, R19, R552, R579: a die that fails, the loss of the reference clock, and a pair of cores that fails and returns. -/
def Obligations.DiesAndCores : Prop := ∀ (dt : Nat) (s : State), s.power.state ≤ 1 → s.power.down = false →
  (s.pair.state = 0 → ∃ t, exec (.dieFault dt 0) s = .next t ∧ t.store.mem = s.store.mem ∧
    ∃ g ∈ t.faults.active, g.code = 0xB022 ∧ g.unit = unitDie 0 ∧ g.cause = true ∧ 3 ≤ g.cls) ∧
  (∃ t, exec (.dieFault dt 1) s = .next t ∧ t.axis.supervisorLost = true) ∧
  (∃ t, exec (.dieFault dt 2) s = .next t ∧ t.store.state = 0 ∧ t.store.mem = s.store.mem) ∧
  (s.pair.state = 0 → s.power.state = 0 → s.faults.refclkLost = false → ∃ t, exec (.refclkLoss dt) s = .next t ∧ t.faults.refclkLost = true ∧
    ∃ g ∈ t.faults.active, g.code = 0xB022 ∧ g.unit = unitDie 0 ∧ g.cause = true ∧ 3 ≤ g.cls) ∧
  (∀ pairB trap ue, s.start.step = 9 → (corePair s (coreKey pairB)).inReset = none → ∃ t, exec (.coreFault dt pairB ⟨trap, ue⟩) s = .next t ∧
    (corePair t (coreKey pairB)).inReset = some (s.time.now + dt) ∧ (corePair t (coreKey pairB)).lastAt = some (s.time.now + dt) ∧
    corePair t (coreKey (!pairB)) = corePair s (coreKey (!pairB)) ∧ (pairB = false → ∀ i, i < 8 → (t.sess i).phase = .free)) ∧
  (∀ pairB, (corePair s (coreKey pairB)).inReset ≠ none → ∃ t, exec (.coreRestartDone dt pairB) s = .next t ∧
    (corePair t (coreKey pairB)).inReset = none ∧ (corePair t (coreKey pairB)).lastAt = (corePair s (coreKey pairB)).lastAt ∧ t.proto.gen = s.proto.gen)
end

