-- ==== Sys2Proof/Laws/Tab.lean ====
section
/-! SUPPORT. The laws of sparse tables: every write keeps the canonical form; a read after a write; reads and writes of
page-store bytes. -/

namespace Sys2Proof.Machine

/-! ### The canonical form is kept -/

theorem tabove_mono {α : Type} {j k : Nat} {t : Tab α} (h : tabove k t = true) (hjk : j ≤ k) : tabove j t = true := by
  simp only [tabove, List.all_eq_true, decide_eq_true_eq] at *
  exact fun e he => Nat.lt_of_le_of_lt hjk (h e he)

theorem tabove_tdel {α : Type} {j k : Nat} : ∀ {t : Tab α}, tabove j t = true → tabove j (tdel t k) = true
  | [], _ => rfl
  | (k', v) :: r, h => by
    simp only [tabove, List.all_cons, Bool.and_eq_true] at h
    simp only [tdel]
    split
    · exact tabove_tdel (t := r) h.2
    · simp only [tabove, List.all_cons, Bool.and_eq_true]
      exact ⟨h.1, tabove_tdel (t := r) h.2⟩

theorem tabove_tins {α : Type} {j k : Nat} {v : α} (hjk : j < k) : ∀ {t : Tab α}, tabove j t = true → tabove j (tins t k v) = true
  | [], _ => by simp [tins, tabove, hjk]
  | (k', w) :: r, h => by
    have h' := h
    simp only [tabove, List.all_cons, Bool.and_eq_true] at h
    simp only [tins]
    split
    · simp only [tabove, List.all_cons, Bool.and_eq_true]
      exact ⟨by simpa using hjk, h⟩
    · split
      · simp only [tabove, List.all_cons, Bool.and_eq_true]
        exact ⟨by simpa using hjk, h.2⟩
      · simp only [tabove, List.all_cons, Bool.and_eq_true]
        exact ⟨h.1, tabove_tins hjk (t := r) h.2⟩

theorem twf_tdel {α : Type} [DecidableEq α] {d : α} {k : Nat} : ∀ {t : Tab α}, twf d t = true → twf d (tdel t k) = true
  | [], _ => rfl
  | (k', v) :: r, h => by
    simp only [twf, Bool.and_eq_true] at h
    simp only [tdel]
    split
    · exact twf_tdel h.2
    · simp only [twf, Bool.and_eq_true]
      exact ⟨⟨h.1.1, tabove_tdel h.1.2⟩, twf_tdel h.2⟩

theorem twf_tins {α : Type} [DecidableEq α] {d : α} {k : Nat} {v : α} (hv : v ≠ d) :
    ∀ {t : Tab α}, twf d t = true → twf d (tins t k v) = true
  | [], _ => by simp [tins, twf, tabove, hv]
  | (k', w) :: r, h => by
    have h0 := h
    simp only [twf, Bool.and_eq_true] at h
    simp only [tins]
    split
    · rename_i hk
      rw [twf, Bool.and_eq_true, Bool.and_eq_true]
      refine ⟨⟨by simpa using hv, ?_⟩, h0⟩
      rw [tabove, List.all_cons, Bool.and_eq_true]
      exact ⟨by simpa using hk, tabove_mono h.1.2 (Nat.le_of_lt hk)⟩
    · split
      · rename_i hk
        simp only [twf, Bool.and_eq_true]
        exact ⟨⟨by simpa using hv, by rw [hk]; exact h.1.2⟩, h.2⟩
      · simp only [twf, Bool.and_eq_true]
        exact ⟨⟨h.1.1, tabove_tins (by omega) h.1.2⟩, twf_tins hv h.2⟩

/-- A write keeps a table in canonical form. -/
theorem twf_tput {α : Type} [DecidableEq α] {d : α} {t : Tab α} {k : Nat} {v : α} (h : twf d t = true) : twf d (tput d t k v) = true := by
  unfold tput
  split
  · exact twf_tdel h
  · exact twf_tins ‹_› h

/-! ### A read after a write -/

theorem tget_tdel_self {α : Type} {d : α} {k : Nat} : ∀ {t : Tab α}, tget d (tdel t k) k = d
  | [] => rfl
  | (k', v) :: r => by
    simp only [tdel]
    split
    · exact tget_tdel_self
    · simp only [tget]
      rw [if_neg (by omega)]
      exact tget_tdel_self

theorem tget_tdel_ne {α : Type} {d : α} {j k : Nat} (hjk : j ≠ k) : ∀ {t : Tab α}, tget d (tdel t k) j = tget d t j
  | [] => rfl
  | (k', v) :: r => by
    simp only [tdel]
    split
    · rename_i hk
      simp only [tget]
      rw [if_neg (by omega)]
      exact tget_tdel_ne hjk
    · simp only [tget]
      split
      · rfl
      · exact tget_tdel_ne hjk

theorem tget_tins_self {α : Type} {d : α} {k : Nat} {v : α} : ∀ {t : Tab α}, tget d (tins t k v) k = v
  | [] => by simp [tins, tget]
  | (k', w) :: r => by
    simp only [tins]
    split
    · simp [tget]
    · split
      · simp [tget]
      · simp only [tget]
        rw [if_neg (by omega)]
        exact tget_tins_self

theorem tget_tins_ne {α : Type} {d : α} {j k : Nat} {v : α} (hjk : j ≠ k) : ∀ {t : Tab α}, tget d (tins t k v) j = tget d t j
  | [] => by simp [tins, tget, Ne.symm hjk]
  | (k', w) :: r => by
    simp only [tins]
    split
    · simp [tget, Ne.symm hjk]
    · split
      · rename_i hk
        subst hk
        simp [tget, Ne.symm hjk]
      · simp only [tget]
        split
        · rfl
        · exact tget_tins_ne hjk

/-- What was written at a key is read there. -/
@[simp] theorem tget_tput_self {α : Type} [DecidableEq α] {d : α} {t : Tab α} {k : Nat} {v : α} :
    tget d (tput d t k v) k = v := by
  unfold tput
  split
  · rename_i hv
    rw [hv, tget_tdel_self]
  · exact tget_tins_self

/-- A write leaves every other key as it was. -/
theorem tget_tput_ne {α : Type} [DecidableEq α] {d : α} {t : Tab α} {j k : Nat} {v : α} (hjk : j ≠ k) :
    tget d (tput d t k v) j = tget d t j := by
  unfold tput
  split
  · exact tget_tdel_ne hjk
  · exact tget_tins_ne hjk

/-! ### Page-store bytes -/

theorem storeByte_wf {m : Tab Byte} {a : Nat} {v : Byte} (h : Memory.wf m = true) : Memory.wf (storeByte m a v) = true := twf_tput h

/-- Every write of bytes keeps the memory in canonical form. -/
theorem storeBytes_wf : ∀ {b : List Byte} {m : Tab Byte} {a : Nat}, Memory.wf m = true → Memory.wf (storeBytes m a b) = true
  | [], _, _, h => h
  | _ :: r, _, _, h => storeBytes_wf (b := r) (storeByte_wf h)

/-- A byte outside the stored ones reads as before. -/
theorem loadByte_storeBytes_ne : ∀ {b : List Byte} {m : Tab Byte} {a x : Nat}, (x < a ∨ a + b.length ≤ x) →
    loadByte (storeBytes m a b) x = loadByte m x
  | [], _, _, _, _ => rfl
  | v :: r, m, a, x, h => by
    simp only [List.length_cons] at h
    rw [storeBytes, loadByte_storeBytes_ne (b := r) (by omega)]
    exact tget_tput_ne (by omega)

/-- A stored byte reads as it was stored. -/
theorem loadByte_storeBytes : ∀ {b : List Byte} {m : Tab Byte} {a i : Nat} (hi : i < b.length),
    loadByte (storeBytes m a b) (a + i) = b[i]
  | v :: r, m, a, 0, _ => by
    rw [storeBytes, loadByte_storeBytes_ne (b := r) (by omega)]
    exact tget_tput_self
  | v :: r, m, a, i + 1, hi => by
    simp only [List.length_cons] at hi
    have := loadByte_storeBytes (b := r) (m := storeByte m a v) (a := a + 1) (i := i) (by omega)
    rw [storeBytes, List.getElem_cons_succ, ← this]
    congr 1
    omega

end Sys2Proof.Machine
end

