-- ==== Sys2Proof/Laws/State.lean ====
section
/-! SUPPORT. One lemma per field per update of the state: `tick` and the accessors of numbered units. -/

namespace Sys2Proof.Machine

variable (s : State) (n m dt : Nat)

/-! ### The passing of time -/

@[simp] theorem tick_now : (tick dt s).time.now = s.time.now + dt := rfl
@[simp] theorem tick_proto : (tick dt s).proto = s.proto := rfl
@[simp] theorem tick_axis : (tick dt s).axis = s.axis := rfl
@[simp] theorem tick_gait : (tick dt s).gait = s.gait := rfl
@[simp] theorem tick_ports : (tick dt s).ports = s.ports := rfl
@[simp] theorem tick_rings : (tick dt s).rings = s.rings := rfl
@[simp] theorem tick_store : (tick dt s).store = s.store := rfl
@[simp] theorem tick_integ : (tick dt s).integ = s.integ := rfl
@[simp] theorem tick_screen : (tick dt s).screen = s.screen := rfl
@[simp] theorem tick_noz : (tick dt s).noz = s.noz := rfl
@[simp] theorem tick_fire : (tick dt s).fire = s.fire := rfl
@[simp] theorem tick_lanes : (tick dt s).lanes = s.lanes := rfl
@[simp] theorem tick_rein : (tick dt s).rein = s.rein := rfl
@[simp] theorem tick_insp : (tick dt s).insp = s.insp := rfl
@[simp] theorem tick_loop : (tick dt s).loop = s.loop := rfl
@[simp] theorem tick_pair : (tick dt s).pair = s.pair := rfl
@[simp] theorem tick_power : (tick dt s).power = s.power := rfl
@[simp] theorem tick_start : (tick dt s).start = s.start := rfl
@[simp] theorem tick_faults : (tick dt s).faults = s.faults := rfl
@[simp] theorem tick_model : (tick dt s).model = s.model := rfl
@[simp] theorem tick_pending : (tick dt s).pending = s.pending := rfl
@[simp] theorem tick_ring : (tick dt s).ring n = s.ring n := rfl
@[simp] theorem tick_lane : (tick dt s).lane n = s.lane n := rfl
@[simp] theorem tick_port : (tick dt s).port n = s.port n := rfl
@[simp] theorem tick_sess : (tick dt s).sess n = s.sess n := rfl
@[simp] theorem tick_handle : (tick dt s).handle n = s.handle n := rfl
@[simp] theorem tick_chan : (tick dt s).chan n = s.chan n := rfl
@[simp] theorem tick_row : (tick dt s).row n = s.row n := rfl
@[simp] theorem tick_trig : (tick dt s).trig n = s.trig n := rfl
@[simp] theorem tick_engine : (tick dt s).engine n = s.engine n := rfl
@[simp] theorem tick_head : (tick dt s).head n = s.head n := rfl
@[simp] theorem tick_camPort : (tick dt s).camPort n = s.camPort n := rfl
@[simp] theorem tick_sensor : (tick dt s).sensor n = s.sensor n := rfl
@[simp] theorem tick_ptpPort : (tick dt s).ptpPort n = s.ptpPort n := rfl
@[simp] theorem tick_evt : (tick dt s).evt n = s.evt n := rfl
@[simp] theorem tick_rail : (tick dt s).rail n = s.rail n := rfl

/-! ### `State.setRing` -/

@[simp] theorem State.setRing_ring (x : Ring) : (s.setRing n x).ring n = x := tget_tput_self
theorem State.setRing_ring_ne (x : Ring) (h : m ≠ n) : (s.setRing n x).ring m = s.ring m := tget_tput_ne h
@[simp] theorem State.setRing_proto (x : Ring) : (s.setRing n x).proto = s.proto := rfl
@[simp] theorem State.setRing_axis (x : Ring) : (s.setRing n x).axis = s.axis := rfl
@[simp] theorem State.setRing_gait (x : Ring) : (s.setRing n x).gait = s.gait := rfl
@[simp] theorem State.setRing_ports (x : Ring) : (s.setRing n x).ports = s.ports := rfl
@[simp] theorem State.setRing_store (x : Ring) : (s.setRing n x).store = s.store := rfl
@[simp] theorem State.setRing_integ (x : Ring) : (s.setRing n x).integ = s.integ := rfl
@[simp] theorem State.setRing_screen (x : Ring) : (s.setRing n x).screen = s.screen := rfl
@[simp] theorem State.setRing_noz (x : Ring) : (s.setRing n x).noz = s.noz := rfl
@[simp] theorem State.setRing_fire (x : Ring) : (s.setRing n x).fire = s.fire := rfl
@[simp] theorem State.setRing_lanes (x : Ring) : (s.setRing n x).lanes = s.lanes := rfl
@[simp] theorem State.setRing_rein (x : Ring) : (s.setRing n x).rein = s.rein := rfl
@[simp] theorem State.setRing_insp (x : Ring) : (s.setRing n x).insp = s.insp := rfl
@[simp] theorem State.setRing_loop (x : Ring) : (s.setRing n x).loop = s.loop := rfl
@[simp] theorem State.setRing_time (x : Ring) : (s.setRing n x).time = s.time := rfl
@[simp] theorem State.setRing_pair (x : Ring) : (s.setRing n x).pair = s.pair := rfl
@[simp] theorem State.setRing_power (x : Ring) : (s.setRing n x).power = s.power := rfl
@[simp] theorem State.setRing_start (x : Ring) : (s.setRing n x).start = s.start := rfl
@[simp] theorem State.setRing_faults (x : Ring) : (s.setRing n x).faults = s.faults := rfl
@[simp] theorem State.setRing_model (x : Ring) : (s.setRing n x).model = s.model := rfl
@[simp] theorem State.setRing_pending (x : Ring) : (s.setRing n x).pending = s.pending := rfl
@[simp] theorem State.setRing_lane (x : Ring) : (s.setRing n x).lane m = s.lane m := rfl
@[simp] theorem State.setRing_port (x : Ring) : (s.setRing n x).port m = s.port m := rfl
@[simp] theorem State.setRing_sess (x : Ring) : (s.setRing n x).sess m = s.sess m := rfl
@[simp] theorem State.setRing_handle (x : Ring) : (s.setRing n x).handle m = s.handle m := rfl
@[simp] theorem State.setRing_chan (x : Ring) : (s.setRing n x).chan m = s.chan m := rfl
@[simp] theorem State.setRing_row (x : Ring) : (s.setRing n x).row m = s.row m := rfl
@[simp] theorem State.setRing_trig (x : Ring) : (s.setRing n x).trig m = s.trig m := rfl
@[simp] theorem State.setRing_engine (x : Ring) : (s.setRing n x).engine m = s.engine m := rfl
@[simp] theorem State.setRing_head (x : Ring) : (s.setRing n x).head m = s.head m := rfl
@[simp] theorem State.setRing_camPort (x : Ring) : (s.setRing n x).camPort m = s.camPort m := rfl
@[simp] theorem State.setRing_sensor (x : Ring) : (s.setRing n x).sensor m = s.sensor m := rfl
@[simp] theorem State.setRing_ptpPort (x : Ring) : (s.setRing n x).ptpPort m = s.ptpPort m := rfl
@[simp] theorem State.setRing_evt (x : Ring) : (s.setRing n x).evt m = s.evt m := rfl
@[simp] theorem State.setRing_rail (x : Ring) : (s.setRing n x).rail m = s.rail m := rfl

/-! ### `State.setLane` -/

@[simp] theorem State.setLane_lane (x : Lane) : (s.setLane n x).lane n = x := tget_tput_self
theorem State.setLane_lane_ne (x : Lane) (h : m ≠ n) : (s.setLane n x).lane m = s.lane m := tget_tput_ne h
@[simp] theorem State.setLane_proto (x : Lane) : (s.setLane n x).proto = s.proto := rfl
@[simp] theorem State.setLane_axis (x : Lane) : (s.setLane n x).axis = s.axis := rfl
@[simp] theorem State.setLane_gait (x : Lane) : (s.setLane n x).gait = s.gait := rfl
@[simp] theorem State.setLane_ports (x : Lane) : (s.setLane n x).ports = s.ports := rfl
@[simp] theorem State.setLane_rings (x : Lane) : (s.setLane n x).rings = s.rings := rfl
@[simp] theorem State.setLane_store (x : Lane) : (s.setLane n x).store = s.store := rfl
@[simp] theorem State.setLane_integ (x : Lane) : (s.setLane n x).integ = s.integ := rfl
@[simp] theorem State.setLane_screen (x : Lane) : (s.setLane n x).screen = s.screen := rfl
@[simp] theorem State.setLane_noz (x : Lane) : (s.setLane n x).noz = s.noz := rfl
@[simp] theorem State.setLane_fire (x : Lane) : (s.setLane n x).fire = s.fire := rfl
@[simp] theorem State.setLane_rein (x : Lane) : (s.setLane n x).rein = s.rein := rfl
@[simp] theorem State.setLane_insp (x : Lane) : (s.setLane n x).insp = s.insp := rfl
@[simp] theorem State.setLane_loop (x : Lane) : (s.setLane n x).loop = s.loop := rfl
@[simp] theorem State.setLane_time (x : Lane) : (s.setLane n x).time = s.time := rfl
@[simp] theorem State.setLane_pair (x : Lane) : (s.setLane n x).pair = s.pair := rfl
@[simp] theorem State.setLane_power (x : Lane) : (s.setLane n x).power = s.power := rfl
@[simp] theorem State.setLane_start (x : Lane) : (s.setLane n x).start = s.start := rfl
@[simp] theorem State.setLane_faults (x : Lane) : (s.setLane n x).faults = s.faults := rfl
@[simp] theorem State.setLane_model (x : Lane) : (s.setLane n x).model = s.model := rfl
@[simp] theorem State.setLane_pending (x : Lane) : (s.setLane n x).pending = s.pending := rfl
@[simp] theorem State.setLane_ring (x : Lane) : (s.setLane n x).ring m = s.ring m := rfl
@[simp] theorem State.setLane_port (x : Lane) : (s.setLane n x).port m = s.port m := rfl
@[simp] theorem State.setLane_sess (x : Lane) : (s.setLane n x).sess m = s.sess m := rfl
@[simp] theorem State.setLane_handle (x : Lane) : (s.setLane n x).handle m = s.handle m := rfl
@[simp] theorem State.setLane_chan (x : Lane) : (s.setLane n x).chan m = s.chan m := rfl
@[simp] theorem State.setLane_row (x : Lane) : (s.setLane n x).row m = s.row m := rfl
@[simp] theorem State.setLane_trig (x : Lane) : (s.setLane n x).trig m = s.trig m := rfl
@[simp] theorem State.setLane_engine (x : Lane) : (s.setLane n x).engine m = s.engine m := rfl
@[simp] theorem State.setLane_head (x : Lane) : (s.setLane n x).head m = s.head m := rfl
@[simp] theorem State.setLane_camPort (x : Lane) : (s.setLane n x).camPort m = s.camPort m := rfl
@[simp] theorem State.setLane_sensor (x : Lane) : (s.setLane n x).sensor m = s.sensor m := rfl
@[simp] theorem State.setLane_ptpPort (x : Lane) : (s.setLane n x).ptpPort m = s.ptpPort m := rfl
@[simp] theorem State.setLane_evt (x : Lane) : (s.setLane n x).evt m = s.evt m := rfl
@[simp] theorem State.setLane_rail (x : Lane) : (s.setLane n x).rail m = s.rail m := rfl

/-! ### `State.setPort` -/

@[simp] theorem State.setPort_port (x : NetPort) : (s.setPort n x).port n = x := tget_tput_self
theorem State.setPort_port_ne (x : NetPort) (h : m ≠ n) : (s.setPort n x).port m = s.port m := tget_tput_ne h
@[simp] theorem State.setPort_proto (x : NetPort) : (s.setPort n x).proto = s.proto := rfl
@[simp] theorem State.setPort_axis (x : NetPort) : (s.setPort n x).axis = s.axis := rfl
@[simp] theorem State.setPort_gait (x : NetPort) : (s.setPort n x).gait = s.gait := rfl
@[simp] theorem State.setPort_rings (x : NetPort) : (s.setPort n x).rings = s.rings := rfl
@[simp] theorem State.setPort_store (x : NetPort) : (s.setPort n x).store = s.store := rfl
@[simp] theorem State.setPort_integ (x : NetPort) : (s.setPort n x).integ = s.integ := rfl
@[simp] theorem State.setPort_screen (x : NetPort) : (s.setPort n x).screen = s.screen := rfl
@[simp] theorem State.setPort_noz (x : NetPort) : (s.setPort n x).noz = s.noz := rfl
@[simp] theorem State.setPort_fire (x : NetPort) : (s.setPort n x).fire = s.fire := rfl
@[simp] theorem State.setPort_lanes (x : NetPort) : (s.setPort n x).lanes = s.lanes := rfl
@[simp] theorem State.setPort_rein (x : NetPort) : (s.setPort n x).rein = s.rein := rfl
@[simp] theorem State.setPort_insp (x : NetPort) : (s.setPort n x).insp = s.insp := rfl
@[simp] theorem State.setPort_loop (x : NetPort) : (s.setPort n x).loop = s.loop := rfl
@[simp] theorem State.setPort_time (x : NetPort) : (s.setPort n x).time = s.time := rfl
@[simp] theorem State.setPort_pair (x : NetPort) : (s.setPort n x).pair = s.pair := rfl
@[simp] theorem State.setPort_power (x : NetPort) : (s.setPort n x).power = s.power := rfl
@[simp] theorem State.setPort_start (x : NetPort) : (s.setPort n x).start = s.start := rfl
@[simp] theorem State.setPort_faults (x : NetPort) : (s.setPort n x).faults = s.faults := rfl
@[simp] theorem State.setPort_model (x : NetPort) : (s.setPort n x).model = s.model := rfl
@[simp] theorem State.setPort_pending (x : NetPort) : (s.setPort n x).pending = s.pending := rfl
@[simp] theorem State.setPort_ring (x : NetPort) : (s.setPort n x).ring m = s.ring m := rfl
@[simp] theorem State.setPort_lane (x : NetPort) : (s.setPort n x).lane m = s.lane m := rfl
@[simp] theorem State.setPort_sess (x : NetPort) : (s.setPort n x).sess m = s.sess m := rfl
@[simp] theorem State.setPort_handle (x : NetPort) : (s.setPort n x).handle m = s.handle m := rfl
@[simp] theorem State.setPort_chan (x : NetPort) : (s.setPort n x).chan m = s.chan m := rfl
@[simp] theorem State.setPort_row (x : NetPort) : (s.setPort n x).row m = s.row m := rfl
@[simp] theorem State.setPort_trig (x : NetPort) : (s.setPort n x).trig m = s.trig m := rfl
@[simp] theorem State.setPort_engine (x : NetPort) : (s.setPort n x).engine m = s.engine m := rfl
@[simp] theorem State.setPort_head (x : NetPort) : (s.setPort n x).head m = s.head m := rfl
@[simp] theorem State.setPort_camPort (x : NetPort) : (s.setPort n x).camPort m = s.camPort m := rfl
@[simp] theorem State.setPort_sensor (x : NetPort) : (s.setPort n x).sensor m = s.sensor m := rfl
@[simp] theorem State.setPort_ptpPort (x : NetPort) : (s.setPort n x).ptpPort m = s.ptpPort m := rfl
@[simp] theorem State.setPort_evt (x : NetPort) : (s.setPort n x).evt m = s.evt m := rfl
@[simp] theorem State.setPort_rail (x : NetPort) : (s.setPort n x).rail m = s.rail m := rfl

/-! ### `State.setSess` -/

@[simp] theorem State.setSess_sess (x : Session) : (s.setSess n x).sess n = x := tget_tput_self
theorem State.setSess_sess_ne (x : Session) (h : m ≠ n) : (s.setSess n x).sess m = s.sess m := tget_tput_ne h
@[simp] theorem State.setSess_axis (x : Session) : (s.setSess n x).axis = s.axis := rfl
@[simp] theorem State.setSess_gait (x : Session) : (s.setSess n x).gait = s.gait := rfl
@[simp] theorem State.setSess_ports (x : Session) : (s.setSess n x).ports = s.ports := rfl
@[simp] theorem State.setSess_rings (x : Session) : (s.setSess n x).rings = s.rings := rfl
@[simp] theorem State.setSess_store (x : Session) : (s.setSess n x).store = s.store := rfl
@[simp] theorem State.setSess_integ (x : Session) : (s.setSess n x).integ = s.integ := rfl
@[simp] theorem State.setSess_screen (x : Session) : (s.setSess n x).screen = s.screen := rfl
@[simp] theorem State.setSess_noz (x : Session) : (s.setSess n x).noz = s.noz := rfl
@[simp] theorem State.setSess_fire (x : Session) : (s.setSess n x).fire = s.fire := rfl
@[simp] theorem State.setSess_lanes (x : Session) : (s.setSess n x).lanes = s.lanes := rfl
@[simp] theorem State.setSess_rein (x : Session) : (s.setSess n x).rein = s.rein := rfl
@[simp] theorem State.setSess_insp (x : Session) : (s.setSess n x).insp = s.insp := rfl
@[simp] theorem State.setSess_loop (x : Session) : (s.setSess n x).loop = s.loop := rfl
@[simp] theorem State.setSess_time (x : Session) : (s.setSess n x).time = s.time := rfl
@[simp] theorem State.setSess_pair (x : Session) : (s.setSess n x).pair = s.pair := rfl
@[simp] theorem State.setSess_power (x : Session) : (s.setSess n x).power = s.power := rfl
@[simp] theorem State.setSess_start (x : Session) : (s.setSess n x).start = s.start := rfl
@[simp] theorem State.setSess_faults (x : Session) : (s.setSess n x).faults = s.faults := rfl
@[simp] theorem State.setSess_model (x : Session) : (s.setSess n x).model = s.model := rfl
@[simp] theorem State.setSess_pending (x : Session) : (s.setSess n x).pending = s.pending := rfl
@[simp] theorem State.setSess_ring (x : Session) : (s.setSess n x).ring m = s.ring m := rfl
@[simp] theorem State.setSess_lane (x : Session) : (s.setSess n x).lane m = s.lane m := rfl
@[simp] theorem State.setSess_port (x : Session) : (s.setSess n x).port m = s.port m := rfl
@[simp] theorem State.setSess_handle (x : Session) : (s.setSess n x).handle m = s.handle m := rfl
@[simp] theorem State.setSess_chan (x : Session) : (s.setSess n x).chan m = s.chan m := rfl
@[simp] theorem State.setSess_row (x : Session) : (s.setSess n x).row m = s.row m := rfl
@[simp] theorem State.setSess_trig (x : Session) : (s.setSess n x).trig m = s.trig m := rfl
@[simp] theorem State.setSess_engine (x : Session) : (s.setSess n x).engine m = s.engine m := rfl
@[simp] theorem State.setSess_head (x : Session) : (s.setSess n x).head m = s.head m := rfl
@[simp] theorem State.setSess_camPort (x : Session) : (s.setSess n x).camPort m = s.camPort m := rfl
@[simp] theorem State.setSess_sensor (x : Session) : (s.setSess n x).sensor m = s.sensor m := rfl
@[simp] theorem State.setSess_ptpPort (x : Session) : (s.setSess n x).ptpPort m = s.ptpPort m := rfl
@[simp] theorem State.setSess_evt (x : Session) : (s.setSess n x).evt m = s.evt m := rfl
@[simp] theorem State.setSess_rail (x : Session) : (s.setSess n x).rail m = s.rail m := rfl

/-! ### `State.setHandle` -/

@[simp] theorem State.setHandle_handle (x : Handle) : (s.setHandle n x).handle n = x := tget_tput_self
theorem State.setHandle_handle_ne (x : Handle) (h : m ≠ n) : (s.setHandle n x).handle m = s.handle m := tget_tput_ne h
@[simp] theorem State.setHandle_axis (x : Handle) : (s.setHandle n x).axis = s.axis := rfl
@[simp] theorem State.setHandle_gait (x : Handle) : (s.setHandle n x).gait = s.gait := rfl
@[simp] theorem State.setHandle_ports (x : Handle) : (s.setHandle n x).ports = s.ports := rfl
@[simp] theorem State.setHandle_rings (x : Handle) : (s.setHandle n x).rings = s.rings := rfl
@[simp] theorem State.setHandle_store (x : Handle) : (s.setHandle n x).store = s.store := rfl
@[simp] theorem State.setHandle_integ (x : Handle) : (s.setHandle n x).integ = s.integ := rfl
@[simp] theorem State.setHandle_screen (x : Handle) : (s.setHandle n x).screen = s.screen := rfl
@[simp] theorem State.setHandle_noz (x : Handle) : (s.setHandle n x).noz = s.noz := rfl
@[simp] theorem State.setHandle_fire (x : Handle) : (s.setHandle n x).fire = s.fire := rfl
@[simp] theorem State.setHandle_lanes (x : Handle) : (s.setHandle n x).lanes = s.lanes := rfl
@[simp] theorem State.setHandle_rein (x : Handle) : (s.setHandle n x).rein = s.rein := rfl
@[simp] theorem State.setHandle_insp (x : Handle) : (s.setHandle n x).insp = s.insp := rfl
@[simp] theorem State.setHandle_loop (x : Handle) : (s.setHandle n x).loop = s.loop := rfl
@[simp] theorem State.setHandle_time (x : Handle) : (s.setHandle n x).time = s.time := rfl
@[simp] theorem State.setHandle_pair (x : Handle) : (s.setHandle n x).pair = s.pair := rfl
@[simp] theorem State.setHandle_power (x : Handle) : (s.setHandle n x).power = s.power := rfl
@[simp] theorem State.setHandle_start (x : Handle) : (s.setHandle n x).start = s.start := rfl
@[simp] theorem State.setHandle_faults (x : Handle) : (s.setHandle n x).faults = s.faults := rfl
@[simp] theorem State.setHandle_model (x : Handle) : (s.setHandle n x).model = s.model := rfl
@[simp] theorem State.setHandle_pending (x : Handle) : (s.setHandle n x).pending = s.pending := rfl
@[simp] theorem State.setHandle_ring (x : Handle) : (s.setHandle n x).ring m = s.ring m := rfl
@[simp] theorem State.setHandle_lane (x : Handle) : (s.setHandle n x).lane m = s.lane m := rfl
@[simp] theorem State.setHandle_port (x : Handle) : (s.setHandle n x).port m = s.port m := rfl
@[simp] theorem State.setHandle_sess (x : Handle) : (s.setHandle n x).sess m = s.sess m := rfl
@[simp] theorem State.setHandle_chan (x : Handle) : (s.setHandle n x).chan m = s.chan m := rfl
@[simp] theorem State.setHandle_row (x : Handle) : (s.setHandle n x).row m = s.row m := rfl
@[simp] theorem State.setHandle_trig (x : Handle) : (s.setHandle n x).trig m = s.trig m := rfl
@[simp] theorem State.setHandle_engine (x : Handle) : (s.setHandle n x).engine m = s.engine m := rfl
@[simp] theorem State.setHandle_head (x : Handle) : (s.setHandle n x).head m = s.head m := rfl
@[simp] theorem State.setHandle_camPort (x : Handle) : (s.setHandle n x).camPort m = s.camPort m := rfl
@[simp] theorem State.setHandle_sensor (x : Handle) : (s.setHandle n x).sensor m = s.sensor m := rfl
@[simp] theorem State.setHandle_ptpPort (x : Handle) : (s.setHandle n x).ptpPort m = s.ptpPort m := rfl
@[simp] theorem State.setHandle_evt (x : Handle) : (s.setHandle n x).evt m = s.evt m := rfl
@[simp] theorem State.setHandle_rail (x : Handle) : (s.setHandle n x).rail m = s.rail m := rfl

/-! ### `State.setChan` -/

@[simp] theorem State.setChan_chan (x : EncChan) : (s.setChan n x).chan n = x := tget_tput_self
theorem State.setChan_chan_ne (x : EncChan) (h : m ≠ n) : (s.setChan n x).chan m = s.chan m := tget_tput_ne h
@[simp] theorem State.setChan_proto (x : EncChan) : (s.setChan n x).proto = s.proto := rfl
@[simp] theorem State.setChan_gait (x : EncChan) : (s.setChan n x).gait = s.gait := rfl
@[simp] theorem State.setChan_ports (x : EncChan) : (s.setChan n x).ports = s.ports := rfl
@[simp] theorem State.setChan_rings (x : EncChan) : (s.setChan n x).rings = s.rings := rfl
@[simp] theorem State.setChan_store (x : EncChan) : (s.setChan n x).store = s.store := rfl
@[simp] theorem State.setChan_integ (x : EncChan) : (s.setChan n x).integ = s.integ := rfl
@[simp] theorem State.setChan_screen (x : EncChan) : (s.setChan n x).screen = s.screen := rfl
@[simp] theorem State.setChan_noz (x : EncChan) : (s.setChan n x).noz = s.noz := rfl
@[simp] theorem State.setChan_fire (x : EncChan) : (s.setChan n x).fire = s.fire := rfl
@[simp] theorem State.setChan_lanes (x : EncChan) : (s.setChan n x).lanes = s.lanes := rfl
@[simp] theorem State.setChan_rein (x : EncChan) : (s.setChan n x).rein = s.rein := rfl
@[simp] theorem State.setChan_insp (x : EncChan) : (s.setChan n x).insp = s.insp := rfl
@[simp] theorem State.setChan_loop (x : EncChan) : (s.setChan n x).loop = s.loop := rfl
@[simp] theorem State.setChan_time (x : EncChan) : (s.setChan n x).time = s.time := rfl
@[simp] theorem State.setChan_pair (x : EncChan) : (s.setChan n x).pair = s.pair := rfl
@[simp] theorem State.setChan_power (x : EncChan) : (s.setChan n x).power = s.power := rfl
@[simp] theorem State.setChan_start (x : EncChan) : (s.setChan n x).start = s.start := rfl
@[simp] theorem State.setChan_faults (x : EncChan) : (s.setChan n x).faults = s.faults := rfl
@[simp] theorem State.setChan_model (x : EncChan) : (s.setChan n x).model = s.model := rfl
@[simp] theorem State.setChan_pending (x : EncChan) : (s.setChan n x).pending = s.pending := rfl
@[simp] theorem State.setChan_ring (x : EncChan) : (s.setChan n x).ring m = s.ring m := rfl
@[simp] theorem State.setChan_lane (x : EncChan) : (s.setChan n x).lane m = s.lane m := rfl
@[simp] theorem State.setChan_port (x : EncChan) : (s.setChan n x).port m = s.port m := rfl
@[simp] theorem State.setChan_sess (x : EncChan) : (s.setChan n x).sess m = s.sess m := rfl
@[simp] theorem State.setChan_handle (x : EncChan) : (s.setChan n x).handle m = s.handle m := rfl
@[simp] theorem State.setChan_row (x : EncChan) : (s.setChan n x).row m = s.row m := rfl
@[simp] theorem State.setChan_trig (x : EncChan) : (s.setChan n x).trig m = s.trig m := rfl
@[simp] theorem State.setChan_engine (x : EncChan) : (s.setChan n x).engine m = s.engine m := rfl
@[simp] theorem State.setChan_head (x : EncChan) : (s.setChan n x).head m = s.head m := rfl
@[simp] theorem State.setChan_camPort (x : EncChan) : (s.setChan n x).camPort m = s.camPort m := rfl
@[simp] theorem State.setChan_sensor (x : EncChan) : (s.setChan n x).sensor m = s.sensor m := rfl
@[simp] theorem State.setChan_ptpPort (x : EncChan) : (s.setChan n x).ptpPort m = s.ptpPort m := rfl
@[simp] theorem State.setChan_evt (x : EncChan) : (s.setChan n x).evt m = s.evt m := rfl
@[simp] theorem State.setChan_rail (x : EncChan) : (s.setChan n x).rail m = s.rail m := rfl

/-! ### `State.setRow` -/

@[simp] theorem State.setRow_row (x : Row) : (s.setRow n x).row n = x := tget_tput_self
theorem State.setRow_row_ne (x : Row) (h : m ≠ n) : (s.setRow n x).row m = s.row m := tget_tput_ne h
@[simp] theorem State.setRow_proto (x : Row) : (s.setRow n x).proto = s.proto := rfl
@[simp] theorem State.setRow_axis (x : Row) : (s.setRow n x).axis = s.axis := rfl
@[simp] theorem State.setRow_ports (x : Row) : (s.setRow n x).ports = s.ports := rfl
@[simp] theorem State.setRow_rings (x : Row) : (s.setRow n x).rings = s.rings := rfl
@[simp] theorem State.setRow_store (x : Row) : (s.setRow n x).store = s.store := rfl
@[simp] theorem State.setRow_integ (x : Row) : (s.setRow n x).integ = s.integ := rfl
@[simp] theorem State.setRow_screen (x : Row) : (s.setRow n x).screen = s.screen := rfl
@[simp] theorem State.setRow_noz (x : Row) : (s.setRow n x).noz = s.noz := rfl
@[simp] theorem State.setRow_fire (x : Row) : (s.setRow n x).fire = s.fire := rfl
@[simp] theorem State.setRow_lanes (x : Row) : (s.setRow n x).lanes = s.lanes := rfl
@[simp] theorem State.setRow_rein (x : Row) : (s.setRow n x).rein = s.rein := rfl
@[simp] theorem State.setRow_insp (x : Row) : (s.setRow n x).insp = s.insp := rfl
@[simp] theorem State.setRow_loop (x : Row) : (s.setRow n x).loop = s.loop := rfl
@[simp] theorem State.setRow_time (x : Row) : (s.setRow n x).time = s.time := rfl
@[simp] theorem State.setRow_pair (x : Row) : (s.setRow n x).pair = s.pair := rfl
@[simp] theorem State.setRow_power (x : Row) : (s.setRow n x).power = s.power := rfl
@[simp] theorem State.setRow_start (x : Row) : (s.setRow n x).start = s.start := rfl
@[simp] theorem State.setRow_faults (x : Row) : (s.setRow n x).faults = s.faults := rfl
@[simp] theorem State.setRow_model (x : Row) : (s.setRow n x).model = s.model := rfl
@[simp] theorem State.setRow_pending (x : Row) : (s.setRow n x).pending = s.pending := rfl
@[simp] theorem State.setRow_ring (x : Row) : (s.setRow n x).ring m = s.ring m := rfl
@[simp] theorem State.setRow_lane (x : Row) : (s.setRow n x).lane m = s.lane m := rfl
@[simp] theorem State.setRow_port (x : Row) : (s.setRow n x).port m = s.port m := rfl
@[simp] theorem State.setRow_sess (x : Row) : (s.setRow n x).sess m = s.sess m := rfl
@[simp] theorem State.setRow_handle (x : Row) : (s.setRow n x).handle m = s.handle m := rfl
@[simp] theorem State.setRow_chan (x : Row) : (s.setRow n x).chan m = s.chan m := rfl
@[simp] theorem State.setRow_trig (x : Row) : (s.setRow n x).trig m = s.trig m := rfl
@[simp] theorem State.setRow_engine (x : Row) : (s.setRow n x).engine m = s.engine m := rfl
@[simp] theorem State.setRow_head (x : Row) : (s.setRow n x).head m = s.head m := rfl
@[simp] theorem State.setRow_camPort (x : Row) : (s.setRow n x).camPort m = s.camPort m := rfl
@[simp] theorem State.setRow_sensor (x : Row) : (s.setRow n x).sensor m = s.sensor m := rfl
@[simp] theorem State.setRow_ptpPort (x : Row) : (s.setRow n x).ptpPort m = s.ptpPort m := rfl
@[simp] theorem State.setRow_evt (x : Row) : (s.setRow n x).evt m = s.evt m := rfl
@[simp] theorem State.setRow_rail (x : Row) : (s.setRow n x).rail m = s.rail m := rfl

/-! ### `State.setTrig` -/

@[simp] theorem State.setTrig_trig (x : Trig) : (s.setTrig n x).trig n = x := tget_tput_self
theorem State.setTrig_trig_ne (x : Trig) (h : m ≠ n) : (s.setTrig n x).trig m = s.trig m := tget_tput_ne h
@[simp] theorem State.setTrig_proto (x : Trig) : (s.setTrig n x).proto = s.proto := rfl
@[simp] theorem State.setTrig_axis (x : Trig) : (s.setTrig n x).axis = s.axis := rfl
@[simp] theorem State.setTrig_ports (x : Trig) : (s.setTrig n x).ports = s.ports := rfl
@[simp] theorem State.setTrig_rings (x : Trig) : (s.setTrig n x).rings = s.rings := rfl
@[simp] theorem State.setTrig_store (x : Trig) : (s.setTrig n x).store = s.store := rfl
@[simp] theorem State.setTrig_integ (x : Trig) : (s.setTrig n x).integ = s.integ := rfl
@[simp] theorem State.setTrig_screen (x : Trig) : (s.setTrig n x).screen = s.screen := rfl
@[simp] theorem State.setTrig_noz (x : Trig) : (s.setTrig n x).noz = s.noz := rfl
@[simp] theorem State.setTrig_fire (x : Trig) : (s.setTrig n x).fire = s.fire := rfl
@[simp] theorem State.setTrig_lanes (x : Trig) : (s.setTrig n x).lanes = s.lanes := rfl
@[simp] theorem State.setTrig_rein (x : Trig) : (s.setTrig n x).rein = s.rein := rfl
@[simp] theorem State.setTrig_insp (x : Trig) : (s.setTrig n x).insp = s.insp := rfl
@[simp] theorem State.setTrig_loop (x : Trig) : (s.setTrig n x).loop = s.loop := rfl
@[simp] theorem State.setTrig_time (x : Trig) : (s.setTrig n x).time = s.time := rfl
@[simp] theorem State.setTrig_pair (x : Trig) : (s.setTrig n x).pair = s.pair := rfl
@[simp] theorem State.setTrig_power (x : Trig) : (s.setTrig n x).power = s.power := rfl
@[simp] theorem State.setTrig_start (x : Trig) : (s.setTrig n x).start = s.start := rfl
@[simp] theorem State.setTrig_faults (x : Trig) : (s.setTrig n x).faults = s.faults := rfl
@[simp] theorem State.setTrig_model (x : Trig) : (s.setTrig n x).model = s.model := rfl
@[simp] theorem State.setTrig_pending (x : Trig) : (s.setTrig n x).pending = s.pending := rfl
@[simp] theorem State.setTrig_ring (x : Trig) : (s.setTrig n x).ring m = s.ring m := rfl
@[simp] theorem State.setTrig_lane (x : Trig) : (s.setTrig n x).lane m = s.lane m := rfl
@[simp] theorem State.setTrig_port (x : Trig) : (s.setTrig n x).port m = s.port m := rfl
@[simp] theorem State.setTrig_sess (x : Trig) : (s.setTrig n x).sess m = s.sess m := rfl
@[simp] theorem State.setTrig_handle (x : Trig) : (s.setTrig n x).handle m = s.handle m := rfl
@[simp] theorem State.setTrig_chan (x : Trig) : (s.setTrig n x).chan m = s.chan m := rfl
@[simp] theorem State.setTrig_row (x : Trig) : (s.setTrig n x).row m = s.row m := rfl
@[simp] theorem State.setTrig_engine (x : Trig) : (s.setTrig n x).engine m = s.engine m := rfl
@[simp] theorem State.setTrig_head (x : Trig) : (s.setTrig n x).head m = s.head m := rfl
@[simp] theorem State.setTrig_camPort (x : Trig) : (s.setTrig n x).camPort m = s.camPort m := rfl
@[simp] theorem State.setTrig_sensor (x : Trig) : (s.setTrig n x).sensor m = s.sensor m := rfl
@[simp] theorem State.setTrig_ptpPort (x : Trig) : (s.setTrig n x).ptpPort m = s.ptpPort m := rfl
@[simp] theorem State.setTrig_evt (x : Trig) : (s.setTrig n x).evt m = s.evt m := rfl
@[simp] theorem State.setTrig_rail (x : Trig) : (s.setTrig n x).rail m = s.rail m := rfl

/-! ### `State.setEngine` -/

@[simp] theorem State.setEngine_engine (x : Engine) : (s.setEngine n x).engine n = x := tget_tput_self
theorem State.setEngine_engine_ne (x : Engine) (h : m ≠ n) : (s.setEngine n x).engine m = s.engine m := tget_tput_ne h
@[simp] theorem State.setEngine_proto (x : Engine) : (s.setEngine n x).proto = s.proto := rfl
@[simp] theorem State.setEngine_axis (x : Engine) : (s.setEngine n x).axis = s.axis := rfl
@[simp] theorem State.setEngine_gait (x : Engine) : (s.setEngine n x).gait = s.gait := rfl
@[simp] theorem State.setEngine_ports (x : Engine) : (s.setEngine n x).ports = s.ports := rfl
@[simp] theorem State.setEngine_rings (x : Engine) : (s.setEngine n x).rings = s.rings := rfl
@[simp] theorem State.setEngine_store (x : Engine) : (s.setEngine n x).store = s.store := rfl
@[simp] theorem State.setEngine_integ (x : Engine) : (s.setEngine n x).integ = s.integ := rfl
@[simp] theorem State.setEngine_noz (x : Engine) : (s.setEngine n x).noz = s.noz := rfl
@[simp] theorem State.setEngine_fire (x : Engine) : (s.setEngine n x).fire = s.fire := rfl
@[simp] theorem State.setEngine_lanes (x : Engine) : (s.setEngine n x).lanes = s.lanes := rfl
@[simp] theorem State.setEngine_rein (x : Engine) : (s.setEngine n x).rein = s.rein := rfl
@[simp] theorem State.setEngine_insp (x : Engine) : (s.setEngine n x).insp = s.insp := rfl
@[simp] theorem State.setEngine_loop (x : Engine) : (s.setEngine n x).loop = s.loop := rfl
@[simp] theorem State.setEngine_time (x : Engine) : (s.setEngine n x).time = s.time := rfl
@[simp] theorem State.setEngine_pair (x : Engine) : (s.setEngine n x).pair = s.pair := rfl
@[simp] theorem State.setEngine_power (x : Engine) : (s.setEngine n x).power = s.power := rfl
@[simp] theorem State.setEngine_start (x : Engine) : (s.setEngine n x).start = s.start := rfl
@[simp] theorem State.setEngine_faults (x : Engine) : (s.setEngine n x).faults = s.faults := rfl
@[simp] theorem State.setEngine_model (x : Engine) : (s.setEngine n x).model = s.model := rfl
@[simp] theorem State.setEngine_pending (x : Engine) : (s.setEngine n x).pending = s.pending := rfl
@[simp] theorem State.setEngine_ring (x : Engine) : (s.setEngine n x).ring m = s.ring m := rfl
@[simp] theorem State.setEngine_lane (x : Engine) : (s.setEngine n x).lane m = s.lane m := rfl
@[simp] theorem State.setEngine_port (x : Engine) : (s.setEngine n x).port m = s.port m := rfl
@[simp] theorem State.setEngine_sess (x : Engine) : (s.setEngine n x).sess m = s.sess m := rfl
@[simp] theorem State.setEngine_handle (x : Engine) : (s.setEngine n x).handle m = s.handle m := rfl
@[simp] theorem State.setEngine_chan (x : Engine) : (s.setEngine n x).chan m = s.chan m := rfl
@[simp] theorem State.setEngine_row (x : Engine) : (s.setEngine n x).row m = s.row m := rfl
@[simp] theorem State.setEngine_trig (x : Engine) : (s.setEngine n x).trig m = s.trig m := rfl
@[simp] theorem State.setEngine_head (x : Engine) : (s.setEngine n x).head m = s.head m := rfl
@[simp] theorem State.setEngine_camPort (x : Engine) : (s.setEngine n x).camPort m = s.camPort m := rfl
@[simp] theorem State.setEngine_sensor (x : Engine) : (s.setEngine n x).sensor m = s.sensor m := rfl
@[simp] theorem State.setEngine_ptpPort (x : Engine) : (s.setEngine n x).ptpPort m = s.ptpPort m := rfl
@[simp] theorem State.setEngine_evt (x : Engine) : (s.setEngine n x).evt m = s.evt m := rfl
@[simp] theorem State.setEngine_rail (x : Engine) : (s.setEngine n x).rail m = s.rail m := rfl

/-! ### `State.setHead` -/

@[simp] theorem State.setHead_head (x : Head) : (s.setHead n x).head n = x := tget_tput_self
theorem State.setHead_head_ne (x : Head) (h : m ≠ n) : (s.setHead n x).head m = s.head m := tget_tput_ne h
@[simp] theorem State.setHead_proto (x : Head) : (s.setHead n x).proto = s.proto := rfl
@[simp] theorem State.setHead_axis (x : Head) : (s.setHead n x).axis = s.axis := rfl
@[simp] theorem State.setHead_gait (x : Head) : (s.setHead n x).gait = s.gait := rfl
@[simp] theorem State.setHead_ports (x : Head) : (s.setHead n x).ports = s.ports := rfl
@[simp] theorem State.setHead_rings (x : Head) : (s.setHead n x).rings = s.rings := rfl
@[simp] theorem State.setHead_store (x : Head) : (s.setHead n x).store = s.store := rfl
@[simp] theorem State.setHead_integ (x : Head) : (s.setHead n x).integ = s.integ := rfl
@[simp] theorem State.setHead_screen (x : Head) : (s.setHead n x).screen = s.screen := rfl
@[simp] theorem State.setHead_noz (x : Head) : (s.setHead n x).noz = s.noz := rfl
@[simp] theorem State.setHead_lanes (x : Head) : (s.setHead n x).lanes = s.lanes := rfl
@[simp] theorem State.setHead_rein (x : Head) : (s.setHead n x).rein = s.rein := rfl
@[simp] theorem State.setHead_insp (x : Head) : (s.setHead n x).insp = s.insp := rfl
@[simp] theorem State.setHead_loop (x : Head) : (s.setHead n x).loop = s.loop := rfl
@[simp] theorem State.setHead_time (x : Head) : (s.setHead n x).time = s.time := rfl
@[simp] theorem State.setHead_pair (x : Head) : (s.setHead n x).pair = s.pair := rfl
@[simp] theorem State.setHead_power (x : Head) : (s.setHead n x).power = s.power := rfl
@[simp] theorem State.setHead_start (x : Head) : (s.setHead n x).start = s.start := rfl
@[simp] theorem State.setHead_faults (x : Head) : (s.setHead n x).faults = s.faults := rfl
@[simp] theorem State.setHead_model (x : Head) : (s.setHead n x).model = s.model := rfl
@[simp] theorem State.setHead_pending (x : Head) : (s.setHead n x).pending = s.pending := rfl
@[simp] theorem State.setHead_ring (x : Head) : (s.setHead n x).ring m = s.ring m := rfl
@[simp] theorem State.setHead_lane (x : Head) : (s.setHead n x).lane m = s.lane m := rfl
@[simp] theorem State.setHead_port (x : Head) : (s.setHead n x).port m = s.port m := rfl
@[simp] theorem State.setHead_sess (x : Head) : (s.setHead n x).sess m = s.sess m := rfl
@[simp] theorem State.setHead_handle (x : Head) : (s.setHead n x).handle m = s.handle m := rfl
@[simp] theorem State.setHead_chan (x : Head) : (s.setHead n x).chan m = s.chan m := rfl
@[simp] theorem State.setHead_row (x : Head) : (s.setHead n x).row m = s.row m := rfl
@[simp] theorem State.setHead_trig (x : Head) : (s.setHead n x).trig m = s.trig m := rfl
@[simp] theorem State.setHead_engine (x : Head) : (s.setHead n x).engine m = s.engine m := rfl
@[simp] theorem State.setHead_camPort (x : Head) : (s.setHead n x).camPort m = s.camPort m := rfl
@[simp] theorem State.setHead_sensor (x : Head) : (s.setHead n x).sensor m = s.sensor m := rfl
@[simp] theorem State.setHead_ptpPort (x : Head) : (s.setHead n x).ptpPort m = s.ptpPort m := rfl
@[simp] theorem State.setHead_evt (x : Head) : (s.setHead n x).evt m = s.evt m := rfl
@[simp] theorem State.setHead_rail (x : Head) : (s.setHead n x).rail m = s.rail m := rfl

/-! ### `State.setCamPort` -/

@[simp] theorem State.setCamPort_camPort (x : CamPort) : (s.setCamPort n x).camPort n = x := tget_tput_self
theorem State.setCamPort_camPort_ne (x : CamPort) (h : m ≠ n) : (s.setCamPort n x).camPort m = s.camPort m := tget_tput_ne h
@[simp] theorem State.setCamPort_proto (x : CamPort) : (s.setCamPort n x).proto = s.proto := rfl
@[simp] theorem State.setCamPort_axis (x : CamPort) : (s.setCamPort n x).axis = s.axis := rfl
@[simp] theorem State.setCamPort_gait (x : CamPort) : (s.setCamPort n x).gait = s.gait := rfl
@[simp] theorem State.setCamPort_ports (x : CamPort) : (s.setCamPort n x).ports = s.ports := rfl
@[simp] theorem State.setCamPort_rings (x : CamPort) : (s.setCamPort n x).rings = s.rings := rfl
@[simp] theorem State.setCamPort_store (x : CamPort) : (s.setCamPort n x).store = s.store := rfl
@[simp] theorem State.setCamPort_integ (x : CamPort) : (s.setCamPort n x).integ = s.integ := rfl
@[simp] theorem State.setCamPort_screen (x : CamPort) : (s.setCamPort n x).screen = s.screen := rfl
@[simp] theorem State.setCamPort_noz (x : CamPort) : (s.setCamPort n x).noz = s.noz := rfl
@[simp] theorem State.setCamPort_fire (x : CamPort) : (s.setCamPort n x).fire = s.fire := rfl
@[simp] theorem State.setCamPort_lanes (x : CamPort) : (s.setCamPort n x).lanes = s.lanes := rfl
@[simp] theorem State.setCamPort_rein (x : CamPort) : (s.setCamPort n x).rein = s.rein := rfl
@[simp] theorem State.setCamPort_loop (x : CamPort) : (s.setCamPort n x).loop = s.loop := rfl
@[simp] theorem State.setCamPort_time (x : CamPort) : (s.setCamPort n x).time = s.time := rfl
@[simp] theorem State.setCamPort_pair (x : CamPort) : (s.setCamPort n x).pair = s.pair := rfl
@[simp] theorem State.setCamPort_power (x : CamPort) : (s.setCamPort n x).power = s.power := rfl
@[simp] theorem State.setCamPort_start (x : CamPort) : (s.setCamPort n x).start = s.start := rfl
@[simp] theorem State.setCamPort_faults (x : CamPort) : (s.setCamPort n x).faults = s.faults := rfl
@[simp] theorem State.setCamPort_model (x : CamPort) : (s.setCamPort n x).model = s.model := rfl
@[simp] theorem State.setCamPort_pending (x : CamPort) : (s.setCamPort n x).pending = s.pending := rfl
@[simp] theorem State.setCamPort_ring (x : CamPort) : (s.setCamPort n x).ring m = s.ring m := rfl
@[simp] theorem State.setCamPort_lane (x : CamPort) : (s.setCamPort n x).lane m = s.lane m := rfl
@[simp] theorem State.setCamPort_port (x : CamPort) : (s.setCamPort n x).port m = s.port m := rfl
@[simp] theorem State.setCamPort_sess (x : CamPort) : (s.setCamPort n x).sess m = s.sess m := rfl
@[simp] theorem State.setCamPort_handle (x : CamPort) : (s.setCamPort n x).handle m = s.handle m := rfl
@[simp] theorem State.setCamPort_chan (x : CamPort) : (s.setCamPort n x).chan m = s.chan m := rfl
@[simp] theorem State.setCamPort_row (x : CamPort) : (s.setCamPort n x).row m = s.row m := rfl
@[simp] theorem State.setCamPort_trig (x : CamPort) : (s.setCamPort n x).trig m = s.trig m := rfl
@[simp] theorem State.setCamPort_engine (x : CamPort) : (s.setCamPort n x).engine m = s.engine m := rfl
@[simp] theorem State.setCamPort_head (x : CamPort) : (s.setCamPort n x).head m = s.head m := rfl
@[simp] theorem State.setCamPort_sensor (x : CamPort) : (s.setCamPort n x).sensor m = s.sensor m := rfl
@[simp] theorem State.setCamPort_ptpPort (x : CamPort) : (s.setCamPort n x).ptpPort m = s.ptpPort m := rfl
@[simp] theorem State.setCamPort_evt (x : CamPort) : (s.setCamPort n x).evt m = s.evt m := rfl
@[simp] theorem State.setCamPort_rail (x : CamPort) : (s.setCamPort n x).rail m = s.rail m := rfl

/-! ### `State.setSensor` -/

@[simp] theorem State.setSensor_sensor (x : Sensor) : (s.setSensor n x).sensor n = x := tget_tput_self
theorem State.setSensor_sensor_ne (x : Sensor) (h : m ≠ n) : (s.setSensor n x).sensor m = s.sensor m := tget_tput_ne h
@[simp] theorem State.setSensor_proto (x : Sensor) : (s.setSensor n x).proto = s.proto := rfl
@[simp] theorem State.setSensor_axis (x : Sensor) : (s.setSensor n x).axis = s.axis := rfl
@[simp] theorem State.setSensor_gait (x : Sensor) : (s.setSensor n x).gait = s.gait := rfl
@[simp] theorem State.setSensor_ports (x : Sensor) : (s.setSensor n x).ports = s.ports := rfl
@[simp] theorem State.setSensor_rings (x : Sensor) : (s.setSensor n x).rings = s.rings := rfl
@[simp] theorem State.setSensor_store (x : Sensor) : (s.setSensor n x).store = s.store := rfl
@[simp] theorem State.setSensor_integ (x : Sensor) : (s.setSensor n x).integ = s.integ := rfl
@[simp] theorem State.setSensor_screen (x : Sensor) : (s.setSensor n x).screen = s.screen := rfl
@[simp] theorem State.setSensor_noz (x : Sensor) : (s.setSensor n x).noz = s.noz := rfl
@[simp] theorem State.setSensor_fire (x : Sensor) : (s.setSensor n x).fire = s.fire := rfl
@[simp] theorem State.setSensor_lanes (x : Sensor) : (s.setSensor n x).lanes = s.lanes := rfl
@[simp] theorem State.setSensor_rein (x : Sensor) : (s.setSensor n x).rein = s.rein := rfl
@[simp] theorem State.setSensor_loop (x : Sensor) : (s.setSensor n x).loop = s.loop := rfl
@[simp] theorem State.setSensor_time (x : Sensor) : (s.setSensor n x).time = s.time := rfl
@[simp] theorem State.setSensor_pair (x : Sensor) : (s.setSensor n x).pair = s.pair := rfl
@[simp] theorem State.setSensor_power (x : Sensor) : (s.setSensor n x).power = s.power := rfl
@[simp] theorem State.setSensor_start (x : Sensor) : (s.setSensor n x).start = s.start := rfl
@[simp] theorem State.setSensor_faults (x : Sensor) : (s.setSensor n x).faults = s.faults := rfl
@[simp] theorem State.setSensor_model (x : Sensor) : (s.setSensor n x).model = s.model := rfl
@[simp] theorem State.setSensor_pending (x : Sensor) : (s.setSensor n x).pending = s.pending := rfl
@[simp] theorem State.setSensor_ring (x : Sensor) : (s.setSensor n x).ring m = s.ring m := rfl
@[simp] theorem State.setSensor_lane (x : Sensor) : (s.setSensor n x).lane m = s.lane m := rfl
@[simp] theorem State.setSensor_port (x : Sensor) : (s.setSensor n x).port m = s.port m := rfl
@[simp] theorem State.setSensor_sess (x : Sensor) : (s.setSensor n x).sess m = s.sess m := rfl
@[simp] theorem State.setSensor_handle (x : Sensor) : (s.setSensor n x).handle m = s.handle m := rfl
@[simp] theorem State.setSensor_chan (x : Sensor) : (s.setSensor n x).chan m = s.chan m := rfl
@[simp] theorem State.setSensor_row (x : Sensor) : (s.setSensor n x).row m = s.row m := rfl
@[simp] theorem State.setSensor_trig (x : Sensor) : (s.setSensor n x).trig m = s.trig m := rfl
@[simp] theorem State.setSensor_engine (x : Sensor) : (s.setSensor n x).engine m = s.engine m := rfl
@[simp] theorem State.setSensor_head (x : Sensor) : (s.setSensor n x).head m = s.head m := rfl
@[simp] theorem State.setSensor_camPort (x : Sensor) : (s.setSensor n x).camPort m = s.camPort m := rfl
@[simp] theorem State.setSensor_ptpPort (x : Sensor) : (s.setSensor n x).ptpPort m = s.ptpPort m := rfl
@[simp] theorem State.setSensor_evt (x : Sensor) : (s.setSensor n x).evt m = s.evt m := rfl
@[simp] theorem State.setSensor_rail (x : Sensor) : (s.setSensor n x).rail m = s.rail m := rfl

/-! ### `State.setPtpPort` -/

@[simp] theorem State.setPtpPort_ptpPort (x : PtpPort) : (s.setPtpPort n x).ptpPort n = x := tget_tput_self
theorem State.setPtpPort_ptpPort_ne (x : PtpPort) (h : m ≠ n) : (s.setPtpPort n x).ptpPort m = s.ptpPort m := tget_tput_ne h
@[simp] theorem State.setPtpPort_proto (x : PtpPort) : (s.setPtpPort n x).proto = s.proto := rfl
@[simp] theorem State.setPtpPort_axis (x : PtpPort) : (s.setPtpPort n x).axis = s.axis := rfl
@[simp] theorem State.setPtpPort_gait (x : PtpPort) : (s.setPtpPort n x).gait = s.gait := rfl
@[simp] theorem State.setPtpPort_ports (x : PtpPort) : (s.setPtpPort n x).ports = s.ports := rfl
@[simp] theorem State.setPtpPort_rings (x : PtpPort) : (s.setPtpPort n x).rings = s.rings := rfl
@[simp] theorem State.setPtpPort_store (x : PtpPort) : (s.setPtpPort n x).store = s.store := rfl
@[simp] theorem State.setPtpPort_integ (x : PtpPort) : (s.setPtpPort n x).integ = s.integ := rfl
@[simp] theorem State.setPtpPort_screen (x : PtpPort) : (s.setPtpPort n x).screen = s.screen := rfl
@[simp] theorem State.setPtpPort_noz (x : PtpPort) : (s.setPtpPort n x).noz = s.noz := rfl
@[simp] theorem State.setPtpPort_fire (x : PtpPort) : (s.setPtpPort n x).fire = s.fire := rfl
@[simp] theorem State.setPtpPort_lanes (x : PtpPort) : (s.setPtpPort n x).lanes = s.lanes := rfl
@[simp] theorem State.setPtpPort_rein (x : PtpPort) : (s.setPtpPort n x).rein = s.rein := rfl
@[simp] theorem State.setPtpPort_insp (x : PtpPort) : (s.setPtpPort n x).insp = s.insp := rfl
@[simp] theorem State.setPtpPort_loop (x : PtpPort) : (s.setPtpPort n x).loop = s.loop := rfl
@[simp] theorem State.setPtpPort_pair (x : PtpPort) : (s.setPtpPort n x).pair = s.pair := rfl
@[simp] theorem State.setPtpPort_power (x : PtpPort) : (s.setPtpPort n x).power = s.power := rfl
@[simp] theorem State.setPtpPort_start (x : PtpPort) : (s.setPtpPort n x).start = s.start := rfl
@[simp] theorem State.setPtpPort_faults (x : PtpPort) : (s.setPtpPort n x).faults = s.faults := rfl
@[simp] theorem State.setPtpPort_model (x : PtpPort) : (s.setPtpPort n x).model = s.model := rfl
@[simp] theorem State.setPtpPort_pending (x : PtpPort) : (s.setPtpPort n x).pending = s.pending := rfl
@[simp] theorem State.setPtpPort_ring (x : PtpPort) : (s.setPtpPort n x).ring m = s.ring m := rfl
@[simp] theorem State.setPtpPort_lane (x : PtpPort) : (s.setPtpPort n x).lane m = s.lane m := rfl
@[simp] theorem State.setPtpPort_port (x : PtpPort) : (s.setPtpPort n x).port m = s.port m := rfl
@[simp] theorem State.setPtpPort_sess (x : PtpPort) : (s.setPtpPort n x).sess m = s.sess m := rfl
@[simp] theorem State.setPtpPort_handle (x : PtpPort) : (s.setPtpPort n x).handle m = s.handle m := rfl
@[simp] theorem State.setPtpPort_chan (x : PtpPort) : (s.setPtpPort n x).chan m = s.chan m := rfl
@[simp] theorem State.setPtpPort_row (x : PtpPort) : (s.setPtpPort n x).row m = s.row m := rfl
@[simp] theorem State.setPtpPort_trig (x : PtpPort) : (s.setPtpPort n x).trig m = s.trig m := rfl
@[simp] theorem State.setPtpPort_engine (x : PtpPort) : (s.setPtpPort n x).engine m = s.engine m := rfl
@[simp] theorem State.setPtpPort_head (x : PtpPort) : (s.setPtpPort n x).head m = s.head m := rfl
@[simp] theorem State.setPtpPort_camPort (x : PtpPort) : (s.setPtpPort n x).camPort m = s.camPort m := rfl
@[simp] theorem State.setPtpPort_sensor (x : PtpPort) : (s.setPtpPort n x).sensor m = s.sensor m := rfl
@[simp] theorem State.setPtpPort_evt (x : PtpPort) : (s.setPtpPort n x).evt m = s.evt m := rfl
@[simp] theorem State.setPtpPort_rail (x : PtpPort) : (s.setPtpPort n x).rail m = s.rail m := rfl

/-! ### `State.setEvt` -/

@[simp] theorem State.setEvt_evt (x : Evt) : (s.setEvt n x).evt n = x := tget_tput_self
theorem State.setEvt_evt_ne (x : Evt) (h : m ≠ n) : (s.setEvt n x).evt m = s.evt m := tget_tput_ne h
@[simp] theorem State.setEvt_proto (x : Evt) : (s.setEvt n x).proto = s.proto := rfl
@[simp] theorem State.setEvt_axis (x : Evt) : (s.setEvt n x).axis = s.axis := rfl
@[simp] theorem State.setEvt_gait (x : Evt) : (s.setEvt n x).gait = s.gait := rfl
@[simp] theorem State.setEvt_ports (x : Evt) : (s.setEvt n x).ports = s.ports := rfl
@[simp] theorem State.setEvt_rings (x : Evt) : (s.setEvt n x).rings = s.rings := rfl
@[simp] theorem State.setEvt_store (x : Evt) : (s.setEvt n x).store = s.store := rfl
@[simp] theorem State.setEvt_integ (x : Evt) : (s.setEvt n x).integ = s.integ := rfl
@[simp] theorem State.setEvt_screen (x : Evt) : (s.setEvt n x).screen = s.screen := rfl
@[simp] theorem State.setEvt_noz (x : Evt) : (s.setEvt n x).noz = s.noz := rfl
@[simp] theorem State.setEvt_fire (x : Evt) : (s.setEvt n x).fire = s.fire := rfl
@[simp] theorem State.setEvt_lanes (x : Evt) : (s.setEvt n x).lanes = s.lanes := rfl
@[simp] theorem State.setEvt_rein (x : Evt) : (s.setEvt n x).rein = s.rein := rfl
@[simp] theorem State.setEvt_insp (x : Evt) : (s.setEvt n x).insp = s.insp := rfl
@[simp] theorem State.setEvt_loop (x : Evt) : (s.setEvt n x).loop = s.loop := rfl
@[simp] theorem State.setEvt_pair (x : Evt) : (s.setEvt n x).pair = s.pair := rfl
@[simp] theorem State.setEvt_power (x : Evt) : (s.setEvt n x).power = s.power := rfl
@[simp] theorem State.setEvt_start (x : Evt) : (s.setEvt n x).start = s.start := rfl
@[simp] theorem State.setEvt_faults (x : Evt) : (s.setEvt n x).faults = s.faults := rfl
@[simp] theorem State.setEvt_model (x : Evt) : (s.setEvt n x).model = s.model := rfl
@[simp] theorem State.setEvt_pending (x : Evt) : (s.setEvt n x).pending = s.pending := rfl
@[simp] theorem State.setEvt_ring (x : Evt) : (s.setEvt n x).ring m = s.ring m := rfl
@[simp] theorem State.setEvt_lane (x : Evt) : (s.setEvt n x).lane m = s.lane m := rfl
@[simp] theorem State.setEvt_port (x : Evt) : (s.setEvt n x).port m = s.port m := rfl
@[simp] theorem State.setEvt_sess (x : Evt) : (s.setEvt n x).sess m = s.sess m := rfl
@[simp] theorem State.setEvt_handle (x : Evt) : (s.setEvt n x).handle m = s.handle m := rfl
@[simp] theorem State.setEvt_chan (x : Evt) : (s.setEvt n x).chan m = s.chan m := rfl
@[simp] theorem State.setEvt_row (x : Evt) : (s.setEvt n x).row m = s.row m := rfl
@[simp] theorem State.setEvt_trig (x : Evt) : (s.setEvt n x).trig m = s.trig m := rfl
@[simp] theorem State.setEvt_engine (x : Evt) : (s.setEvt n x).engine m = s.engine m := rfl
@[simp] theorem State.setEvt_head (x : Evt) : (s.setEvt n x).head m = s.head m := rfl
@[simp] theorem State.setEvt_camPort (x : Evt) : (s.setEvt n x).camPort m = s.camPort m := rfl
@[simp] theorem State.setEvt_sensor (x : Evt) : (s.setEvt n x).sensor m = s.sensor m := rfl
@[simp] theorem State.setEvt_ptpPort (x : Evt) : (s.setEvt n x).ptpPort m = s.ptpPort m := rfl
@[simp] theorem State.setEvt_rail (x : Evt) : (s.setEvt n x).rail m = s.rail m := rfl

/-! ### `State.setRail` -/

@[simp] theorem State.setRail_rail (x : Rail) : (s.setRail n x).rail n = x := tget_tput_self
theorem State.setRail_rail_ne (x : Rail) (h : m ≠ n) : (s.setRail n x).rail m = s.rail m := tget_tput_ne h
@[simp] theorem State.setRail_proto (x : Rail) : (s.setRail n x).proto = s.proto := rfl
@[simp] theorem State.setRail_axis (x : Rail) : (s.setRail n x).axis = s.axis := rfl
@[simp] theorem State.setRail_gait (x : Rail) : (s.setRail n x).gait = s.gait := rfl
@[simp] theorem State.setRail_ports (x : Rail) : (s.setRail n x).ports = s.ports := rfl
@[simp] theorem State.setRail_rings (x : Rail) : (s.setRail n x).rings = s.rings := rfl
@[simp] theorem State.setRail_store (x : Rail) : (s.setRail n x).store = s.store := rfl
@[simp] theorem State.setRail_integ (x : Rail) : (s.setRail n x).integ = s.integ := rfl
@[simp] theorem State.setRail_screen (x : Rail) : (s.setRail n x).screen = s.screen := rfl
@[simp] theorem State.setRail_noz (x : Rail) : (s.setRail n x).noz = s.noz := rfl
@[simp] theorem State.setRail_fire (x : Rail) : (s.setRail n x).fire = s.fire := rfl
@[simp] theorem State.setRail_lanes (x : Rail) : (s.setRail n x).lanes = s.lanes := rfl
@[simp] theorem State.setRail_rein (x : Rail) : (s.setRail n x).rein = s.rein := rfl
@[simp] theorem State.setRail_insp (x : Rail) : (s.setRail n x).insp = s.insp := rfl
@[simp] theorem State.setRail_loop (x : Rail) : (s.setRail n x).loop = s.loop := rfl
@[simp] theorem State.setRail_time (x : Rail) : (s.setRail n x).time = s.time := rfl
@[simp] theorem State.setRail_pair (x : Rail) : (s.setRail n x).pair = s.pair := rfl
@[simp] theorem State.setRail_start (x : Rail) : (s.setRail n x).start = s.start := rfl
@[simp] theorem State.setRail_faults (x : Rail) : (s.setRail n x).faults = s.faults := rfl
@[simp] theorem State.setRail_model (x : Rail) : (s.setRail n x).model = s.model := rfl
@[simp] theorem State.setRail_pending (x : Rail) : (s.setRail n x).pending = s.pending := rfl
@[simp] theorem State.setRail_ring (x : Rail) : (s.setRail n x).ring m = s.ring m := rfl
@[simp] theorem State.setRail_lane (x : Rail) : (s.setRail n x).lane m = s.lane m := rfl
@[simp] theorem State.setRail_port (x : Rail) : (s.setRail n x).port m = s.port m := rfl
@[simp] theorem State.setRail_sess (x : Rail) : (s.setRail n x).sess m = s.sess m := rfl
@[simp] theorem State.setRail_handle (x : Rail) : (s.setRail n x).handle m = s.handle m := rfl
@[simp] theorem State.setRail_chan (x : Rail) : (s.setRail n x).chan m = s.chan m := rfl
@[simp] theorem State.setRail_row (x : Rail) : (s.setRail n x).row m = s.row m := rfl
@[simp] theorem State.setRail_trig (x : Rail) : (s.setRail n x).trig m = s.trig m := rfl
@[simp] theorem State.setRail_engine (x : Rail) : (s.setRail n x).engine m = s.engine m := rfl
@[simp] theorem State.setRail_head (x : Rail) : (s.setRail n x).head m = s.head m := rfl
@[simp] theorem State.setRail_camPort (x : Rail) : (s.setRail n x).camPort m = s.camPort m := rfl
@[simp] theorem State.setRail_sensor (x : Rail) : (s.setRail n x).sensor m = s.sensor m := rfl
@[simp] theorem State.setRail_ptpPort (x : Rail) : (s.setRail n x).ptpPort m = s.ptpPort m := rfl
@[simp] theorem State.setRail_evt (x : Rail) : (s.setRail n x).evt m = s.evt m := rfl

end Sys2Proof.Machine
end

