-- ==== Sys2Proof/Laws/Quiet.lean ====
section
/-! SUPPORT. What goes out leaves the rest alone: an event, an output, a completion or a response changes sessions, handles, the outputs and
the events held before step 9, and nothing else. -/

namespace Sys2Proof.Machine

theorem Quiet.refl (s : State) : Quiet s s := by constructor <;> rfl
theorem Quiet.trans {s t u : State} (g : Quiet t u) (h : Quiet s t) : Quiet s u := by
  obtain ⟨x0, x1, x2, x3, x4, x5, x6, x7, x8, x9, x10, x11, x12, x13, x14, x15, x16, x17, a1, a2, a3⟩ := h
  obtain ⟨y0, y1, y2, y3, y4, y5, y6, y7, y8, y9, y10, y11, y12, y13, y14, y15, y16, y17, b1, b2, b3⟩ := g
  refine ⟨y0.trans x0, y1.trans x1, y2.trans x2, y3.trans x3, y4.trans x4, y5.trans x5, y6.trans x6, y7.trans x7, y8.trans x8, y9.trans x9, y10.trans x10, y11.trans x11, y12.trans x12, y13.trans x13, y14.trans x14, y15.trans x15, y16.trans x16, y17.trans x17, ?_, b2.trans a2, ?_⟩
  · rw [b1, a1]
  · rw [b3, a3]
theorem Quiet.foldl {α : Type} {f : State → α → State} (h : ∀ s a, Quiet s (f s a)) : ∀ (l : List α) (s : State), Quiet s (l.foldl f s)
  | [], s => Quiet.refl s
  | a :: r, s => (Quiet.foldl h r (f s a)).trans (h s a)

theorem emit_quiet (o : Output) (s : State) : Quiet s (emit o s) := by constructor <;> rfl
theorem setSess_quiet (s : State) (n : Nat) (x : Session) : Quiet s (s.setSess n x) := by constructor <;> rfl
theorem setHandle_quiet (s : State) (n : Nat) (x : Handle) : Quiet s (s.setHandle n x) := by constructor <;> rfl
theorem pushQueue_quiet (k : Nat) (s : State) : Quiet s (pushQueue k s) := by
  unfold pushQueue
  dsimp only
  split
  · exact Quiet.refl s
  · split
    · exact Quiet.refl s
    · exact (Quiet.foldl (fun s c => emit_quiet _ s) _ _).trans (setSess_quiet _ _ _)
theorem deliver_quiet (k : Nat) (r : EventRec) (s : State) : Quiet s (deliver k r s) := by
  unfold deliver
  dsimp only
  split
  · exact Quiet.refl s
  · split
    · exact (pushQueue_quiet _ _).trans (setSess_quiet _ _ _)
    · constructor <;> rfl
theorem broadcast_quiet (r : EventRec) (s : State) : Quiet s (broadcast r s) := by
  unfold broadcast
  refine Quiet.foldl (fun s i => ?_) _ _
  split
  · exact deliver_quiet _ _ _
  · exact Quiet.refl s
theorem raise_quiet (c v : Nat) (d : BitVec 96) (s : State) (u : BitVec 32) (l : Option Int) (n : Nat) : Quiet s (raise c v d s u l n) := by
  unfold raise
  dsimp only
  split
  · exact broadcast_quiet _ _
  · constructor <;> rfl
theorem ev_quiet (c : Nat) (d : BitVec 96) (s : State) (u : BitVec 32) (l : Option Int) (n : Nat) : Quiet s (ev c d s u l n) := raise_quiet _ _ _ _ _ _ _
theorem completeHandle_quiet (k c : Nat) (d : BitVec 96) (s : State) : Quiet s (completeHandle k c d s) := by
  unfold completeHandle
  dsimp only
  split
  · exact Quiet.refl s
  · split
    · exact setHandle_quiet _ _ _
    · split
      · exact setHandle_quiet _ _ _
      · split
        · exact (deliver_quiet _ _ _).trans (setHandle_quiet _ _ _)
        · refine (deliver_quiet _ _ _).trans ?_
          constructor <;> rfl
theorem completeWord_quiet (w : BitVec 16) (c : Nat) (d : BitVec 96) (s : State) : Quiet s (completeWord w c d s) := by
  unfold completeWord
  split
  · exact completeHandle_quiet _ _ _ _
  · exact Quiet.refl s
theorem sendResponse_quiet (k n : Nat) (r : Response) (s : State) : Quiet s (sendResponse k n r s) := (emit_quiet _ _).trans (setSess_quiet _ _ _)
theorem reply_quiet (k n f : Nat) (r : Response) (s : State) : Quiet s (reply k n f r s) := by
  unfold reply
  split
  · constructor <;> rfl
  · exact sendResponse_quiet _ _ _ _
theorem commFlag_quiet (b : Nat) (s : State) : Quiet s (commFlag b s) := by constructor <;> rfl

/-! ### The fields that `emit` leaves -/

section
variable (o : Output) (s : State)
@[simp] theorem emit_axis : (emit o s).axis = s.axis := (emit_quiet o s).axis
@[simp] theorem emit_gait : (emit o s).gait = s.gait := (emit_quiet o s).gait
@[simp] theorem emit_ports : (emit o s).ports = s.ports := (emit_quiet o s).ports
@[simp] theorem emit_rings : (emit o s).rings = s.rings := (emit_quiet o s).rings
@[simp] theorem emit_store : (emit o s).store = s.store := (emit_quiet o s).store
@[simp] theorem emit_integ : (emit o s).integ = s.integ := (emit_quiet o s).integ
@[simp] theorem emit_screen : (emit o s).screen = s.screen := (emit_quiet o s).screen
@[simp] theorem emit_noz : (emit o s).noz = s.noz := (emit_quiet o s).noz
@[simp] theorem emit_fire : (emit o s).fire = s.fire := (emit_quiet o s).fire
@[simp] theorem emit_lanes : (emit o s).lanes = s.lanes := (emit_quiet o s).lanes
@[simp] theorem emit_rein : (emit o s).rein = s.rein := (emit_quiet o s).rein
@[simp] theorem emit_insp : (emit o s).insp = s.insp := (emit_quiet o s).insp
@[simp] theorem emit_loop : (emit o s).loop = s.loop := (emit_quiet o s).loop
@[simp] theorem emit_time : (emit o s).time = s.time := (emit_quiet o s).time
@[simp] theorem emit_pair : (emit o s).pair = s.pair := (emit_quiet o s).pair
@[simp] theorem emit_power : (emit o s).power = s.power := (emit_quiet o s).power
@[simp] theorem emit_faults : (emit o s).faults = s.faults := (emit_quiet o s).faults
@[simp] theorem emit_pending : (emit o s).pending = s.pending := (emit_quiet o s).pending
@[simp] theorem emit_cfg : (emit o s).proto.cfg = s.proto.cfg := by rw [(emit_quiet o s).proto]
@[simp] theorem emit_step : (emit o s).start.step = s.start.step := by rw [(emit_quiet o s).start]
@[simp] theorem emit_ring (m : Nat) : (emit o s).ring m = s.ring m := by simp [State.ring]
@[simp] theorem emit_lane (m : Nat) : (emit o s).lane m = s.lane m := by simp [State.lane]
@[simp] theorem emit_port (m : Nat) : (emit o s).port m = s.port m := by simp [State.port]
@[simp] theorem emit_chan (m : Nat) : (emit o s).chan m = s.chan m := by simp [State.chan]
@[simp] theorem emit_row (m : Nat) : (emit o s).row m = s.row m := by simp [State.row]
@[simp] theorem emit_trig (m : Nat) : (emit o s).trig m = s.trig m := by simp [State.trig]
@[simp] theorem emit_engine (m : Nat) : (emit o s).engine m = s.engine m := by simp [State.engine]
@[simp] theorem emit_head (m : Nat) : (emit o s).head m = s.head m := by simp [State.head]
@[simp] theorem emit_camPort (m : Nat) : (emit o s).camPort m = s.camPort m := by simp [State.camPort]
@[simp] theorem emit_sensor (m : Nat) : (emit o s).sensor m = s.sensor m := by simp [State.sensor]
end

/-! ### The fields that `deliver` leaves -/

section
variable (k : Nat) (r : EventRec) (s : State)
@[simp] theorem deliver_axis : (deliver k r s).axis = s.axis := (deliver_quiet k r s).axis
@[simp] theorem deliver_gait : (deliver k r s).gait = s.gait := (deliver_quiet k r s).gait
@[simp] theorem deliver_ports : (deliver k r s).ports = s.ports := (deliver_quiet k r s).ports
@[simp] theorem deliver_rings : (deliver k r s).rings = s.rings := (deliver_quiet k r s).rings
@[simp] theorem deliver_store : (deliver k r s).store = s.store := (deliver_quiet k r s).store
@[simp] theorem deliver_integ : (deliver k r s).integ = s.integ := (deliver_quiet k r s).integ
@[simp] theorem deliver_screen : (deliver k r s).screen = s.screen := (deliver_quiet k r s).screen
@[simp] theorem deliver_noz : (deliver k r s).noz = s.noz := (deliver_quiet k r s).noz
@[simp] theorem deliver_fire : (deliver k r s).fire = s.fire := (deliver_quiet k r s).fire
@[simp] theorem deliver_lanes : (deliver k r s).lanes = s.lanes := (deliver_quiet k r s).lanes
@[simp] theorem deliver_rein : (deliver k r s).rein = s.rein := (deliver_quiet k r s).rein
@[simp] theorem deliver_insp : (deliver k r s).insp = s.insp := (deliver_quiet k r s).insp
@[simp] theorem deliver_loop : (deliver k r s).loop = s.loop := (deliver_quiet k r s).loop
@[simp] theorem deliver_time : (deliver k r s).time = s.time := (deliver_quiet k r s).time
@[simp] theorem deliver_pair : (deliver k r s).pair = s.pair := (deliver_quiet k r s).pair
@[simp] theorem deliver_power : (deliver k r s).power = s.power := (deliver_quiet k r s).power
@[simp] theorem deliver_faults : (deliver k r s).faults = s.faults := (deliver_quiet k r s).faults
@[simp] theorem deliver_pending : (deliver k r s).pending = s.pending := (deliver_quiet k r s).pending
@[simp] theorem deliver_cfg : (deliver k r s).proto.cfg = s.proto.cfg := by rw [(deliver_quiet k r s).proto]
@[simp] theorem deliver_step : (deliver k r s).start.step = s.start.step := by rw [(deliver_quiet k r s).start]
@[simp] theorem deliver_ring (m : Nat) : (deliver k r s).ring m = s.ring m := by simp [State.ring]
@[simp] theorem deliver_lane (m : Nat) : (deliver k r s).lane m = s.lane m := by simp [State.lane]
@[simp] theorem deliver_port (m : Nat) : (deliver k r s).port m = s.port m := by simp [State.port]
@[simp] theorem deliver_chan (m : Nat) : (deliver k r s).chan m = s.chan m := by simp [State.chan]
@[simp] theorem deliver_row (m : Nat) : (deliver k r s).row m = s.row m := by simp [State.row]
@[simp] theorem deliver_trig (m : Nat) : (deliver k r s).trig m = s.trig m := by simp [State.trig]
@[simp] theorem deliver_engine (m : Nat) : (deliver k r s).engine m = s.engine m := by simp [State.engine]
@[simp] theorem deliver_head (m : Nat) : (deliver k r s).head m = s.head m := by simp [State.head]
@[simp] theorem deliver_camPort (m : Nat) : (deliver k r s).camPort m = s.camPort m := by simp [State.camPort]
@[simp] theorem deliver_sensor (m : Nat) : (deliver k r s).sensor m = s.sensor m := by simp [State.sensor]
end

/-! ### The fields that `raise` leaves -/

section
variable (c v : Nat) (d : BitVec 96) (s : State) (u : BitVec 32) (l : Option Int) (n : Nat)
@[simp] theorem raise_axis : (raise c v d s u l n).axis = s.axis := (raise_quiet c v d s u l n).axis
@[simp] theorem raise_gait : (raise c v d s u l n).gait = s.gait := (raise_quiet c v d s u l n).gait
@[simp] theorem raise_ports : (raise c v d s u l n).ports = s.ports := (raise_quiet c v d s u l n).ports
@[simp] theorem raise_rings : (raise c v d s u l n).rings = s.rings := (raise_quiet c v d s u l n).rings
@[simp] theorem raise_store : (raise c v d s u l n).store = s.store := (raise_quiet c v d s u l n).store
@[simp] theorem raise_integ : (raise c v d s u l n).integ = s.integ := (raise_quiet c v d s u l n).integ
@[simp] theorem raise_screen : (raise c v d s u l n).screen = s.screen := (raise_quiet c v d s u l n).screen
@[simp] theorem raise_noz : (raise c v d s u l n).noz = s.noz := (raise_quiet c v d s u l n).noz
@[simp] theorem raise_fire : (raise c v d s u l n).fire = s.fire := (raise_quiet c v d s u l n).fire
@[simp] theorem raise_lanes : (raise c v d s u l n).lanes = s.lanes := (raise_quiet c v d s u l n).lanes
@[simp] theorem raise_rein : (raise c v d s u l n).rein = s.rein := (raise_quiet c v d s u l n).rein
@[simp] theorem raise_insp : (raise c v d s u l n).insp = s.insp := (raise_quiet c v d s u l n).insp
@[simp] theorem raise_loop : (raise c v d s u l n).loop = s.loop := (raise_quiet c v d s u l n).loop
@[simp] theorem raise_time : (raise c v d s u l n).time = s.time := (raise_quiet c v d s u l n).time
@[simp] theorem raise_pair : (raise c v d s u l n).pair = s.pair := (raise_quiet c v d s u l n).pair
@[simp] theorem raise_power : (raise c v d s u l n).power = s.power := (raise_quiet c v d s u l n).power
@[simp] theorem raise_faults : (raise c v d s u l n).faults = s.faults := (raise_quiet c v d s u l n).faults
@[simp] theorem raise_pending : (raise c v d s u l n).pending = s.pending := (raise_quiet c v d s u l n).pending
@[simp] theorem raise_cfg : (raise c v d s u l n).proto.cfg = s.proto.cfg := by rw [(raise_quiet c v d s u l n).proto]
@[simp] theorem raise_step : (raise c v d s u l n).start.step = s.start.step := by rw [(raise_quiet c v d s u l n).start]
@[simp] theorem raise_ring (m : Nat) : (raise c v d s u l n).ring m = s.ring m := by simp [State.ring]
@[simp] theorem raise_lane (m : Nat) : (raise c v d s u l n).lane m = s.lane m := by simp [State.lane]
@[simp] theorem raise_port (m : Nat) : (raise c v d s u l n).port m = s.port m := by simp [State.port]
@[simp] theorem raise_chan (m : Nat) : (raise c v d s u l n).chan m = s.chan m := by simp [State.chan]
@[simp] theorem raise_row (m : Nat) : (raise c v d s u l n).row m = s.row m := by simp [State.row]
@[simp] theorem raise_trig (m : Nat) : (raise c v d s u l n).trig m = s.trig m := by simp [State.trig]
@[simp] theorem raise_engine (m : Nat) : (raise c v d s u l n).engine m = s.engine m := by simp [State.engine]
@[simp] theorem raise_head (m : Nat) : (raise c v d s u l n).head m = s.head m := by simp [State.head]
@[simp] theorem raise_camPort (m : Nat) : (raise c v d s u l n).camPort m = s.camPort m := by simp [State.camPort]
@[simp] theorem raise_sensor (m : Nat) : (raise c v d s u l n).sensor m = s.sensor m := by simp [State.sensor]
end

/-! ### The fields that `ev` leaves -/

section
variable (c : Nat) (d : BitVec 96) (s : State) (u : BitVec 32) (l : Option Int) (n : Nat)
@[simp] theorem ev_axis : (ev c d s u l n).axis = s.axis := (ev_quiet c d s u l n).axis
@[simp] theorem ev_gait : (ev c d s u l n).gait = s.gait := (ev_quiet c d s u l n).gait
@[simp] theorem ev_ports : (ev c d s u l n).ports = s.ports := (ev_quiet c d s u l n).ports
@[simp] theorem ev_rings : (ev c d s u l n).rings = s.rings := (ev_quiet c d s u l n).rings
@[simp] theorem ev_store : (ev c d s u l n).store = s.store := (ev_quiet c d s u l n).store
@[simp] theorem ev_integ : (ev c d s u l n).integ = s.integ := (ev_quiet c d s u l n).integ
@[simp] theorem ev_screen : (ev c d s u l n).screen = s.screen := (ev_quiet c d s u l n).screen
@[simp] theorem ev_noz : (ev c d s u l n).noz = s.noz := (ev_quiet c d s u l n).noz
@[simp] theorem ev_fire : (ev c d s u l n).fire = s.fire := (ev_quiet c d s u l n).fire
@[simp] theorem ev_lanes : (ev c d s u l n).lanes = s.lanes := (ev_quiet c d s u l n).lanes
@[simp] theorem ev_rein : (ev c d s u l n).rein = s.rein := (ev_quiet c d s u l n).rein
@[simp] theorem ev_insp : (ev c d s u l n).insp = s.insp := (ev_quiet c d s u l n).insp
@[simp] theorem ev_loop : (ev c d s u l n).loop = s.loop := (ev_quiet c d s u l n).loop
@[simp] theorem ev_time : (ev c d s u l n).time = s.time := (ev_quiet c d s u l n).time
@[simp] theorem ev_pair : (ev c d s u l n).pair = s.pair := (ev_quiet c d s u l n).pair
@[simp] theorem ev_power : (ev c d s u l n).power = s.power := (ev_quiet c d s u l n).power
@[simp] theorem ev_faults : (ev c d s u l n).faults = s.faults := (ev_quiet c d s u l n).faults
@[simp] theorem ev_pending : (ev c d s u l n).pending = s.pending := (ev_quiet c d s u l n).pending
@[simp] theorem ev_cfg : (ev c d s u l n).proto.cfg = s.proto.cfg := by rw [(ev_quiet c d s u l n).proto]
@[simp] theorem ev_step : (ev c d s u l n).start.step = s.start.step := by rw [(ev_quiet c d s u l n).start]
@[simp] theorem ev_ring (m : Nat) : (ev c d s u l n).ring m = s.ring m := by simp [State.ring]
@[simp] theorem ev_lane (m : Nat) : (ev c d s u l n).lane m = s.lane m := by simp [State.lane]
@[simp] theorem ev_port (m : Nat) : (ev c d s u l n).port m = s.port m := by simp [State.port]
@[simp] theorem ev_chan (m : Nat) : (ev c d s u l n).chan m = s.chan m := by simp [State.chan]
@[simp] theorem ev_row (m : Nat) : (ev c d s u l n).row m = s.row m := by simp [State.row]
@[simp] theorem ev_trig (m : Nat) : (ev c d s u l n).trig m = s.trig m := by simp [State.trig]
@[simp] theorem ev_engine (m : Nat) : (ev c d s u l n).engine m = s.engine m := by simp [State.engine]
@[simp] theorem ev_head (m : Nat) : (ev c d s u l n).head m = s.head m := by simp [State.head]
@[simp] theorem ev_camPort (m : Nat) : (ev c d s u l n).camPort m = s.camPort m := by simp [State.camPort]
@[simp] theorem ev_sensor (m : Nat) : (ev c d s u l n).sensor m = s.sensor m := by simp [State.sensor]
end

/-! ### The fields that `completeHandle` leaves -/

section
variable (k c : Nat) (d : BitVec 96) (s : State)
@[simp] theorem completeHandle_axis : (completeHandle k c d s).axis = s.axis := (completeHandle_quiet k c d s).axis
@[simp] theorem completeHandle_gait : (completeHandle k c d s).gait = s.gait := (completeHandle_quiet k c d s).gait
@[simp] theorem completeHandle_ports : (completeHandle k c d s).ports = s.ports := (completeHandle_quiet k c d s).ports
@[simp] theorem completeHandle_rings : (completeHandle k c d s).rings = s.rings := (completeHandle_quiet k c d s).rings
@[simp] theorem completeHandle_store : (completeHandle k c d s).store = s.store := (completeHandle_quiet k c d s).store
@[simp] theorem completeHandle_integ : (completeHandle k c d s).integ = s.integ := (completeHandle_quiet k c d s).integ
@[simp] theorem completeHandle_screen : (completeHandle k c d s).screen = s.screen := (completeHandle_quiet k c d s).screen
@[simp] theorem completeHandle_noz : (completeHandle k c d s).noz = s.noz := (completeHandle_quiet k c d s).noz
@[simp] theorem completeHandle_fire : (completeHandle k c d s).fire = s.fire := (completeHandle_quiet k c d s).fire
@[simp] theorem completeHandle_lanes : (completeHandle k c d s).lanes = s.lanes := (completeHandle_quiet k c d s).lanes
@[simp] theorem completeHandle_rein : (completeHandle k c d s).rein = s.rein := (completeHandle_quiet k c d s).rein
@[simp] theorem completeHandle_insp : (completeHandle k c d s).insp = s.insp := (completeHandle_quiet k c d s).insp
@[simp] theorem completeHandle_loop : (completeHandle k c d s).loop = s.loop := (completeHandle_quiet k c d s).loop
@[simp] theorem completeHandle_time : (completeHandle k c d s).time = s.time := (completeHandle_quiet k c d s).time
@[simp] theorem completeHandle_pair : (completeHandle k c d s).pair = s.pair := (completeHandle_quiet k c d s).pair
@[simp] theorem completeHandle_power : (completeHandle k c d s).power = s.power := (completeHandle_quiet k c d s).power
@[simp] theorem completeHandle_faults : (completeHandle k c d s).faults = s.faults := (completeHandle_quiet k c d s).faults
@[simp] theorem completeHandle_pending : (completeHandle k c d s).pending = s.pending := (completeHandle_quiet k c d s).pending
@[simp] theorem completeHandle_cfg : (completeHandle k c d s).proto.cfg = s.proto.cfg := by rw [(completeHandle_quiet k c d s).proto]
@[simp] theorem completeHandle_step : (completeHandle k c d s).start.step = s.start.step := by rw [(completeHandle_quiet k c d s).start]
@[simp] theorem completeHandle_ring (m : Nat) : (completeHandle k c d s).ring m = s.ring m := by simp [State.ring]
@[simp] theorem completeHandle_lane (m : Nat) : (completeHandle k c d s).lane m = s.lane m := by simp [State.lane]
@[simp] theorem completeHandle_port (m : Nat) : (completeHandle k c d s).port m = s.port m := by simp [State.port]
@[simp] theorem completeHandle_chan (m : Nat) : (completeHandle k c d s).chan m = s.chan m := by simp [State.chan]
@[simp] theorem completeHandle_row (m : Nat) : (completeHandle k c d s).row m = s.row m := by simp [State.row]
@[simp] theorem completeHandle_trig (m : Nat) : (completeHandle k c d s).trig m = s.trig m := by simp [State.trig]
@[simp] theorem completeHandle_engine (m : Nat) : (completeHandle k c d s).engine m = s.engine m := by simp [State.engine]
@[simp] theorem completeHandle_head (m : Nat) : (completeHandle k c d s).head m = s.head m := by simp [State.head]
@[simp] theorem completeHandle_camPort (m : Nat) : (completeHandle k c d s).camPort m = s.camPort m := by simp [State.camPort]
@[simp] theorem completeHandle_sensor (m : Nat) : (completeHandle k c d s).sensor m = s.sensor m := by simp [State.sensor]
end

/-! ### The fields that `completeWord` leaves -/

section
variable (w : BitVec 16) (c : Nat) (d : BitVec 96) (s : State)
@[simp] theorem completeWord_axis : (completeWord w c d s).axis = s.axis := (completeWord_quiet w c d s).axis
@[simp] theorem completeWord_gait : (completeWord w c d s).gait = s.gait := (completeWord_quiet w c d s).gait
@[simp] theorem completeWord_ports : (completeWord w c d s).ports = s.ports := (completeWord_quiet w c d s).ports
@[simp] theorem completeWord_rings : (completeWord w c d s).rings = s.rings := (completeWord_quiet w c d s).rings
@[simp] theorem completeWord_store : (completeWord w c d s).store = s.store := (completeWord_quiet w c d s).store
@[simp] theorem completeWord_integ : (completeWord w c d s).integ = s.integ := (completeWord_quiet w c d s).integ
@[simp] theorem completeWord_screen : (completeWord w c d s).screen = s.screen := (completeWord_quiet w c d s).screen
@[simp] theorem completeWord_noz : (completeWord w c d s).noz = s.noz := (completeWord_quiet w c d s).noz
@[simp] theorem completeWord_fire : (completeWord w c d s).fire = s.fire := (completeWord_quiet w c d s).fire
@[simp] theorem completeWord_lanes : (completeWord w c d s).lanes = s.lanes := (completeWord_quiet w c d s).lanes
@[simp] theorem completeWord_rein : (completeWord w c d s).rein = s.rein := (completeWord_quiet w c d s).rein
@[simp] theorem completeWord_insp : (completeWord w c d s).insp = s.insp := (completeWord_quiet w c d s).insp
@[simp] theorem completeWord_loop : (completeWord w c d s).loop = s.loop := (completeWord_quiet w c d s).loop
@[simp] theorem completeWord_time : (completeWord w c d s).time = s.time := (completeWord_quiet w c d s).time
@[simp] theorem completeWord_pair : (completeWord w c d s).pair = s.pair := (completeWord_quiet w c d s).pair
@[simp] theorem completeWord_power : (completeWord w c d s).power = s.power := (completeWord_quiet w c d s).power
@[simp] theorem completeWord_faults : (completeWord w c d s).faults = s.faults := (completeWord_quiet w c d s).faults
@[simp] theorem completeWord_pending : (completeWord w c d s).pending = s.pending := (completeWord_quiet w c d s).pending
@[simp] theorem completeWord_cfg : (completeWord w c d s).proto.cfg = s.proto.cfg := by rw [(completeWord_quiet w c d s).proto]
@[simp] theorem completeWord_step : (completeWord w c d s).start.step = s.start.step := by rw [(completeWord_quiet w c d s).start]
@[simp] theorem completeWord_ring (m : Nat) : (completeWord w c d s).ring m = s.ring m := by simp [State.ring]
@[simp] theorem completeWord_lane (m : Nat) : (completeWord w c d s).lane m = s.lane m := by simp [State.lane]
@[simp] theorem completeWord_port (m : Nat) : (completeWord w c d s).port m = s.port m := by simp [State.port]
@[simp] theorem completeWord_chan (m : Nat) : (completeWord w c d s).chan m = s.chan m := by simp [State.chan]
@[simp] theorem completeWord_row (m : Nat) : (completeWord w c d s).row m = s.row m := by simp [State.row]
@[simp] theorem completeWord_trig (m : Nat) : (completeWord w c d s).trig m = s.trig m := by simp [State.trig]
@[simp] theorem completeWord_engine (m : Nat) : (completeWord w c d s).engine m = s.engine m := by simp [State.engine]
@[simp] theorem completeWord_head (m : Nat) : (completeWord w c d s).head m = s.head m := by simp [State.head]
@[simp] theorem completeWord_camPort (m : Nat) : (completeWord w c d s).camPort m = s.camPort m := by simp [State.camPort]
@[simp] theorem completeWord_sensor (m : Nat) : (completeWord w c d s).sensor m = s.sensor m := by simp [State.sensor]
end

/-! ### The fields that `pushQueue` leaves -/

section
variable (k : Nat) (s : State)
@[simp] theorem pushQueue_axis : (pushQueue k s).axis = s.axis := (pushQueue_quiet k s).axis
@[simp] theorem pushQueue_gait : (pushQueue k s).gait = s.gait := (pushQueue_quiet k s).gait
@[simp] theorem pushQueue_ports : (pushQueue k s).ports = s.ports := (pushQueue_quiet k s).ports
@[simp] theorem pushQueue_rings : (pushQueue k s).rings = s.rings := (pushQueue_quiet k s).rings
@[simp] theorem pushQueue_store : (pushQueue k s).store = s.store := (pushQueue_quiet k s).store
@[simp] theorem pushQueue_integ : (pushQueue k s).integ = s.integ := (pushQueue_quiet k s).integ
@[simp] theorem pushQueue_screen : (pushQueue k s).screen = s.screen := (pushQueue_quiet k s).screen
@[simp] theorem pushQueue_noz : (pushQueue k s).noz = s.noz := (pushQueue_quiet k s).noz
@[simp] theorem pushQueue_fire : (pushQueue k s).fire = s.fire := (pushQueue_quiet k s).fire
@[simp] theorem pushQueue_lanes : (pushQueue k s).lanes = s.lanes := (pushQueue_quiet k s).lanes
@[simp] theorem pushQueue_rein : (pushQueue k s).rein = s.rein := (pushQueue_quiet k s).rein
@[simp] theorem pushQueue_insp : (pushQueue k s).insp = s.insp := (pushQueue_quiet k s).insp
@[simp] theorem pushQueue_loop : (pushQueue k s).loop = s.loop := (pushQueue_quiet k s).loop
@[simp] theorem pushQueue_time : (pushQueue k s).time = s.time := (pushQueue_quiet k s).time
@[simp] theorem pushQueue_pair : (pushQueue k s).pair = s.pair := (pushQueue_quiet k s).pair
@[simp] theorem pushQueue_power : (pushQueue k s).power = s.power := (pushQueue_quiet k s).power
@[simp] theorem pushQueue_faults : (pushQueue k s).faults = s.faults := (pushQueue_quiet k s).faults
@[simp] theorem pushQueue_pending : (pushQueue k s).pending = s.pending := (pushQueue_quiet k s).pending
@[simp] theorem pushQueue_cfg : (pushQueue k s).proto.cfg = s.proto.cfg := by rw [(pushQueue_quiet k s).proto]
@[simp] theorem pushQueue_step : (pushQueue k s).start.step = s.start.step := by rw [(pushQueue_quiet k s).start]
@[simp] theorem pushQueue_ring (m : Nat) : (pushQueue k s).ring m = s.ring m := by simp [State.ring]
@[simp] theorem pushQueue_lane (m : Nat) : (pushQueue k s).lane m = s.lane m := by simp [State.lane]
@[simp] theorem pushQueue_port (m : Nat) : (pushQueue k s).port m = s.port m := by simp [State.port]
@[simp] theorem pushQueue_chan (m : Nat) : (pushQueue k s).chan m = s.chan m := by simp [State.chan]
@[simp] theorem pushQueue_row (m : Nat) : (pushQueue k s).row m = s.row m := by simp [State.row]
@[simp] theorem pushQueue_trig (m : Nat) : (pushQueue k s).trig m = s.trig m := by simp [State.trig]
@[simp] theorem pushQueue_engine (m : Nat) : (pushQueue k s).engine m = s.engine m := by simp [State.engine]
@[simp] theorem pushQueue_head (m : Nat) : (pushQueue k s).head m = s.head m := by simp [State.head]
@[simp] theorem pushQueue_camPort (m : Nat) : (pushQueue k s).camPort m = s.camPort m := by simp [State.camPort]
@[simp] theorem pushQueue_sensor (m : Nat) : (pushQueue k s).sensor m = s.sensor m := by simp [State.sensor]
end

/-! ### The fields that `broadcast` leaves -/

section
variable (r : EventRec) (s : State)
@[simp] theorem broadcast_axis : (broadcast r s).axis = s.axis := (broadcast_quiet r s).axis
@[simp] theorem broadcast_gait : (broadcast r s).gait = s.gait := (broadcast_quiet r s).gait
@[simp] theorem broadcast_ports : (broadcast r s).ports = s.ports := (broadcast_quiet r s).ports
@[simp] theorem broadcast_rings : (broadcast r s).rings = s.rings := (broadcast_quiet r s).rings
@[simp] theorem broadcast_store : (broadcast r s).store = s.store := (broadcast_quiet r s).store
@[simp] theorem broadcast_integ : (broadcast r s).integ = s.integ := (broadcast_quiet r s).integ
@[simp] theorem broadcast_screen : (broadcast r s).screen = s.screen := (broadcast_quiet r s).screen
@[simp] theorem broadcast_noz : (broadcast r s).noz = s.noz := (broadcast_quiet r s).noz
@[simp] theorem broadcast_fire : (broadcast r s).fire = s.fire := (broadcast_quiet r s).fire
@[simp] theorem broadcast_lanes : (broadcast r s).lanes = s.lanes := (broadcast_quiet r s).lanes
@[simp] theorem broadcast_rein : (broadcast r s).rein = s.rein := (broadcast_quiet r s).rein
@[simp] theorem broadcast_insp : (broadcast r s).insp = s.insp := (broadcast_quiet r s).insp
@[simp] theorem broadcast_loop : (broadcast r s).loop = s.loop := (broadcast_quiet r s).loop
@[simp] theorem broadcast_time : (broadcast r s).time = s.time := (broadcast_quiet r s).time
@[simp] theorem broadcast_pair : (broadcast r s).pair = s.pair := (broadcast_quiet r s).pair
@[simp] theorem broadcast_power : (broadcast r s).power = s.power := (broadcast_quiet r s).power
@[simp] theorem broadcast_faults : (broadcast r s).faults = s.faults := (broadcast_quiet r s).faults
@[simp] theorem broadcast_pending : (broadcast r s).pending = s.pending := (broadcast_quiet r s).pending
@[simp] theorem broadcast_cfg : (broadcast r s).proto.cfg = s.proto.cfg := by rw [(broadcast_quiet r s).proto]
@[simp] theorem broadcast_step : (broadcast r s).start.step = s.start.step := by rw [(broadcast_quiet r s).start]
@[simp] theorem broadcast_ring (m : Nat) : (broadcast r s).ring m = s.ring m := by simp [State.ring]
@[simp] theorem broadcast_lane (m : Nat) : (broadcast r s).lane m = s.lane m := by simp [State.lane]
@[simp] theorem broadcast_port (m : Nat) : (broadcast r s).port m = s.port m := by simp [State.port]
@[simp] theorem broadcast_chan (m : Nat) : (broadcast r s).chan m = s.chan m := by simp [State.chan]
@[simp] theorem broadcast_row (m : Nat) : (broadcast r s).row m = s.row m := by simp [State.row]
@[simp] theorem broadcast_trig (m : Nat) : (broadcast r s).trig m = s.trig m := by simp [State.trig]
@[simp] theorem broadcast_engine (m : Nat) : (broadcast r s).engine m = s.engine m := by simp [State.engine]
@[simp] theorem broadcast_head (m : Nat) : (broadcast r s).head m = s.head m := by simp [State.head]
@[simp] theorem broadcast_camPort (m : Nat) : (broadcast r s).camPort m = s.camPort m := by simp [State.camPort]
@[simp] theorem broadcast_sensor (m : Nat) : (broadcast r s).sensor m = s.sensor m := by simp [State.sensor]
end

/-! ### The fields that `sendResponse` leaves -/

section
variable (k n : Nat) (r : Response) (s : State)
@[simp] theorem sendResponse_axis : (sendResponse k n r s).axis = s.axis := (sendResponse_quiet k n r s).axis
@[simp] theorem sendResponse_gait : (sendResponse k n r s).gait = s.gait := (sendResponse_quiet k n r s).gait
@[simp] theorem sendResponse_ports : (sendResponse k n r s).ports = s.ports := (sendResponse_quiet k n r s).ports
@[simp] theorem sendResponse_rings : (sendResponse k n r s).rings = s.rings := (sendResponse_quiet k n r s).rings
@[simp] theorem sendResponse_store : (sendResponse k n r s).store = s.store := (sendResponse_quiet k n r s).store
@[simp] theorem sendResponse_integ : (sendResponse k n r s).integ = s.integ := (sendResponse_quiet k n r s).integ
@[simp] theorem sendResponse_screen : (sendResponse k n r s).screen = s.screen := (sendResponse_quiet k n r s).screen
@[simp] theorem sendResponse_noz : (sendResponse k n r s).noz = s.noz := (sendResponse_quiet k n r s).noz
@[simp] theorem sendResponse_fire : (sendResponse k n r s).fire = s.fire := (sendResponse_quiet k n r s).fire
@[simp] theorem sendResponse_lanes : (sendResponse k n r s).lanes = s.lanes := (sendResponse_quiet k n r s).lanes
@[simp] theorem sendResponse_rein : (sendResponse k n r s).rein = s.rein := (sendResponse_quiet k n r s).rein
@[simp] theorem sendResponse_insp : (sendResponse k n r s).insp = s.insp := (sendResponse_quiet k n r s).insp
@[simp] theorem sendResponse_loop : (sendResponse k n r s).loop = s.loop := (sendResponse_quiet k n r s).loop
@[simp] theorem sendResponse_time : (sendResponse k n r s).time = s.time := (sendResponse_quiet k n r s).time
@[simp] theorem sendResponse_pair : (sendResponse k n r s).pair = s.pair := (sendResponse_quiet k n r s).pair
@[simp] theorem sendResponse_power : (sendResponse k n r s).power = s.power := (sendResponse_quiet k n r s).power
@[simp] theorem sendResponse_faults : (sendResponse k n r s).faults = s.faults := (sendResponse_quiet k n r s).faults
@[simp] theorem sendResponse_pending : (sendResponse k n r s).pending = s.pending := (sendResponse_quiet k n r s).pending
@[simp] theorem sendResponse_cfg : (sendResponse k n r s).proto.cfg = s.proto.cfg := by rw [(sendResponse_quiet k n r s).proto]
@[simp] theorem sendResponse_step : (sendResponse k n r s).start.step = s.start.step := by rw [(sendResponse_quiet k n r s).start]
@[simp] theorem sendResponse_ring (m : Nat) : (sendResponse k n r s).ring m = s.ring m := by simp [State.ring]
@[simp] theorem sendResponse_lane (m : Nat) : (sendResponse k n r s).lane m = s.lane m := by simp [State.lane]
@[simp] theorem sendResponse_port (m : Nat) : (sendResponse k n r s).port m = s.port m := by simp [State.port]
@[simp] theorem sendResponse_chan (m : Nat) : (sendResponse k n r s).chan m = s.chan m := by simp [State.chan]
@[simp] theorem sendResponse_row (m : Nat) : (sendResponse k n r s).row m = s.row m := by simp [State.row]
@[simp] theorem sendResponse_trig (m : Nat) : (sendResponse k n r s).trig m = s.trig m := by simp [State.trig]
@[simp] theorem sendResponse_engine (m : Nat) : (sendResponse k n r s).engine m = s.engine m := by simp [State.engine]
@[simp] theorem sendResponse_head (m : Nat) : (sendResponse k n r s).head m = s.head m := by simp [State.head]
@[simp] theorem sendResponse_camPort (m : Nat) : (sendResponse k n r s).camPort m = s.camPort m := by simp [State.camPort]
@[simp] theorem sendResponse_sensor (m : Nat) : (sendResponse k n r s).sensor m = s.sensor m := by simp [State.sensor]
end

/-! ### The fields that `reply` leaves -/

section
variable (k n f : Nat) (r : Response) (s : State)
@[simp] theorem reply_axis : (reply k n f r s).axis = s.axis := (reply_quiet k n f r s).axis
@[simp] theorem reply_gait : (reply k n f r s).gait = s.gait := (reply_quiet k n f r s).gait
@[simp] theorem reply_ports : (reply k n f r s).ports = s.ports := (reply_quiet k n f r s).ports
@[simp] theorem reply_rings : (reply k n f r s).rings = s.rings := (reply_quiet k n f r s).rings
@[simp] theorem reply_store : (reply k n f r s).store = s.store := (reply_quiet k n f r s).store
@[simp] theorem reply_integ : (reply k n f r s).integ = s.integ := (reply_quiet k n f r s).integ
@[simp] theorem reply_screen : (reply k n f r s).screen = s.screen := (reply_quiet k n f r s).screen
@[simp] theorem reply_noz : (reply k n f r s).noz = s.noz := (reply_quiet k n f r s).noz
@[simp] theorem reply_fire : (reply k n f r s).fire = s.fire := (reply_quiet k n f r s).fire
@[simp] theorem reply_lanes : (reply k n f r s).lanes = s.lanes := (reply_quiet k n f r s).lanes
@[simp] theorem reply_rein : (reply k n f r s).rein = s.rein := (reply_quiet k n f r s).rein
@[simp] theorem reply_insp : (reply k n f r s).insp = s.insp := (reply_quiet k n f r s).insp
@[simp] theorem reply_loop : (reply k n f r s).loop = s.loop := (reply_quiet k n f r s).loop
@[simp] theorem reply_time : (reply k n f r s).time = s.time := (reply_quiet k n f r s).time
@[simp] theorem reply_pair : (reply k n f r s).pair = s.pair := (reply_quiet k n f r s).pair
@[simp] theorem reply_power : (reply k n f r s).power = s.power := (reply_quiet k n f r s).power
@[simp] theorem reply_faults : (reply k n f r s).faults = s.faults := (reply_quiet k n f r s).faults
@[simp] theorem reply_pending : (reply k n f r s).pending = s.pending := (reply_quiet k n f r s).pending
@[simp] theorem reply_cfg : (reply k n f r s).proto.cfg = s.proto.cfg := by rw [(reply_quiet k n f r s).proto]
@[simp] theorem reply_step : (reply k n f r s).start.step = s.start.step := by rw [(reply_quiet k n f r s).start]
@[simp] theorem reply_ring (m : Nat) : (reply k n f r s).ring m = s.ring m := by simp [State.ring]
@[simp] theorem reply_lane (m : Nat) : (reply k n f r s).lane m = s.lane m := by simp [State.lane]
@[simp] theorem reply_port (m : Nat) : (reply k n f r s).port m = s.port m := by simp [State.port]
@[simp] theorem reply_chan (m : Nat) : (reply k n f r s).chan m = s.chan m := by simp [State.chan]
@[simp] theorem reply_row (m : Nat) : (reply k n f r s).row m = s.row m := by simp [State.row]
@[simp] theorem reply_trig (m : Nat) : (reply k n f r s).trig m = s.trig m := by simp [State.trig]
@[simp] theorem reply_engine (m : Nat) : (reply k n f r s).engine m = s.engine m := by simp [State.engine]
@[simp] theorem reply_head (m : Nat) : (reply k n f r s).head m = s.head m := by simp [State.head]
@[simp] theorem reply_camPort (m : Nat) : (reply k n f r s).camPort m = s.camPort m := by simp [State.camPort]
@[simp] theorem reply_sensor (m : Nat) : (reply k n f r s).sensor m = s.sensor m := by simp [State.sensor]
end

end Sys2Proof.Machine
end

