-- ==== Sys2Proof/Laws/Requests.lean ====
section
/-! SUPPORT. A request that is served runs its function on the state of service, and what that answers takes effect; its response is sent
or withheld. -/

namespace Sys2Proof.Machine

theorem frameIn_sess (p : Peer) (s : State) (n : Nat) : (frameIn p s).sess n = s.sess n := by
  unfold frameIn countPort; dsimp only; split <;> rfl

theorem find_congr {α : Type} {p q : α → Bool} : ∀ {l : List α}, (∀ a ∈ l, p a = q a) → l.find? p = l.find? q
  | [], _ => rfl
  | a :: r, h => by
    simp only [List.find?_cons, h a (by simp), find_congr (l := r) (fun b hb => h b (by simp [hb]))]

theorem openSlot_frameIn (p : Peer) (s : State) (id : BitVec 32) : openSlot (frameIn p s) id = openSlot s id := by
  unfold openSlot
  simp only [frameIn_sess]

/-- R43, R44, R54: a served request runs. -/
theorem request_served {dt : Nat} {r : Req} {op : Nat} {f : Nat → State → Answer} {s u : State} {recovery : Bool} {k : Nat}
    (h : Served dt r recovery k s u) : request dt r op f s recovery = settle k r.seq.toNat u.pair.txSeq (f k u) := by
  obtain ⟨h1, h2, h3, h4, h5⟩ := h
  have hk : openSlot (tick dt s) r.sess = some k := by
    unfold freshSlot at h2
    split at h2
    · cases h2
    · dsimp only at h2
      split at h2
      · cases h2
      · rename_i hk _; cases h2; exact hk
  have hf : ¬(r.seq.getLsbD 63 = true ∨ r.seq.toNat + 64 < ((tick dt s).sess k).highSeq ∨ ((tick dt s).sess k).seen.contains r.seq.toNat = true) := by
    unfold freshSlot at h2
    rw [hk] at h2
    dsimp only at h2
    split at h2
    · cases h2
    · rename_i hn; simpa only [Bool.or_eq_true, decide_eq_true_eq, or_assoc] using hn
  unfold request
  dsimp only
  rw [if_neg (by simp [h1]), openSlot_frameIn, hk]
  unfold sessionMessage
  dsimp only
  simp only [State.setSess_sess, frameIn_sess]
  rw [if_neg (fun c => hf (.inl c)), if_neg (fun c => hf (.inr (.inl c))), if_neg (fun c => hf (.inr (.inr c)))]
  unfold serveRequest
  dsimp only
  subst h3
  unfold servedState at h4 h5 ⊢
  dsimp only at h4 h5 ⊢
  simp only [frameIn_sess] at h4 h5 ⊢
  rw [if_neg (by simpa using h4), if_neg (by simpa using h5)]

theorem reply_answered (k : Nat) (r : Req) (first : Nat) (resp : Response) (s : State) :
    Answered k r resp (reply k r.seq.toNat first resp s) := by
  unfold reply
  split
  · exact .inr ⟨_, List.mem_append_right _ (List.mem_singleton.mpr rfl), rfl, rfl, rfl⟩
  · exact .inl ⟨_, _, List.mem_cons_self ..⟩

theorem TxKept.refl (s : State) : TxKept s s := fun _ h => h
theorem TxKept.trans {s t u : State} (g : TxKept t u) (h : TxKept s t) : TxKept s u := fun o m => g o (h o m)
theorem emit_tx (o : Output) (s : State) : TxKept s (emit o s) := fun _ h => List.mem_append_right _ h

end Sys2Proof.Machine
end

