-- ==== Sys2Proof/Laws/Handles.lean ====
section
/-! SUPPORT. Commands of the host: what a command that starts answers and leaves, and what a handle holds when it ends. -/

namespace Sys2Proof.Machine

/-- A guarded effect takes place where its guard holds. -/
theorem guardOk_next {c : Bool} {f : State → State} {s : State} (h : c = true) : guardOk c f s = .next (f s) := by
  unfold guardOk; rw [if_pos h]; rfl

/-- A guarded effect whose guard does not hold leaves the state. -/
theorem guardOk_not {c : Bool} {f : State → State} {s : State} (h : c = false) : guardOk c f s = .next s := by
  unfold guardOk; rw [if_neg (by simp [h])]; rfl

@[simp] theorem frameIn_proto (p : Peer) (s : State) : (frameIn p s).proto = s.proto := by unfold frameIn countPort; dsimp only; split <;> rfl
@[simp] theorem frameIn_time (p : Peer) (s : State) : (frameIn p s).time = s.time := by unfold frameIn countPort; dsimp only; split <;> rfl
@[simp] theorem frameIn_model (p : Peer) (s : State) : (frameIn p s).model = s.model := by unfold frameIn countPort; dsimp only; split <;> rfl
@[simp] theorem frameIn_slot (p : Peer) (s : State) (n : Nat) : (frameIn p s).sess n = s.sess n := frameIn_sess p s n

/-- A response changes a session only in its cache of responses. -/
theorem reply_sess (k n f : Nat) (r : Response) (s : State) (m : Nat) :
    ((reply k n f r s).sess m).staging = (s.sess m).staging ∧ ((reply k n f r s).sess m).queue = (s.sess m).queue ∧
    ((reply k n f r s).sess m).id = (s.sess m).id ∧ ((reply k n f r s).sess m).phase = (s.sess m).phase ∧
    ((reply k n f r s).sess m).role = (s.sess m).role := by
  unfold reply
  split
  · exact ⟨rfl, rfl, rfl, rfl, rfl⟩
  · unfold sendResponse
    by_cases h : m = k
    · subst h; simp [emit, State.sess, State.setSess]
    · simp [emit, State.sess, State.setSess, tget_tput_ne h]

theorem reply_proto (k n f : Nat) (r : Response) (s : State) :
    (reply k n f r s).proto.claims = s.proto.claims ∧ (reply k n f r s).proto.cfg = s.proto.cfg := by
  rw [(reply_quiet k n f r s).proto]; exact ⟨rfl, rfl⟩

@[simp] theorem reply_handles (k n f : Nat) (r : Response) (s : State) : (reply k n f r s).proto.handles = s.proto.handles := by
  unfold reply; split <;> rfl
@[simp] theorem reply_handle (k n f : Nat) (r : Response) (s : State) (h : Nat) : (reply k n f r s).handle h = s.handle h := by
  unfold State.handle; rw [reply_handles]
@[simp] theorem reply_handleWord (k n f : Nat) (r : Response) (s : State) (h : Nat) : handleWord (reply k n f r s) h = handleWord s h := by
  unfold handleWord; rw [reply_handle]

theorem foldl_emit_handles {α : Type} (g : α → Output) (l : List α) (s : State) :
    (l.foldl (fun s c => emit (g c) s) s).proto = s.proto := by
  induction l generalizing s with
  | nil => rfl
  | cons a r ih => exact ih (emit (g a) s)
@[simp] theorem pushQueue_handles (k : Nat) (s : State) : (pushQueue k s).proto.handles = s.proto.handles ∧
    (pushQueue k s).proto.withheld = s.proto.withheld := by
  unfold pushQueue
  dsimp only
  split
  · exact ⟨rfl, rfl⟩
  · split
    · exact ⟨rfl, rfl⟩
    · rw [foldl_emit_handles]; exact ⟨rfl, rfl⟩
@[simp] theorem deliver_handles (k : Nat) (r : EventRec) (s : State) : (deliver k r s).proto.handles = s.proto.handles ∧
    (deliver k r s).proto.withheld = s.proto.withheld := by
  unfold deliver
  dsimp only
  split
  · exact ⟨rfl, rfl⟩
  · split
    · rw [(pushQueue_handles _ _).1, (pushQueue_handles _ _).2]; exact ⟨rfl, rfl⟩
    · exact ⟨rfl, rfl⟩
theorem broadcast_handles (r : EventRec) (s : State) : (broadcast r s).proto.handles = s.proto.handles ∧
    (broadcast r s).proto.withheld = s.proto.withheld := by
  unfold broadcast
  generalize List.range 8 = l
  induction l generalizing s with
  | nil => exact ⟨rfl, rfl⟩
  | cons a l ih =>
    simp only [List.foldl_cons]
    refine ⟨(ih _).1.trans ?_, (ih _).2.trans ?_⟩ <;> split <;> simp
theorem ev_handles (code : Nat) (d : BitVec 96) (s : State) (unit : BitVec 32) (line : Option Int) (count : Nat) :
    (ev code d s unit line count).proto.handles = s.proto.handles ∧ (ev code d s unit line count).proto.withheld = s.proto.withheld := by
  unfold ev raise
  dsimp only
  split
  · exact broadcast_handles _ _
  · exact ⟨rfl, rfl⟩
@[simp] theorem ev_handle (code : Nat) (d : BitVec 96) (s : State) (unit : BitVec 32) (line : Option Int) (count h : Nat) :
    (ev code d s unit line count).handle h = s.handle h := by
  unfold State.handle; rw [(ev_handles code d s unit line count).1]
@[simp] theorem ev_withheld (code : Nat) (d : BitVec 96) (s : State) (unit : BitVec 32) (line : Option Int) (count : Nat) :
    (ev code d s unit line count).proto.withheld = s.proto.withheld := (ev_handles code d s unit line count).2

/-- R67: a running handle ends with its result and its detail. -/
theorem completeHandle_completed (h code : Nat) (d : BitVec 96) (s : State) (hr : (s.handle h).phase = .running) :
    Completed h code d (completeHandle h code d s) := by
  have hn : (completeHandle h code d s).time = s.time := (completeHandle_quiet h code d s).time
  have key : ∃ q, (completeHandle h code d s).handle h =
      { s.handle h with phase := .done, op := .none, result := code, detail := d, doneAt := s.time.now, rseq := q } := by
    unfold completeHandle
    dsimp only
    rw [if_neg (by simp [hr])]
    split
    · exact ⟨0, by simp [State.handle, State.setHandle]⟩
    · split
      · exact ⟨0, by simp [State.handle, State.setHandle]⟩
      · split
        · exact ⟨0, by simp [State.handle, State.setHandle]⟩
        · refine ⟨?_, ?_⟩
          rotate_left
          · simp only [State.handle, deliver_handles, State.setHandle, tget_tput_self]; rfl
  obtain ⟨q, e⟩ := key
  constructor
  · rw [e]
  · rw [e]
  · rw [e]
  · rw [e, hn]

@[simp] theorem completeHandle_withheld (h code : Nat) (d : BitVec 96) (s : State) :
    (completeHandle h code d s).proto.withheld = s.proto.withheld := by
  unfold completeHandle
  dsimp only
  split
  · rfl
  · split
    · rfl
    · split
      · rfl
      · split <;> simp [State.setHandle]

theorem Answered.mono {k : Nat} {r : Req} {resp : Response} {s t : State} (h : Answered k r resp s) (h1 : TxKept s t)
    (h2 : t.proto.withheld = s.proto.withheld) : Answered k r resp t := by
  rcases h with ⟨p, x, h⟩ | ⟨w, hw, e⟩
  · exact .inl ⟨p, x, h1 _ h⟩
  · exact .inr ⟨w, h2 ▸ hw, e⟩

/-- What a handle that starts holds. -/
theorem startHandle_handle (k idx : Nat) (op : Op) (h : Nat) (s : State) : ∃ use, (startHandle k idx op h s).handle h =
    { use := use, used := true, phase := .running, owner := (s.sess k).id, role := (s.sess k).role, cmd := idx, op := op
      startedAt := s.time.now, order := s.proto.starts } := by
  unfold startHandle
  dsimp only
  refine ⟨?_, ?_⟩
  rotate_left
  · split <;> simp only [State.handle, State.setHandle, State.setSess, tget_tput_self] <;> rfl
theorem startHandle_quiet (k idx : Nat) (op : Op) (h : Nat) (s : State) : Quiet s (startHandle k idx op h s) := by
  unfold startHandle
  dsimp only
  split <;> constructor <;> rfl
theorem startHandle_withheld (k idx : Nat) (op : Op) (h : Nat) (s : State) : (startHandle k idx op h s).proto.withheld = s.proto.withheld := by
  unfold startHandle
  dsimp only
  split <;> rfl
theorem startHandle_running (k idx : Nat) (op : Op) (h : Nat) (s : State) : Running k h idx op s (startHandle k idx op h s) := by
  obtain ⟨u, e⟩ := startHandle_handle k idx op h s
  constructor <;> rw [e]
theorem Running.same {k h idx : Nat} {op : Op} {u s t : State} (g : Running k h idx op u s) (e : t.handle h = s.handle h) :
    Running k h idx op u t := by
  obtain ⟨a, b, c, d⟩ := g
  constructor <;> rw [e] <;> assumption

/-- R66, R67: a command that is served, may start and finds nothing against it starts, is answered 0001h with its handle, and takes effect. -/
theorem command_next {dt : Nat} {r : Req} {c : Command} {recovery : Bool} {k h : Nat} {s u : State} (hs : Served dt r recovery k s u)
    (hc : Starts k c.idx c.role c.op h u) (hb : c.bad u = 0) :
    command dt r c s recovery = .next (c.after h (reply k r.seq.toNat u.pair.txSeq
      ⟨0x07, 0x0001, .handle (handleWord (c.begin h (startHandle k c.idx c.op h u)) h)⟩ (c.begin h (startHandle k c.idx c.op h u)))) := by
  obtain ⟨h1, h2, h0, h3, h4⟩ := hc
  have e : runCommand c k u = { resp := some ⟨0x07, 0x0001, .handle (handleWord (c.begin h (startHandle k c.idx c.op h u)) h)⟩
                                state := c.begin h (startHandle k c.idx c.op h u), after := c.after h } := by
    unfold runCommand
    dsimp only
    rw [if_neg (Nat.not_lt.mpr h1), if_neg (by rcases h2 with h2 | h2 <;> simp [h2]), if_neg (by simp [hb]), if_neg (by rcases h0 with h0 | h0 <;> simp [h0]), h3]
    dsimp only
    rw [if_neg (by rcases h4 with h4 | h4 <;> simp [h4])]
  unfold command
  rw [request_served hs]
  simp only [settle, e]
  rfl

end Sys2Proof.Machine
end

