-- ==== Sys2Proof/Laws/Keeps.lean ====
section
/-! SUPPORT. What every effect leaves as it was: the queue of waiting commands, the clock, and the invariant of
`Sys2Proof.Safety`; the lemmas that compose this over updates, folds, answers and outcomes. -/

namespace Sys2Proof.Machine
/-- What every effect leaves: the queue of waiting commands and the clock as they were, what has gone out, and the invariant if it held. -/
structure Keeps (s t : State) : Prop where
  pending : t.pending = s.pending
  now : t.time.now = s.time.now
  inv : Inv s → Inv t
  tx : TxKept s t

/-- The same of an outcome that is a next state. -/
def KeepsO (s : State) (o : Host.Outcome State Fault Refusal) : Prop := ∀ t, o = .next t → Keeps s t
def KeepsQ (s : State) (o : Option State) : Prop := ∀ t, o = some t → Keeps s t
structure AKeeps (s : State) (a : Answer) : Prop where
  state : Keeps s a.state
  after : ∀ u, Keeps s u → Keeps s (a.after u)
structure CKeeps (s : State) (c : Command) : Prop where
  begin : ∀ k u, Keeps s u → Keeps s (c.begin k u)
  after : ∀ k u, Keeps s u → Keeps s (c.after k u)

theorem Keeps.refl (s : State) : Keeps s s := ⟨rfl, rfl, id, fun _ h => h⟩
theorem Keeps.trans {s t u : State} (h : Keeps t u) (g : Keeps s t) : Keeps s u :=
  ⟨h.1.trans g.1, h.2.trans g.2, fun m => h.3 (g.3 m), fun o m => h.4 o (g.4 o m)⟩
/-- The fields that the invariant speaks of. -/
abbrev State.watch (s : State) := (s.store.mem, s.integ.log, s.axis.indexLog, s.insp.log, s.power.wakeLog, s.power.wakePerm, s.start.faultLog,
  s.power.state, s.store.state, s.start.step, s.pair.state)
theorem Inv.same {t u : State} (hw : u.watch = t.watch) (i : Inv t) : Inv u := by
  simp only [State.watch, Prod.mk.injEq] at hw
  obtain ⟨h1, h2, h3, h4, h5, h6, h7, h8, h9, h10, h11⟩ := hw
  exact ⟨h1 ▸ i.1, h2 ▸ i.2, h3 ▸ i.3, h4 ▸ i.4, h5 ▸ i.5, h6 ▸ i.6, h7 ▸ i.7, h8 ▸ i.8, h9 ▸ i.9, h10 ▸ i.10, h11 ▸ i.11⟩
theorem Keeps.same {s t u : State} (g : Keeps s t) (hp : u.pending = t.pending) (hw : u.watch = t.watch) (hn : u.time.now = t.time.now)
    (ht : u.model.tx = t.model.tx) : Keeps s u :=
  ⟨hp.trans g.1, hn.trans g.2, fun m => Inv.same hw (g.3 m), fun o m => ht ▸ g.4 o m⟩
theorem Keeps.upd {s t : State} {a0 : Proto} {a1 : Axis} {a2 : Gait} {a3 : (Tab NetPort)} {a4 : (Tab Ring)} {a5 : Store} {a6 : Integ} {a7 : Screen} {a8 : Nozzle} {a9 : Fire} {a10 : (Tab Lane)} {a11 : Rein} {a12 : Insp} {a13 : Loop} {a14 : Timing} {a15 : Tandem} {a16 : Power} {a17 : Start} {a18 : FaultSt} {a19 : Model}
    (hw : (a5.mem, a6.log, a1.indexLog, a12.log, a16.wakeLog, a16.wakePerm, a17.faultLog, a16.state, a5.state, a17.step, a15.state) =
      (t.store.mem, t.integ.log, t.axis.indexLog, t.insp.log, t.power.wakeLog, t.power.wakePerm, t.start.faultLog, t.power.state, t.store.state, t.start.step, t.pair.state))
    (hn : a14.now = t.time.now) (ht : a19.tx = t.model.tx) (g : Keeps s t) : Keeps s (State.mk a0 a1 a2 a3 a4 a5 a6 a7 a8 a9 a10 a11 a12 a13 a14 a15 a16 a17 a18 a19 t.pending) := g.same rfl hw hn ht
theorem Keeps.updi {s t : State} {a0 : Proto} {a1 : Axis} {a2 : Gait} {a3 : (Tab NetPort)} {a4 : (Tab Ring)} {a5 : Store} {a6 : Integ} {a7 : Screen} {a8 : Nozzle} {a9 : Fire} {a10 : (Tab Lane)} {a11 : Rein} {a12 : Insp} {a13 : Loop} {a14 : Timing} {a15 : Tandem} {a16 : Power} {a17 : Start} {a18 : FaultSt} {a19 : Model}
    (hn : a14.now = t.time.now) (ht : a19.tx = t.model.tx) (hi : Inv t → Inv (State.mk a0 a1 a2 a3 a4 a5 a6 a7 a8 a9 a10 a11 a12 a13 a14 a15 a16 a17 a18 a19 t.pending)) (g : Keeps s t) : Keeps s (State.mk a0 a1 a2 a3 a4 a5 a6 a7 a8 a9 a10 a11 a12 a13 a14 a15 a16 a17 a18 a19 t.pending) :=
  ⟨g.1, hn.trans g.2, fun m => hi (g.3 m), fun o m => ht ▸ g.4 o m⟩
theorem Keeps.out {s t : State} (g : Keeps s t) : KeepsO s (.next t) := fun _ h => by cases h; exact g
theorem KeepsQ.none {s : State} : KeepsQ s .none := fun _ h => by cases h
theorem KeepsQ.some {s t : State} (g : Keeps s t) : KeepsQ s (.some t) := fun _ h => by cases h; exact g
theorem AKeeps.mk' {s t : State} {r : Option Response} {f : State → State} (g : Keeps s t) (k : ∀ u, Keeps s u → Keeps s (f u)) : AKeeps s ⟨r, t, f⟩ := ⟨g, k⟩
theorem AKeeps.plain {s t : State} {r : Option Response} (g : Keeps s t) : AKeeps s ⟨r, t, id⟩ := ⟨g, fun _ h => h⟩
theorem CKeeps.mk' {s : State} {i r : Nat} {o : Op} {c : State → Nat} {f g : Nat → State → State} (kf : ∀ k u, Keeps s u → Keeps s (f k u))
    (kg : ∀ k u, Keeps s u → Keeps s (g k u)) : CKeeps s ⟨i, r, o, c, f, g⟩ := ⟨kf, kg⟩
theorem Keeps.foldl {α : Type} (f : State → α → State) (h : ∀ s a, Keeps s (f s a)) : ∀ (l : List α) (s : State), Keeps s (l.foldl f s)
  | [], s => Keeps.refl s
  | a :: r, s => (Keeps.foldl f h r (f s a)).trans (h s a)
theorem foldl_keeps {α : Type} {f : State → α → State} {l : List α} {s t : State} (h : ∀ s a, Keeps s (f s a)) (g : Keeps s t) :
    Keeps s (l.foldl f t) := (Keeps.foldl f h l t).trans g
theorem foldl2_keeps {α β : Type} {f : β × State → α → β × State} {l : List α} {s : State} {p : β × State} (h : ∀ p a, Keeps p.2 (f p a).2) (g : Keeps s p.2) :
    Keeps s (l.foldl f p).2 := by
  induction l generalizing p with
  | nil => exact g
  | cons a r ih => exact ih ((h p a).trans g)
theorem forAll_keeps {α : Type} {l : List α} {f : α → State → State} {s t : State} (h : ∀ a s, Keeps s (f a s)) (g : Keeps s t) :
    Keeps s (forAll l f t) := foldl_keeps (fun s a => h a s) g
theorem id_keeps {s t : State} (h : Keeps s t) : Keeps s (id t) := h
theorem elim_keeps {α : Type} {s t : State} {o : Option α} {f : α → State → State} (h : Keeps s t) (k : ∀ a, Keeps s (f a t)) :
    Keeps s (o.elim id f t) := by cases o <;> [exact h; exact k _]
theorem Keeps.snd {α : Type} {s t : State} {a : α} {p : α × State} (e : p = (a, t)) (h : Keeps s p.2) : Keeps s t := by subst e; exact h
theorem Keeps.snd2 {α β : Type} {s t : State} {a : α} {b : β} {p : α × β × State} (e : p = (a, b, t)) (h : Keeps s p.2.2) : Keeps s t := by subst e; exact h
theorem Keeps.cutOn {s t : State} (x : State) (h : Keeps s x) (k : Keeps s x → Keeps s t) : Keeps s t := k h
theorem ok_keeps {s t : State} (h : Keeps s t) : KeepsO s (ok t) := h.out
theorem guardOk_keeps {s t : State} {c : Bool} {f : State → State} (h : Keeps s (f t)) (g : Keeps s t) : KeepsO s (guardOk c f t) := by
  unfold guardOk; split <;> apply ok_keeps <;> assumption

end Sys2Proof.Machine
end

