-- ==== Sys2Proof/Laws/KeepsOps.lean ====
section
/-! SUPPORT. `Keeps` of the operations of accessors, events, outputs, gait, blocks, nozzle table, page store, streams and screening (Sys2Proof/Machine/Tab, Operands, Position, Events, Ops, Gait, Blocks, NozTab, StoreOps, Streams, Screening):
one lemma per function that changes the state. -/

namespace Sys2Proof.Machine

theorem State.setRing_keeps {s} (x0 x1 x2) (h : Keeps s x0) : Keeps s (State.setRing x0 x1 x2) := by
  unfold State.setRing; try dsimp only
  repeat' first
    | (with_reducible first
      | assumption | exact Keeps.refl _)
    | fail_if_no_progress with_reducible refine Keeps.upd rfl rfl rfl ?_
    | split

theorem State.setLane_keeps {s} (x0 x1 x2) (h : Keeps s x0) : Keeps s (State.setLane x0 x1 x2) := by
  unfold State.setLane; try dsimp only
  repeat' first
    | (with_reducible first
      | assumption | exact Keeps.refl _)
    | fail_if_no_progress with_reducible refine Keeps.upd rfl rfl rfl ?_
    | split

theorem State.setPort_keeps {s} (x0 x1 x2) (h : Keeps s x0) : Keeps s (State.setPort x0 x1 x2) := by
  unfold State.setPort; try dsimp only
  repeat' first
    | (with_reducible first
      | assumption | exact Keeps.refl _)
    | fail_if_no_progress with_reducible refine Keeps.upd rfl rfl rfl ?_
    | split

theorem State.setSess_keeps {s} (x0 x1 x2) (h : Keeps s x0) : Keeps s (State.setSess x0 x1 x2) := by
  unfold State.setSess; try dsimp only
  repeat' first
    | (with_reducible first
      | assumption | exact Keeps.refl _)
    | fail_if_no_progress with_reducible refine Keeps.upd rfl rfl rfl ?_
    | split

theorem State.setHandle_keeps {s} (x0 x1 x2) (h : Keeps s x0) : Keeps s (State.setHandle x0 x1 x2) := by
  unfold State.setHandle; try dsimp only
  repeat' first
    | (with_reducible first
      | assumption | exact Keeps.refl _)
    | fail_if_no_progress with_reducible refine Keeps.upd rfl rfl rfl ?_
    | split

theorem State.setChan_keeps {s} (x0 x1 x2) (h : Keeps s x0) : Keeps s (State.setChan x0 x1 x2) := by
  unfold State.setChan; try dsimp only
  repeat' first
    | (with_reducible first
      | assumption | exact Keeps.refl _)
    | fail_if_no_progress with_reducible refine Keeps.upd rfl rfl rfl ?_
    | split

theorem State.setRow_keeps {s} (x0 x1 x2) (h : Keeps s x0) : Keeps s (State.setRow x0 x1 x2) := by
  unfold State.setRow; try dsimp only
  repeat' first
    | (with_reducible first
      | assumption | exact Keeps.refl _)
    | fail_if_no_progress with_reducible refine Keeps.upd rfl rfl rfl ?_
    | split

theorem State.setTrig_keeps {s} (x0 x1 x2) (h : Keeps s x0) : Keeps s (State.setTrig x0 x1 x2) := by
  unfold State.setTrig; try dsimp only
  repeat' first
    | (with_reducible first
      | assumption | exact Keeps.refl _)
    | fail_if_no_progress with_reducible refine Keeps.upd rfl rfl rfl ?_
    | split

theorem State.setEngine_keeps {s} (x0 x1 x2) (h : Keeps s x0) : Keeps s (State.setEngine x0 x1 x2) := by
  unfold State.setEngine; try dsimp only
  repeat' first
    | (with_reducible first
      | assumption | exact Keeps.refl _)
    | fail_if_no_progress with_reducible refine Keeps.upd rfl rfl rfl ?_
    | split

theorem State.setHead_keeps {s} (x0 x1 x2) (h : Keeps s x0) : Keeps s (State.setHead x0 x1 x2) := by
  unfold State.setHead; try dsimp only
  repeat' first
    | (with_reducible first
      | assumption | exact Keeps.refl _)
    | fail_if_no_progress with_reducible refine Keeps.upd rfl rfl rfl ?_
    | split

theorem State.setCamPort_keeps {s} (x0 x1 x2) (h : Keeps s x0) : Keeps s (State.setCamPort x0 x1 x2) := by
  unfold State.setCamPort; try dsimp only
  repeat' first
    | (with_reducible first
      | assumption | exact Keeps.refl _)
    | fail_if_no_progress with_reducible refine Keeps.upd rfl rfl rfl ?_
    | split

theorem State.setSensor_keeps {s} (x0 x1 x2) (h : Keeps s x0) : Keeps s (State.setSensor x0 x1 x2) := by
  unfold State.setSensor; try dsimp only
  repeat' first
    | (with_reducible first
      | assumption | exact Keeps.refl _)
    | fail_if_no_progress with_reducible refine Keeps.upd rfl rfl rfl ?_
    | split

theorem State.setPtpPort_keeps {s} (x0 x1 x2) (h : Keeps s x0) : Keeps s (State.setPtpPort x0 x1 x2) := by
  unfold State.setPtpPort; try dsimp only
  repeat' first
    | (with_reducible first
      | assumption | exact Keeps.refl _)
    | fail_if_no_progress with_reducible refine Keeps.upd rfl rfl rfl ?_
    | split

theorem State.setEvt_keeps {s} (x0 x1 x2) (h : Keeps s x0) : Keeps s (State.setEvt x0 x1 x2) := by
  unfold State.setEvt; try dsimp only
  repeat' first
    | (with_reducible first
      | assumption | exact Keeps.refl _)
    | fail_if_no_progress with_reducible refine Keeps.upd rfl rfl rfl ?_
    | split

theorem State.setRail_keeps {s} (x0 x1 x2) (h : Keeps s x0) : Keeps s (State.setRail x0 x1 x2) := by
  unfold State.setRail; try dsimp only
  repeat' first
    | (with_reducible first
      | assumption | exact Keeps.refl _)
    | fail_if_no_progress with_reducible refine Keeps.upd rfl rfl rfl ?_
    | split

theorem setCfg_keeps {s} (x0 x1 x2 x3 x4) (h : Keeps s x0) : Keeps s (setCfg x0 x1 x2 x3 x4) := by
  unfold setCfg; try dsimp only
  repeat' first
    | (with_reducible first
      | assumption | exact Keeps.refl _)
    | fail_if_no_progress with_reducible refine Keeps.upd rfl rfl rfl ?_
    | split

theorem emit_keeps {s} (x0 x1) (h : Keeps s x1) : Keeps s (emit x0 x1) :=
  ⟨h.1, h.2, fun i => Inv.same (t := x1) rfl (h.3 i), fun o m => List.mem_append_right _ (h.4 o m)⟩

theorem pushQueue_keeps {s} (x0 x1) (h : Keeps s x1) : Keeps s (pushQueue x0 x1) := by
  unfold pushQueue; try dsimp only
  repeat' first
    | (with_reducible first
      | assumption | apply State.setSess_keeps | refine foldl_keeps (fun _ _ => ?_) ?_ | apply emit_keeps | exact Keeps.refl _)
    | fail_if_no_progress with_reducible refine Keeps.upd rfl rfl rfl ?_
    | split

theorem deliver_keeps {s} (x0 x1 x2) (h : Keeps s x2) : Keeps s (deliver x0 x1 x2) := by
  unfold deliver; try dsimp only
  repeat' first
    | (with_reducible first
      | assumption | apply State.setSess_keeps | apply pushQueue_keeps | exact Keeps.refl _)
    | fail_if_no_progress with_reducible refine Keeps.upd rfl rfl rfl ?_
    | split

theorem broadcast_keeps {s} (x0 x1) (h : Keeps s x1) : Keeps s (broadcast x0 x1) := by
  unfold broadcast; try dsimp only
  repeat' first
    | (with_reducible first
      | assumption | refine foldl_keeps (fun _ _ => ?_) ?_ | apply deliver_keeps | exact Keeps.refl _)
    | fail_if_no_progress with_reducible refine Keeps.upd rfl rfl rfl ?_
    | split

theorem raise_keeps {s} (x0 x1 x2 x3 x4 x5 x6) (h : Keeps s x3) : Keeps s (raise x0 x1 x2 x3 x4 x5 x6) := by
  unfold raise; try dsimp only
  repeat' first
    | (with_reducible first
      | assumption | apply broadcast_keeps | exact Keeps.refl _)
    | fail_if_no_progress with_reducible refine Keeps.upd rfl rfl rfl ?_
    | split

theorem ev_keeps {s} (x0 x1 x2 x3 x4 x5) (h : Keeps s x2) : Keeps s (ev x0 x1 x2 x3 x4 x5) := by
  unfold ev; try dsimp only
  repeat' first
    | (with_reducible first
      | assumption | apply raise_keeps | exact Keeps.refl _)
    | fail_if_no_progress with_reducible refine Keeps.upd rfl rfl rfl ?_
    | split

theorem lifeEvent_keeps {s} (x0 x1) (h : Keeps s x1) : Keeps s (lifeEvent x0 x1) := by
  unfold lifeEvent; try dsimp only
  repeat' first
    | (with_reducible first
      | assumption | exact Keeps.refl _)
    | fail_if_no_progress with_reducible refine Keeps.upd rfl rfl rfl ?_
    | split

theorem drawFree_keeps {s} (x0) (h : Keeps s x0) : Keeps s (drawFree x0).2 := by
  unfold drawFree; try dsimp only
  repeat' first
    | (with_reducible first
      | assumption | exact Keeps.refl _)
    | fail_if_no_progress with_reducible refine Keeps.upd rfl rfl rfl ?_
    | split

theorem completeHandle_keeps {s} (x0 x1 x2 x3) (h : Keeps s x3) : Keeps s (completeHandle x0 x1 x2 x3) := by
  unfold completeHandle; try dsimp only
  repeat' first
    | (with_reducible first
      | assumption | apply State.setHandle_keeps | apply deliver_keeps | exact Keeps.refl _)
    | fail_if_no_progress with_reducible refine Keeps.upd rfl rfl rfl ?_
    | split

theorem completeWord_keeps {s} (x0 x1 x2 x3) (h : Keeps s x3) : Keeps s (completeWord x0 x1 x2 x3) := by
  unfold completeWord; try dsimp only
  repeat' first
    | (with_reducible first
      | assumption | apply completeHandle_keeps | exact Keeps.refl _)
    | fail_if_no_progress with_reducible refine Keeps.upd rfl rfl rfl ?_
    | split

theorem sendResponse_keeps {s} (x0 x1 x2 x3) (h : Keeps s x3) : Keeps s (sendResponse x0 x1 x2 x3) := by
  unfold sendResponse; try dsimp only
  repeat' first
    | (with_reducible first
      | assumption | apply emit_keeps | apply State.setSess_keeps | exact Keeps.refl _)
    | fail_if_no_progress with_reducible refine Keeps.upd rfl rfl rfl ?_
    | split

theorem settleWithheld_keeps {s} (x0 x1 x2) (h : Keeps s x2) : Keeps s (settleWithheld x0 x1 x2) := by
  unfold settleWithheld; try dsimp only
  repeat' first
    | (with_reducible first
      | assumption | refine forAll_keeps (fun _ _ => ?_) ?_ | apply sendResponse_keeps | refine fun _ => ?_ | exact Keeps.refl _)
    | fail_if_no_progress with_reducible refine Keeps.upd rfl rfl rfl ?_
    | split
    | fail_if_no_progress with_reducible dsimp only

theorem sendRecord_keeps {s} (x0 x1) (h : Keeps s x1) : Keeps s (sendRecord x0 x1) := by
  unfold sendRecord; try dsimp only
  repeat' first
    | (with_reducible first
      | assumption | apply emit_keeps | exact Keeps.refl _)
    | fail_if_no_progress with_reducible refine Keeps.upd rfl rfl rfl ?_
    | split

theorem mirror_keeps {s} (x0 x1) (h : Keeps s x1) : Keeps s (mirror x0 x1) := by
  unfold mirror; try dsimp only
  repeat' first
    | (with_reducible first
      | assumption | apply sendRecord_keeps | exact Keeps.refl _)
    | fail_if_no_progress with_reducible refine Keeps.upd rfl rfl rfl ?_
    | split

theorem mirrorAxis_keeps {s} (x0 x1 x2) (h : Keeps s x0) : Keeps s (mirrorAxis x0 x1 x2) := by
  unfold mirrorAxis; try dsimp only
  repeat' first
    | (with_reducible first
      | assumption | apply mirror_keeps | exact Keeps.refl _)
    | fail_if_no_progress with_reducible refine Keeps.upd rfl rfl rfl ?_
    | split

theorem setPairState_keeps {s} (x0 x1 x2) (h : Keeps s x2) (hx : x0 ≤ 6) : Keeps s (setPairState x0 x1 x2) := by
  unfold setPairState; try dsimp only
  repeat' first
    | (with_reducible first
      | assumption | apply ev_keeps | exact Keeps.refl _)
    | fail_if_no_progress with_reducible refine Keeps.upd rfl rfl rfl ?_
    | fail_if_no_progress with_reducible refine Keeps.updi rfl rfl (fun i => by
        cases i; constructor <;> first | assumption | (simp_all [Memory.wf, twf]; done) | (simp_all; omega)) ?_
    | split

theorem setJob_keeps {s} (x0 x1) (h : Keeps s x1) : Keeps s (setJob x0 x1) := by
  unfold setJob; try dsimp only
  repeat' first
    | (with_reducible first
      | assumption | apply ev_keeps | exact Keeps.refl _)
    | fail_if_no_progress with_reducible refine Keeps.upd rfl rfl rfl ?_
    | split

theorem haltJob_keeps {s} (x0) (h : Keeps s x0) : Keeps s (haltJob x0) := by
  unfold haltJob; try dsimp only
  repeat' first
    | (with_reducible first
      | assumption | apply setJob_keeps | exact Keeps.refl _)
    | fail_if_no_progress with_reducible refine Keeps.upd rfl rfl rfl ?_
    | split

theorem mirrorLogs_keeps {s} (x0) (h : Keeps s x0) : Keeps s (mirrorLogs x0) := by
  unfold mirrorLogs; try dsimp only
  repeat' first
    | (with_reducible first
      | assumption | apply mirror_keeps | exact Keeps.refl _)
    | fail_if_no_progress with_reducible refine Keeps.upd rfl rfl rfl ?_
    | split

theorem addDefect_keeps {s} (x0 x1) (h : Keeps s x1) : Keeps s (addDefect x0 x1) := by
  unfold addDefect; try dsimp only
  repeat' first
    | (with_reducible first
      | assumption | apply mirrorLogs_keeps | exact Keeps.refl _)
    | fail_if_no_progress with_reducible refine Keeps.upd rfl rfl rfl ?_
    | split

theorem markPage_keeps {s} (x0 x1) (h : Keeps s x1) : Keeps s (markPage x0 x1) := by
  unfold markPage; try dsimp only
  repeat' first
    | (with_reducible first
      | assumption | exact Keeps.refl _)
    | fail_if_no_progress with_reducible refine Keeps.upd rfl rfl rfl ?_
    | split

theorem logLateLine_keeps {s} (x0 x1 x2 x3 x4) (h : Keeps s x4) : Keeps s (logLateLine x0 x1 x2 x3 x4) := by
  unfold logLateLine; try dsimp only
  repeat' first
    | (with_reducible first
      | assumption | apply markPage_keeps | apply addDefect_keeps | exact Keeps.refl _)
    | fail_if_no_progress with_reducible refine Keeps.upd rfl rfl rfl ?_
    | split

theorem fireStopped_keeps {s} (x0 x1) (h : Keeps s x1) : Keeps s (fireStopped x0 x1) := by
  unfold fireStopped; try dsimp only
  repeat' first
    | (with_reducible first
      | assumption | refine forAll_keeps (fun _ _ => ?_) ?_ | apply ev_keeps | apply addDefect_keeps | refine fun _ => ?_
      | exact Keeps.refl _)
    | fail_if_no_progress with_reducible refine Keeps.upd rfl rfl rfl ?_
    | split
    | fail_if_no_progress with_reducible dsimp only

theorem sendLimit_keeps {s} (x0) (h : Keeps s x0) : Keeps s (sendLimit x0) := by
  unfold sendLimit; try dsimp only
  repeat' first
    | (with_reducible first
      | assumption | apply ev_keeps | exact Keeps.refl _)
    | fail_if_no_progress with_reducible refine Keeps.upd rfl rfl rfl ?_
    | split

theorem updateLimit_keeps {s} (x0) (h : Keeps s x0) : Keeps s (updateLimit x0) := by
  unfold updateLimit; try dsimp only
  repeat' first
    | (with_reducible first
      | assumption | apply sendLimit_keeps | exact Keeps.refl _)
    | fail_if_no_progress with_reducible refine Keeps.upd rfl rfl rfl ?_
    | split

theorem judgeSpeed_keeps {s} (x0) (h : Keeps s x0) : Keeps s (judgeSpeed x0) := by
  unfold judgeSpeed; try dsimp only
  repeat' first
    | (with_reducible first
      | assumption | exact Keeps.refl _)
    | fail_if_no_progress with_reducible refine Keeps.upd rfl rfl rfl ?_
    | split

theorem limitChanged_keeps {s} (x0) (h : Keeps s x0) : Keeps s (limitChanged x0) := by
  unfold limitChanged; try dsimp only
  repeat' first
    | (with_reducible first
      | assumption | apply judgeSpeed_keeps | apply updateLimit_keeps | exact Keeps.refl _)
    | fail_if_no_progress with_reducible refine Keeps.upd rfl rfl rfl ?_
    | split

theorem updateSplice_keeps {s} (x0 x1) (h : Keeps s x1) : Keeps s (updateSplice x0 x1) := by
  unfold updateSplice; try dsimp only
  repeat' first
    | (with_reducible first
      | assumption | exact Keeps.refl _)
    | fail_if_no_progress with_reducible refine Keeps.upd rfl rfl rfl ?_
    | split

theorem settleEntries_keeps {s} (x0 x1 x2 x3) (h : Keeps s x3) : Keeps s (settleEntries x0 x1 x2 x3) := by
  unfold settleEntries; try dsimp only
  repeat' first
    | (with_reducible first
      | assumption | exact Keeps.refl _)
    | fail_if_no_progress with_reducible refine Keeps.upd rfl rfl rfl ?_
    | split

theorem skipRow_keeps {s} (x0 x1 x2) (h : Keeps s x2) : Keeps s (skipRow x0 x1 x2) := by
  unfold skipRow; try dsimp only
  repeat' first
    | (with_reducible first
      | assumption | apply State.setRow_keeps | apply settleEntries_keeps | refine forAll_keeps (fun _ _ => ?_) ?_ | apply logLateLine_keeps
      | refine fun _ => ?_ | exact Keeps.refl _)
    | fail_if_no_progress with_reducible refine Keeps.upd rfl rfl rfl ?_
    | split
    | fail_if_no_progress with_reducible dsimp only

theorem reinAbort_keeps {s} (x0 x1) (h : Keeps s x1) : Keeps s (reinAbort x0 x1) := by
  unfold reinAbort; try dsimp only
  repeat' first
    | (with_reducible first
      | assumption | refine forAll_keeps (fun _ _ => ?_) ?_ | apply State.setRow_keeps | apply updateSplice_keeps | refine fun _ => ?_
      | exact Keeps.refl _)
    | fail_if_no_progress with_reducible refine Keeps.upd rfl rfl rfl ?_
    | split
    | fail_if_no_progress with_reducible dsimp only

theorem mirrorRein_keeps {s} (x0) (h : Keeps s x0) : Keeps s (mirrorRein x0) := by
  unfold mirrorRein; try dsimp only
  repeat' first
    | (with_reducible first
      | assumption | apply mirror_keeps | exact Keeps.refl _)
    | fail_if_no_progress with_reducible refine Keeps.upd rfl rfl rfl ?_
    | split

theorem reinAbandon_keeps {s} (x0 x1) (h : Keeps s x1) : Keeps s (reinAbandon x0 x1) := by
  unfold reinAbandon; try dsimp only
  repeat' first
    | (with_reducible first
      | assumption | refine forAll_keeps (fun _ _ => ?_) ?_ | apply skipRow_keeps | apply updateSplice_keeps | apply ev_keeps
      | apply mirrorLogs_keeps | apply mirrorRein_keeps | refine fun _ => ?_ | exact Keeps.refl _)
    | fail_if_no_progress with_reducible refine Keeps.upd rfl rfl rfl ?_
    | split
    | fail_if_no_progress with_reducible dsimp only

theorem releaseLanes_keeps {s} (x0) (h : Keeps s x0) : Keeps s (releaseLanes x0) := by
  unfold releaseLanes; try dsimp only
  repeat' first
    | (with_reducible first
      | assumption | refine forAll_keeps (fun _ _ => ?_) ?_ | apply emit_keeps | refine fun _ => ?_ | exact Keeps.refl _)
    | fail_if_no_progress with_reducible refine Keeps.upd rfl rfl rfl ?_
    | split
    | fail_if_no_progress with_reducible dsimp only

theorem dropHostState_keeps {s} (x0) (h : Keeps s x0) : Keeps s (dropHostState x0) := by
  unfold dropHostState; try dsimp only
  repeat' first
    | (with_reducible first
      | assumption | apply settleWithheld_keeps | refine forAll_keeps (fun _ _ => ?_) ?_ | apply completeHandle_keeps
      | apply State.setSess_keeps | refine fun _ => ?_ | exact Keeps.refl _)
    | fail_if_no_progress with_reducible refine Keeps.upd rfl rfl rfl ?_
    | split
    | fail_if_no_progress with_reducible dsimp only

theorem leadRelease_keeps {s} (x0 x1 x2) (h : Keeps s x2) : Keeps s (leadRelease x0 x1 x2) := by
  unfold leadRelease; try dsimp only
  repeat' first
    | (with_reducible first
      | assumption | apply sendRecord_keeps | apply releaseLanes_keeps | apply dropHostState_keeps | apply setPairState_keeps
      | exact Keeps.refl _)
    | fail_if_no_progress with_reducible refine Keeps.upd rfl rfl rfl ?_
    | decide
    | split

theorem holdWheeler_keeps {s} (x0 x1) (h : Keeps s x1) : Keeps s (holdWheeler x0 x1) := by
  unfold holdWheeler; try dsimp only
  repeat' first
    | (with_reducible first
      | assumption | refine forAll_keeps (fun _ _ => ?_) ?_ | apply emit_keeps | apply setPairState_keeps | refine fun _ => ?_
      | exact Keeps.refl _)
    | fail_if_no_progress with_reducible refine Keeps.upd rfl rfl rfl ?_
    | decide
    | split
    | fail_if_no_progress with_reducible dsimp only

theorem syncClass_keeps {s} (x0 x1 x2) (h : Keeps s x2) : Keeps s (syncClass x0 x1 x2) := by
  unfold syncClass; try dsimp only
  repeat' first
    | (with_reducible first
      | assumption | apply raise_keeps | exact Keeps.refl _)
    | fail_if_no_progress with_reducible refine Keeps.upd rfl rfl rfl ?_
    | split

theorem holdEntry_keeps {s} (x0) (h : Keeps s x0) : Keeps s (holdEntry x0) := by
  unfold holdEntry; try dsimp only
  repeat' first
    | (with_reducible first
      | assumption | refine forAll_keeps (fun _ _ => ?_) ?_ | apply State.setRow_keeps | apply fireStopped_keeps | apply haltJob_keeps
      | apply reinAbandon_keeps | refine fun _ => ?_ | exact Keeps.refl _)
    | fail_if_no_progress with_reducible refine Keeps.upd rfl rfl rfl ?_
    | split
    | fail_if_no_progress with_reducible dsimp only

theorem failEntry_keeps {s} (x0) (h : Keeps s x0) : Keeps s (failEntry x0) := by
  unfold failEntry; try dsimp only
  repeat' first
    | (with_reducible first
      | assumption | apply releaseLanes_keeps | exact Keeps.refl _)
    | fail_if_no_progress with_reducible refine Keeps.upd rfl rfl rfl ?_
    | split

theorem classResponse_keeps {s} (x0 x1 x2 x3) (h : Keeps s x3) : Keeps s (classResponse x0 x1 x2 x3) := by
  unfold classResponse; try dsimp only
  repeat' first
    | (with_reducible first
      | assumption | refine forAll_keeps (fun _ _ => ?_) ?_ | apply emit_keeps | apply holdWheeler_keeps | apply leadRelease_keeps
      | apply holdEntry_keeps | apply failEntry_keeps | refine fun _ => ?_ | exact Keeps.refl _)
    | fail_if_no_progress with_reducible refine Keeps.upd rfl rfl rfl ?_
    | split
    | fail_if_no_progress with_reducible dsimp only

theorem addFault_keeps {s} (x0 x1 x2 x3 x4 x5 x6 x7 x8) (h : Keeps s x4) : Keeps s (addFault x0 x1 x2 x3 x4 x5 x6 x7 x8) := by
  unfold addFault; try dsimp only
  repeat' first
    | (with_reducible first
      | assumption | apply lifeEvent_keeps | apply classResponse_keeps | apply syncClass_keeps | exact Keeps.refl _)
    | fail_if_no_progress with_reducible refine Keeps.upd rfl rfl rfl ?_
    | split

theorem causeGone_keeps {s} (x0 x1 x2 x3) (h : Keeps s x2) : Keeps s (causeGone x0 x1 x2 x3) := by
  unfold causeGone; try dsimp only
  repeat' first
    | (with_reducible first
      | assumption | apply syncClass_keeps | exact Keeps.refl _)
    | fail_if_no_progress with_reducible refine Keeps.upd rfl rfl rfl ?_
    | split

theorem endRemounts_keeps {s} (x0 x1) (h : Keeps s x1) : Keeps s (endRemounts x0 x1) := by
  unfold endRemounts; try dsimp only
  repeat' first
    | (with_reducible first
      | assumption | refine forAll_keeps (fun _ _ => ?_) ?_ | apply State.setEngine_keeps | refine fun _ => ?_ | exact Keeps.refl _)
    | fail_if_no_progress with_reducible refine Keeps.upd rfl rfl rfl ?_
    | split
    | fail_if_no_progress with_reducible dsimp only

theorem dieFault_keeps {s} (x0 x1 x2 x3 x4 x5 x6) (h : Keeps s x6) : Keeps s (dieFault x0 x1 x2 x3 x4 x5 x6) := by
  unfold dieFault; try dsimp only
  repeat' first
    | (with_reducible first
      | assumption | apply endRemounts_keeps | apply raise_keeps | apply addFault_keeps | refine fun _ => ?_ | exact Keeps.refl _)
    | fail_if_no_progress with_reducible refine Keeps.upd rfl rfl rfl ?_
    | split

theorem resumeRows_keeps {s} (x0) (h : Keeps s x0) : Keeps s (resumeRows x0) := by
  unfold resumeRows; try dsimp only
  repeat' first
    | (with_reducible first
      | assumption | refine forAll_keeps (fun _ _ => ?_) ?_ | apply State.setRow_keeps | refine fun _ => ?_ | exact Keeps.refl _)
    | fail_if_no_progress with_reducible refine Keeps.upd rfl rfl rfl ?_
    | split
    | fail_if_no_progress with_reducible dsimp only

theorem losePosition_keeps {s} (x0 x1) (h : Keeps s x1) : Keeps s (losePosition x0 x1) := by
  unfold losePosition; try dsimp only
  repeat' first
    | (with_reducible first
      | assumption | apply ev_keeps | apply reinAbandon_keeps | refine forAll_keeps (fun _ _ => ?_) ?_ | apply State.setRow_keeps
      | apply fireStopped_keeps | apply haltJob_keeps | apply addFault_keeps | apply mirrorAxis_keeps | refine fun _ => ?_
      | exact Keeps.refl _)
    | fail_if_no_progress with_reducible refine Keeps.upd rfl rfl rfl ?_
    | split
    | fail_if_no_progress with_reducible dsimp only

theorem predictRow_keeps {s} (x0 x1) (h : Keeps s x1) : Keeps s (predictRow x0 x1) := by
  unfold predictRow; try dsimp only
  repeat' first
    | (with_reducible first
      | assumption | apply State.setRow_keeps | exact Keeps.refl _)
    | fail_if_no_progress with_reducible refine Keeps.upd rfl rfl rfl ?_
    | split

theorem checkDry_keeps {s} (x0) (h : Keeps s x0) : Keeps s (checkDry x0) := by
  unfold checkDry; try dsimp only
  repeat' first
    | (with_reducible first
      | assumption | apply ev_keeps | exact Keeps.refl _)
    | fail_if_no_progress with_reducible refine Keeps.upd rfl rfl rfl ?_
    | split

theorem trigMiss_keeps {s} (x0 x1 x2) (h : Keeps s x2) : Keeps s (trigMiss x0 x1 x2) := by
  unfold trigMiss; try dsimp only
  repeat' first
    | (with_reducible first
      | assumption | apply ev_keeps | apply State.setTrig_keeps | exact Keeps.refl _)
    | fail_if_no_progress with_reducible refine Keeps.upd rfl rfl rfl ?_
    | split

theorem trigChanged_keeps {s} (x0 x1) (h : Keeps s x1) : Keeps s (trigChanged x0 x1) := by
  unfold trigChanged; try dsimp only
  repeat' first
    | (with_reducible first
      | assumption | apply State.setTrig_keeps | apply trigMiss_keeps | exact Keeps.refl _)
    | fail_if_no_progress with_reducible refine Keeps.upd rfl rfl rfl ?_
    | split

theorem predictTrig_keeps {s} (x0 x1) (h : Keeps s x1) : Keeps s (predictTrig x0 x1) := by
  unfold predictTrig; try dsimp only
  repeat' first
    | (with_reducible first
      | assumption | apply State.setTrig_keeps | exact Keeps.refl _)
    | fail_if_no_progress with_reducible refine Keeps.upd rfl rfl rfl ?_
    | split

theorem predictAll_keeps {s} (x0) (h : Keeps s x0) : Keeps s (predictAll x0) := by
  unfold predictAll; try dsimp only
  repeat' first
    | (with_reducible first
      | assumption | refine forAll_keeps (fun _ _ => ?_) ?_ | apply predictTrig_keeps | apply predictRow_keeps | refine fun _ => ?_
      | exact Keeps.refl _)
    | fail_if_no_progress with_reducible refine Keeps.upd rfl rfl rfl ?_
    | split
    | fail_if_no_progress with_reducible dsimp only

theorem checkReinDone_keeps {s} (x0) (h : Keeps s x0) : Keeps s (checkReinDone x0) := by
  unfold checkReinDone; try dsimp only
  repeat' first
    | (with_reducible first
      | assumption | apply updateSplice_keeps | apply ev_keeps | apply mirrorLogs_keeps | apply mirrorRein_keeps | refine fun _ => ?_
      | exact Keeps.refl _)
    | fail_if_no_progress with_reducible refine Keeps.upd rfl rfl rfl ?_
    | split

theorem marksFromW_keeps {s} (x0) (h : Keeps s x0) : Keeps s (marksFromW x0) := by
  unfold marksFromW; try dsimp only
  repeat' first
    | (with_reducible first
      | assumption | refine forAll_keeps (fun _ _ => ?_) ?_ | apply State.setRow_keeps | apply State.setTrig_keeps
      | apply State.setCamPort_keeps | refine fun _ => ?_ | exact Keeps.refl _)
    | fail_if_no_progress with_reducible refine Keeps.upd rfl rfl rfl ?_
    | split
    | fail_if_no_progress with_reducible dsimp only

theorem sendMgmt_keeps {s} (x0 x1 x2) (h : Keeps s x2) : Keeps s (sendMgmt x0 x1 x2) := by
  unfold sendMgmt; try dsimp only
  repeat' first
    | (with_reducible first
      | assumption | apply emit_keeps | apply State.setLane_keeps | exact Keeps.refl _)
    | fail_if_no_progress with_reducible refine Keeps.upd rfl rfl rfl ?_
    | split

theorem flushMgmt_keeps {s} (x0 x1) (h : Keeps s x1) : Keeps s (flushMgmt x0 x1) := by
  unfold flushMgmt; try dsimp only
  repeat' first
    | (with_reducible first
      | assumption | refine forAll_keeps (fun _ _ => ?_) ?_ | apply sendMgmt_keeps | apply State.setLane_keeps | refine fun _ => ?_
      | exact Keeps.refl _)
    | fail_if_no_progress with_reducible refine Keeps.upd rfl rfl rfl ?_
    | split
    | fail_if_no_progress with_reducible dsimp only

theorem queueMgmt_keeps {s} (x0 x1 x2) (h : Keeps s x2) : Keeps s (queueMgmt x0 x1 x2) := by
  unfold queueMgmt; try dsimp only
  repeat' first
    | (with_reducible first
      | assumption | apply flushMgmt_keeps | apply State.setLane_keeps | exact Keeps.refl _)
    | fail_if_no_progress with_reducible refine Keeps.upd rfl rfl rfl ?_
    | split

theorem newPeriod_keeps {s} (x0 x1) (h : Keeps s x1) : Keeps s (newPeriod x0 x1) := by
  unfold newPeriod; try dsimp only
  repeat' first
    | (with_reducible first
      | assumption | apply flushMgmt_keeps | apply State.setLane_keeps | exact Keeps.refl _)
    | fail_if_no_progress with_reducible refine Keeps.upd rfl rfl rfl ?_
    | split

theorem setNozCnt_keeps {s} (x0 x1 x2) (h : Keeps s x2) : Keeps s (setNozCnt x0 x1 x2) := by
  unfold setNozCnt; try dsimp only
  repeat' first
    | (with_reducible first
      | assumption | exact Keeps.refl _)
    | fail_if_no_progress with_reducible refine Keeps.upd rfl rfl rfl ?_
    | split

theorem settleNozzles_keeps {s} (x0) (h : Keeps s x0) : Keeps s (settleNozzles x0) := by
  unfold settleNozzles; try dsimp only
  repeat' first
    | (with_reducible first
      | assumption | refine foldl_keeps (fun _ _ => ?_) ?_ | exact Keeps.refl _)
    | fail_if_no_progress with_reducible refine Keeps.upd rfl rfl rfl ?_
    | split

theorem writeTableWord_keeps {s} (x0 x1 x2) (h : Keeps s x2) : Keeps s (writeTableWord x0 x1 x2) := by
  unfold writeTableWord; try dsimp only
  repeat' first
    | (with_reducible first
      | assumption | apply setNozCnt_keeps | exact Keeps.refl _)
    | fail_if_no_progress with_reducible refine Keeps.upd rfl rfl rfl ?_
    | split

theorem dropSource_keeps {s} (x0 x1 x2 x3) (h : Keeps s x3) : Keeps s (dropSource x0 x1 x2 x3) := by
  unfold dropSource; try dsimp only
  repeat' first
    | (with_reducible first
      | assumption | apply ev_keeps | refine foldl_keeps (fun _ _ => ?_) ?_ | exact Keeps.refl _)
    | fail_if_no_progress with_reducible refine Keeps.upd rfl rfl rfl ?_
    | split

theorem logVictim_lt {l : List LogEntry} (h : 0 < l.length) : logVictim l < l.length := by
  unfold logVictim
  extract_lets soft
  rw [List.getLastD_eq_getLast?]
  cases hs : soft.getLast? with
  | none => simp; omega
  | some v =>
    have := List.mem_of_getLast? hs
    simp only [soft, List.mem_filter, List.mem_range] at this
    exact this.1

theorem logError_keeps {s} (x0 x1) (h : Keeps s x1) : Keeps s (logError x0 x1) := by
  unfold logError
  extract_lets z same again v gone a1 n _ a2 due _
  split
  · exact Keeps.updi rfl rfl (fun i => { i with errorLog := by simpa using i.errorLog }) h
  · split
    · exact Keeps.updi rfl rfl (fun i => { i with errorLog := by simp only [List.length_cons]; omega }) h
    · have hl : Inv x1 → (x0 :: z.log.eraseIdx v).length ≤ 256 := by
        intro i
        have hl : z.log.length ≤ 256 := i.errorLog
        have hv : v < z.log.length := logVictim_lt (by omega)
        simp only [List.length_cons, List.length_eraseIdx, hv, if_true]
        omega
      have h1 : Keeps s a1 := Keeps.updi rfl rfl (fun i => { i with errorLog := hl i }) h
      have h2 : Keeps s a2 := h1.same rfl rfl rfl rfl
      clear_value due a2 a1
      split
      · split
        · exact ev_keeps _ _ _ _ _ _ (h2.same rfl rfl rfl rfl)
        · exact h2
      · exact h1

theorem countCorrected_keeps {s} (x0 x1 x2) (h : Keeps s x2) : Keeps s (countCorrected x0 x1 x2) := by
  unfold countCorrected; try dsimp only
  repeat' first
    | (with_reducible first
      | assumption | apply ev_keeps | exact Keeps.refl _)
    | fail_if_no_progress with_reducible refine Keeps.upd rfl rfl rfl ?_
    | split

theorem countUe_keeps {s} (x0 x1 x2) (h : Keeps s x2) : Keeps s (countUe x0 x1 x2) := by
  unfold countUe; try dsimp only
  repeat' first
    | (with_reducible first
      | assumption | exact Keeps.refl _)
    | fail_if_no_progress with_reducible refine Keeps.upd rfl rfl rfl ?_
    | split

theorem fireCritical_keeps {s} (x0 x1 x2) (h : Keeps s x2) : Keeps s (fireCritical x0 x1 x2) := by
  unfold fireCritical; try dsimp only
  repeat' first
    | (with_reducible first
      | assumption | apply raise_keeps | apply addFault_keeps | exact Keeps.refl _)
    | fail_if_no_progress with_reducible refine Keeps.upd rfl rfl rfl ?_
    | split

theorem enterRetired_keeps {s} (x0 x1 x2) (h : Keeps s x2) : Keeps s (enterRetired x0 x1 x2) := by
  unfold enterRetired; try dsimp only
  repeat' first
    | (with_reducible first
      | assumption | exact Keeps.refl _)
    | fail_if_no_progress with_reducible refine Keeps.upd rfl rfl rfl ?_
    | split

theorem repairEvent_keeps {s} (x0 x1 x2 x3 x4 x5) (h : Keeps s x5) : Keeps s (repairEvent x0 x1 x2 x3 x4 x5) := by
  unfold repairEvent; try dsimp only
  repeat' first
    | (with_reducible first
      | assumption | apply ev_keeps | exact Keeps.refl _)
    | fail_if_no_progress with_reducible refine Keeps.upd rfl rfl rfl ?_
    | split

theorem retireBlock_keeps {s} (x0 x1 x2 x3 x4 x5) (h : Keeps s x5) : Keeps s (retireBlock x0 x1 x2 x3 x4 x5) := by
  unfold retireBlock; try dsimp only
  repeat' first
    | (with_reducible first
      | assumption | apply repairEvent_keeps | apply enterRetired_keeps | exact Keeps.refl _)
    | fail_if_no_progress with_reducible refine Keeps.upd rfl rfl rfl ?_
    | split

theorem retireWaiting_keeps {s} (x0) (h : Keeps s x0) : Keeps s (retireWaiting x0) := by
  unfold retireWaiting; try dsimp only
  repeat' first
    | (with_reducible first
      | assumption | refine forAll_keeps (fun _ _ => ?_) ?_ | apply retireBlock_keeps | refine fun _ => ?_ | exact Keeps.refl _)
    | fail_if_no_progress with_reducible refine Keeps.upd rfl rfl rfl ?_
    | split
    | fail_if_no_progress with_reducible dsimp only

theorem retireCheck_keeps {s} (x0 x1 x2) (h : Keeps s x2) : Keeps s (retireCheck x0 x1 x2) := by
  unfold retireCheck; try dsimp only
  repeat' first
    | (with_reducible first
      | assumption | apply retireBlock_keeps | exact Keeps.refl _)
    | fail_if_no_progress with_reducible refine Keeps.upd rfl rfl rfl ?_
    | split

theorem fireLatency_keeps {s} (x0 x1 x2) (h : Keeps s x2) : Keeps s (fireLatency x0 x1 x2) := by
  unfold fireLatency; try dsimp only
  repeat' first
    | (with_reducible first
      | assumption | apply ev_keeps | exact Keeps.refl _)
    | fail_if_no_progress with_reducible refine Keeps.upd rfl rfl rfl ?_
    | split

theorem countRequests_keeps {s} (x0 x1 x2 x3 x4) (h : Keeps s x4) : Keeps s (countRequests x0 x1 x2 x3 x4) := by
  unfold countRequests; try dsimp only
  repeat' first
    | (with_reducible first
      | assumption | apply fireLatency_keeps | exact Keeps.refl _)
    | fail_if_no_progress with_reducible refine Keeps.upd rfl rfl rfl ?_
    | split

theorem countAccess_keeps {s} (x0 x1 x2 x3) (h : Keeps s x3) : Keeps s (countAccess x0 x1 x2 x3) := by
  unfold countAccess; try dsimp only
  repeat' first
    | (with_reducible first
      | assumption | apply countRequests_keeps | exact Keeps.refl _)
    | fail_if_no_progress with_reducible refine Keeps.upd rfl rfl rfl ?_
    | split

theorem logStore_keeps {s} (x0 x1 x2 x3 x4 x5 x6 x7) (h : Keeps s x7) : Keeps s (logStore x0 x1 x2 x3 x4 x5 x6 x7) := by
  unfold logStore; try dsimp only
  repeat' first
    | (with_reducible first
      | assumption | apply logError_keeps | exact Keeps.refl _)
    | fail_if_no_progress with_reducible refine Keeps.upd rfl rfl rfl ?_
    | split

theorem uninitRead_keeps {s} (x0 x1 x2 x3) (h : Keeps s x3) : Keeps s (uninitRead x0 x1 x2 x3) := by
  unfold uninitRead; try dsimp only
  repeat' first
    | (with_reducible first
      | assumption | apply logStore_keeps | apply ev_keeps | exact Keeps.refl _)
    | fail_if_no_progress with_reducible refine Keeps.upd rfl rfl rfl ?_
    | split

theorem queueScrub_keeps {s} (x0 x1) (h : Keeps s x1) : Keeps s (queueScrub x0 x1) := by
  unfold queueScrub; try dsimp only
  repeat' first
    | (with_reducible first
      | assumption | exact Keeps.refl _)
    | fail_if_no_progress with_reducible refine Keeps.upd rfl rfl rfl ?_
    | split

theorem storeUe_keeps {s} (x0 x1 x2 x3 x4) (h : Keeps s x4) : Keeps s (storeUe x0 x1 x2 x3 x4) := by
  unfold storeUe; try dsimp only
  repeat' first
    | (with_reducible first
      | assumption | apply logStore_keeps | apply countUe_keeps | apply ev_keeps | apply fireCritical_keeps | exact Keeps.refl _)
    | fail_if_no_progress with_reducible refine Keeps.upd rfl rfl rfl ?_
    | split

theorem firstRead_keeps {s} (x0 x1) (h : Keeps s x1) : Keeps s (firstRead x0 x1).2 := by
  unfold firstRead; try dsimp only
  repeat' first
    | (with_reducible first
      | assumption | exact Keeps.refl _)
    | fail_if_no_progress with_reducible refine Keeps.upd rfl rfl rfl ?_
    | split

theorem noteRead_keeps {s} (x0 x1 x2 x3) (h : Keeps s x3) : Keeps s (noteRead x0 x1 x2 x3) := by
  unfold noteRead; try dsimp only
  repeat' first
    | (with_reducible first
      | assumption | apply firstRead_keeps | apply uninitRead_keeps | apply queueScrub_keeps | apply countCorrected_keeps
      | apply logStore_keeps | apply storeUe_keeps | apply retireCheck_keeps | exact Keeps.refl _)
    | fail_if_no_progress with_reducible refine Keeps.upd rfl rfl rfl ?_
    | split
    | with_reducible refine Keeps.snd (by assumption) ?_
    | with_reducible refine Keeps.snd2 (by assumption) ?_

theorem readUnit_keeps {s} (x0 x1 x2 x3 x4) (h : Keeps s x4) : Keeps s (readUnit x0 x1 x2 x3 x4).2 := by
  unfold readUnit; try dsimp only
  repeat' first
    | (with_reducible first
      | assumption | apply noteRead_keeps | apply countAccess_keeps | exact Keeps.refl _)
    | fail_if_no_progress with_reducible refine Keeps.upd rfl rfl rfl ?_
    | split

theorem readUnits_keeps {s} (x0 x1 x2 x3 x4 x5) (h : Keeps s x5) : Keeps s (readUnits x0 x1 x2 x3 x4 x5).2 := by
  induction x3 generalizing x4 x5 with
  | zero => exact h
  | succ n ih =>
    unfold readUnits; dsimp only
    split
    · exact readUnit_keeps _ _ _ _ _ h
    · exact ih _ _ (readUnit_keeps _ _ _ _ _ h)

theorem cleanBurst_keeps {s} (x0 x1) (h : Keeps s x1) : Keeps s (cleanBurst x0 x1) := by
  unfold cleanBurst; try dsimp only
  repeat' first
    | (with_reducible first
      | assumption | exact Keeps.refl _)
    | fail_if_no_progress with_reducible refine Keeps.upd rfl rfl rfl ?_
    | split

theorem fixBurst_keeps {s} (x0 x1) (h : Keeps s x1) : Keeps s (fixBurst x0 x1) := by
  unfold fixBurst; try dsimp only
  repeat' first
    | (with_reducible first
      | assumption | apply cleanBurst_keeps | exact Keeps.refl _)
    | fail_if_no_progress with_reducible refine Keeps.upd rfl rfl rfl ?_
    | with_reducible refine Keeps.updi rfl rfl (fun i => { i with mem := storeBytes_wf i.mem }) ?_
    | split

theorem poisonBurst_keeps {s} (x0 x1) (h : Keeps s x1) : Keeps s (poisonBurst x0 x1) := by
  unfold poisonBurst; try dsimp only
  repeat' first
    | (with_reducible first
      | assumption | apply cleanBurst_keeps | exact Keeps.refl _)
    | fail_if_no_progress with_reducible refine Keeps.upd rfl rfl rfl ?_
    | with_reducible refine Keeps.updi rfl rfl (fun i => { i with mem := storeBytes_wf i.mem }) ?_
    | split

theorem settleBurst_keeps {s} (x0 x1) (h : Keeps s x1) : Keeps s (settleBurst x0 x1) := by
  unfold settleBurst; try dsimp only
  repeat' first
    | (with_reducible first
      | assumption | apply fixBurst_keeps | apply poisonBurst_keeps | exact Keeps.refl _)
    | fail_if_no_progress with_reducible refine Keeps.upd rfl rfl rfl ?_
    | split

theorem noteRewrite_keeps {s} (x0 x1) (h : Keeps s x1) : Keeps s (noteRewrite x0 x1) := by
  unfold noteRewrite; try dsimp only
  repeat' first
    | (with_reducible first
      | assumption | exact Keeps.refl _)
    | fail_if_no_progress with_reducible refine Keeps.upd rfl rfl rfl ?_
    | split

theorem writeUnits_keeps {s} (x0 x1 x2 x3) (h : Keeps s x3) : Keeps s (writeUnits x0 x1 x2 x3) := by
  unfold writeUnits; dsimp only
  refine forAll_keeps (fun _ _ => ?_) (Keeps.updi rfl rfl (fun i => { i with mem := storeBytes_wf i.mem }) h)
  exact noteRewrite_keeps _ _ (countAccess_keeps _ _ _ _ (cleanBurst_keeps _ _ (cleanBurst_keeps _ _ (Keeps.refl _))))

theorem mergeUnit_keeps {s} (x0 x1 x2 x3 x4) (h : Keeps s x4) : Keeps s (mergeUnit x0 x1 x2 x3 x4) := by
  unfold mergeUnit; try dsimp only
  repeat' first
    | (with_reducible first
      | assumption | apply readUnit_keeps | refine forAll_keeps (fun _ _ => ?_) ?_ | apply cleanBurst_keeps | apply settleBurst_keeps
      | refine fun _ => ?_ | exact Keeps.refl _)
    | fail_if_no_progress with_reducible refine Keeps.upd rfl rfl rfl ?_
    | split
    | fail_if_no_progress with_reducible dsimp only
    | with_reducible refine Keeps.snd (by assumption) ?_
    | with_reducible refine Keeps.snd2 (by assumption) ?_

theorem writeBytes_keeps {s} (x0 x1 x2 x3) (h : Keeps s x3) : Keeps s (writeBytes x0 x1 x2 x3) := by
  unfold writeBytes; try dsimp only
  repeat' first
    | (with_reducible first
      | assumption | refine forAll_keeps (fun _ _ => ?_) ?_ | apply cleanBurst_keeps | apply mergeUnit_keeps | apply noteRewrite_keeps
      | apply countAccess_keeps | refine fun _ => ?_ | exact Keeps.refl _)
    | fail_if_no_progress with_reducible refine Keeps.upd rfl rfl rfl ?_
    | with_reducible refine Keeps.updi rfl rfl (fun i => { i with mem := storeBytes_wf i.mem }) ?_
    | split
    | fail_if_no_progress with_reducible dsimp only

theorem strikeBytes_keeps {s} (x0 x1) (h : Keeps s x1) : Keeps s (strikeBytes x0 x1) := by
  unfold strikeBytes; try dsimp only
  repeat' first
    | (with_reducible first
      | assumption | refine forAll_keeps (fun _ _ => ?_) ?_ | refine fun _ => ?_ | exact Keeps.refl _)
    | fail_if_no_progress with_reducible refine Keeps.upd rfl rfl rfl ?_
    | split
    | fail_if_no_progress with_reducible dsimp only

theorem setSramMark_keeps {s} (x0 x1 x2) (h : Keeps s x2) : Keeps s (setSramMark x0 x1 x2) := by
  unfold setSramMark; try dsimp only
  repeat' first
    | (with_reducible first
      | assumption | exact Keeps.refl _)
    | fail_if_no_progress with_reducible refine Keeps.upd rfl rfl rfl ?_
    | split

theorem strikeWord_keeps {s} (x0 x1 x2 x3) (h : Keeps s x3) : Keeps s (strikeWord x0 x1 x2 x3) := by
  unfold strikeWord; try dsimp only
  repeat' first
    | (with_reducible first
      | assumption | apply setSramMark_keeps | exact Keeps.refl _)
    | fail_if_no_progress with_reducible refine Keeps.upd rfl rfl rfl ?_
    | split

theorem logWord_keeps {s} (x0 x1 x2 x3 x4 x5) (h : Keeps s x5) : Keeps s (logWord x0 x1 x2 x3 x4 x5) := by
  unfold logWord; try dsimp only
  repeat' first
    | (with_reducible first
      | assumption | apply logError_keeps | exact Keeps.refl _)
    | fail_if_no_progress with_reducible refine Keeps.upd rfl rfl rfl ?_
    | split

theorem fixWord_keeps {s} (x0 x1) (h : Keeps s x1) : Keeps s (fixWord x0 x1) := by
  unfold fixWord; try dsimp only
  repeat' first
    | (with_reducible first
      | assumption | apply setSramMark_keeps | apply writeTableWord_keeps | exact Keeps.refl _)
    | fail_if_no_progress with_reducible refine Keeps.upd rfl rfl rfl ?_
    | split

theorem readWord_keeps {s} (x0 x1 x2 x3) (h : Keeps s x3) : Keeps s (readWord x0 x1 x2 x3).2 := by
  unfold readWord; try dsimp only
  repeat' first
    | (with_reducible first
      | assumption | apply countCorrected_keeps | apply logWord_keeps | apply countUe_keeps | apply ev_keeps | apply fireCritical_keeps
      | exact Keeps.refl _)
    | fail_if_no_progress with_reducible refine Keeps.upd rfl rfl rfl ?_
    | split

theorem readMarked_keeps {s} (x0 x1 x2 x3) (h : Keeps s x3) : Keeps s (readMarked x0 x1 x2 x3).2 := by
  unfold readMarked; try dsimp only
  repeat' first
    | (with_reducible first
      | assumption | refine foldl_keeps (fun _ _ => ?_) ?_ | refine foldl2_keeps (fun _ _ => ?_) ?_ | apply readWord_keeps
      | exact Keeps.refl _)
    | fail_if_no_progress with_reducible refine Keeps.upd rfl rfl rfl ?_
    | split
    | with_reducible refine Keeps.snd (by assumption) ?_
    | with_reducible refine Keeps.snd2 (by assumption) ?_

theorem strikeWords_keeps {s} (x0 x1 x2) (h : Keeps s x2) : Keeps s (strikeWords x0 x1 x2) := by
  unfold strikeWords; try dsimp only
  repeat' first
    | (with_reducible first
      | assumption | refine forAll_keeps (fun _ _ => ?_) ?_ | apply strikeWord_keeps | refine fun _ => ?_ | exact Keeps.refl _)
    | fail_if_no_progress with_reducible refine Keeps.upd rfl rfl rfl ?_
    | split
    | fail_if_no_progress with_reducible dsimp only

theorem forgetWords_keeps {s} (x0 x1) (h : Keeps s x1) : Keeps s (forgetWords x0 x1) := by
  unfold forgetWords; try dsimp only
  repeat' first
    | (with_reducible first
      | assumption | exact Keeps.refl _)
    | fail_if_no_progress with_reducible refine Keeps.upd rfl rfl rfl ?_
    | split

theorem restoreEntry_keeps {s} (x0 x1) (h : Keeps s x1) : Keeps s (restoreEntry x0 x1) := by
  unfold restoreEntry; try dsimp only
  repeat' first
    | (with_reducible first
      | assumption | apply setNozCnt_keeps | exact Keeps.refl _)
    | fail_if_no_progress with_reducible refine Keeps.upd rfl rfl rfl ?_
    | split

theorem noteClusterUe_keeps {s} (x0 x1) (h : Keeps s x1) : Keeps s (noteClusterUe x0 x1) := by
  unfold noteClusterUe; try dsimp only
  repeat' first
    | (with_reducible first
      | assumption | exact Keeps.refl _)
    | fail_if_no_progress with_reducible refine Keeps.upd rfl rfl rfl ?_
    | split

theorem noteNozzleUe_keeps {s} (x0 x1) (h : Keeps s x1) : Keeps s (noteNozzleUe x0 x1) := by
  unfold noteNozzleUe; try dsimp only
  repeat' first
    | (with_reducible first
      | assumption | exact Keeps.refl _)
    | fail_if_no_progress with_reducible refine Keeps.upd rfl rfl rfl ?_
    | split

theorem regionFault_keeps {s} (x0 x1 x2) (h : Keeps s x2) : Keeps s (regionFault x0 x1 x2) := by
  unfold regionFault; try dsimp only
  repeat' first
    | (with_reducible first
      | assumption | apply endRemounts_keeps | apply raise_keeps | apply addFault_keeps | refine fun _ => ?_ | exact Keeps.refl _)
    | fail_if_no_progress with_reducible refine Keeps.upd rfl rfl rfl ?_
    | split

theorem nozzleWordUe_keeps {s} (x0 x1 x2) (h : Keeps s x2) : Keeps s (nozzleWordUe x0 x1 x2) := by
  unfold nozzleWordUe; try dsimp only
  repeat' first
    | (with_reducible first
      | assumption | apply restoreEntry_keeps | apply noteNozzleUe_keeps | apply regionFault_keeps | exact Keeps.refl _)
    | fail_if_no_progress with_reducible refine Keeps.upd rfl rfl rfl ?_
    | split

theorem sendAck_keeps {s} (x0 x1) (h : Keeps s x1) : Keeps s (sendAck x0 x1) := by
  unfold sendAck; try dsimp only
  repeat' first
    | (with_reducible first
      | assumption | apply emit_keeps | apply State.setRing_keeps | exact Keeps.refl _)
    | fail_if_no_progress with_reducible refine Keeps.upd rfl rfl rfl ?_
    | split

theorem sendRing_keeps {s} (x0 x1) (h : Keeps s x1) : Keeps s (sendRing x0 x1) := by
  unfold sendRing; try dsimp only
  repeat' first
    | (with_reducible first
      | assumption | apply sendRecord_keeps | exact Keeps.refl _)
    | fail_if_no_progress with_reducible refine Keeps.upd rfl rfl rfl ?_
    | split

theorem noteRing_keeps {s} (x0 x1 x2) (h : Keeps s x2) : Keeps s (noteRing x0 x1 x2) := by
  unfold noteRing; try dsimp only
  repeat' first
    | (with_reducible first
      | assumption | apply sendRing_keeps | exact Keeps.refl _)
    | fail_if_no_progress with_reducible refine Keeps.upd rfl rfl rfl ?_
    | split

theorem sendNak_keeps {s} (x0 x1 x2 x3 x4) (h : Keeps s x4) : Keeps s (sendNak x0 x1 x2 x3 x4) := by
  induction x2 generalizing x3 x4 with
  | zero => exact h
  | succ n ih =>
    unfold sendNak
    split
    · exact h
    · split
      · exact h
      · exact ih _ _ (emit_keeps _ _ h)

theorem updateRelease_keeps {s} (x0 x1) (h : Keeps s x1) : Keeps s (updateRelease x0 x1) := by
  unfold updateRelease; try dsimp only
  repeat' first
    | (with_reducible first
      | assumption | refine foldl_keeps (fun _ _ => ?_) ?_ | apply noteRing_keeps | apply State.setRing_keeps | apply sendAck_keeps
      | exact Keeps.refl _)
    | fail_if_no_progress with_reducible refine Keeps.upd rfl rfl rfl ?_
    | split

theorem releaseWhere_keeps {s} (x0 x1 x2) (h : Keeps s x2) : Keeps s (releaseWhere x0 x1 x2) := by
  unfold releaseWhere; try dsimp only
  repeat' first
    | (with_reducible first
      | assumption | apply updateRelease_keeps | apply State.setRing_keeps | exact Keeps.refl _)
    | fail_if_no_progress with_reducible refine Keeps.upd rfl rfl rfl ?_
    | split

theorem releasePage_keeps {s} (x0 x1) (h : Keeps s x1) : Keeps s (releasePage x0 x1) := by
  unfold releasePage; try dsimp only
  repeat' first
    | (with_reducible first
      | assumption | refine forAll_keeps (fun _ _ => ?_) ?_ | apply releaseWhere_keeps | apply State.setRing_keeps | refine fun _ => ?_
      | exact Keeps.refl _)
    | fail_if_no_progress with_reducible refine Keeps.upd rfl rfl rfl ?_
    | split
    | fail_if_no_progress with_reducible dsimp only

theorem integrityResend_keeps {s} (x0 x1 x2 x3) (h : Keeps s x3) : Keeps s (integrityResend x0 x1 x2 x3) := by
  unfold integrityResend; try dsimp only
  repeat' first
    | (with_reducible first
      | assumption | apply State.setRing_keeps | apply ev_keeps | apply sendNak_keeps | apply sendRing_keeps | exact Keeps.refl _)
    | fail_if_no_progress with_reducible refine Keeps.upd rfl rfl rfl ?_
    | split

theorem setAcc_keeps {s} (x0 x1 x2) (h : Keeps s x2) : Keeps s (setAcc x0 x1 x2) := by
  unfold setAcc; try dsimp only
  repeat' first
    | (with_reducible first
      | assumption | exact Keeps.refl _)
    | fail_if_no_progress with_reducible refine Keeps.upd rfl rfl rfl ?_
    | split

theorem openBar_keeps {s} (x0 x1) (h : Keeps s x1) : Keeps s (openBar x0 x1) := by
  unfold openBar; try dsimp only
  repeat' first
    | (with_reducible first
      | assumption | exact Keeps.refl _)
    | fail_if_no_progress with_reducible refine Keeps.upd rfl rfl rfl ?_
    | split

theorem checkLead_keeps {s} (x0 x1) (h : Keeps s x1) : Keeps s (checkLead x0 x1) := by
  unfold checkLead; try dsimp only
  repeat' first
    | (with_reducible first
      | assumption | apply State.setEngine_keeps | apply ev_keeps | exact Keeps.refl _)
    | fail_if_no_progress with_reducible refine Keeps.upd rfl rfl rfl ?_
    | split

theorem checkLeads_keeps {s} (x0) (h : Keeps s x0) : Keeps s (checkLeads x0) := by
  unfold checkLeads; try dsimp only
  repeat' first
    | (with_reducible first
      | assumption | refine forAll_keeps (fun _ _ => ?_) ?_ | apply checkLead_keeps | refine fun _ => ?_ | exact Keeps.refl _)
    | fail_if_no_progress with_reducible refine Keeps.upd rfl rfl rfl ?_
    | split
    | fail_if_no_progress with_reducible dsimp only

theorem setDots_keeps {s} (x0 x1 x2) (h : Keeps s x2) : Keeps s (setDots x0 x1 x2) := by
  unfold setDots; try dsimp only
  repeat' first
    | (with_reducible first
      | assumption | exact Keeps.refl _)
    | fail_if_no_progress with_reducible refine Keeps.upd rfl rfl rfl ?_
    | split

theorem storeDots_keeps {s} (x0 x1 x2 x3 x4 x5 x6) (h : Keeps s x6) : Keeps s (storeDots x0 x1 x2 x3 x4 x5 x6) := by
  unfold storeDots; try dsimp only
  repeat' first
    | (with_reducible first
      | assumption | apply writeBytes_keeps | exact Keeps.refl _)
    | fail_if_no_progress with_reducible refine Keeps.upd rfl rfl rfl ?_
    | split

theorem writeDots_keeps {s} (x0 x1 x2 x3 x4 x5 x6) (h : Keeps s x6) : Keeps s (writeDots x0 x1 x2 x3 x4 x5 x6) := by
  unfold writeDots; try dsimp only
  repeat' first
    | (with_reducible first
      | assumption | refine forAll_keeps (fun _ _ => ?_) ?_ | refine foldl_keeps (fun _ _ => ?_) ?_ | apply storeDots_keeps
      | apply setDots_keeps | refine fun _ => ?_ | exact Keeps.refl _)
    | fail_if_no_progress with_reducible refine Keeps.upd rfl rfl rfl ?_
    | split
    | fail_if_no_progress with_reducible dsimp only

theorem settleRings_keeps {s} (x0 x1) (h : Keeps s x1) : Keeps s (settleRings x0 x1) := by
  unfold settleRings; try dsimp only
  repeat' first
    | (with_reducible first
      | assumption | refine forAll_keeps (fun _ _ => ?_) ?_ | apply releaseWhere_keeps | refine foldl_keeps (fun _ _ => ?_) ?_
      | apply State.setRing_keeps | refine fun _ => ?_ | exact Keeps.refl _)
    | fail_if_no_progress with_reducible refine Keeps.upd rfl rfl rfl ?_
    | split
    | fail_if_no_progress with_reducible dsimp only

theorem settleBad_keeps {s} (x0) (h : Keeps s x0) : Keeps s (settleBad x0) := by
  unfold settleBad; try dsimp only
  repeat' first
    | (with_reducible first
      | assumption | refine forAll_keeps (fun _ _ => ?_) ?_ | apply releaseWhere_keeps | refine fun _ => ?_ | exact Keeps.refl _)
    | fail_if_no_progress with_reducible refine Keeps.upd rfl rfl rfl ?_
    | split
    | fail_if_no_progress with_reducible dsimp only

theorem bytesLate_keeps {s} (x0 x1 x2 x3 x4 x5 x6) (h : Keeps s x6) : Keeps s (bytesLate x0 x1 x2 x3 x4 x5 x6) := by
  unfold bytesLate; try dsimp only
  repeat' first
    | (with_reducible first
      | assumption | apply State.setRing_keeps | apply ev_keeps | exact Keeps.refl _)
    | fail_if_no_progress with_reducible refine Keeps.upd rfl rfl rfl ?_
    | split

theorem missRow_keeps {s} (x0 x1 x2 x3 x4) (h : Keeps s x4) : Keeps s (missRow x0 x1 x2 x3 x4) := by
  unfold missRow; try dsimp only
  repeat' first
    | (with_reducible first
      | assumption | apply bytesLate_keeps | apply ev_keeps | apply State.setRing_keeps | exact Keeps.refl _)
    | fail_if_no_progress with_reducible refine Keeps.upd rfl rfl rfl ?_
    | split

theorem bumpStats_keeps {s} (x0 x1 x2 x3) (h : Keeps s x3) : Keeps s (bumpStats x0 x1 x2 x3) := by
  unfold bumpStats; try dsimp only
  repeat' first
    | (with_reducible first
      | assumption | apply State.setEngine_keeps | exact Keeps.refl _)
    | fail_if_no_progress with_reducible refine Keeps.upd rfl rfl rfl ?_
    | split

theorem screenAt_keeps {s} (x0 x1 x2) (h : Keeps s x2) : Keeps s (screenAt x0 x1 x2) := by
  unfold screenAt; try dsimp only
  repeat' first
    | (with_reducible first
      | assumption | apply openBar_keeps | refine forAll_keeps (fun _ _ => ?_) ?_ | apply missRow_keeps | apply setAcc_keeps
      | apply bumpStats_keeps | apply writeDots_keeps | refine fun _ => ?_ | exact Keeps.refl _)
    | fail_if_no_progress with_reducible refine Keeps.upd rfl rfl rfl ?_
    | split
    | fail_if_no_progress with_reducible dsimp only

theorem verifyBand_keeps {s} (x0 x1 x2) (h : Keeps s x2) : Keeps s (verifyBand x0 x1 x2) := by
  unfold verifyBand; try dsimp only
  repeat' first
    | (with_reducible first
      | assumption | refine forAll_keeps (fun _ _ => ?_) ?_ | apply setDots_keeps | apply State.setEngine_keeps | refine fun _ => ?_
      | exact Keeps.refl _)
    | fail_if_no_progress with_reducible refine Keeps.upd rfl rfl rfl ?_
    | split
    | fail_if_no_progress with_reducible dsimp only

theorem sendDigest_keeps {s} (x0 x1 x2) (h : Keeps s x2) : Keeps s (sendDigest x0 x1 x2) := by
  unfold sendDigest; try dsimp only
  repeat' first
    | (with_reducible first
      | assumption | apply mirror_keeps | exact Keeps.refl _)
    | fail_if_no_progress with_reducible refine Keeps.upd rfl rfl rfl ?_
    | split

theorem pruneAcc_keeps {s} (x0 x1) (h : Keeps s x1) : Keeps s (pruneAcc x0 x1) := by
  unfold pruneAcc; try dsimp only
  repeat' first
    | (with_reducible first
      | assumption | refine foldl_keeps (fun _ _ => ?_) ?_ | apply setAcc_keeps | exact Keeps.refl _)
    | fail_if_no_progress with_reducible refine Keeps.upd rfl rfl rfl ?_
    | split

theorem takeAnchors_keeps {s} (x0 x1 x2) (h : Keeps s x2) : Keeps s (takeAnchors x0 x1 x2) := by
  unfold takeAnchors; try dsimp only
  repeat' first
    | (with_reducible first
      | assumption | refine forAll_keeps (fun _ _ => ?_) ?_ | apply State.setRing_keeps | refine fun _ => ?_ | exact Keeps.refl _)
    | fail_if_no_progress with_reducible refine Keeps.upd rfl rfl rfl ?_
    | split
    | fail_if_no_progress with_reducible dsimp only

theorem closeLine_keeps {s} (x0 x1) (h : Keeps s x1) : Keeps s (closeLine x0 x1) := by
  unfold closeLine; try dsimp only
  repeat' first
    | (with_reducible first
      | assumption | apply bumpStats_keeps | apply State.setEngine_keeps | apply takeAnchors_keeps | refine forAll_keeps (fun _ _ => ?_) ?_
      | apply verifyBand_keeps | apply sendDigest_keeps | apply settleRings_keeps | apply pruneAcc_keeps | refine fun _ => ?_
      | exact Keeps.refl _)
    | fail_if_no_progress with_reducible refine Keeps.upd rfl rfl rfl ?_
    | split
    | fail_if_no_progress with_reducible dsimp only

theorem updateCapacity_keeps {s} (x0) (h : Keeps s x0) : Keeps s (updateCapacity x0) := by
  unfold updateCapacity; try dsimp only
  repeat' first
    | (with_reducible first
      | assumption | apply raise_keeps | apply addFault_keeps | apply limitChanged_keeps | exact Keeps.refl _)
    | fail_if_no_progress with_reducible refine Keeps.upd rfl rfl rfl ?_
    | split

theorem runAssignment_keeps {s} (x0 x1) (h : Keeps s x1) : Keeps s (runAssignment x0 x1) := by
  unfold runAssignment; try dsimp only
  repeat' first
    | (with_reducible first
      | assumption | refine forAll_keeps (fun _ _ => ?_) ?_ | apply State.setEngine_keeps | apply causeGone_keeps
      | apply updateCapacity_keeps | refine fun _ => ?_ | exact Keeps.refl _)
    | fail_if_no_progress with_reducible refine Keeps.upd rfl rfl rfl ?_
    | split
    | fail_if_no_progress with_reducible dsimp only

theorem restartScreening_keeps {s} (x0) (h : Keeps s x0) : Keeps s (restartScreening x0) := by
  unfold restartScreening; try dsimp only
  repeat' first
    | (with_reducible first
      | assumption | refine forAll_keeps (fun _ _ => ?_) ?_ | apply State.setEngine_keeps | refine fun _ => ?_ | exact Keeps.refl _)
    | fail_if_no_progress with_reducible refine Keeps.upd rfl rfl rfl ?_
    | split
    | fail_if_no_progress with_reducible dsimp only

theorem redecode_keeps {s} (x0 x1 x2) (h : Keeps s x2) : Keeps s (redecode x0 x1 x2) := by
  unfold redecode; try dsimp only
  repeat' first
    | (with_reducible first
      | assumption | refine forAll_keeps (fun _ _ => ?_) ?_ | apply State.setRing_keeps | refine fun _ => ?_ | exact Keeps.refl _)
    | fail_if_no_progress with_reducible refine Keeps.upd rfl rfl rfl ?_
    | split
    | fail_if_no_progress with_reducible dsimp only

theorem rollBack_keeps {s} (x0 x1 x2 x3 x4) (h : Keeps s x4) : Keeps s (rollBack x0 x1 x2 x3 x4) := by
  unfold rollBack; try dsimp only
  repeat' first
    | (with_reducible first
      | assumption | refine forAll_keeps (fun _ _ => ?_) ?_ | apply State.setEngine_keeps | apply setAcc_keeps | apply redecode_keeps
      | refine fun _ => ?_ | exact Keeps.refl _)
    | fail_if_no_progress with_reducible refine Keeps.upd rfl rfl rfl ?_
    | split
    | fail_if_no_progress with_reducible dsimp only

end Sys2Proof.Machine
end

