-- ==== Sys2Proof/Laws/KeepsLine.lean ====
section
/-! SUPPORT. `Keeps` of the operations of set rules, frames, commits, rein-backs, decoders, engines and encoders (Sys2Proof/Machine/Rules, Frames, FrameStarts, Commits, Rein, Decoding, Engines, Axis):
one lemma per function that changes the state. -/

namespace Sys2Proof.Machine

theorem withCommit_keeps {s} (x0 x1) (h : Keeps s x0) : Keeps s (withCommit x0 x1) := by
  unfold withCommit; try dsimp only
  repeat' first
    | (with_reducible first
      | assumption | exact Keeps.refl _)
    | fail_if_no_progress with_reducible refine Keeps.upd rfl rfl rfl ?_
    | split

theorem modFrame_keeps {s} (x0 x1 x2 x3) (h : Keeps s x3) : Keeps s (modFrame x0 x1 x2 x3) := by
  unfold modFrame; try dsimp only
  repeat' first
    | (with_reducible first
      | assumption | exact Keeps.refl _)
    | fail_if_no_progress with_reducible refine Keeps.upd rfl rfl rfl ?_
    | fail_if_no_progress with_reducible refine Keeps.updi rfl rfl (fun i => by
        cases i; constructor <;> first | assumption | (simp_all [Memory.wf, twf]; done) | (simp_all; omega)) ?_
    | split

theorem freeFrames_keeps {s} (x0) (h : Keeps s x0) : Keeps s (freeFrames x0) := by
  unfold freeFrames; try dsimp only
  repeat' first
    | (with_reducible first
      | assumption | exact Keeps.refl _)
    | fail_if_no_progress with_reducible refine Keeps.upd rfl rfl rfl ?_
    | split

theorem noteBacklog_keeps {s} (x0) (h : Keeps s x0) : Keeps s (noteBacklog x0) := by
  unfold noteBacklog; try dsimp only
  repeat' first
    | (with_reducible first
      | assumption | apply ev_keeps | exact Keeps.refl _)
    | fail_if_no_progress with_reducible refine Keeps.upd rfl rfl rfl ?_
    | split

theorem assignSlices_keeps {s} (x0) (h : Keeps s x0) : Keeps s (assignSlices x0) := by
  unfold assignSlices; try dsimp only
  repeat' first
    | (with_reducible first
      | assumption | refine forAll_keeps (fun _ _ => ?_) ?_ | apply modFrame_keeps | refine fun _ => ?_ | exact Keeps.refl _)
    | fail_if_no_progress with_reducible refine Keeps.upd rfl rfl rfl ?_
    | split
    | fail_if_no_progress with_reducible dsimp only

theorem frameFault_keeps {s} (x0 x1) (h : Keeps s x1) : Keeps s (frameFault x0 x1) := by
  unfold frameFault; try dsimp only
  repeat' first
    | (with_reducible first
      | assumption | apply ev_keeps | apply State.setSensor_keeps | exact Keeps.refl _)
    | fail_if_no_progress with_reducible refine Keeps.upd rfl rfl rfl ?_
    | split

theorem frameDone_keeps {s} (x0 x1) (h : Keeps s x1) : Keeps s (frameDone x0 x1) := by
  unfold frameDone; try dsimp only
  repeat' first
    | (with_reducible first
      | assumption | apply ev_keeps | exact Keeps.refl _)
    | fail_if_no_progress with_reducible refine Keeps.upd rfl rfl rfl ?_
    | split

theorem zeroFill_keeps {s} (x0 x1 x2) (h : Keeps s x2) : Keeps s (zeroFill x0 x1 x2) := by
  unfold zeroFill; try dsimp only
  repeat' first
    | (with_reducible first
      | assumption | refine forAll_keeps (fun _ _ => ?_) ?_ | apply writeUnits_keeps | refine fun _ => ?_ | exact Keeps.refl _)
    | fail_if_no_progress with_reducible refine Keeps.upd rfl rfl rfl ?_
    | split
    | fail_if_no_progress with_reducible dsimp only

theorem closeFrame_keeps {s} (x0 x1 x2 x3) (h : Keeps s x3) : Keeps s (closeFrame x0 x1 x2 x3) := by
  unfold closeFrame; try dsimp only
  repeat' first
    | (with_reducible first
      | assumption | apply modFrame_keeps | apply zeroFill_keeps | apply frameFault_keeps | apply frameDone_keeps | apply noteBacklog_keeps
      | apply assignSlices_keeps | apply freeFrames_keeps | refine fun _ => ?_ | exact Keeps.refl _)
    | fail_if_no_progress with_reducible refine Keeps.upd rfl rfl rfl ?_
    | fail_if_no_progress with_reducible refine Keeps.updi rfl rfl (fun i => by
        cases i; constructor <;> first | assumption | (simp_all [Memory.wf, twf]; done) | (simp_all; omega)) ?_
    | split

theorem cutFrames_keeps {s} (x0 x1) (h : Keeps s x1) : Keeps s (cutFrames x0 x1) := by
  unfold cutFrames; try dsimp only
  repeat' first
    | (with_reducible first
      | assumption | refine forAll_keeps (fun _ _ => ?_) ?_ | apply closeFrame_keeps | refine fun _ => ?_ | exact Keeps.refl _)
    | fail_if_no_progress with_reducible refine Keeps.upd rfl rfl rfl ?_
    | split
    | fail_if_no_progress with_reducible dsimp only

theorem lostPosition_keeps {s} (x0 x1) (h : Keeps s x1) : Keeps s (lostPosition x0 x1) := by
  unfold lostPosition; try dsimp only
  repeat' first
    | (with_reducible first
      | assumption | apply cutFrames_keeps | apply losePosition_keeps | refine fun _ => ?_ | exact Keeps.refl _)
    | fail_if_no_progress with_reducible refine Keeps.upd rfl rfl rfl ?_
    | split

theorem sliceFault_keeps {s} (x0 x1) (h : Keeps s x1) : Keeps s (sliceFault x0 x1) := by
  unfold sliceFault; try dsimp only
  repeat' first
    | (with_reducible first
      | assumption | apply raise_keeps | apply addFault_keeps | apply dieFault_keeps | refine forAll_keeps (fun _ _ => ?_) ?_
      | apply modFrame_keeps | apply frameDone_keeps | apply noteBacklog_keeps | apply assignSlices_keeps | apply freeFrames_keeps
      | refine fun _ => ?_ | exact Keeps.refl _)
    | fail_if_no_progress with_reducible refine Keeps.upd rfl rfl rfl ?_
    | split
    | fail_if_no_progress with_reducible dsimp only

theorem execSliceFault_keeps (x0 x1 x2) : KeepsO (tick x0 x2) (execSliceFault x0 x1 x2) := by
  unfold execSliceFault; try dsimp only
  repeat' first
    | (with_reducible first
      | assumption | apply ok_keeps | apply sliceFault_keeps | exact Keeps.refl _)
    | fail_if_no_progress with_reducible refine Keeps.upd rfl rfl rfl ?_
    | with_reducible refine Keeps.out ?_
    | split

theorem holdFrame_keeps {s} (x0 x1 x2 x3) (h : Keeps s x3) : Keeps s (holdFrame x0 x1 x2 x3).2 := by
  unfold holdFrame; try dsimp only
  repeat' first
    | (with_reducible first
      | assumption | apply freeFrames_keeps | apply modFrame_keeps | refine fun _ => ?_ | exact Keeps.refl _)
    | fail_if_no_progress with_reducible refine Keeps.upd rfl rfl rfl ?_
    | split

theorem takeRequests_keeps {s} (x0 x1) (h : Keeps s x1) : Keeps s (takeRequests x0 x1) := by
  unfold takeRequests; try dsimp only
  repeat' first
    | (with_reducible first
      | assumption | refine forAll_keeps (fun _ _ => ?_) ?_ | refine fun _ => ?_ | exact Keeps.refl _)
    | fail_if_no_progress with_reducible refine Keeps.upd rfl rfl rfl ?_
    | split
    | fail_if_no_progress with_reducible dsimp only

theorem camerasChanged_keeps {s} (x0 x1) (h : Keeps s x1) : Keeps s (camerasChanged x0 x1) := by
  unfold camerasChanged; try dsimp only
  repeat' first
    | (with_reducible first
      | assumption | apply cutFrames_keeps | refine forAll_keeps (fun _ _ => ?_) ?_ | apply State.setCamPort_keeps
      | apply State.setSensor_keeps | apply takeRequests_keeps | refine fun _ => ?_ | exact Keeps.refl _)
    | fail_if_no_progress with_reducible refine Keeps.upd rfl rfl rfl ?_
    | split
    | fail_if_no_progress with_reducible dsimp only

theorem predictCam_keeps {s} (x0 x1) (h : Keeps s x1) : Keeps s (predictCam x0 x1) := by
  unfold predictCam; try dsimp only
  repeat' first
    | (with_reducible first
      | assumption | apply State.setCamPort_keeps | exact Keeps.refl _)
    | fail_if_no_progress with_reducible refine Keeps.upd rfl rfl rfl ?_
    | split

theorem predictUnits_keeps {s} (x0) (h : Keeps s x0) : Keeps s (predictUnits x0) := by
  unfold predictUnits; try dsimp only
  repeat' first
    | (with_reducible first
      | assumption | refine forAll_keeps (fun _ _ => ?_) ?_ | apply predictCam_keeps | apply predictAll_keeps | refine fun _ => ?_
      | exact Keeps.refl _)
    | fail_if_no_progress with_reducible refine Keeps.upd rfl rfl rfl ?_
    | split
    | fail_if_no_progress with_reducible dsimp only

theorem noteStored_keeps {s} (x0 x1) (h : Keeps s x1) : Keeps s (noteStored x0 x1) := by
  unfold noteStored; try dsimp only
  repeat' first
    | (with_reducible first
      | assumption | exact Keeps.refl _)
    | fail_if_no_progress with_reducible refine Keeps.upd rfl rfl rfl ?_
    | split

theorem reportStates_keeps {s} (x0 x1 x2) (h : Keeps s x2) : Keeps s (reportStates x0 x1 x2) := by
  unfold reportStates; try dsimp only
  repeat' first
    | (with_reducible first
      | assumption | refine forAll_keeps (fun _ _ => ?_) ?_ | apply ev_keeps | refine fun _ => ?_ | exact Keeps.refl _)
    | fail_if_no_progress with_reducible refine Keeps.upd rfl rfl rfl ?_
    | split
    | fail_if_no_progress with_reducible dsimp only

theorem reportUncovered_keeps {s} (x0 x1 x2) (h : Keeps s x2) : Keeps s (reportUncovered x0 x1 x2) := by
  unfold reportUncovered; try dsimp only
  repeat' first
    | (with_reducible first
      | assumption | apply id_keeps | refine forAll_keeps (fun _ _ => ?_) ?_ | apply ev_keeps | refine fun _ => ?_ | exact Keeps.refl _)
    | fail_if_no_progress with_reducible refine Keeps.upd rfl rfl rfl ?_
    | split
    | fail_if_no_progress with_reducible dsimp only

theorem acceptAction_keeps {s} (x0 x1 x2) (h : Keeps s x2) : Keeps s (acceptAction x0 x1 x2) := by
  unfold acceptAction; try dsimp only
  repeat' first
    | (with_reducible first
      | assumption | exact Keeps.refl _)
    | fail_if_no_progress with_reducible refine Keeps.upd rfl rfl rfl ?_
    | split

theorem queueChange_keeps {s} (x0 x1) (h : Keeps s x1) : Keeps s (queueChange x0 x1) := by
  unfold queueChange; try dsimp only
  repeat' first
    | (with_reducible first
      | assumption | exact Keeps.refl _)
    | fail_if_no_progress with_reducible refine Keeps.upd rfl rfl rfl ?_
    | split

theorem runFaults_keeps {s} (x0) (h : Keeps s x0) : Keeps s (runFaults x0) := by
  unfold runFaults; try dsimp only
  repeat' first
    | (with_reducible first
      | assumption | refine forAll_keeps (fun _ _ => ?_) ?_ | apply causeGone_keeps | refine fun _ => ?_ | exact Keeps.refl _)
    | fail_if_no_progress with_reducible refine Keeps.upd rfl rfl rfl ?_
    | split
    | fail_if_no_progress with_reducible dsimp only

theorem acceptCommit_keeps {s} (x0 x1 x2) (h : Keeps s x2) : Keeps s (acceptCommit x0 x1 x2) := by
  unfold acceptCommit; try dsimp only
  repeat' first
    | (with_reducible first
      | assumption | apply acceptAction_keeps | apply withCommit_keeps | refine foldl_keeps (fun _ _ => ?_) ?_ | apply reportUncovered_keeps
      | apply reportStates_keeps | apply runAssignment_keeps | apply runFaults_keeps | apply mirror_keeps | exact Keeps.refl _)
    | fail_if_no_progress with_reducible refine Keeps.upd rfl rfl rfl ?_
    | split

theorem logUnfired_keeps {s} (x0 x1 x2) (h : Keeps s x2) : Keeps s (logUnfired x0 x1 x2) := by
  unfold logUnfired; try dsimp only
  repeat' first
    | (with_reducible first
      | assumption | refine forAll_keeps (fun _ _ => ?_) ?_ | apply addDefect_keeps | refine fun _ => ?_ | exact Keeps.refl _)
    | fail_if_no_progress with_reducible refine Keeps.upd rfl rfl rfl ?_
    | split
    | fail_if_no_progress with_reducible dsimp only

theorem abortPasses_keeps {s} (x0 x1) (h : Keeps s x1) : Keeps s (abortPasses x0 x1) := by
  unfold abortPasses; try dsimp only
  repeat' first
    | (with_reducible first
      | assumption | refine forAll_keeps (fun _ _ => ?_) ?_ | apply logUnfired_keeps | apply reinAbort_keeps | apply releasePage_keeps
      | refine fun _ => ?_ | exact Keeps.refl _)
    | fail_if_no_progress with_reducible refine Keeps.upd rfl rfl rfl ?_
    | split
    | fail_if_no_progress with_reducible dsimp only

theorem passAction_keeps {s} (x0 x1 x2) (h : Keeps s x2) : Keeps s (passAction x0 x1 x2) := by
  unfold passAction; try dsimp only
  repeat' first
    | (with_reducible first
      | assumption | apply setJob_keeps | apply abortPasses_keeps | exact Keeps.refl _)
    | fail_if_no_progress with_reducible refine Keeps.upd rfl rfl rfl ?_
    | split

theorem passCommit_keeps {s} (x0 x1) (h : Keeps s x1) : Keeps s (passCommit x0 x1) := by
  unfold passCommit; try dsimp only
  repeat' first
    | (with_reducible first
      | assumption | apply passAction_keeps | apply camerasChanged_keeps | refine forAll_keeps (fun _ _ => ?_) ?_ | apply trigChanged_keeps
      | apply noteStored_keeps | apply limitChanged_keeps | refine fun _ => ?_ | exact Keeps.refl _)
    | fail_if_no_progress with_reducible refine Keeps.upd rfl rfl rfl ?_
    | split
    | fail_if_no_progress with_reducible dsimp only

theorem passCommits_keeps {s} (x0) (h : Keeps s x0) : Keeps s (passCommits x0) := by
  unfold passCommits; try dsimp only
  repeat' first
    | (with_reducible first
      | assumption | refine forAll_keeps (fun _ _ => ?_) ?_ | apply passCommit_keeps | refine fun _ => ?_ | exact Keeps.refl _)
    | fail_if_no_progress with_reducible refine Keeps.upd rfl rfl rfl ?_
    | split
    | fail_if_no_progress with_reducible dsimp only

theorem settleBar_keeps {s} (x0 x1 x2 x3 x4 x5 x6 x7) (h : Keeps s x7) : Keeps s (settleBar x0 x1 x2 x3 x4 x5 x6 x7) := by
  unfold settleBar; try dsimp only
  repeat' first
    | (with_reducible first
      | assumption | apply mirror_keeps | apply ev_keeps | exact Keeps.refl _)
    | fail_if_no_progress with_reducible refine Keeps.upd rfl rfl rfl ?_
    | split

theorem discardBar_keeps {s} (x0 x1) (h : Keeps s x1) : Keeps s (discardBar x0 x1) := by
  unfold discardBar; try dsimp only
  repeat' first
    | (with_reducible first
      | assumption | apply settleBar_keeps | exact Keeps.refl _)
    | fail_if_no_progress with_reducible refine Keeps.upd rfl rfl rfl ?_
    | split

theorem commitChange_keeps {s} (x0 x1) (h : Keeps s x1) : Keeps s (commitChange x0 x1) := by
  unfold commitChange
  repeat' first
    | (with_reducible first
      | assumption | refine foldl_keeps (fun _ _ => ?_) ?_ | apply dropSource_keeps | refine forAll_keeps (fun _ _ => ?_) ?_
      | apply ev_keeps | apply settleBar_keeps | apply acceptCommit_keeps | refine fun _ => ?_ | exact Keeps.refl _)
    | fail_if_no_progress with_reducible refine Keeps.upd rfl rfl rfl ?_
    | (extract_lets +onlyGivenNames x; first
      | (refine Keeps.cutOn x ?_ ?_; (on_goal 2 => (intro _; clear_value x)); (on_goal 1 => subst x))
      | subst x)
    | split
    | fail_if_no_progress with_reducible dsimp only

theorem deviceCommitStep_keeps {s} (x0) (h : Keeps s x0) : Keeps s (deviceCommitStep x0) := by
  unfold deviceCommitStep; try dsimp only
  repeat' first
    | (with_reducible first
      | assumption | apply commitChange_keeps | exact Keeps.refl _)
    | fail_if_no_progress with_reducible refine Keeps.upd rfl rfl rfl ?_
    | split

theorem execDeviceCommit_keeps (x0 x1) : KeepsO (tick x0 x1) (execDeviceCommit x0 x1) := by
  unfold execDeviceCommit; try dsimp only
  repeat' first
    | (with_reducible first
      | assumption | apply ok_keeps | apply deviceCommitStep_keeps | exact Keeps.refl _)
    | fail_if_no_progress with_reducible refine Keeps.upd rfl rfl rfl ?_
    | with_reducible refine Keeps.out ?_
    | split

theorem checkPages_keeps {s} (x0) (h : Keeps s x0) : Keeps s (checkPages x0) := by
  unfold checkPages; try dsimp only
  repeat' first
    | (with_reducible first
      | assumption | refine forAll_keeps (fun _ _ => ?_) ?_ | apply mirrorLogs_keeps | apply ev_keeps | apply releasePage_keeps
      | refine fun _ => ?_ | exact Keeps.refl _)
    | fail_if_no_progress with_reducible refine Keeps.upd rfl rfl rfl ?_
    | split
    | fail_if_no_progress with_reducible dsimp only

theorem checkJob_keeps {s} (x0) (h : Keeps s x0) : Keeps s (checkJob x0) := by
  unfold checkJob; try dsimp only
  repeat' first
    | (with_reducible first
      | assumption | apply discardBar_keeps | apply setJob_keeps | exact Keeps.refl _)
    | fail_if_no_progress with_reducible refine Keeps.upd rfl rfl rfl ?_
    | split

theorem commitNoticeStep_keeps {s} (x0) (h : Keeps s x0) : Keeps s (commitNoticeStep x0) := by
  unfold commitNoticeStep; try dsimp only
  repeat' first
    | (with_reducible first
      | assumption | apply broadcast_keeps | exact Keeps.refl _)
    | fail_if_no_progress with_reducible refine Keeps.upd rfl rfl rfl ?_
    | split

theorem execCommitNotice_keeps (x0 x1) : KeepsO (tick x0 x1) (execCommitNotice x0 x1) := by
  unfold execCommitNotice; try dsimp only
  repeat' first
    | (with_reducible first
      | assumption | apply ok_keeps | apply commitNoticeStep_keeps | exact Keeps.refl _)
    | fail_if_no_progress with_reducible refine Keeps.upd rfl rfl rfl ?_
    | with_reducible refine Keeps.out ?_
    | split

theorem holdRow_keeps {s} (x0 x1 x2 x3) (h : Keeps s x3) : Keeps s (holdRow x0 x1 x2 x3) := by
  unfold holdRow; try dsimp only
  repeat' first
    | (with_reducible first
      | assumption | apply State.setRow_keeps | apply updateSplice_keeps | refine fun _ => ?_ | exact Keeps.refl _)
    | fail_if_no_progress with_reducible refine Keeps.upd rfl rfl rfl ?_
    | split

theorem reinBegin_keeps {s} (x0 x1 x2 x3) (h : Keeps s x3) : Keeps s (reinBegin x0 x1 x2 x3) := by
  unfold reinBegin; try dsimp only
  repeat' first
    | (with_reducible first
      | assumption | refine forAll_keeps (fun _ _ => ?_) ?_ | apply State.setRow_keeps | apply lifeEvent_keeps | apply ev_keeps
      | apply mirrorLogs_keeps | apply mirrorRein_keeps | apply holdRow_keeps | refine fun _ => ?_ | exact Keeps.refl _)
    | fail_if_no_progress with_reducible refine Keeps.upd rfl rfl rfl ?_
    | split
    | fail_if_no_progress with_reducible dsimp only

theorem passHeld_keeps {s} (x0) (h : Keeps s x0) : Keeps s (passHeld x0) := by
  unfold passHeld; try dsimp only
  repeat' first
    | (with_reducible first
      | assumption | refine forAll_keeps (fun _ _ => ?_) ?_ | apply logLateLine_keeps | apply State.setRow_keeps | refine fun _ => ?_
      | exact Keeps.refl _)
    | fail_if_no_progress with_reducible refine Keeps.upd rfl rfl rfl ?_
    | split
    | fail_if_no_progress with_reducible dsimp only

theorem reinWait_keeps {s} (x0) (h : Keeps s x0) : Keeps s (reinWait x0) := by
  unfold reinWait; try dsimp only
  repeat' first
    | (with_reducible first
      | assumption | apply mirrorRein_keeps | exact Keeps.refl _)
    | fail_if_no_progress with_reducible refine Keeps.upd rfl rfl rfl ?_
    | split

theorem muteReverse_keeps {s} (x0) (h : Keeps s x0) : Keeps s (muteReverse x0) := by
  unfold muteReverse; try dsimp only
  repeat' first
    | (with_reducible first
      | assumption | refine forAll_keeps (fun _ _ => ?_) ?_ | apply State.setChan_keeps | refine fun _ => ?_ | exact Keeps.refl _)
    | fail_if_no_progress with_reducible refine Keeps.upd rfl rfl rfl ?_
    | split
    | fail_if_no_progress with_reducible dsimp only

theorem reinReverse_keeps {s} (x0) (h : Keeps s x0) : Keeps s (reinReverse x0) := by
  unfold reinReverse; try dsimp only
  repeat' first
    | (with_reducible first
      | assumption | apply cutFrames_keeps | apply muteReverse_keeps | apply updateSplice_keeps | apply reinAbandon_keeps | apply ev_keeps
      | apply mirrorRein_keeps | apply reinWait_keeps | refine fun _ => ?_ | exact Keeps.refl _)
    | fail_if_no_progress with_reducible refine Keeps.upd rfl rfl rfl ?_
    | split

theorem reinLate_keeps {s} (x0 x1 x2 x3) (h : Keeps s x3) : Keeps s (reinLate x0 x1 x2 x3).2 := by
  unfold reinLate; try dsimp only
  repeat' first
    | (with_reducible first
      | assumption | apply mirrorRein_keeps | apply holdRow_keeps | apply reinBegin_keeps | apply reinReverse_keeps | apply ev_keeps
      | exact Keeps.refl _)
    | fail_if_no_progress with_reducible refine Keeps.upd rfl rfl rfl ?_
    | split

theorem reinStopped_keeps {s} (x0) (h : Keeps s x0) : Keeps s (reinStopped x0) := by
  unfold reinStopped; try dsimp only
  repeat' first
    | (with_reducible first
      | assumption | apply reinReverse_keeps | apply reinWait_keeps | exact Keeps.refl _)
    | fail_if_no_progress with_reducible refine Keeps.upd rfl rfl rfl ?_
    | split

theorem moveLow_keeps {s} (x0 x1) (h : Keeps s x1) : Keeps s (moveLow x0 x1) := by
  unfold moveLow; try dsimp only
  repeat' first
    | (with_reducible first
      | assumption | exact Keeps.refl _)
    | fail_if_no_progress with_reducible refine Keeps.upd rfl rfl rfl ?_
    | split

theorem reinEdge_keeps {s} (x0) (h : Keeps s x0) : Keeps s (reinEdge x0) := by
  unfold reinEdge; try dsimp only
  repeat' first
    | (with_reducible first
      | assumption | apply passHeld_keeps | apply reinAbandon_keeps | exact Keeps.refl _)
    | fail_if_no_progress with_reducible refine Keeps.upd rfl rfl rfl ?_
    | split

theorem lowerCameras_keeps {s} (x0 x1) (h : Keeps s x1) : Keeps s (lowerCameras x0 x1) := by
  unfold lowerCameras; try dsimp only
  repeat' first
    | (with_reducible first
      | assumption | refine forAll_keeps (fun _ _ => ?_) ?_ | apply State.setCamPort_keeps | refine fun _ => ?_ | exact Keeps.refl _)
    | fail_if_no_progress with_reducible refine Keeps.upd rfl rfl rfl ?_
    | split
    | fail_if_no_progress with_reducible dsimp only

theorem reinRearm_keeps {s} (x0) (h : Keeps s x0) : Keeps s (reinRearm x0) := by
  unfold reinRearm; try dsimp only
  repeat' first
    | (with_reducible first
      | assumption | apply lowerCameras_keeps | refine forAll_keeps (fun _ _ => ?_) ?_ | apply State.setRow_keeps | apply updateSplice_keeps
      | apply ev_keeps | apply mirrorAxis_keeps | apply mirrorRein_keeps | refine fun _ => ?_ | exact Keeps.refl _)
    | fail_if_no_progress with_reducible refine Keeps.upd rfl rfl rfl ?_
    | split
    | fail_if_no_progress with_reducible dsimp only

theorem reinReverseEnd_keeps {s} (x0) (h : Keeps s x0) : Keeps s (reinReverseEnd x0) := by
  unfold reinReverseEnd; try dsimp only
  repeat' first
    | (with_reducible first
      | assumption | apply reinAbandon_keeps | apply reinWait_keeps | refine forAll_keeps (fun _ _ => ?_) ?_ | apply skipRow_keeps
      | apply updateSplice_keeps | refine fun _ => ?_ | exact Keeps.refl _)
    | fail_if_no_progress with_reducible refine Keeps.upd rfl rfl rfl ?_
    | split
    | fail_if_no_progress with_reducible dsimp only

theorem execReinStopTimeout_keeps (x0 x1) : KeepsO (tick x0 x1) (execReinStopTimeout x0 x1) := by
  unfold execReinStopTimeout; try dsimp only
  repeat' first
    | (with_reducible first
      | assumption | apply guardOk_keeps | apply reinAbandon_keeps | refine fun _ => ?_ | exact Keeps.refl _)
    | fail_if_no_progress with_reducible refine Keeps.upd rfl rfl rfl ?_
    | with_reducible refine Keeps.out ?_
    | split

theorem execReinReverseTimeout_keeps (x0 x1) : KeepsO (tick x0 x1) (execReinReverseTimeout x0 x1) := by
  unfold execReinReverseTimeout; try dsimp only
  repeat' first
    | (with_reducible first
      | assumption | apply guardOk_keeps | apply reinReverseEnd_keeps | refine fun _ => ?_ | exact Keeps.refl _)
    | fail_if_no_progress with_reducible refine Keeps.upd rfl rfl rfl ?_
    | with_reducible refine Keeps.out ?_
    | split

theorem execReinHoldTimeout_keeps (x0 x1) : KeepsO (tick x0 x1) (execReinHoldTimeout x0 x1) := by
  unfold execReinHoldTimeout; try dsimp only
  repeat' first
    | (with_reducible first
      | assumption | apply guardOk_keeps | apply reinAbandon_keeps | refine fun _ => ?_ | exact Keeps.refl _)
    | fail_if_no_progress with_reducible refine Keeps.upd rfl rfl rfl ?_
    | with_reducible refine Keeps.out ?_
    | split

theorem reinLateRun_keeps {s} (x0) (h : Keeps s x0) : Keeps s (reinLateRun x0) := by
  unfold reinLateRun; try dsimp only
  repeat' first
    | (with_reducible first
      | assumption | apply ev_keeps | exact Keeps.refl _)
    | fail_if_no_progress with_reducible refine Keeps.upd rfl rfl rfl ?_
    | split

theorem execReinRunTimeout_keeps (x0 x1) : KeepsO (tick x0 x1) (execReinRunTimeout x0 x1) := by
  unfold execReinRunTimeout; try dsimp only
  repeat' first
    | (with_reducible first
      | assumption | apply guardOk_keeps | apply reinLateRun_keeps | refine fun _ => ?_ | exact Keeps.refl _)
    | fail_if_no_progress with_reducible refine Keeps.upd rfl rfl rfl ?_
    | with_reducible refine Keeps.out ?_
    | split

theorem execRearm_keeps (x0 x1) : KeepsO (tick x0 x1) (execRearm x0 x1) := by
  unfold execRearm; try dsimp only
  repeat' first
    | (with_reducible first
      | assumption | apply guardOk_keeps | apply reinRearm_keeps | refine fun _ => ?_ | exact Keeps.refl _)
    | fail_if_no_progress with_reducible refine Keeps.upd rfl rfl rfl ?_
    | with_reducible refine Keeps.out ?_
    | split

theorem strike_keeps {s} (x0 x1 x2) (h : Keeps s x2) : Keeps s (strike x0 x1 x2) := by
  unfold strike; try dsimp only
  repeat' first
    | (with_reducible first
      | assumption | apply strikeBytes_keeps | exact Keeps.refl _)
    | fail_if_no_progress with_reducible refine Keeps.upd rfl rfl rfl ?_
    | split

theorem readRing_keeps {s} (x0 x1 x2 x3 x4 x5) (h : Keeps s x5) : Keeps s (readRing x0 x1 x2 x3 x4 x5).2 := by
  unfold readRing; try dsimp only
  repeat' first
    | (with_reducible first
      | assumption | refine foldl_keeps (fun _ _ => ?_) ?_ | refine foldl2_keeps (fun _ _ => ?_) ?_ | apply readUnit_keeps
      | exact Keeps.refl _)
    | fail_if_no_progress with_reducible refine Keeps.upd rfl rfl rfl ?_
    | split
    | with_reducible refine Keeps.snd (by assumption) ?_
    | with_reducible refine Keeps.snd2 (by assumption) ?_

theorem decodeError_keeps {s} (x0 x1 x2 x3 x4 x5 x6) (h : Keeps s x6) : Keeps s (decodeError x0 x1 x2 x3 x4 x5 x6) := by
  unfold decodeError; try dsimp only
  repeat' first
    | (with_reducible first
      | assumption | apply State.setRing_keeps | apply ev_keeps | exact Keeps.refl _)
    | fail_if_no_progress with_reducible refine Keeps.upd rfl rfl rfl ?_
    | split

theorem badStripe_keeps {s} (x0 x1 x2 x3 x4 x5) (h : Keeps s x5) : Keeps s (badStripe x0 x1 x2 x3 x4 x5) := by
  unfold badStripe; try dsimp only
  repeat' first
    | (with_reducible first
      | assumption | apply State.setRing_keeps | exact Keeps.refl _)
    | fail_if_no_progress with_reducible refine Keeps.upd rfl rfl rfl ?_
    | split

theorem integrityError_keeps {s} (x0 x1 x2 x3 x4 x5) (h : Keeps s x5) : Keeps s (integrityError x0 x1 x2 x3 x4 x5) := by
  unfold integrityError; try dsimp only
  repeat' first
    | (with_reducible first
      | assumption | apply State.setRing_keeps | apply decodeError_keeps | apply integrityResend_keeps | exact Keeps.refl _)
    | fail_if_no_progress with_reducible refine Keeps.upd rfl rfl rfl ?_
    | split

theorem refuseStripe_keeps {s} (x0 x1 x2 x3 x4 x5 x6 x7) (h : Keeps s x7) : Keeps s (refuseStripe x0 x1 x2 x3 x4 x5 x6 x7) := by
  unfold refuseStripe; try dsimp only
  repeat' first
    | (with_reducible first
      | assumption | apply badStripe_keeps | apply ev_keeps | apply decodeError_keeps | exact Keeps.refl _)
    | fail_if_no_progress with_reducible refine Keeps.upd rfl rfl rfl ?_
    | split

theorem stageRow_keeps {s} (x0 x1 x2 x3 x4) (h : Keeps s x4) : Keeps s (stageRow x0 x1 x2 x3 x4) := by
  unfold stageRow; try dsimp only
  repeat' first
    | (with_reducible first
      | assumption | apply State.setRing_keeps | exact Keeps.refl _)
    | fail_if_no_progress with_reducible refine Keeps.upd rfl rfl rfl ?_
    | split

theorem countLine_keeps {s} (x0 x1 x2 x3 x4) (h : Keeps s x4) : Keeps s (countLine x0 x1 x2 x3 x4) := by
  unfold countLine; try dsimp only
  repeat' first
    | (with_reducible first
      | assumption | exact Keeps.refl _)
    | fail_if_no_progress with_reducible refine Keeps.upd rfl rfl rfl ?_
    | split

theorem runLine_keeps {s} (x0 x1 x2 x3 x4 x5 x6 x7 x8 x9) (h : Keeps s x9) : Keeps s (runLine x0 x1 x2 x3 x4 x5 x6 x7 x8 x9) := by
  unfold runLine; try dsimp only
  repeat' first
    | (with_reducible first
      | assumption | apply readRing_keeps | apply State.setRing_keeps | apply integrityError_keeps | apply decodeError_keeps
      | apply badStripe_keeps | apply countLine_keeps | apply settleRings_keeps | apply stageRow_keeps | exact Keeps.refl _)
    | fail_if_no_progress with_reducible refine Keeps.upd rfl rfl rfl ?_
    | split
    | with_reducible refine Keeps.snd (by assumption) ?_
    | with_reducible refine Keeps.snd2 (by assumption) ?_

theorem takeLine_keeps {s} (x0 x1 x2 x3 x4) (h : Keeps s x4) : Keeps s (takeLine x0 x1 x2 x3 x4) := by
  unfold takeLine
  repeat' first
    | (with_reducible first
      | assumption | apply readRing_keeps | apply integrityError_keeps | apply refuseStripe_keeps | apply runLine_keeps | exact Keeps.refl _)
    | fail_if_no_progress with_reducible refine Keeps.upd rfl rfl rfl ?_
    | (extract_lets +onlyGivenNames x; first
      | (refine Keeps.cutOn x ?_ ?_; (on_goal 2 => (intro _; clear_value x)); (on_goal 1 => subst x))
      | subst x)
    | split
    | with_reducible refine Keeps.snd (by assumption) ?_
    | with_reducible refine Keeps.snd2 (by assumption) ?_

theorem stagingReads_keeps {s} (x0 x1 x2 x3 x4 x5) (h : Keeps s x5) : Keeps s (stagingReads x0 x1 x2 x3 x4 x5) := by
  unfold stagingReads; try dsimp only
  repeat' first
    | (with_reducible first
      | assumption | apply readMarked_keeps | apply strikeWords_keeps | apply forgetWords_keeps | apply readRing_keeps
      | refine forAll_keeps (fun _ _ => ?_) ?_ | apply setSramMark_keeps | refine fun _ => ?_ | exact Keeps.refl _)
    | fail_if_no_progress with_reducible refine Keeps.upd rfl rfl rfl ?_
    | split
    | fail_if_no_progress with_reducible dsimp only
    | with_reducible refine Keeps.snd (by assumption) ?_
    | with_reducible refine Keeps.snd2 (by assumption) ?_

theorem decodeStep_keeps {s} (x0 x1 x2 x3 x4) (h : Keeps s x4) : Keeps s (decodeStep x0 x1 x2 x3 x4) := by
  unfold decodeStep; try dsimp only
  repeat' first
    | (with_reducible first
      | assumption | apply takeLine_keeps | apply stagingReads_keeps | apply strike_keeps | exact Keeps.refl _)
    | fail_if_no_progress with_reducible refine Keeps.upd rfl rfl rfl ?_
    | split

theorem withLatencies_keeps {α : Type} {s} (x0 : List Nat) (x1 : State → α × State) (x2 : State) (h : Keeps s x2) (k1 : ∀ u, Keeps s u → Keeps s (x1 u).2) : Keeps s (withLatencies x0 x1 x2).2 := by
  unfold withLatencies; try dsimp only
  repeat' first
    | (with_reducible first
      | assumption | apply k1 | refine fun _ => ?_ | exact Keeps.refl _)
    | fail_if_no_progress with_reducible refine Keeps.upd rfl rfl rfl ?_
    | split

theorem execDecodeLine_keeps (x0 x1 x2 x3 x4) : KeepsO (tick x0 x4) (execDecodeLine x0 x1 x2 x3 x4) := by
  unfold execDecodeLine; try dsimp only
  repeat' first
    | (with_reducible first
      | assumption | apply ok_keeps | apply withLatencies_keeps | apply decodeStep_keeps | refine fun _ => ?_ | exact Keeps.refl _)
    | fail_if_no_progress with_reducible refine Keeps.upd rfl rfl rfl ?_
    | with_reducible refine Keeps.out ?_
    | split
    | fail_if_no_progress with_reducible dsimp only
    | with_reducible refine Keeps.snd (by assumption) ?_
    | with_reducible refine Keeps.snd2 (by assumption) ?_

theorem noteDue_keeps {s} (x0 x1) (h : Keeps s x1) : Keeps s (noteDue x0 x1) := by
  unfold noteDue; try dsimp only
  repeat' first
    | (with_reducible first
      | assumption | refine forAll_keeps (fun _ _ => ?_) ?_ | apply State.setEngine_keeps | refine fun _ => ?_ | exact Keeps.refl _)
    | fail_if_no_progress with_reducible refine Keeps.upd rfl rfl rfl ?_
    | split
    | fail_if_no_progress with_reducible dsimp only

theorem requestRows_keeps {s} (x0 x1) (h : Keeps s x1) : Keeps s (requestRows x0 x1) := by
  unfold requestRows; try dsimp only
  repeat' first
    | (with_reducible first
      | assumption | apply State.setEngine_keeps | exact Keeps.refl _)
    | fail_if_no_progress with_reducible refine Keeps.upd rfl rfl rfl ?_
    | split

theorem askNext_keeps {s} (x0 x1 x2) (h : Keeps s x2) : Keeps s (askNext x0 x1 x2) := by
  unfold askNext; try dsimp only
  repeat' first
    | (with_reducible first
      | assumption | apply State.setEngine_keeps | exact Keeps.refl _)
    | fail_if_no_progress with_reducible refine Keeps.upd rfl rfl rfl ?_
    | split

theorem entryErrors_keeps {s} (x0 x1) (h : Keeps s x1) : Keeps s (entryErrors x0 x1) := by
  unfold entryErrors; try dsimp only
  repeat' first
    | (with_reducible first
      | assumption | apply readMarked_keeps | refine forAll_keeps (fun _ _ => ?_) ?_ | apply nozzleWordUe_keeps | refine fun _ => ?_
      | exact Keeps.refl _)
    | fail_if_no_progress with_reducible refine Keeps.upd rfl rfl rfl ?_
    | split
    | fail_if_no_progress with_reducible dsimp only
    | with_reducible refine Keeps.snd (by assumption) ?_
    | with_reducible refine Keeps.snd2 (by assumption) ?_

theorem windowRefill_keeps {s} (x0 x1) (h : Keeps s x1) : Keeps s (windowRefill x0 x1) := by
  unfold windowRefill; try dsimp only
  repeat' first
    | (with_reducible first
      | assumption | apply readUnits_keeps | apply State.setEngine_keeps | exact Keeps.refl _)
    | fail_if_no_progress with_reducible refine Keeps.upd rfl rfl rfl ?_
    | split
    | with_reducible refine Keeps.snd (by assumption) ?_
    | with_reducible refine Keeps.snd2 (by assumption) ?_

theorem execWindowRefill_keeps (x0 x1 x2) : KeepsO (tick x0 x2) (execWindowRefill x0 x1 x2) := by
  unfold execWindowRefill; try dsimp only
  repeat' first
    | (with_reducible first
      | assumption | apply ok_keeps | apply windowRefill_keeps | exact Keeps.refl _)
    | fail_if_no_progress with_reducible refine Keeps.upd rfl rfl rfl ?_
    | with_reducible refine Keeps.out ?_
    | split

theorem engineFaultAt_keeps {s} (x0 x1 x2 x3) (h : Keeps s x3) : Keeps s (engineFaultAt x0 x1 x2 x3) := by
  unfold engineFaultAt; try dsimp only
  repeat' first
    | (with_reducible first
      | assumption | apply bumpStats_keeps | refine foldl_keeps (fun _ _ => ?_) ?_ | apply raise_keeps
      | refine forAll_keeps (fun _ _ => ?_) ?_ | apply State.setEngine_keeps | apply addFault_keeps | apply rollBack_keeps
      | apply updateCapacity_keeps | apply leadRelease_keeps | refine fun _ => ?_ | exact Keeps.refl _)
    | fail_if_no_progress with_reducible refine Keeps.upd rfl rfl rfl ?_
    | split
    | fail_if_no_progress with_reducible dsimp only

theorem engineFault_keeps {s} (x0 x1 x2) (h : Keeps s x2) : Keeps s (engineFault x0 x1 x2) := by
  unfold engineFault; try dsimp only
  repeat' first
    | (with_reducible first
      | assumption | apply engineFaultAt_keeps | exact Keeps.refl _)
    | fail_if_no_progress with_reducible refine Keeps.upd rfl rfl rfl ?_
    | split

theorem clusterFault_keeps {s} (x0 x1) (h : Keeps s x1) : Keeps s (clusterFault x0 x1) := by
  unfold clusterFault; try dsimp only
  repeat' first
    | (with_reducible first
      | assumption | refine forAll_keeps (fun _ _ => ?_) ?_ | apply engineFaultAt_keeps | refine fun _ => ?_ | exact Keeps.refl _)
    | fail_if_no_progress with_reducible refine Keeps.upd rfl rfl rfl ?_
    | split
    | fail_if_no_progress with_reducible dsimp only

theorem bufferErrors_keeps {s} (x0 x1) (h : Keeps s x1) : Keeps s (bufferErrors x0 x1).2 := by
  unfold bufferErrors; try dsimp only
  repeat' first
    | (with_reducible first
      | assumption | apply readMarked_keeps | refine forAll_keeps (fun _ _ => ?_) ?_ | apply noteClusterUe_keeps | apply setSramMark_keeps
      | apply clusterFault_keeps | apply engineFault_keeps | refine fun _ => ?_ | exact Keeps.refl _)
    | fail_if_no_progress with_reducible refine Keeps.upd rfl rfl rfl ?_
    | split
    | fail_if_no_progress with_reducible dsimp only
    | with_reducible refine Keeps.snd (by assumption) ?_
    | with_reducible refine Keeps.snd2 (by assumption) ?_

theorem screenLine_keeps {s} (x0 x1 x2) (h : Keeps s x2) : Keeps s (screenLine x0 x1 x2) := by
  unfold screenLine; try dsimp only
  repeat' first
    | (with_reducible first
      | assumption | apply settleRings_keeps | apply screenAt_keeps | apply entryErrors_keeps | apply requestRows_keeps
      | apply askNext_keeps | apply State.setEngine_keeps | apply engineFault_keeps | apply checkLead_keeps | apply closeLine_keeps
      | exact Keeps.refl _)
    | fail_if_no_progress with_reducible refine Keeps.upd rfl rfl rfl ?_
    | split

theorem screenStep_keeps {s} (x0 x1 x2 x3) (h : Keeps s x3) : Keeps s (screenStep x0 x1 x2 x3) := by
  unfold screenStep; try dsimp only
  repeat' first
    | (with_reducible first
      | assumption | apply strikeWords_keeps | apply bufferErrors_keeps | apply forgetWords_keeps | apply screenLine_keeps
      | refine fun _ => ?_ | exact Keeps.refl _)
    | fail_if_no_progress with_reducible refine Keeps.upd rfl rfl rfl ?_
    | split
    | with_reducible refine Keeps.snd (by assumption) ?_
    | with_reducible refine Keeps.snd2 (by assumption) ?_

theorem execScreenLine_keeps (x0 x1 x2 x3) : KeepsO (tick x0 x3) (execScreenLine x0 x1 x2 x3) := by
  unfold execScreenLine; try dsimp only
  repeat' first
    | (with_reducible first
      | assumption | apply ok_keeps | apply noteDue_keeps | apply screenStep_keeps | exact Keeps.refl _)
    | fail_if_no_progress with_reducible refine Keeps.upd rfl rfl rfl ?_
    | with_reducible refine Keeps.out ?_
    | split

theorem engineFaults_keeps {s} (x0 x1) (h : Keeps s x1) : Keeps s (engineFaults x0 x1) := by
  unfold engineFaults; try dsimp only
  repeat' first
    | (with_reducible first
      | assumption | refine forAll_keeps (fun _ _ => ?_) ?_ | apply bufferErrors_keeps | apply strikeWords_keeps | apply engineFaultAt_keeps
      | refine fun _ => ?_ | exact Keeps.refl _)
    | fail_if_no_progress with_reducible refine Keeps.upd rfl rfl rfl ?_
    | split
    | fail_if_no_progress with_reducible dsimp only
    | with_reducible refine Keeps.snd (by assumption) ?_
    | with_reducible refine Keeps.snd2 (by assumption) ?_

theorem execEngineFault_keeps (x0 x1 x2 x3) : KeepsO (tick x0 x3) (execEngineFault x0 x1 x2 x3) := by
  unfold execEngineFault; try dsimp only
  repeat' first
    | (with_reducible first
      | assumption | apply ok_keeps | apply engineFaults_keeps | exact Keeps.refl _)
    | fail_if_no_progress with_reducible refine Keeps.upd rfl rfl rfl ?_
    | with_reducible refine Keeps.out ?_
    | split

theorem execEngineStall_keeps (x0 x1 x2) : KeepsO (tick x0 x2) (execEngineStall x0 x1 x2) := by
  unfold execEngineStall; try dsimp only
  repeat' first
    | (with_reducible first
      | assumption | apply ok_keeps | apply engineFaults_keeps | exact Keeps.refl _)
    | fail_if_no_progress with_reducible refine Keeps.upd rfl rfl rfl ?_
    | with_reducible refine Keeps.out ?_
    | split

theorem remountDone_keeps {s} (x0 x1) (h : Keeps s x1) : Keeps s (remountDone x0 x1) := by
  unfold remountDone; try dsimp only
  repeat' first
    | (with_reducible first
      | assumption | apply ev_keeps | apply State.setEngine_keeps | exact Keeps.refl _)
    | fail_if_no_progress with_reducible refine Keeps.upd rfl rfl rfl ?_
    | split

theorem execEngineRemount_keeps (x0 x1 x2) : KeepsO (tick x0 x2) (execEngineRemount x0 x1 x2) := by
  unfold execEngineRemount; try dsimp only
  repeat' first
    | (with_reducible first
      | assumption | apply ok_keeps | apply remountDone_keeps | exact Keeps.refl _)
    | fail_if_no_progress with_reducible refine Keeps.upd rfl rfl rfl ?_
    | with_reducible refine Keeps.out ?_
    | split

theorem execTileCheck_keeps (x0 x1 x2 x3) : KeepsO (tick x0 x3) (execTileCheck x0 x1 x2 x3) := by
  unfold execTileCheck; try dsimp only
  repeat' first
    | (with_reducible first
      | assumption | apply guardOk_keeps | apply bumpStats_keeps | apply ok_keeps | apply engineFaults_keeps | refine fun _ => ?_
      | exact Keeps.refl _)
    | fail_if_no_progress with_reducible refine Keeps.upd rfl rfl rfl ?_
    | with_reducible refine Keeps.out ?_
    | split

theorem execRegionFault_keeps (x0 x1 x2) : KeepsO (tick x0 x2) (execRegionFault x0 x1 x2) := by
  unfold execRegionFault; try dsimp only
  repeat' first
    | (with_reducible first
      | assumption | apply ok_keeps | apply regionFault_keeps | exact Keeps.refl _)
    | fail_if_no_progress with_reducible refine Keeps.upd rfl rfl rfl ?_
    | with_reducible refine Keeps.out ?_
    | split

theorem decoderFault_keeps {s} (x0 x1 x2) (h : Keeps s x2) : Keeps s (decoderFault x0 x1 x2) := by
  unfold decoderFault; try dsimp only
  repeat' first
    | (with_reducible first
      | assumption | apply raise_keeps | apply updateCapacity_keeps | apply addFault_keeps | apply regionFault_keeps | exact Keeps.refl _)
    | fail_if_no_progress with_reducible refine Keeps.upd rfl rfl rfl ?_
    | split

theorem execDecoderFault_keeps (x0 x1 x2 x3) : KeepsO (tick x0 x3) (execDecoderFault x0 x1 x2 x3) := by
  unfold execDecoderFault; try dsimp only
  repeat' first
    | (with_reducible first
      | assumption | apply guardOk_keeps | apply decoderFault_keeps | refine fun _ => ?_ | exact Keeps.refl _)
    | fail_if_no_progress with_reducible refine Keeps.upd rfl rfl rfl ?_
    | with_reducible refine Keeps.out ?_
    | split

theorem lifeEnc_keeps {s} (x0 x1 x2) (h : Keeps s x2) : Keeps s (lifeEnc x0 x1 x2) := by
  unfold lifeEnc; try dsimp only
  repeat' first
    | (with_reducible first
      | assumption | exact Keeps.refl _)
    | fail_if_no_progress with_reducible refine Keeps.upd rfl rfl rfl ?_
    | split

theorem encFlag_keeps {s} (x0 x1 x2 x3 x4 x5) (h : Keeps s x5) : Keeps s (encFlag x0 x1 x2 x3 x4 x5) := by
  unfold encFlag; try dsimp only
  repeat' first
    | (with_reducible first
      | assumption | apply State.setChan_keeps | apply ev_keeps | exact Keeps.refl _)
    | fail_if_no_progress with_reducible refine Keeps.upd rfl rfl rfl ?_
    | split

theorem rebase_keeps {s} (x0 x1 x2) (h : Keeps s x2) : Keeps s (rebase x0 x1 x2) := by
  unfold rebase; try dsimp only
  repeat' first
    | (with_reducible first
      | assumption | apply State.setChan_keeps | exact Keeps.refl _)
    | fail_if_no_progress with_reducible refine Keeps.upd rfl rfl rfl ?_
    | split

theorem gearStep_keeps {s} (x0 x1) (h : Keeps s x1) : Keeps s (gearStep x0 x1) := by
  unfold gearStep; try dsimp only
  repeat' first
    | (with_reducible first
      | assumption | apply State.setChan_keeps | exact Keeps.refl _)
    | fail_if_no_progress with_reducible refine Keeps.upd rfl rfl rfl ?_
    | split

theorem wrapStep_keeps {s} (x0 x1) (h : Keeps s x1) : Keeps s (wrapStep x0 x1) := by
  unfold wrapStep; try dsimp only
  repeat' first
    | (with_reducible first
      | assumption | apply rebase_keeps | exact Keeps.refl _)
    | fail_if_no_progress with_reducible refine Keeps.upd rfl rfl rfl ?_
    | split

theorem shiftCount_keeps {s} (x0 x1 x2) (h : Keeps s x2) : Keeps s (shiftCount x0 x1 x2) := by
  unfold shiftCount; try dsimp only
  repeat' first
    | (with_reducible first
      | assumption | apply State.setChan_keeps | exact Keeps.refl _)
    | fail_if_no_progress with_reducible refine Keeps.upd rfl rfl rfl ?_
    | split

theorem alignShadow_keeps {s} (x0) (h : Keeps s x0) : Keeps s (alignShadow x0) := by
  unfold alignShadow; try dsimp only
  repeat' first
    | (with_reducible first
      | assumption | apply State.setChan_keeps | apply ev_keeps | exact Keeps.refl _)
    | fail_if_no_progress with_reducible refine Keeps.upd rfl rfl rfl ?_
    | split

theorem presetShadow_keeps {s} (x0) (h : Keeps s x0) : Keeps s (presetShadow x0) := by
  unfold presetShadow; try dsimp only
  repeat' first
    | (with_reducible first
      | assumption | apply State.setChan_keeps | exact Keeps.refl _)
    | fail_if_no_progress with_reducible refine Keeps.upd rfl rfl rfl ?_
    | split

theorem changeover_keeps {s} (x0 x1 x2) (h : Keeps s x2) : Keeps s (changeover x0 x1 x2) := by
  unfold changeover; try dsimp only
  repeat' first
    | (with_reducible first
      | assumption | apply State.setChan_keeps | apply moveLow_keeps | apply mirrorAxis_keeps | apply ev_keeps | exact Keeps.refl _)
    | fail_if_no_progress with_reducible refine Keeps.upd rfl rfl rfl ?_
    | split

theorem sourceFaulty_keeps {s} (x0) (h : Keeps s x0) : Keeps s (sourceFaulty x0) := by
  unfold sourceFaulty; try dsimp only
  repeat' first
    | (with_reducible first
      | assumption | apply addFault_keeps | apply holdWheeler_keeps | apply changeover_keeps | apply lostPosition_keeps | exact Keeps.refl _)
    | fail_if_no_progress with_reducible refine Keeps.upd rfl rfl rfl ?_
    | split

theorem declareFaulty_keeps {s} (x0 x1 x2 x3) (h : Keeps s x3) : Keeps s (declareFaulty x0 x1 x2 x3) := by
  unfold declareFaulty; try dsimp only
  repeat' first
    | (with_reducible first
      | assumption | apply State.setChan_keeps | apply lifeEnc_keeps | apply encFlag_keeps | apply sourceFaulty_keeps | exact Keeps.refl _)
    | fail_if_no_progress with_reducible refine Keeps.upd rfl rfl rfl ?_
    | split

theorem overspeed_keeps {s} (x0 x1 x2 x3) (h : Keeps s x3) : Keeps s (overspeed x0 x1 x2 x3) := by
  unfold overspeed; try dsimp only
  repeat' first
    | (with_reducible first
      | assumption | apply encFlag_keeps | exact Keeps.refl _)
    | fail_if_no_progress with_reducible refine Keeps.upd rfl rfl rfl ?_
    | split

theorem residualStep_keeps {s} (x0 x1 x2 x3) (h : Keeps s x3) : Keeps s (residualStep x0 x1 x2 x3) := by
  unfold residualStep; try dsimp only
  repeat' first
    | (with_reducible first
      | assumption | apply State.setChan_keeps | apply ev_keeps | exact Keeps.refl _)
    | fail_if_no_progress with_reducible refine Keeps.upd rfl rfl rfl ?_
    | split

theorem reverseStep_keeps {s} (x0 x1) (h : Keeps s x1) : Keeps s (reverseStep x0 x1) := by
  unfold reverseStep; try dsimp only
  repeat' first
    | (with_reducible first
      | assumption | apply State.setChan_keeps | apply encFlag_keeps | exact Keeps.refl _)
    | fail_if_no_progress with_reducible refine Keeps.upd rfl rfl rfl ?_
    | split

theorem directionStep_keeps {s} (x0 x1 x2) (h : Keeps s x2) : Keeps s (directionStep x0 x1 x2) := by
  unfold directionStep; try dsimp only
  repeat' first
    | (with_reducible first
      | assumption | apply State.setChan_keeps | apply encFlag_keeps | exact Keeps.refl _)
    | fail_if_no_progress with_reducible refine Keeps.upd rfl rfl rfl ?_
    | split

theorem travelStep_keeps {s} (x0 x1 x2) (h : Keeps s x2) : Keeps s (travelStep x0 x1 x2) := by
  unfold travelStep; try dsimp only
  repeat' first
    | (with_reducible first
      | assumption | apply State.setChan_keeps | apply directionStep_keeps | apply reverseStep_keeps | exact Keeps.refl _)
    | fail_if_no_progress with_reducible refine Keeps.upd rfl rfl rfl ?_
    | split

theorem oppositeStep_keeps {s} (x0 x1 x2) (h : Keeps s x2) : Keeps s (oppositeStep x0 x1 x2) := by
  unfold oppositeStep; try dsimp only
  repeat' first
    | (with_reducible first
      | assumption | apply State.setChan_keeps | apply encFlag_keeps | exact Keeps.refl _)
    | fail_if_no_progress with_reducible refine Keeps.upd rfl rfl rfl ?_
    | split

theorem alignStep_keeps {s} (x0 x1 x2) (h : Keeps s x2) : Keeps s (alignStep x0 x1 x2) := by
  unfold alignStep; try dsimp only
  repeat' first
    | (with_reducible first
      | assumption | apply State.setChan_keeps | apply alignShadow_keeps | exact Keeps.refl _)
    | fail_if_no_progress with_reducible refine Keeps.upd rfl rfl rfl ?_
    | split

theorem rangeStep_keeps {s} (x0) (h : Keeps s x0) : Keeps s (rangeStep x0) := by
  unfold rangeStep; try dsimp only
  repeat' first
    | (with_reducible first
      | assumption | apply ev_keeps | exact Keeps.refl _)
    | fail_if_no_progress with_reducible refine Keeps.upd rfl rfl rfl ?_
    | split

theorem syncRow_keeps {s} (x0 x1) (h : Keeps s x1) : Keeps s (syncRow x0 x1) := by
  unfold syncRow; try dsimp only
  repeat' first
    | (with_reducible first
      | assumption | apply State.setRow_keeps | exact Keeps.refl _)
    | fail_if_no_progress with_reducible refine Keeps.upd rfl rfl rfl ?_
    | split

theorem afterMove_keeps {s} (x0) (h : Keeps s x0) : Keeps s (afterMove x0) := by
  unfold afterMove; try dsimp only
  repeat' first
    | (with_reducible first
      | assumption | apply checkDry_keeps | apply checkJob_keeps | apply checkPages_keeps | apply passCommits_keeps | apply reinEdge_keeps
      | apply judgeSpeed_keeps | apply noteDue_keeps | apply checkLeads_keeps | apply settleBad_keeps | apply checkReinDone_keeps
      | apply predictUnits_keeps | exact Keeps.refl _)
    | fail_if_no_progress with_reducible refine Keeps.upd rfl rfl rfl ?_
    | split

theorem sourceEdge_keeps {s} (x0) (h : Keeps s x0) : Keeps s (sourceEdge x0) := by
  unfold sourceEdge; try dsimp only
  repeat' first
    | (with_reducible first
      | assumption | apply judgeSpeed_keeps | apply State.setChan_keeps | apply rangeStep_keeps | apply wrapStep_keeps
      | apply gearStep_keeps | refine forAll_keeps (fun _ _ => ?_) ?_ | apply syncRow_keeps | apply afterMove_keeps | refine fun _ => ?_
      | exact Keeps.refl _)
    | fail_if_no_progress with_reducible refine Keeps.upd rfl rfl rfl ?_
    | split
    | fail_if_no_progress with_reducible dsimp only

theorem latch_keeps {s} (x0 x1 x2 x3) (h : Keeps s x3) : Keeps s (latch x0 x1 x2 x3) := by
  unfold latch; try dsimp only
  repeat' first
    | (with_reducible first
      | assumption | apply State.setChan_keeps | exact Keeps.refl _)
    | fail_if_no_progress with_reducible refine Keeps.upd rfl rfl rfl ?_
    | split

theorem illegalStep_keeps {s} (x0 x1 x2) (h : Keeps s x2) : Keeps s (illegalStep x0 x1 x2) := by
  unfold illegalStep; try dsimp only
  repeat' first
    | (with_reducible first
      | assumption | apply State.setChan_keeps | apply lifeEnc_keeps | apply ev_keeps | apply declareFaulty_keeps | exact Keeps.refl _)
    | fail_if_no_progress with_reducible refine Keeps.upd rfl rfl rfl ?_
    | split

theorem countEdgeStep_keeps {s} (x0 x1 x2 x3) (h : Keeps s x3) : Keeps s (countEdgeStep x0 x1 x2 x3) := by
  unfold countEdgeStep
  repeat' first
    | (with_reducible first
      | assumption | apply State.setChan_keeps | apply overspeed_keeps | apply residualStep_keeps | apply latch_keeps
      | apply oppositeStep_keeps | apply travelStep_keeps | apply wrapStep_keeps | apply gearStep_keeps | apply alignStep_keeps
      | apply illegalStep_keeps | apply sourceEdge_keeps | exact Keeps.refl _)
    | fail_if_no_progress with_reducible refine Keeps.upd rfl rfl rfl ?_
    | (extract_lets +onlyGivenNames x; first
      | (refine Keeps.cutOn x ?_ ?_; (on_goal 2 => (intro _; clear_value x)); (on_goal 1 => subst x))
      | subst x)
    | split

theorem execCountEdge_keeps (x0 x1 x2 x3 x4) : KeepsO (tick x0 x4) (execCountEdge x0 x1 x2 x3 x4) := by
  unfold execCountEdge; try dsimp only
  repeat' first
    | (with_reducible first
      | assumption | apply guardOk_keeps | apply countEdgeStep_keeps | refine fun _ => ?_ | exact Keeps.refl _)
    | fail_if_no_progress with_reducible refine Keeps.upd rfl rfl rfl ?_
    | with_reducible refine Keeps.out ?_
    | split

theorem logIndex_keeps {s} (x0 x1 x2 x3 x4) (h : Keeps s x4) : Keeps s (logIndex x0 x1 x2 x3 x4) := by
  unfold logIndex; try dsimp only
  repeat' first
    | (with_reducible first
      | assumption | exact Keeps.refl _)
    | fail_if_no_progress with_reducible refine Keeps.upd rfl rfl rfl ?_
    | fail_if_no_progress with_reducible refine Keeps.updi rfl rfl (fun i => by
        cases i; constructor <;> first | assumption | (simp_all [Memory.wf, twf]; done) | (simp_all; omega)) ?_
    | split

theorem cleanIndex_keeps {s} (x0 x1) (h : Keeps s x1) : Keeps s (cleanIndex x0 x1) := by
  unfold cleanIndex; try dsimp only
  repeat' first
    | (with_reducible first
      | assumption | apply alignShadow_keeps | exact Keeps.refl _)
    | fail_if_no_progress with_reducible refine Keeps.upd rfl rfl rfl ?_
    | split

theorem checkIndex_keeps {s} (x0 x1 x2) (h : Keeps s x2) : Keeps s (checkIndex x0 x1 x2) := by
  unfold checkIndex; try dsimp only
  repeat' first
    | (with_reducible first
      | assumption | apply shiftCount_keeps | apply logIndex_keeps | apply State.setChan_keeps | apply cleanIndex_keeps
      | apply lifeEnc_keeps | apply encFlag_keeps | exact Keeps.refl _)
    | fail_if_no_progress with_reducible refine Keeps.upd rfl rfl rfl ?_
    | split

theorem loadReference_keeps {s} (x0 x1 x2) (h : Keeps s x2) : Keeps s (loadReference x0 x1 x2) := by
  unfold loadReference; try dsimp only
  repeat' first
    | (with_reducible first
      | assumption | apply shiftCount_keeps | apply State.setChan_keeps | apply logIndex_keeps | apply mirrorAxis_keeps | exact Keeps.refl _)
    | fail_if_no_progress with_reducible refine Keeps.upd rfl rfl rfl ?_
    | split

theorem indexStep_keeps {s} (x0 x1 x2) (h : Keeps s x2) : Keeps s (indexStep x0 x1 x2) := by
  unfold indexStep; try dsimp only
  repeat' first
    | (with_reducible first
      | assumption | apply encFlag_keeps | apply loadReference_keeps | apply checkIndex_keeps | exact Keeps.refl _)
    | fail_if_no_progress with_reducible refine Keeps.upd rfl rfl rfl ?_
    | split

theorem execIndex_keeps (x0 x1 x2 x3) : KeepsO (tick x0 x3) (execIndex x0 x1 x2 x3) := by
  unfold execIndex; try dsimp only
  repeat' first
    | (with_reducible first
      | assumption | apply guardOk_keeps | apply indexStep_keeps | refine fun _ => ?_ | exact Keeps.refl _)
    | fail_if_no_progress with_reducible refine Keeps.upd rfl rfl rfl ?_
    | with_reducible refine Keeps.out ?_
    | split

theorem setWirePair_keeps {s} (x0 x1 x2 x3) (h : Keeps s x3) : Keeps s (setWirePair x0 x1 x2 x3) := by
  unfold setWirePair; try dsimp only
  repeat' first
    | (with_reducible first
      | assumption | apply State.setChan_keeps | exact Keeps.refl _)
    | fail_if_no_progress with_reducible refine Keeps.upd rfl rfl rfl ?_
    | split

theorem wire50_keeps {s} (x0 x1 x2) (h : Keeps s x2) : Keeps s (wire50 x0 x1 x2) := by
  unfold wire50; try dsimp only
  repeat' first
    | (with_reducible first
      | assumption | apply setWirePair_keeps | apply lifeEnc_keeps | apply State.setChan_keeps | apply declareFaulty_keeps
      | exact Keeps.refl _)
    | fail_if_no_progress with_reducible refine Keeps.upd rfl rfl rfl ?_
    | split

theorem wire1us_keeps {s} (x0 x1 x2) (h : Keeps s x2) : Keeps s (wire1us x0 x1 x2) := by
  unfold wire1us; try dsimp only
  repeat' first
    | (with_reducible first
      | assumption | apply setWirePair_keeps | apply ev_keeps | apply declareFaulty_keeps | exact Keeps.refl _)
    | fail_if_no_progress with_reducible refine Keeps.upd rfl rfl rfl ?_
    | split

theorem wireEnd_keeps {s} (x0 x1 x2 x3) (h : Keeps s x3) : Keeps s (wireEnd x0 x1 x2 x3) := by
  unfold wireEnd; try dsimp only
  repeat' first
    | (with_reducible first
      | assumption | apply setWirePair_keeps | apply ev_keeps | exact Keeps.refl _)
    | fail_if_no_progress with_reducible refine Keeps.upd rfl rfl rfl ?_
    | split

theorem execWireEpisode50ns_keeps (x0 x1 x2 x3) : KeepsO (tick x0 x3) (execWireEpisode50ns x0 x1 x2 x3) := by
  unfold execWireEpisode50ns; try dsimp only
  repeat' first
    | (with_reducible first
      | assumption | apply guardOk_keeps | apply wire50_keeps | refine fun _ => ?_ | exact Keeps.refl _)
    | fail_if_no_progress with_reducible refine Keeps.upd rfl rfl rfl ?_
    | with_reducible refine Keeps.out ?_
    | split

theorem execWireEpisode1us_keeps (x0 x1 x2 x3) : KeepsO (tick x0 x3) (execWireEpisode1us x0 x1 x2 x3) := by
  unfold execWireEpisode1us; try dsimp only
  repeat' first
    | (with_reducible first
      | assumption | apply guardOk_keeps | apply wire1us_keeps | refine fun _ => ?_ | exact Keeps.refl _)
    | fail_if_no_progress with_reducible refine Keeps.upd rfl rfl rfl ?_
    | with_reducible refine Keeps.out ?_
    | split

theorem execWireEpisodeEnd_keeps (x0 x1 x2 x3 x4) : KeepsO (tick x0 x4) (execWireEpisodeEnd x0 x1 x2 x3 x4) := by
  unfold execWireEpisodeEnd; try dsimp only
  repeat' first
    | (with_reducible first
      | assumption | apply guardOk_keeps | apply wireEnd_keeps | refine fun _ => ?_ | exact Keeps.refl _)
    | fail_if_no_progress with_reducible refine Keeps.upd rfl rfl rfl ?_
    | with_reducible refine Keeps.out ?_
    | split

theorem execTermSwingLow_keeps (x0 x1 x2 x3) : KeepsO (tick x0 x3) (execTermSwingLow x0 x1 x2 x3) := by
  unfold execTermSwingLow; try dsimp only
  repeat' first
    | (with_reducible first
      | assumption | apply guardOk_keeps | apply ev_keeps | refine fun _ => ?_ | exact Keeps.refl _)
    | fail_if_no_progress with_reducible refine Keeps.upd rfl rfl rfl ?_
    | with_reducible refine Keeps.out ?_
    | split

theorem axisStopStep_keeps {s} (x0) (h : Keeps s x0) : Keeps s (axisStopStep x0) := by
  unfold axisStopStep; try dsimp only
  repeat' first
    | (with_reducible first
      | assumption | refine forAll_keeps (fun _ _ => ?_) ?_ | apply State.setChan_keeps | apply reinStopped_keeps | apply judgeSpeed_keeps
      | apply flushMgmt_keeps | apply predictUnits_keeps | refine fun _ => ?_ | exact Keeps.refl _)
    | fail_if_no_progress with_reducible refine Keeps.upd rfl rfl rfl ?_
    | split
    | fail_if_no_progress with_reducible dsimp only

theorem execAxisStop_keeps (x0 x1) : KeepsO (tick x0 x1) (execAxisStop x0 x1) := by
  unfold execAxisStop; try dsimp only
  repeat' first
    | (with_reducible first
      | assumption | apply guardOk_keeps | apply axisStopStep_keeps | refine fun _ => ?_ | exact Keeps.refl _)
    | fail_if_no_progress with_reducible refine Keeps.upd rfl rfl rfl ?_
    | with_reducible refine Keeps.out ?_
    | split

theorem supervisorGone_keeps {s} (x0) (h : Keeps s x0) : Keeps s (supervisorGone x0) := by
  unfold supervisorGone; try dsimp only
  repeat' first
    | (with_reducible first
      | assumption | apply dieFault_keeps | apply lostPosition_keeps | exact Keeps.refl _)
    | fail_if_no_progress with_reducible refine Keeps.upd rfl rfl rfl ?_
    | split

theorem execSupervisorUnreachable_keeps (x0 x1) : KeepsO (tick x0 x1) (execSupervisorUnreachable x0 x1) := by
  unfold execSupervisorUnreachable; try dsimp only
  repeat' first
    | (with_reducible first
      | assumption | apply guardOk_keeps | apply supervisorGone_keeps | refine fun _ => ?_ | exact Keeps.refl _)
    | fail_if_no_progress with_reducible refine Keeps.upd rfl rfl rfl ?_
    | with_reducible refine Keeps.out ?_
    | split

theorem presetTo_keeps {s} (x0 x1) (h : Keeps s x1) : Keeps s (presetTo x0 x1) := by
  unfold presetTo; try dsimp only
  repeat' first
    | (with_reducible first
      | assumption | apply State.setChan_keeps | apply passCommits_keeps | apply presetShadow_keeps | apply marksFromW_keeps
      | apply restartScreening_keeps | apply causeGone_keeps | apply mirrorAxis_keeps | apply checkDry_keeps | apply rangeStep_keeps
      | exact Keeps.refl _)
    | fail_if_no_progress with_reducible refine Keeps.upd rfl rfl rfl ?_
    | split

theorem armIndex_keeps {s} (x0 x1) (h : Keeps s x1) : Keeps s (armIndex x0 x1) := by
  unfold armIndex; try dsimp only
  repeat' first
    | (with_reducible first
      | assumption | apply mirrorAxis_keeps | apply State.setChan_keeps | exact Keeps.refl _)
    | fail_if_no_progress with_reducible refine Keeps.upd rfl rfl rfl ?_
    | split

theorem setAuxGear_keeps {s} (x0 x1 x2) (h : Keeps s x2) : Keeps s (setAuxGear x0 x1 x2) := by
  unfold setAuxGear; try dsimp only
  repeat' first
    | (with_reducible first
      | assumption | apply State.setChan_keeps | exact Keeps.refl _)
    | fail_if_no_progress with_reducible refine Keeps.upd rfl rfl rfl ?_
    | split

theorem reenable_keeps {s} (x0 x1) (h : Keeps s x1) : Keeps s (reenable x0 x1) := by
  unfold reenable; try dsimp only
  repeat' first
    | (with_reducible first
      | assumption | apply State.setChan_keeps | apply causeGone_keeps | exact Keeps.refl _)
    | fail_if_no_progress with_reducible refine Keeps.upd rfl rfl rfl ?_
    | split

theorem requestSource_keeps {s} (x0 x1) (h : Keeps s x1) : Keeps s (requestSource x0 x1) := by
  unfold requestSource; try dsimp only
  repeat' first
    | (with_reducible first
      | assumption | apply changeover_keeps | exact Keeps.refl _)
    | fail_if_no_progress with_reducible refine Keeps.upd rfl rfl rfl ?_
    | split

end Sys2Proof.Machine
end

