-- ==== Sys2Proof/Laws/KeepsPrint.lean ====
section
/-! SUPPORT. `Keeps` of the operations of stream receiver, integrity, firing, line clock and heads (Sys2Proof/Machine/Receive, Integrity, Firing, Line, Heads):
one lemma per function that changes the state. -/

namespace Sys2Proof.Machine

theorem countPort_keeps {s} (x0 x1 x2) (h : Keeps s x2) : Keeps s (countPort x0 x1 x2) := by
  unfold countPort; try dsimp only
  repeat' first
    | (with_reducible first
      | assumption | apply State.setPort_keeps | exact Keeps.refl _)
    | fail_if_no_progress with_reducible refine Keeps.upd rfl rfl rfl ?_
    | split

theorem discardPacket_keeps {s} (x0 x1 x2 x3) (h : Keeps s x3) : Keeps s (discardPacket x0 x1 x2 x3) := by
  unfold discardPacket; try dsimp only
  repeat' first
    | (with_reducible first
      | assumption | apply State.setRing_keeps | apply ev_keeps | exact Keeps.refl _)
    | fail_if_no_progress with_reducible refine Keeps.upd rfl rfl rfl ?_
    | split

theorem storePacket_keeps {s} (x0 x1 x2) (h : Keeps s x2) : Keeps s (storePacket x0 x1 x2) := by
  unfold storePacket; try dsimp only
  repeat' first
    | (with_reducible first
      | assumption | refine forAll_keeps (fun _ _ => ?_) ?_ | apply writeUnits_keeps | refine fun _ => ?_ | exact Keeps.refl _)
    | fail_if_no_progress with_reducible refine Keeps.upd rfl rfl rfl ?_
    | split
    | fail_if_no_progress with_reducible dsimp only

theorem sendStripe_keeps {s} (x0 x1 x2 x3) (h : Keeps s x3) : Keeps s (sendStripe x0 x1 x2 x3) := by
  unfold sendStripe; try dsimp only
  repeat' first
    | (with_reducible first
      | assumption | apply mirror_keeps | exact Keeps.refl _)
    | fail_if_no_progress with_reducible refine Keeps.upd rfl rfl rfl ?_
    | split

theorem acceptPacket_keeps {s} (x0 x1 x2 x3) (h : Keeps s x3) : Keeps s (acceptPacket x0 x1 x2 x3) := by
  unfold acceptPacket; try dsimp only
  repeat' first
    | (with_reducible first
      | assumption | apply storePacket_keeps | refine foldl_keeps (fun _ _ => ?_) ?_ | apply updateRelease_keeps | apply State.setRing_keeps
      | apply sendStripe_keeps | apply sendAck_keeps | apply noteRing_keeps | exact Keeps.refl _)
    | fail_if_no_progress with_reducible refine Keeps.upd rfl rfl rfl ?_
    | split

theorem receivePacket_keeps {s} (x0 x1 x2) (h : Keeps s x2) : Keeps s (receivePacket x0 x1 x2) := by
  unfold receivePacket; try dsimp only
  repeat' first
    | (with_reducible first
      | assumption | apply countPort_keeps | apply sendAck_keeps | apply discardPacket_keeps | apply acceptPacket_keeps | apply ev_keeps
      | exact Keeps.refl _)
    | fail_if_no_progress with_reducible refine Keeps.upd rfl rfl rfl ?_
    | split

theorem execStreamData_keeps (x0 x1 x2 x3) : KeepsO (tick x0 x3) (execStreamData x0 x1 x2 x3) := by
  unfold execStreamData; try dsimp only
  repeat' first
    | (with_reducible first
      | assumption | apply guardOk_keeps | apply receivePacket_keeps | refine fun _ => ?_ | exact Keeps.refl _)
    | fail_if_no_progress with_reducible refine Keeps.upd rfl rfl rfl ?_
    | with_reducible refine Keeps.out ?_
    | split

theorem execProbe_keeps (x0 x1 x2 x3) : KeepsO (tick x0 x3) (execProbe x0 x1 x2 x3) := by
  unfold execProbe; try dsimp only
  repeat' first
    | (with_reducible first
      | assumption | apply guardOk_keeps | apply receivePacket_keeps | refine fun _ => ?_ | exact Keeps.refl _)
    | fail_if_no_progress with_reducible refine Keeps.upd rfl rfl rfl ?_
    | with_reducible refine Keeps.out ?_
    | split

theorem execAckInterval_keeps (x0 x1 x2) : KeepsO (tick x0 x2) (execAckInterval x0 x1 x2) := by
  unfold execAckInterval; try dsimp only
  repeat' first
    | (with_reducible first
      | assumption | apply guardOk_keeps | apply sendAck_keeps | refine fun _ => ?_ | exact Keeps.refl _)
    | fail_if_no_progress with_reducible refine Keeps.upd rfl rfl rfl ?_
    | with_reducible refine Keeps.out ?_
    | split

theorem requestGaps_keeps {s} (x0 x1) (h : Keeps s x1) : Keeps s (requestGaps x0 x1) := by
  unfold requestGaps; try dsimp only
  repeat' first
    | (with_reducible first
      | assumption | refine foldl_keeps (fun _ _ => ?_) ?_ | apply State.setRing_keeps | apply sendNak_keeps | exact Keeps.refl _)
    | fail_if_no_progress with_reducible refine Keeps.upd rfl rfl rfl ?_
    | split

theorem execNak_keeps (x0 x1 x2) : KeepsO (tick x0 x2) (execNak x0 x1 x2) := by
  unfold execNak; try dsimp only
  repeat' first
    | (with_reducible first
      | assumption | apply guardOk_keeps | apply requestGaps_keeps | refine fun _ => ?_ | exact Keeps.refl _)
    | fail_if_no_progress with_reducible refine Keeps.upd rfl rfl rfl ?_
    | with_reducible refine Keeps.out ?_
    | split

theorem linkChange_keeps {s} (x0 x1 x2) (h : Keeps s x2) : Keeps s (linkChange x0 x1 x2) := by
  unfold linkChange; try dsimp only
  repeat' first
    | (with_reducible first
      | assumption | apply State.setPort_keeps | apply raise_keeps | apply addFault_keeps | apply causeGone_keeps | exact Keeps.refl _)
    | fail_if_no_progress with_reducible refine Keeps.upd rfl rfl rfl ?_
    | split

theorem refreshBank_keeps {s} (x0 x1 x2) (h : Keeps s x2) : Keeps s (refreshBank x0 x1 x2) := by
  unfold refreshBank; try dsimp only
  repeat' first
    | (with_reducible first
      | assumption | apply ev_keeps | exact Keeps.refl _)
    | fail_if_no_progress with_reducible refine Keeps.upd rfl rfl rfl ?_
    | split

theorem execStoreRefresh_keeps (x0 x1 x2 x3) : KeepsO (tick x0 x3) (execStoreRefresh x0 x1 x2 x3) := by
  unfold execStoreRefresh; try dsimp only
  repeat' first
    | (with_reducible first
      | assumption | apply guardOk_keeps | apply refreshBank_keeps | refine fun _ => ?_ | exact Keeps.refl _)
    | fail_if_no_progress with_reducible refine Keeps.upd rfl rfl rfl ?_
    | with_reducible refine Keeps.out ?_
    | split

theorem execStackTempRead_keeps (x0 x1 x2) : KeepsO (tick x0 x2) (execStackTempRead x0 x1 x2) := by
  unfold execStackTempRead; try dsimp only
  repeat' first
    | (with_reducible first
      | assumption | apply ok_keeps | apply ev_keeps | exact Keeps.refl _)
    | fail_if_no_progress with_reducible refine Keeps.upd rfl rfl rfl ?_
    | with_reducible refine Keeps.out ?_
    | split

theorem lapEnd_keeps {s} (x0 x1) (h : Keeps s x1) : Keeps s (lapEnd x0 x1) := by
  unfold lapEnd; try dsimp only
  repeat' first
    | (with_reducible first
      | assumption | apply ev_keeps | exact Keeps.refl _)
    | fail_if_no_progress with_reducible refine Keeps.upd rfl rfl rfl ?_
    | split

theorem advanceScrub_keeps {s} (x0 x1) (h : Keeps s x1) : Keeps s (advanceScrub x0 x1) := by
  unfold advanceScrub; try dsimp only
  repeat' first
    | (with_reducible first
      | assumption | apply lapEnd_keeps | exact Keeps.refl _)
    | fail_if_no_progress with_reducible refine Keeps.upd rfl rfl rfl ?_
    | split

theorem strikeUnit_keeps {s} (x0 x1 x2) (h : Keeps s x2) : Keeps s (strikeUnit x0 x1 x2) := by
  unfold strikeUnit; try dsimp only
  repeat' first
    | (with_reducible first
      | assumption | exact Keeps.refl _)
    | fail_if_no_progress with_reducible refine Keeps.upd rfl rfl rfl ?_
    | split

theorem noteLap_keeps {s} (x0 x1 x2 x3) (h : Keeps s x3) : Keeps s (noteLap x0 x1 x2 x3) := by
  unfold noteLap; try dsimp only
  repeat' first
    | (with_reducible first
      | assumption | exact Keeps.refl _)
    | fail_if_no_progress with_reducible refine Keeps.upd rfl rfl rfl ?_
    | split

theorem scrubCorrected_keeps {s} (x0 x1 x2 x3) (h : Keeps s x3) : Keeps s (scrubCorrected x0 x1 x2 x3) := by
  unfold scrubCorrected; try dsimp only
  repeat' first
    | (with_reducible first
      | assumption | apply countCorrected_keeps | apply noteLap_keeps | apply logStore_keeps | exact Keeps.refl _)
    | fail_if_no_progress with_reducible refine Keeps.upd rfl rfl rfl ?_
    | split

theorem scrubUe_keeps {s} (x0 x1 x2 x3) (h : Keeps s x3) : Keeps s (scrubUe x0 x1 x2 x3) := by
  unfold scrubUe; try dsimp only
  repeat' first
    | (with_reducible first
      | assumption | apply logStore_keeps | apply countUe_keeps | apply noteLap_keeps | apply ev_keeps | apply integrityResend_keeps
      | exact Keeps.refl _)
    | fail_if_no_progress with_reducible refine Keeps.upd rfl rfl rfl ?_
    | split

theorem scrubAt_keeps {s} (x0 x1) (h : Keeps s x1) : Keeps s (scrubAt x0 x1) := by
  unfold scrubAt
  repeat' first
    | (with_reducible first
      | assumption | apply firstRead_keeps | apply countAccess_keeps | apply uninitRead_keeps | apply scrubCorrected_keeps
      | apply scrubUe_keeps | apply settleBurst_keeps | apply retireCheck_keeps | exact Keeps.refl _)
    | fail_if_no_progress with_reducible refine Keeps.upd rfl rfl rfl ?_
    | (extract_lets +onlyGivenNames x; first
      | (refine Keeps.cutOn x ?_ ?_; (on_goal 2 => (intro _; clear_value x)); (on_goal 1 => subst x))
      | subst x)
    | split
    | with_reducible refine Keeps.snd (by assumption) ?_
    | with_reducible refine Keeps.snd2 (by assumption) ?_

theorem scrubStep_keeps {s} (x0 x1 x2) (h : Keeps s x2) : Keeps s (scrubStep x0 x1 x2) := by
  unfold scrubStep; try dsimp only
  repeat' first
    | (with_reducible first
      | assumption | apply scrubAt_keeps | apply advanceScrub_keeps | apply strikeUnit_keeps | exact Keeps.refl _)
    | fail_if_no_progress with_reducible refine Keeps.upd rfl rfl rfl ?_
    | split

theorem execScrub_keeps (x0 x1 x2 x3) : KeepsO (tick x0 x3) (execScrub x0 x1 x2 x3) := by
  unfold execScrub; try dsimp only
  repeat' first
    | (with_reducible first
      | assumption | apply guardOk_keeps | apply scrubStep_keeps | refine fun _ => ?_ | exact Keeps.refl _)
    | fail_if_no_progress with_reducible refine Keeps.upd rfl rfl rfl ?_
    | with_reducible refine Keeps.out ?_
    | split

theorem advanceSram_keeps {s} (x0 x1) (h : Keeps s x1) : Keeps s (advanceSram x0 x1) := by
  unfold advanceSram; try dsimp only
  repeat' first
    | (with_reducible first
      | assumption | apply lapEnd_keeps | exact Keeps.refl _)
    | fail_if_no_progress with_reducible refine Keeps.upd rfl rfl rfl ?_
    | split

theorem scrubWord_keeps {s} (x0 x1) (h : Keeps s x1) : Keeps s (scrubWord x0 x1) := by
  unfold scrubWord; try dsimp only
  repeat' first
    | (with_reducible first
      | assumption | apply fixWord_keeps | apply countCorrected_keeps | apply noteLap_keeps | apply logWord_keeps | apply ev_keeps
      | apply countUe_keeps | apply nozzleWordUe_keeps | apply noteClusterUe_keeps | apply clusterFault_keeps | exact Keeps.refl _)
    | fail_if_no_progress with_reducible refine Keeps.upd rfl rfl rfl ?_
    | split

theorem sramScrubStep_keeps {s} (x0 x1 x2 x3) (h : Keeps s x3) : Keeps s (sramScrubStep x0 x1 x2 x3) := by
  unfold sramScrubStep; try dsimp only
  repeat' first
    | (with_reducible first
      | assumption | apply scrubWord_keeps | apply advanceSram_keeps | apply strikeWord_keeps | exact Keeps.refl _)
    | fail_if_no_progress with_reducible refine Keeps.upd rfl rfl rfl ?_
    | split

theorem execSramScrub_keeps (x0 x1 x2 x3 x4) : KeepsO (tick x0 x4) (execSramScrub x0 x1 x2 x3 x4) := by
  unfold execSramScrub; try dsimp only
  repeat' first
    | (with_reducible first
      | assumption | apply guardOk_keeps | apply sramScrubStep_keeps | refine fun _ => ?_ | exact Keeps.refl _)
    | fail_if_no_progress with_reducible refine Keeps.upd rfl rfl rfl ?_
    | with_reducible refine Keeps.out ?_
    | split

theorem completeOps_keeps {s} (x0 x1 x2 x3) (h : Keeps s x3) : Keeps s (completeOps x0 x1 x2 x3) := by
  unfold completeOps; try dsimp only
  repeat' first
    | (with_reducible first
      | assumption | refine forAll_keeps (fun _ _ => ?_) ?_ | apply completeHandle_keeps | refine fun _ => ?_ | exact Keeps.refl _)
    | fail_if_no_progress with_reducible refine Keeps.upd rfl rfl rfl ?_
    | split
    | fail_if_no_progress with_reducible dsimp only

theorem copyBlock_keeps {s} (x0 x1) (h : Keeps s x1) : Keeps s (copyBlock x0 x1) := by
  unfold copyBlock; try dsimp only
  repeat' first
    | (with_reducible first
      | assumption | refine forAll_keeps (fun _ _ => ?_) ?_ | apply settleBurst_keeps | apply countRequests_keeps | refine fun _ => ?_
      | exact Keeps.refl _)
    | fail_if_no_progress with_reducible refine Keeps.upd rfl rfl rfl ?_
    | split
    | fail_if_no_progress with_reducible dsimp only

theorem flashMap_keeps {s} (x0) (h : Keeps s x0) : Keeps s (flashMap x0) := by
  unfold flashMap; try dsimp only
  repeat' first
    | (with_reducible first
      | assumption | exact Keeps.refl _)
    | fail_if_no_progress with_reducible refine Keeps.upd rfl rfl rfl ?_
    | split

theorem retireDone_keeps {s} (x0 x1) (h : Keeps s x1) : Keeps s (retireDone x0 x1) := by
  unfold retireDone; try dsimp only
  repeat' first
    | (with_reducible first
      | assumption | apply copyBlock_keeps | apply flashMap_keeps | apply emit_keeps | apply ev_keeps | apply retireWaiting_keeps
      | apply completeOps_keeps | refine fun _ => ?_ | exact Keeps.refl _)
    | fail_if_no_progress with_reducible refine Keeps.upd rfl rfl rfl ?_
    | split

theorem execRetireCopyDone_keeps (x0 x1 x2) : KeepsO (tick x0 x2) (execRetireCopyDone x0 x1 x2) := by
  unfold execRetireCopyDone; try dsimp only
  repeat' first
    | (with_reducible first
      | assumption | apply guardOk_keeps | apply retireDone_keeps | refine fun _ => ?_ | exact Keeps.refl _)
    | fail_if_no_progress with_reducible refine Keeps.upd rfl rfl rfl ?_
    | with_reducible refine Keeps.out ?_
    | split

theorem writeBack_keeps {s} (x0) (h : Keeps s x0) : Keeps s (writeBack x0) := by
  unfold writeBack; try dsimp only
  repeat' first
    | (with_reducible first
      | assumption | refine foldl_keeps (fun _ _ => ?_) ?_ | exact Keeps.refl _)
    | fail_if_no_progress with_reducible refine Keeps.upd rfl rfl rfl ?_
    | split

theorem execCounterWriteback_keeps (x0 x1) : KeepsO (tick x0 x1) (execCounterWriteback x0 x1) := by
  unfold execCounterWriteback; try dsimp only
  repeat' first
    | (with_reducible first
      | assumption | apply guardOk_keeps | apply writeBack_keeps | refine fun _ => ?_ | exact Keeps.refl _)
    | fail_if_no_progress with_reducible refine Keeps.upd rfl rfl rfl ?_
    | with_reducible refine Keeps.out ?_
    | split

theorem savePart_keeps {s} (x0 x1) (h : Keeps s x1) : Keeps s (savePart x0 x1) := by
  unfold savePart; try dsimp only
  repeat' first
    | (with_reducible first
      | assumption | refine foldl_keeps (fun _ _ => ?_) ?_ | apply emit_keeps | exact Keeps.refl _)
    | fail_if_no_progress with_reducible refine Keeps.upd rfl rfl rfl ?_
    | split

theorem saveTable_keeps {s} (x0) (h : Keeps s x0) : Keeps s (saveTable x0) := by
  unfold saveTable; try dsimp only
  repeat' first
    | (with_reducible first
      | assumption | refine forAll_keeps (fun _ _ => ?_) ?_ | apply savePart_keeps | refine fun _ => ?_ | exact Keeps.refl _)
    | fail_if_no_progress with_reducible refine Keeps.upd rfl rfl rfl ?_
    | split
    | fail_if_no_progress with_reducible dsimp only

theorem execNozzleSave_keeps (x0 x1) : KeepsO (tick x0 x1) (execNozzleSave x0 x1) := by
  unfold execNozzleSave; try dsimp only
  repeat' first
    | (with_reducible first
      | assumption | apply guardOk_keeps | apply saveTable_keeps | refine fun _ => ?_ | exact Keeps.refl _)
    | fail_if_no_progress with_reducible refine Keeps.upd rfl rfl rfl ?_
    | with_reducible refine Keeps.out ?_
    | split

theorem slowPress_keeps {s} (x0) (h : Keeps s x0) : Keeps s (slowPress x0) := by
  unfold slowPress; try dsimp only
  repeat' first
    | (with_reducible first
      | assumption | apply limitChanged_keeps | exact Keeps.refl _)
    | fail_if_no_progress with_reducible refine Keeps.upd rfl rfl rfl ?_
    | split

theorem wheelerLateLine_keeps {s} (x0) (h : Keeps s x0) : Keeps s (wheelerLateLine x0) := by
  unfold wheelerLateLine; try dsimp only
  repeat' first
    | (with_reducible first
      | assumption | apply holdWheeler_keeps | exact Keeps.refl _)
    | fail_if_no_progress with_reducible refine Keeps.upd rfl rfl rfl ?_
    | split

theorem lateLine_keeps {s} (x0 x1 x2 x3 x4 x5) (h : Keeps s x4) : Keeps s (lateLine x0 x1 x2 x3 x4 x5).2 := by
  unfold lateLine; try dsimp only
  repeat' first
    | (with_reducible first
      | assumption | apply wheelerLateLine_keeps | apply reinLate_keeps | apply State.setRow_keeps | apply ev_keeps | apply slowPress_keeps
      | apply logLateLine_keeps | apply State.setHead_keeps | exact Keeps.refl _)
    | fail_if_no_progress with_reducible refine Keeps.upd rfl rfl rfl ?_
    | split
    | with_reducible refine Keeps.snd (by assumption) ?_
    | with_reducible refine Keeps.snd2 (by assumption) ?_

theorem rowDone_keeps {s} (x0 x1 x2) (h : Keeps s x2) : Keeps s (rowDone x0 x1 x2) := by
  unfold rowDone; try dsimp only
  repeat' first
    | (with_reducible first
      | assumption | apply State.setRow_keeps | exact Keeps.refl _)
    | fail_if_no_progress with_reducible refine Keeps.upd rfl rfl rfl ?_
    | split

theorem sendFire_keeps {s} (x0 x1 x2 x3) (h : Keeps s x3) : Keeps s (sendFire x0 x1 x2 x3) := by
  unfold sendFire; try dsimp only
  repeat' first
    | (with_reducible first
      | assumption | apply drawFree_keeps | apply emit_keeps | apply State.setRow_keeps | apply ev_keeps | apply State.setHead_keeps
      | exact Keeps.refl _)
    | fail_if_no_progress with_reducible refine Keeps.upd rfl rfl rfl ?_
    | split
    | with_reducible refine Keeps.snd (by assumption) ?_
    | with_reducible refine Keeps.snd2 (by assumption) ?_

theorem announceHot_keeps {s} (x0 x1 x2) (h : Keeps s x2) : Keeps s (announceHot x0 x1 x2) := by
  unfold announceHot; try dsimp only
  repeat' first
    | (with_reducible first
      | assumption | apply ev_keeps | apply State.setHead_keeps | exact Keeps.refl _)
    | fail_if_no_progress with_reducible refine Keeps.upd rfl rfl rfl ?_
    | split

theorem countFires_keeps {s} (x0 x1 x2 x3) (h : Keeps s x3) : Keeps s (countFires x0 x1 x2 x3) := by
  unfold countFires; try dsimp only
  repeat' first
    | (with_reducible first
      | assumption | refine forAll_keeps (fun _ _ => ?_) ?_ | apply setNozCnt_keeps | refine fun _ => ?_ | exact Keeps.refl _)
    | fail_if_no_progress with_reducible refine Keeps.upd rfl rfl rfl ?_
    | split
    | fail_if_no_progress with_reducible dsimp only

theorem assemblyReads_keeps {s} (x0 x1 x2 x3) (h : Keeps s x3) : Keeps s (assemblyReads x0 x1 x2 x3).2 := by
  unfold assemblyReads; try dsimp only
  repeat' first
    | (with_reducible first
      | assumption | apply strikeBytes_keeps | refine foldl_keeps (fun _ _ => ?_) ?_ | refine foldl2_keeps (fun _ _ => ?_) ?_
      | apply readUnit_keeps | exact Keeps.refl _)
    | fail_if_no_progress with_reducible refine Keeps.upd rfl rfl rfl ?_
    | split
    | with_reducible refine Keeps.snd (by assumption) ?_
    | with_reducible refine Keeps.snd2 (by assumption) ?_

theorem sendLine_keeps {s} (x0 x1 x2 x3) (h : Keeps s x3) : Keeps s (sendLine x0 x1 x2 x3) := by
  unfold sendLine; try dsimp only
  repeat' first
    | (with_reducible first
      | assumption | apply sendFire_keeps | apply countFires_keeps | apply emit_keeps | exact Keeps.refl _)
    | fail_if_no_progress with_reducible refine Keeps.upd rfl rfl rfl ?_
    | split

theorem beginBars_keeps {s} (x0 x1) (h : Keeps s x1) : Keeps s (beginBars x0 x1) := by
  unfold beginBars; try dsimp only
  repeat' first
    | (with_reducible first
      | assumption | exact Keeps.refl _)
    | fail_if_no_progress with_reducible refine Keeps.upd rfl rfl rfl ?_
    | split

theorem fireStep_keeps {s} (x0 x1 x2 x3) (h : Keeps s x3) : Keeps s (fireStep x0 x1 x2 x3) := by
  unfold fireStep
  repeat' first
    | (with_reducible first
      | assumption | apply ev_keeps | apply beginBars_keeps | apply withLatencies_keeps | apply assemblyReads_keeps | apply lateLine_keeps
      | apply rowDone_keeps | apply sendLine_keeps | apply State.setRow_keeps | apply State.setHead_keeps | apply announceHot_keeps
      | refine foldl_keeps (fun _ _ => ?_) ?_ | refine foldl2_keeps (fun _ _ => ?_) ?_ | apply State.setLane_keeps | apply sendFire_keeps
      | apply checkReinDone_keeps | apply checkJob_keeps | apply checkPages_keeps | apply newPeriod_keeps | apply predictRow_keeps
      | refine fun _ => ?_ | exact Keeps.refl _)
    | fail_if_no_progress with_reducible refine Keeps.upd rfl rfl rfl ?_
    | (extract_lets +onlyGivenNames x; first
      | (refine Keeps.cutOn x ?_ ?_; (on_goal 2 => (intro _; clear_value x)); (on_goal 1 => subst x))
      | subst x)
    | split
    | fail_if_no_progress with_reducible dsimp only
    | with_reducible refine Keeps.snd (by assumption) ?_
    | with_reducible refine Keeps.snd2 (by assumption) ?_

theorem execFire_keeps (x0 x1 x2 x3 x4 x5) : KeepsO (tick x0 x5) (execFire x0 x1 x2 x3 x4 x5) := by
  unfold execFire; try dsimp only
  repeat' first
    | (with_reducible first
      | assumption | apply ok_keeps | apply guardOk_keeps | apply fireStep_keeps | refine fun _ => ?_ | exact Keeps.refl _)
    | fail_if_no_progress with_reducible refine Keeps.upd rfl rfl rfl ?_
    | with_reducible refine Keeps.out ?_
    | split

theorem execSpeedLimitRise_keeps (x0 x1) : KeepsO (tick x0 x1) (execSpeedLimitRise x0 x1) := by
  unfold execSpeedLimitRise; try dsimp only
  repeat' first
    | (with_reducible first
      | assumption | apply guardOk_keeps | apply sendLimit_keeps | refine fun _ => ?_ | exact Keeps.refl _)
    | fail_if_no_progress with_reducible refine Keeps.upd rfl rfl rfl ?_
    | with_reducible refine Keeps.out ?_
    | split

theorem raiseOverrate_keeps {s} (x0) (h : Keeps s x0) : Keeps s (raiseOverrate x0) := by
  unfold raiseOverrate; try dsimp only
  repeat' first
    | (with_reducible first
      | assumption | apply ev_keeps | exact Keeps.refl _)
    | fail_if_no_progress with_reducible refine Keeps.upd rfl rfl rfl ?_
    | split

theorem execLineOverrate_keeps (x0 x1) : KeepsO (tick x0 x1) (execLineOverrate x0 x1) := by
  unfold execLineOverrate; try dsimp only
  repeat' first
    | (with_reducible first
      | assumption | apply guardOk_keeps | apply raiseOverrate_keeps | refine fun _ => ?_ | exact Keeps.refl _)
    | fail_if_no_progress with_reducible refine Keeps.upd rfl rfl rfl ?_
    | with_reducible refine Keeps.out ?_
    | split

theorem endSlow_keeps {s} (x0) (h : Keeps s x0) : Keeps s (endSlow x0) := by
  unfold endSlow; try dsimp only
  repeat' first
    | (with_reducible first
      | assumption | apply limitChanged_keeps | exact Keeps.refl _)
    | fail_if_no_progress with_reducible refine Keeps.upd rfl rfl rfl ?_
    | split

theorem execSlowHoldExpiry_keeps (x0 x1) : KeepsO (tick x0 x1) (execSlowHoldExpiry x0 x1) := by
  unfold execSlowHoldExpiry; try dsimp only
  repeat' first
    | (with_reducible first
      | assumption | apply guardOk_keeps | apply endSlow_keeps | refine fun _ => ?_ | exact Keeps.refl _)
    | fail_if_no_progress with_reducible refine Keeps.upd rfl rfl rfl ?_
    | with_reducible refine Keeps.out ?_
    | split

theorem noteUndriven_keeps {s} (x0 x1) (h : Keeps s x1) : Keeps s (noteUndriven x0 x1) := by
  unfold noteUndriven; try dsimp only
  repeat' first
    | (with_reducible first
      | assumption | apply State.setTrig_keeps | exact Keeps.refl _)
    | fail_if_no_progress with_reducible refine Keeps.upd rfl rfl rfl ?_
    | split

theorem pulse_keeps {s} (x0 x1 x2) (h : Keeps s x2) : Keeps s (pulse x0 x1 x2) := by
  unfold pulse; try dsimp only
  repeat' first
    | (with_reducible first
      | assumption | apply noteUndriven_keeps | apply trigMiss_keeps | apply State.setTrig_keeps | exact Keeps.refl _)
    | fail_if_no_progress with_reducible refine Keeps.upd rfl rfl rfl ?_
    | split

theorem occurrence_keeps {s} (x0 x1 x2 x3) (h : Keeps s x3) : Keeps s (occurrence x0 x1 x2 x3) := by
  unfold occurrence; try dsimp only
  repeat' first
    | (with_reducible first
      | assumption | apply predictTrig_keeps | apply pulse_keeps | apply State.setTrig_keeps | exact Keeps.refl _)
    | fail_if_no_progress with_reducible refine Keeps.upd rfl rfl rfl ?_
    | split

theorem execTrigOccurrence_keeps (x0 x1 x2) : KeepsO (tick x0 x2) (execTrigOccurrence x0 x1 x2) := by
  unfold execTrigOccurrence; try dsimp only
  repeat' first
    | (with_reducible first
      | assumption | apply ok_keeps | apply guardOk_keeps | apply occurrence_keeps | refine fun _ => ?_ | exact Keeps.refl _)
    | fail_if_no_progress with_reducible refine Keeps.upd rfl rfl rfl ?_
    | with_reducible refine Keeps.out ?_
    | split

theorem execTimeTrigger_keeps (x0 x1 x2) : KeepsO (tick x0 x2) (execTimeTrigger x0 x1 x2) := by
  unfold execTimeTrigger; try dsimp only
  repeat' first
    | (with_reducible first
      | assumption | apply guardOk_keeps | apply pulse_keeps | apply State.setTrig_keeps | refine fun _ => ?_ | exact Keeps.refl _)
    | fail_if_no_progress with_reducible refine Keeps.upd rfl rfl rfl ?_
    | with_reducible refine Keeps.out ?_
    | split

theorem execTrigPulseEnd_keeps (x0 x1 x2) : KeepsO (tick x0 x2) (execTrigPulseEnd x0 x1 x2) := by
  unfold execTrigPulseEnd; try dsimp only
  repeat' first
    | (with_reducible first
      | assumption | apply guardOk_keeps | apply State.setTrig_keeps | refine fun _ => ?_ | exact Keeps.refl _)
    | fail_if_no_progress with_reducible refine Keeps.upd rfl rfl rfl ?_
    | with_reducible refine Keeps.out ?_
    | split

theorem goHot_keeps {s} (x0 x1 x2) (h : Keeps s x2) : Keeps s (goHot x0 x1 x2) := by
  unfold goHot; try dsimp only
  repeat' first
    | (with_reducible first
      | assumption | apply State.setHead_keeps | apply queueChange_keeps | apply lifeEvent_keeps | exact Keeps.refl _)
    | fail_if_no_progress with_reducible refine Keeps.upd rfl rfl rfl ?_
    | split

theorem takeReading_keeps {s} (x0 x1 x2) (h : Keeps s x2) : Keeps s (takeReading x0 x1 x2) := by
  unfold takeReading; try dsimp only
  repeat' first
    | (with_reducible first
      | assumption | apply State.setHead_keeps | apply goHot_keeps | exact Keeps.refl _)
    | fail_if_no_progress with_reducible refine Keeps.upd rfl rfl rfl ?_
    | split

theorem execTemperature_keeps (x0 x1 x2 x3) : KeepsO (tick x0 x3) (execTemperature x0 x1 x2 x3) := by
  unfold execTemperature; try dsimp only
  repeat' first
    | (with_reducible first
      | assumption | apply guardOk_keeps | apply takeReading_keeps | refine fun _ => ?_ | exact Keeps.refl _)
    | fail_if_no_progress with_reducible refine Keeps.upd rfl rfl rfl ?_
    | with_reducible refine Keeps.out ?_
    | split

theorem execWarmExit_keeps (x0 x1 x2) : KeepsO (tick x0 x2) (execWarmExit x0 x1 x2) := by
  unfold execWarmExit; try dsimp only
  repeat' first
    | (with_reducible first
      | assumption | apply guardOk_keeps | apply State.setHead_keeps | refine fun _ => ?_ | exact Keeps.refl _)
    | fail_if_no_progress with_reducible refine Keeps.upd rfl rfl rfl ?_
    | with_reducible refine Keeps.out ?_
    | split

theorem coolDown_keeps {s} (x0 x1) (h : Keeps s x1) : Keeps s (coolDown x0 x1) := by
  unfold coolDown; try dsimp only
  repeat' first
    | (with_reducible first
      | assumption | apply State.setHead_keeps | apply queueChange_keeps | exact Keeps.refl _)
    | fail_if_no_progress with_reducible refine Keeps.upd rfl rfl rfl ?_
    | split

theorem execHotExit_keeps (x0 x1 x2) : KeepsO (tick x0 x2) (execHotExit x0 x1 x2) := by
  unfold execHotExit; try dsimp only
  repeat' first
    | (with_reducible first
      | assumption | apply guardOk_keeps | apply coolDown_keeps | refine fun _ => ?_ | exact Keeps.refl _)
    | fail_if_no_progress with_reducible refine Keeps.upd rfl rfl rfl ?_
    | with_reducible refine Keeps.out ?_
    | split

theorem execTelemetryTimeout_keeps (x0 x1 x2) : KeepsO (tick x0 x2) (execTelemetryTimeout x0 x1 x2) := by
  unfold execTelemetryTimeout; try dsimp only
  repeat' first
    | (with_reducible first
      | assumption | apply guardOk_keeps | apply goHot_keeps | refine fun _ => ?_ | exact Keeps.refl _)
    | fail_if_no_progress with_reducible refine Keeps.upd rfl rfl rfl ?_
    | with_reducible refine Keeps.out ?_
    | split

theorem senseReport_keeps {s} (x0 x1 x2 x3) (h : Keeps s x3) : Keeps s (senseReport x0 x1 x2 x3) := by
  unfold senseReport; try dsimp only
  repeat' first
    | (with_reducible first
      | assumption | apply queueChange_keeps | exact Keeps.refl _)
    | fail_if_no_progress with_reducible refine Keeps.upd rfl rfl rfl ?_
    | split

theorem execNozzleSense_keeps (x0 x1 x2 x3 x4) : KeepsO (tick x0 x4) (execNozzleSense x0 x1 x2 x3 x4) := by
  unfold execNozzleSense; try dsimp only
  repeat' first
    | (with_reducible first
      | assumption | apply guardOk_keeps | apply senseReport_keeps | refine fun _ => ?_ | exact Keeps.refl _)
    | fail_if_no_progress with_reducible refine Keeps.upd rfl rfl rfl ?_
    | with_reducible refine Keeps.out ?_
    | split

theorem laneStat_keeps {s} (x0 x1 x2 x3) (h : Keeps s x3) : Keeps s (laneStat x0 x1 x2 x3) := by
  unfold laneStat; try dsimp only
  repeat' first
    | (with_reducible first
      | assumption | apply State.setLane_keeps | exact Keeps.refl _)
    | fail_if_no_progress with_reducible refine Keeps.upd rfl rfl rfl ?_
    | split

theorem lateOnce_keeps {s} (x0 x1 x2) (h : Keeps s x2) : Keeps s (lateOnce x0 x1 x2) := by
  unfold lateOnce; try dsimp only
  repeat' first
    | (with_reducible first
      | assumption | apply State.setHead_keeps | apply lateLine_keeps | exact Keeps.refl _)
    | fail_if_no_progress with_reducible refine Keeps.upd rfl rfl rfl ?_
    | split
    | with_reducible refine Keeps.snd (by assumption) ?_
    | with_reducible refine Keeps.snd2 (by assumption) ?_

theorem incompleteReport_keeps {s} (x0 x1 x2 x3) (h : Keeps s x3) : Keeps s (incompleteReport x0 x1 x2 x3) := by
  unfold incompleteReport; try dsimp only
  repeat' first
    | (with_reducible first
      | assumption | apply State.setHead_keeps | apply ev_keeps | apply lateOnce_keeps | apply laneStat_keeps | exact Keeps.refl _)
    | fail_if_no_progress with_reducible refine Keeps.upd rfl rfl rfl ?_
    | split

theorem execIncompleteSegment_keeps (x0 x1 x2 x3 x4) : KeepsO (tick x0 x4) (execIncompleteSegment x0 x1 x2 x3 x4) := by
  unfold execIncompleteSegment; try dsimp only
  repeat' first
    | (with_reducible first
      | assumption | apply guardOk_keeps | apply incompleteReport_keeps | refine fun _ => ?_ | exact Keeps.refl _)
    | fail_if_no_progress with_reducible refine Keeps.upd rfl rfl rfl ?_
    | with_reducible refine Keeps.out ?_
    | split

theorem missedReport_keeps {s} (x0 x1 x2 x3 x4) (h : Keeps s x4) : Keeps s (missedReport x0 x1 x2 x3 x4) := by
  unfold missedReport; try dsimp only
  repeat' first
    | (with_reducible first
      | assumption | refine forAll_keeps (fun _ _ => ?_) ?_ | apply lateOnce_keeps | apply laneStat_keeps | refine fun _ => ?_
      | exact Keeps.refl _)
    | fail_if_no_progress with_reducible refine Keeps.upd rfl rfl rfl ?_
    | split
    | fail_if_no_progress with_reducible dsimp only

theorem execMissedFires_keeps (x0 x1 x2 x3 x4 x5) : KeepsO (tick x0 x5) (execMissedFires x0 x1 x2 x3 x4 x5) := by
  unfold execMissedFires; try dsimp only
  repeat' first
    | (with_reducible first
      | assumption | apply guardOk_keeps | apply missedReport_keeps | refine fun _ => ?_ | exact Keeps.refl _)
    | fail_if_no_progress with_reducible refine Keeps.upd rfl rfl rfl ?_
    | with_reducible refine Keeps.out ?_
    | split

end Sys2Proof.Machine
end

