-- ==== Sys2Proof/Laws/KeepsTrace.lean ====
section
/-! SUPPORT. `Keeps` of the operations of trace link, pipeline, inspection, loop and time (Sys2Proof/Machine/Trace, Pipeline, Inspection, Loop, Time):
one lemma per function that changes the state. -/

namespace Sys2Proof.Machine

theorem laneHandle_keeps {s} (x0 x1 x2 x3) (h : Keeps s x3) : Keeps s (laneHandle x0 x1 x2 x3) := by
  unfold laneHandle; try dsimp only
  repeat' first
    | (with_reducible first
      | assumption | apply completeWord_keeps | apply State.setLane_keeps | exact Keeps.refl _)
    | fail_if_no_progress with_reducible refine Keeps.upd rfl rfl rfl ?_
    | split

theorem wantAdaptation_keeps {s} (x0 x1 x2) (h : Keeps s x2) : Keeps s (wantAdaptation x0 x1 x2) := by
  unfold wantAdaptation; try dsimp only
  repeat' first
    | (with_reducible first
      | assumption | apply drawFree_keeps | apply State.setLane_keeps | exact Keeps.refl _)
    | fail_if_no_progress with_reducible refine Keeps.upd rfl rfl rfl ?_
    | split
    | with_reducible refine Keeps.snd (by assumption) ?_
    | with_reducible refine Keeps.snd2 (by assumption) ?_

theorem dropRequests_keeps {s} (x0 x1) (h : Keeps s x1) : Keeps s (dropRequests x0 x1) := by
  unfold dropRequests; try dsimp only
  repeat' first
    | (with_reducible first
      | assumption | apply State.setLane_keeps | refine forAll_keeps (fun _ _ => ?_) ?_ | apply completeWord_keeps | refine fun _ => ?_
      | exact Keeps.refl _)
    | fail_if_no_progress with_reducible refine Keeps.upd rfl rfl rfl ?_
    | split
    | fail_if_no_progress with_reducible dsimp only

theorem startTraining_keeps {s} (x0 x1) (h : Keeps s x1) : Keeps s (startTraining x0 x1) := by
  unfold startTraining; try dsimp only
  repeat' first
    | (with_reducible first
      | assumption | apply emit_keeps | apply State.setLane_keeps | exact Keeps.refl _)
    | fail_if_no_progress with_reducible refine Keeps.upd rfl rfl rfl ?_
    | split

theorem startBringUp_keeps {s} (x0 x1 x2) (h : Keeps s x2) : Keeps s (startBringUp x0 x1 x2) := by
  unfold startBringUp; try dsimp only
  repeat' first
    | (with_reducible first
      | assumption | apply State.setLane_keeps | exact Keeps.refl _)
    | fail_if_no_progress with_reducible refine Keeps.upd rfl rfl rfl ?_
    | split

theorem checkIdentity_keeps {s} (x0 x1) (h : Keeps s x1) : Keeps s (checkIdentity x0 x1) := by
  unfold checkIdentity; try dsimp only
  repeat' first
    | (with_reducible first
      | assumption | apply queueChange_keeps | apply ev_keeps | exact Keeps.refl _)
    | fail_if_no_progress with_reducible refine Keeps.upd rfl rfl rfl ?_
    | split

theorem replaceLines_keeps {s} (x0 x1) (h : Keeps s x1) : Keeps s (replaceLines x0 x1) := by
  unfold replaceLines; try dsimp only
  repeat' first
    | (with_reducible first
      | assumption | refine forAll_keeps (fun _ _ => ?_) ?_ | apply predictRow_keeps | refine fun _ => ?_ | exact Keeps.refl _)
    | fail_if_no_progress with_reducible refine Keeps.upd rfl rfl rfl ?_
    | split
    | fail_if_no_progress with_reducible dsimp only

theorem enterActive_keeps {s} (x0 x1) (h : Keeps s x1) : Keeps s (enterActive x0 x1) := by
  unfold enterActive; try dsimp only
  repeat' first
    | (with_reducible first
      | assumption | refine forAll_keeps (fun _ _ => ?_) ?_ | apply State.setRow_keeps | apply replaceLines_keeps
      | apply State.setHead_keeps | refine fun _ => ?_ | exact Keeps.refl _)
    | fail_if_no_progress with_reducible refine Keeps.upd rfl rfl rfl ?_
    | split
    | fail_if_no_progress with_reducible dsimp only

theorem goActive_keeps {s} (x0 x1) (h : Keeps s x1) : Keeps s (goActive x0 x1) := by
  unfold goActive; try dsimp only
  repeat' first
    | (with_reducible first
      | assumption | apply enterActive_keeps | apply State.setLane_keeps | apply State.setHead_keeps | apply ev_keeps
      | apply checkIdentity_keeps | apply laneHandle_keeps | exact Keeps.refl _)
    | fail_if_no_progress with_reducible refine Keeps.upd rfl rfl rfl ?_
    | split

theorem loseHead_keeps {s} (x0 x1 x2) (h : Keeps s x2) : Keeps s (loseHead x0 x1 x2) := by
  unfold loseHead; try dsimp only
  repeat' first
    | (with_reducible first
      | assumption | apply State.setHead_keeps | apply raise_keeps | apply queueChange_keeps | exact Keeps.refl _)
    | fail_if_no_progress with_reducible refine Keeps.upd rfl rfl rfl ?_
    | split

theorem laneFailed_keeps {s} (x0 x1 x2) (h : Keeps s x2) : Keeps s (laneFailed x0 x1 x2) := by
  unfold laneFailed; try dsimp only
  repeat' first
    | (with_reducible first
      | assumption | apply State.setLane_keeps | apply ev_keeps | refine elim_keeps ?_ (fun _ => ?_) | apply loseHead_keeps
      | apply addFault_keeps | apply reinAbandon_keeps | apply laneHandle_keeps | exact Keeps.refl _)
    | fail_if_no_progress with_reducible refine Keeps.upd rfl rfl rfl ?_
    | split

theorem startRetrain_keeps {s} (x0 x1 x2) (h : Keeps s x2) : Keeps s (startRetrain x0 x1 x2) := by
  unfold startRetrain; try dsimp only
  repeat' first
    | (with_reducible first
      | assumption | apply dropRequests_keeps | apply State.setLane_keeps | apply startTraining_keeps | apply ev_keeps
      | apply laneStat_keeps | exact Keeps.refl _)
    | fail_if_no_progress with_reducible refine Keeps.upd rfl rfl rfl ?_
    | split

theorem stepFailed_keeps {s} (x0 x1 x2) (h : Keeps s x2) : Keeps s (stepFailed x0 x1 x2) := by
  unfold stepFailed; try dsimp only
  repeat' first
    | (with_reducible first
      | assumption | apply startTraining_keeps | apply State.setLane_keeps | apply laneFailed_keeps | exact Keeps.refl _)
    | fail_if_no_progress with_reducible refine Keeps.upd rfl rfl rfl ?_
    | split

theorem senseBridge_keeps {s} (x0 x1 x2) (h : Keeps s x2) : Keeps s (senseBridge x0 x1 x2) := by
  unfold senseBridge; try dsimp only
  repeat' first
    | (with_reducible first
      | assumption | apply startTraining_keeps | apply State.setLane_keeps | apply ev_keeps | apply laneHandle_keeps | exact Keeps.refl _)
    | fail_if_no_progress with_reducible refine Keeps.upd rfl rfl rfl ?_
    | split

theorem execTraceDetect_keeps (x0 x1 x2 x3) : KeepsO (tick x0 x3) (execTraceDetect x0 x1 x2 x3) := by
  unfold execTraceDetect; try dsimp only
  repeat' first
    | (with_reducible first
      | assumption | apply guardOk_keeps | apply senseBridge_keeps | refine fun _ => ?_ | exact Keeps.refl _)
    | fail_if_no_progress with_reducible refine Keeps.upd rfl rfl rfl ?_
    | with_reducible refine Keeps.out ?_
    | split

theorem locked_keeps {s} (x0 x1 x2) (h : Keeps s x2) : Keeps s (locked x0 x1 x2) := by
  unfold locked; try dsimp only
  repeat' first
    | (with_reducible first
      | assumption | apply emit_keeps | apply State.setLane_keeps | exact Keeps.refl _)
    | fail_if_no_progress with_reducible refine Keeps.upd rfl rfl rfl ?_
    | split

theorem execBlockLock_keeps (x0 x1 x2) : KeepsO (tick x0 x2) (execBlockLock x0 x1 x2) := by
  unfold execBlockLock; try dsimp only
  repeat' first
    | (with_reducible first
      | assumption | apply guardOk_keeps | apply locked_keeps | refine fun _ => ?_ | exact Keeps.refl _)
    | fail_if_no_progress with_reducible refine Keeps.upd rfl rfl rfl ?_
    | with_reducible refine Keeps.out ?_
    | split

theorem bringupFail_keeps {s} (x0 x1) (h : Keeps s x1) : Keeps s (bringupFail x0 x1) := by
  unfold bringupFail; try dsimp only
  repeat' first
    | (with_reducible first
      | assumption | apply drawFree_keeps | apply stepFailed_keeps | exact Keeps.refl _)
    | fail_if_no_progress with_reducible refine Keeps.upd rfl rfl rfl ?_
    | split
    | with_reducible refine Keeps.snd (by assumption) ?_
    | with_reducible refine Keeps.snd2 (by assumption) ?_

theorem execBringupStepFail_keeps (x0 x1 x2) : KeepsO (tick x0 x2) (execBringupStepFail x0 x1 x2) := by
  unfold execBringupStepFail; try dsimp only
  repeat' first
    | (with_reducible first
      | assumption | apply guardOk_keeps | apply bringupFail_keeps | refine fun _ => ?_ | exact Keeps.refl _)
    | fail_if_no_progress with_reducible refine Keeps.upd rfl rfl rfl ?_
    | with_reducible refine Keeps.out ?_
    | split

theorem sendEcho_keeps {s} (x0 x1) (h : Keeps s x1) : Keeps s (sendEcho x0 x1) := by
  unfold sendEcho; try dsimp only
  repeat' first
    | (with_reducible first
      | assumption | apply queueMgmt_keeps | apply State.setLane_keeps | exact Keeps.refl _)
    | fail_if_no_progress with_reducible refine Keeps.upd rfl rfl rfl ?_
    | split

theorem takeCaps_keeps {s} (x0 x1 x2) (h : Keeps s x2) : Keeps s (takeCaps x0 x1 x2) := by
  unfold takeCaps; try dsimp only
  repeat' first
    | (with_reducible first
      | assumption | refine foldl_keeps (fun _ _ => ?_) ?_ | apply sendEcho_keeps | apply State.setLane_keeps | apply ev_keeps
      | apply stepFailed_keeps | exact Keeps.refl _)
    | fail_if_no_progress with_reducible refine Keeps.upd rfl rfl rfl ?_
    | split

theorem execCaps_keeps (x0 x1 x2 x3) : KeepsO (tick x0 x3) (execCaps x0 x1 x2 x3) := by
  unfold execCaps; try dsimp only
  repeat' first
    | (with_reducible first
      | assumption | apply guardOk_keeps | apply takeCaps_keeps | refine fun _ => ?_ | exact Keeps.refl _)
    | fail_if_no_progress with_reducible refine Keeps.upd rfl rfl rfl ?_
    | with_reducible refine Keeps.out ?_
    | split

theorem takeEcho_keeps {s} (x0 x1 x2) (h : Keeps s x2) : Keeps s (takeEcho x0 x1 x2) := by
  unfold takeEcho; try dsimp only
  repeat' first
    | (with_reducible first
      | assumption | apply sendEcho_keeps | apply State.setLane_keeps | apply goActive_keeps | apply replaceLines_keeps | exact Keeps.refl _)
    | fail_if_no_progress with_reducible refine Keeps.upd rfl rfl rfl ?_
    | split

theorem execEchoReply_keeps (x0 x1 x2 x3) : KeepsO (tick x0 x3) (execEchoReply x0 x1 x2 x3) := by
  unfold execEchoReply; try dsimp only
  repeat' first
    | (with_reducible first
      | assumption | apply guardOk_keeps | apply takeEcho_keeps | refine fun _ => ?_ | exact Keeps.refl _)
    | fail_if_no_progress with_reducible refine Keeps.upd rfl rfl rfl ?_
    | with_reducible refine Keeps.out ?_
    | split

theorem startMeasure_keeps {s} (x0 x1) (h : Keeps s x1) : Keeps s (startMeasure x0 x1) := by
  unfold startMeasure; try dsimp only
  repeat' first
    | (with_reducible first
      | assumption | apply sendEcho_keeps | apply State.setLane_keeps | exact Keeps.refl _)
    | fail_if_no_progress with_reducible refine Keeps.upd rfl rfl rfl ?_
    | split

theorem execLatencyMeasure_keeps (x0 x1 x2) : KeepsO (tick x0 x2) (execLatencyMeasure x0 x1 x2) := by
  unfold execLatencyMeasure; try dsimp only
  repeat' first
    | (with_reducible first
      | assumption | apply guardOk_keeps | apply startMeasure_keeps | refine fun _ => ?_ | exact Keeps.refl _)
    | fail_if_no_progress with_reducible refine Keeps.upd rfl rfl rfl ?_
    | with_reducible refine Keeps.out ?_
    | split

theorem execLockLost_keeps (x0 x1 x2) : KeepsO (tick x0 x2) (execLockLost x0 x1 x2) := by
  unfold execLockLost; try dsimp only
  repeat' first
    | (with_reducible first
      | assumption | apply guardOk_keeps | apply startRetrain_keeps | refine fun _ => ?_ | exact Keeps.refl _)
    | fail_if_no_progress with_reducible refine Keeps.upd rfl rfl rfl ?_
    | with_reducible refine Keeps.out ?_
    | split

theorem execErrorLimit_keeps (x0 x1 x2 x3) : KeepsO (tick x0 x3) (execErrorLimit x0 x1 x2 x3) := by
  unfold execErrorLimit; try dsimp only
  repeat' first
    | (with_reducible first
      | assumption | apply guardOk_keeps | apply startRetrain_keeps | refine fun _ => ?_ | exact Keeps.refl _)
    | fail_if_no_progress with_reducible refine Keeps.upd rfl rfl rfl ?_
    | with_reducible refine Keeps.out ?_
    | split

theorem execTraceBlockDiscard_keeps (x0 x1 x2 x3) : KeepsO (tick x0 x3) (execTraceBlockDiscard x0 x1 x2 x3) := by
  unfold execTraceBlockDiscard; try dsimp only
  repeat' first
    | (with_reducible first
      | assumption | apply ok_keeps | apply laneStat_keeps | exact Keeps.refl _)
    | fail_if_no_progress with_reducible refine Keeps.upd rfl rfl rfl ?_
    | with_reducible refine Keeps.out ?_
    | split

theorem sendWaiting_keeps {s} (x0 x1) (h : Keeps s x1) : Keeps s (sendWaiting x0 x1) := by
  unfold sendWaiting; try dsimp only
  repeat' first
    | (with_reducible first
      | assumption | apply queueMgmt_keeps | apply State.setLane_keeps | exact Keeps.refl _)
    | fail_if_no_progress with_reducible refine Keeps.upd rfl rfl rfl ?_
    | split

theorem sendConfig_keeps {s} (x0 x1 x2 x3 x4 x5 x6) (h : Keeps s x6) : Keeps s (sendConfig x0 x1 x2 x3 x4 x5 x6) := by
  unfold sendConfig; try dsimp only
  repeat' first
    | (with_reducible first
      | assumption | apply sendWaiting_keeps | apply State.setLane_keeps | exact Keeps.refl _)
    | fail_if_no_progress with_reducible refine Keeps.upd rfl rfl rfl ?_
    | split

theorem freeRequest_keeps {s} (x0 x1 x2) (h : Keeps s x2) : Keeps s (freeRequest x0 x1 x2) := by
  unfold freeRequest; try dsimp only
  repeat' first
    | (with_reducible first
      | assumption | apply sendWaiting_keeps | apply State.setLane_keeps | exact Keeps.refl _)
    | fail_if_no_progress with_reducible refine Keeps.upd rfl rfl rfl ?_
    | split

theorem judgeEye_keeps {s} (x0 x1 x2 x3 x4) (h : Keeps s x4) : Keeps s (judgeEye x0 x1 x2 x3 x4) := by
  unfold judgeEye; try dsimp only
  repeat' first
    | (with_reducible first
      | assumption | apply ev_keeps | apply State.setLane_keeps | exact Keeps.refl _)
    | fail_if_no_progress with_reducible refine Keeps.upd rfl rfl rfl ?_
    | split

theorem powerTaken_keeps {s} (x0 x1 x2) (h : Keeps s x2) : Keeps s (powerTaken x0 x1 x2) := by
  unfold powerTaken; try dsimp only
  repeat' first
    | (with_reducible first
      | assumption | apply dropRequests_keeps | apply State.setLane_keeps | exact Keeps.refl _)
    | fail_if_no_progress with_reducible refine Keeps.upd rfl rfl rfl ?_
    | split

theorem noteRegister_keeps {s} (x0 x1 x2 x3) (h : Keeps s x3) : Keeps s (noteRegister x0 x1 x2 x3) := by
  unfold noteRegister; try dsimp only
  repeat' first
    | (with_reducible first
      | assumption | apply State.setLane_keeps | exact Keeps.refl _)
    | fail_if_no_progress with_reducible refine Keeps.upd rfl rfl rfl ?_
    | split

theorem takeResponse_keeps {s} (x0 x1 x2 x3 x4) (h : Keeps s x4) : Keeps s (takeResponse x0 x1 x2 x3 x4) := by
  unfold takeResponse; try dsimp only
  repeat' first
    | (with_reducible first
      | assumption | apply freeRequest_keeps | apply noteRegister_keeps | apply completeWord_keeps | apply powerTaken_keeps
      | apply State.setLane_keeps | apply judgeEye_keeps | exact Keeps.refl _)
    | fail_if_no_progress with_reducible refine Keeps.upd rfl rfl rfl ?_
    | split

theorem execConfigResponse_keeps (x0 x1 x2 x3 x4 x5) : KeepsO (tick x0 x5) (execConfigResponse x0 x1 x2 x3 x4 x5) := by
  unfold execConfigResponse; try dsimp only
  repeat' first
    | (with_reducible first
      | assumption | apply ok_keeps | apply takeResponse_keeps | exact Keeps.refl _)
    | fail_if_no_progress with_reducible refine Keeps.upd rfl rfl rfl ?_
    | with_reducible refine Keeps.out ?_
    | split

theorem requestLost_keeps {s} (x0 x1 x2) (h : Keeps s x2) : Keeps s (requestLost x0 x1 x2) := by
  unfold requestLost; try dsimp only
  repeat' first
    | (with_reducible first
      | assumption | apply freeRequest_keeps | apply State.setLane_keeps | apply completeWord_keeps | exact Keeps.refl _)
    | fail_if_no_progress with_reducible refine Keeps.upd rfl rfl rfl ?_
    | split

theorem execConfigTimeout_keeps (x0 x1 x2 x3) : KeepsO (tick x0 x3) (execConfigTimeout x0 x1 x2 x3) := by
  unfold execConfigTimeout; try dsimp only
  repeat' first
    | (with_reducible first
      | assumption | apply ok_keeps | apply guardOk_keeps | apply requestLost_keeps | refine fun _ => ?_ | exact Keeps.refl _)
    | fail_if_no_progress with_reducible refine Keeps.upd rfl rfl rfl ?_
    | with_reducible refine Keeps.out ?_
    | split

theorem readEye_keeps {s} (x0 x1 x2 x3) (h : Keeps s x3) : Keeps s (readEye x0 x1 x2 x3) := by
  unfold readEye; try dsimp only
  repeat' first
    | (with_reducible first
      | assumption | apply State.setLane_keeps | apply sendConfig_keeps | apply judgeEye_keeps | exact Keeps.refl _)
    | fail_if_no_progress with_reducible refine Keeps.upd rfl rfl rfl ?_
    | split

theorem execEyeRead_keeps (x0 x1 x2 x3 x4) : KeepsO (tick x0 x4) (execEyeRead x0 x1 x2 x3 x4) := by
  unfold execEyeRead; try dsimp only
  repeat' first
    | (with_reducible first
      | assumption | apply guardOk_keeps | refine elim_keeps ?_ (fun _ => ?_) | apply id_keeps | apply wantAdaptation_keeps
      | apply readEye_keeps | refine fun _ => ?_ | exact Keeps.refl _)
    | fail_if_no_progress with_reducible refine Keeps.upd rfl rfl rfl ?_
    | with_reducible refine Keeps.out ?_
    | split

theorem laneWake_keeps {s} (x0 x1 x2) (h : Keeps s x2) : Keeps s (laneWake x0 x1 x2) := by
  unfold laneWake; try dsimp only
  repeat' first
    | (with_reducible first
      | assumption | apply enterActive_keeps | apply State.setLane_keeps | apply startTraining_keeps | exact Keeps.refl _)
    | fail_if_no_progress with_reducible refine Keeps.upd rfl rfl rfl ?_
    | split

theorem lanePower_keeps {s} (x0 x1 x2) (h : Keeps s x2) : Keeps s (lanePower x0 x1 x2) := by
  unfold lanePower; try dsimp only
  repeat' first
    | (with_reducible first
      | assumption | apply laneWake_keeps | apply sendConfig_keeps | apply State.setLane_keeps | exact Keeps.refl _)
    | fail_if_no_progress with_reducible refine Keeps.upd rfl rfl rfl ?_
    | split

theorem laneDown_keeps {s} (x0 x1) (h : Keeps s x1) : Keeps s (laneDown x0 x1) := by
  unfold laneDown; try dsimp only
  repeat' first
    | (with_reducible first
      | assumption | apply dropRequests_keeps | apply laneHandle_keeps | apply State.setLane_keeps | exact Keeps.refl _)
    | fail_if_no_progress with_reducible refine Keeps.upd rfl rfl rfl ?_
    | split

theorem execClaimSend_keeps (x0 x1 x2) : KeepsO (tick x0 x2) (execClaimSend x0 x1 x2) := by
  unfold execClaimSend; try dsimp only
  repeat' first
    | (with_reducible first
      | assumption | apply ok_keeps | apply guardOk_keeps | apply emit_keeps | refine fun _ => ?_ | exact Keeps.refl _)
    | fail_if_no_progress with_reducible refine Keeps.upd rfl rfl rfl ?_
    | with_reducible refine Keeps.out ?_
    | split

theorem readFrame_keeps {s} (x0 x1 x2) (h : Keeps s x2) : Keeps s (readFrame x0 x1 x2) := by
  unfold readFrame; try dsimp only
  repeat' first
    | (with_reducible first
      | assumption | refine forAll_keeps (fun _ _ => ?_) ?_ | refine foldl_keeps (fun _ _ => ?_) ?_ | refine foldl2_keeps (fun _ _ => ?_) ?_
      | apply readUnit_keeps | apply modFrame_keeps | refine fun _ => ?_ | exact Keeps.refl _)
    | fail_if_no_progress with_reducible refine Keeps.upd rfl rfl rfl ?_
    | split
    | fail_if_no_progress with_reducible dsimp only
    | with_reducible refine Keeps.snd (by assumption) ?_
    | with_reducible refine Keeps.snd2 (by assumption) ?_

theorem alignPair_keeps {s} (x0 x1 x2) (h : Keeps s x2) : Keeps s (alignPair x0 x1 x2) := by
  unfold alignPair; try dsimp only
  repeat' first
    | (with_reducible first
      | assumption | apply State.setSensor_keeps | apply ev_keeps | exact Keeps.refl _)
    | fail_if_no_progress with_reducible refine Keeps.upd rfl rfl rfl ?_
    | split

theorem alignFrame_keeps {s} (x0 x1) (h : Keeps s x1) : Keeps s (alignFrame x0 x1) := by
  unfold alignFrame; try dsimp only
  repeat' first
    | (with_reducible first
      | assumption | refine forAll_keeps (fun _ _ => ?_) ?_ | apply alignPair_keeps | refine fun _ => ?_ | exact Keeps.refl _)
    | fail_if_no_progress with_reducible refine Keeps.upd rfl rfl rfl ?_
    | split
    | fail_if_no_progress with_reducible dsimp only

theorem missWindows_keeps {s} (x0 x1) (h : Keeps s x1) : Keeps s (missWindows x0 x1) := by
  unfold missWindows; try dsimp only
  repeat' first
    | (with_reducible first
      | assumption | refine forAll_keeps (fun _ _ => ?_) ?_ | refine fun _ => ?_ | exact Keeps.refl _)
    | fail_if_no_progress with_reducible refine Keeps.upd rfl rfl rfl ?_
    | split
    | fail_if_no_progress with_reducible dsimp only

theorem keepRecords_keeps {s} (x0) (h : Keeps s x0) : Keeps s (keepRecords x0) := by
  unfold keepRecords; try dsimp only
  repeat' first
    | (with_reducible first
      | assumption | exact Keeps.refl _)
    | fail_if_no_progress with_reducible refine Keeps.upd rfl rfl rfl ?_
    | split

theorem sliceCount_keeps {s} (x0 x1 x2) (h : Keeps s x2) : Keeps s (sliceCount x0 x1 x2) := by
  unfold sliceCount; try dsimp only
  repeat' first
    | (with_reducible first
      | assumption | apply drawFree_keeps | exact Keeps.refl _)
    | fail_if_no_progress with_reducible refine Keeps.upd rfl rfl rfl ?_
    | split
    | with_reducible refine Keeps.snd (by assumption) ?_
    | with_reducible refine Keeps.snd2 (by assumption) ?_

theorem sliceDone_keeps {s} (x0 x1 x2) (h : Keeps s x2) : Keeps s (sliceDone x0 x1 x2) := by
  unfold sliceDone; try dsimp only
  repeat' first
    | (with_reducible first
      | assumption | apply readFrame_keeps | apply modFrame_keeps | apply alignFrame_keeps | apply sliceCount_keeps
      | apply missWindows_keeps | apply frameDone_keeps | apply noteBacklog_keeps | apply assignSlices_keeps | apply keepRecords_keeps
      | apply freeFrames_keeps | refine fun _ => ?_ | exact Keeps.refl _)
    | fail_if_no_progress with_reducible refine Keeps.upd rfl rfl rfl ?_
    | split

theorem execSliceDone_keeps (x0 x1 x2) : KeepsO (tick x0 x2) (execSliceDone x0 x1 x2) := by
  unfold execSliceDone; try dsimp only
  repeat' first
    | (with_reducible first
      | assumption | apply guardOk_keeps | apply sliceDone_keeps | apply ok_keeps | refine fun _ => ?_ | exact Keeps.refl _)
    | fail_if_no_progress with_reducible refine Keeps.upd rfl rfl rfl ?_
    | with_reducible refine Keeps.out ?_
    | split

theorem sendList_keeps {s} (x0 x1 x2 x3) (h : Keeps s x3) : Keeps s (sendList x0 x1 x2 x3) := by
  unfold sendList; try dsimp only
  repeat' first
    | (with_reducible first
      | assumption | refine forAll_keeps (fun _ _ => ?_) ?_ | apply emit_keeps | refine fun _ => ?_ | exact Keeps.refl _)
    | fail_if_no_progress with_reducible refine Keeps.upd rfl rfl rfl ?_
    | split
    | fail_if_no_progress with_reducible dsimp only

theorem startList_keeps {s} (x0 x1 x2 x3) (h : Keeps s x3) : Keeps s (startList x0 x1 x2 x3) := by
  unfold startList; try dsimp only
  repeat' first
    | (with_reducible first
      | assumption | apply State.setSensor_keeps | apply sendList_keeps | exact Keeps.refl _)
    | fail_if_no_progress with_reducible refine Keeps.upd rfl rfl rfl ?_
    | split

theorem failList_keeps {s} (x0 x1 x2 x3) (h : Keeps s x3) : Keeps s (failList x0 x1 x2 x3) := by
  unfold failList; try dsimp only
  repeat' first
    | (with_reducible first
      | assumption | apply ev_keeps | apply State.setSensor_keeps | exact Keeps.refl _)
    | fail_if_no_progress with_reducible refine Keeps.upd rfl rfl rfl ?_
    | split

theorem exposureTrigger_keeps {s} (x0 x1 x2 x3) (h : Keeps s x3) : Keeps s (exposureTrigger x0 x1 x2 x3) := by
  unfold exposureTrigger; try dsimp only
  repeat' first
    | (with_reducible first
      | assumption | apply State.setSensor_keeps | apply drawFree_keeps | apply failList_keeps | apply startList_keeps | exact Keeps.refl _)
    | fail_if_no_progress with_reducible refine Keeps.upd rfl rfl rfl ?_
    | split
    | with_reducible refine Keeps.snd (by assumption) ?_
    | with_reducible refine Keeps.snd2 (by assumption) ?_

theorem openFrame_keeps {s} (x0 x1 x2 x3 x4 x5) (h : Keeps s x5) : Keeps s (openFrame x0 x1 x2 x3 x4 x5) := by
  unfold openFrame; try dsimp only
  repeat' first
    | (with_reducible first
      | assumption | apply State.setSensor_keeps | apply ev_keeps | exact Keeps.refl _)
    | fail_if_no_progress with_reducible refine Keeps.upd rfl rfl rfl ?_
    | split

theorem endFrames_keeps {s} (x0 x1) (h : Keeps s x1) : Keeps s (endFrames x0 x1) := by
  unfold endFrames; try dsimp only
  repeat' first
    | (with_reducible first
      | assumption | refine forAll_keeps (fun _ _ => ?_) ?_ | apply closeFrame_keeps | refine fun _ => ?_ | exact Keeps.refl _)
    | fail_if_no_progress with_reducible refine Keeps.upd rfl rfl rfl ?_
    | split
    | fail_if_no_progress with_reducible dsimp only

theorem frameTrigger_keeps {s} (x0 x1 x2 x3 x4) (h : Keeps s x4) : Keeps s (frameTrigger x0 x1 x2 x3 x4) := by
  unfold frameTrigger; try dsimp only
  repeat' first
    | (with_reducible first
      | assumption | refine forAll_keeps (fun _ _ => ?_) ?_ | apply openFrame_keeps | apply exposureTrigger_keeps | apply endFrames_keeps
      | refine fun _ => ?_ | exact Keeps.refl _)
    | fail_if_no_progress with_reducible refine Keeps.upd rfl rfl rfl ?_
    | split
    | fail_if_no_progress with_reducible dsimp only

theorem camPulse_keeps {s} (x0 x1 x2 x3) (h : Keeps s x3) : Keeps s (camPulse x0 x1 x2 x3) := by
  unfold camPulse; try dsimp only
  repeat' first
    | (with_reducible first
      | assumption | apply emit_keeps | apply State.setTrig_keeps | exact Keeps.refl _)
    | fail_if_no_progress with_reducible refine Keeps.upd rfl rfl rfl ?_
    | split

theorem lineTrigger_keeps {s} (x0 x1 x2 x3) (h : Keeps s x3) : Keeps s (lineTrigger x0 x1 x2 x3) := by
  unfold lineTrigger; try dsimp only
  repeat' first
    | (with_reducible first
      | assumption | apply State.setCamPort_keeps | apply camPulse_keeps | apply frameTrigger_keeps | refine forAll_keeps (fun _ _ => ?_) ?_
      | apply modFrame_keeps | refine fun _ => ?_ | exact Keeps.refl _)
    | fail_if_no_progress with_reducible refine Keeps.upd rfl rfl rfl ?_
    | split
    | fail_if_no_progress with_reducible dsimp only

theorem execLineTrigger_keeps (x0 x1 x2) : KeepsO (tick x0 x2) (execLineTrigger x0 x1 x2) := by
  unfold execLineTrigger; try dsimp only
  repeat' first
    | (with_reducible first
      | assumption | apply guardOk_keeps | apply predictCam_keeps | apply lineTrigger_keeps | apply ok_keeps | refine fun _ => ?_
      | exact Keeps.refl _)
    | fail_if_no_progress with_reducible refine Keeps.upd rfl rfl rfl ?_
    | with_reducible refine Keeps.out ?_
    | split

theorem channelError_keeps {s} (x0 x1 x2 x3) (h : Keeps s x3) : Keeps s (channelError x0 x1 x2 x3) := by
  unfold channelError; try dsimp only
  repeat' first
    | (with_reducible first
      | assumption | exact Keeps.refl _)
    | fail_if_no_progress with_reducible refine Keeps.upd rfl rfl rfl ?_
    | split

theorem headerFixed_keeps {s} (x0 x1 x2 x3) (h : Keeps s x3) : Keeps s (headerFixed x0 x1 x2 x3) := by
  unfold headerFixed; try dsimp only
  repeat' first
    | (with_reducible first
      | assumption | apply channelError_keeps | apply modFrame_keeps | refine fun _ => ?_ | exact Keeps.refl _)
    | fail_if_no_progress with_reducible refine Keeps.upd rfl rfl rfl ?_
    | split

theorem frameStartStep_keeps {s} (x0 x1 x2) (h : Keeps s x2) : Keeps s (frameStartStep x0 x1 x2) := by
  unfold frameStartStep; try dsimp only
  repeat' first
    | (with_reducible first
      | assumption | apply channelError_keeps | apply closeFrame_keeps | apply State.setSensor_keeps | apply modFrame_keeps
      | refine fun _ => ?_ | exact Keeps.refl _)
    | fail_if_no_progress with_reducible refine Keeps.upd rfl rfl rfl ?_
    | split

theorem execFrameStart_keeps (x0 x1 x2 x3) : KeepsO (tick x0 x3) (execFrameStart x0 x1 x2 x3) := by
  unfold execFrameStart; try dsimp only
  repeat' first
    | (with_reducible first
      | assumption | apply guardOk_keeps | apply headerFixed_keeps | apply frameStartStep_keeps | refine fun _ => ?_ | exact Keeps.refl _)
    | fail_if_no_progress with_reducible refine Keeps.upd rfl rfl rfl ?_
    | with_reducible refine Keeps.out ?_
    | split

theorem lineMemoryReads_keeps {s} (x0 x1 x2 x3 x4) (h : Keeps s x4) : Keeps s (lineMemoryReads x0 x1 x2 x3 x4) := by
  unfold lineMemoryReads; try dsimp only
  repeat' first
    | (with_reducible first
      | assumption | apply readMarked_keeps | apply strikeWords_keeps | apply forgetWords_keeps | refine forAll_keeps (fun _ _ => ?_) ?_
      | apply setSramMark_keeps | apply modFrame_keeps | refine fun _ => ?_ | exact Keeps.refl _)
    | fail_if_no_progress with_reducible refine Keeps.upd rfl rfl rfl ?_
    | split
    | fail_if_no_progress with_reducible dsimp only
    | with_reducible refine Keeps.snd (by assumption) ?_
    | with_reducible refine Keeps.snd2 (by assumption) ?_

theorem takeCameraLine_keeps {s} (x0 x1 x2 x3 x4 x5 x6) (h : Keeps s x6) : Keeps s (takeCameraLine x0 x1 x2 x3 x4 x5 x6) := by
  unfold takeCameraLine; try dsimp only
  repeat' first
    | (with_reducible first
      | assumption | apply modFrame_keeps | apply channelError_keeps | apply lineMemoryReads_keeps | apply writeUnits_keeps
      | refine fun _ => ?_ | exact Keeps.refl _)
    | fail_if_no_progress with_reducible refine Keeps.upd rfl rfl rfl ?_
    | split

theorem cameraLineStep_keeps {s} (x0 x1 x2 x3 x4 x5 x6 x7) (h : Keeps s x7) : Keeps s (cameraLineStep x0 x1 x2 x3 x4 x5 x6 x7) := by
  unfold cameraLineStep; try dsimp only
  repeat' first
    | (with_reducible first
      | assumption | apply channelError_keeps | apply modFrame_keeps | apply takeCameraLine_keeps | refine fun _ => ?_ | exact Keeps.refl _)
    | fail_if_no_progress with_reducible refine Keeps.upd rfl rfl rfl ?_
    | split

theorem execCameraLine_keeps (x0 x1 x2 x3 x4 x5 x6 x7 x8) : KeepsO (tick x0 x8) (execCameraLine x0 x1 x2 x3 x4 x5 x6 x7 x8) := by
  unfold execCameraLine; try dsimp only
  repeat' first
    | (with_reducible first
      | assumption | apply guardOk_keeps | apply cameraLineStep_keeps | refine fun _ => ?_ | exact Keeps.refl _)
    | fail_if_no_progress with_reducible refine Keeps.upd rfl rfl rfl ?_
    | with_reducible refine Keeps.out ?_
    | split

theorem packetErrorStep_keeps {s} (x0 x1 x2 x3) (h : Keeps s x3) : Keeps s (packetErrorStep x0 x1 x2 x3) := by
  unfold packetErrorStep; try dsimp only
  repeat' first
    | (with_reducible first
      | assumption | apply channelError_keeps | refine forAll_keeps (fun _ _ => ?_) ?_ | apply modFrame_keeps | refine fun _ => ?_
      | exact Keeps.refl _)
    | fail_if_no_progress with_reducible refine Keeps.upd rfl rfl rfl ?_
    | split
    | fail_if_no_progress with_reducible dsimp only

theorem execCameraPacketError_keeps (x0 x1 x2 x3 x4) : KeepsO (tick x0 x4) (execCameraPacketError x0 x1 x2 x3 x4) := by
  unfold execCameraPacketError; try dsimp only
  repeat' first
    | (with_reducible first
      | assumption | apply guardOk_keeps | apply packetErrorStep_keeps | refine fun _ => ?_ | exact Keeps.refl _)
    | fail_if_no_progress with_reducible refine Keeps.upd rfl rfl rfl ?_
    | with_reducible refine Keeps.out ?_
    | split

theorem frameEndStep_keeps {s} (x0 x1 x2) (h : Keeps s x2) : Keeps s (frameEndStep x0 x1 x2) := by
  unfold frameEndStep; try dsimp only
  repeat' first
    | (with_reducible first
      | assumption | apply State.setSensor_keeps | apply closeFrame_keeps | exact Keeps.refl _)
    | fail_if_no_progress with_reducible refine Keeps.upd rfl rfl rfl ?_
    | split

theorem execFrameEnd_keeps (x0 x1 x2 x3) : KeepsO (tick x0 x3) (execFrameEnd x0 x1 x2 x3) := by
  unfold execFrameEnd; try dsimp only
  repeat' first
    | (with_reducible first
      | assumption | apply guardOk_keeps | apply frameEndStep_keeps | apply headerFixed_keeps | refine fun _ => ?_ | exact Keeps.refl _)
    | fail_if_no_progress with_reducible refine Keeps.upd rfl rfl rfl ?_
    | with_reducible refine Keeps.out ?_
    | split

theorem startWindowStep_keeps {s} (x0 x1) (h : Keeps s x1) : Keeps s (startWindowStep x0 x1) := by
  unfold startWindowStep; try dsimp only
  repeat' first
    | (with_reducible first
      | assumption | refine forAll_keeps (fun _ _ => ?_) ?_ | apply modFrame_keeps | refine fun _ => ?_ | exact Keeps.refl _)
    | fail_if_no_progress with_reducible refine Keeps.upd rfl rfl rfl ?_
    | split
    | fail_if_no_progress with_reducible dsimp only

theorem execStartWindow_keeps (x0 x1 x2) : KeepsO (tick x0 x2) (execStartWindow x0 x1 x2) := by
  unfold execStartWindow; try dsimp only
  repeat' first
    | (with_reducible first
      | assumption | apply guardOk_keeps | apply startWindowStep_keeps | refine fun _ => ?_ | exact Keeps.refl _)
    | fail_if_no_progress with_reducible refine Keeps.upd rfl rfl rfl ?_
    | with_reducible refine Keeps.out ?_
    | split

theorem listDone_keeps {s} (x0 x1 x2) (h : Keeps s x2) : Keeps s (listDone x0 x1 x2) := by
  unfold listDone; try dsimp only
  repeat' first
    | (with_reducible first
      | assumption | apply State.setSensor_keeps | apply failList_keeps | exact Keeps.refl _)
    | fail_if_no_progress with_reducible refine Keeps.upd rfl rfl rfl ?_
    | split

theorem execExposureListDone_keeps (x0 x1 x2 x3) : KeepsO (tick x0 x3) (execExposureListDone x0 x1 x2 x3) := by
  unfold execExposureListDone; try dsimp only
  repeat' first
    | (with_reducible first
      | assumption | apply guardOk_keeps | apply listDone_keeps | refine fun _ => ?_ | exact Keeps.refl _)
    | fail_if_no_progress with_reducible refine Keeps.upd rfl rfl rfl ?_
    | with_reducible refine Keeps.out ?_
    | split

theorem measureWrite_keeps {s} (x0 x1 x2 x3) (h : Keeps s x3) : Keeps s (measureWrite x0 x1 x2 x3) := by
  unfold measureWrite; try dsimp only
  repeat' first
    | (with_reducible first
      | assumption | apply setNozCnt_keeps | exact Keeps.refl _)
    | fail_if_no_progress with_reducible refine Keeps.upd rfl rfl rfl ?_
    | split

theorem driftEvent_keeps {s} (x0 x1 x2 x3) (h : Keeps s x3) : Keeps s (driftEvent x0 x1 x2 x3) := by
  unfold driftEvent; try dsimp only
  repeat' first
    | (with_reducible first
      | assumption | apply ev_keeps | exact Keeps.refl _)
    | fail_if_no_progress with_reducible refine Keeps.upd rfl rfl rfl ?_
    | split

theorem registerRow_keeps {s} (x0 x1 x2 x3) (h : Keeps s x3) : Keeps s (registerRow x0 x1 x2 x3).2 := by
  unfold registerRow; try dsimp only
  repeat' first
    | (with_reducible first
      | assumption | apply ev_keeps | exact Keeps.refl _)
    | fail_if_no_progress with_reducible refine Keeps.upd rfl rfl rfl ?_
    | split

theorem dropBar_keeps {s} (x0 x1) (h : Keeps s x1) : Keeps s (dropBar x0 x1) := by
  unfold dropBar; try dsimp only
  repeat' first
    | (with_reducible first
      | assumption | exact Keeps.refl _)
    | fail_if_no_progress with_reducible refine Keeps.upd rfl rfl rfl ?_
    | split

theorem skipBar_keeps {s} (x0 x1 x2) (h : Keeps s x2) : Keeps s (skipBar x0 x1 x2) := by
  unfold skipBar; try dsimp only
  repeat' first
    | (with_reducible first
      | assumption | apply dropBar_keeps | apply ev_keeps | exact Keeps.refl _)
    | fail_if_no_progress with_reducible refine Keeps.upd rfl rfl rfl ?_
    | split

theorem measurePlane_keeps {s} (x0 x1 x2) (h : Keeps s x2) : Keeps s (measurePlane x0 x1 x2).2 := by
  unfold measurePlane; try dsimp only
  repeat' first
    | (with_reducible first
      | assumption | refine forAll_keeps (fun _ _ => ?_) ?_ | apply measureWrite_keeps | apply driftEvent_keeps
      | refine foldl_keeps (fun _ _ => ?_) ?_ | refine foldl2_keeps (fun _ _ => ?_) ?_ | refine fun _ => ?_ | exact Keeps.refl _)
    | fail_if_no_progress with_reducible refine Keeps.upd rfl rfl rfl ?_
    | split
    | fail_if_no_progress with_reducible dsimp only

theorem measureBar_keeps {s} (x0 x1) (h : Keeps s x1) : Keeps s (measureBar x0 x1) := by
  unfold measureBar; try dsimp only
  repeat' first
    | (with_reducible first
      | assumption | apply ev_keeps | refine foldl_keeps (fun _ _ => ?_) ?_ | refine foldl2_keeps (fun _ _ => ?_) ?_
      | apply measurePlane_keeps | apply registerRow_keeps | apply dropBar_keeps | apply mirror_keeps | exact Keeps.refl _)
    | fail_if_no_progress with_reducible refine Keeps.upd rfl rfl rfl ?_
    | split
    | with_reducible refine Keeps.snd (by assumption) ?_
    | with_reducible refine Keeps.snd2 (by assumption) ?_

theorem loopBarStep_keeps {s} (x0) (h : Keeps s x0) : Keeps s (loopBarStep x0) := by
  unfold loopBarStep; try dsimp only
  repeat' first
    | (with_reducible first
      | assumption | apply skipBar_keeps | apply measureBar_keeps | exact Keeps.refl _)
    | fail_if_no_progress with_reducible refine Keeps.upd rfl rfl rfl ?_
    | split

theorem execLoopBar_keeps (x0 x1) : KeepsO (tick x0 x1) (execLoopBar x0 x1) := by
  unfold execLoopBar; try dsimp only
  repeat' first
    | (with_reducible first
      | assumption | apply guardOk_keeps | apply loopBarStep_keeps | refine fun _ => ?_ | exact Keeps.refl _)
    | fail_if_no_progress with_reducible refine Keeps.upd rfl rfl rfl ?_
    | with_reducible refine Keeps.out ?_
    | split

theorem decidePorts_keeps {s} (x0) (h : Keeps s x0) : Keeps s (decidePorts x0) := by
  unfold decidePorts; try dsimp only
  repeat' first
    | (with_reducible first
      | assumption | refine forAll_keeps (fun _ _ => ?_) ?_ | apply State.setPtpPort_keeps | refine fun _ => ?_ | exact Keeps.refl _)
    | fail_if_no_progress with_reducible refine Keeps.upd rfl rfl rfl ?_
    | split
    | fail_if_no_progress with_reducible dsimp only

theorem ptpInit_keeps {s} (x0) (h : Keeps s x0) : Keeps s (ptpInit x0) := by
  unfold ptpInit; try dsimp only
  repeat' first
    | (with_reducible first
      | assumption | refine forAll_keeps (fun _ _ => ?_) ?_ | apply State.setPtpPort_keeps | refine fun _ => ?_ | exact Keeps.refl _)
    | fail_if_no_progress with_reducible refine Keeps.upd rfl rfl rfl ?_
    | split
    | fail_if_no_progress with_reducible dsimp only

theorem mirrorTime_keeps {s} (x0 x1) (h : Keeps s x0) : Keeps s (mirrorTime x0 x1) := by
  unfold mirrorTime; try dsimp only
  repeat' first
    | (with_reducible first
      | assumption | apply mirror_keeps | exact Keeps.refl _)
    | fail_if_no_progress with_reducible refine Keeps.upd rfl rfl rfl ?_
    | split

theorem setServo_keeps {s} (x0 x1) (h : Keeps s x1) : Keeps s (setServo x0 x1) := by
  unfold setServo; try dsimp only
  repeat' first
    | (with_reducible first
      | assumption | refine foldl_keeps (fun _ _ => ?_) ?_ | apply mirrorTime_keeps | apply ev_keeps | exact Keeps.refl _)
    | fail_if_no_progress with_reducible refine Keeps.upd rfl rfl rfl ?_
    | split

theorem stepTime_keeps {s} (x0 x1 x2) (h : Keeps s x2) : Keeps s (stepTime x0 x1 x2) := by
  unfold stepTime; try dsimp only
  repeat' first
    | (with_reducible first
      | assumption | refine forAll_keeps (fun _ _ => ?_) ?_ | apply trigMiss_keeps | apply State.setTrig_keeps
      | apply State.setPtpPort_keeps | apply ev_keeps | refine fun _ => ?_ | exact Keeps.refl _)
    | fail_if_no_progress with_reducible refine Keeps.upd rfl rfl rfl ?_
    | split
    | fail_if_no_progress with_reducible dsimp only

theorem stepBy_keeps {s} (x0 x1 x2) (h : Keeps s x2) : Keeps s (stepBy x0 x1 x2) := by
  unfold stepBy; try dsimp only
  repeat' first
    | (with_reducible first
      | assumption | apply setServo_keeps | apply stepTime_keeps | exact Keeps.refl _)
    | fail_if_no_progress with_reducible refine Keeps.upd rfl rfl rfl ?_
    | split

theorem newFreq_keeps {s} (x0) (h : Keeps s x0) : Keeps s (newFreq x0) := by
  unfold newFreq; try dsimp only
  repeat' first
    | (with_reducible first
      | assumption | apply drawFree_keeps | exact Keeps.refl _)
    | fail_if_no_progress with_reducible refine Keeps.upd rfl rfl rfl ?_
    | split
    | with_reducible refine Keeps.snd (by assumption) ?_
    | with_reducible refine Keeps.snd2 (by assumption) ?_

theorem judgeOffset_keeps {s} (x0 x1) (h : Keeps s x1) : Keeps s (judgeOffset x0 x1) := by
  unfold judgeOffset; try dsimp only
  repeat' first
    | (with_reducible first
      | assumption | apply stepBy_keeps | apply newFreq_keeps | apply setServo_keeps | apply mirrorTime_keeps | apply ev_keeps
      | exact Keeps.refl _)
    | fail_if_no_progress with_reducible refine Keeps.upd rfl rfl rfl ?_
    | split

theorem acceptJump_keeps {s} (x0) (h : Keeps s x0) : Keeps s (acceptJump x0) := by
  unfold acceptJump; try dsimp only
  repeat' first
    | (with_reducible first
      | assumption | apply mirrorTime_keeps | apply stepTime_keeps | apply setServo_keeps | exact Keeps.refl _)
    | fail_if_no_progress with_reducible refine Keeps.upd rfl rfl rfl ?_
    | split

theorem loseMaster_keeps {s} (x0) (h : Keeps s x0) : Keeps s (loseMaster x0) := by
  unfold loseMaster; try dsimp only
  repeat' first
    | (with_reducible first
      | assumption | apply setServo_keeps | exact Keeps.refl _)
    | fail_if_no_progress with_reducible refine Keeps.upd rfl rfl rfl ?_
    | split

theorem selectMaster_keeps {s} (x0) (h : Keeps s x0) : Keeps s (selectMaster x0) := by
  unfold selectMaster; try dsimp only
  repeat' first
    | (with_reducible first
      | assumption | apply decidePorts_keeps | apply loseMaster_keeps | apply ev_keeps | exact Keeps.refl _)
    | fail_if_no_progress with_reducible refine Keeps.upd rfl rfl rfl ?_
    | split

theorem roleWritten_keeps {s} (x0) (h : Keeps s x0) : Keeps s (roleWritten x0) := by
  unfold roleWritten; try dsimp only
  repeat' first
    | (with_reducible first
      | assumption | apply ptpInit_keeps | apply setServo_keeps | exact Keeps.refl _)
    | fail_if_no_progress with_reducible refine Keeps.upd rfl rfl rfl ?_
    | split

theorem pushStamp_keeps {s} (x0 x1 x2 x3 x4 x5) (h : Keeps s x5) : Keeps s (pushStamp x0 x1 x2 x3 x4 x5) := by
  unfold pushStamp; try dsimp only
  repeat' first
    | (with_reducible first
      | assumption | apply State.setPtpPort_keeps | apply ev_keeps | exact Keeps.refl _)
    | fail_if_no_progress with_reducible refine Keeps.upd rfl rfl rfl ?_
    | split

theorem ptpDrop_keeps {s} (x0 x1) (h : Keeps s x1) : Keeps s (ptpDrop x0 x1) := by
  unfold ptpDrop; try dsimp only
  repeat' first
    | (with_reducible first
      | assumption | apply State.setPtpPort_keeps | exact Keeps.refl _)
    | fail_if_no_progress with_reducible refine Keeps.upd rfl rfl rfl ?_
    | split

theorem forwardGeneral_keeps {s} (x0 x1 x2 x3) (h : Keeps s x3) : Keeps s (forwardGeneral x0 x1 x2 x3) := by
  unfold forwardGeneral; try dsimp only
  repeat' first
    | (with_reducible first
      | assumption | apply emit_keeps | exact Keeps.refl _)
    | fail_if_no_progress with_reducible refine Keeps.upd rfl rfl rfl ?_
    | split

theorem forwardEvent_keeps {s} (x0 x1 x2) (h : Keeps s x2) : Keeps s (forwardEvent x0 x1 x2) := by
  unfold forwardEvent; try dsimp only
  repeat' first
    | (with_reducible first
      | assumption | apply drawFree_keeps | apply emit_keeps | exact Keeps.refl _)
    | fail_if_no_progress with_reducible refine Keeps.upd rfl rfl rfl ?_
    | split
    | with_reducible refine Keeps.snd (by assumption) ?_
    | with_reducible refine Keeps.snd2 (by assumption) ?_

theorem syncStep_keeps {s} (x0 x1 x2) (h : Keeps s x2) : Keeps s (syncStep x0 x1 x2) := by
  unfold syncStep; try dsimp only
  repeat' first
    | (with_reducible first
      | assumption | apply forwardEvent_keeps | apply State.setPtpPort_keeps | exact Keeps.refl _)
    | fail_if_no_progress with_reducible refine Keeps.upd rfl rfl rfl ?_
    | split

theorem ptpFrame_keeps {s} (x0 x1 x2) (h : Keeps s x2) (k1 : ∀ u, Keeps s u → Keeps s (x1 u)) : Keeps s (ptpFrame x0 x1 x2) := by
  unfold ptpFrame; try dsimp only
  repeat' first
    | (with_reducible first
      | assumption | apply State.setPort_keeps | apply k1 | refine fun _ => ?_ | exact Keeps.refl _)
    | fail_if_no_progress with_reducible refine Keeps.upd rfl rfl rfl ?_
    | split

theorem execSync_keeps (x0 x1 x2 x3) : KeepsO (tick x0 x3) (execSync x0 x1 x2 x3) := by
  unfold execSync; try dsimp only
  repeat' first
    | (with_reducible first
      | assumption | apply guardOk_keeps | apply ptpFrame_keeps | apply syncStep_keeps | refine fun _ => ?_ | exact Keeps.refl _)
    | fail_if_no_progress with_reducible refine Keeps.upd rfl rfl rfl ?_
    | with_reducible refine Keeps.out ?_
    | split

theorem followUpStep_keeps {s} (x0 x1) (h : Keeps s x1) : Keeps s (followUpStep x0 x1) := by
  unfold followUpStep; try dsimp only
  repeat' first
    | (with_reducible first
      | assumption | apply forwardGeneral_keeps | apply State.setPtpPort_keeps | exact Keeps.refl _)
    | fail_if_no_progress with_reducible refine Keeps.upd rfl rfl rfl ?_
    | split

theorem execFollowUp_keeps (x0 x1 x2) : KeepsO (tick x0 x2) (execFollowUp x0 x1 x2) := by
  unfold execFollowUp; try dsimp only
  repeat' first
    | (with_reducible first
      | assumption | apply guardOk_keeps | apply ptpFrame_keeps | apply followUpStep_keeps | refine fun _ => ?_ | exact Keeps.refl _)
    | fail_if_no_progress with_reducible refine Keeps.upd rfl rfl rfl ?_
    | with_reducible refine Keeps.out ?_
    | split

theorem followUpGone_keeps {s} (x0) (h : Keeps s x0) : Keeps s (followUpGone x0) := by
  unfold followUpGone; try dsimp only
  repeat' first
    | (with_reducible first
      | assumption | exact Keeps.refl _)
    | fail_if_no_progress with_reducible refine Keeps.upd rfl rfl rfl ?_
    | split

theorem execFollowUpTimeout_keeps (x0 x1) : KeepsO (tick x0 x1) (execFollowUpTimeout x0 x1) := by
  unfold execFollowUpTimeout; try dsimp only
  repeat' first
    | (with_reducible first
      | assumption | apply ok_keeps | apply followUpGone_keeps | exact Keeps.refl _)
    | fail_if_no_progress with_reducible refine Keeps.upd rfl rfl rfl ?_
    | with_reducible refine Keeps.out ?_
    | split

theorem delayReqStep_keeps {s} (x0 x1 x2) (h : Keeps s x2) : Keeps s (delayReqStep x0 x1 x2) := by
  unfold delayReqStep; try dsimp only
  repeat' first
    | (with_reducible first
      | assumption | apply forwardEvent_keeps | apply emit_keeps | exact Keeps.refl _)
    | fail_if_no_progress with_reducible refine Keeps.upd rfl rfl rfl ?_
    | split

theorem execDelayReq_keeps (x0 x1 x2 x3) : KeepsO (tick x0 x3) (execDelayReq x0 x1 x2 x3) := by
  unfold execDelayReq; try dsimp only
  repeat' first
    | (with_reducible first
      | assumption | apply guardOk_keeps | apply ptpFrame_keeps | apply delayReqStep_keeps | refine fun _ => ?_ | exact Keeps.refl _)
    | fail_if_no_progress with_reducible refine Keeps.upd rfl rfl rfl ?_
    | with_reducible refine Keeps.out ?_
    | split

theorem delayRespStep_keeps {s} (x0 x1) (h : Keeps s x1) : Keeps s (delayRespStep x0 x1) := by
  unfold delayRespStep; try dsimp only
  repeat' first
    | (with_reducible first
      | assumption | apply forwardGeneral_keeps | apply State.setPtpPort_keeps | apply judgeOffset_keeps | exact Keeps.refl _)
    | fail_if_no_progress with_reducible refine Keeps.upd rfl rfl rfl ?_
    | split

theorem execDelayResp_keeps (x0 x1 x2) : KeepsO (tick x0 x2) (execDelayResp x0 x1 x2) := by
  unfold execDelayResp; try dsimp only
  repeat' first
    | (with_reducible first
      | assumption | apply guardOk_keeps | apply ptpFrame_keeps | apply delayRespStep_keeps | refine fun _ => ?_ | exact Keeps.refl _)
    | fail_if_no_progress with_reducible refine Keeps.upd rfl rfl rfl ?_
    | with_reducible refine Keeps.out ?_
    | split

theorem announceStep_keeps {s} (x0 x1 x2) (h : Keeps s x2) : Keeps s (announceStep x0 x1 x2) := by
  unfold announceStep; try dsimp only
  repeat' first
    | (with_reducible first
      | assumption | apply forwardGeneral_keeps | apply selectMaster_keeps | apply State.setPtpPort_keeps | exact Keeps.refl _)
    | fail_if_no_progress with_reducible refine Keeps.upd rfl rfl rfl ?_
    | split

theorem execAnnounce_keeps (x0 x1 x2 x3) : KeepsO (tick x0 x3) (execAnnounce x0 x1 x2 x3) := by
  unfold execAnnounce; try dsimp only
  repeat' first
    | (with_reducible first
      | assumption | apply guardOk_keeps | apply ptpFrame_keeps | apply announceStep_keeps | refine fun _ => ?_ | exact Keeps.refl _)
    | fail_if_no_progress with_reducible refine Keeps.upd rfl rfl rfl ?_
    | with_reducible refine Keeps.out ?_
    | split

theorem ptpOtherStep_keeps {s} (x0 x1 x2) (h : Keeps s x2) : Keeps s (ptpOtherStep x0 x1 x2) := by
  unfold ptpOtherStep; try dsimp only
  repeat' first
    | (with_reducible first
      | assumption | apply emit_keeps | apply ptpDrop_keeps | exact Keeps.refl _)
    | fail_if_no_progress with_reducible refine Keeps.upd rfl rfl rfl ?_
    | split

theorem execPtpOther_keeps (x0 x1 x2 x3) : KeepsO (tick x0 x3) (execPtpOther x0 x1 x2 x3) := by
  unfold execPtpOther; try dsimp only
  repeat' first
    | (with_reducible first
      | assumption | apply guardOk_keeps | apply ptpFrame_keeps | apply ptpOtherStep_keeps | refine fun _ => ?_ | exact Keeps.refl _)
    | fail_if_no_progress with_reducible refine Keeps.upd rfl rfl rfl ?_
    | with_reducible refine Keeps.out ?_
    | split

theorem dropMasters_keeps {s} (x0) (h : Keeps s x0) : Keeps s (dropMasters x0) := by
  unfold dropMasters; try dsimp only
  repeat' first
    | (with_reducible first
      | assumption | refine forAll_keeps (fun _ _ => ?_) ?_ | apply State.setPtpPort_keeps | apply selectMaster_keeps
      | apply loseMaster_keeps | refine fun _ => ?_ | exact Keeps.refl _)
    | fail_if_no_progress with_reducible refine Keeps.upd rfl rfl rfl ?_
    | split
    | fail_if_no_progress with_reducible dsimp only

theorem execAnnounceTimeout_keeps (x0 x1) : KeepsO (tick x0 x1) (execAnnounceTimeout x0 x1) := by
  unfold execAnnounceTimeout; try dsimp only
  repeat' first
    | (with_reducible first
      | assumption | apply ok_keeps | apply dropMasters_keeps | exact Keeps.refl _)
    | fail_if_no_progress with_reducible refine Keeps.upd rfl rfl rfl ?_
    | with_reducible refine Keeps.out ?_
    | split

theorem execNetLink_keeps (x0 x1 x2 x3) : KeepsO (tick x0 x3) (execNetLink x0 x1 x2 x3) := by
  unfold execNetLink; try dsimp only
  repeat' first
    | (with_reducible first
      | assumption | apply guardOk_keeps | apply dropMasters_keeps | apply linkChange_keeps | refine fun _ => ?_ | exact Keeps.refl _)
    | fail_if_no_progress with_reducible refine Keeps.upd rfl rfl rfl ?_
    | with_reducible refine Keeps.out ?_
    | split

theorem ptpSendStep_keeps {s} (x0 x1 x2) (h : Keeps s x2) : Keeps s (ptpSendStep x0 x1 x2) := by
  unfold ptpSendStep; try dsimp only
  repeat' first
    | (with_reducible first
      | assumption | apply decidePorts_keeps | apply State.setPtpPort_keeps | apply emit_keeps | apply pushStamp_keeps | exact Keeps.refl _)
    | fail_if_no_progress with_reducible refine Keeps.upd rfl rfl rfl ?_
    | split

theorem execPtpSendInterval_keeps (x0 x1 x2 x3) : KeepsO (tick x0 x3) (execPtpSendInterval x0 x1 x2 x3) := by
  unfold execPtpSendInterval; try dsimp only
  repeat' first
    | (with_reducible first
      | assumption | apply guardOk_keeps | apply ptpSendStep_keeps | refine fun _ => ?_ | exact Keeps.refl _)
    | fail_if_no_progress with_reducible refine Keeps.upd rfl rfl rfl ?_
    | with_reducible refine Keeps.out ?_
    | split

theorem capture_keeps {s} (x0 x1 x2 x3 x4) (h : Keeps s x4) : Keeps s (capture x0 x1 x2 x3 x4) := by
  unfold capture; try dsimp only
  repeat' first
    | (with_reducible first
      | assumption | apply ev_keeps | apply State.setEvt_keeps | exact Keeps.refl _)
    | fail_if_no_progress with_reducible refine Keeps.upd rfl rfl rfl ?_
    | split

theorem pdFrame_keeps {s} (x0 x1 x2) (h : Keeps s x2) : Keeps s (pdFrame x0 x1 x2) := by
  unfold pdFrame; try dsimp only
  repeat' first
    | (with_reducible first
      | assumption | apply emit_keeps | apply State.setSess_keeps | exact Keeps.refl _)
    | fail_if_no_progress with_reducible refine Keeps.upd rfl rfl rfl ?_
    | split

theorem execPdCycle_keeps (x0 x1) : KeepsO (tick x0 x1) (execPdCycle x0 x1) := by
  unfold execPdCycle; try dsimp only
  repeat' first
    | (with_reducible first
      | assumption | apply guardOk_keeps | apply pdFrame_keeps | apply ok_keeps | refine fun _ => ?_ | exact Keeps.refl _)
    | fail_if_no_progress with_reducible refine Keeps.upd rfl rfl rfl ?_
    | with_reducible refine Keeps.out ?_
    | split

theorem pdStart_keeps {s} (x0 x1 x2 x3) (h : Keeps s x3) : Keeps s (pdStart x0 x1 x2 x3) := by
  unfold pdStart; try dsimp only
  repeat' first
    | (with_reducible first
      | assumption | exact Keeps.refl _)
    | fail_if_no_progress with_reducible refine Keeps.upd rfl rfl rfl ?_
    | split

theorem pdStop_keeps {s} (x0) (h : Keeps s x0) : Keeps s (pdStop x0) := by
  unfold pdStop; try dsimp only
  repeat' first
    | (with_reducible first
      | assumption | exact Keeps.refl _)
    | fail_if_no_progress with_reducible refine Keeps.upd rfl rfl rfl ?_
    | split

theorem correlate_keeps {s} (x0) (h : Keeps s x0) : Keeps s (correlate x0) := by
  unfold correlate; try dsimp only
  repeat' first
    | (with_reducible first
      | assumption | exact Keeps.refl _)
    | fail_if_no_progress with_reducible refine Keeps.upd rfl rfl rfl ?_
    | split

theorem execCorrelation_keeps (x0 x1) : KeepsO (tick x0 x1) (execCorrelation x0 x1) := by
  unfold execCorrelation; try dsimp only
  repeat' first
    | (with_reducible first
      | assumption | apply guardOk_keeps | apply correlate_keeps | refine fun _ => ?_ | exact Keeps.refl _)
    | fail_if_no_progress with_reducible refine Keeps.upd rfl rfl rfl ?_
    | with_reducible refine Keeps.out ?_
    | split

end Sys2Proof.Machine
end

