-- ==== Sys2Proof/Laws/KeepsPair.lean ====
section
/-! SUPPORT. `Keeps` of the operations of tandem pair and its records (Sys2Proof/Machine/Tandem, Records):
one lemma per function that changes the state. -/

namespace Sys2Proof.Machine

theorem pairEvent_keeps {s} (x0 x1 x2 x3) (h : Keeps s x3) : Keeps s (pairEvent x0 x1 x2 x3) := by
  unfold pairEvent; try dsimp only
  repeat' first
    | (with_reducible first
      | assumption | apply raise_keeps | exact Keeps.refl _)
    | fail_if_no_progress with_reducible refine Keeps.upd rfl rfl rfl ?_
    | split

theorem becomeLead_keeps {s} (x0) (h : Keeps s x0) : Keeps s (becomeLead x0) := by
  unfold becomeLead; try dsimp only
  repeat' first
    | (with_reducible first
      | assumption | refine forAll_keeps (fun _ _ => ?_) ?_ | apply emit_keeps | apply setPairState_keeps | refine fun _ => ?_
      | exact Keeps.refl _)
    | fail_if_no_progress with_reducible refine Keeps.upd rfl rfl rfl ?_
    | decide
    | split
    | fail_if_no_progress with_reducible dsimp only

theorem takeLead_keeps {s} (x0 x1) (h : Keeps s x1) : Keeps s (takeLead x0 x1) := by
  unfold takeLead; try dsimp only
  repeat' first
    | (with_reducible first
      | assumption | apply lifeEvent_keeps | apply becomeLead_keeps | apply pairEvent_keeps | refine forAll_keeps (fun _ _ => ?_) ?_
      | apply trigMiss_keeps | apply State.setTrig_keeps | apply sendAck_keeps | refine fun _ => ?_ | exact Keeps.refl _)
    | fail_if_no_progress with_reducible refine Keeps.upd rfl rfl rfl ?_
    | split
    | fail_if_no_progress with_reducible dsimp only

theorem joinPair_keeps {s} (x0) (h : Keeps s x0) : Keeps s (joinPair x0) := by
  unfold joinPair; try dsimp only
  repeat' first
    | (with_reducible first
      | assumption | refine foldl_keeps (fun _ _ => ?_) ?_ | apply setPairState_keeps | exact Keeps.refl _)
    | fail_if_no_progress with_reducible refine Keeps.upd rfl rfl rfl ?_
    | decide
    | split

theorem searchPair_keeps {s} (x0) (h : Keeps s x0) : Keeps s (searchPair x0) := by
  unfold searchPair; try dsimp only
  repeat' first
    | (with_reducible first
      | assumption | apply setPairState_keeps | exact Keeps.refl _)
    | fail_if_no_progress with_reducible refine Keeps.upd rfl rfl rfl ?_
    | decide
    | split

theorem elect_keeps {s} (x0) (h : Keeps s x0) : Keeps s (elect x0) := by
  unfold elect; try dsimp only
  repeat' first
    | (with_reducible first
      | assumption | apply joinPair_keeps | apply becomeLead_keeps | exact Keeps.refl _)
    | fail_if_no_progress with_reducible refine Keeps.upd rfl rfl rfl ?_
    | split

theorem goSilent_keeps {s} (x0) (h : Keeps s x0) : Keeps s (goSilent x0) := by
  unfold goSilent; try dsimp only
  repeat' first
    | (with_reducible first
      | assumption | apply pairEvent_keeps | apply takeLead_keeps | refine forAll_keeps (fun _ _ => ?_) ?_ | apply emit_keeps
      | apply setPairState_keeps | refine fun _ => ?_ | exact Keeps.refl _)
    | fail_if_no_progress with_reducible refine Keeps.upd rfl rfl rfl ?_
    | decide
    | split
    | fail_if_no_progress with_reducible dsimp only

theorem sendIdent_keeps {s} (x0) (h : Keeps s x0) : Keeps s (sendIdent x0) := by
  unfold sendIdent; try dsimp only
  repeat' first
    | (with_reducible first
      | assumption | apply sendRecord_keeps | exact Keeps.refl _)
    | fail_if_no_progress with_reducible refine Keeps.upd rfl rfl rfl ?_
    | split

theorem startIdent_keeps {s} (x0) (h : Keeps s x0) : Keeps s (startIdent x0) := by
  unfold startIdent; try dsimp only
  repeat' first
    | (with_reducible first
      | assumption | apply sendIdent_keeps | exact Keeps.refl _)
    | fail_if_no_progress with_reducible refine Keeps.upd rfl rfl rfl ?_
    | split

theorem takeAck_keeps {s} (x0 x1) (h : Keeps s x1) : Keeps s (takeAck x0 x1) := by
  unfold takeAck; try dsimp only
  repeat' first
    | (with_reducible first
      | assumption | apply settleWithheld_keeps | apply id_keeps | refine fun _ => ?_ | exact Keeps.refl _)
    | fail_if_no_progress with_reducible refine Keeps.upd rfl rfl rfl ?_
    | split

theorem receiveRecord_keeps {s} (x0 x1 x2) (h : Keeps s x2) (k1 : ∀ u, Keeps s u → Keeps s (x1 u)) : Keeps s (receiveRecord x0 x1 x2) := by
  unfold receiveRecord; try dsimp only
  repeat' first
    | (with_reducible first
      | assumption | apply pairEvent_keeps | apply takeAck_keeps | apply sendRecord_keeps | apply k1 | refine fun _ => ?_
      | exact Keeps.refl _)
    | fail_if_no_progress with_reducible refine Keeps.upd rfl rfl rfl ?_
    | split

theorem recordOk_keeps (x0 x1 x2 x3) (k2 : ∀ u, Keeps (tick x0 x3) u → Keeps (tick x0 x3) (x2 u)) : KeepsO (tick x0 x3) (recordOk x0 x1 x2 x3) := by
  unfold recordOk; try dsimp only
  repeat' first
    | (with_reducible first
      | assumption | apply ok_keeps | apply receiveRecord_keeps | apply k2 | refine fun _ => ?_ | exact Keeps.refl _)
    | fail_if_no_progress with_reducible refine Keeps.upd rfl rfl rfl ?_
    | with_reducible refine Keeps.out ?_
    | split

theorem addCompare_keeps {s} (x0 x1) (h : Keeps s x1) : Keeps s (addCompare x0 x1) := by
  unfold addCompare; try dsimp only
  repeat' first
    | (with_reducible first
      | assumption | exact Keeps.refl _)
    | fail_if_no_progress with_reducible refine Keeps.upd rfl rfl rfl ?_
    | split

theorem diverge_keeps {s} (x0 x1 x2 x3) (h : Keeps s x3) : Keeps s (diverge x0 x1 x2 x3) := by
  unfold diverge; try dsimp only
  repeat' first
    | (with_reducible first
      | assumption | apply ev_keeps | exact Keeps.refl _)
    | fail_if_no_progress with_reducible refine Keeps.upd rfl rfl rfl ?_
    | split

theorem compareDots_keeps {s} (x0 x1 x2 x3 x4) (h : Keeps s x4) : Keeps s (compareDots x0 x1 x2 x3 x4) := by
  unfold compareDots; try dsimp only
  repeat' first
    | (with_reducible first
      | assumption | apply addCompare_keeps | apply joinPair_keeps | apply diverge_keeps | apply holdWheeler_keeps | exact Keeps.refl _)
    | fail_if_no_progress with_reducible refine Keeps.upd rfl rfl rfl ?_
    | split

theorem compareWaiting_keeps {s} (x0) (h : Keeps s x0) : Keeps s (compareWaiting x0) := by
  unfold compareWaiting; try dsimp only
  repeat' first
    | (with_reducible first
      | assumption | refine forAll_keeps (fun _ _ => ?_) ?_ | apply compareDots_keeps | refine fun _ => ?_ | exact Keeps.refl _)
    | fail_if_no_progress with_reducible refine Keeps.upd rfl rfl rfl ?_
    | split
    | fail_if_no_progress with_reducible dsimp only

theorem compareStripe_keeps {s} (x0 x1 x2 x3) (h : Keeps s x3) : Keeps s (compareStripe x0 x1 x2 x3) := by
  unfold compareStripe; try dsimp only
  repeat' first
    | (with_reducible first
      | assumption | apply addCompare_keeps | apply State.setRing_keeps | apply diverge_keeps | exact Keeps.refl _)
    | fail_if_no_progress with_reducible refine Keeps.upd rfl rfl rfl ?_
    | split

theorem takeDigest_keeps {s} (x0 x1) (h : Keeps s x1) : Keeps s (takeDigest x0 x1) := by
  unfold takeDigest; try dsimp only
  repeat' first
    | (with_reducible first
      | assumption | apply compareWaiting_keeps | apply compareStripe_keeps | exact Keeps.refl _)
    | fail_if_no_progress with_reducible refine Keeps.upd rfl rfl rfl ?_
    | split

theorem takeFill_keeps {s} (x0 x1) (h : Keeps s x1) : Keeps s (takeFill x0 x1) := by
  unfold takeFill; try dsimp only
  repeat' first
    | (with_reducible first
      | assumption | apply writeBytes_keeps | refine foldl_keeps (fun _ _ => ?_) ?_ | apply updateRelease_keeps | apply State.setRing_keeps
      | apply noteRing_keeps | exact Keeps.refl _)
    | fail_if_no_progress with_reducible refine Keeps.upd rfl rfl rfl ?_
    | split

theorem takeLpos_keeps {s} (x0 x1 x2) (h : Keeps s x2) : Keeps s (takeLpos x0 x1 x2) := by
  unfold takeLpos; try dsimp only
  repeat' first
    | (with_reducible first
      | assumption | apply addCompare_keeps | apply diverge_keeps | apply holdWheeler_keeps | apply joinPair_keeps | exact Keeps.refl _)
    | fail_if_no_progress with_reducible refine Keeps.upd rfl rfl rfl ?_
    | split

theorem setMark_keeps {s} (x0 x1) (h : Keeps s x1) : Keeps s (setMark x0 x1) := by
  unfold setMark; try dsimp only
  repeat' first
    | (with_reducible first
      | assumption | apply State.setRow_keeps | apply State.setTrig_keeps | apply State.setCamPort_keeps | exact Keeps.refl _)
    | fail_if_no_progress with_reducible refine Keeps.upd rfl rfl rfl ?_
    | split

theorem takeAxis_keeps {s} (x0 x1) (h : Keeps s x1) : Keeps s (takeAxis x0 x1) := by
  unfold takeAxis; try dsimp only
  repeat' first
    | (with_reducible first
      | assumption | apply lostPosition_keeps | apply State.setChan_keeps | refine forAll_keeps (fun _ _ => ?_) ?_ | apply setMark_keeps
      | apply ev_keeps | apply passCommits_keeps | apply holdWheeler_keeps | apply diverge_keeps | refine fun _ => ?_ | exact Keeps.refl _)
    | fail_if_no_progress with_reducible refine Keeps.upd rfl rfl rfl ?_
    | split
    | fail_if_no_progress with_reducible dsimp only

theorem dropChange_keeps {s} (x0 x1) (h : Keeps s x1) : Keeps s (dropChange x0 x1) := by
  unfold dropChange; try dsimp only
  repeat' first
    | (with_reducible first
      | assumption | exact Keeps.refl _)
    | fail_if_no_progress with_reducible refine Keeps.upd rfl rfl rfl ?_
    | split

theorem applyCommitsInOrder_keeps {s} (x0 x1) (h : Keeps s x1) : Keeps s (applyCommitsInOrder x0 x1) := by
  induction x0 generalizing x1 with
  | zero => exact h
  | succ n ih =>
    unfold applyCommitsInOrder
    split
    · exact h
    · exact ih _ (passCommits_keeps _ (acceptCommit_keeps _ _ _ (dropChange_keeps _ _ (h.same rfl rfl rfl rfl))))

theorem takeCommit_keeps {s} (x0 x1 x2) (h : Keeps s x2) : Keeps s (takeCommit x0 x1 x2) := by
  unfold takeCommit; try dsimp only
  repeat' first
    | (with_reducible first
      | assumption | apply applyCommitsInOrder_keeps | exact Keeps.refl _)
    | fail_if_no_progress with_reducible refine Keeps.upd rfl rfl rfl ?_
    | split

theorem storeArray_keeps {s} (x0 x1 x2 x3 x4 x5 x6) (h : Keeps s x6) : Keeps s (storeArray x0 x1 x2 x3 x4 x5 x6) := by
  unfold storeArray; try dsimp only
  repeat' first
    | (with_reducible first
      | assumption | refine forAll_keeps (fun _ _ => ?_) ?_ | apply writeBytes_keeps | refine fun _ => ?_ | exact Keeps.refl _)
    | fail_if_no_progress with_reducible refine Keeps.upd rfl rfl rfl ?_
    | split
    | fail_if_no_progress with_reducible dsimp only

theorem storeTable_keeps {s} (x0 x1 x2 x3) (h : Keeps s x3) : Keeps s (storeTable x0 x1 x2 x3) := by
  unfold storeTable; try dsimp only
  repeat' first
    | (with_reducible first
      | assumption | apply State.setSensor_keeps | exact Keeps.refl _)
    | fail_if_no_progress with_reducible refine Keeps.upd rfl rfl rfl ?_
    | split

theorem takeBlock_keeps {s} (x0 x1) (h : Keeps s x1) : Keeps s (takeBlock x0 x1) := by
  unfold takeBlock; try dsimp only
  repeat' first
    | (with_reducible first
      | assumption | apply storeArray_keeps | apply storeTable_keeps | exact Keeps.refl _)
    | fail_if_no_progress with_reducible refine Keeps.upd rfl rfl rfl ?_
    | split

theorem takeLoop_keeps {s} (x0 x1) (h : Keeps s x1) : Keeps s (takeLoop x0 x1) := by
  unfold takeLoop; try dsimp only
  repeat' first
    | (with_reducible first
      | assumption | exact Keeps.refl _)
    | fail_if_no_progress with_reducible refine Keeps.upd rfl rfl rfl ?_
    | split

theorem takeRein_keeps {s} (x0 x1) (h : Keeps s x1) : Keeps s (takeRein x0 x1) := by
  unfold takeRein; try dsimp only
  repeat' first
    | (with_reducible first
      | assumption | apply muteReverse_keeps | refine forAll_keeps (fun _ _ => ?_) ?_ | apply State.setRow_keeps | apply lowerCameras_keeps
      | apply skipRow_keeps | refine fun _ => ?_ | exact Keeps.refl _)
    | fail_if_no_progress with_reducible refine Keeps.upd rfl rfl rfl ?_
    | split
    | fail_if_no_progress with_reducible dsimp only

theorem takeTime_keeps {s} (x0 x1) (h : Keeps s x1) : Keeps s (takeTime x0 x1) := by
  unfold takeTime; try dsimp only
  repeat' first
    | (with_reducible first
      | assumption | apply acceptJump_keeps | apply judgeOffset_keeps | exact Keeps.refl _)
    | fail_if_no_progress with_reducible refine Keeps.upd rfl rfl rfl ?_
    | split

theorem takeLog_keeps {s} (x0 x1) (h : Keeps s x1) : Keeps s (takeLog x0 x1) := by
  unfold takeLog; try dsimp only
  repeat' first
    | (with_reducible first
      | assumption | exact Keeps.refl _)
    | fail_if_no_progress with_reducible refine Keeps.upd rfl rfl rfl ?_
    | split

theorem takeRing_keeps {s} (x0 x1 x2 x3 x4 x5) (h : Keeps s x5) : Keeps s (takeRing x0 x1 x2 x3 x4 x5) := by
  unfold takeRing; try dsimp only
  repeat' first
    | (with_reducible first
      | assumption | apply State.setRing_keeps | apply sendNak_keeps | apply sendAck_keeps | exact Keeps.refl _)
    | fail_if_no_progress with_reducible refine Keeps.upd rfl rfl rfl ?_
    | split

theorem takeSnapshot_keeps {s} (x0 x1) (h : Keeps s x1) : Keeps s (takeSnapshot x0 x1) := by
  unfold takeSnapshot; try dsimp only
  repeat' first
    | (with_reducible first
      | assumption | refine forAll_keeps (fun _ _ => ?_) ?_ | apply setCfg_keeps | refine foldl_keeps (fun _ _ => ?_) ?_
      | apply storeArray_keeps | apply storeTable_keeps | apply takeLog_keeps | apply takeTime_keeps | apply takeLoop_keeps
      | apply takeRein_keeps | apply takeAxis_keeps | apply runAssignment_keeps | apply applyCommitsInOrder_keeps | refine fun _ => ?_
      | exact Keeps.refl _)
    | fail_if_no_progress with_reducible refine Keeps.upd rfl rfl rfl ?_
    | split
    | fail_if_no_progress with_reducible dsimp only

theorem isolate_keeps {s} (x0) (h : Keeps s x0) : Keeps s (isolate x0) := by
  unfold isolate; try dsimp only
  repeat' first
    | (with_reducible first
      | assumption | apply setPairState_keeps | exact Keeps.refl _)
    | fail_if_no_progress with_reducible refine Keeps.upd rfl rfl rfl ?_
    | decide
    | split

theorem takeRole_keeps {s} (x0) (h : Keeps s x0) : Keeps s (takeRole x0) := by
  unfold takeRole; try dsimp only
  repeat' first
    | (with_reducible first
      | assumption | apply causeGone_keeps | apply setPairState_keeps | apply searchPair_keeps | exact Keeps.refl _)
    | fail_if_no_progress with_reducible refine Keeps.upd rfl rfl rfl ?_
    | decide
    | split

theorem completePair_keeps {s} (x0 x1) (h : Keeps s x1) : Keeps s (completePair x0 x1) := by
  unfold completePair; try dsimp only
  repeat' first
    | (with_reducible first
      | assumption | apply takeRole_keeps | apply completeWord_keeps | exact Keeps.refl _)
    | fail_if_no_progress with_reducible refine Keeps.upd rfl rfl rfl ?_
    | split

theorem takeIdent_keeps {s} (x0 x1) (h : Keeps s x1) : Keeps s (takeIdent x0 x1) := by
  unfold takeIdent; try dsimp only
  repeat' first
    | (with_reducible first
      | assumption | apply sendIdent_keeps | apply completePair_keeps | apply takeRole_keeps | apply holdWheeler_keeps
      | apply pairEvent_keeps | apply isolate_keeps | apply addFault_keeps | exact Keeps.refl _)
    | fail_if_no_progress with_reducible refine Keeps.upd rfl rfl rfl ?_
    | split

theorem startPair_keeps {s} (x0 x1) (h : Keeps s x1) : Keeps s (startPair x0 x1) := by
  unfold startPair; try dsimp only
  repeat' first
    | (with_reducible first
      | assumption | apply sendIdent_keeps | apply completePair_keeps | exact Keeps.refl _)
    | fail_if_no_progress with_reducible refine Keeps.upd rfl rfl rfl ?_
    | split

theorem unpair_keeps {s} (x0) (h : Keeps s x0) : Keeps s (unpair x0) := by
  unfold unpair; try dsimp only
  repeat' first
    | (with_reducible first
      | assumption | apply isolate_keeps | exact Keeps.refl _)
    | fail_if_no_progress with_reducible refine Keeps.upd rfl rfl rfl ?_
    | split

theorem rejoin_keeps {s} (x0) (h : Keeps s x0) : Keeps s (rejoin x0) := by
  unfold rejoin; try dsimp only
  repeat' first
    | (with_reducible first
      | assumption | apply joinPair_keeps | exact Keeps.refl _)
    | fail_if_no_progress with_reducible refine Keeps.upd rfl rfl rfl ?_
    | split

theorem noteHeartbeat_keeps {s} (x0 x1) (h : Keeps s x1) : Keeps s (noteHeartbeat x0 x1) := by
  unfold noteHeartbeat; try dsimp only
  repeat' first
    | (with_reducible first
      | assumption | refine forAll_keeps (fun _ _ => ?_) ?_ | apply State.setTrig_keeps | apply completeWord_keeps
      | refine fun _ => ?_ | exact Keeps.refl _)
    | fail_if_no_progress with_reducible refine Keeps.upd rfl rfl rfl ?_
    | decide
    | split

theorem tryStandby_keeps {s} (x0 x1) (h : Keeps s x1) : Keeps s (tryStandby x0 x1) := by
  unfold tryStandby
  repeat' first
    | (with_reducible first | assumption | apply setPairState_keeps)
    | decide
    | split

theorem takeHeartbeat_keeps {s} (x0 x1) (h : Keeps s x1) : Keeps s (takeHeartbeat x0 x1) := by
  unfold takeHeartbeat; try dsimp only
  repeat' first
    | (with_reducible first
      | assumption | apply noteHeartbeat_keeps | apply tryStandby_keeps | apply joinPair_keeps | apply elect_keeps | apply sendRecord_keeps
      | apply compareWaiting_keeps | apply rejoin_keeps)
    | split

theorem sendHeartbeat_keeps {s} (x0) (h : Keeps s x0) : Keeps s (sendHeartbeat x0) := by
  unfold sendHeartbeat; try dsimp only
  repeat' first
    | (with_reducible first
      | assumption | apply sendRecord_keeps | apply mirrorTime_keeps | exact Keeps.refl _)
    | fail_if_no_progress with_reducible refine Keeps.upd rfl rfl rfl ?_
    | split

theorem takeClaim_keeps {s} (x0 x1 x2 x3 x4) (h : Keeps s x4) : Keeps s (takeClaim x0 x1 x2 x3 x4) := by
  unfold takeClaim
  extract_lets word _ a1 a2 mine who a3 _ a4 _ a5
  have k2 : Keeps s a2 := ev_keeps _ _ _ _ _ _ (State.setLane_keeps _ _ _ h)
  have k3 : Keeps s a3 := by
    unfold a3; split
    · exact ev_keeps _ _ _ _ _ _ k2
    · exact k2
  have k4 : Keeps s a4 := k3.same rfl rfl rfl rfl
  have k5 : Keeps s a5 := k4.same rfl rfl rfl rfl
  split
  · split
    · split
      · exact takeLead_keeps _ _ k5
      · exact k5
    · split
      · exact takeLead_keeps _ _ k4
      · exact k4
  · exact k4

theorem execClaimStatus_keeps (x0 x1 x2 x3 x4 x5) : KeepsO (tick x0 x5) (execClaimStatus x0 x1 x2 x3 x4 x5) := by
  unfold execClaimStatus; try dsimp only
  repeat' first
    | (with_reducible first
      | assumption | apply guardOk_keeps | apply takeClaim_keeps | refine fun _ => ?_ | exact Keeps.refl _)
    | fail_if_no_progress with_reducible refine Keeps.upd rfl rfl rfl ?_
    | with_reducible refine Keeps.out ?_
    | split

theorem execHeartbeatSend_keeps (x0 x1) : KeepsO (tick x0 x1) (execHeartbeatSend x0 x1) := by
  unfold execHeartbeatSend; try dsimp only
  repeat' first
    | (with_reducible first
      | assumption | apply guardOk_keeps | apply sendHeartbeat_keeps | refine fun _ => ?_ | exact Keeps.refl _)
    | fail_if_no_progress with_reducible refine Keeps.upd rfl rfl rfl ?_
    | with_reducible refine Keeps.out ?_
    | split

theorem execPairAck_keeps (x0 x1 x2) : KeepsO (tick x0 x2) (execPairAck x0 x1 x2) := by
  unfold execPairAck; try dsimp only
  repeat' first
    | (with_reducible first
      | assumption | apply recordOk_keeps | apply id_keeps | refine fun _ => ?_ | exact Keeps.refl _)
    | fail_if_no_progress with_reducible refine Keeps.upd rfl rfl rfl ?_
    | with_reducible refine Keeps.out ?_
    | split

theorem execCommitRecord_keeps (x0 x1 x2 x3 x4) : KeepsO (tick x0 x4) (execCommitRecord x0 x1 x2 x3 x4) := by
  unfold execCommitRecord; try dsimp only
  repeat' first
    | (with_reducible first
      | assumption | apply recordOk_keeps | apply takeCommit_keeps | refine fun _ => ?_ | exact Keeps.refl _)
    | fail_if_no_progress with_reducible refine Keeps.upd rfl rfl rfl ?_
    | with_reducible refine Keeps.out ?_
    | split

theorem execBlockRecord_keeps (x0 x1 x2 x3) : KeepsO (tick x0 x3) (execBlockRecord x0 x1 x2 x3) := by
  unfold execBlockRecord; try dsimp only
  repeat' first
    | (with_reducible first
      | assumption | apply recordOk_keeps | apply takeBlock_keeps | refine fun _ => ?_ | exact Keeps.refl _)
    | fail_if_no_progress with_reducible refine Keeps.upd rfl rfl rfl ?_
    | with_reducible refine Keeps.out ?_
    | split

theorem execAxisRecord_keeps (x0 x1 x2 x3) : KeepsO (tick x0 x3) (execAxisRecord x0 x1 x2 x3) := by
  unfold execAxisRecord; try dsimp only
  repeat' first
    | (with_reducible first
      | assumption | apply recordOk_keeps | apply takeAxis_keeps | refine fun _ => ?_ | exact Keeps.refl _)
    | fail_if_no_progress with_reducible refine Keeps.upd rfl rfl rfl ?_
    | with_reducible refine Keeps.out ?_
    | split

theorem execLposRecord_keeps (x0 x1 x2 x3 x4 x5) : KeepsO (tick x0 x5) (execLposRecord x0 x1 x2 x3 x4 x5) := by
  unfold execLposRecord; try dsimp only
  repeat' first
    | (with_reducible first
      | assumption | apply recordOk_keeps | apply takeLpos_keeps | refine fun _ => ?_ | exact Keeps.refl _)
    | fail_if_no_progress with_reducible refine Keeps.upd rfl rfl rfl ?_
    | with_reducible refine Keeps.out ?_
    | split

theorem sendLpos_keeps {s} (x0) (h : Keeps s x0) : Keeps s (sendLpos x0) := by
  unfold sendLpos; try dsimp only
  repeat' first
    | (with_reducible first
      | assumption | apply sendRecord_keeps | exact Keeps.refl _)
    | fail_if_no_progress with_reducible refine Keeps.upd rfl rfl rfl ?_
    | split

theorem execLposSend_keeps (x0 x1) : KeepsO (tick x0 x1) (execLposSend x0 x1) := by
  unfold execLposSend; try dsimp only
  repeat' first
    | (with_reducible first
      | assumption | apply guardOk_keeps | apply sendLpos_keeps | refine fun _ => ?_ | exact Keeps.refl _)
    | fail_if_no_progress with_reducible refine Keeps.upd rfl rfl rfl ?_
    | with_reducible refine Keeps.out ?_
    | split

theorem execRingRecord_keeps (x0 x1 x2 x3 x4 x5 x6 x7) : KeepsO (tick x0 x7) (execRingRecord x0 x1 x2 x3 x4 x5 x6 x7) := by
  unfold execRingRecord; try dsimp only
  repeat' first
    | (with_reducible first
      | assumption | apply recordOk_keeps | apply takeRing_keeps | refine fun _ => ?_ | exact Keeps.refl _)
    | fail_if_no_progress with_reducible refine Keeps.upd rfl rfl rfl ?_
    | with_reducible refine Keeps.out ?_
    | split

theorem execDigest_keeps (x0 x1 x2 x3) : KeepsO (tick x0 x3) (execDigest x0 x1 x2 x3) := by
  unfold execDigest; try dsimp only
  repeat' first
    | (with_reducible first
      | assumption | apply recordOk_keeps | apply takeDigest_keeps | refine fun _ => ?_ | exact Keeps.refl _)
    | fail_if_no_progress with_reducible refine Keeps.upd rfl rfl rfl ?_
    | with_reducible refine Keeps.out ?_
    | split

theorem execLoopRecord_keeps (x0 x1 x2 x3) : KeepsO (tick x0 x3) (execLoopRecord x0 x1 x2 x3) := by
  unfold execLoopRecord; try dsimp only
  repeat' first
    | (with_reducible first
      | assumption | apply recordOk_keeps | apply takeLoop_keeps | refine fun _ => ?_ | exact Keeps.refl _)
    | fail_if_no_progress with_reducible refine Keeps.upd rfl rfl rfl ?_
    | with_reducible refine Keeps.out ?_
    | split

theorem execReinRecord_keeps (x0 x1 x2 x3) : KeepsO (tick x0 x3) (execReinRecord x0 x1 x2 x3) := by
  unfold execReinRecord; try dsimp only
  repeat' first
    | (with_reducible first
      | assumption | apply recordOk_keeps | apply takeRein_keeps | refine fun _ => ?_ | exact Keeps.refl _)
    | fail_if_no_progress with_reducible refine Keeps.upd rfl rfl rfl ?_
    | with_reducible refine Keeps.out ?_
    | split

theorem execTimeRecord_keeps (x0 x1 x2 x3) : KeepsO (tick x0 x3) (execTimeRecord x0 x1 x2 x3) := by
  unfold execTimeRecord; try dsimp only
  repeat' first
    | (with_reducible first
      | assumption | apply recordOk_keeps | apply takeTime_keeps | refine fun _ => ?_ | exact Keeps.refl _)
    | fail_if_no_progress with_reducible refine Keeps.upd rfl rfl rfl ?_
    | with_reducible refine Keeps.out ?_
    | split

theorem execLogRecord_keeps (x0 x1 x2 x3) : KeepsO (tick x0 x3) (execLogRecord x0 x1 x2 x3) := by
  unfold execLogRecord; try dsimp only
  repeat' first
    | (with_reducible first
      | assumption | apply recordOk_keeps | apply takeLog_keeps | refine fun _ => ?_ | exact Keeps.refl _)
    | fail_if_no_progress with_reducible refine Keeps.upd rfl rfl rfl ?_
    | with_reducible refine Keeps.out ?_
    | split

theorem takeRelease_keeps {s} (x0 x1) (h : Keeps s x1) : Keeps s (takeRelease x0 x1) := by
  unfold takeRelease; try dsimp only
  repeat' first
    | (with_reducible first
      | assumption | apply takeLead_keeps | exact Keeps.refl _)
    | fail_if_no_progress with_reducible refine Keeps.upd rfl rfl rfl ?_
    | split

theorem execReleaseRecord_keeps (x0 x1 x2 x3) : KeepsO (tick x0 x3) (execReleaseRecord x0 x1 x2 x3) := by
  unfold execReleaseRecord; try dsimp only
  repeat' first
    | (with_reducible first
      | assumption | apply recordOk_keeps | apply takeRelease_keeps | refine fun _ => ?_ | exact Keeps.refl _)
    | fail_if_no_progress with_reducible refine Keeps.upd rfl rfl rfl ?_
    | with_reducible refine Keeps.out ?_
    | split

theorem execIdent_keeps (x0 x1 x2 x3) : KeepsO (tick x0 x3) (execIdent x0 x1 x2 x3) := by
  unfold execIdent; try dsimp only
  repeat' first
    | (with_reducible first
      | assumption | apply recordOk_keeps | apply takeIdent_keeps | refine fun _ => ?_ | exact Keeps.refl _)
    | fail_if_no_progress with_reducible refine Keeps.upd rfl rfl rfl ?_
    | with_reducible refine Keeps.out ?_
    | split

theorem execSnapshot_keeps (x0 x1 x2 x3) : KeepsO (tick x0 x3) (execSnapshot x0 x1 x2 x3) := by
  unfold execSnapshot; try dsimp only
  repeat' first
    | (with_reducible first
      | assumption | apply recordOk_keeps | apply takeSnapshot_keeps | refine fun _ => ?_ | exact Keeps.refl _)
    | fail_if_no_progress with_reducible refine Keeps.upd rfl rfl rfl ?_
    | with_reducible refine Keeps.out ?_
    | split

theorem execFill_keeps (x0 x1 x2 x3) : KeepsO (tick x0 x3) (execFill x0 x1 x2 x3) := by
  unfold execFill; try dsimp only
  repeat' first
    | (with_reducible first
      | assumption | apply recordOk_keeps | apply takeFill_keeps | refine fun _ => ?_ | exact Keeps.refl _)
    | fail_if_no_progress with_reducible refine Keeps.upd rfl rfl rfl ?_
    | with_reducible refine Keeps.out ?_
    | split

theorem takeEchoRecord_keeps {s} (x0 x1 x2 x3) (h : Keeps s x3) : Keeps s (takeEchoRecord x0 x1 x2 x3) := by
  unfold takeEchoRecord; try dsimp only
  repeat' first
    | (with_reducible first
      | assumption | exact Keeps.refl _)
    | fail_if_no_progress with_reducible refine Keeps.upd rfl rfl rfl ?_
    | split

theorem execEcho_keeps (x0 x1 x2 x3 x4 x5) : KeepsO (tick x0 x5) (execEcho x0 x1 x2 x3 x4 x5) := by
  unfold execEcho; try dsimp only
  repeat' first
    | (with_reducible first
      | assumption | apply recordOk_keeps | apply takeEchoRecord_keeps | refine fun _ => ?_ | exact Keeps.refl _)
    | fail_if_no_progress with_reducible refine Keeps.upd rfl rfl rfl ?_
    | with_reducible refine Keeps.out ?_
    | split

theorem execEchoSend_keeps (x0 x1) : KeepsO (tick x0 x1) (execEchoSend x0 x1) := by
  unfold execEchoSend; try dsimp only
  repeat' first
    | (with_reducible first
      | assumption | apply guardOk_keeps | apply sendRecord_keeps | refine fun _ => ?_ | exact Keeps.refl _)
    | fail_if_no_progress with_reducible refine Keeps.upd rfl rfl rfl ?_
    | with_reducible refine Keeps.out ?_
    | split

theorem resendRecord_keeps {s} (x0 x1) (h : Keeps s x1) : Keeps s (resendRecord x0 x1) := by
  unfold resendRecord; try dsimp only
  repeat' first
    | (with_reducible first
      | assumption | apply goSilent_keeps | apply emit_keeps | exact Keeps.refl _)
    | fail_if_no_progress with_reducible refine Keeps.upd rfl rfl rfl ?_
    | split

theorem execRecordResend_keeps (x0 x1 x2) : KeepsO (tick x0 x2) (execRecordResend x0 x1 x2) := by
  unfold execRecordResend; try dsimp only
  repeat' first
    | (with_reducible first
      | assumption | apply ok_keeps | apply guardOk_keeps | apply resendRecord_keeps | refine fun _ => ?_ | exact Keeps.refl _)
    | fail_if_no_progress with_reducible refine Keeps.upd rfl rfl rfl ?_
    | with_reducible refine Keeps.out ?_
    | split

theorem execPartnerSilent_keeps (x0 x1) : KeepsO (tick x0 x1) (execPartnerSilent x0 x1) := by
  unfold execPartnerSilent; try dsimp only
  repeat' first
    | (with_reducible first
      | assumption | apply guardOk_keeps | apply goSilent_keeps | refine fun _ => ?_ | exact Keeps.refl _)
    | fail_if_no_progress with_reducible refine Keeps.upd rfl rfl rfl ?_
    | with_reducible refine Keeps.out ?_
    | split

theorem mirrorTimeout_keeps {s} (x0) (h : Keeps s x0) : Keeps s (mirrorTimeout x0) := by
  unfold mirrorTimeout; try dsimp only
  repeat' first
    | (with_reducible first
      | assumption | apply holdWheeler_keeps | apply settleWithheld_keeps | apply id_keeps | refine fun _ => ?_ | exact Keeps.refl _)
    | fail_if_no_progress with_reducible refine Keeps.upd rfl rfl rfl ?_
    | split

theorem execMirrorTimeout_keeps (x0 x1) : KeepsO (tick x0 x1) (execMirrorTimeout x0 x1) := by
  unfold execMirrorTimeout; try dsimp only
  repeat' first
    | (with_reducible first
      | assumption | apply guardOk_keeps | apply mirrorTimeout_keeps | refine fun _ => ?_ | exact Keeps.refl _)
    | fail_if_no_progress with_reducible refine Keeps.upd rfl rfl rfl ?_
    | with_reducible refine Keeps.out ?_
    | split

theorem laneChange_keeps {s} (x0 x1 x2) (h : Keeps s x2) : Keeps s (laneChange x0 x1 x2) := by
  unfold laneChange; try dsimp only
  repeat' first
    | (with_reducible first
      | assumption | apply pairEvent_keeps | apply startIdent_keeps | exact Keeps.refl _)
    | fail_if_no_progress with_reducible refine Keeps.upd rfl rfl rfl ?_
    | split

theorem execPairLaneChange_keeps (x0 x1 x2 x3) : KeepsO (tick x0 x3) (execPairLaneChange x0 x1 x2 x3) := by
  unfold execPairLaneChange; try dsimp only
  repeat' first
    | (with_reducible first
      | assumption | apply guardOk_keeps | apply laneChange_keeps | refine fun _ => ?_ | exact Keeps.refl _)
    | fail_if_no_progress with_reducible refine Keeps.upd rfl rfl rfl ?_
    | with_reducible refine Keeps.out ?_
    | split

theorem peerLeadChange_keeps {s} (x0 x1) (h : Keeps s x1) : Keeps s (peerLeadChange x0 x1) := by
  unfold peerLeadChange; try dsimp only
  repeat' first
    | (with_reducible first
      | assumption | apply searchPair_keeps | apply joinPair_keeps | apply leadRelease_keeps | apply releaseLanes_keeps
      | apply takeLead_keeps | exact Keeps.refl _)
    | fail_if_no_progress with_reducible refine Keeps.upd rfl rfl rfl ?_
    | split

theorem execPeerLead_keeps (x0 x1 x2) : KeepsO (tick x0 x2) (execPeerLead x0 x1 x2) := by
  unfold execPeerLead; try dsimp only
  repeat' first
    | (with_reducible first
      | assumption | apply guardOk_keeps | apply peerLeadChange_keeps | refine fun _ => ?_ | exact Keeps.refl _)
    | fail_if_no_progress with_reducible refine Keeps.upd rfl rfl rfl ?_
    | with_reducible refine Keeps.out ?_
    | split

theorem searchOver_keeps {s} (x0) (h : Keeps s x0) : Keeps s (searchOver x0) := by
  unfold searchOver; try dsimp only
  repeat' first
    | (with_reducible first
      | assumption | apply becomeLead_keeps | exact Keeps.refl _)
    | fail_if_no_progress with_reducible refine Keeps.upd rfl rfl rfl ?_
    | split

theorem execSearchTimeout_keeps (x0 x1) : KeepsO (tick x0 x1) (execSearchTimeout x0 x1) := by
  unfold execSearchTimeout; try dsimp only
  repeat' first
    | (with_reducible first
      | assumption | apply guardOk_keeps | apply searchOver_keeps | refine fun _ => ?_ | exact Keeps.refl _)
    | fail_if_no_progress with_reducible refine Keeps.upd rfl rfl rfl ?_
    | with_reducible refine Keeps.out ?_
    | split

theorem writeLife_keeps {s} (x0) (h : Keeps s x0) : Keeps s (writeLife x0) := by
  unfold writeLife; try dsimp only
  repeat' first
    | (with_reducible first
      | assumption | apply emit_keeps | exact Keeps.refl _)
    | fail_if_no_progress with_reducible refine Keeps.upd rfl rfl rfl ?_
    | split

theorem restoreLife_keeps {s} (x0 x1) (h : Keeps s x1) : Keeps s (restoreLife x0 x1) := by
  unfold restoreLife; try dsimp only
  repeat' first
    | (with_reducible first
      | assumption | apply ev_keeps | exact Keeps.refl _)
    | fail_if_no_progress with_reducible refine Keeps.upd rfl rfl rfl ?_
    | split

theorem execLifeHour_keeps (x0 x1) : KeepsO (tick x0 x1) (execLifeHour x0 x1) := by
  unfold execLifeHour; try dsimp only
  repeat' first
    | (with_reducible first
      | assumption | apply guardOk_keeps | apply writeLife_keeps | refine fun _ => ?_ | exact Keeps.refl _)
    | fail_if_no_progress with_reducible refine Keeps.upd rfl rfl rfl ?_
    | with_reducible refine Keeps.out ?_
    | split

theorem writeConfig_keeps {s} (x0) (h : Keeps s x0) : Keeps s (writeConfig x0) := by
  unfold writeConfig; try dsimp only
  repeat' first
    | (with_reducible first
      | assumption | apply emit_keeps | exact Keeps.refl _)
    | fail_if_no_progress with_reducible refine Keeps.upd rfl rfl rfl ?_
    | split

theorem flushConfig_keeps {s} (x0) (h : Keeps s x0) : Keeps s (flushConfig x0) := by
  unfold flushConfig; try dsimp only
  repeat' first
    | (with_reducible first
      | assumption | apply writeConfig_keeps | exact Keeps.refl _)
    | fail_if_no_progress with_reducible refine Keeps.upd rfl rfl rfl ?_
    | split

theorem execConfigStoreWrite_keeps (x0 x1) : KeepsO (tick x0 x1) (execConfigStoreWrite x0 x1) := by
  unfold execConfigStoreWrite; try dsimp only
  repeat' first
    | (with_reducible first
      | assumption | apply guardOk_keeps | apply writeConfig_keeps | refine fun _ => ?_ | exact Keeps.refl _)
    | fail_if_no_progress with_reducible refine Keeps.upd rfl rfl rfl ?_
    | with_reducible refine Keeps.out ?_
    | split

theorem restoreConfig_keeps {s} (x0) (h : Keeps s x0) : Keeps s (restoreConfig x0) := by
  unfold restoreConfig; try dsimp only
  repeat' first
    | (with_reducible first
      | assumption | refine forAll_keeps (fun _ _ => ?_) ?_ | apply setCfg_keeps | refine foldl_keeps (fun _ _ => ?_) ?_ | apply ev_keeps
      | refine fun _ => ?_ | exact Keeps.refl _)
    | fail_if_no_progress with_reducible refine Keeps.upd rfl rfl rfl ?_
    | split
    | fail_if_no_progress with_reducible dsimp only

theorem writeBoot_keeps {s} (x0 x1) (h : Keeps s x1) : Keeps s (writeBoot x0 x1) := by
  unfold writeBoot; try dsimp only
  repeat' first
    | (with_reducible first
      | assumption | apply emit_keeps | exact Keeps.refl _)
    | fail_if_no_progress with_reducible refine Keeps.upd rfl rfl rfl ?_
    | split

theorem bootChoice_keeps {s} (x0 x1) (h : Keeps s x1) : Keeps s (bootChoice x0 x1).2 := by
  unfold bootChoice; try dsimp only
  repeat' first
    | (with_reducible first
      | assumption | apply ev_keeps | apply writeBoot_keeps | exact Keeps.refl _)
    | fail_if_no_progress with_reducible refine Keeps.upd rfl rfl rfl ?_
    | split

end Sys2Proof.Machine
end

