-- ==== Sys2Proof/Laws/KeepsPower.lean ====
section
/-! SUPPORT. `Keeps` of the operations of start, power and faults (Sys2Proof/Machine/Start, Power, Sessions, Faults):
one lemma per function that changes the state. -/

namespace Sys2Proof.Machine

theorem freshState_keeps {s} (x0 x1) (h : Keeps s x1) : Keeps s (freshState x0 x1) := by
  unfold freshState; dsimp only
  split <;> refine ⟨h.1, h.2, fun i => ?_, h.4⟩ <;> (have i := h.3 i; cases i; constructor <;> simp_all [Memory.wf, twf])

theorem setRails_keeps {s} (x0 x1) (h : Keeps s x1) : Keeps s (setRails x0 x1) := by
  unfold setRails; try dsimp only
  repeat' first
    | (with_reducible first
      | assumption | refine forAll_keeps (fun _ _ => ?_) ?_ | apply State.setRail_keeps | refine fun _ => ?_ | exact Keeps.refl _)
    | fail_if_no_progress with_reducible refine Keeps.upd rfl rfl rfl ?_
    | split
    | fail_if_no_progress with_reducible dsimp only

theorem railsOff_keeps {s} (x0 x1) (h : Keeps s x1) : Keeps s (railsOff x0 x1) := by
  unfold railsOff; try dsimp only
  repeat' first
    | (with_reducible first
      | assumption | apply setRails_keeps | exact Keeps.refl _)
    | fail_if_no_progress with_reducible refine Keeps.upd rfl rfl rfl ?_
    | split

theorem startFault_keeps {s} (x0 x1 x2 x3 x4) (h : Keeps s x4) : Keeps s (startFault x0 x1 x2 x3 x4) := by
  unfold startFault; try dsimp only
  repeat' first
    | (with_reducible first
      | assumption | apply lifeEvent_keeps | apply emit_keeps | exact Keeps.refl _)
    | fail_if_no_progress with_reducible refine Keeps.upd rfl rfl rfl ?_
    | fail_if_no_progress with_reducible refine Keeps.updi rfl rfl (fun i => by
        cases i; constructor <;> first | assumption | (simp_all [Memory.wf, twf]; done) | (simp_all; omega)) ?_
    | split

theorem railsUp_keeps {s} (x0 x1) (h : Keeps s x1) : Keeps s (railsUp x0 x1) := by
  unfold railsUp; try dsimp only
  repeat' first
    | (with_reducible first
      | assumption | refine forAll_keeps (fun _ _ => ?_) ?_ | apply emit_keeps | refine fun _ => ?_ | exact Keeps.refl _)
    | fail_if_no_progress with_reducible refine Keeps.upd rfl rfl rfl ?_
    | split
    | fail_if_no_progress with_reducible dsimp only

theorem railsDown_keeps {s} (x0 x1) (h : Keeps s x1) : Keeps s (railsDown x0 x1) := by
  unfold railsDown; try dsimp only
  repeat' first
    | (with_reducible first
      | assumption | refine forAll_keeps (fun _ _ => ?_) ?_ | apply emit_keeps | refine fun _ => ?_ | exact Keeps.refl _)
    | fail_if_no_progress with_reducible refine Keeps.upd rfl rfl rfl ?_
    | split
    | fail_if_no_progress with_reducible dsimp only

theorem checkRails_keeps {s} (x0) (h : Keeps s x0) : Keeps s (checkRails x0) := by
  unfold checkRails; try dsimp only
  repeat' first
    | (with_reducible first
      | assumption | refine forAll_keeps (fun _ _ => ?_) ?_ | apply emit_keeps | refine fun _ => ?_ | exact Keeps.refl _)
    | fail_if_no_progress with_reducible refine Keeps.upd rfl rfl rfl ?_
    | split
    | fail_if_no_progress with_reducible dsimp only

theorem startFailed_keeps {s} (x0 x1 x2 x3 x4 x5) (h : Keeps s x5) : Keeps s (startFailed x0 x1 x2 x3 x4 x5) := by
  unfold startFailed; try dsimp only
  repeat' first
    | (with_reducible first
      | assumption | apply startFault_keeps | apply railsOff_keeps | apply railsDown_keeps | apply raise_keeps | exact Keeps.refl _)
    | fail_if_no_progress with_reducible refine Keeps.upd rfl rfl rfl ?_
    | fail_if_no_progress with_reducible refine Keeps.updi rfl rfl (fun i => by
        cases i; constructor <;> first | assumption | (simp_all [Memory.wf, twf]; done) | (simp_all; omega)) ?_
    | split

theorem recoveryMode_keeps {s} (x0) (h : Keeps s x0) : Keeps s (recoveryMode x0) := by
  unfold recoveryMode; try dsimp only
  repeat' first
    | (with_reducible first
      | assumption | exact Keeps.refl _)
    | fail_if_no_progress with_reducible refine Keeps.upd rfl rfl rfl ?_
    | fail_if_no_progress with_reducible refine Keeps.updi rfl rfl (fun i => by
        cases i; constructor <;> first | assumption | (simp_all [Memory.wf, twf]; done) | (simp_all; omega)) ?_
    | split

theorem dropRepaired_keeps {s} (x0) (h : Keeps s x0) : Keeps s (dropRepaired x0) := by
  unfold dropRepaired; try dsimp only
  repeat' first
    | (with_reducible first
      | assumption | exact Keeps.refl _)
    | fail_if_no_progress with_reducible refine Keeps.upd rfl rfl rfl ?_
    | split

theorem loadPart_keeps {s} (x0 x1 x2) (h : Keeps s x2) : Keeps s (loadPart x0 x1 x2) := by
  unfold loadPart; try dsimp only
  repeat' first
    | (with_reducible first
      | assumption | apply State.setHead_keeps | refine foldl_keeps (fun _ _ => ?_) ?_ | apply ev_keeps | exact Keeps.refl _)
    | fail_if_no_progress with_reducible refine Keeps.upd rfl rfl rfl ?_
    | split

theorem fillStore_keeps {s} (x0 x1) (h : Keeps s x1) : Keeps s (fillStore x0 x1) := by
  unfold fillStore; try dsimp only
  repeat' first
    | (with_reducible first
      | assumption | apply dropRepaired_keeps | apply dieFault_keeps | refine forAll_keeps (fun _ _ => ?_) ?_ | apply loadPart_keeps
      | refine fun _ => ?_ | exact Keeps.refl _)
    | fail_if_no_progress with_reducible refine Keeps.upd rfl rfl rfl ?_
    | fail_if_no_progress with_reducible refine Keeps.updi rfl rfl (fun i => by
        cases i; constructor <;> first | assumption | (simp_all [Memory.wf, twf]; done) | (simp_all; omega)) ?_
    | split
    | fail_if_no_progress with_reducible dsimp only

theorem marginEvent_keeps {s} (x0 x1 x2) (h : Keeps s x2) : Keeps s (marginEvent x0 x1 x2) := by
  unfold marginEvent; try dsimp only
  repeat' first
    | (with_reducible first
      | assumption | apply ev_keeps | exact Keeps.refl _)
    | fail_if_no_progress with_reducible refine Keeps.upd rfl rfl rfl ?_
    | split

theorem calFlag_keeps {s} (x0 x1) (h : Keeps s x1) : Keeps s (calFlag x0 x1) := by
  unfold calFlag; try dsimp only
  repeat' first
    | (with_reducible first
      | assumption | exact Keeps.refl _)
    | fail_if_no_progress with_reducible refine Keeps.upd rfl rfl rfl ?_
    | split

theorem measureEyes_keeps {s} (x0) (h : Keeps s x0) : Keeps s (measureEyes x0) := by
  unfold measureEyes; try dsimp only
  repeat' first
    | (with_reducible first
      | assumption | refine foldl_keeps (fun _ _ => ?_) ?_ | exact Keeps.refl _)
    | fail_if_no_progress with_reducible refine Keeps.upd rfl rfl rfl ?_
    | split

theorem refreshMargins_keeps {s} (x0) (h : Keeps s x0) : Keeps s (refreshMargins x0) := by
  unfold refreshMargins; try dsimp only
  repeat' first
    | (with_reducible first
      | assumption | refine forAll_keeps (fun _ _ => ?_) ?_ | apply marginEvent_keeps | refine fun _ => ?_ | exact Keeps.refl _)
    | fail_if_no_progress with_reducible refine Keeps.upd rfl rfl rfl ?_
    | split
    | fail_if_no_progress with_reducible dsimp only

theorem learn_keeps {s} (x0 x1) (h : Keeps s x1) : Keeps s (learn x0 x1) := by
  unfold learn; try dsimp only
  repeat' first
    | (with_reducible first
      | assumption | apply emit_keeps | exact Keeps.refl _)
    | fail_if_no_progress with_reducible refine Keeps.upd rfl rfl rfl ?_
    | split

theorem calibrate_keeps {s} (x0 x1) (h : Keeps s x1) : Keeps s (calibrate x0 x1) := by
  unfold calibrate; try dsimp only
  repeat' first
    | (with_reducible first
      | assumption | apply measureEyes_keeps | refine foldl_keeps (fun _ _ => ?_) ?_ | apply raise_keeps | apply addFault_keeps
      | apply calFlag_keeps | refine forAll_keeps (fun _ _ => ?_) ?_ | apply marginEvent_keeps | apply learn_keeps | refine fun _ => ?_
      | exact Keeps.refl _)
    | fail_if_no_progress with_reducible refine Keeps.upd rfl rfl rfl ?_
    | split
    | fail_if_no_progress with_reducible dsimp only

theorem dropTable_keeps {s} (x0 x1) (h : Keeps s x1) : Keeps s (dropTable x0 x1) := by
  unfold dropTable; try dsimp only
  repeat' first
    | (with_reducible first
      | assumption | apply State.setSensor_keeps | apply ev_keeps | exact Keeps.refl _)
    | fail_if_no_progress with_reducible refine Keeps.upd rfl rfl rfl ?_
    | split

theorem lendSpare_keeps {s} (x0 x1) (h : Keeps s x1) : Keeps s (lendSpare x0 x1) := by
  unfold lendSpare; try dsimp only
  repeat' first
    | (with_reducible first
      | assumption | apply State.setEngine_keeps | exact Keeps.refl _)
    | fail_if_no_progress with_reducible refine Keeps.upd rfl rfl rfl ?_
    | split

theorem chooseSpares_keeps {s} (x0 x1) (h : Keeps s x1) : Keeps s (chooseSpares x0 x1) := by
  unfold chooseSpares; try dsimp only
  repeat' first
    | (with_reducible first
      | assumption | refine forAll_keeps (fun _ _ => ?_) ?_ | apply State.setEngine_keeps | apply lendSpare_keeps | refine fun _ => ?_
      | exact Keeps.refl _)
    | fail_if_no_progress with_reducible refine Keeps.upd rfl rfl rfl ?_
    | split
    | fail_if_no_progress with_reducible dsimp only

theorem startTandem_keeps {s} (x0) (h : Keeps s x0) : Keeps s (startTandem x0) := by
  unfold startTandem; try dsimp only
  repeat' first
    | (with_reducible first
      | assumption | exact Keeps.refl _)
    | fail_if_no_progress with_reducible refine Keeps.upd rfl rfl rfl ?_
    | fail_if_no_progress with_reducible refine Keeps.updi rfl rfl (fun i => by
        cases i; constructor <;> first | assumption | (simp_all [Memory.wf, twf]; done) | (simp_all; omega)) ?_
    | split

theorem serve_keeps {s} (x0) (h : Keeps s x0) : Keeps s (serve x0) := by
  unfold serve; try dsimp only
  repeat' first
    | (with_reducible first
      | assumption | refine forAll_keeps (fun _ _ => ?_) ?_ | apply broadcast_keeps | apply ev_keeps | refine fun _ => ?_
      | exact Keeps.refl _)
    | fail_if_no_progress with_reducible refine Keeps.upd rfl rfl rfl ?_
    | fail_if_no_progress with_reducible refine Keeps.updi rfl rfl (fun i => by
        cases i; constructor <;> first | assumption | (simp_all [Memory.wf, twf]; done) | (simp_all; omega)) ?_
    | split
    | fail_if_no_progress with_reducible dsimp only

theorem startWith_keeps {s} (x0 x1 x2 x3) (h : Keeps s x3) : Keeps s (startWith x0 x1 x2 x3) := by
  unfold startWith; try dsimp only
  repeat' first
    | (with_reducible first
      | assumption | apply chooseSpares_keeps | apply restoreConfig_keeps | apply calibrate_keeps | apply fillStore_keeps
      | apply restoreLife_keeps | refine forAll_keeps (fun _ _ => ?_) ?_ | apply dropTable_keeps | apply startTandem_keeps
      | apply ptpInit_keeps | apply addFault_keeps | apply updateLimit_keeps | apply serve_keeps | refine fun _ => ?_ | exact Keeps.refl _)
    | fail_if_no_progress with_reducible refine Keeps.upd rfl rfl rfl ?_
    | fail_if_no_progress with_reducible refine Keeps.updi rfl rfl (fun i => by
        cases i; constructor <;> first | assumption | (simp_all [Memory.wf, twf]; done) | (simp_all; omega)) ?_
    | split
    | fail_if_no_progress with_reducible dsimp only

theorem coldStart_keeps {s} (x0 x1 x2 x3) (h : Keeps s x3) : Keeps s (coldStart x0 x1 x2 x3) := by
  unfold coldStart; try dsimp only
  repeat' first
    | (with_reducible first
      | assumption | apply freshState_keeps | apply recoveryMode_keeps | apply startFault_keeps | apply startFailed_keeps
      | apply bootChoice_keeps | apply startWith_keeps | exact Keeps.refl _)
    | fail_if_no_progress with_reducible refine Keeps.upd rfl rfl rfl ?_
    | fail_if_no_progress with_reducible refine Keeps.updi rfl rfl (fun i => by
        cases i; constructor <;> first | assumption | (simp_all [Memory.wf, twf]; done) | (simp_all; omega)) ?_
    | split
    | with_reducible refine Keeps.snd (by assumption) ?_
    | with_reducible refine Keeps.snd2 (by assumption) ?_

theorem powerStart_keeps {s} (x0 x1 x2 x3) (h : Keeps s x3) : Keeps s (powerStart x0 x1 x2 x3) := by
  unfold powerStart; try dsimp only
  repeat' first
    | (with_reducible first
      | assumption | apply coldStart_keeps | apply railsUp_keeps | exact Keeps.refl _)
    | fail_if_no_progress with_reducible refine Keeps.upd rfl rfl rfl ?_
    | split

theorem resetStart_keeps {s} (x0 x1) (h : Keeps s x1) : Keeps s (resetStart x0 x1) := by
  unfold resetStart; try dsimp only
  repeat' first
    | (with_reducible first
      | assumption | apply coldStart_keeps | apply checkRails_keeps | exact Keeps.refl _)
    | fail_if_no_progress with_reducible refine Keeps.upd rfl rfl rfl ?_
    | split

theorem execPowerOnReset_keeps (x0 x1 x2) : KeepsO (tick x0 x2) (execPowerOnReset x0 x1 x2) := by
  unfold execPowerOnReset; try dsimp only
  repeat' first
    | (with_reducible first
      | assumption | apply ok_keeps | apply powerStart_keeps | exact Keeps.refl _)
    | fail_if_no_progress with_reducible refine Keeps.upd rfl rfl rfl ?_
    | with_reducible refine Keeps.out ?_
    | split

theorem holdReset_keeps {s} (x0) (h : Keeps s x0) : Keeps s (holdReset x0) := by
  unfold holdReset; try dsimp only
  repeat' first
    | (with_reducible first
      | assumption | apply freshState_keeps | exact Keeps.refl _)
    | fail_if_no_progress with_reducible refine Keeps.upd rfl rfl rfl ?_
    | fail_if_no_progress with_reducible refine Keeps.updi rfl rfl (fun i => by
        cases i; constructor <;> first | assumption | (simp_all [Memory.wf, twf]; done) | (simp_all; omega)) ?_
    | split

theorem execResetN_keeps (x0 x1 x2 x3) : KeepsO (tick x0 x3) (execResetN x0 x1 x2 x3) := by
  unfold execResetN; try dsimp only
  repeat' first
    | (with_reducible first
      | assumption | apply guardOk_keeps | apply resetStart_keeps | apply powerStart_keeps | apply holdReset_keeps | refine fun _ => ?_
      | exact Keeps.refl _)
    | fail_if_no_progress with_reducible refine Keeps.upd rfl rfl rfl ?_
    | with_reducible refine Keeps.out ?_
    | split

theorem execStartRetry_keeps (x0 x1 x2) : KeepsO (tick x0 x2) (execStartRetry x0 x1 x2) := by
  unfold execStartRetry; try dsimp only
  repeat' first
    | (with_reducible first
      | assumption | apply guardOk_keeps | apply powerStart_keeps | refine fun _ => ?_ | exact Keeps.refl _)
    | fail_if_no_progress with_reducible refine Keeps.upd rfl rfl rfl ?_
    | with_reducible refine Keeps.out ?_
    | split

theorem encCalDeferred_keeps {s} (x0 x1 x2) (h : Keeps s x2) : Keeps s (encCalDeferred x0 x1 x2) := by
  unfold encCalDeferred; try dsimp only
  repeat' first
    | (with_reducible first
      | assumption | exact Keeps.refl _)
    | fail_if_no_progress with_reducible refine Keeps.upd rfl rfl rfl ?_
    | split

theorem execEncCalDeferred_keeps (x0 x1 x2 x3) : KeepsO (tick x0 x3) (execEncCalDeferred x0 x1 x2 x3) := by
  unfold execEncCalDeferred; try dsimp only
  repeat' first
    | (with_reducible first
      | assumption | apply guardOk_keeps | apply encCalDeferred_keeps | refine fun _ => ?_ | exact Keeps.refl _)
    | fail_if_no_progress with_reducible refine Keeps.upd rfl rfl rfl ?_
    | with_reducible refine Keeps.out ?_
    | split

theorem tapStep_keeps {s} (x0 x1 x2) (h : Keeps s x2) : Keeps s (tapStep x0 x1 x2) := by
  unfold tapStep; try dsimp only
  repeat' first
    | (with_reducible first
      | assumption | refine foldl_keeps (fun _ _ => ?_) ?_ | apply calFlag_keeps | exact Keeps.refl _)
    | fail_if_no_progress with_reducible refine Keeps.upd rfl rfl rfl ?_
    | split

theorem execTapStep_keeps (x0 x1 x2 x3) : KeepsO (tick x0 x3) (execTapStep x0 x1 x2 x3) := by
  unfold execTapStep; try dsimp only
  repeat' first
    | (with_reducible first
      | assumption | apply guardOk_keeps | apply tapStep_keeps | refine fun _ => ?_ | exact Keeps.refl _)
    | fail_if_no_progress with_reducible refine Keeps.upd rfl rfl rfl ?_
    | with_reducible refine Keeps.out ?_
    | split

theorem powerEvent_keeps {s} (x0 x1 x2 x3 x4) (h : Keeps s x3) : Keeps s (powerEvent x0 x1 x2 x3 x4) := by
  unfold powerEvent; try dsimp only
  repeat' first
    | (with_reducible first
      | assumption | apply raise_keeps | exact Keeps.refl _)
    | fail_if_no_progress with_reducible refine Keeps.upd rfl rfl rfl ?_
    | split

theorem stateEvent_keeps {s} (x0 x1 x2) (h : Keeps s x2) : Keeps s (stateEvent x0 x1 x2) := by
  unfold stateEvent; try dsimp only
  repeat' first
    | (with_reducible first
      | assumption | apply powerEvent_keeps | exact Keeps.refl _)
    | fail_if_no_progress with_reducible refine Keeps.upd rfl rfl rfl ?_
    | split

theorem railEvent_keeps {s} (x0 x1 x2 x3 x4) (h : Keeps s x4) : Keeps s (railEvent x0 x1 x2 x3 x4) := by
  unfold railEvent; try dsimp only
  repeat' first
    | (with_reducible first
      | assumption | apply powerEvent_keeps | exact Keeps.refl _)
    | fail_if_no_progress with_reducible refine Keeps.upd rfl rfl rfl ?_
    | split

theorem railRequest_keeps {s} (x0 x1) (h : Keeps s x1) : Keeps s (railRequest x0 x1) := by
  unfold railRequest; try dsimp only
  repeat' first
    | (with_reducible first
      | assumption | apply emit_keeps | exact Keeps.refl _)
    | fail_if_no_progress with_reducible refine Keeps.upd rfl rfl rfl ?_
    | split

theorem startRail_keeps {s} (x0) (h : Keeps s x0) : Keeps s (startRail x0) := by
  unfold startRail; try dsimp only
  repeat' first
    | (with_reducible first
      | assumption | apply railRequest_keeps | exact Keeps.refl _)
    | fail_if_no_progress with_reducible refine Keeps.upd rfl rfl rfl ?_
    | split

theorem beginSeq_keeps {s} (x0 x1 x2) (h : Keeps s x2) : Keeps s (beginSeq x0 x1 x2) := by
  unfold beginSeq; try dsimp only
  repeat' first
    | (with_reducible first
      | assumption | apply startRail_keeps | exact Keeps.refl _)
    | fail_if_no_progress with_reducible refine Keeps.upd rfl rfl rfl ?_
    | split

theorem applyRail_keeps {s} (x0 x1) (h : Keeps s x1) : Keeps s (applyRail x0 x1) := by
  unfold applyRail; try dsimp only
  repeat' first
    | (with_reducible first
      | assumption | apply State.setRail_keeps | exact Keeps.refl _)
    | fail_if_no_progress with_reducible refine Keeps.upd rfl rfl rfl ?_
    | split

theorem restartRegions_keeps {s} (x0) (h : Keeps s x0) : Keeps s (restartRegions x0) := by
  unfold restartRegions; try dsimp only
  repeat' first
    | (with_reducible first
      | assumption | refine forAll_keeps (fun _ _ => ?_) ?_ | apply State.setRing_keeps | apply State.setEngine_keeps | refine fun _ => ?_
      | exact Keeps.refl _)
    | fail_if_no_progress with_reducible refine Keeps.upd rfl rfl rfl ?_
    | split
    | fail_if_no_progress with_reducible dsimp only

theorem askWheeler_keeps {s} (x0 x1) (h : Keeps s x1) : Keeps s (askWheeler x0 x1) := by
  unfold askWheeler; try dsimp only
  repeat' first
    | (with_reducible first
      | assumption | apply sendRecord_keeps | exact Keeps.refl _)
    | fail_if_no_progress with_reducible refine Keeps.upd rfl rfl rfl ?_
    | split

theorem goIdle_keeps {s} (x0) (h : Keeps s x0) : Keeps s (goIdle x0) := by
  unfold goIdle; try dsimp only
  repeat' first
    | (with_reducible first
      | assumption | apply stateEvent_keeps | refine forAll_keeps (fun _ _ => ?_) ?_ | apply powerTaken_keeps | refine fun _ => ?_
      | exact Keeps.refl _)
    | fail_if_no_progress with_reducible refine Keeps.upd rfl rfl rfl ?_
    | fail_if_no_progress with_reducible refine Keeps.updi rfl rfl (fun i => by
        cases i; constructor <;> first | assumption | (simp_all [Memory.wf, twf]; done) | (simp_all; omega)) ?_
    | split
    | fail_if_no_progress with_reducible dsimp only

theorem enterIdleState_keeps {s} (x0 x1) (h : Keeps s x1) : Keeps s (enterIdleState x0 x1) := by
  unfold enterIdleState; try dsimp only
  repeat' first
    | (with_reducible first
      | assumption | apply goIdle_keeps | apply completeHandle_keeps | apply askWheeler_keeps | exact Keeps.refl _)
    | fail_if_no_progress with_reducible refine Keeps.upd rfl rfl rfl ?_
    | fail_if_no_progress with_reducible refine Keeps.updi rfl rfl (fun i => by
        cases i; constructor <;> first | assumption | (simp_all [Memory.wf, twf]; done) | (simp_all; omega)) ?_
    | split

theorem returnToRun_keeps {s} (x0 x1) (h : Keeps s x1) : Keeps s (returnToRun x0 x1) := by
  unfold returnToRun; try dsimp only
  repeat' first
    | (with_reducible first
      | assumption | apply askWheeler_keeps | refine forAll_keeps (fun _ _ => ?_) ?_ | apply laneWake_keeps | apply resumeRows_keeps
      | apply restartRegions_keeps | apply stateEvent_keeps | refine fun _ => ?_ | exact Keeps.refl _)
    | fail_if_no_progress with_reducible refine Keeps.upd rfl rfl rfl ?_
    | fail_if_no_progress with_reducible refine Keeps.updi rfl rfl (fun i => by
        cases i; constructor <;> first | assumption | (simp_all [Memory.wf, twf]; done) | (simp_all; omega)) ?_
    | split
    | fail_if_no_progress with_reducible dsimp only

theorem stopCapture_keeps {s} (x0) (h : Keeps s x0) : Keeps s (stopCapture x0) := by
  unfold stopCapture; try dsimp only
  repeat' first
    | (with_reducible first
      | assumption | refine forAll_keeps (fun _ _ => ?_) ?_ | apply drawFree_keeps | apply completeWord_keeps | apply State.setCamPort_keeps
      | apply listDone_keeps | apply cutFrames_keeps | refine fun _ => ?_ | exact Keeps.refl _)
    | fail_if_no_progress with_reducible refine Keeps.upd rfl rfl rfl ?_
    | split
    | fail_if_no_progress with_reducible dsimp only
    | with_reducible refine Keeps.snd (by assumption) ?_
    | with_reducible refine Keeps.snd2 (by assumption) ?_

theorem refuseEntry_keeps {s} (x0 x1 x2 x3 x4) (h : Keeps s x4) : Keeps s (refuseEntry x0 x1 x2 x3 x4) := by
  unfold refuseEntry; try dsimp only
  repeat' first
    | (with_reducible first
      | assumption | apply stopCapture_keeps | apply restartRegions_keeps | apply ev_keeps | apply completeHandle_keeps | exact Keeps.refl _)
    | fail_if_no_progress with_reducible refine Keeps.upd rfl rfl rfl ?_
    | split

theorem laneSleep_keeps {s} (x0 x1) (h : Keeps s x1) : Keeps s (laneSleep x0 x1) := by
  unfold laneSleep; try dsimp only
  repeat' first
    | (with_reducible first
      | assumption | apply powerTaken_keeps | apply laneDown_keeps | exact Keeps.refl _)
    | fail_if_no_progress with_reducible refine Keeps.upd rfl rfl rfl ?_
    | split

theorem enterDeep_keeps {s} (x0 x1 x2) (h : Keeps s x2) (hx : x0 ≤ 4) (k1 : ∀ u, Keeps s u → Keeps s (x1 u)) : Keeps s (enterDeep x0 x1 x2) := by
  have st : ∀ t : State, Keeps s t → Keeps s { t with store := { t.store with state := if x0 = 4 then 0 else 3 } } :=
    fun t g => Keeps.updi rfl rfl (fun i => { i with store := (by split <;> omega : (if x0 = 4 then 0 else 3) ≤ 3) }) g
  have pw : ∀ t : State, Keeps s t → Keeps s { t with power := { t.power with state := x0, enteredAt := t.time.now, wakePending := none } } :=
    fun t g => Keeps.updi rfl rfl (fun i => { i with power := hx }) g
  unfold enterDeep
  extract_lets lead a1 _ a2 a3 _ a4 a5 _ a6 a7 _ a8 a9 _ a10 a11
  have h1 : Keeps s a1 := stopCapture_keeps _ h
  have h2 : Keeps s a2 := st _ h1
  have h3 : Keeps s a3 := settleNozzles_keeps _ (discardBar_keeps _ _ h2)
  clear_value a3
  have h5 : Keeps s a5 := stateEvent_keeps _ _ _ (k1 _ (h3.same rfl rfl rfl rfl))
  have h6 : Keeps s a6 := pw _ h5
  have h7 : Keeps s a7 := forAll_keeps (fun _ _ => laneSleep_keeps _ _ (Keeps.refl _)) h6
  clear_value a7
  have h9 : Keeps s a9 := dropMasters_keeps _ (forAll_keeps (fun _ _ => linkChange_keeps _ _ _ (Keeps.refl _)) (h7.same rfl rfl rfl rfl))
  clear_value a9
  have h10 : Keeps s a10 := by
    unfold a10; split
    · exact h9
    · refine forAll_keeps (fun _ _ => ?_) (h9.same rfl rfl rfl rfl)
      split
      · exact laneChange_keeps _ _ _ (Keeps.refl _)
      · exact Keeps.refl _
  have h11 : Keeps s a11 := by
    unfold a11; split
    · exact flushConfig_keeps _ (writeLife_keeps _ h10)
    · exact h10
  exact beginSeq_keeps _ _ _ h11

theorem enterPower_keeps {s} (x0 x1 x2 x3) (h : Keeps s x3) (hx : x1 ≤ 4) : Keeps s (enterPower x0 x1 x2 x3) := by
  unfold enterPower; try dsimp only
  repeat' first
    | (with_reducible first
      | assumption | apply refuseEntry_keeps | apply askWheeler_keeps | apply enterDeep_keeps | apply completeHandle_keeps
      | refine fun _ => ?_ | exact Keeps.refl _)
    | fail_if_no_progress with_reducible refine Keeps.upd rfl rfl rfl ?_
    | decide
    | split

theorem reportOutcome_keeps {s} (x0 x1 x2) (h : Keeps s x2) : Keeps s (reportOutcome x0 x1 x2) := by
  unfold reportOutcome; try dsimp only
  repeat' first
    | (with_reducible first
      | assumption | apply sendRecord_keeps | exact Keeps.refl _)
    | fail_if_no_progress with_reducible refine Keeps.upd rfl rfl rfl ?_
    | split

theorem followPower_keeps {s} (x0 x1) (h : Keeps s x1) : Keeps s (followPower x0 x1) := by
  unfold followPower; dsimp only
  split
  · exact h
  · split
    · exact h
    · rename_i c
      split
      · exact returnToRun_keeps _ _ h
      · exact goIdle_keeps _ h
      · split
        · repeat' first
            | (with_reducible first
              | assumption | apply reportOutcome_keeps | apply restartRegions_keeps | apply stopCapture_keeps)
            | split
        · refine enterDeep_keeps _ _ _ h (by by_contra hc; exact c (by omega)) (fun _ g => reportOutcome_keeps _ _ _ g)

theorem execHeartbeat_keeps (x0 x1 x2 x3) : KeepsO (tick x0 x3) (execHeartbeat x0 x1 x2 x3) := by
  unfold execHeartbeat; try dsimp only
  repeat' first
    | (with_reducible first
      | assumption | apply recordOk_keeps | apply followPower_keeps | apply takeHeartbeat_keeps | refine fun _ => ?_ | exact Keeps.refl _)
    | fail_if_no_progress with_reducible refine Keeps.upd rfl rfl rfl ?_
    | with_reducible refine Keeps.out ?_
    | split

theorem wakeFail_keeps {s} (x0 x1 x2 x3 x4) (h : Keeps s x4) : Keeps s (wakeFail x0 x1 x2 x3 x4) := by
  unfold wakeFail
  extract_lets run r p perm _ a1 a2 _
  have hp : x4.power.wakePerm.length ≤ 64 → perm.length ≤ 64 := by
    intro hl; unfold perm; split
    · rename_i hc
      simp only [List.length_append, List.length_singleton]
      have := hc.2; omega
    · exact hl
  have h1 : Keeps s a1 := lifeEvent_keeps _ _ (Keeps.updi rfl rfl (fun i => { i with wakeLog := by simp, wakePerm := hp i.wakePerm }) h)
  have h2 : Keeps s a2 := by
    unfold a2; split
    · exact h1
    · exact emit_keeps _ _ h1
  clear_value a2
  split
  · exact h2.same rfl rfl rfl rfl
  · exact beginSeq_keeps _ _ _ h2

theorem beginWake_keeps {s} (x0 x1 x2) (h : Keeps s x2) : Keeps s (beginWake x0 x1 x2) := by
  unfold beginWake; try dsimp only
  repeat' first
    | (with_reducible first
      | assumption | apply wakeFail_keeps | apply beginSeq_keeps | exact Keeps.refl _)
    | fail_if_no_progress with_reducible refine Keeps.upd rfl rfl rfl ?_
    | split

theorem reachRun_keeps {s} (x0) (h : Keeps s x0) : Keeps s (reachRun x0) := by
  unfold reachRun; try dsimp only
  repeat' first
    | (with_reducible first
      | assumption | refine forAll_keeps (fun _ _ => ?_) ?_ | apply broadcast_keeps | apply stateEvent_keeps | apply ev_keeps
      | refine fun _ => ?_ | exact Keeps.refl _)
    | fail_if_no_progress with_reducible refine Keeps.upd rfl rfl rfl ?_
    | fail_if_no_progress with_reducible refine Keeps.updi rfl rfl (fun i => by
        cases i; constructor <;> first | assumption | (simp_all [Memory.wf, twf]; done) | (simp_all; omega)) ?_
    | split
    | fail_if_no_progress with_reducible dsimp only

theorem coolHeads_keeps {s} (x0) (h : Keeps s x0) : Keeps s (coolHeads x0) := by
  unfold coolHeads; try dsimp only
  repeat' first
    | (with_reducible first
      | assumption | refine forAll_keeps (fun _ _ => ?_) ?_ | apply State.setHead_keeps | refine fun _ => ?_ | exact Keeps.refl _)
    | fail_if_no_progress with_reducible refine Keeps.upd rfl rfl rfl ?_
    | split
    | fail_if_no_progress with_reducible dsimp only

theorem wakeLanes_keeps {s} (x0) (h : Keeps s x0) : Keeps s (wakeLanes x0) := by
  unfold wakeLanes; try dsimp only
  repeat' first
    | (with_reducible first
      | assumption | refine forAll_keeps (fun _ _ => ?_) ?_ | apply laneWake_keeps | refine fun _ => ?_ | exact Keeps.refl _)
    | fail_if_no_progress with_reducible refine Keeps.upd rfl rfl rfl ?_
    | split
    | fail_if_no_progress with_reducible dsimp only

theorem researchPair_keeps {s} (x0) (h : Keeps s x0) : Keeps s (researchPair x0) := by
  unfold researchPair; try dsimp only
  repeat' first
    | (with_reducible first
      | assumption | apply searchPair_keeps | exact Keeps.refl _)
    | fail_if_no_progress with_reducible refine Keeps.upd rfl rfl rfl ?_
    | split

theorem wakeFromSleep_keeps {s} (x0) (h : Keeps s x0) : Keeps s (wakeFromSleep x0) := by
  unfold wakeFromSleep; try dsimp only
  repeat' first
    | (with_reducible first
      | assumption | apply refreshMargins_keeps | refine forAll_keeps (fun _ _ => ?_) ?_ | apply State.setChan_keeps | apply wakeLanes_keeps
      | apply coolHeads_keeps | apply resumeRows_keeps | apply restartRegions_keeps | apply researchPair_keeps | apply reachRun_keeps
      | refine fun _ => ?_ | exact Keeps.refl _)
    | fail_if_no_progress with_reducible refine Keeps.upd rfl rfl rfl ?_
    | fail_if_no_progress with_reducible refine Keeps.updi rfl rfl (fun i => by
        cases i; constructor <;> first | assumption | (simp_all [Memory.wf, twf]; done) | (simp_all; omega)) ?_
    | split
    | fail_if_no_progress with_reducible dsimp only

theorem retain_keeps {s} (x0) (h : Keeps s x0) : Keeps s (retain x0) := by
  unfold retain; try dsimp only
  repeat' first
    | (with_reducible first
      | assumption | refine foldl_keeps (fun _ _ => ?_) ?_ | exact Keeps.refl _)
    | fail_if_no_progress with_reducible refine Keeps.upd rfl rfl rfl ?_
    | fail_if_no_progress with_reducible refine Keeps.updi rfl rfl (fun i => by
        cases i; constructor <;> first | assumption | (simp_all [Memory.wf, twf]; done) | (simp_all; omega)) ?_
    | split

theorem crystalTime_keeps {s} (x0) (h : Keeps s x0) : Keeps s (crystalTime x0) := by
  unfold crystalTime; try dsimp only
  repeat' first
    | (with_reducible first
      | assumption | apply drawFree_keeps | exact Keeps.refl _)
    | fail_if_no_progress with_reducible refine Keeps.upd rfl rfl rfl ?_
    | split
    | with_reducible refine Keeps.snd (by assumption) ?_
    | with_reducible refine Keeps.snd2 (by assumption) ?_

theorem wakeFromDeep_keeps {s} (x0) (h : Keeps s x0) : Keeps s (wakeFromDeep x0) := by
  unfold wakeFromDeep; try dsimp only
  repeat' first
    | (with_reducible first
      | assumption | apply ptpInit_keeps | apply crystalTime_keeps | apply retain_keeps | apply coolHeads_keeps | apply updateCapacity_keeps
      | apply researchPair_keeps | apply wakeLanes_keeps | apply refreshMargins_keeps | apply reachRun_keeps | exact Keeps.refl _)
    | fail_if_no_progress with_reducible refine Keeps.upd rfl rfl rfl ?_
    | split

theorem retentionLost_keeps {s} (x0 x1 x2) (h : Keeps s x2) : Keeps s (retentionLost x0 x1 x2) := by
  unfold retentionLost; try dsimp only
  repeat' first
    | (with_reducible first
      | assumption | apply resetStart_keeps | exact Keeps.refl _)
    | fail_if_no_progress with_reducible refine Keeps.upd rfl rfl rfl ?_
    | split

theorem seqDone_keeps {s} (x0 x1) (h : Keeps s x1) : Keeps s (seqDone x0 x1) := by
  unfold seqDone; try dsimp only
  repeat' first
    | (with_reducible first
      | assumption | apply beginWake_keeps | apply wakeFail_keeps | apply wakeFromSleep_keeps | apply retentionLost_keeps
      | apply wakeFromDeep_keeps | exact Keeps.refl _)
    | fail_if_no_progress with_reducible refine Keeps.upd rfl rfl rfl ?_
    | split

theorem sendNext_keeps {s} (x0 x1) (h : Keeps s x1) : Keeps s (sendNext x0 x1) := by
  unfold sendNext; try dsimp only
  repeat' first
    | (with_reducible first
      | assumption | apply seqDone_keeps | apply startRail_keeps | exact Keeps.refl _)
    | fail_if_no_progress with_reducible refine Keeps.upd rfl rfl rfl ?_
    | split

theorem railAck_keeps {s} (x0 x1 x2 x3 x4) (h : Keeps s x4) : Keeps s (railAck x0 x1 x2 x3 x4) := by
  unfold railAck; try dsimp only
  repeat' first
    | (with_reducible first
      | assumption | apply sendNext_keeps | apply applyRail_keeps | exact Keeps.refl _)
    | fail_if_no_progress with_reducible refine Keeps.upd rfl rfl rfl ?_
    | split

theorem execPmbusAck_keeps (x0 x1 x2 x3) : KeepsO (tick x0 x3) (execPmbusAck x0 x1 x2 x3) := by
  unfold execPmbusAck; try dsimp only
  repeat' first
    | (with_reducible first
      | assumption | apply ok_keeps | apply railAck_keeps | exact Keeps.refl _)
    | fail_if_no_progress with_reducible refine Keeps.upd rfl rfl rfl ?_
    | with_reducible refine Keeps.out ?_
    | split

theorem railTimeout_keeps {s} (x0 x1 x2) (h : Keeps s x2) : Keeps s (railTimeout x0 x1 x2) := by
  unfold railTimeout; try dsimp only
  repeat' first
    | (with_reducible first
      | assumption | apply railRequest_keeps | apply emit_keeps | apply railEvent_keeps | apply wakeFail_keeps | apply sendNext_keeps
      | exact Keeps.refl _)
    | fail_if_no_progress with_reducible refine Keeps.upd rfl rfl rfl ?_
    | split

theorem execPmbusTimeout_keeps (x0 x1 x2) : KeepsO (tick x0 x2) (execPmbusTimeout x0 x1 x2) := by
  unfold execPmbusTimeout; try dsimp only
  repeat' first
    | (with_reducible first
      | assumption | apply ok_keeps | apply guardOk_keeps | apply railTimeout_keeps | refine fun _ => ?_ | exact Keeps.refl _)
    | fail_if_no_progress with_reducible refine Keeps.upd rfl rfl rfl ?_
    | with_reducible refine Keeps.out ?_
    | split

theorem joinWake_keeps {s} (x0) (h : Keeps s x0) : Keeps s (joinWake x0) := by
  unfold joinWake; try dsimp only
  repeat' first
    | (with_reducible first
      | assumption | exact Keeps.refl _)
    | fail_if_no_progress with_reducible refine Keeps.upd rfl rfl rfl ?_
    | split

theorem wakeEdge_keeps {s} (x0 x1 x2) (h : Keeps s x2) : Keeps s (wakeEdge x0 x1 x2) := by
  unfold wakeEdge; try dsimp only
  repeat' first
    | (with_reducible first
      | assumption | apply powerStart_keeps | apply returnToRun_keeps | apply railsOff_keeps | apply beginWake_keeps | apply joinWake_keeps
      | exact Keeps.refl _)
    | fail_if_no_progress with_reducible refine Keeps.upd rfl rfl rfl ?_
    | split

theorem execWake_keeps (x0 x1 x2 x3) : KeepsO (tick x0 x3) (execWake x0 x1 x2 x3) := by
  unfold execWake; try dsimp only
  repeat' first
    | (with_reducible first
      | assumption | apply ok_keeps | apply wakeEdge_keeps | exact Keeps.refl _)
    | fail_if_no_progress with_reducible refine Keeps.upd rfl rfl rfl ?_
    | with_reducible refine Keeps.out ?_
    | split

theorem execWakeTimer_keeps (x0 x1 x2) : KeepsO (tick x0 x2) (execWakeTimer x0 x1 x2) := by
  unfold execWakeTimer; try dsimp only
  repeat' first
    | (with_reducible first
      | assumption | apply guardOk_keeps | apply beginWake_keeps | refine fun _ => ?_ | exact Keeps.refl _)
    | fail_if_no_progress with_reducible refine Keeps.upd rfl rfl rfl ?_
    | with_reducible refine Keeps.out ?_
    | split

theorem evtEdge_keeps {s} (x0 x1 x2 x3 x4) (h : Keeps s x4) : Keeps s (evtEdge x0 x1 x2 x3 x4) := by
  unfold evtEdge; try dsimp only
  repeat' first
    | (with_reducible first
      | assumption | apply State.setEvt_keeps | apply capture_keeps | apply beginWake_keeps | exact Keeps.refl _)
    | fail_if_no_progress with_reducible refine Keeps.upd rfl rfl rfl ?_
    | split

theorem execEvtCapture_keeps (x0 x1 x2 x3 x4 x5) : KeepsO (tick x0 x5) (execEvtCapture x0 x1 x2 x3 x4 x5) := by
  unfold execEvtCapture; try dsimp only
  repeat' first
    | (with_reducible first
      | assumption | apply guardOk_keeps | apply evtEdge_keeps | refine fun _ => ?_ | exact Keeps.refl _)
    | fail_if_no_progress with_reducible refine Keeps.upd rfl rfl rfl ?_
    | with_reducible refine Keeps.out ?_
    | split

theorem execCoreIdleStop_keeps (x0 x1) : KeepsO (tick x0 x1) (execCoreIdleStop x0 x1) := by
  unfold execCoreIdleStop; try dsimp only
  repeat' first
    | (with_reducible first
      | assumption | apply guardOk_keeps | refine fun _ => ?_ | exact Keeps.refl _)
    | fail_if_no_progress with_reducible refine Keeps.upd rfl rfl rfl ?_
    | with_reducible refine Keeps.out ?_
    | split

theorem vsupFault_keeps {s} (x0 x1 x2 x3 x4) (h : Keeps s x4) : Keeps s (vsupFault x0 x1 x2 x3 x4) := by
  unfold vsupFault; try dsimp only
  repeat' first
    | (with_reducible first
      | assumption | apply addFault_keeps | apply powerEvent_keeps | exact Keeps.refl _)
    | fail_if_no_progress with_reducible refine Keeps.upd rfl rfl rfl ?_
    | split

theorem brownout_keeps {s} (x0 x1) (h : Keeps s x1) : Keeps s (brownout x0 x1) := by
  unfold brownout; try dsimp only
  repeat' first
    | (with_reducible first
      | assumption | apply vsupFault_keeps | apply emit_keeps | apply flushConfig_keeps | apply writeLife_keeps | exact Keeps.refl _)
    | fail_if_no_progress with_reducible refine Keeps.upd rfl rfl rfl ?_
    | split

theorem execBrownout_keeps (x0 x1 x2) : KeepsO (tick x0 x2) (execBrownout x0 x1 x2) := by
  unfold execBrownout; try dsimp only
  repeat' first
    | (with_reducible first
      | assumption | apply guardOk_keeps | apply brownout_keeps | refine fun _ => ?_ | exact Keeps.refl _)
    | fail_if_no_progress with_reducible refine Keeps.upd rfl rfl rfl ?_
    | with_reducible refine Keeps.out ?_
    | split

theorem execVsupRecovered_keeps (x0 x1 x2) : KeepsO (tick x0 x2) (execVsupRecovered x0 x1 x2) := by
  unfold execVsupRecovered; try dsimp only
  repeat' first
    | (with_reducible first
      | assumption | apply guardOk_keeps | apply powerEvent_keeps | refine fun _ => ?_ | exact Keeps.refl _)
    | fail_if_no_progress with_reducible refine Keeps.upd rfl rfl rfl ?_
    | with_reducible refine Keeps.out ?_
    | split

theorem supervisorReset_keeps {s} (x0) (h : Keeps s x0) : Keeps s (supervisorReset x0) := by
  unfold supervisorReset; try dsimp only
  repeat' first
    | (with_reducible first
      | assumption | apply railsOff_keeps | apply freshState_keeps | exact Keeps.refl _)
    | fail_if_no_progress with_reducible refine Keeps.upd rfl rfl rfl ?_
    | fail_if_no_progress with_reducible refine Keeps.updi rfl rfl (fun i => by
        cases i; constructor <;> first | assumption | (simp_all [Memory.wf, twf]; done) | (simp_all; omega)) ?_
    | split

theorem execSupervisorReset_keeps (x0 x1) : KeepsO (tick x0 x1) (execSupervisorReset x0 x1) := by
  unfold execSupervisorReset; try dsimp only
  repeat' first
    | (with_reducible first
      | assumption | apply guardOk_keeps | apply supervisorReset_keeps | refine fun _ => ?_ | exact Keeps.refl _)
    | fail_if_no_progress with_reducible refine Keeps.upd rfl rfl rfl ?_
    | with_reducible refine Keeps.out ?_
    | split

theorem execOvervolt_keeps (x0 x1 x2) : KeepsO (tick x0 x2) (execOvervolt x0 x1 x2) := by
  unfold execOvervolt; try dsimp only
  repeat' first
    | (with_reducible first
      | assumption | apply guardOk_keeps | apply vsupFault_keeps | refine fun _ => ?_ | exact Keeps.refl _)
    | fail_if_no_progress with_reducible refine Keeps.upd rfl rfl rfl ?_
    | with_reducible refine Keeps.out ?_
    | split

theorem execVsup3Overload_keeps (x0 x1) : KeepsO (tick x0 x1) (execVsup3Overload x0 x1) := by
  unfold execVsup3Overload; try dsimp only
  repeat' first
    | (with_reducible first
      | assumption | apply guardOk_keeps | apply vsupFault_keeps | refine fun _ => ?_ | exact Keeps.refl _)
    | fail_if_no_progress with_reducible refine Keeps.upd rfl rfl rfl ?_
    | with_reducible refine Keeps.out ?_
    | split

theorem execVsup3LoadRecovered_keeps (x0 x1) : KeepsO (tick x0 x1) (execVsup3LoadRecovered x0 x1) := by
  unfold execVsup3LoadRecovered; try dsimp only
  repeat' first
    | (with_reducible first
      | assumption | apply guardOk_keeps | apply causeGone_keeps | refine fun _ => ?_ | exact Keeps.refl _)
    | fail_if_no_progress with_reducible refine Keeps.upd rfl rfl rfl ?_
    | with_reducible refine Keeps.out ?_
    | split

theorem vsupSample_keeps {s} (x0 x1) (h : Keeps s x1) : Keeps s (vsupSample x0 x1) := by
  unfold vsupSample; try dsimp only
  repeat' first
    | (with_reducible first
      | assumption | exact Keeps.refl _)
    | fail_if_no_progress with_reducible refine Keeps.upd rfl rfl rfl ?_
    | split

theorem execVsupSample_keeps (x0 x1 x2) : KeepsO (tick x0 x2) (execVsupSample x0 x1 x2) := by
  unfold execVsupSample; try dsimp only
  repeat' first
    | (with_reducible first
      | assumption | apply guardOk_keeps | apply vsupSample_keeps | refine fun _ => ?_ | exact Keeps.refl _)
    | fail_if_no_progress with_reducible refine Keeps.upd rfl rfl rfl ?_
    | with_reducible refine Keeps.out ?_
    | split

theorem railTelemetry_keeps {s} (x0 x1) (h : Keeps s x1) : Keeps s (railTelemetry x0 x1) := by
  unfold railTelemetry; try dsimp only
  repeat' first
    | (with_reducible first
      | assumption | refine forAll_keeps (fun _ _ => ?_) ?_ | apply State.setRail_keeps | refine fun _ => ?_ | exact Keeps.refl _)
    | fail_if_no_progress with_reducible refine Keeps.upd rfl rfl rfl ?_
    | split
    | fail_if_no_progress with_reducible dsimp only

theorem execRailTelemetry_keeps (x0 x1 x2) : KeepsO (tick x0 x2) (execRailTelemetry x0 x1 x2) := by
  unfold execRailTelemetry; try dsimp only
  repeat' first
    | (with_reducible first
      | assumption | apply guardOk_keeps | apply railTelemetry_keeps | refine fun _ => ?_ | exact Keeps.refl _)
    | fail_if_no_progress with_reducible refine Keeps.upd rfl rfl rfl ?_
    | with_reducible refine Keeps.out ?_
    | split

theorem endSession_keeps {s} (x0 x1) (h : Keeps s x1) : Keeps s (endSession x0 x1) := by
  unfold endSession; try dsimp only
  repeat' first
    | (with_reducible first
      | assumption | apply pdStop_keeps | apply State.setSess_keeps | exact Keeps.refl _)
    | fail_if_no_progress with_reducible refine Keeps.upd rfl rfl rfl ?_
    | split

theorem endSessions_keeps {s} (x0) (h : Keeps s x0) : Keeps s (endSessions x0) := by
  unfold endSessions; try dsimp only
  repeat' first
    | (with_reducible first
      | assumption | refine forAll_keeps (fun _ _ => ?_) ?_ | apply endSession_keeps | refine fun _ => ?_ | exact Keeps.refl _)
    | fail_if_no_progress with_reducible refine Keeps.upd rfl rfl rfl ?_
    | split
    | fail_if_no_progress with_reducible dsimp only

theorem freeMaster_keeps {s} (x0 x1) (h : Keeps s x1) : Keeps s (freeMaster x0 x1) := by
  unfold freeMaster; try dsimp only
  repeat' first
    | (with_reducible first
      | assumption | apply State.setCamPort_keeps | refine forAll_keeps (fun _ _ => ?_) ?_ | apply sendList_keeps | refine fun _ => ?_
      | exact Keeps.refl _)
    | fail_if_no_progress with_reducible refine Keeps.upd rfl rfl rfl ?_
    | split
    | fail_if_no_progress with_reducible dsimp only

theorem dropOp_keeps {s} (x0 x1) (h : Keeps s x1) : Keeps s (dropOp x0 x1) := by
  unfold dropOp; try dsimp only
  repeat' first
    | (with_reducible first
      | assumption | refine forAll_keeps (fun _ _ => ?_) ?_ | apply freeMaster_keeps | apply State.setLane_keeps | refine fun _ => ?_
      | exact Keeps.refl _)
    | fail_if_no_progress with_reducible refine Keeps.upd rfl rfl rfl ?_
    | split
    | fail_if_no_progress with_reducible dsimp only

theorem cancelHandle_keeps {s} (x0 x1) (h : Keeps s x1) : Keeps s (cancelHandle x0 x1) := by
  unfold cancelHandle; try dsimp only
  repeat' first
    | (with_reducible first
      | assumption | apply completeHandle_keeps | apply dropOp_keeps | exact Keeps.refl _)
    | fail_if_no_progress with_reducible refine Keeps.upd rfl rfl rfl ?_
    | split

theorem freeHandle_keeps {s} (x0 x1) (h : Keeps s x1) : Keeps s (freeHandle x0 x1) := by
  unfold freeHandle; try dsimp only
  repeat' first
    | (with_reducible first
      | assumption | apply State.setHandle_keeps | exact Keeps.refl _)
    | fail_if_no_progress with_reducible refine Keeps.upd rfl rfl rfl ?_
    | split

theorem startHandle_keeps {s} (x0 x1 x2 x3 x4) (h : Keeps s x4) : Keeps s (startHandle x0 x1 x2 x3 x4) := by
  unfold startHandle; try dsimp only
  repeat' first
    | (with_reducible first
      | assumption | apply State.setHandle_keeps | apply State.setSess_keeps | exact Keeps.refl _)
    | fail_if_no_progress with_reducible refine Keeps.upd rfl rfl rfl ?_
    | split

theorem tempShutdown_keeps {s} (x0 x1) (h : Keeps s x1) : Keeps s (tempShutdown x0 x1) := by
  unfold tempShutdown; try dsimp only
  repeat' first
    | (with_reducible first
      | assumption | apply railsOff_keeps | exact Keeps.refl _)
    | fail_if_no_progress with_reducible refine Keeps.upd rfl rfl rfl ?_
    | fail_if_no_progress with_reducible refine Keeps.updi rfl rfl (fun i => by
        cases i; constructor <;> first | assumption | (simp_all [Memory.wf, twf]; done) | (simp_all; omega)) ?_
    | split

theorem judgeTemp_keeps {s} (x0 x1 x2) (h : Keeps s x2) : Keeps s (judgeTemp x0 x1 x2) := by
  unfold judgeTemp; try dsimp only
  repeat' first
    | (with_reducible first
      | assumption | apply raise_keeps | apply lifeEvent_keeps | apply addFault_keeps | apply tempShutdown_keeps | apply causeGone_keeps
      | exact Keeps.refl _)
    | fail_if_no_progress with_reducible refine Keeps.upd rfl rfl rfl ?_
    | split

theorem dieTempStep_keeps {s} (x0 x1 x2 x3) (h : Keeps s x3) : Keeps s (dieTempStep x0 x1 x2 x3) := by
  unfold dieTempStep; try dsimp only
  repeat' first
    | (with_reducible first
      | assumption | refine foldl_keeps (fun _ _ => ?_) ?_ | refine forAll_keeps (fun _ _ => ?_) ?_ | apply judgeTemp_keeps
      | refine fun _ => ?_ | exact Keeps.refl _)
    | fail_if_no_progress with_reducible refine Keeps.upd rfl rfl rfl ?_
    | split
    | fail_if_no_progress with_reducible dsimp only

theorem execDieTemp_keeps (x0 x1 x2 x3 x4) : KeepsO (tick x0 x4) (execDieTemp x0 x1 x2 x3 x4) := by
  unfold execDieTemp; try dsimp only
  repeat' first
    | (with_reducible first
      | assumption | apply guardOk_keeps | apply dieTempStep_keeps | refine fun _ => ?_ | exact Keeps.refl _)
    | fail_if_no_progress with_reducible refine Keeps.upd rfl rfl rfl ?_
    | with_reducible refine Keeps.out ?_
    | split

theorem readback_keeps {s} (x0 x1 x2) (h : Keeps s x2) : Keeps s (readback x0 x1 x2) := by
  unfold readback; try dsimp only
  repeat' first
    | (with_reducible first
      | assumption | apply ev_keeps | apply addFault_keeps | exact Keeps.refl _)
    | fail_if_no_progress with_reducible refine Keeps.upd rfl rfl rfl ?_
    | split

theorem execOutputReadback_keeps (x0 x1 x2 x3) : KeepsO (tick x0 x3) (execOutputReadback x0 x1 x2 x3) := by
  unfold execOutputReadback; try dsimp only
  repeat' first
    | (with_reducible first
      | assumption | apply guardOk_keeps | apply readback_keeps | refine fun _ => ?_ | exact Keeps.refl _)
    | fail_if_no_progress with_reducible refine Keeps.upd rfl rfl rfl ?_
    | with_reducible refine Keeps.out ?_
    | split

theorem agreement_keeps {s} (x0 x1) (h : Keeps s x1) : Keeps s (agreement x0 x1) := by
  unfold agreement; try dsimp only
  repeat' first
    | (with_reducible first
      | assumption | apply causeGone_keeps | exact Keeps.refl _)
    | fail_if_no_progress with_reducible refine Keeps.upd rfl rfl rfl ?_
    | split

theorem execOutputAgreement_keeps (x0 x1 x2) : KeepsO (tick x0 x2) (execOutputAgreement x0 x1 x2) := by
  unfold execOutputAgreement; try dsimp only
  repeat' first
    | (with_reducible first
      | assumption | apply guardOk_keeps | apply agreement_keeps | refine fun _ => ?_ | exact Keeps.refl _)
    | fail_if_no_progress with_reducible refine Keeps.upd rfl rfl rfl ?_
    | with_reducible refine Keeps.out ?_
    | split

theorem refclkLoss_keeps {s} (x0) (h : Keeps s x0) : Keeps s (refclkLoss x0) := by
  unfold refclkLoss; try dsimp only
  repeat' first
    | (with_reducible first
      | assumption | apply dieFault_keeps | exact Keeps.refl _)
    | fail_if_no_progress with_reducible refine Keeps.upd rfl rfl rfl ?_
    | split

theorem execRefclkLoss_keeps (x0 x1) : KeepsO (tick x0 x1) (execRefclkLoss x0 x1) := by
  unfold execRefclkLoss; try dsimp only
  repeat' first
    | (with_reducible first
      | assumption | apply guardOk_keeps | apply refclkLoss_keeps | refine fun _ => ?_ | exact Keeps.refl _)
    | fail_if_no_progress with_reducible refine Keeps.upd rfl rfl rfl ?_
    | with_reducible refine Keeps.out ?_
    | split

theorem setCorePair_keeps {s} (x0 x1 x2) (h : Keeps s x2) : Keeps s (setCorePair x0 x1 x2) := by
  unfold setCorePair; try dsimp only
  repeat' first
    | (with_reducible first
      | assumption | exact Keeps.refl _)
    | fail_if_no_progress with_reducible refine Keeps.upd rfl rfl rfl ?_
    | split

theorem discardMeasured_keeps {s} (x0) (h : Keeps s x0) : Keeps s (discardMeasured x0) := by
  unfold discardMeasured; try dsimp only
  repeat' first
    | (with_reducible first
      | assumption | exact Keeps.refl _)
    | fail_if_no_progress with_reducible refine Keeps.upd rfl rfl rfl ?_
    | split

theorem supervisorUe_keeps {s} (x0 x1) (h : Keeps s x1) : Keeps s (supervisorUe x0 x1) := by
  unfold supervisorUe; try dsimp only
  repeat' first
    | (with_reducible first
      | assumption | apply storeUe_keeps | apply countUe_keeps | apply logWord_keeps | apply ev_keeps | exact Keeps.refl _)
    | fail_if_no_progress with_reducible refine Keeps.upd rfl rfl rfl ?_
    | split

theorem coreFault_keeps {s} (x0 x1 x2 x3) (h : Keeps s x3) : Keeps s (coreFault x0 x1 x2 x3) := by
  unfold coreFault; try dsimp only
  repeat' first
    | (with_reducible first
      | assumption | apply supervisorUe_keeps | apply setCorePair_keeps | apply discardMeasured_keeps | apply endSessions_keeps
      | refine forAll_keeps (fun _ _ => ?_) ?_ | apply completeHandle_keeps | apply dropOp_keeps | apply writeLife_keeps
      | apply addFault_keeps | refine fun _ => ?_ | exact Keeps.refl _)
    | fail_if_no_progress with_reducible refine Keeps.upd rfl rfl rfl ?_
    | split
    | fail_if_no_progress with_reducible dsimp only

theorem execCoreFault_keeps (x0 x1 x2 x3) : KeepsO (tick x0 x3) (execCoreFault x0 x1 x2 x3) := by
  unfold execCoreFault; try dsimp only
  repeat' first
    | (with_reducible first
      | assumption | apply guardOk_keeps | apply coreFault_keeps | refine fun _ => ?_ | exact Keeps.refl _)
    | fail_if_no_progress with_reducible refine Keeps.upd rfl rfl rfl ?_
    | with_reducible refine Keeps.out ?_
    | split

theorem coreRestarted_keeps {s} (x0 x1) (h : Keeps s x1) : Keeps s (coreRestarted x0 x1) := by
  unfold coreRestarted; try dsimp only
  repeat' first
    | (with_reducible first
      | assumption | apply setCorePair_keeps | apply causeGone_keeps | exact Keeps.refl _)
    | fail_if_no_progress with_reducible refine Keeps.upd rfl rfl rfl ?_
    | split

theorem execCoreRestartDone_keeps (x0 x1 x2) : KeepsO (tick x0 x2) (execCoreRestartDone x0 x1 x2) := by
  unfold execCoreRestartDone; try dsimp only
  repeat' first
    | (with_reducible first
      | assumption | apply guardOk_keeps | apply coreRestarted_keeps | refine fun _ => ?_ | exact Keeps.refl _)
    | fail_if_no_progress with_reducible refine Keeps.upd rfl rfl rfl ?_
    | with_reducible refine Keeps.out ?_
    | split

theorem dieFails_keeps {s} (x0 x1) (h : Keeps s x1) : Keeps s (dieFails x0 x1) := by
  unfold dieFails; try dsimp only
  repeat' first
    | (with_reducible first
      | assumption | apply dieFault_keeps | apply supervisorGone_keeps | exact Keeps.refl _)
    | fail_if_no_progress with_reducible refine Keeps.upd rfl rfl rfl ?_
    | fail_if_no_progress with_reducible refine Keeps.updi rfl rfl (fun i => by
        cases i; constructor <;> first | assumption | (simp_all [Memory.wf, twf]; done) | (simp_all; omega)) ?_
    | split

theorem execDieFault_keeps (x0 x1 x2) : KeepsO (tick x0 x2) (execDieFault x0 x1 x2) := by
  unfold execDieFault; try dsimp only
  repeat' first
    | (with_reducible first
      | assumption | apply guardOk_keeps | apply dieFails_keeps | refine fun _ => ?_ | exact Keeps.refl _)
    | fail_if_no_progress with_reducible refine Keeps.upd rfl rfl rfl ?_
    | with_reducible refine Keeps.out ?_
    | split

theorem cciFails_keeps {s} (x0 x1) (h : Keeps s x1) : Keeps s (cciFails x0 x1) := by
  unfold cciFails; try dsimp only
  repeat' first
    | (with_reducible first
      | assumption | refine forAll_keeps (fun _ _ => ?_) ?_ | apply drawFree_keeps | apply failList_keeps | apply completeWord_keeps
      | apply State.setCamPort_keeps | refine fun _ => ?_ | exact Keeps.refl _)
    | fail_if_no_progress with_reducible refine Keeps.upd rfl rfl rfl ?_
    | split
    | fail_if_no_progress with_reducible dsimp only
    | with_reducible refine Keeps.snd (by assumption) ?_
    | with_reducible refine Keeps.snd2 (by assumption) ?_

theorem busStuck_keeps {s} (x0 x1 x2) (h : Keeps s x2) : Keeps s (busStuck x0 x1 x2) := by
  unfold busStuck; try dsimp only
  repeat' first
    | (with_reducible first
      | assumption | apply emit_keeps | apply cciFails_keeps | exact Keeps.refl _)
    | fail_if_no_progress with_reducible refine Keeps.upd rfl rfl rfl ?_
    | split

theorem execCciBusStuck_keeps (x0 x1 x2 x3) : KeepsO (tick x0 x3) (execCciBusStuck x0 x1 x2 x3) := by
  unfold execCciBusStuck; try dsimp only
  repeat' first
    | (with_reducible first
      | assumption | apply guardOk_keeps | apply busStuck_keeps | refine fun _ => ?_ | exact Keeps.refl _)
    | fail_if_no_progress with_reducible refine Keeps.upd rfl rfl rfl ?_
    | with_reducible refine Keeps.out ?_
    | split

theorem pmbAlert_keeps {s} (x0 x1 x2 x3) (h : Keeps s x3) : Keeps s (pmbAlert x0 x1 x2 x3) := by
  unfold pmbAlert; try dsimp only
  repeat' first
    | (with_reducible first
      | assumption | apply railEvent_keeps | apply emit_keeps | apply dieFault_keeps | apply addFault_keeps | exact Keeps.refl _)
    | fail_if_no_progress with_reducible refine Keeps.upd rfl rfl rfl ?_
    | fail_if_no_progress with_reducible refine Keeps.updi rfl rfl (fun i => by
        cases i; constructor <;> first | assumption | (simp_all [Memory.wf, twf]; done) | (simp_all; omega)) ?_
    | split

theorem execPmbAlert_keeps (x0 x1 x2 x3 x4) : KeepsO (tick x0 x4) (execPmbAlert x0 x1 x2 x3 x4) := by
  unfold execPmbAlert; try dsimp only
  repeat' first
    | (with_reducible first
      | assumption | apply guardOk_keeps | apply pmbAlert_keeps | refine fun _ => ?_ | exact Keeps.refl _)
    | fail_if_no_progress with_reducible refine Keeps.upd rfl rfl rfl ?_
    | with_reducible refine Keeps.out ?_
    | split

theorem execJtagInstruction_keeps (x0 x1 x2) : KeepsO (tick x0 x2) (execJtagInstruction x0 x1 x2) := by
  unfold execJtagInstruction; try dsimp only
  repeat' first
    | (with_reducible first
      | assumption | apply guardOk_keeps | refine fun _ => ?_ | exact Keeps.refl _)
    | fail_if_no_progress with_reducible refine Keeps.upd rfl rfl rfl ?_
    | with_reducible refine Keeps.out ?_
    | split

theorem disconnect_keeps {s} (x0 x1 x2) (h : Keeps s x2) : Keeps s (disconnect x0 x1 x2) := by
  unfold disconnect; try dsimp only
  repeat' first
    | (with_reducible first
      | assumption | apply setWirePair_keeps | apply wire50_keeps | exact Keeps.refl _)
    | fail_if_no_progress with_reducible refine Keeps.upd rfl rfl rfl ?_
    | split

theorem execTerminationDisconnect_keeps (x0 x1 x2 x3) : KeepsO (tick x0 x3) (execTerminationDisconnect x0 x1 x2 x3) := by
  unfold execTerminationDisconnect; try dsimp only
  repeat' first
    | (with_reducible first
      | assumption | apply guardOk_keeps | apply disconnect_keeps | refine fun _ => ?_ | exact Keeps.refl _)
    | fail_if_no_progress with_reducible refine Keeps.upd rfl rfl rfl ?_
    | with_reducible refine Keeps.out ?_
    | split

theorem execTerminationReconnect_keeps (x0 x1 x2 x3) : KeepsO (tick x0 x3) (execTerminationReconnect x0 x1 x2 x3) := by
  unfold execTerminationReconnect; try dsimp only
  repeat' first
    | (with_reducible first
      | assumption | apply guardOk_keeps | apply setWirePair_keeps | refine fun _ => ?_ | exact Keeps.refl _)
    | fail_if_no_progress with_reducible refine Keeps.upd rfl rfl rfl ?_
    | with_reducible refine Keeps.out ?_
    | split

end Sys2Proof.Machine
end

