-- ==== Sys2Proof/Laws/KeepsSessions.lean ====
section
/-! SUPPORT. `Keeps` of the operations of sessions, entries, the server and received frames (Sys2Proof/Machine/Judge, Effects, Arrivals, Server, Rx, SessionRows):
one lemma per function that changes the state. -/

namespace Sys2Proof.Machine

theorem overlay_keeps {s} (x0 x1) (h : Keeps s x1) : Keeps s (overlay x0 x1) := by
  unfold overlay; try dsimp only
  repeat' first
    | (with_reducible first
      | assumption | refine foldl_keeps (fun _ _ => ?_) ?_ | apply setCfg_keeps | exact Keeps.refl _)
    | fail_if_no_progress with_reducible refine Keeps.upd rfl rfl rfl ?_
    | split

theorem enableRing_keeps {s} (x0 x1) (h : Keeps s x1) : Keeps s (enableRing x0 x1) := by
  unfold enableRing; try dsimp only
  repeat' first
    | (with_reducible first
      | assumption | apply updateCapacity_keeps | apply State.setRing_keeps | exact Keeps.refl _)
    | fail_if_no_progress with_reducible refine Keeps.upd rfl rfl rfl ?_
    | split

theorem disableRing_keeps {s} (x0 x1) (h : Keeps s x1) : Keeps s (disableRing x0 x1) := by
  unfold disableRing; try dsimp only
  repeat' first
    | (with_reducible first
      | assumption | apply updateCapacity_keeps | apply State.setRing_keeps | exact Keeps.refl _)
    | fail_if_no_progress with_reducible refine Keeps.upd rfl rfl rfl ?_
    | split

theorem releaseTo_keeps {s} (x0 x1 x2) (h : Keeps s x2) : Keeps s (releaseTo x0 x1 x2) := by
  unfold releaseTo; try dsimp only
  repeat' first
    | (with_reducible first
      | assumption | apply releaseWhere_keeps | refine fun _ => ?_ | exact Keeps.refl _)
    | fail_if_no_progress with_reducible refine Keeps.upd rfl rfl rfl ?_
    | split

theorem skipSlabs_keeps {s} (x0 x1) (h : Keeps s x1) : Keeps s (skipSlabs x0 x1) := by
  unfold skipSlabs; try dsimp only
  repeat' first
    | (with_reducible first
      | assumption | exact Keeps.refl _)
    | fail_if_no_progress with_reducible refine Keeps.upd rfl rfl rfl ?_
    | split

theorem loseSlabs_keeps {s} (x0 x1) (h : Keeps s x1) : Keeps s (loseSlabs x0 x1) := by
  unfold loseSlabs; try dsimp only
  repeat' first
    | (with_reducible first
      | assumption | exact Keeps.refl _)
    | fail_if_no_progress with_reducible refine Keeps.upd rfl rfl rfl ?_
    | split

theorem partitionChanged_keeps {s} (x0 x1 x2) (h : Keeps s x2) : Keeps s (partitionChanged x0 x1 x2) := by
  unfold partitionChanged; try dsimp only
  repeat' first
    | (with_reducible first
      | assumption | apply skipSlabs_keeps | apply loseSlabs_keeps | refine fun _ => ?_ | exact Keeps.refl _)
    | fail_if_no_progress with_reducible refine Keeps.upd rfl rfl rfl ?_
    | split

theorem setTraceEnable_keeps {s} (x0 x1 x2) (h : Keeps s x2) : Keeps s (setTraceEnable x0 x1 x2) := by
  unfold setTraceEnable; try dsimp only
  repeat' first
    | (with_reducible first
      | assumption | apply startBringUp_keeps | apply laneDown_keeps | exact Keeps.refl _)
    | fail_if_no_progress with_reducible refine Keeps.upd rfl rfl rfl ?_
    | split

theorem setInk_keeps {s} (x0 x1) (h : Keeps s x1) : Keeps s (setInk x0 x1) := by
  unfold setInk; try dsimp only
  repeat' first
    | (with_reducible first
      | assumption | exact Keeps.refl _)
    | fail_if_no_progress with_reducible refine Keeps.upd rfl rfl rfl ?_
    | split

theorem stopClear_keeps {s} (x0) (h : Keeps s x0) : Keeps s (stopClear x0) := by
  unfold stopClear; try dsimp only
  repeat' first
    | (with_reducible first
      | assumption | exact Keeps.refl _)
    | fail_if_no_progress with_reducible refine Keeps.upd rfl rfl rfl ?_
    | split

theorem clearErrorLog_keeps {s} (x0) (h : Keeps s x0) : Keeps s (clearErrorLog x0) := by
  unfold clearErrorLog; try dsimp only
  repeat' first
    | (with_reducible first
      | assumption | exact Keeps.refl _)
    | fail_if_no_progress with_reducible refine Keeps.upd rfl rfl rfl ?_
    | fail_if_no_progress with_reducible refine Keeps.updi rfl rfl (fun i => by
        cases i; constructor <;> first | assumption | (simp_all [Memory.wf, twf]; done) | (simp_all; omega)) ?_
    | split

theorem clearDefectLog_keeps {s} (x0) (h : Keeps s x0) : Keeps s (clearDefectLog x0) := by
  unfold clearDefectLog; try dsimp only
  repeat' first
    | (with_reducible first
      | assumption | apply mirrorLogs_keeps | exact Keeps.refl _)
    | fail_if_no_progress with_reducible refine Keeps.upd rfl rfl rfl ?_
    | split

theorem popStamps_keeps {s} (x0 x1 x2) (h : Keeps s x2) : Keeps s (popStamps x0 x1 x2) := by
  unfold popStamps; try dsimp only
  repeat' first
    | (with_reducible first
      | assumption | apply State.setPtpPort_keeps | exact Keeps.refl _)
    | fail_if_no_progress with_reducible refine Keeps.upd rfl rfl rfl ?_
    | split

theorem popCaptures_keeps {s} (x0 x1 x2) (h : Keeps s x2) : Keeps s (popCaptures x0 x1 x2) := by
  unfold popCaptures; try dsimp only
  repeat' first
    | (with_reducible first
      | assumption | apply State.setEvt_keeps | exact Keeps.refl _)
    | fail_if_no_progress with_reducible refine Keeps.upd rfl rfl rfl ?_
    | split

theorem reportGroups_keeps {s} (x0 x1 x2) (h : Keeps s x2) : Keeps s (reportGroups x0 x1 x2) := by
  unfold reportGroups; try dsimp only
  repeat' first
    | (with_reducible first
      | assumption | apply emit_keeps | exact Keeps.refl _)
    | fail_if_no_progress with_reducible refine Keeps.upd rfl rfl rfl ?_
    | split

theorem clearFlags_keeps {s} (x0 x1 x2 x3) (h : Keeps s x3) : KeepsQ s (clearFlags x0 x1 x2 x3) := by
  unfold clearFlags; try dsimp only
  repeat' first
    | (with_reducible first
      | assumption | apply State.setChan_keeps | apply State.setRing_keeps | apply State.setPtpPort_keeps | apply State.setEvt_keeps
      | exact Keeps.refl _)
    | fail_if_no_progress with_reducible refine Keeps.upd rfl rfl rfl ?_
    | exact KeepsQ.none
    | with_reducible refine KeepsQ.some ?_
    | split

theorem writeOnly_keeps {s} (x0 x1 x2 x3) (h : Keeps s x3) : KeepsQ s (writeOnly x0 x1 x2 x3) := by
  unfold writeOnly; try dsimp only
  repeat' first
    | (with_reducible first
      | assumption | apply armIndex_keeps | apply presetTo_keeps | apply reenable_keeps | apply reinAbandon_keeps | apply stopClear_keeps
      | apply releaseTo_keeps | apply clearDefectLog_keeps | apply popStamps_keeps | apply popCaptures_keeps | apply clearErrorLog_keeps
      | exact Keeps.refl _)
    | fail_if_no_progress with_reducible refine Keeps.upd rfl rfl rfl ?_
    | exact KeepsQ.none
    | with_reducible refine KeepsQ.some ?_
    | split

theorem writeEffect_keeps {s} (x0 x1 x2 x3 x4 x5) (h : Keeps s x5) : Keeps s (writeEffect x0 x1 x2 x3 x4 x5) := by
  unfold writeEffect; try dsimp only
  repeat' first
    | (with_reducible first
      | assumption | apply setInk_keeps | apply reportGroups_keeps | apply requestSource_keeps | apply setAuxGear_keeps
      | apply limitChanged_keeps | apply enableRing_keeps | apply disableRing_keeps | apply partitionChanged_keeps
      | apply setTraceEnable_keeps | apply lanePower_keeps | apply roleWritten_keeps | apply decidePorts_keeps | exact Keeps.refl _)
    | fail_if_no_progress with_reducible refine Keeps.upd rfl rfl rfl ?_
    | split

theorem applyWrite_keeps {s} (x0 x1 x2 x3 x4) (h : Keeps s x4) : Keeps s (applyWrite x0 x1 x2 x3 x4) := by
  unfold applyWrite; dsimp only
  split
  · exact setCfg_keeps _ _ _ _ _ (clearFlags_keeps _ _ _ _ h _ ‹_›)
  · split
    · exact writeOnly_keeps _ _ _ _ h _ ‹_›
    · exact noteStored_keeps _ _ (writeEffect_keeps _ _ _ _ _ _ (setCfg_keeps _ _ _ _ _ h))

theorem applyEntry_keeps {s} (x0 x1) (h : Keeps s x1) : Keeps s (applyEntry x0 x1) := by
  unfold applyEntry; try dsimp only
  repeat' first
    | (with_reducible first
      | assumption | apply applyWrite_keeps | exact Keeps.refl _)
    | fail_if_no_progress with_reducible refine Keeps.upd rfl rfl rfl ?_
    | split

theorem mirrorWrite_keeps {s} (x0 x1) (h : Keeps s x1) : Keeps s (mirrorWrite x0 x1) := by
  unfold mirrorWrite; try dsimp only
  repeat' first
    | (with_reducible first
      | assumption | apply mirror_keeps | exact Keeps.refl _)
    | fail_if_no_progress with_reducible refine Keeps.upd rfl rfl rfl ?_
    | split

theorem applyEntries_keeps {s} (x0 x1) (h : Keeps s x1) : Keeps s (applyEntries x0 x1) := by
  unfold applyEntries; try dsimp only
  repeat' first
    | (with_reducible first
      | assumption | apply mirrorWrite_keeps | refine forAll_keeps (fun _ _ => ?_) ?_ | apply applyEntry_keeps | refine fun _ => ?_
      | exact Keeps.refl _)
    | fail_if_no_progress with_reducible refine Keeps.upd rfl rfl rfl ?_
    | split
    | fail_if_no_progress with_reducible dsimp only

theorem takeWrites_keeps {s} (x0 x1) (h : Keeps s x1) : Keeps s (takeWrites x0 x1) := by
  unfold takeWrites; try dsimp only
  repeat' first
    | (with_reducible first
      | assumption | refine forAll_keeps (fun _ _ => ?_) ?_ | apply applyWrite_keeps | refine fun _ => ?_ | exact Keeps.refl _)
    | fail_if_no_progress with_reducible refine Keeps.upd rfl rfl rfl ?_
    | split
    | fail_if_no_progress with_reducible dsimp only

theorem execWriteRecord_keeps (x0 x1 x2 x3) : KeepsO (tick x0 x3) (execWriteRecord x0 x1 x2 x3) := by
  unfold execWriteRecord; try dsimp only
  repeat' first
    | (with_reducible first
      | assumption | apply recordOk_keeps | apply takeWrites_keeps | refine fun _ => ?_ | exact Keeps.refl _)
    | fail_if_no_progress with_reducible refine Keeps.upd rfl rfl rfl ?_
    | with_reducible refine Keeps.out ?_
    | split

theorem noteRequest_keeps {s} (x0 x1) (h : Keeps s x1) : Keeps s (noteRequest x0 x1) := by
  unfold noteRequest; try dsimp only
  repeat' first
    | (with_reducible first
      | assumption | exact Keeps.refl _)
    | fail_if_no_progress with_reducible refine Keeps.upd rfl rfl rfl ?_
    | split

theorem arbitrate_keeps {s} (x0 x1 x2 x3 x4) (h : Keeps s x4) : Keeps s (arbitrate x0 x1 x2 x3 x4).2 := by
  unfold arbitrate; try dsimp only
  repeat' first
    | (with_reducible first
      | assumption | apply noteRequest_keeps | exact Keeps.refl _)
    | fail_if_no_progress with_reducible refine Keeps.upd rfl rfl rfl ?_
    | split

theorem frameIn_keeps {s} (x0 x1) (h : Keeps s x1) : Keeps s (frameIn x0 x1) := by
  unfold frameIn; try dsimp only
  repeat' first
    | (with_reducible first
      | assumption | apply countPort_keeps | exact Keeps.refl _)
    | fail_if_no_progress with_reducible refine Keeps.upd rfl rfl rfl ?_
    | split

theorem commFlag_keeps {s} (x0 x1) (h : Keeps s x1) : Keeps s (commFlag x0 x1) := by
  unfold commFlag; try dsimp only
  repeat' first
    | (with_reducible first
      | assumption | exact Keeps.refl _)
    | fail_if_no_progress with_reducible refine Keeps.upd rfl rfl rfl ?_
    | split

theorem Answer.after_keeps {s} (x0 x1) (h : Keeps s x1) (k0 : AKeeps s x0) : Keeps s (Answer.after x0 x1) := by
  unfold Answer.after; try dsimp only
  repeat' first
    | (with_reducible first
      | assumption | apply AKeeps.after (by assumption) | apply AKeeps.state (by assumption) | refine fun _ => ?_ | exact Keeps.refl _)
    | fail_if_no_progress with_reducible refine Keeps.upd rfl rfl rfl ?_
    | split

theorem refuse_keeps {s} (x0 x1 x2) (h : Keeps s x2) : AKeeps s (refuse x0 x1 x2) := AKeeps.plain h

theorem reply_keeps {s} (x0 x1 x2 x3 x4) (h : Keeps s x4) : Keeps s (reply x0 x1 x2 x3 x4) := by
  unfold reply; try dsimp only
  repeat' first
    | (with_reducible first
      | assumption | apply sendResponse_keeps | exact Keeps.refl _)
    | fail_if_no_progress with_reducible refine Keeps.upd rfl rfl rfl ?_
    | split

theorem settle_keeps {s} (x0 x1 x2 x3) (k3 : AKeeps s x3) : Keeps s (settle x0 x1 x2 x3) := by
  unfold settle
  refine k3.after _ ?_
  split
  · exact reply_keeps _ _ _ _ _ k3.state
  · exact k3.state

theorem wakeForJob_keeps {s} (x0 x1) (h : Keeps s x1) : Keeps s (wakeForJob x0 x1) := by
  unfold wakeForJob; try dsimp only
  repeat' first
    | (with_reducible first
      | assumption | apply returnToRun_keeps | exact Keeps.refl _)
    | fail_if_no_progress with_reducible refine Keeps.upd rfl rfl rfl ?_
    | split

theorem runCommit_keeps {s} (x0 x1 x2 x3 x4) (h : Keeps s x4) : AKeeps s (runCommit x0 x1 x2 x3 x4) := by
  unfold runCommit; try dsimp only
  repeat' first
    | (with_reducible first
      | assumption | apply wakeForJob_keeps | apply refuse_keeps | apply id_keeps | apply acceptCommit_keeps | apply State.setSess_keeps
      | refine fun _ => ?_ | exact Keeps.refl _)
    | fail_if_no_progress with_reducible refine Keeps.upd rfl rfl rfl ?_
    | split
    | with_reducible refine AKeeps.plain ?_
    | with_reducible refine AKeeps.mk' ?_ ?_

theorem runHeld_keeps {s} (x0 x1) (h : Keeps s x1) : Keeps s (runHeld x0 x1) := by
  unfold runHeld; try dsimp only
  repeat' first
    | (with_reducible first
      | assumption | apply settle_keeps | apply runCommit_keeps | exact Keeps.refl _)
    | fail_if_no_progress with_reducible refine Keeps.upd rfl rfl rfl ?_
    | split

theorem flushHeld_keeps {s} (x0 x1) (h : Keeps s x1) : Keeps s (flushHeld x0 x1) := by
  unfold flushHeld; try dsimp only
  repeat' first
    | (with_reducible first
      | assumption | refine foldl_keeps (fun _ _ => ?_) ?_ | refine forAll_keeps (fun _ _ => ?_) ?_ | apply runHeld_keeps
      | refine fun _ => ?_ | exact Keeps.refl _)
    | fail_if_no_progress with_reducible refine Keeps.upd rfl rfl rfl ?_
    | split
    | fail_if_no_progress with_reducible dsimp only

theorem flushReady_keeps {s} (x0) (h : Keeps s x0) : Keeps s (flushReady x0) := by
  unfold flushReady; try dsimp only
  repeat' first
    | (with_reducible first
      | assumption | apply flushHeld_keeps | refine fun _ => ?_ | exact Keeps.refl _)
    | fail_if_no_progress with_reducible refine Keeps.upd rfl rfl rfl ?_
    | split

theorem noteSeq_keeps {s} (x0 x1 x2) (h : Keeps s x2) : Keeps s (noteSeq x0 x1 x2) := by
  unfold noteSeq; try dsimp only
  repeat' first
    | (with_reducible first
      | assumption | apply State.setSess_keeps | exact Keeps.refl _)
    | fail_if_no_progress with_reducible refine Keeps.upd rfl rfl rfl ?_
    | split

theorem serveRequest_keeps {s} (x0 x1 x2 x3 x4 x5) (h : Keeps s x5) (k4 : ∀ b0 u, Keeps s u → AKeeps s (x4 b0 u)) : Keeps s (serveRequest x0 x1 x2 x3 x4 x5) := by
  unfold serveRequest; try dsimp only
  repeat' first
    | (with_reducible first
      | assumption | apply flushHeld_keeps | apply noteSeq_keeps | apply refuse_keeps | apply settle_keeps | apply k4 | refine fun _ => ?_
      | exact Keeps.refl _)
    | fail_if_no_progress with_reducible refine Keeps.upd rfl rfl rfl ?_
    | split

theorem sessionMessage_keeps {s} (x0 x1 x2 x3 x4 x5) (h : Keeps s x5) (k4 : ∀ b0 u, Keeps s u → AKeeps s (x4 b0 u)) : Keeps s (sessionMessage x0 x1 x2 x3 x4 x5) := by
  unfold sessionMessage; try dsimp only
  repeat' first
    | (with_reducible first
      | assumption | apply State.setSess_keeps | apply commFlag_keeps | apply emit_keeps | apply serveRequest_keeps | apply k4
      | refine fun _ => ?_ | exact Keeps.refl _)
    | fail_if_no_progress with_reducible refine Keeps.upd rfl rfl rfl ?_
    | split

theorem strayRequest_keeps {s} (x0 x1 x2) (h : Keeps s x2) : Keeps s (strayRequest x0 x1 x2) := by
  unfold strayRequest; try dsimp only
  repeat' first
    | (with_reducible first
      | assumption | apply emit_keeps | apply commFlag_keeps | exact Keeps.refl _)
    | fail_if_no_progress with_reducible refine Keeps.upd rfl rfl rfl ?_
    | split

theorem request_keeps (x0 x1 x2 x3 x4 x5) (k3 : ∀ b0 u, Keeps (tick x0 x4) u → AKeeps (tick x0 x4) (x3 b0 u)) : Keeps (tick x0 x4) (request x0 x1 x2 x3 x4 x5) := by
  unfold request; try dsimp only
  repeat' first
    | (with_reducible first
      | assumption | apply frameIn_keeps | apply sessionMessage_keeps | apply strayRequest_keeps | apply k3 | refine fun _ => ?_
      | exact Keeps.refl _)
    | fail_if_no_progress with_reducible refine Keeps.upd rfl rfl rfl ?_
    | split

theorem needsRole_keeps {s} (x0 x1 x2 x3 x4) (h : Keeps s x4) (k2 : ∀ b0 u, Keeps s u → AKeeps s (x2 b0 u)) : AKeeps s (needsRole x0 x1 x2 x3 x4) := by
  unfold needsRole; try dsimp only
  repeat' first
    | (with_reducible first
      | assumption | apply refuse_keeps | apply k2 | refine fun _ => ?_ | exact Keeps.refl _)
    | fail_if_no_progress with_reducible refine Keeps.upd rfl rfl rfl ?_
    | split
    | with_reducible refine AKeeps.plain ?_
    | with_reducible refine AKeeps.mk' ?_ ?_

theorem heard_keeps {s} (x0 x1) (h : Keeps s x1) : Keeps s (heard x0 x1) := by
  unfold heard; try dsimp only
  repeat' first
    | (with_reducible first
      | assumption | apply State.setSess_keeps | exact Keeps.refl _)
    | fail_if_no_progress with_reducible refine Keeps.upd rfl rfl rfl ?_
    | split

theorem discardMessage_keeps {s} (x0 x1) (h : Keeps s x1) : Keeps s (discardMessage x0 x1) := by
  unfold discardMessage; try dsimp only
  repeat' first
    | (with_reducible first
      | assumption | apply commFlag_keeps | apply strayRequest_keeps | apply sessionMessage_keeps | apply refuse_keeps | apply heard_keeps
      | refine fun _ => ?_ | exact Keeps.refl _)
    | fail_if_no_progress with_reducible refine Keeps.upd rfl rfl rfl ?_
    | split

theorem discardFrame_keeps {s} (x0 x1) (h : Keeps s x1) : Keeps s (discardFrame x0 x1) := by
  unfold discardFrame; try dsimp only
  repeat' first
    | (with_reducible first
      | assumption | apply countPort_keeps | apply commFlag_keeps | apply discardMessage_keeps | apply frameIn_keeps | exact Keeps.refl _)
    | fail_if_no_progress with_reducible refine Keeps.upd rfl rfl rfl ?_
    | split

theorem countCodewords_keeps {s} (x0 x1 x2) (h : Keeps s x2) : Keeps s (countCodewords x0 x1 x2) := by
  unfold countCodewords; try dsimp only
  repeat' first
    | (with_reducible first
      | assumption | apply State.setPort_keeps | exact Keeps.refl _)
    | fail_if_no_progress with_reducible refine Keeps.upd rfl rfl rfl ?_
    | split

theorem execFrameDiscard_keeps (x0 x1 x2 x3) : KeepsO (tick x0 x3) (execFrameDiscard x0 x1 x2 x3) := by
  unfold execFrameDiscard; try dsimp only
  repeat' first
    | (with_reducible first
      | assumption | apply guardOk_keeps | apply discardFrame_keeps | apply countCodewords_keeps | refine fun _ => ?_ | exact Keeps.refl _)
    | fail_if_no_progress with_reducible refine Keeps.upd rfl rfl rfl ?_
    | with_reducible refine Keeps.out ?_
    | split

theorem execProtocolQuery_keeps (x0 x1 x2 x3) : KeepsO (tick x0 x3) (execProtocolQuery x0 x1 x2 x3) := by
  unfold execProtocolQuery; try dsimp only
  repeat' first
    | (with_reducible first
      | assumption | apply guardOk_keeps | apply countPort_keeps | apply emit_keeps | refine fun _ => ?_ | exact Keeps.refl _)
    | fail_if_no_progress with_reducible refine Keeps.upd rfl rfl rfl ?_
    | with_reducible refine Keeps.out ?_
    | split

theorem runClaim_keeps {s} (x0 x1 x2 x3 x4) (h : Keeps s x4) : AKeeps s (runClaim x0 x1 x2 x3 x4) := by
  unfold runClaim; try dsimp only
  repeat' first
    | (with_reducible first
      | assumption | apply refuse_keeps | apply id_keeps | refine fun _ => ?_ | exact Keeps.refl _)
    | fail_if_no_progress with_reducible refine Keeps.upd rfl rfl rfl ?_
    | split
    | with_reducible refine AKeeps.plain ?_
    | with_reducible refine AKeeps.mk' ?_ ?_

theorem execClaim_keeps (x0 x1 x2 x3 x4 x5) : KeepsO (tick x0 x5) (execClaim x0 x1 x2 x3 x4 x5) := by
  unfold execClaim; try dsimp only
  repeat' first
    | (with_reducible first
      | assumption | apply ok_keeps | apply request_keeps | apply runClaim_keeps | refine fun _ => ?_ | exact Keeps.refl _)
    | fail_if_no_progress with_reducible refine Keeps.upd rfl rfl rfl ?_
    | with_reducible refine Keeps.out ?_
    | split

theorem runRelease_keeps {s} (x0 x1 x2) (h : Keeps s x2) : AKeeps s (runRelease x0 x1 x2) := by
  unfold runRelease; try dsimp only
  repeat' first
    | (with_reducible first
      | assumption | apply refuse_keeps | apply id_keeps | refine fun _ => ?_ | exact Keeps.refl _)
    | fail_if_no_progress with_reducible refine Keeps.upd rfl rfl rfl ?_
    | split
    | with_reducible refine AKeeps.plain ?_
    | with_reducible refine AKeeps.mk' ?_ ?_

theorem execRelease_keeps (x0 x1 x2 x3) : KeepsO (tick x0 x3) (execRelease x0 x1 x2 x3) := by
  unfold execRelease; try dsimp only
  repeat' first
    | (with_reducible first
      | assumption | apply ok_keeps | apply request_keeps | apply runRelease_keeps | refine fun _ => ?_ | exact Keeps.refl _)
    | fail_if_no_progress with_reducible refine Keeps.upd rfl rfl rfl ?_
    | with_reducible refine Keeps.out ?_
    | split

theorem execClaimLeaseExpiry_keeps (x0 x1 x2) : KeepsO (tick x0 x2) (execClaimLeaseExpiry x0 x1 x2) := by
  unfold execClaimLeaseExpiry; try dsimp only
  repeat' first
    | (with_reducible first
      | assumption | apply ok_keeps | exact Keeps.refl _)
    | fail_if_no_progress with_reducible refine Keeps.upd rfl rfl rfl ?_
    | with_reducible refine Keeps.out ?_
    | split

theorem runSubscribe_keeps {s} (x0 x1 x2 x3) (h : Keeps s x3) : AKeeps s (runSubscribe x0 x1 x2 x3) := by
  unfold runSubscribe; try dsimp only
  repeat' first
    | (with_reducible first
      | assumption | apply refuse_keeps | apply State.setSess_keeps | apply id_keeps | refine fun _ => ?_ | exact Keeps.refl _)
    | fail_if_no_progress with_reducible refine Keeps.upd rfl rfl rfl ?_
    | split
    | with_reducible refine AKeeps.plain ?_
    | with_reducible refine AKeeps.mk' ?_ ?_

theorem execSubscribe_keeps (x0 x1 x2 x3 x4) : KeepsO (tick x0 x4) (execSubscribe x0 x1 x2 x3 x4) := by
  unfold execSubscribe; try dsimp only
  repeat' first
    | (with_reducible first
      | assumption | apply ok_keeps | apply request_keeps | apply runSubscribe_keeps | refine fun _ => ?_ | exact Keeps.refl _)
    | fail_if_no_progress with_reducible refine Keeps.upd rfl rfl rfl ?_
    | with_reducible refine Keeps.out ?_
    | split

theorem runUnsubscribe_keeps {s} (x0 x1) (h : Keeps s x1) : AKeeps s (runUnsubscribe x0 x1) := by
  unfold runUnsubscribe; try dsimp only
  repeat' first
    | (with_reducible first
      | assumption | apply State.setSess_keeps | apply id_keeps | refine fun _ => ?_ | exact Keeps.refl _)
    | fail_if_no_progress with_reducible refine Keeps.upd rfl rfl rfl ?_
    | split
    | with_reducible refine AKeeps.plain ?_
    | with_reducible refine AKeeps.mk' ?_ ?_

theorem execUnsubscribe_keeps (x0 x1 x2) : KeepsO (tick x0 x2) (execUnsubscribe x0 x1 x2) := by
  unfold execUnsubscribe; try dsimp only
  repeat' first
    | (with_reducible first
      | assumption | apply ok_keeps | apply request_keeps | apply runUnsubscribe_keeps | refine fun _ => ?_ | exact Keeps.refl _)
    | fail_if_no_progress with_reducible refine Keeps.upd rfl rfl rfl ?_
    | with_reducible refine Keeps.out ?_
    | split

theorem resumePush_keeps {s} (x0 x1) (h : Keeps s x1) : Keeps s (resumePush x0 x1) := by
  unfold resumePush; try dsimp only
  repeat' first
    | (with_reducible first
      | assumption | apply pushQueue_keeps | apply State.setSess_keeps | exact Keeps.refl _)
    | fail_if_no_progress with_reducible refine Keeps.upd rfl rfl rfl ?_
    | split

theorem freeAcked_keeps {s} (x0 x1) (h : Keeps s x1) : Keeps s (freeAcked x0 x1) := by
  unfold freeAcked; try dsimp only
  repeat' first
    | (with_reducible first
      | assumption | apply freeHandle_keeps | exact Keeps.refl _)
    | fail_if_no_progress with_reducible refine Keeps.upd rfl rfl rfl ?_
    | split

theorem ackEvents_keeps {s} (x0 x1 x2) (h : Keeps s x2) : Keeps s (ackEvents x0 x1 x2) := by
  unfold ackEvents; try dsimp only
  repeat' first
    | (with_reducible first
      | assumption | refine forAll_keeps (fun _ _ => ?_) ?_ | apply freeAcked_keeps | apply resumePush_keeps | apply State.setSess_keeps
      | refine fun _ => ?_ | exact Keeps.refl _)
    | fail_if_no_progress with_reducible refine Keeps.upd rfl rfl rfl ?_
    | split
    | fail_if_no_progress with_reducible dsimp only

theorem execEventAck_keeps (x0 x1 x2 x3) : KeepsO (tick x0 x3) (execEventAck x0 x1 x2 x3) := by
  unfold execEventAck; try dsimp only
  repeat' first
    | (with_reducible first
      | assumption | apply ok_keeps | apply request_keeps | apply ackEvents_keeps | apply id_keeps | refine fun _ => ?_ | exact Keeps.refl _)
    | fail_if_no_progress with_reducible refine Keeps.upd rfl rfl rfl ?_
    | with_reducible refine Keeps.out ?_
    | split
    | with_reducible refine AKeeps.plain ?_
    | with_reducible refine AKeeps.mk' ?_ ?_

theorem execKeepalive_keeps (x0 x1 x2) : KeepsO (tick x0 x2) (execKeepalive x0 x1 x2) := by
  unfold execKeepalive; try dsimp only
  repeat' first
    | (with_reducible first
      | assumption | apply ok_keeps | apply request_keeps | apply resumePush_keeps | refine fun _ => ?_ | exact Keeps.refl _)
    | fail_if_no_progress with_reducible refine Keeps.upd rfl rfl rfl ?_
    | with_reducible refine Keeps.out ?_
    | split
    | with_reducible refine AKeeps.plain ?_
    | with_reducible refine AKeeps.mk' ?_ ?_

theorem resendEvents_keeps {s} (x0 x1 x2) (h : Keeps s x2) : Keeps s (resendEvents x0 x1 x2) := by
  unfold resendEvents; try dsimp only
  repeat' first
    | (with_reducible first
      | assumption | apply State.setSess_keeps | refine foldl_keeps (fun _ _ => ?_) ?_ | refine forAll_keeps (fun _ _ => ?_) ?_
      | apply emit_keeps | refine fun _ => ?_ | exact Keeps.refl _)
    | fail_if_no_progress with_reducible refine Keeps.upd rfl rfl rfl ?_
    | split
    | fail_if_no_progress with_reducible dsimp only

theorem execEventResend_keeps (x0 x1 x2) : KeepsO (tick x0 x2) (execEventResend x0 x1 x2) := by
  unfold execEventResend; try dsimp only
  repeat' first
    | (with_reducible first
      | assumption | apply ok_keeps | apply guardOk_keeps | apply resendEvents_keeps | refine fun _ => ?_ | exact Keeps.refl _)
    | fail_if_no_progress with_reducible refine Keeps.upd rfl rfl rfl ?_
    | with_reducible refine Keeps.out ?_
    | split

theorem openSession_keeps {s} (x0 x1 x2 x3 x4 x5 x6 x7) (h : Keeps s x7) : Keeps s (openSession x0 x1 x2 x3 x4 x5 x6 x7) := by
  unfold openSession; try dsimp only
  repeat' first
    | (with_reducible first
      | assumption | apply emit_keeps | apply State.setSess_keeps | exact Keeps.refl _)
    | fail_if_no_progress with_reducible refine Keeps.upd rfl rfl rfl ?_
    | split

theorem execOpen1_keeps (x0 x1 x2 x3 x4 x5 x6 x7 x8) : KeepsO (tick x0 x8) (execOpen1 x0 x1 x2 x3 x4 x5 x6 x7 x8) := by
  unfold execOpen1; try dsimp only
  repeat' first
    | (with_reducible first
      | assumption | apply guardOk_keeps | apply openSession_keeps | apply frameIn_keeps | refine fun _ => ?_ | exact Keeps.refl _)
    | fail_if_no_progress with_reducible refine Keeps.upd rfl rfl rfl ?_
    | with_reducible refine Keeps.out ?_
    | split

theorem enrol_keeps {s} (x0 x1 x2) (h : Keeps s x2) : Keeps s (enrol x0 x1 x2) := by
  unfold enrol; try dsimp only
  repeat' first
    | (with_reducible first
      | assumption | apply noteStored_keeps | apply setCfg_keeps | exact Keeps.refl _)
    | fail_if_no_progress with_reducible refine Keeps.upd rfl rfl rfl ?_
    | split

theorem finishOpen_keeps {s} (x0 x1 x2 x3 x4) (h : Keeps s x4) : Keeps s (finishOpen x0 x1 x2 x3 x4) := by
  unfold finishOpen; try dsimp only
  repeat' first
    | (with_reducible first
      | assumption | apply enrol_keeps | apply emit_keeps | apply State.setSess_keeps | exact Keeps.refl _)
    | fail_if_no_progress with_reducible refine Keeps.upd rfl rfl rfl ?_
    | split

theorem execOpen3_keeps (x0 x1 x2 x3 x4) : KeepsO (tick x0 x4) (execOpen3 x0 x1 x2 x3 x4) := by
  unfold execOpen3; try dsimp only
  repeat' first
    | (with_reducible first
      | assumption | apply guardOk_keeps | apply commFlag_keeps | apply frameIn_keeps | apply finishOpen_keeps | apply ok_keeps
      | apply request_keeps | apply refuse_keeps | refine fun _ => ?_ | exact Keeps.refl _)
    | fail_if_no_progress with_reducible refine Keeps.upd rfl rfl rfl ?_
    | with_reducible refine Keeps.out ?_
    | split

theorem execOpenTimeout_keeps (x0 x1 x2) : KeepsO (tick x0 x2) (execOpenTimeout x0 x1 x2) := by
  unfold execOpenTimeout; try dsimp only
  repeat' first
    | (with_reducible first
      | assumption | apply guardOk_keeps | apply State.setSess_keeps | refine fun _ => ?_ | exact Keeps.refl _)
    | fail_if_no_progress with_reducible refine Keeps.upd rfl rfl rfl ?_
    | with_reducible refine Keeps.out ?_
    | split

theorem execEnrolWindowEnd_keeps (x0 x1) : KeepsO (tick x0 x1) (execEnrolWindowEnd x0 x1) := by
  unfold execEnrolWindowEnd; try dsimp only
  repeat' first
    | (with_reducible first
      | assumption | apply guardOk_keeps | refine fun _ => ?_ | exact Keeps.refl _)
    | fail_if_no_progress with_reducible refine Keeps.upd rfl rfl rfl ?_
    | with_reducible refine Keeps.out ?_
    | split

theorem execSessionClose_keeps (x0 x1 x2) : KeepsO (tick x0 x2) (execSessionClose x0 x1 x2) := by
  unfold execSessionClose; try dsimp only
  repeat' first
    | (with_reducible first
      | assumption | apply ok_keeps | apply request_keeps | apply endSession_keeps | refine fun _ => ?_ | exact Keeps.refl _)
    | fail_if_no_progress with_reducible refine Keeps.upd rfl rfl rfl ?_
    | with_reducible refine Keeps.out ?_
    | split
    | with_reducible refine AKeeps.plain ?_
    | with_reducible refine AKeeps.mk' ?_ ?_

theorem expireSession_keeps {s} (x0 x1) (h : Keeps s x1) : Keeps s (expireSession x0 x1) := by
  unfold expireSession; try dsimp only
  repeat' first
    | (with_reducible first
      | assumption | apply endSession_keeps | exact Keeps.refl _)
    | fail_if_no_progress with_reducible refine Keeps.upd rfl rfl rfl ?_
    | split

theorem execSessionTimeout_keeps (x0 x1 x2) : KeepsO (tick x0 x2) (execSessionTimeout x0 x1 x2) := by
  unfold execSessionTimeout; try dsimp only
  repeat' first
    | (with_reducible first
      | assumption | apply guardOk_keeps | apply expireSession_keeps | refine fun _ => ?_ | exact Keeps.refl _)
    | fail_if_no_progress with_reducible refine Keeps.upd rfl rfl rfl ?_
    | with_reducible refine Keeps.out ?_
    | split

theorem voidStripe_keeps {s} (x0 x1) (h : Keeps s x1) : Keeps s (voidStripe x0 x1) := by
  unfold voidStripe; try dsimp only
  repeat' first
    | (with_reducible first
      | assumption | apply writeUnits_keeps | exact Keeps.refl _)
    | fail_if_no_progress with_reducible refine Keeps.upd rfl rfl rfl ?_
    | split

theorem cancelOp_keeps {s} (x0 x1) (h : Keeps s x1) : Keeps s (cancelOp x0 x1) := by
  unfold cancelOp; try dsimp only
  repeat' first
    | (with_reducible first
      | assumption | apply cancelHandle_keeps | apply voidStripe_keeps | exact Keeps.refl _)
    | fail_if_no_progress with_reducible refine Keeps.upd rfl rfl rfl ?_
    | split

theorem runCancel_keeps {s} (x0 x1 x2) (h : Keeps s x2) : AKeeps s (runCancel x0 x1 x2) := by
  unfold runCancel; try dsimp only
  repeat' first
    | (with_reducible first
      | assumption | apply refuse_keeps | apply cancelOp_keeps | refine fun _ => ?_ | exact Keeps.refl _)
    | fail_if_no_progress with_reducible refine Keeps.upd rfl rfl rfl ?_
    | split
    | with_reducible refine AKeeps.plain ?_
    | with_reducible refine AKeeps.mk' ?_ ?_

theorem execCmdCancel_keeps (x0 x1 x2 x3) : KeepsO (tick x0 x3) (execCmdCancel x0 x1 x2 x3) := by
  unfold execCmdCancel; try dsimp only
  repeat' first
    | (with_reducible first
      | assumption | apply ok_keeps | apply request_keeps | apply runCancel_keeps | refine fun _ => ?_ | exact Keeps.refl _)
    | fail_if_no_progress with_reducible refine Keeps.upd rfl rfl rfl ?_
    | with_reducible refine Keeps.out ?_
    | split

theorem execHandleExpiry_keeps (x0 x1 x2) : KeepsO (tick x0 x2) (execHandleExpiry x0 x1 x2) := by
  unfold execHandleExpiry; try dsimp only
  repeat' first
    | (with_reducible first
      | assumption | apply guardOk_keeps | apply freeHandle_keeps | refine fun _ => ?_ | exact Keeps.refl _)
    | fail_if_no_progress with_reducible refine Keeps.upd rfl rfl rfl ?_
    | with_reducible refine Keeps.out ?_
    | split

theorem discoverReply_keeps {s} (x0 x1) (h : Keeps s x1) : Keeps s (discoverReply x0 x1) := by
  unfold discoverReply; try dsimp only
  repeat' first
    | (with_reducible first
      | assumption | apply emit_keeps | exact Keeps.refl _)
    | fail_if_no_progress with_reducible refine Keeps.upd rfl rfl rfl ?_
    | split

theorem execDiscover_keeps (x0 x1 x2) : KeepsO (tick x0 x2) (execDiscover x0 x1 x2) := by
  unfold execDiscover; try dsimp only
  repeat' first
    | (with_reducible first
      | assumption | apply guardOk_keeps | apply frameIn_keeps | refine fun _ => ?_ | exact Keeps.refl _)
    | fail_if_no_progress with_reducible refine Keeps.upd rfl rfl rfl ?_
    | with_reducible refine Keeps.out ?_
    | split

theorem execDiscoverReply_keeps (x0 x1) : KeepsO (tick x0 x1) (execDiscoverReply x0 x1) := by
  unfold execDiscoverReply; try dsimp only
  repeat' first
    | (with_reducible first
      | assumption | apply ok_keeps | apply guardOk_keeps | apply discoverReply_keeps | refine fun _ => ?_ | exact Keeps.refl _)
    | fail_if_no_progress with_reducible refine Keeps.upd rfl rfl rfl ?_
    | with_reducible refine Keeps.out ?_
    | split

theorem execUnknownOpcode_keeps (x0 x1 x2 x3) : KeepsO (tick x0 x3) (execUnknownOpcode x0 x1 x2 x3) := by
  unfold execUnknownOpcode; try dsimp only
  repeat' first
    | (with_reducible first
      | assumption | apply ok_keeps | apply request_keeps | apply refuse_keeps | refine fun _ => ?_ | exact Keeps.refl _)
    | fail_if_no_progress with_reducible refine Keeps.upd rfl rfl rfl ?_
    | with_reducible refine Keeps.out ?_
    | split

end Sys2Proof.Machine
end

