-- ==== Sys2Proof/Laws/KeepsCommands.lean ====
section
/-! SUPPORT. `Keeps` of the operations of device commands, requests and completions (Sys2Proof/Machine/Commands, Requests, TableCommands, DeviceCommands, Completion):
one lemma per function that changes the state. -/

namespace Sys2Proof.Machine

theorem Command.begin_keeps {s} (x0 x1 x2) (h : Keeps s x2) (k0 : CKeeps s x0) : Keeps s (Command.begin x0 x1 x2) := by
  unfold Command.begin; try dsimp only
  repeat' first
    | (with_reducible first
      | assumption | apply CKeeps.begin (by assumption) | apply CKeeps.after (by assumption) | refine fun _ => ?_ | exact Keeps.refl _)
    | fail_if_no_progress with_reducible refine Keeps.upd rfl rfl rfl ?_
    | split

theorem Command.after_keeps {s} (x0 x1 x2) (h : Keeps s x2) (k0 : CKeeps s x0) : Keeps s (Command.after x0 x1 x2) := by
  unfold Command.after; try dsimp only
  repeat' first
    | (with_reducible first
      | assumption | apply CKeeps.begin (by assumption) | apply CKeeps.after (by assumption) | refine fun _ => ?_ | exact Keeps.refl _)
    | fail_if_no_progress with_reducible refine Keeps.upd rfl rfl rfl ?_
    | split

theorem runCommand_keeps {s} (x0 x1 x2) (h : Keeps s x2) (k0 : CKeeps s x0) : AKeeps s (runCommand x0 x1 x2) := by
  unfold runCommand; try dsimp only
  repeat' first
    | (with_reducible first
      | assumption | apply refuse_keeps | apply Command.begin_keeps | apply startHandle_keeps | apply Command.after_keeps
      | apply CKeeps.begin (by assumption) | apply CKeeps.after (by assumption) | refine fun _ => ?_ | exact Keeps.refl _)
    | fail_if_no_progress with_reducible refine Keeps.upd rfl rfl rfl ?_
    | split
    | with_reducible refine AKeeps.plain ?_
    | with_reducible refine AKeeps.mk' ?_ ?_

theorem command_keeps (x0 x1 x2 x3 x4) (k2 : CKeeps (tick x0 x3) x2) : KeepsO (tick x0 x3) (command x0 x1 x2 x3 x4) := by
  unfold command; try dsimp only
  repeat' first
    | (with_reducible first
      | assumption | apply ok_keeps | apply request_keeps | apply runCommand_keeps | apply CKeeps.begin (by assumption)
      | apply CKeeps.after (by assumption) | refine fun _ => ?_ | exact Keeps.refl _)
    | fail_if_no_progress with_reducible refine Keeps.upd rfl rfl rfl ?_
    | with_reducible refine Keeps.out ?_
    | split

theorem doneAtOnce_keeps {s} (x0 x1 x2) (h : Keeps s x2) (k0 : ∀ u, Keeps s u → Keeps s (x0 u)) : Keeps s (doneAtOnce x0 x1 x2) := by
  unfold doneAtOnce; try dsimp only
  repeat' first
    | (with_reducible first
      | assumption | apply completeHandle_keeps | apply k0 | refine fun _ => ?_ | exact Keeps.refl _)
    | fail_if_no_progress with_reducible refine Keeps.upd rfl rfl rfl ?_
    | split

theorem execUnknownCommand_keeps (x0 x1 x2 x3) : KeepsO (tick x0 x3) (execUnknownCommand x0 x1 x2 x3) := by
  unfold execUnknownCommand; try dsimp only
  repeat' first
    | (with_reducible first
      | assumption | apply ok_keeps | apply request_keeps | apply refuse_keeps | refine fun _ => ?_ | exact Keeps.refl _)
    | fail_if_no_progress with_reducible refine Keeps.upd rfl rfl rfl ?_
    | with_reducible refine Keeps.out ?_
    | split

theorem execStoreFill_keeps (x0 x1 x2 x3 x4 x5 x6) : KeepsO (tick x0 x6) (execStoreFill x0 x1 x2 x3 x4 x5 x6) := by
  unfold execStoreFill; try dsimp only
  repeat' first
    | (with_reducible first
      | assumption | apply command_keeps | refine CKeeps.mk' ?_ ?_ | refine fun _ => ?_ | exact Keeps.refl _)
    | fail_if_no_progress with_reducible refine Keeps.upd rfl rfl rfl ?_
    | with_reducible refine Keeps.out ?_
    | split

theorem execStoreCopy_keeps (x0 x1 x2 x3 x4 x5 x6) : KeepsO (tick x0 x6) (execStoreCopy x0 x1 x2 x3 x4 x5 x6) := by
  unfold execStoreCopy; try dsimp only
  repeat' first
    | (with_reducible first
      | assumption | apply command_keeps | refine CKeeps.mk' ?_ ?_ | refine fun _ => ?_ | exact Keeps.refl _)
    | fail_if_no_progress with_reducible refine Keeps.upd rfl rfl rfl ?_
    | with_reducible refine Keeps.out ?_
    | split

theorem injectBurst_keeps {s} (x0 x1) (h : Keeps s x1) : Keeps s (injectBurst x0 x1) := by
  unfold injectBurst; try dsimp only
  repeat' first
    | (with_reducible first
      | assumption | apply writeBytes_keeps | exact Keeps.refl _)
    | fail_if_no_progress with_reducible refine Keeps.upd rfl rfl rfl ?_
    | split

theorem injectWord_keeps {s} (x0 x1) (h : Keeps s x1) : Keeps s (injectWord x0 x1) := by
  unfold injectWord; try dsimp only
  repeat' first
    | (with_reducible first
      | assumption | apply setSramMark_keeps | apply writeTableWord_keeps | exact Keeps.refl _)
    | fail_if_no_progress with_reducible refine Keeps.upd rfl rfl rfl ?_
    | split

theorem execIntegInject_keeps (x0 x1 x2 x3) : KeepsO (tick x0 x3) (execIntegInject x0 x1 x2 x3) := by
  unfold execIntegInject; try dsimp only
  repeat' first
    | (with_reducible first
      | assumption | apply command_keeps | apply doneAtOnce_keeps | apply injectBurst_keeps | apply injectWord_keeps
      | refine CKeeps.mk' ?_ ?_ | refine fun _ => ?_ | exact Keeps.refl _)
    | fail_if_no_progress with_reducible refine Keeps.upd rfl rfl rfl ?_
    | with_reducible refine Keeps.out ?_
    | split

theorem sendBlocks_keeps {s} (x0 x1 x2 x3) (h : Keeps s x3) : Keeps s (sendBlocks x0 x1 x2 x3) := by
  unfold sendBlocks; try dsimp only
  repeat' first
    | (with_reducible first
      | assumption | refine forAll_keeps (fun _ _ => ?_) ?_ | apply emit_keeps | apply State.setSess_keeps | refine fun _ => ?_
      | exact Keeps.refl _)
    | fail_if_no_progress with_reducible refine Keeps.upd rfl rfl rfl ?_
    | split
    | fail_if_no_progress with_reducible dsimp only

theorem rawRead_keeps {s} (x0 x1 x2 x3 x4) (h : Keeps s x4) : Keeps s (rawRead x0 x1 x2 x3 x4) := by
  unfold rawRead; try dsimp only
  repeat' first
    | (with_reducible first
      | assumption | apply logStore_keeps | apply ev_keeps | apply completeHandle_keeps | apply sendBlocks_keeps | exact Keeps.refl _)
    | fail_if_no_progress with_reducible refine Keeps.upd rfl rfl rfl ?_
    | split

theorem execIntegReadRaw_keeps (x0 x1 x2 x3 x4) : KeepsO (tick x0 x4) (execIntegReadRaw x0 x1 x2 x3 x4) := by
  unfold execIntegReadRaw; try dsimp only
  repeat' first
    | (with_reducible first
      | assumption | apply command_keeps | apply rawRead_keeps | refine CKeeps.mk' ?_ ?_ | refine fun _ => ?_ | exact Keeps.refl _)
    | fail_if_no_progress with_reducible refine Keeps.upd rfl rfl rfl ?_
    | with_reducible refine Keeps.out ?_
    | split

theorem withRepairEvent_keeps {s} (x0 x1 x2 x3 x4 x5) (k5 : AKeeps s x5) : AKeeps s (withRepairEvent x0 x1 x2 x3 x4 x5) := by
  unfold withRepairEvent
  split
  · exact ⟨repairEvent_keeps _ _ _ _ _ _ k5.state, k5.after⟩
  · exact k5

theorem repairRow_keeps {s} (x0 x1 x2 x3 x4) (h : Keeps s x4) : Keeps s (repairRow x0 x1 x2 x3 x4) := by
  unfold repairRow; try dsimp only
  repeat' first
    | (with_reducible first
      | assumption | exact Keeps.refl _)
    | fail_if_no_progress with_reducible refine Keeps.upd rfl rfl rfl ?_
    | split

theorem execRowRepair_keeps (x0 x1 x2 x3 x4 x5 x6) : KeepsO (tick x0 x6) (execRowRepair x0 x1 x2 x3 x4 x5 x6) := by
  unfold execRowRepair; try dsimp only
  repeat' first
    | (with_reducible first
      | assumption | apply ok_keeps | apply request_keeps | apply withRepairEvent_keeps | apply runCommand_keeps | refine CKeeps.mk' ?_ ?_
      | refine fun _ => ?_ | exact Keeps.refl _)
    | fail_if_no_progress with_reducible refine Keeps.upd rfl rfl rfl ?_
    | with_reducible refine Keeps.out ?_
    | split

theorem execRetire_keeps (x0 x1 x2 x3 x4 x5 x6) : KeepsO (tick x0 x6) (execRetire x0 x1 x2 x3 x4 x5 x6) := by
  unfold execRetire; try dsimp only
  repeat' first
    | (with_reducible first
      | assumption | apply enterRetired_keeps | apply ok_keeps | apply request_keeps | apply withRepairEvent_keeps | apply runCommand_keeps
      | refine CKeeps.mk' ?_ ?_ | refine fun _ => ?_ | exact Keeps.refl _)
    | fail_if_no_progress with_reducible refine Keeps.upd rfl rfl rfl ?_
    | with_reducible refine Keeps.out ?_
    | split

theorem execEncode_keeps (x0 x1 x2 x3) : KeepsO (tick x0 x3) (execEncode x0 x1 x2 x3) := by
  unfold execEncode; try dsimp only
  repeat' first
    | (with_reducible first
      | assumption | apply command_keeps | refine CKeeps.mk' ?_ ?_ | refine fun _ => ?_ | exact Keeps.refl _)
    | fail_if_no_progress with_reducible refine Keeps.upd rfl rfl rfl ?_
    | with_reducible refine Keeps.out ?_
    | split

theorem readErrors_keeps {s} (x0 x1 x2) (h : Keeps s x2) : Keeps s (readErrors x0 x1 x2) := by
  unfold readErrors; try dsimp only
  repeat' first
    | (with_reducible first
      | assumption | refine forAll_keeps (fun _ _ => ?_) ?_ | apply supervisorUe_keeps | refine fun _ => ?_ | exact Keeps.refl _)
    | fail_if_no_progress with_reducible refine Keeps.upd rfl rfl rfl ?_
    | split
    | fail_if_no_progress with_reducible dsimp only

theorem runRead_keeps {s} (x0 x1 x2) (h : Keeps s x2) : AKeeps s (runRead x0 x1 x2) := by
  unfold runRead; try dsimp only
  repeat' first
    | (with_reducible first
      | assumption | apply refuse_keeps | apply readErrors_keeps | apply id_keeps | refine fun _ => ?_ | exact Keeps.refl _)
    | fail_if_no_progress with_reducible refine Keeps.upd rfl rfl rfl ?_
    | split
    | with_reducible refine AKeeps.plain ?_
    | with_reducible refine AKeeps.mk' ?_ ?_

theorem execRead_keeps (x0 x1 x2 x3) : KeepsO (tick x0 x3) (execRead x0 x1 x2 x3) := by
  unfold execRead; try dsimp only
  repeat' first
    | (with_reducible first
      | assumption | apply ok_keeps | apply request_keeps | apply runRead_keeps | refine fun _ => ?_ | exact Keeps.refl _)
    | fail_if_no_progress with_reducible refine Keeps.upd rfl rfl rfl ?_
    | with_reducible refine Keeps.out ?_
    | split

theorem lost_keeps {s} (x0 x1 x2) (h : Keeps s x2) : AKeeps s (lost x0 x1 x2) := by
  unfold lost; try dsimp only
  repeat' first
    | (with_reducible first
      | assumption | apply id_keeps | refine fun _ => ?_ | exact Keeps.refl _)
    | fail_if_no_progress with_reducible refine Keeps.upd rfl rfl rfl ?_
    | split
    | with_reducible refine AKeeps.plain ?_
    | with_reducible refine AKeeps.mk' ?_ ?_

theorem badEntry_keeps {s} (x0 x1 x2 x3 x4) (h : Keeps s x4) : AKeeps s (badEntry x0 x1 x2 x3 x4) := by
  unfold badEntry; try dsimp only
  repeat' first
    | (with_reducible first
      | assumption | apply supervisorUe_keeps | apply id_keeps | refine fun _ => ?_ | exact Keeps.refl _)
    | fail_if_no_progress with_reducible refine Keeps.upd rfl rfl rfl ?_
    | split
    | with_reducible refine AKeeps.plain ?_
    | with_reducible refine AKeeps.mk' ?_ ?_

theorem runWrite_keeps {s} (x0 x1 x2 x3) (h : Keeps s x3) : AKeeps s (runWrite x0 x1 x2 x3) := by
  unfold runWrite; try dsimp only
  repeat' first
    | (with_reducible first
      | assumption | apply refuse_keeps | apply arbitrate_keeps | apply lost_keeps | apply badEntry_keeps | apply applyEntries_keeps
      | apply id_keeps | refine fun _ => ?_ | exact Keeps.refl _)
    | fail_if_no_progress with_reducible refine Keeps.upd rfl rfl rfl ?_
    | split
    | with_reducible refine AKeeps.plain ?_
    | with_reducible refine AKeeps.mk' ?_ ?_
    | with_reducible refine Keeps.snd (by assumption) ?_
    | with_reducible refine Keeps.snd2 (by assumption) ?_

theorem execWrite_keeps (x0 x1 x2 x3) : KeepsO (tick x0 x3) (execWrite x0 x1 x2 x3) := by
  unfold execWrite; try dsimp only
  repeat' first
    | (with_reducible first
      | assumption | apply ok_keeps | apply request_keeps | apply runWrite_keeps | refine fun _ => ?_ | exact Keeps.refl _)
    | fail_if_no_progress with_reducible refine Keeps.upd rfl rfl rfl ?_
    | with_reducible refine Keeps.out ?_
    | split

theorem runStage_keeps {s} (x0 x1 x2 x3) (h : Keeps s x3) : AKeeps s (runStage x0 x1 x2 x3) := by
  unfold runStage; try dsimp only
  repeat' first
    | (with_reducible first
      | assumption | apply refuse_keeps | apply arbitrate_keeps | apply lost_keeps | apply badEntry_keeps | apply State.setSess_keeps
      | apply id_keeps | refine fun _ => ?_ | exact Keeps.refl _)
    | fail_if_no_progress with_reducible refine Keeps.upd rfl rfl rfl ?_
    | split
    | with_reducible refine AKeeps.plain ?_
    | with_reducible refine AKeeps.mk' ?_ ?_
    | with_reducible refine Keeps.snd (by assumption) ?_
    | with_reducible refine Keeps.snd2 (by assumption) ?_

theorem execStage_keeps (x0 x1 x2 x3) : KeepsO (tick x0 x3) (execStage x0 x1 x2 x3) := by
  unfold execStage; try dsimp only
  repeat' first
    | (with_reducible first
      | assumption | apply ok_keeps | apply request_keeps | apply runStage_keeps | refine fun _ => ?_ | exact Keeps.refl _)
    | fail_if_no_progress with_reducible refine Keeps.upd rfl rfl rfl ?_
    | with_reducible refine Keeps.out ?_
    | split

theorem runDiscard_keeps {s} (x0 x1) (h : Keeps s x1) : AKeeps s (runDiscard x0 x1) := by
  unfold runDiscard; try dsimp only
  repeat' first
    | (with_reducible first
      | assumption | apply State.setSess_keeps | apply id_keeps | refine fun _ => ?_ | exact Keeps.refl _)
    | fail_if_no_progress with_reducible refine Keeps.upd rfl rfl rfl ?_
    | split
    | with_reducible refine AKeeps.plain ?_
    | with_reducible refine AKeeps.mk' ?_ ?_

theorem execDiscard_keeps (x0 x1 x2) : KeepsO (tick x0 x2) (execDiscard x0 x1 x2) := by
  unfold execDiscard; try dsimp only
  repeat' first
    | (with_reducible first
      | assumption | apply ok_keeps | apply request_keeps | apply needsRole_keeps | apply runDiscard_keeps | refine fun _ => ?_
      | exact Keeps.refl _)
    | fail_if_no_progress with_reducible refine Keeps.upd rfl rfl rfl ?_
    | with_reducible refine Keeps.out ?_
    | split

theorem runCheck_keeps {s} (x0 x1 x2) (h : Keeps s x2) : AKeeps s (runCheck x0 x1 x2) := by
  unfold runCheck; try dsimp only
  repeat' first
    | (with_reducible first
      | assumption | apply refuse_keeps | apply id_keeps | refine fun _ => ?_ | exact Keeps.refl _)
    | fail_if_no_progress with_reducible refine Keeps.upd rfl rfl rfl ?_
    | split
    | with_reducible refine AKeeps.plain ?_
    | with_reducible refine AKeeps.mk' ?_ ?_

theorem execCheck_keeps (x0 x1 x2) : KeepsO (tick x0 x2) (execCheck x0 x1 x2) := by
  unfold execCheck; try dsimp only
  repeat' first
    | (with_reducible first
      | assumption | apply ok_keeps | apply request_keeps | apply needsRole_keeps | apply runCheck_keeps | refine fun _ => ?_
      | exact Keeps.refl _)
    | fail_if_no_progress with_reducible refine Keeps.upd rfl rfl rfl ?_
    | with_reducible refine Keeps.out ?_
    | split

theorem takeCommitRequest_keeps {s} (x0 x1 x2 x3 x4) (h : Keeps s x4) : AKeeps s (takeCommitRequest x0 x1 x2 x3 x4) := by
  unfold takeCommitRequest; try dsimp only
  repeat' first
    | (with_reducible first
      | assumption | apply arbitrate_keeps | apply lost_keeps | apply id_keeps | apply runCommit_keeps | refine fun _ => ?_
      | exact Keeps.refl _)
    | fail_if_no_progress with_reducible refine Keeps.upd rfl rfl rfl ?_
    | split
    | with_reducible refine AKeeps.plain ?_
    | with_reducible refine AKeeps.mk' ?_ ?_
    | with_reducible refine Keeps.snd (by assumption) ?_
    | with_reducible refine Keeps.snd2 (by assumption) ?_

theorem runCommitRequest_keeps {s} (x0 x1 x2 x3 x4) (h : Keeps s x4) : AKeeps s (runCommitRequest x0 x1 x2 x3 x4) := by
  unfold runCommitRequest; try dsimp only
  repeat' first
    | (with_reducible first
      | assumption | apply refuse_keeps | apply needsRole_keeps | apply takeCommitRequest_keeps | refine fun _ => ?_ | exact Keeps.refl _)
    | fail_if_no_progress with_reducible refine Keeps.upd rfl rfl rfl ?_
    | split
    | with_reducible refine AKeeps.plain ?_
    | with_reducible refine AKeeps.mk' ?_ ?_

theorem execCommit_keeps (x0 x1 x2 x3 x4) : KeepsO (tick x0 x4) (execCommit x0 x1 x2 x3 x4) := by
  unfold execCommit; try dsimp only
  repeat' first
    | (with_reducible first
      | assumption | apply ok_keeps | apply flushReady_keeps | apply request_keeps | apply runCommitRequest_keeps | refine fun _ => ?_
      | exact Keeps.refl _)
    | fail_if_no_progress with_reducible refine Keeps.upd rfl rfl rfl ?_
    | with_reducible refine Keeps.out ?_
    | split

theorem writeObject_keeps (x0 x1 x2 x3) : KeepsO (tick x0 x3) (writeObject x0 x1 x2 x3) := by
  unfold writeObject; try dsimp only
  repeat' first
    | (with_reducible first
      | assumption | apply ok_keeps | apply request_keeps | apply runWrite_keeps | refine fun _ => ?_ | exact Keeps.refl _)
    | fail_if_no_progress with_reducible refine Keeps.upd rfl rfl rfl ?_
    | with_reducible refine Keeps.out ?_
    | split

theorem execAxisPreset_keeps (x0 x1 x2 x3 x4) : KeepsO (tick x0 x4) (execAxisPreset x0 x1 x2 x3 x4) := by
  unfold execAxisPreset; try dsimp only
  repeat' first
    | (with_reducible first
      | assumption | apply writeObject_keeps | exact Keeps.refl _)
    | fail_if_no_progress with_reducible refine Keeps.upd rfl rfl rfl ?_
    | with_reducible refine Keeps.out ?_
    | split

theorem execIndexArm_keeps (x0 x1 x2 x3 x4 x5) : KeepsO (tick x0 x5) (execIndexArm x0 x1 x2 x3 x4 x5) := by
  unfold execIndexArm; try dsimp only
  repeat' first
    | (with_reducible first
      | assumption | apply writeObject_keeps | exact Keeps.refl _)
    | fail_if_no_progress with_reducible refine Keeps.upd rfl rfl rfl ?_
    | with_reducible refine Keeps.out ?_
    | split

theorem execEncReenable_keeps (x0 x1 x2 x3 x4 x5) : KeepsO (tick x0 x5) (execEncReenable x0 x1 x2 x3 x4 x5) := by
  unfold execEncReenable; try dsimp only
  repeat' first
    | (with_reducible first
      | assumption | apply writeObject_keeps | exact Keeps.refl _)
    | fail_if_no_progress with_reducible refine Keeps.upd rfl rfl rfl ?_
    | with_reducible refine Keeps.out ?_
    | split

theorem execSourceRequest_keeps (x0 x1 x2 x3 x4) : KeepsO (tick x0 x4) (execSourceRequest x0 x1 x2 x3 x4) := by
  unfold execSourceRequest; try dsimp only
  repeat' first
    | (with_reducible first
      | assumption | apply writeObject_keeps | exact Keeps.refl _)
    | fail_if_no_progress with_reducible refine Keeps.upd rfl rfl rfl ?_
    | with_reducible refine Keeps.out ?_
    | split

theorem execHostSpeedLimit_keeps (x0 x1 x2 x3 x4) : KeepsO (tick x0 x4) (execHostSpeedLimit x0 x1 x2 x3 x4) := by
  unfold execHostSpeedLimit; try dsimp only
  repeat' first
    | (with_reducible first
      | assumption | apply writeObject_keeps | exact Keeps.refl _)
    | fail_if_no_progress with_reducible refine Keeps.upd rfl rfl rfl ?_
    | with_reducible refine Keeps.out ?_
    | split

theorem execStreamEnable_keeps (x0 x1 x2 x3 x4 x5) : KeepsO (tick x0 x5) (execStreamEnable x0 x1 x2 x3 x4 x5) := by
  unfold execStreamEnable; try dsimp only
  repeat' first
    | (with_reducible first
      | assumption | apply writeObject_keeps | exact Keeps.refl _)
    | fail_if_no_progress with_reducible refine Keeps.upd rfl rfl rfl ?_
    | with_reducible refine Keeps.out ?_
    | split

theorem execStreamReleaseTo_keeps (x0 x1 x2 x3 x4 x5) : KeepsO (tick x0 x5) (execStreamReleaseTo x0 x1 x2 x3 x4 x5) := by
  unfold execStreamReleaseTo; try dsimp only
  repeat' first
    | (with_reducible first
      | assumption | apply writeObject_keeps | exact Keeps.refl _)
    | fail_if_no_progress with_reducible refine Keeps.upd rfl rfl rfl ?_
    | with_reducible refine Keeps.out ?_
    | split

theorem execTraceEnable_keeps (x0 x1 x2 x3 x4 x5) : KeepsO (tick x0 x5) (execTraceEnable x0 x1 x2 x3 x4 x5) := by
  unfold execTraceEnable; try dsimp only
  repeat' first
    | (with_reducible first
      | assumption | apply writeObject_keeps | exact Keeps.refl _)
    | fail_if_no_progress with_reducible refine Keeps.upd rfl rfl rfl ?_
    | with_reducible refine Keeps.out ?_
    | split

theorem execTracePower_keeps (x0 x1 x2 x3 x4 x5) : KeepsO (tick x0 x5) (execTracePower x0 x1 x2 x3 x4 x5) := by
  unfold execTracePower; try dsimp only
  repeat' first
    | (with_reducible first
      | assumption | apply writeObject_keeps | exact Keeps.refl _)
    | fail_if_no_progress with_reducible refine Keeps.upd rfl rfl rfl ?_
    | with_reducible refine Keeps.out ?_
    | split

theorem execPressRefuse_keeps (x0 x1 x2 x3 x4) : KeepsO (tick x0 x4) (execPressRefuse x0 x1 x2 x3 x4) := by
  unfold execPressRefuse; try dsimp only
  repeat' first
    | (with_reducible first
      | assumption | apply writeObject_keeps | exact Keeps.refl _)
    | fail_if_no_progress with_reducible refine Keeps.upd rfl rfl rfl ?_
    | with_reducible refine Keeps.out ?_
    | split

theorem execStopClear_keeps (x0 x1 x2 x3 x4) : KeepsO (tick x0 x4) (execStopClear x0 x1 x2 x3 x4) := by
  unfold execStopClear; try dsimp only
  repeat' first
    | (with_reducible first
      | assumption | apply writeObject_keeps | exact Keeps.refl _)
    | fail_if_no_progress with_reducible refine Keeps.upd rfl rfl rfl ?_
    | with_reducible refine Keeps.out ?_
    | split

theorem execTimeRoleWrite_keeps (x0 x1 x2 x3 x4 x5) : KeepsO (tick x0 x5) (execTimeRoleWrite x0 x1 x2 x3 x4 x5) := by
  unfold execTimeRoleWrite; try dsimp only
  repeat' first
    | (with_reducible first
      | assumption | apply writeObject_keeps | exact Keeps.refl _)
    | fail_if_no_progress with_reducible refine Keeps.upd rfl rfl rfl ?_
    | with_reducible refine Keeps.out ?_
    | split

theorem execTxStampPop_keeps (x0 x1 x2 x3 x4 x5) : KeepsO (tick x0 x5) (execTxStampPop x0 x1 x2 x3 x4 x5) := by
  unfold execTxStampPop; try dsimp only
  repeat' first
    | (with_reducible first
      | assumption | apply writeObject_keeps | exact Keeps.refl _)
    | fail_if_no_progress with_reducible refine Keeps.upd rfl rfl rfl ?_
    | with_reducible refine Keeps.out ?_
    | split

theorem execCapturePop_keeps (x0 x1 x2 x3 x4 x5) : KeepsO (tick x0 x5) (execCapturePop x0 x1 x2 x3 x4 x5) := by
  unfold execCapturePop; try dsimp only
  repeat' first
    | (with_reducible first
      | assumption | apply writeObject_keeps | exact Keeps.refl _)
    | fail_if_no_progress with_reducible refine Keeps.upd rfl rfl rfl ?_
    | with_reducible refine Keeps.out ?_
    | split

theorem execStatusClear_keeps (x0 x1 x2 x3 x4 x5) : KeepsO (tick x0 x5) (execStatusClear x0 x1 x2 x3 x4 x5) := by
  unfold execStatusClear; try dsimp only
  repeat' first
    | (with_reducible first
      | assumption | apply writeObject_keeps | exact Keeps.refl _)
    | fail_if_no_progress with_reducible refine Keeps.upd rfl rfl rfl ?_
    | with_reducible refine Keeps.out ?_
    | split

theorem execStorePartition_keeps (x0 x1 x2 x3 x4 x5) : KeepsO (tick x0 x5) (execStorePartition x0 x1 x2 x3 x4 x5) := by
  unfold execStorePartition; try dsimp only
  repeat' first
    | (with_reducible first
      | assumption | apply writeObject_keeps | exact Keeps.refl _)
    | fail_if_no_progress with_reducible refine Keeps.upd rfl rfl rfl ?_
    | with_reducible refine Keeps.out ?_
    | split

theorem execErrorLogClear_keeps (x0 x1 x2 x3 x4) : KeepsO (tick x0 x4) (execErrorLogClear x0 x1 x2 x3 x4) := by
  unfold execErrorLogClear; try dsimp only
  repeat' first
    | (with_reducible first
      | assumption | apply writeObject_keeps | exact Keeps.refl _)
    | fail_if_no_progress with_reducible refine Keeps.upd rfl rfl rfl ?_
    | with_reducible refine Keeps.out ?_
    | split

theorem execDefectLogClear_keeps (x0 x1 x2 x3 x4) : KeepsO (tick x0 x4) (execDefectLogClear x0 x1 x2 x3 x4) := by
  unfold execDefectLogClear; try dsimp only
  repeat' first
    | (with_reducible first
      | assumption | apply writeObject_keeps | exact Keeps.refl _)
    | fail_if_no_progress with_reducible refine Keeps.upd rfl rfl rfl ?_
    | with_reducible refine Keeps.out ?_
    | split

theorem execThresholdLoad_keeps (x0 x1 x2 x3 x4 x5 x6 x7) : KeepsO (tick x0 x7) (execThresholdLoad x0 x1 x2 x3 x4 x5 x6 x7) := by
  unfold execThresholdLoad; try dsimp only
  repeat' first
    | (with_reducible first
      | assumption | apply command_keeps | refine CKeeps.mk' ?_ ?_ | refine fun _ => ?_ | exact Keeps.refl _)
    | fail_if_no_progress with_reducible refine Keeps.upd rfl rfl rfl ?_
    | with_reducible refine Keeps.out ?_
    | split

theorem execNozzleTableWrite_keeps (x0 x1 x2 x3 x4 x5) : KeepsO (tick x0 x5) (execNozzleTableWrite x0 x1 x2 x3 x4 x5) := by
  unfold execNozzleTableWrite; try dsimp only
  repeat' first
    | (with_reducible first
      | assumption | apply command_keeps | refine CKeeps.mk' ?_ ?_ | refine fun _ => ?_ | exact Keeps.refl _)
    | fail_if_no_progress with_reducible refine Keeps.upd rfl rfl rfl ?_
    | with_reducible refine Keeps.out ?_
    | split

theorem readTable_keeps {s} (x0 x1 x2 x3 x4 x5) (h : Keeps s x5) : Keeps s (readTable x0 x1 x2 x3 x4 x5) := by
  unfold readTable; try dsimp only
  repeat' first
    | (with_reducible first
      | assumption | apply sendBlocks_keeps | apply completeHandle_keeps | apply State.setHandle_keeps | exact Keeps.refl _)
    | fail_if_no_progress with_reducible refine Keeps.upd rfl rfl rfl ?_
    | split

theorem execNozzleTableRead_keeps (x0 x1 x2 x3 x4 x5) : KeepsO (tick x0 x5) (execNozzleTableRead x0 x1 x2 x3 x4 x5) := by
  unfold execNozzleTableRead; try dsimp only
  repeat' first
    | (with_reducible first
      | assumption | apply command_keeps | apply readTable_keeps | refine CKeeps.mk' ?_ ?_ | refine fun _ => ?_ | exact Keeps.refl _)
    | fail_if_no_progress with_reducible refine Keeps.upd rfl rfl rfl ?_
    | with_reducible refine Keeps.out ?_
    | split

theorem execNozzleTableSave_keeps (x0 x1 x2) : KeepsO (tick x0 x2) (execNozzleTableSave x0 x1 x2) := by
  unfold execNozzleTableSave; try dsimp only
  repeat' first
    | (with_reducible first
      | assumption | apply command_keeps | refine CKeeps.mk' ?_ ?_ | refine fun _ => ?_ | exact Keeps.refl _)
    | fail_if_no_progress with_reducible refine Keeps.upd rfl rfl rfl ?_
    | with_reducible refine Keeps.out ?_
    | split

theorem resetCounts_keeps {s} (x0 x1 x2) (h : Keeps s x2) : Keeps s (resetCounts x0 x1 x2) := by
  unfold resetCounts; try dsimp only
  repeat' first
    | (with_reducible first
      | assumption | refine forAll_keeps (fun _ _ => ?_) ?_ | apply setNozCnt_keeps | refine fun _ => ?_ | exact Keeps.refl _)
    | fail_if_no_progress with_reducible refine Keeps.upd rfl rfl rfl ?_
    | split
    | fail_if_no_progress with_reducible dsimp only

theorem execNozzleCountReset_keeps (x0 x1 x2 x3 x4) : KeepsO (tick x0 x4) (execNozzleCountReset x0 x1 x2 x3 x4) := by
  unfold execNozzleCountReset; try dsimp only
  repeat' first
    | (with_reducible first
      | assumption | apply command_keeps | apply doneAtOnce_keeps | apply resetCounts_keeps | refine CKeeps.mk' ?_ ?_ | refine fun _ => ?_
      | exact Keeps.refl _)
    | fail_if_no_progress with_reducible refine Keeps.upd rfl rfl rfl ?_
    | with_reducible refine Keeps.out ?_
    | split

theorem execInspTableLoad_keeps (x0 x1 x2 x3 x4 x5) : KeepsO (tick x0 x5) (execInspTableLoad x0 x1 x2 x3 x4 x5) := by
  unfold execInspTableLoad; try dsimp only
  repeat' first
    | (with_reducible first
      | assumption | apply command_keeps | refine CKeeps.mk' ?_ ?_ | refine fun _ => ?_ | exact Keeps.refl _)
    | fail_if_no_progress with_reducible refine Keeps.upd rfl rfl rfl ?_
    | with_reducible refine Keeps.out ?_
    | split

theorem execFrameHold_keeps (x0 x1 x2 x3 x4 x5) : KeepsO (tick x0 x5) (execFrameHold x0 x1 x2 x3 x4 x5) := by
  unfold execFrameHold; try dsimp only
  repeat' first
    | (with_reducible first
      | assumption | apply command_keeps | apply holdFrame_keeps | apply doneAtOnce_keeps | refine CKeeps.mk' ?_ ?_ | refine fun _ => ?_
      | exact Keeps.refl _)
    | fail_if_no_progress with_reducible refine Keeps.upd rfl rfl rfl ?_
    | with_reducible refine Keeps.out ?_
    | split
    | with_reducible refine Keeps.snd (by assumption) ?_
    | with_reducible refine Keeps.snd2 (by assumption) ?_

theorem startTransfer_keeps {s} (x0 x1 x2 x3 x4 x5 x6 x7) (h : Keeps s x7) : Keeps s (startTransfer x0 x1 x2 x3 x4 x5 x6 x7) := by
  unfold startTransfer; try dsimp only
  repeat' first
    | (with_reducible first
      | assumption | apply emit_keeps | apply State.setCamPort_keeps | exact Keeps.refl _)
    | fail_if_no_progress with_reducible refine Keeps.upd rfl rfl rfl ?_
    | split

theorem execCciAccess_keeps (x0 x1 x2 x3 x4 x5 x6 x7 x8) : KeepsO (tick x0 x8) (execCciAccess x0 x1 x2 x3 x4 x5 x6 x7 x8) := by
  unfold execCciAccess; try dsimp only
  repeat' first
    | (with_reducible first
      | assumption | apply command_keeps | apply startTransfer_keeps | refine CKeeps.mk' ?_ ?_ | refine fun _ => ?_ | exact Keeps.refl _)
    | fail_if_no_progress with_reducible refine Keeps.upd rfl rfl rfl ?_
    | with_reducible refine Keeps.out ?_
    | split

theorem execInspStatRead_keeps (x0 x1 x2 x3 x4) : KeepsO (tick x0 x4) (execInspStatRead x0 x1 x2 x3 x4) := by
  unfold execInspStatRead; try dsimp only
  repeat' first
    | (with_reducible first
      | assumption | apply command_keeps | apply completeHandle_keeps | apply sendBlocks_keeps | apply State.setHandle_keeps
      | refine CKeeps.mk' ?_ ?_ | refine fun _ => ?_ | exact Keeps.refl _)
    | fail_if_no_progress with_reducible refine Keeps.upd rfl rfl rfl ?_
    | with_reducible refine Keeps.out ?_
    | split

theorem bringUpLane_keeps {s} (x0 x1 x2) (h : Keeps s x2) : Keeps s (bringUpLane x0 x1 x2) := by
  unfold bringUpLane; try dsimp only
  repeat' first
    | (with_reducible first
      | assumption | apply State.setLane_keeps | apply startRetrain_keeps | apply startBringUp_keeps | exact Keeps.refl _)
    | fail_if_no_progress with_reducible refine Keeps.upd rfl rfl rfl ?_
    | split

theorem execTraceBringUp_keeps (x0 x1 x2 x3) : KeepsO (tick x0 x3) (execTraceBringUp x0 x1 x2 x3) := by
  unfold execTraceBringUp; try dsimp only
  repeat' first
    | (with_reducible first
      | assumption | apply bringUpLane_keeps | apply ok_keeps | apply request_keeps | apply runCommand_keeps | apply returnToRun_keeps
      | refine CKeeps.mk' ?_ ?_ | refine fun _ => ?_ | exact Keeps.refl _)
    | fail_if_no_progress with_reducible refine Keeps.upd rfl rfl rfl ?_
    | with_reducible refine Keeps.out ?_
    | split

theorem execBridgeAccess_keeps (x0 x1 x2 x3 x4 x5 x6) : KeepsO (tick x0 x6) (execBridgeAccess x0 x1 x2 x3 x4 x5 x6) := by
  unfold execBridgeAccess; try dsimp only
  repeat' first
    | (with_reducible first
      | assumption | apply command_keeps | apply sendConfig_keeps | refine CKeeps.mk' ?_ ?_ | refine fun _ => ?_ | exact Keeps.refl _)
    | fail_if_no_progress with_reducible refine Keeps.upd rfl rfl rfl ?_
    | with_reducible refine Keeps.out ?_
    | split

theorem execTimeAcceptJump_keeps (x0 x1 x2) : KeepsO (tick x0 x2) (execTimeAcceptJump x0 x1 x2) := by
  unfold execTimeAcceptJump; try dsimp only
  repeat' first
    | (with_reducible first
      | assumption | apply command_keeps | apply doneAtOnce_keeps | apply acceptJump_keeps | refine CKeeps.mk' ?_ ?_ | refine fun _ => ?_
      | exact Keeps.refl _)
    | fail_if_no_progress with_reducible refine Keeps.upd rfl rfl rfl ?_
    | with_reducible refine Keeps.out ?_
    | split

theorem sendPtp_keeps {s} (x0 x1 x2) (h : Keeps s x2) : Keeps s (sendPtp x0 x1 x2) := by
  unfold sendPtp; try dsimp only
  repeat' first
    | (with_reducible first
      | assumption | apply pushStamp_keeps | apply emit_keeps | exact Keeps.refl _)
    | fail_if_no_progress with_reducible refine Keeps.upd rfl rfl rfl ?_
    | split

theorem execPtpSend_keeps (x0 x1 x2 x3 x4) : KeepsO (tick x0 x4) (execPtpSend x0 x1 x2 x3 x4) := by
  unfold execPtpSend; try dsimp only
  repeat' first
    | (with_reducible first
      | assumption | apply command_keeps | apply doneAtOnce_keeps | apply sendPtp_keeps | refine CKeeps.mk' ?_ ?_ | refine fun _ => ?_
      | exact Keeps.refl _)
    | fail_if_no_progress with_reducible refine Keeps.upd rfl rfl rfl ?_
    | with_reducible refine Keeps.out ?_
    | split

theorem execPdStart_keeps (x0 x1 x2 x3 x4) : KeepsO (tick x0 x4) (execPdStart x0 x1 x2 x3 x4) := by
  unfold execPdStart; try dsimp only
  repeat' first
    | (with_reducible first
      | assumption | apply command_keeps | apply pdStart_keeps | apply doneAtOnce_keeps | apply id_keeps | refine CKeeps.mk' ?_ ?_
      | refine fun _ => ?_ | exact Keeps.refl _)
    | fail_if_no_progress with_reducible refine Keeps.upd rfl rfl rfl ?_
    | with_reducible refine Keeps.out ?_
    | split

theorem execPdStop_keeps (x0 x1 x2) : KeepsO (tick x0 x2) (execPdStop x0 x1 x2) := by
  unfold execPdStop; try dsimp only
  repeat' first
    | (with_reducible first
      | assumption | apply command_keeps | apply doneAtOnce_keeps | apply pdStop_keeps | refine CKeeps.mk' ?_ ?_ | refine fun _ => ?_
      | exact Keeps.refl _)
    | fail_if_no_progress with_reducible refine Keeps.upd rfl rfl rfl ?_
    | with_reducible refine Keeps.out ?_
    | split

theorem execPair_keeps (x0 x1 x2) : KeepsO (tick x0 x2) (execPair x0 x1 x2) := by
  unfold execPair; try dsimp only
  repeat' first
    | (with_reducible first
      | assumption | apply command_keeps | apply startPair_keeps | refine CKeeps.mk' ?_ ?_ | refine fun _ => ?_ | exact Keeps.refl _)
    | fail_if_no_progress with_reducible refine Keeps.upd rfl rfl rfl ?_
    | with_reducible refine Keeps.out ?_
    | split

theorem execUnpair_keeps (x0 x1 x2) : KeepsO (tick x0 x2) (execUnpair x0 x1 x2) := by
  unfold execUnpair; try dsimp only
  repeat' first
    | (with_reducible first
      | assumption | apply command_keeps | apply doneAtOnce_keeps | apply unpair_keeps | refine CKeeps.mk' ?_ ?_ | refine fun _ => ?_
      | exact Keeps.refl _)
    | fail_if_no_progress with_reducible refine Keeps.upd rfl rfl rfl ?_
    | with_reducible refine Keeps.out ?_
    | split

theorem execHandover_keeps (x0 x1 x2) : KeepsO (tick x0 x2) (execHandover x0 x1 x2) := by
  unfold execHandover; try dsimp only
  repeat' first
    | (with_reducible first
      | assumption | apply command_keeps | apply leadRelease_keeps | refine CKeeps.mk' ?_ ?_ | refine fun _ => ?_ | exact Keeps.refl _)
    | fail_if_no_progress with_reducible refine Keeps.upd rfl rfl rfl ?_
    | with_reducible refine Keeps.out ?_
    | split

theorem setSlot_keeps {s} (x0 x1 x2) (h : Keeps s x2) : Keeps s (setSlot x0 x1 x2) := by
  unfold setSlot; try dsimp only
  repeat' first
    | (with_reducible first
      | assumption | exact Keeps.refl _)
    | fail_if_no_progress with_reducible refine Keeps.upd rfl rfl rfl ?_
    | split

theorem execImageWrite_keeps (x0 x1 x2 x3 x4) : KeepsO (tick x0 x4) (execImageWrite x0 x1 x2 x3 x4) := by
  unfold execImageWrite; try dsimp only
  repeat' first
    | (with_reducible first
      | assumption | apply command_keeps | apply setSlot_keeps | refine CKeeps.mk' ?_ ?_ | refine fun _ => ?_ | exact Keeps.refl _)
    | fail_if_no_progress with_reducible refine Keeps.upd rfl rfl rfl ?_
    | with_reducible refine Keeps.out ?_
    | split

theorem activateImage_keeps {s} (x0 x1 x2) (h : Keeps s x2) : Keeps s (activateImage x0 x1 x2) := by
  unfold activateImage; try dsimp only
  repeat' first
    | (with_reducible first
      | assumption | apply completeHandle_keeps | apply writeBoot_keeps | apply resetStart_keeps | exact Keeps.refl _)
    | fail_if_no_progress with_reducible refine Keeps.upd rfl rfl rfl ?_
    | split

theorem execImageActivate_keeps (x0 x1 x2 x3) : KeepsO (tick x0 x3) (execImageActivate x0 x1 x2 x3) := by
  unfold execImageActivate; try dsimp only
  repeat' first
    | (with_reducible first
      | assumption | apply command_keeps | apply activateImage_keeps | refine CKeeps.mk' ?_ ?_ | refine fun _ => ?_ | exact Keeps.refl _)
    | fail_if_no_progress with_reducible refine Keeps.upd rfl rfl rfl ?_
    | with_reducible refine Keeps.out ?_
    | split

theorem confirmImage_keeps {s} (x0) (h : Keeps s x0) : Keeps s (confirmImage x0) := by
  unfold confirmImage; try dsimp only
  repeat' first
    | (with_reducible first
      | assumption | apply writeBoot_keeps | exact Keeps.refl _)
    | fail_if_no_progress with_reducible refine Keeps.upd rfl rfl rfl ?_
    | split

theorem execImageConfirm_keeps (x0 x1 x2) : KeepsO (tick x0 x2) (execImageConfirm x0 x1 x2) := by
  unfold execImageConfirm; try dsimp only
  repeat' first
    | (with_reducible first
      | assumption | apply command_keeps | apply doneAtOnce_keeps | apply confirmImage_keeps | refine CKeeps.mk' ?_ ?_ | refine fun _ => ?_
      | exact Keeps.refl _)
    | fail_if_no_progress with_reducible refine Keeps.upd rfl rfl rfl ?_
    | with_reducible refine Keeps.out ?_
    | split

theorem fireUeGone_keeps {s} (x0) (h : Keeps s x0) : Keeps s (fireUeGone x0) := by
  unfold fireUeGone; try dsimp only
  repeat' first
    | (with_reducible first
      | assumption | apply causeGone_keeps | exact Keeps.refl _)
    | fail_if_no_progress with_reducible refine Keeps.upd rfl rfl rfl ?_
    | split

theorem clearHolds_keeps {s} (x0) (h : Keeps s x0) : Keeps s (clearHolds x0) := by
  unfold clearHolds; try dsimp only
  repeat' first
    | (with_reducible first
      | assumption | apply syncClass_keeps | apply resumeRows_keeps | exact Keeps.refl _)
    | fail_if_no_progress with_reducible refine Keeps.upd rfl rfl rfl ?_
    | split

theorem clearFaults_keeps {s} (x0 x1) (h : Keeps s x1) : Keeps s (clearFaults x0 x1) := by
  unfold clearFaults; try dsimp only
  repeat' first
    | (with_reducible first
      | assumption | apply fireUeGone_keeps | apply completeHandle_keeps | apply clearHolds_keeps | exact Keeps.refl _)
    | fail_if_no_progress with_reducible refine Keeps.upd rfl rfl rfl ?_
    | split

theorem execFaultClear_keeps (x0 x1 x2) : KeepsO (tick x0 x2) (execFaultClear x0 x1 x2) := by
  unfold execFaultClear; try dsimp only
  repeat' first
    | (with_reducible first
      | assumption | apply command_keeps | apply clearFaults_keeps | refine CKeeps.mk' ?_ ?_ | refine fun _ => ?_ | exact Keeps.refl _)
    | fail_if_no_progress with_reducible refine Keeps.upd rfl rfl rfl ?_
    | with_reducible refine Keeps.out ?_
    | split

theorem powerCommand_keeps {s} (x0 x1) (k1 : ∀ b0 u, Keeps s u → Keeps s (x1 b0 u)) : CKeeps s (powerCommand x0 x1) := by
  unfold powerCommand; try dsimp only
  repeat' first
    | (with_reducible first
      | assumption | apply k1 | refine CKeeps.mk' ?_ ?_ | refine fun _ => ?_ | exact Keeps.refl _)
    | fail_if_no_progress with_reducible refine Keeps.upd rfl rfl rfl ?_
    | split

theorem execEnterIdle_keeps (x0 x1 x2) : KeepsO (tick x0 x2) (execEnterIdle x0 x1 x2) := by
  unfold execEnterIdle; try dsimp only
  repeat' first
    | (with_reducible first
      | assumption | apply command_keeps | apply powerCommand_keeps | apply enterIdleState_keeps | refine fun _ => ?_ | exact Keeps.refl _)
    | fail_if_no_progress with_reducible refine Keeps.upd rfl rfl rfl ?_
    | with_reducible refine Keeps.out ?_
    | split

theorem execEnterSleep_keeps (x0 x1 x2 x3) : KeepsO (tick x0 x3) (execEnterSleep x0 x1 x2 x3) := by
  unfold execEnterSleep; try dsimp only
  repeat' first
    | (with_reducible first
      | assumption | apply command_keeps | apply powerCommand_keeps | apply enterPower_keeps | refine fun _ => ?_ | exact Keeps.refl _)
    | fail_if_no_progress with_reducible refine Keeps.upd rfl rfl rfl ?_
    | decide
    | with_reducible refine Keeps.out ?_
    | split

theorem execEnterDeepSleep_keeps (x0 x1 x2 x3) : KeepsO (tick x0 x3) (execEnterDeepSleep x0 x1 x2 x3) := by
  unfold execEnterDeepSleep; try dsimp only
  repeat' first
    | (with_reducible first
      | assumption | apply command_keeps | apply powerCommand_keeps | apply enterPower_keeps | refine fun _ => ?_ | exact Keeps.refl _)
    | fail_if_no_progress with_reducible refine Keeps.upd rfl rfl rfl ?_
    | decide
    | with_reducible refine Keeps.out ?_
    | split

theorem execEnterOff_keeps (x0 x1 x2 x3) : KeepsO (tick x0 x3) (execEnterOff x0 x1 x2 x3) := by
  unfold execEnterOff; try dsimp only
  repeat' first
    | (with_reducible first
      | assumption | apply command_keeps | apply powerCommand_keeps | apply enterPower_keeps | refine fun _ => ?_ | exact Keeps.refl _)
    | fail_if_no_progress with_reducible refine Keeps.upd rfl rfl rfl ?_
    | decide
    | with_reducible refine Keeps.out ?_
    | split

theorem execReturnToRun_keeps (x0 x1 x2) : KeepsO (tick x0 x2) (execReturnToRun x0 x1 x2) := by
  unfold execReturnToRun; try dsimp only
  repeat' first
    | (with_reducible first
      | assumption | apply command_keeps | apply powerCommand_keeps | apply returnToRun_keeps | apply completeHandle_keeps
      | refine fun _ => ?_ | exact Keeps.refl _)
    | fail_if_no_progress with_reducible refine Keeps.upd rfl rfl rfl ?_
    | with_reducible refine Keeps.out ?_
    | split

theorem mirrorBlock_keeps {s} (x0 x1 x2 x3 x4) (h : Keeps s x4) : Keeps s (mirrorBlock x0 x1 x2 x3 x4) := by
  unfold mirrorBlock; try dsimp only
  repeat' first
    | (with_reducible first
      | assumption | apply mirror_keeps | exact Keeps.refl _)
    | fail_if_no_progress with_reducible refine Keeps.upd rfl rfl rfl ?_
    | split

theorem runBlockData_keeps {s} (x0 x1 x2 x3 x4) (h : Keeps s x4) : AKeeps s (runBlockData x0 x1 x2 x3 x4) := by
  unfold runBlockData; try dsimp only
  repeat' first
    | (with_reducible first
      | assumption | apply refuse_keeps | apply State.setHandle_keeps | apply mirrorBlock_keeps | apply id_keeps | refine fun _ => ?_
      | exact Keeps.refl _)
    | fail_if_no_progress with_reducible refine Keeps.upd rfl rfl rfl ?_
    | split
    | with_reducible refine AKeeps.plain ?_
    | with_reducible refine AKeeps.mk' ?_ ?_

theorem execBlockData_keeps (x0 x1 x2 x3 x4 x5) : KeepsO (tick x0 x5) (execBlockData x0 x1 x2 x3 x4 x5) := by
  unfold execBlockData; try dsimp only
  repeat' first
    | (with_reducible first
      | assumption | apply ok_keeps | apply request_keeps | apply runBlockData_keeps | refine fun _ => ?_ | exact Keeps.refl _)
    | fail_if_no_progress with_reducible refine Keeps.upd rfl rfl rfl ?_
    | with_reducible refine Keeps.out ?_
    | split

theorem fillRange_keeps {s} (x0 x1 x2 x3 x4) (h : Keeps s x4) : Keeps s (fillRange x0 x1 x2 x3 x4) := by
  unfold fillRange; try dsimp only
  repeat' first
    | (with_reducible first
      | assumption | apply writeUnits_keeps | exact Keeps.refl _)
    | fail_if_no_progress with_reducible refine Keeps.upd rfl rfl rfl ?_
    | split

theorem copyUnits_keeps {s} (x0 x1 x2 x3 x4 x5) (h : Keeps s x5) : Keeps s (copyUnits x0 x1 x2 x3 x4 x5).2.2 := by
  induction x1 generalizing x2 x3 x4 x5 with
  | zero => exact h
  | succ n ih =>
    unfold copyUnits; dsimp only
    split
    · exact readUnit_keeps _ _ _ _ _ h
    · exact ih _ _ _ _ (writeUnits_keeps _ _ _ _ (readUnit_keeps _ _ _ _ _ h))

theorem encodeFrom_keeps {s} (x0 x1 x2 x3 x4 x5) (h : Keeps s x5) : Keeps s (encodeFrom x0 x1 x2 x3 x4 x5).2.2 := by
  induction x1 generalizing x2 x3 x4 x5 with
  | zero => exact h
  | succ n ih =>
    unfold encodeFrom; dsimp only
    have k := readUnits_keeps (s := s) x0.cls 3 (unitDie 0) (lineUnits x0 x2).2 (lineUnits x0 x2).1 x5 h
    repeat' first
      | assumption
      | exact ih _ _ _ _ k
      | split

theorem runEncode_keeps {s} (x0 x1) (h : Keeps s x1) : Keeps s (runEncode x0 x1).2.2 := by
  unfold runEncode; try dsimp only
  repeat' first
    | (with_reducible first
      | assumption | apply encodeFrom_keeps | apply voidStripe_keeps | apply writeUnits_keeps | exact Keeps.refl _)
    | fail_if_no_progress with_reducible refine Keeps.upd rfl rfl rfl ?_
    | split
    | with_reducible refine Keeps.snd (by assumption) ?_
    | with_reducible refine Keeps.snd2 (by assumption) ?_

theorem stageShadow_keeps {s} (x0 x1 x2 x3 x4) (h : Keeps s x4) : Keeps s (stageShadow x0 x1 x2 x3 x4).2 := by
  unfold stageShadow; try dsimp only
  repeat' first
    | (with_reducible first
      | assumption | apply State.setSess_keeps | exact Keeps.refl _)
    | fail_if_no_progress with_reducible refine Keeps.upd rfl rfl rfl ?_
    | split

theorem keepTable_keeps {s} (x0 x1 x2 x3) (h : Keeps s x3) : Keeps s (keepTable x0 x1 x2 x3).2 := by
  unfold keepTable; try dsimp only
  repeat' first
    | (with_reducible first
      | assumption | apply emit_keeps | apply storeTable_keeps | exact Keeps.refl _)
    | fail_if_no_progress with_reducible refine Keeps.upd rfl rfl rfl ?_
    | split

theorem endTransfer_keeps {s} (x0 x1 x2 x3 x4 x5 x6) (h : Keeps s x6) : Keeps s (endTransfer x0 x1 x2 x3 x4 x5 x6) := by
  unfold endTransfer; try dsimp only
  repeat' first
    | (with_reducible first
      | assumption | apply freeMaster_keeps | apply completeHandle_keeps | exact Keeps.refl _)
    | fail_if_no_progress with_reducible refine Keeps.upd rfl rfl rfl ?_
    | split

theorem lateTransfer_keeps {s} (x0 x1 x2 x3 x4 x5 x6) (h : Keeps s x6) : Keeps s (lateTransfer x0 x1 x2 x3 x4 x5 x6) := by
  unfold lateTransfer; try dsimp only
  repeat' first
    | (with_reducible first
      | assumption | apply emit_keeps | exact Keeps.refl _)
    | fail_if_no_progress with_reducible refine Keeps.upd rfl rfl rfl ?_
    | split

theorem withProgress_keeps {s} (x0 x1 x2) (h : Keeps s x2) : Keeps s (withProgress x0 x1 x2) := by
  unfold withProgress; try dsimp only
  repeat' first
    | (with_reducible first
      | assumption | apply State.setHandle_keeps | exact Keeps.refl _)
    | fail_if_no_progress with_reducible refine Keeps.upd rfl rfl rfl ?_
    | split

theorem endOp_keeps {s} (x0 x1 x2 x3) (h : Keeps s x3) : Keeps s (endOp x0 x1 x2 x3) := by
  unfold endOp; try dsimp only
  repeat' first
    | (with_reducible first
      | assumption | apply completeHandle_keeps | apply withProgress_keeps | apply fillRange_keeps | apply copyUnits_keeps
      | apply repairRow_keeps | apply runEncode_keeps | apply storeArray_keeps | apply stageShadow_keeps | apply keepTable_keeps
      | apply emit_keeps | apply setSlot_keeps | apply saveTable_keeps | apply endTransfer_keeps | apply lateTransfer_keeps
      | exact Keeps.refl _)
    | fail_if_no_progress with_reducible refine Keeps.upd rfl rfl rfl ?_
    | split
    | with_reducible refine Keeps.snd (by assumption) ?_
    | with_reducible refine Keeps.snd2 (by assumption) ?_

theorem execHandleComplete_keeps (x0 x1 x2 x3 x4) : KeepsO (tick x0 x4) (execHandleComplete x0 x1 x2 x3 x4) := by
  unfold execHandleComplete; try dsimp only
  repeat' first
    | (with_reducible first
      | assumption | apply guardOk_keeps | apply endOp_keeps | refine fun _ => ?_ | exact Keeps.refl _)
    | fail_if_no_progress with_reducible refine Keeps.upd rfl rfl rfl ?_
    | with_reducible refine Keeps.out ?_
    | split

end Sys2Proof.Machine
end

