-- ==== Sys2Proof/WellFormed.lean ====
section
/-! DEFINITION. Which operands a step can carry: each field of a request fits the width that its payload gives it (R42, R51, R53, R66), each
count lies in the range of its row, and each physical operand fits the type it is reported in. Machine does not consult it: a field of a request
that is out of range is answered by the device with a result code. -/

namespace Sys2Proof

/-- A number fits an unsigned field of `n` bits. -/
def fits (n v : Nat) : Bool := decide (v < 2 ^ n)
/-- A number fits a signed field of `n` bits. -/
def fitsInt (n : Nat) (v : Int) : Bool := decide (-(2 ^ (n - 1)) ≤ v) && decide (v < 2 ^ (n - 1))
/-- R7: a web position in the LPOS format. -/
def lposWf (v : Int) : Bool := fitsInt 64 v
/-- R51: the device time that passes fits the TIME type, whose unit is 1 ns. -/
def dtWf (dt : Nat) : Bool := decide (dt < 2 ^ 64 * 1000)

/-- R51: a number fits the numeric type with this code: BOOL and U8 of one octet, and so on to LPOS, signed, and TIME, unsigned, of eight. -/
def numWf (ty : Nat) (v : Int) : Bool :=
  match ty with
  | 0x01 | 0x02 => decide (0 ≤ v) && decide (v < 2 ^ 8)
  | 0x03 => decide (0 ≤ v) && decide (v < 2 ^ 16)
  | 0x04 | 0x0A => decide (0 ≤ v) && decide (v < 2 ^ 32)
  | 0x05 | 0x0C => decide (0 ≤ v) && decide (v < 2 ^ 64)
  | 0x06 => fitsInt 8 v
  | 0x07 => fitsInt 16 v
  | 0x08 => fitsInt 32 v
  | 0x09 | 0x0B => fitsInt 64 v
  | _ => false

/-- R51: a value has the shape of the type code that its entry names, and each number its size; a code that R51 does not list carries octets. -/
def valWf (ty : Nat) : Val → Bool
  | .num v => numWf ty v
  | .bytes b => (ty == 0x0D && decide (b.length ≤ 255)) || (ty == 0x0E && decide (b.length ≤ 1024)) ||
      ((ty == 0 || (decide (0x0E < ty) && decide (ty ≤ 0x80))) && decide (b.length ≤ 1408))
  | .arr a => decide (0x80 < ty) && decide (a.length < 2 ^ 16) && a.all (numWf (ty - 0x80))

/-- R45: an Ethernet or IP address as a number. -/
def peerWf (p : Peer) : Bool := fits 128 p.addr && fits 48 p.mac

/-- R139 to R142: a received frame: its addresses and ports fit their fields, and its payload fits its length. -/
def ipWf (h : IpHeader) : Bool :=
  fits (if h.v6 then 128 else 32) h.src && fits (if h.v6 then 128 else 32) h.dst && fits 8 h.protocol && fits 16 h.srcPort && fits 16 h.dstPort
def frameWf (f : RxFrame) : Bool :=
  fits 48 f.dst && fits 48 f.src && f.tags.all (fits 12) && fits 16 f.etherType &&
    decide (f.payload.length + 18 + 4 * f.tags.length ≤ f.length) && (match f.ip with | some h => ipWf h | none => true)
def reqWf (r : Req) : Bool := peerWf r.peer

/-- R53: an entry of a READ, and of a WRITE or STAGE. -/
def readEntryWf (e : ReadEntry) : Bool :=
  fits 16 e.idx && fits 8 e.sub && (match e.ue with | some x => (x.1 == 0 || x.1 == 4) && fits 64 x.2 | none => true)
/-- R214: memory codes 1 to 4, and words of at most 4 × 8 MiB. -/
def wordUpsetWf (x : WordUpset) : Bool := decide (1 ≤ x.memory) && decide (x.memory ≤ 4) && fits 22 x.word
/-- R210: codes 01h and 02h read the page store or the supervisor memory. -/
def memReadWf (x : MemRead) : Bool := (x.requester == 1 || x.requester == 2) && (x.memory == 0 || x.memory == 4) && fits 64 x.address
def entryWf (e : Entry) : Bool := fits 16 e.idx && fits 8 e.sub && fits 8 e.ty && valWf e.ty e.val &&
  (match e.ue with | some x => (x.1 == 0 || x.1 == 4) && fits 64 x.2 | none => true)

/-- R53: the entries of one request: 1..64. -/
def countWf {α : Type} (l : List α) : Bool := decide (1 ≤ l.length) && decide (l.length ≤ 64)

/-- A write of one object that has a row of its own. -/
def writeWf (dt : Nat) (r : Req) (sub ty : Nat) (v : Val) : Bool := dtWf dt && reqWf r && fits 8 sub && fits 8 ty && valWf ty v

/-- R144: a stream packet's header fields. -/
def streamWf (p : StreamPkt) : Bool :=
  fits 8 p.version && fits 8 p.typ && fits 16 p.stream && fits 8 p.epoch && fits 32 p.offset && fits 16 p.length && decide (p.payload.length ≤ 9000)

/-- R440: a PTP message's header fields. -/
def ptpWf (m : PtpMsg) : Bool := fits 8 m.domain && fits 16 m.seqId && fits 16 m.sourcePort && fits 16 m.reqPort && fitsInt 64 m.correction
def datasetWf (d : Dataset) : Bool :=
  fits 8 d.priority1 && fits 8 d.clockClass && fits 8 d.accuracy && fits 16 d.variance && fits 8 d.priority2 && fits 16 d.steps

/-- R471: a pair-link record's header. -/
def pairHdrWf (h : PairHdr) : Bool := fits 32 h.seq && fits 32 h.ackSeq

/-- A staged or mirrored write names an object by index and subindex. -/
def objWriteWf (w : ObjWrite) : Bool := fits 16 w.idx && fits 8 w.sub

/-- R295: the decision fields of a change fit the entry's layout. -/
def patchWf (p : NozPatch) : Bool :=
  (p.base.getD 0 < 4) && (p.source.getD 0 < 4) && (p.dropMap.getD 0 < 4) && (p.curve.getD []).all (fun y => fits 12 y)
def nozChangeWf (c : NozChange) : Bool := decide (c.channel + c.count ≤ 524288) && patchWf c.fields
def commitWf (c : Commit) : Bool :=
  fitsInt 48 c.line && c.writes.all objWriteWf && c.nozzles.all nozChangeWf && decide (c.source ≤ 3) && decide (c.target ≤ 2)

/-- R526 to R542: what a cold start finds. -/
def startWf (f : StartFacts) : Bool :=
  f.times.all (fits 32) && decide (f.store ≤ 3) && f.badTiles.all (fun k => decide (k < 36)) && f.badParts.all (fun k => decide (k < 64)) &&
    f.badTables.all (fun t => decide (t.1 < 16) && decide (t.2 < 4)) && f.moving.all (fun c => decide (c < 4)) && f.trims.all (fits 8) &&
    (match f.failed with | some (st, cause, rail, _) => decide (st ≤ 8) && fits 8 cause && decide (rail ≤ 9) | none => true)

def afterWf : AfterRails → Bool
  | .good => true
  | .fails c => decide (2 ≤ c) && decide (c ≤ 6)
  | .retention i f => fits 8 i && startWf f

def entryFactsWf (f : EntryFacts) : Bool :=
  (match f.wake with | some n => decide (n ≤ 5) | none => true) && (match f.store with | some n => fits 32 n | none => true) && (match f.partner with | some (b, r) => decide (b < 8) && decide (r < 16) | none => true)

/-- Every operand of a step fits its field. -/
def Instr.wf : Instr → Bool
  | .read dt r es => dtWf dt && reqWf r && countWf es && es.all readEntryWf
  | .write dt r es => dtWf dt && reqWf r && countWf es && es.all entryWf
  | .stage dt r es => dtWf dt && reqWf r && countWf es && es.all entryWf
  | .check dt r => dtWf dt && reqWf r
  | .commit dt r t l => dtWf dt && reqWf r && fits 8 t && lposWf l
  | .discard dt r => dtWf dt && reqWf r
  | .cmdCancel dt r _ => dtWf dt && reqWf r
  | .claim dt r first count lease => dtWf dt && reqWf r && fits 16 first && fits 16 count && fits 16 lease
  | .release dt r first => dtWf dt && reqWf r && fits 16 first
  | .subscribe dt r ranges sev => dtWf dt && reqWf r && decide (1 ≤ ranges.length) && decide (ranges.length ≤ 8) &&
      ranges.all (fun x => fits 16 x.1 && fits 16 x.2) && fits 8 sev
  | .unsubscribe dt r => dtWf dt && reqWf r
  | .eventAck dt r q => dtWf dt && reqWf r && fits 32 q
  | .keepalive dt r => dtWf dt && reqWf r
  | .open1 dt p _ v role e c h => dtWf dt && peerWf p && fits 8 v && fits 8 role && decide (e.length ≤ 1408) && decide (c.length ≤ 1408) &&
      decide (h.length ≤ 1408)
  | .open3 dt r _ _ => dtWf dt && reqWf r
  | .sessionClose dt r => dtWf dt && reqWf r
  | .blockData dt r _ o d => dtWf dt && reqWf r && fits 32 o && decide (1 ≤ d.length) && decide (d.length ≤ 1024)
  | .discover dt p => dtWf dt && peerWf p
  | .discoverReply dt => dtWf dt
  | .unknownOpcode dt r o => dtWf dt && reqWf r && fits 8 o
  | .frameDiscard dt f c => dtWf dt && frameWf f && fits 64 c.fixed && fits 64 c.bad
  | .protocolQuery dt p q => dtWf dt && peerWf p && fits 128 q.target
  | .sessionTimeout dt _ => dtWf dt
  | .openTimeout dt _ => dtWf dt
  | .enrolWindowEnd dt => dtWf dt
  | .claimLeaseExpiry dt f => dtWf dt && fits 16 f
  | .eventResend dt _ => dtWf dt
  | .handleComplete dt _ _ _ => dtWf dt
  | .handleExpiry dt _ => dtWf dt
  | .commitNotice dt => dtWf dt
  | .deviceCommit dt => dtWf dt
  | .countEdge dt _ _ _ => dtWf dt
  | .index dt _ w => dtWf dt && fits 32 w
  | .wireEpisode50ns dt _ _ => dtWf dt
  | .wireEpisodeEnd dt _ _ n => dtWf dt && decide (50 < n)
  | .wireEpisode1us dt _ _ => dtWf dt
  | .axisStop dt => dtWf dt
  | .supervisorUnreachable dt => dtWf dt
  | .termSwingLow dt _ _ => dtWf dt
  | .axisPreset dt r ty v => writeWf dt r 0 ty v
  | .indexArm dt r sub ty v => writeWf dt r sub ty v
  | .encReenable dt r sub ty v => writeWf dt r sub ty v
  | .sourceRequest dt r ty v => writeWf dt r 0 ty v
  | .fire dt _ _ line r => dtWf dt && fitsInt 48 line && r.upset.all (fun b => decide (b.1 < 3072)) && r.lats.all (fits 32)
  | .speedLimitRise dt => dtWf dt
  | .lineOverrate dt => dtWf dt
  | .slowHoldExpiry dt => dtWf dt
  | .hostSpeedLimit dt r ty v => writeWf dt r 0 ty v
  | .trigOccurrence dt _ => dtWf dt
  | .timeTrigger dt _ => dtWf dt
  | .trigPulseEnd dt _ => dtWf dt
  | .streamData dt p k => dtWf dt && peerWf p && streamWf k
  | .probe dt p k => dtWf dt && peerWf p && streamWf k
  | .ackInterval dt _ => dtWf dt
  | .nak dt _ => dtWf dt
  | .streamEnable dt r sub ty v => writeWf dt r sub ty v
  | .streamReleaseTo dt r sub ty v => writeWf dt r sub ty v
  | .netLink dt _ _ => dtWf dt
  | .decodeLine dt _ _ r => dtWf dt && r.upset.all (fun u => fits 32 u.1) && r.staging.all wordUpsetWf && r.lats.all (fits 32)
  | .decoderFault dt _ _ => dtWf dt
  | .storeRefresh dt _ _ => dtWf dt
  | .stackTempRead dt t => dtWf dt && fitsInt 16 t
  | .scrub dt _ u => dtWf dt && u.data.all (fun x => decide (x.1 < 64))
  | .sramScrub dt _ _ _ => dtWf dt
  | .retireCopyDone dt e => dtWf dt && decide (e < 1024)
  | .counterWriteback dt => dtWf dt
  | .nozzleSave dt => dtWf dt
  | .screenLine dt _ r => dtWf dt && r.upsets.all wordUpsetWf
  | .windowRefill dt _ => dtWf dt
  | .tileCheck dt _ _ => dtWf dt
  | .engineFault dt _ c => dtWf dt && fits 8 c.cause && c.upsets.all wordUpsetWf
  | .engineStall dt _ => dtWf dt
  | .engineRemount dt _ => dtWf dt
  | .sliceFault dt _ => dtWf dt
  | .regionFault dt _ => dtWf dt
  | .dieFault dt _ => dtWf dt
  | .temperature dt _ t => dtWf dt && fitsInt 16 t
  | .warmExit dt _ => dtWf dt
  | .hotExit dt _ => dtWf dt
  | .telemetryTimeout dt _ => dtWf dt
  | .nozzleSense dt _ n _ => dtWf dt && decide (n < 8192)
  | .incompleteSegment dt _ _ l => dtWf dt && fits 16 l.value
  | .missedFires dt _ _ q m => dtWf dt && fits 8 q && fits 8 m.value
  | .claimStatus dt _ o r e => dtWf dt && fits 2 o && fits 8 r && fits 16 e
  | .configResponse dt _ t st _ => dtWf dt && fits 8 t && fits 8 st
  | .configTimeout dt _ t => dtWf dt && fits 8 t
  | .caps dt _ ws => dtWf dt && ws.all (fun w => decide (w.1 < 12))
  | .echoReply dt _ x => dtWf dt && fits 32 x.flight
  | .latencyMeasure dt _ => dtWf dt
  | .traceDetect dt _ _ => dtWf dt
  | .blockLock dt x => dtWf dt && decide (x.adapt.length ≤ 256)
  | .bringupStepFail dt _ => dtWf dt
  | .lockLost dt _ => dtWf dt
  | .errorLimit dt _ n => dtWf dt && fits 32 n
  | .eyeRead dt _ x a => dtWf dt && fits 16 x.width && fits 16 x.height && decide ((a.getD []).length ≤ 256)
  | .claimSend dt _ => dtWf dt
  | .traceEnable dt r sub ty v => writeWf dt r sub ty v
  | .tracePower dt r sub ty v => writeWf dt r sub ty v
  | .reinStopTimeout dt => dtWf dt
  | .reinReverseTimeout dt => dtWf dt
  | .reinHoldTimeout dt => dtWf dt
  | .reinRunTimeout dt => dtWf dt
  | .rearm dt => dtWf dt
  | .pressRefuse dt r ty v => writeWf dt r 0 ty v
  | .stopClear dt r ty v => writeWf dt r 0 ty v
  | .lineTrigger dt _ => dtWf dt
  | .frameStart dt _ _ => dtWf dt
  | .cameraLine dt _ _ ty px _ _ upsets => dtWf dt && fits 6 ty && decide (px.length ≤ 16384) && px.all (fits 12) && upsets.all wordUpsetWf
  | .frameEnd dt _ _ => dtWf dt
  | .startWindow dt _ => dtWf dt
  | .exposureListDone dt _ _ => dtWf dt
  | .sliceDone dt _ => dtWf dt
  | .cciBusStuck dt _ _ => dtWf dt
  | .loopBar dt => dtWf dt
  | .sync dt m ago => dtWf dt && ptpWf m && fits 64 ago
  | .followUp dt m => dtWf dt && ptpWf m
  | .delayReq dt m ago => dtWf dt && ptpWf m && fits 64 ago
  | .delayResp dt m => dtWf dt && ptpWf m
  | .announce dt m d => dtWf dt && ptpWf m && datasetWf d
  | .ptpOther dt _ t => dtWf dt && fits 4 t
  | .announceTimeout dt => dtWf dt
  | .ptpSendInterval dt _ t => dtWf dt && fits 4 t
  | .followUpTimeout dt => dtWf dt
  | .timeRoleWrite dt r i ty v => writeWf dt r 0 ty v && fits 16 i
  | .txStampPop dt r sub ty v => writeWf dt r sub ty v
  | .evtCapture dt _ _ d _ => dtWf dt && decide (-3000 ≤ d) && decide (d ≤ 3000)
  | .capturePop dt r sub ty v => writeWf dt r sub ty v
  | .pdCycle dt => dtWf dt
  | .correlation dt => dtWf dt
  | .heartbeat dt h b => dtWf dt && pairHdrWf h && decide (b.state ≤ 6) && fitsInt 80 b.w && fits 32 b.fireUe && fits 8 b.servo &&
      (match b.request with | some t => decide (t ≤ 4) | none => true) && (match b.outcome with | some (k, r) => decide (k < 8) && decide (r < 16) | none => true)
  | .heartbeatSend dt => dtWf dt
  | .pairAck dt h => dtWf dt && pairHdrWf h
  | .commitRecord dt h c sh => dtWf dt && pairHdrWf h && commitWf c && sh.all (fits 16)
  | .writeRecord dt h es => dtWf dt && pairHdrWf h && es.all objWriteWf
  | .blockRecord dt h b => dtWf dt && pairHdrWf h && fits 16 b.handle && fits 32 b.offset && decide (b.data.length ≤ 1024)
  | .axisRecord dt h a => dtWf dt && pairHdrWf h && decide (a.kind ≤ 2) && fits 8 a.why && decide (a.source < 4) && a.armed.all (fun c => decide (c < 4)) &&
      a.marks.all (fun m => decide (m.1 < 140))
  | .lposRecord dt h t c l => dtWf dt && pairHdrWf h && fitsInt 80 t && fitsInt 48 c && fitsInt 80 l
  | .lposSend dt => dtWf dt
  | .ringRecord dt h _ cum rel rs limit => dtWf dt && pairHdrWf h && fits 64 cum && fits 64 rel && fits 64 limit &&
      rs.all (fun r => fits 64 r.1 && fits 64 r.2)
  | .digest dt h _ => dtWf dt && pairHdrWf h
  | .loopRecord dt h b => dtWf dt && pairHdrWf h && fits 32 b.j
  | .reinRecord dt h b => dtWf dt && pairHdrWf h && decide (b.state ≤ 4) && b.held.all (fun x => decide (x.1 < 128) && decide (x.2.1 ≤ 5)) && decide (b.cause ≤ 5)
  | .timeRecord dt h b => dtWf dt && pairHdrWf h && fits 8 b.servo
  | .logRecord dt h _ => dtWf dt && pairHdrWf h
  | .releaseRecord dt h t => dtWf dt && pairHdrWf h && fits 8 t
  | .ident dt h b => dtWf dt && pairHdrWf h && decide (b.key.length ≤ 97) && decide (b.random.length ≤ 32) && fits 8 b.preference
  | .snapshot dt h b => dtWf dt && pairHdrWf h && b.commits.all commitWf && decide (b.job ≤ 3) &&
      b.objects.all (fun o => fits 16 o.1 && fits 8 o.2.1) && b.nozzles.all (fun n => decide (n.1 < 524288))
  | .fill dt h b => dtWf dt && pairHdrWf h && decide (b.ring < 64) && fits 64 b.seq && decide (b.data.length ≤ 9000)
  | .echo dt h l o d => dtWf dt && pairHdrWf h && fits 64 l && fitsInt 80 o && fitsInt 80 d
  | .echoSend dt => dtWf dt
  | .recordResend dt q => dtWf dt && fits 32 q
  | .partnerSilent dt => dtWf dt
  | .mirrorTimeout dt => dtWf dt
  | .pairLaneChange dt _ _ => dtWf dt
  | .peerLead dt _ => dtWf dt
  | .searchTimeout dt => dtWf dt
  | .enterIdle dt r => dtWf dt && reqWf r
  | .enterSleep dt r f => dtWf dt && reqWf r && entryFactsWf f
  | .enterDeepSleep dt r f => dtWf dt && reqWf r && entryFactsWf f
  | .enterOff dt r f => dtWf dt && reqWf r && entryFactsWf f
  | .returnToRun dt r => dtWf dt && reqWf r
  | .coreIdleStop dt => dtWf dt
  | .wake dt _ f => dtWf dt && startWf f
  | .wakeTimer dt _ => dtWf dt
  | .pmbusAck dt x a => dtWf dt && fits 16 x.mv && afterWf a
  | .pmbusTimeout dt _ => dtWf dt
  | .pmbAlert dt _ _ mv => dtWf dt && fits 16 mv
  | .railTelemetry dt rs => dtWf dt && decide (rs.length ≤ 9) && rs.all (fun x => x.all (fitsInt 32))
  | .powerOnReset dt f => dtWf dt && startWf f
  | .resetN dt _ f => dtWf dt && startWf f
  | .startRetry dt f => dtWf dt && startWf f
  | .brownout dt mv => dtWf dt && fits 16 mv
  | .vsupRecovered dt mv => dtWf dt && fits 16 mv
  | .supervisorReset dt => dtWf dt
  | .overvolt dt mv => dtWf dt && fits 16 mv
  | .vsup3Overload dt => dtWf dt
  | .dieTemp dt a b c => dtWf dt && fitsInt 16 a && fitsInt 16 b && fitsInt 16 c
  | .outputReadback dt _ _ => dtWf dt
  | .refclkLoss dt => dtWf dt
  | .coreFault dt _ x => dtWf dt && (match x.ue with | some x => memReadWf x | none => true)
  | .coreRestartDone dt _ => dtWf dt
  | .configStoreWrite dt => dtWf dt
  | .lifeHour dt => dtWf dt
  | .encCalDeferred dt _ taps => dtWf dt && taps.all (fits 8)
  | .tapStep dt lane _ => dtWf dt && decide (lane < 1152)
  | .statusClear dt r _ ty v => writeWf dt r 0 ty v
  | .storePartition dt r sub ty v => writeWf dt r sub ty v
  | .errorLogClear dt r ty v => writeWf dt r 0 ty v
  | .defectLogClear dt r ty v => writeWf dt r 0 ty v
  | .storeFill dt r a l _ c => dtWf dt && reqWf r && fits 64 a && fits 64 l && fits 8 c
  | .storeCopy dt r a b l c => dtWf dt && reqWf r && fits 64 a && fits 64 b && fits 64 l && fits 8 c
  | .integInject dt r a => dtWf dt && reqWf r && fits 8 a.memory && fits 64 a.address && decide (a.data.length ≤ 64) && decide (a.dataMask.length ≤ 64) &&
      fits 64 (a.fold.getD 0) && fits 8 a.mode
  | .integReadRaw dt r m a => dtWf dt && reqWf r && fits 8 m && fits 64 a
  | .rowRepair dt r pc sid bank row => dtWf dt && reqWf r && fits 8 pc && fits 8 sid && fits 8 bank && fits 16 row
  | .retire dt r pc sid bank block => dtWf dt && reqWf r && fits 8 pc && fits 8 sid && fits 8 bank && fits 32 block
  | .encode dt r a => dtWf dt && reqWf r && a.all (fits 64)
  | .thresholdLoad dt r slot w h n _ => dtWf dt && reqWf r && fits 8 slot && fits 16 w && fits 16 h && fits 8 n
  | .nozzleTableWrite dt r first count _ => dtWf dt && reqWf r && fits 32 first && fits 32 count
  | .nozzleTableRead dt r first count _ => dtWf dt && reqWf r && fits 32 first && fits 32 count
  | .nozzleTableSave dt r => dtWf dt && reqWf r
  | .nozzleCountReset dt r first count => dtWf dt && reqWf r && fits 32 first && fits 32 count
  | .traceBringUp dt r lane => dtWf dt && reqWf r && fits 8 lane
  | .bridgeAccess dt r lane _ addr _ => dtWf dt && reqWf r && fits 8 lane && fits 16 addr
  | .inspTableLoad dt r sensor table _ => dtWf dt && reqWf r && fits 8 sensor && fits 8 table
  | .frameHold dt r sensor _ _ => dtWf dt && reqWf r && fits 8 sensor
  | .cciAccess dt r port address flags register _ op => dtWf dt && reqWf r && fits 8 port && fits 8 address && fits 8 flags && fits 16 register && fits 8 op
  | .inspStatRead dt r sensor _ => dtWf dt && reqWf r && fits 8 sensor
  | .timeAcceptJump dt r => dtWf dt && reqWf r
  | .ptpSend dt r port msg => dtWf dt && reqWf r && fits 8 port && decide (msg.length ≤ 1400)
  | .pdStart dt r cycle phase => dtWf dt && reqWf r && fits 32 cycle && fits 32 phase
  | .pdStop dt r => dtWf dt && reqWf r
  | .pair dt r => dtWf dt && reqWf r
  | .unpair dt r => dtWf dt && reqWf r
  | .handover dt r => dtWf dt && reqWf r
  | .imageWrite dt r length _ => dtWf dt && reqWf r && fits 32 length
  | .imageActivate dt r f => dtWf dt && reqWf r && startWf f
  | .imageConfirm dt r => dtWf dt && reqWf r
  | .faultClear dt r => dtWf dt && reqWf r
  | .unknownCommand dt r idx => dtWf dt && reqWf r && fits 16 idx
  | .traceBlockDiscard dt _ _ => dtWf dt
  | .cameraPacketError dt _ _ why => dtWf dt && fits 8 why
  | .jtagInstruction dt _ => dtWf dt
  | .terminationDisconnect dt _ _ => dtWf dt
  | .terminationReconnect dt _ _ => dtWf dt
  | .outputAgreement dt _ => dtWf dt
  | .vsup3LoadRecovered dt => dtWf dt
  | .vsupSample dt mv => dtWf dt && fits 16 mv

end Sys2Proof
end

