-- ==== Sys2Proof/Tests/Slice0.lean ====
section
/-! SUPPORT. The tests of the model: operands that the well-formedness check refuses, and for each statement of the certificate a
state and operands that meet its hypotheses, named after the statement. -/

set_option autoImplicit false
set_option Elab.async false

namespace Sys2Proof.Tests
open Sys2Proof Sys2Proof.Machine

/-- A request that is served, with what else is asked of the state in which it runs. -/
theorem servedWit {dt : Nat} {r : Req} {rc : Bool} {k : Nat} {s : State} {P : State → Prop} (h : (hears (tick dt s) r.peer = true ∧
    freshSlot (tick dt s) r = some k ∧ ((servedState dt r k s).sess k).tickReqs ≤ 32 ∧ barred (servedState dt r k s) rc = false) ∧
    P (servedState dt r k s)) : ∃ u, Served dt r rc k s u ∧ P u :=
  ⟨_, ⟨h.1.1, h.1.2.1, rfl, h.1.2.2.1, h.1.2.2.2⟩, h.2⟩

theorem servedWit0 {dt : Nat} {r : Req} {rc : Bool} {k : Nat} {s : State} (h : (hears (tick dt s) r.peer = true ∧
    freshSlot (tick dt s) r = some k ∧ ((servedState dt r k s).sess k).tickReqs ≤ 32 ∧ barred (servedState dt r k s) rc = false)) :
    ∃ u, Served dt r rc k s u :=
  ⟨_, h.1, h.2.1, rfl, h.2.2.1, h.2.2.2⟩

/-- A CMD_START that is served and starts. -/
theorem startsWit {dt : Nat} {r : Req} {rc : Bool} {k : Nat} {s : State} {j idx role : Nat} {op : Op} {h : Nat} {P : State → Prop}
    (w : (hears (tick dt s) r.peer = true ∧ freshSlot (tick dt s) r = some k ∧ ((servedState dt r k s).sess k).tickReqs ≤ 32 ∧
      barred (servedState dt r k s) rc = false) ∧
      (role ≤ ((servedState dt r k s).sess j).role ∧ (isWheeler (servedState dt r k s) = false ∨ chipLocalCmd idx = true) ∧
        ((servedState dt r k s).axis.supervisorLost = false ∨ supervisorRuns idx = false) ∧ freeSlot (servedState dt r k s) = some h ∧
        (needsMover op = false ∨ moversUsed (servedState dt r k s) < 96)) ∧ P (servedState dt r k s)) :
    ∃ u, Served dt r rc k s u ∧ Starts j idx role op h u ∧ P u :=
  servedWit ⟨w.1, ⟨w.2.1.1, w.2.1.2.1, w.2.1.2.2.1, w.2.1.2.2.2.1, w.2.1.2.2.2.2⟩, w.2.2⟩

theorem startsWit0 {dt : Nat} {r : Req} {rc : Bool} {k : Nat} {s : State} {j idx role : Nat} {op : Op} {h : Nat}
    (w : (hears (tick dt s) r.peer = true ∧ freshSlot (tick dt s) r = some k ∧ ((servedState dt r k s).sess k).tickReqs ≤ 32 ∧
      barred (servedState dt r k s) rc = false) ∧
      (role ≤ ((servedState dt r k s).sess j).role ∧ (isWheeler (servedState dt r k s) = false ∨ chipLocalCmd idx = true) ∧
        ((servedState dt r k s).axis.supervisorLost = false ∨ supervisorRuns idx = false) ∧ freeSlot (servedState dt r k s) = some h ∧
        (needsMover op = false ∨ moversUsed (servedState dt r k s) < 96))) :
    ∃ u, Served dt r rc k s u ∧ Starts j idx role op h u :=
  servedWit ⟨w.1, w.2.1, w.2.2.1, w.2.2.2.1, w.2.2.2.2.1, w.2.2.2.2.2⟩

/-- The state in which a WRITE of these entries takes effect. -/
def passState (dt : Nat) (r : Req) (es : List Entry) (k : Nat) (s : State) : State :=
  (arbitrate k r (objectKeys es) false (servedState dt r k s)).2

/-- A WRITE that is served and passes. -/
theorem wpWit {dt : Nat} {r : Req} {es : List Entry} {k : Nat} {s : State} {P : State → Prop}
    (h : (hears (tick dt s) r.peer = true ∧ freshSlot (tick dt s) r = some k ∧ ((servedState dt r k s).sess k).tickReqs ≤ 32 ∧
      barred (servedState dt r k s) false = false) ∧ ((arbitrate k r (objectKeys es) false (servedState dt r k s)).1 = none ∧ (1 ≤ es.length ∧ es.length ≤ 64) ∧
      judgeEntries (passState dt r es k s) es (claimsOfTick (passState dt r es k s)) ((passState dt r es k s).sess k).id
        ((passState dt r es k s).sess k).role false es 0 = none) ∧ P (passState dt r es k s)) : ∃ v, WritePasses dt r es k s v ∧ P v :=
  ⟨_, ⟨servedWit ⟨h.1, Prod.ext h.2.1.1 rfl⟩, h.2.1.2.1, h.2.1.2.2⟩, h.2.2⟩

theorem wpWit0 {dt : Nat} {r : Req} {es : List Entry} {k : Nat} {s : State}
    (h : (hears (tick dt s) r.peer = true ∧ freshSlot (tick dt s) r = some k ∧ ((servedState dt r k s).sess k).tickReqs ≤ 32 ∧
      barred (servedState dt r k s) false = false) ∧ ((arbitrate k r (objectKeys es) false (servedState dt r k s)).1 = none ∧ (1 ≤ es.length ∧ es.length ≤ 64) ∧
      judgeEntries (passState dt r es k s) es (claimsOfTick (passState dt r es k s)) ((passState dt r es k s).sess k).id
        ((passState dt r es k s).sess k).role false es 0 = none)) : ∃ v, WritePasses dt r es k s v :=
  ⟨_, servedWit ⟨h.1, Prod.ext h.2.1 rfl⟩, h.2.2.1, h.2.2.2⟩

theorem freshWit {h : PairHdr} {s : State} {P : Prop} (w : (pairRuns s = true ∧ h.crcOk = true ∧ s.pair.rxSeq < h.seq ∧
    s.pair.rxAbove.contains h.seq = false) ∧ P) : FreshRecord h s ∧ P :=
  ⟨⟨w.1.1, w.1.2.1, w.1.2.2.1, w.1.2.2.2⟩, w.2⟩

theorem freshWit0 {h : PairHdr} {s : State} (w : pairRuns s = true ∧ h.crcOk = true ∧ s.pair.rxSeq < h.seq ∧
    s.pair.rxAbove.contains h.seq = false) : FreshRecord h s :=
  ⟨w.1, w.2.1, w.2.2.1, w.2.2.2⟩

theorem loneWit {dt : Nat} {s : State} {P : Prop} (w : ((∀ i ∈ s.pending, instrTime i ≠ 0) ∧ s.screen.faultCycle ≠ (s.time.now + dt) / 1000) ∧ P) :
    LoneFault dt s ∧ P :=
  ⟨⟨w.1.1, w.1.2⟩, w.2⟩

theorem cleanWit {s : State} {P : Prop} (w : (s.store.marks = [] ∧ s.store.unwritten = [] ∧ s.integ.skipped = [] ∧ s.integ.sramErr = []) ∧ P) :
    CleanMemories s ∧ P :=
  ⟨⟨w.1.1, w.1.2.1, w.1.2.2.1, w.1.2.2.2⟩, w.2⟩

/-- A host on NET_0, its request, and a state in which it holds session 1 in slot 0 with the role of a service engineer. -/
def host : Peer := { port := .net0, addr := 7 }
def rq : Req := ⟨1, 5, 1, host⟩
def cf (s : State) (idx sub : Nat) (n : Int) : State := setCfg s idx sub (.num n) 0
def oS : State := State.reset.setSess 0 { phase := .opened, id := 1, role := 3, node := 1, peer := host, highSeq := 4 }

/-- The same with the command `op` running under the handle of slot 0. -/
def hS (op : Op) : State := oS.setHandle 0 { use := 1, used := true, phase := .running, owner := 1, role := 2, op := op }

/-- A frame of the object protocol on NET_0 with this header and `n` more bytes, all 0, and the header of a request of the host to this node. -/
def frameH (h : Header) (n : Nat) : RxFrame := ⟨.net0, 64, true, 0xFFFFFFFFFFFF, 7, [], 0x88B5, none, headerBytes h ++ List.replicate n 0, true⟩
def hdr1 : Header := { kind := 2, version := 1, flags := 0, dst := 1, src := 1, sess := 1, seq := 5, opcode := 0x0F, length := 0 }
def netS : State := setCfg (cf { oS with start := { oS.start with node := some 1, macs := [(0, [0, 0, 0, 0, 0, 9])] } } 0x1021 0 5) 0x1023 0 (.bytes (List.replicate 16 1)) 0
def frame0 : RxFrame := frameH hdr1 16
def badTag : RxFrame := { frame0 with tagOk := false }
def toAll : RxFrame := frameH { hdr1 with flags := 0x8000, dst := 0xFFFF } 16
def toOther : RxFrame := frameH { hdr1 with dst := 2 } 16
def badFcs : RxFrame := { frame0 with fcsOk := false }
def twoTags : RxFrame := { frame0 with tags := [1, 2] }
def macControl : RxFrame := { frame0 with etherType := 0x8808 }
def otherMac : RxFrame := { frame0 with dst := 5 }
def otherType : RxFrame := { frame0 with etherType := 0x1234 }
def otherKind : RxFrame := { frame0 with payload := [3] }
def shortMsg : RxFrame := frameH { hdr1 with length := 100 } 16

/-- Nothing stands against an entry, and a start that finds everything in order. -/
def entryOk : EntryFacts := ⟨none, false, none, none⟩
def startOk : StartFacts := ⟨[], none, false, 0, false, false, [], [], [], [], [], [], [], [], []⟩
/-- A tandem lead whose partner stands by. -/
def leadS : State := { oS with pair := { oS.pair with tandem := true, state := 3, leadN := true, lanes := [(0, true)], heartbeat := some ⟨5, 0, 0, 0, 0, 0, false, true, true, false, 0, none, none⟩ } }

/-- Output 7 in position mode, and its next occurrence predicted for now. -/
def trigS : State := (cf (cf { oS with axis := { oS.axis with state := 1 } } 0x9040 7 1) 0x4071 7 65536).setTrig 7 { skipBelow := -1 }
def predS : State := trigS.setTrig 7 { trigS.trig 7 with pred := (trigNextPos trigS 7).map (fun F => (F, 0)) }

/-- A DATA packet of 64 bytes for ring `n`, and a probe. -/
def dataPkt (n : Nat) : StreamPkt := ⟨1, 1, 0, n, 0, true, false, false, 1, 0, 0, 0, 64, true, true, List.replicate 64 0x5A⟩
def probePkt (n : Nat) : StreamPkt := ⟨1, 1, 3, n, 0, false, false, false, 0, 0, 0, 0, 0, true, true, []⟩
def ringOn (n : Nat) (s : State) : State := cf ((s.setPort 0 { s.port 0 with up := true }).setRing n { s.ring n with enable := true, limit := 1024, limitWas := 1024 }) 0x5001 n 67108864
/-- A job runs whose plane 0 is one head of 64 nozzles, with ring 0 for it, a page of ten lines and its first stripe. -/
def printS : State :=
  let s := cf (cf (cf (ringOn 0 oS) 0x7000 0 0) 0x7001 0 64) 0x7002 0 1
  let s := s.setRing 0 { s.ring 0 with index := [{ base := 0, len := some 64, page := 1, stripe := 0, state := .complete }] }
  { s with gait := { s.gait with job := 1, pages := [⟨1, 0, 10, 0, 1, false, false, 10, false, none, false⟩] }, axis := { s.axis with state := 1 } }

/-- The same, the stripe's first line decoded: with a blank stripe in the store, and with nothing there. -/
def decS : State := printS.setRing 0 { printS.ring 0 with index := [{ base := 0, len := some 64, page := 1, stripe := 0, state := .complete, depth := some 10, row := some 0, nextLine := 1 }] }
def badS : State := { decS with store := { decS.store with mem := storeBytes decS.store.mem (ringAddr decS 0 0) ([0x4C, 0x47, 1, 0, 0, 0, 0, 1] ++ List.replicate 56 0) } }
def blankS : State := { decS with store := { decS.store with mem := storeBytes decS.store.mem (ringAddr decS 0 0) ([0x4C, 0x47, 1, 0x80] ++ List.replicate 60 0) } }

/-- Head `h` prints on plane 0 and its link is active. -/
def headOn (h : Nat) (s : State) : State := cf (s.setLane h { s.lane h with state := 6 }) 0x7000 h 0

/-- Camera port 3 is enabled with sensor 15, whose frame 1 of 4 lines of 64 pixels is open. -/
def camCfg : State := cf (setCfg (setCfg oS 0x8010 15 (.bytes ([0xFE, 0, 0x2A, 0, 64] ++ List.replicate 11 0)) 0) 0x8000 3 (.num 1) 0) 0x8000 3 1
def frame1 : Frame := { frame := 1, sensor := 15, port := 3, vc := 15, dtype := 0x2A, width := 64, linesCfg := 4, first := 0, pitch := 1, trigTime := 0, trigAt := 0, space := 4096 }
def camS (f : Frame) : State := { camCfg with insp := { camCfg.insp with frames := [f] } }
/-- A web in position, and a PTP port that follows master 7. -/
def ptpS : State := ((oS.setPort 0 { oS.port 0 with up := true }).setPtpPort 0 { state := 9, foreign := [⟨7, 2, [1], 0⟩], sync := some (5, 100, 0), t1t2 := some (100 * 65536, 200 * 65536), delayReq := some (5, 300 * 65536) })
def syncMsg (two : Bool) : PtpMsg := ⟨0, 0, 5, 7, 1, 0, two, 1000, ownClock, 1⟩

/-- The frame's next line of port 3 is due, and predicted for now. -/
def camTrigS : State := { (camCfg.setCamPort 3 { frameF := some (-100 * oneLine), frameLines := 5, m := 4, mark := some (-200 * oneLine) }) with axis := { oS.axis with state := 1 } }
def camPredS : State := camTrigS.setCamPort 3 { camTrigS.camPort 3 with pred := (camDue camTrigS 3).map (fun d => (d.pos, 0)) }

/-- A new frame of port 3 is due. -/
def camNewS : State := { ((cf camCfg 0x8000 3 5).setCamPort 3 { mark := some (-200 * oneLine) }) with axis := { oS.axis with state := 1 } }
def camNewPredS : State := camNewS.setCamPort 3 { camNewS.camPort 3 with pred := (camDue camNewS 3).map (fun d => (d.pos, 0)) }

/-- A bar of plane 0 (head 0, 64 nozzles, the first of them absent), imaged by sensor 15, with a record for each of its windows; `v` is the value of
the rung windows. -/
def bar1 : Bar := ⟨3, 0, [0], 1, 0, 0, true⟩
def barS (v : Int) : State :=
  let s := cf (cf (cf (cf camCfg 0x7000 0 0) 0x7001 0 64) 0x7002 0 1) 0x8000 3 5
  let s := { s with noz := { s.noz with base := [(0, { absent := true })] }, gait := { s.gait with w := 100000 * oneLine } }
  let rec1 := fun (w : Window) (p : Nat) => (⟨1, 15, if w.marks then 2 else 1, p, w.num, 0, 0, w.first, 0, 8, 0, List.replicate 64 (if w.num = 0x80 then 2000 else v), []⟩ : StatRec)
  { s with loop := { s.loop with bars := [bar1] }, insp := { s.insp with stats := (barWindows s bar1).flatMap (fun (w : Window) => w.planes.map (rec1 w)) } }

/-- The header of a record that is new, and a wheeler that stands by. -/
def hd (ack : Bool) : PairHdr := ⟨5, ack, 2, true⟩
def wheelS (st : Nat) : State := { oS with pair := { oS.pair with tandem := true, state := st, heardAt := some 0, lanes := [(0, true)], kKnown := true } }
def beat1 : Heartbeat := ⟨5, 0, 0, 0, 0, 0, false, true, true, false, 0, none, none⟩
def axisRec1 : AxisRec := ⟨0, 0, 0, 0, 1, none, 77, true, [], []⟩
def ident1 (ok : Bool) : IdentRec := ⟨[1], 9, 0, 0, ok, [], 2, false⟩
def snap1 : Snapshot := ⟨[], 9, [], 0, [], [], [], [], axisRec1, ⟨0, 0, none, 0, 0, 0, 0, [], 0, 0⟩, ⟨0, none⟩, ⟨0, 0, 0, 0, false⟩, ⟨0, 0, none, none, {}⟩⟩

def searchS : State := { wheelS 1 with pair := { (wheelS 1).pair with heardAt := none } }

/-- A device with a valid image in slot 0, and one with none. -/
def goodS : State := { State.reset with start := { State.reset.start with slots := [{ reason := 0 }] } }
def failFacts : StartFacts := { startOk with failed := some (2, 1, 4, 0) }
def sleepS (st : Nat) : State := { State.reset with power := { State.reset.power with state := st } }
def wakeTimerS : State := cf (cf (sleepS 2) 0x3001 0 3) 0x3003 0 1

/-! ### Well-formedness: operands that fit, and an operand that does not fit for each check -/

def hdr : PairHdr := ⟨1, false, 0, true⟩
def ptp0 : PtpMsg := ⟨0, 0, 0, 0, 0, 0, false, 0, 0, 0⟩
def pkt0 : StreamPkt := ⟨1, 1, 0, 0, 0, false, false, false, 0, 0, 0, 0, 0, true, true, []⟩
def refused (l : List Instr) : Bool := l.all (fun i => !i.wf)

theorem test_wf_accepts_operands_at_their_bounds : [
    Instr.read 0 rq (List.replicate 64 { idx := 0xFFFF, sub := 255, pending := true, ue := some (4, 8) }), .write (2 ^ 64 * 1000 - 1) rq [entry 0 0 9 (.num (-(2 ^ 63)))], .commit 0 rq 255 (2 ^ 63 - 1),
    .subscribe 0 rq [(0, 0xFFFF)] 255, .blockData 0 rq 0 0xFFFFFFFF (List.replicate 1024 0), .wireEpisodeEnd 0 0 0 51, .fire 0 0 0 (-(2 ^ 47)) { upset := [(3071, 1)], lats := [5] },
    .scrub 0 0 ⟨[(63, 1)], 0, 0⟩, .screenLine 0 0 ⟨[⟨4, 2 ^ 22 - 1, 1, 0⟩], false⟩, .tapStep 0 1151 true, .streamData 0 host pkt0, .sync 0 ptp0 0, .pairAck 0 hdr,
    .heartbeat 0 hdr ⟨6, 0, 0, 0, 0, 255, false, false, false, true, 0, some 4, some (7, 15)⟩, .commitRecord 0 hdr ⟨0, 0, [⟨0, 0, .num 0⟩], [⟨0, 1, {}⟩], false, 3, 0, 2, false, false⟩ [0],
    .axisRecord 0 hdr ⟨2, 0, 0, 0, 3, none, 0, true, [3], [(139, none)]⟩, .ringRecord 0 hdr 0 0 0 [(0, 0)] 0, .reinRecord 0 hdr ⟨4, 0, none, 0, 0, 0, 0, [(127, 5, 0)], 5, 0⟩,
    .fill 0 hdr ⟨63, 0, 0, 0, 0, 0, []⟩, .ident 0 hdr ⟨[], 0, 0, 0, true, [], 0, false⟩, .echo 0 hdr 0 0 0, .integInject 0 rq ⟨0, 0, [], [], 0, none, 0⟩,
    .cciAccess 0 rq 0 0 0 0 0 0, .announce 0 ptp0 ⟨0, 0, 0, 0, 0, 0, 0⟩, .cameraLine 0 0 0 63 [4095] true false [], .blockRecord 0 hdr ⟨0, .nozzleWrite 0 1, 0, []⟩,
    .open1 0 host 0 0 0 [] [] [], .frameDiscard 0 frame0 ⟨7, 2⟩, .evtCapture 0 0 true (-3000) false, .retire 0 rq 0 0 0 0, .thresholdLoad 0 rq 0 0 0 0 0, .axisPreset 0 rq 2 (.num 255),
    .powerOnReset 0 startOk, .enterSleep 0 rq entryOk].all Instr.wf = true := by decide +kernel

theorem test_wf_refuses_time_and_header : refused [
    .keepalive (2 ^ 64 * 1000) rq, .keepalive 0 { rq with peer := { host with addr := 2 ^ 128 } }, .discover 0 { port := .mgmt, addr := 2 ^ 128 }, .protocolQuery 0 { port := .net1, addr := 2 ^ 128 } ⟨.arp, 0⟩, .protocolQuery 0 host ⟨.mld, (2 ^ 128)⟩, .discover 0 { host with mac := 2 ^ 48 }]
    = true := by decide +kernel

theorem test_wf_refuses_entries : refused [
    .read 0 rq [], .read 0 rq (List.replicate 65 { idx := 0, sub := 0, pending := false }), .read 0 rq [{ idx := 2 ^ 16, sub := 0, pending := false }], .read 0 rq [{ idx := 0, sub := 256, pending := false }], .read 0 rq [{ idx := 0, sub := 0, pending := false, ue := some (1, 0) }],
    .write 0 rq [], .write 0 rq [entry (2 ^ 16) 0 1 (.num 0)], .write 0 rq [entry 0 256 1 (.num 0)], .write 0 rq [entry 0 0 256 (.num 0)],
    .stage 0 rq [entry 0 0 1 (.num 256)], .stage 0 rq [entry 0 0 2 (.num (-1))], .stage 0 rq [entry 0 0 5 (.num (2 ^ 64))],
    .stage 0 rq [entry 0 0 13 (.bytes (List.replicate 1025 0))], .stage 0 rq [entry 0 0 14 (.arr (List.replicate 1401 0))],
    .stage 0 rq [entry 0 0 14 (.arr [2 ^ 64])]] = true := by decide +kernel

theorem test_wf_refuses_requests : refused [
    .commit 0 rq 256 0, .commit 0 rq 0 (2 ^ 63), .claim 0 rq (2 ^ 16) 0 0, .claim 0 rq 0 (2 ^ 16) 0, .claim 0 rq 0 0 (2 ^ 16), .release 0 rq (2 ^ 16),
    .subscribe 0 rq [] 0, .subscribe 0 rq (List.replicate 9 (0, 0)) 0, .subscribe 0 rq [(2 ^ 16, 0)] 0, .subscribe 0 rq [(0, 0)] 256,
    .eventAck 0 rq (2 ^ 32), .open1 0 host 0 256 0 [] [] [], .open1 0 host 0 0 256 [] [] [], .open1 0 host 0 0 0 (List.replicate 1409 0) [] [],
    .blockData 0 rq 0 0 [], .blockData 0 rq 0 0 (List.replicate 1025 0), .blockData 0 rq 0 (2 ^ 32) [0], .unknownOpcode 0 rq 256,
    .claimLeaseExpiry 0 (2 ^ 16), .unknownCommand 0 rq (2 ^ 16)] = true := by decide +kernel

theorem test_wf_refuses_object_writes : refused [
    .axisPreset 0 rq 256 (.num 0), .indexArm 0 rq 256 2 (.num 0), .encReenable 0 rq 0 2 (.num 256), .timeRoleWrite 0 rq (2 ^ 16) 2 (.num 0),
    .statusClear 0 rq .comm 4 (.num (2 ^ 64)), .storePartition 0 rq 0 5 (.num (2 ^ 64))] = true := by decide +kernel

theorem test_wf_refuses_physical_operands : refused [
    .index 0 0 (2 ^ 32), .wireEpisodeEnd 0 0 0 50, .fire 0 0 0 (2 ^ 47) {}, .fire 0 0 0 0 { upset := [(3072, 1)] }, .fire 0 0 0 0 { lats := [2 ^ 32] }, .decodeLine 0 0 0 ⟨[(2 ^ 32, 0)], [], []⟩, .decodeLine 0 0 0 ⟨[], [⟨0, 0, 1, 0⟩], []⟩, .decodeLine 0 0 0 ⟨[], [], [2 ^ 32]⟩, .stackTempRead 0 32768,
    .scrub 0 0 ⟨[(64, 1)], 0, 0⟩, .retireCopyDone 0 1024, .screenLine 0 0 ⟨[⟨5, 0, 1, 0⟩], true⟩, .screenLine 0 0 ⟨[⟨1, 2 ^ 22, 1, 0⟩], true⟩, .engineFault 0 0 ⟨256, []⟩,
    .temperature 0 0 (-32769), .nozzleSense 0 0 8192 true, .incompleteSegment 0 0 0 ⟨(2 ^ 16), 0⟩, .missedFires 0 0 0 256 ⟨0, 0⟩, .missedFires 0 0 0 0 ⟨256, 0⟩, .coreFault 0 false ⟨false, (some ⟨3, 0, 0⟩)⟩]
    = true := by decide +kernel

theorem test_wf_refuses_head_and_camera_operands : refused [
    .claimStatus 0 0 4 0 0, .claimStatus 0 0 0 256 0, .claimStatus 0 0 0 0 (2 ^ 16), .configResponse 0 0 256 0 0, .configResponse 0 0 0 256 0,
    .configTimeout 0 0 256, .caps 0 0 [(12, 0)], .echoReply 0 0 ⟨0, (2 ^ 32)⟩, .errorLimit 0 0 (2 ^ 32), .eyeRead 0 0 ⟨(2 ^ 16), 0⟩ none, .eyeRead 0 0 ⟨0, (2 ^ 16)⟩ none,
    .blockLock 0 ⟨0, (List.replicate 257 0)⟩, .cameraLine 0 0 0 64 [] true false [], .cameraLine 0 0 0 0 [4096] true false [],
    .cameraLine 0 0 0 0 (List.replicate 16385 0) true false [], .cameraPacketError 0 0 0 256] = true := by decide +kernel

theorem test_wf_refuses_packets : refused [
    .streamData 0 host { pkt0 with version := 256 }, .streamData 0 host { pkt0 with typ := 256 }, .streamData 0 host { pkt0 with stream := 2 ^ 16 },
    .streamData 0 host { pkt0 with epoch := 256 }, .probe 0 host { pkt0 with offset := 2 ^ 32 }, .probe 0 host { pkt0 with length := 2 ^ 16 },
    .probe 0 host { pkt0 with payload := List.replicate 9001 0 }, .frameDiscard 0 { frame0 with dst := 2 ^ 48 } ⟨0, 0⟩,
    .frameDiscard 0 { frame0 with length := 32 } ⟨0, 0⟩, .frameDiscard 0 frame0 ⟨2 ^ 64, 0⟩] = true := by decide +kernel

theorem test_wf_refuses_time_messages : refused [
    .sync 0 { ptp0 with domain := 256 } 0, .sync 0 ptp0 (2 ^ 64), .followUp 0 { ptp0 with seqId := 2 ^ 16 }, .delayReq 0 { ptp0 with sourcePort := 2 ^ 16 } 0,
    .delayResp 0 { ptp0 with reqPort := 2 ^ 16 }, .delayResp 0 { ptp0 with correction := 2 ^ 63 }, .announce 0 ptp0 ⟨256, 0, 0, 0, 0, 0, 0⟩,
    .announce 0 ptp0 ⟨0, 256, 0, 0, 0, 0, 0⟩, .announce 0 ptp0 ⟨0, 0, 256, 0, 0, 0, 0⟩, .announce 0 ptp0 ⟨0, 0, 0, 2 ^ 16, 0, 0, 0⟩,
    .announce 0 ptp0 ⟨0, 0, 0, 0, 256, 0, 0⟩, .announce 0 ptp0 ⟨0, 0, 0, 0, 0, 0, 2 ^ 16⟩, .ptpOther 0 0 16, .ptpSendInterval 0 0 16,
    .ptpSend 0 rq 256 [], .ptpSend 0 rq 0 (List.replicate 1401 0), .evtCapture 0 0 true 3001 false, .pdStart 0 rq (2 ^ 32) 0,
    .pdStart 0 rq 0 (2 ^ 32)] = true := by decide +kernel

theorem test_wf_refuses_pair_records : refused [
    .pairAck 0 { hdr with seq := 2 ^ 32 }, .pairAck 0 { hdr with ackSeq := 2 ^ 32 }, .heartbeat 0 hdr ⟨7, 0, 0, 0, 0, 0, false, false, false, true, 0, none, none⟩,
    .heartbeat 0 hdr ⟨0, 0, 0, 0, 2 ^ 79, 0, false, false, false, true, 0, none, none⟩, .heartbeat 0 hdr ⟨0, 0, 0, 0, 0, 256, false, false, false, true, 0, none, none⟩,
    .heartbeat 0 hdr ⟨0, 0, 0, 0, 0, 0, false, false, false, true, 2 ^ 32, none, none⟩, .heartbeat 0 hdr ⟨0, 0, 0, 0, 0, 0, false, false, false, true, 0, some 5, none⟩, .heartbeat 0 hdr ⟨0, 0, 0, 0, 0, 0, false, false, false, true, 0, none, some (8, 0)⟩,
    .commitRecord 0 hdr ⟨0, 2 ^ 47, [], [], false, 0, 0, 0, false, false⟩ [],
    .commitRecord 0 hdr ⟨0, 0, [⟨2 ^ 16, 0, .num 0⟩], [], false, 0, 0, 0, false, false⟩ [],
    .commitRecord 0 hdr ⟨0, 0, [], [⟨524288, 1, {}⟩], false, 0, 0, 0, false, false⟩ [],
    .commitRecord 0 hdr ⟨0, 0, [], [⟨0, 1, { base := some 4 }⟩], false, 0, 0, 0, false, false⟩ [],
    .commitRecord 0 hdr ⟨0, 0, [], [⟨0, 1, { curve := some [4096] }⟩], false, 0, 0, 0, false, false⟩ [],
    .commitRecord 0 hdr ⟨0, 0, [], [], false, 4, 0, 0, false, false⟩ [], .commitRecord 0 hdr ⟨0, 0, [], [], false, 0, 0, 3, false, false⟩ [],
    .commitRecord 0 hdr ⟨0, 0, [], [], false, 0, 0, 0, false, false⟩ [2 ^ 16], .writeRecord 0 hdr [⟨0, 256, .num 0⟩]] = true := by decide +kernel

theorem test_wf_refuses_mirror_records : refused [
    .blockRecord 0 hdr ⟨2 ^ 16, .nozzleWrite 0 1, 0, []⟩, .blockRecord 0 hdr ⟨0, .nozzleWrite 0 1, 2 ^ 32, []⟩,
    .blockRecord 0 hdr ⟨0, .nozzleWrite 0 1, 0, List.replicate 1025 0⟩, .axisRecord 0 hdr ⟨3, 0, 0, 0, 0, none, 0, true, [], []⟩,
    .axisRecord 0 hdr ⟨0, 256, 0, 0, 0, none, 0, true, [], []⟩, .axisRecord 0 hdr ⟨0, 0, 0, 0, 4, none, 0, true, [], []⟩,
    .axisRecord 0 hdr ⟨0, 0, 0, 0, 0, none, 0, true, [4], []⟩, .axisRecord 0 hdr ⟨0, 0, 0, 0, 0, none, 0, true, [], [(140, none)]⟩,
    .lposRecord 0 hdr (2 ^ 79) 0 0, .lposRecord 0 hdr 0 (2 ^ 47) 0, .lposRecord 0 hdr 0 0 (2 ^ 79), .ringRecord 0 hdr 0 (2 ^ 64) 0 [] 0,
    .ringRecord 0 hdr 0 0 (2 ^ 64) [] 0, .ringRecord 0 hdr 0 0 0 [(0, 2 ^ 64)] 0, .ringRecord 0 hdr 0 0 0 [] (2 ^ 64), .loopRecord 0 hdr ⟨2 ^ 32, none⟩,
    .reinRecord 0 hdr ⟨5, 0, none, 0, 0, 0, 0, [], 0, 0⟩, .reinRecord 0 hdr ⟨0, 0, none, 0, 0, 0, 0, [(128, 0, 0)], 0, 0⟩,
    .reinRecord 0 hdr ⟨0, 0, none, 0, 0, 0, 0, [(0, 6, 0)], 0, 0⟩, .reinRecord 0 hdr ⟨0, 0, none, 0, 0, 0, 0, [], 6, 0⟩,
    .timeRecord 0 hdr ⟨256, 0, 0, 0, false⟩, .releaseRecord 0 hdr 256, .ident 0 hdr ⟨List.replicate 98 0, 0, 0, 0, true, [], 0, false⟩,
    .ident 0 hdr ⟨[], 0, 0, 0, true, List.replicate 33 0, 0, false⟩, .ident 0 hdr ⟨[], 0, 0, 0, true, [], 256, false⟩, .fill 0 hdr ⟨64, 0, 0, 0, 0, 0, []⟩, .fill 0 hdr ⟨0, 0, 0, 0, 0, 2 ^ 64, []⟩,
    .fill 0 hdr ⟨0, 0, 0, 0, 0, 0, List.replicate 9001 0⟩, .echo 0 hdr (2 ^ 64) 0 0, .echo 0 hdr 0 (2 ^ 79) 0, .echo 0 hdr 0 0 (-(2 ^ 79) - 1),
    .recordResend 0 (2 ^ 32)] = true := by decide +kernel

theorem test_wf_refuses_power_operands : refused [
    .powerOnReset 0 { startOk with times := [2 ^ 32] }, .resetN 0 true { startOk with store := 4 }, .startRetry 0 { startOk with badTiles := [36] },
    .wake 0 false { startOk with badParts := [64] }, .powerOnReset 0 { startOk with badTables := [(16, 0)] }, .powerOnReset 0 { startOk with badTables := [(0, 4)] },
    .powerOnReset 0 { startOk with moving := [4] }, .powerOnReset 0 { startOk with trims := [256] }, .powerOnReset 0 { startOk with failed := some (9, 0, 0, 0) },
    .powerOnReset 0 { startOk with failed := some (0, 256, 0, 0) }, .powerOnReset 0 { startOk with failed := some (0, 0, 10, 0) },
    .enterSleep 0 rq { entryOk with store := some (2 ^ 32) }, .enterDeepSleep 0 rq { entryOk with partner := some (8, 0) },
    .enterOff 0 rq { entryOk with partner := some (0, 16) }, .pmbusAck 0 ⟨0, true, (2 ^ 16)⟩ .good, .pmbusAck 0 ⟨0, true, 0⟩ (.fails 1), .pmbusAck 0 ⟨0, true, 0⟩ (.fails 7),
    .pmbusAck 0 ⟨0, true, 0⟩ (.retention 256 startOk),
    .pmbAlert 0 0 0 (2 ^ 16), .railTelemetry 0 (List.replicate 10 []), .railTelemetry 0 [[2 ^ 31]], .brownout 0 (2 ^ 16), .vsupRecovered 0 (2 ^ 16),
    .overvolt 0 (2 ^ 16), .vsupSample 0 (2 ^ 16), .dieTemp 0 32768 0 0, .dieTemp 0 0 32768 0, .dieTemp 0 0 0 (-32769), .encCalDeferred 0 0 [256],
    .tapStep 0 1152 true, .imageActivate 0 rq { startOk with store := 4 }] = true := by decide +kernel

theorem test_wf_refuses_store_commands : refused [
    .storeFill 0 rq (2 ^ 64) 0 0 0, .storeFill 0 rq 0 (2 ^ 64) 0 0, .storeFill 0 rq 0 0 0 256, .storeCopy 0 rq (2 ^ 64) 0 0 0, .storeCopy 0 rq 0 (2 ^ 64) 0 0,
    .storeCopy 0 rq 0 0 (2 ^ 64) 0, .storeCopy 0 rq 0 0 0 256, .integInject 0 rq ⟨256, 0, [], [], 0, none, 0⟩, .integInject 0 rq ⟨0, 2 ^ 64, [], [], 0, none, 0⟩,
    .integInject 0 rq ⟨0, 0, List.replicate 65 0, [], 0, none, 0⟩, .integInject 0 rq ⟨0, 0, [], List.replicate 65 0, 0, none, 0⟩,
    .integInject 0 rq ⟨0, 0, [], [], 0, some (2 ^ 64), 0⟩, .integInject 0 rq ⟨0, 0, [], [], 0, none, 256⟩, .integReadRaw 0 rq 256 0, .integReadRaw 0 rq 0 (2 ^ 64),
    .rowRepair 0 rq 256 0 0 0, .rowRepair 0 rq 0 256 0 0, .rowRepair 0 rq 0 0 256 0, .rowRepair 0 rq 0 0 0 (2 ^ 16), .retire 0 rq 256 0 0 0,
    .retire 0 rq 0 256 0 0, .retire 0 rq 0 0 256 0, .retire 0 rq 0 0 0 (2 ^ 32), .encode 0 rq [2 ^ 64]] = true := by decide +kernel

theorem test_wf_refuses_table_and_image_commands : refused [
    .thresholdLoad 0 rq 256 0 0 0 0, .thresholdLoad 0 rq 0 (2 ^ 16) 0 0 0, .thresholdLoad 0 rq 0 0 (2 ^ 16) 0 0, .thresholdLoad 0 rq 0 0 0 256 0,
    .nozzleTableWrite 0 rq (2 ^ 32) 0 0, .nozzleTableRead 0 rq 0 (2 ^ 32) false, .nozzleCountReset 0 rq (2 ^ 32) 0, .traceBringUp 0 rq 256,
    .bridgeAccess 0 rq 256 false 0 0, .bridgeAccess 0 rq 0 false (2 ^ 16) 0, .inspTableLoad 0 rq 256 0 0, .inspTableLoad 0 rq 0 256 0,
    .frameHold 0 rq 256 0 true, .cciAccess 0 rq 256 0 0 0 0 0, .cciAccess 0 rq 0 256 0 0 0 0, .cciAccess 0 rq 0 0 256 0 0 0,
    .cciAccess 0 rq 0 0 0 (2 ^ 16) 0 0, .cciAccess 0 rq 0 0 0 0 0 256, .inspStatRead 0 rq 256 0, .imageWrite 0 rq (2 ^ 32) 0] = true := by decide +kernel

/-! ### Words, and the queue -/

/-- The table gives no row bits, so no word spells a command and the queue stays. -/
theorem test_no_word_spells_a_command : decodeTableWord 32 0xFFFFFFFF = none ∧ (State.reset.withFetchWord 32 0).pending = [] := by decide +kernel

theorem test_IdleStepKeepsState_1 : State.reset.pending = [] := rfl
theorem test_CommandKeepsQueueAndOutputs_1 : ∃ t, exec (.ackInterval 1000 0) State.reset = .next t := ⟨_, rfl⟩
theorem test_StepKeepsInvariant_1 : Inv { oS with pending := [.keepalive 0 rq] } ∧ ∃ t, step { oS with pending := [.keepalive 0 rq] } = .next t :=
  ⟨by constructor <;> decide +kernel, _, rfl⟩
theorem test_PredictorsFollowTheirTable_1 : 0 < 1 ∧ (7 : Int) = [3, 7].getD 1 0 ∧ (3 : Int) = [3, 7].getD (1 - 1) 0 ∧ (3 : Int) ≤ min (5 : Int) 7 := by decide
theorem test_PredictorsFollowTheirTable_2 : 0 < 1 ∧ (7 : Int) = [9, 7].getD 1 0 ∧ (9 : Int) = [9, 7].getD (1 - 1) 0 ∧ max (5 : Int) 7 ≤ 9 := by decide
theorem test_PredictorsFollowTheirTable_3 : 0 < 1 ∧ (7 : Int) = [6, 7].getD 1 0 ∧ (6 : Int) = [6, 7].getD (1 - 1) 0 ∧ min (5 : Int) 7 < 6 ∧ (6 : Int) < max 5 7 := by
  decide

/-! ### A state and operands that meet the hypotheses of each statement, clause by clause -/

theorem test_ReadAnswersEachEntry_1 : ∃ u, Served 0 rq false 0 oS u :=
  servedWit0 (by decide +kernel)

def sWriteAppliesAllOrNone1 : State := cf (cf oS 0x4020 1 0x000F0007) 0x4026 0 1

theorem test_WriteAppliesAllOrNone_1 : ∃ v, WritePasses 0 rq [⟨0x4003, 0, 2, .num 1, none⟩] 0 sWriteAppliesAllOrNone1 v :=
  wpWit0 (by decide +kernel)

theorem test_WriteAppliesAllOrNone_2 : ∃ u, Served 0 rq false 0 oS u ∧ (arbitrate 0 rq (objectKeys [⟨0x4003, 0, 2, .num 9, none⟩]) false u).1 = none ∧ judgeEntries (arbitrate 0 rq (objectKeys [⟨0x4003, 0, 2, .num 9, none⟩]) false u).2 [⟨0x4003, 0, 2, .num 9, none⟩] (claimsOfTick (arbitrate 0 rq (objectKeys [⟨0x4003, 0, 2, .num 9, none⟩]) false u).2) 1 3 false [⟨0x4003, 0, 2, .num 9, none⟩] 0 = some (0x0303, 0) :=
  servedWit (by decide +kernel)

def sAxisWritesTakeEffect1 : State := cf oS 0x4020 0 0x000F0007

theorem test_AxisWritesTakeEffect_1 : ∃ v, WritePasses 0 rq [⟨0x4035, 0, 0x0B, .num 65536, none⟩] 0 sAxisWritesTakeEffect1 v :=
  wpWit0 (by decide +kernel)

theorem test_AxisWritesTakeEffect_2 : ∃ v, WritePasses 0 rq [⟨0x4025, 3, 1, .num 1, none⟩] 0 oS v :=
  wpWit0 (by decide +kernel)

def sAxisWritesTakeEffect3 : State := cf (oS.setChan 0 { status := { word := BitVec.ofNat 32 (2 ^ encFaulty) }, illegal := [⟨1, none, none⟩] }) 0x4020 0 0x000F0007

theorem test_AxisWritesTakeEffect_3 : ∃ v, WritePasses 0 rq [⟨0x4037, 0, 1, .num 1, none⟩] 0 sAxisWritesTakeEffect3 v :=
  wpWit0 (by decide +kernel)

theorem test_AxisWritesTakeEffect_4 : ∃ v, WritePasses 0 rq [⟨0x4003, 0, 2, .num 1, none⟩] 0 sWriteAppliesAllOrNone1 v :=
  wpWit0 (by decide +kernel)

theorem test_AxisWritesTakeEffect_5 : ∃ v, WritePasses 0 rq [⟨0x4051, 0, 4, .num 400000, none⟩] 0 oS v :=
  wpWit0 (by decide +kernel)

def sAxisWritesTakeEffect6 : State := { oS with rein := { oS.rein with state := 2 } }

theorem test_AxisWritesTakeEffect_6 : ∃ v, WritePasses 0 rq [⟨0x408A, 0, 1, .num 1, none⟩] 0 sAxisWritesTakeEffect6 v :=
  wpWit0 (by decide +kernel)

def sAxisWritesTakeEffect7 : State := { oS with faults := { oS.faults with stopLost := true } }

theorem test_AxisWritesTakeEffect_7 : ∃ v, WritePasses 0 rq [⟨0x408C, 0, 1, .num 1, none⟩] 0 sAxisWritesTakeEffect7 v :=
  wpWit0 (by decide +kernel)

def sStreamStoreTraceWritesTakeEffect1 : State := cf (oS.setRing 63 { oS.ring 63 with cum := 8 }) 0x5001 63 67108864

theorem test_StreamStoreTraceWritesTakeEffect_1 : ∃ v, WritePasses 0 rq [⟨0x5006, 63, 1, .num 1, none⟩] 0 sStreamStoreTraceWritesTakeEffect1 v :=
  wpWit0 (by decide +kernel)

def sStreamStoreTraceWritesTakeEffect2 : State := oS.setRing 0 { oS.ring 0 with enable := true, cum := 8 }

theorem test_StreamStoreTraceWritesTakeEffect_2 : ∃ v, WritePasses 0 rq [⟨0x5006, 0, 1, .num 0, none⟩] 0 sStreamStoreTraceWritesTakeEffect2 v :=
  wpWit0 (by decide +kernel)

def sStreamStoreTraceWritesTakeEffect3 : State := oS.setRing 0 { oS.ring 0 with enable := true, cum := 128, limit := 1024 }

theorem test_StreamStoreTraceWritesTakeEffect_3 : ∃ v, WritePasses 0 rq [⟨0x500C, 0, 5, .num 64, none⟩] 0 sStreamStoreTraceWritesTakeEffect3 v :=
  wpWit0 (by decide +kernel)

theorem test_StreamStoreTraceWritesTakeEffect_4 : ∃ v, WritePasses 0 rq [⟨0x5040, 1, 0x0E, .bytes (partBytes (defaultPartition 1)), none⟩] 0 oS v :=
  wpWit0 (by decide +kernel)

theorem test_StreamStoreTraceWritesTakeEffect_5 : ∃ v, WritePasses 0 rq [⟨0x7043, 0, 1, .num 1, none⟩] 0 oS v :=
  wpWit0 (by decide +kernel)

def sStreamStoreTraceWritesTakeEffect6 : State := oS.setLane 63 { oS.lane 63 with state := 6 }

theorem test_StreamStoreTraceWritesTakeEffect_6 : ∃ v, WritePasses 0 rq [⟨0x7043, 63, 1, .num 0, none⟩] 0 sStreamStoreTraceWritesTakeEffect6 v :=
  wpWit0 (by decide +kernel)

def sStreamStoreTraceWritesTakeEffect7 : State := oS.setLane 0 { oS.lane 0 with state := 7 }

theorem test_StreamStoreTraceWritesTakeEffect_7 : ∃ v, WritePasses 0 rq [⟨0x7049, 0, 2, .num 0, none⟩] 0 sStreamStoreTraceWritesTakeEffect7 v :=
  wpWit0 (by decide +kernel)

theorem test_StreamStoreTraceWritesTakeEffect_8 : ∃ v, WritePasses 0 rq [⟨0x7049, 63, 2, .num 2, none⟩] 0 sStreamStoreTraceWritesTakeEffect6 v ∧ laneActive v 63 = true :=
  wpWit (by decide +kernel)

theorem test_StreamStoreTraceWritesTakeEffect_9 : ∃ v, WritePasses 0 rq [⟨0xB021, 0, 1, .num 1, none⟩] 0 oS v :=
  wpWit0 (by decide +kernel)

def sStreamStoreTraceWritesTakeEffect10 : State := { oS with fire := { oS.fire with defects := [⟨1, 1, 1, 0, 0, 1, 0, 0, 0⟩] } }

theorem test_StreamStoreTraceWritesTakeEffect_10 : ∃ v, WritePasses 0 rq [⟨0x7035, 0, 1, .num 1, none⟩] 0 sStreamStoreTraceWritesTakeEffect10 v :=
  wpWit0 (by decide +kernel)

theorem test_TimeAndStatusWritesTakeEffect_1 : ∃ v, WritePasses 0 rq [⟨0x9000, 0, 2, .num 3, none⟩] 0 oS v :=
  wpWit0 (by decide +kernel)

theorem test_TimeAndStatusWritesTakeEffect_2 : ∃ v, WritePasses 0 rq [⟨0x9001, 0, 2, .num 127, none⟩] 0 oS v :=
  wpWit0 (by decide +kernel)

def sTimeAndStatusWritesTakeEffect3 : State := oS.setPtpPort 2 { tx := [⟨1, true, 0, 0, 0⟩] }

theorem test_TimeAndStatusWritesTakeEffect_3 : ∃ v, WritePasses 0 rq [⟨0x9021, 2, 2, .num 1, none⟩] 0 sTimeAndStatusWritesTakeEffect3 v :=
  wpWit0 (by decide +kernel)

def sTimeAndStatusWritesTakeEffect4 : State := oS.setEvt 3 { queue := [⟨1, 1, 0, 0, 0⟩] }

theorem test_TimeAndStatusWritesTakeEffect_4 : ∃ v, WritePasses 0 rq [⟨0x9052, 3, 2, .num 1, none⟩] 0 sTimeAndStatusWritesTakeEffect4 v :=
  wpWit0 (by decide +kernel)

def sTimeAndStatusWritesTakeEffect5 : State := { oS with proto := { oS.proto with comm := { word := 3 } } }

theorem test_TimeAndStatusWritesTakeEffect_5 : ∃ v, WritePasses 0 rq [⟨(flagKey .comm).1, (flagKey .comm).2, 2, .num 1, none⟩] 0 sTimeAndStatusWritesTakeEffect5 v :=
  wpWit0 (by decide +kernel)

def sTimeAndStatusWritesTakeEffect6 : State := { oS with power := { oS.power with vsup := { word := 3 } } }

theorem test_TimeAndStatusWritesTakeEffect_6 : ∃ v, WritePasses 0 rq [⟨(flagKey .vsup).1, (flagKey .vsup).2, 2, .num 1, none⟩] 0 sTimeAndStatusWritesTakeEffect6 v :=
  wpWit0 (by decide +kernel)

def sTimeAndStatusWritesTakeEffect7 : State := oS.setChan 3 { status := { word := 0x1FF } }

theorem test_TimeAndStatusWritesTakeEffect_7 : ∃ v, WritePasses 0 rq [⟨(flagKey (.enc 3)).1, (flagKey (.enc 3)).2, 4, .num 0x1FF, none⟩] 0 sTimeAndStatusWritesTakeEffect7 v :=
  wpWit0 (by decide +kernel)

def sTimeAndStatusWritesTakeEffect8 : State := oS.setRing 63 { oS.ring 63 with status := { word := 3 } }

theorem test_TimeAndStatusWritesTakeEffect_8 : ∃ v, WritePasses 0 rq [⟨(flagKey (.stream 63)).1, (flagKey (.stream 63)).2, 4, .num 1, none⟩] 0 sTimeAndStatusWritesTakeEffect8 v :=
  wpWit0 (by decide +kernel)

def sTimeAndStatusWritesTakeEffect9 : State := oS.setPtpPort 2 { oS.ptpPort 2 with txStatus := { word := 3 } }

theorem test_TimeAndStatusWritesTakeEffect_9 : ∃ v, WritePasses 0 rq [⟨(flagKey (.txStamp 2)).1, (flagKey (.txStamp 2)).2, 2, .num 1, none⟩] 0 sTimeAndStatusWritesTakeEffect9 v :=
  wpWit0 (by decide +kernel)

def sTimeAndStatusWritesTakeEffect10 : State := oS.setEvt 3 { oS.evt 3 with status := { word := 3 } }

theorem test_TimeAndStatusWritesTakeEffect_10 : ∃ v, WritePasses 0 rq [⟨(flagKey (.evt 3)).1, (flagKey (.evt 3)).2, 2, .num 1, none⟩] 0 sTimeAndStatusWritesTakeEffect10 v :=
  wpWit0 (by decide +kernel)

def sTimeAndStatusWritesTakeEffect11 : State := { oS with faults := { oS.faults with output := { word := 3 } } }

theorem test_TimeAndStatusWritesTakeEffect_11 : ∃ v, WritePasses 0 rq [⟨(flagKey .output).1, (flagKey .output).2, 3, .num 1, none⟩] 0 sTimeAndStatusWritesTakeEffect11 v :=
  wpWit0 (by decide +kernel)

def sTimeAndStatusWritesTakeEffect12 : State := { oS with start := { oS.start with cal := { word := 3 } } }

theorem test_TimeAndStatusWritesTakeEffect_12 : ∃ v, WritePasses 0 rq [⟨(flagKey .cal).1, (flagKey .cal).2, 3, .num 1, none⟩] 0 sTimeAndStatusWritesTakeEffect12 v :=
  wpWit0 (by decide +kernel)

def sReadAnswersEachEntry2 : State := { oS with time := { oS.time with corr := List.replicate 16 ⟨0, 0, 0, 0, 0, 0, 0⟩ } }

theorem test_ReadAnswersEachEntry_2 : ∃ u, Served 0 rq false 0 sReadAnswersEachEntry2 u ∧ maxPayload < (respBytes ⟨0x01, 0, .values (datumGen u) ((List.replicate 64 ⟨0x9070, 1, false, none⟩).map (readEntry u (u.sess 0).role))⟩).length :=
  servedWit (by decide +kernel)

def sWriteAppliesAllOrNone3 : State := { oS with proto := { oS.proto with tickReqs := [⟨2, 3, 0, [(0x4003, 0)], false⟩] } }

theorem test_WriteAppliesAllOrNone_3 : ∃ u, Served 0 rq false 0 sWriteAppliesAllOrNone3 u ∧ (arbitrate 0 rq (objectKeys [⟨0x4003, 0, 2, .num 1, none⟩]) false u).1 = some 0 :=
  servedWit (by decide +kernel)

theorem test_StagingSet_1 : ∃ u, Served 0 rq false 0 oS u ∧ (arbitrate 0 rq (objectKeys [⟨0x4050, 0, 4, .num 1000, none⟩]) false u).1 = none ∧ judgeEntries (arbitrate 0 rq (objectKeys [⟨0x4050, 0, 4, .num 1000, none⟩]) false u).2 [⟨0x4050, 0, 4, .num 1000, none⟩] (claimsOfTick (arbitrate 0 rq (objectKeys [⟨0x4050, 0, 4, .num 1000, none⟩]) false u).2) 1 3 true [⟨0x4050, 0, 4, .num 1000, none⟩] 0 = none :=
  servedWit (by decide +kernel)

def sStagingSet2 : State := oS.setSess 0 { oS.sess 0 with staging := [⟨0x4050, 0, .num 1000⟩] }

theorem test_StagingSet_2 : ∃ u, Served 0 rq false 0 sStagingSet2 u ∧ 1 ≤ (u.sess 0).role :=
  servedWit (by decide +kernel)

def sStagingSet3 : State := oS.setSess 0 { oS.sess 0 with staging := (List.range 1024).map (fun i => ⟨0x4050, i + 1, .num 0⟩) }

theorem test_StagingSet_3 : ∃ u, Served 0 rq false 0 sStagingSet3 u ∧ (arbitrate 0 rq (objectKeys [⟨0x4050, 0, 4, .num 1000, none⟩]) false u).1 = none ∧ (stageAll ((arbitrate 0 rq (objectKeys [⟨0x4050, 0, 4, .num 1000, none⟩]) false u).2.sess 0).staging ([⟨0x4050, 0, 4, .num 1000, none⟩].map stagedWrite) 0).2 = some 0 :=
  servedWit (by decide +kernel)

theorem test_StagingSet_4 : stageAll [⟨0x4050, 0, .num 1⟩] [⟨0x4050, 0, .num 2⟩] 0 = ([⟨0x4050, 0, .num 2⟩], none) :=
  by decide +kernel

theorem test_CheckAndCommit_1 : ∃ u, Served 0 rq false 0 sStagingSet2 u ∧ 1 ≤ (u.sess 0).role :=
  servedWit (by decide +kernel)

theorem test_CheckAndCommit_2 : ∃ u, Served 0 rq false 0 sStagingSet2 u ∧ isWheeler u = false ∧ 1 ≤ (u.sess 0).role ∧ (arbitrate 0 rq (stagedKeys u 0) true u).1 = none ∧ commitAhead (arbitrate 0 rq (stagedKeys u 0) true u).2 (arbReq (arbitrate 0 rq (stagedKeys u 0) true u).2 0 rq (stagedKeys u 0) true) = false ∧ (match judgeCommit (wakeForJob 0 (arbitrate 0 rq (stagedKeys u 0) true u).2) [⟨0x4050, 0, .num 1000⟩] 2 0 1 with | .passes _ => true | _ => false) = true :=
  servedWit (by decide +kernel)

def sCheckAndCommit3 : State := { oS with proto := { oS.proto with commits := [⟨1, 5, [], [], false, 0, 1, 2, true, false⟩] } }

theorem test_CheckAndCommit_3 : sCheckAndCommit3.proto.commits.find? (fun x => x.passed && !x.noticed) = some ⟨1, 5, [], [], false, 0, 1, 2, true, false⟩ :=
  by decide +kernel

theorem test_CheckAndCommit_4 : oS.proto.commits.find? (fun x => x.passed && !x.noticed) = none :=
  by decide +kernel

def sCheckAndCommit5 : State := { oS with proto := { oS.proto with waiting := [⟨false, 1, [⟨5, 1, { base := some 2, source := some 1, onlyIf := some 1 }⟩], [], none, none⟩] } }

theorem test_CheckAndCommit_5 : holdsLead sCheckAndCommit5 = true ∧ sCheckAndCommit5.proto.waiting.find? (changeReady (tick 0 sCheckAndCommit5)) = some ⟨false, 1, [⟨5, 1, { base := some 2, source := some 1, onlyIf := some 1 }⟩], [], none, none⟩ :=
  by decide +kernel

theorem test_CheckAndCommit_6 : oS.proto.waiting = [] :=
  by decide +kernel

theorem test_ClaimsAndSubscriptions_1 : ∃ u, Served 0 rq false 0 oS u ∧ claimCode u (liveClaims u) (u.sess 0).role 0x4000 1 3600 = 0 :=
  servedWit (by decide +kernel)

def sClaimsAndSubscriptions2 : State := { oS with proto := { oS.proto with claims := [⟨0xF000, 1, 1, 3, sec⟩] } }

theorem test_ClaimsAndSubscriptions_2 : ∃ u, Served 0 rq false 0 sClaimsAndSubscriptions2 u ∧ (¬(0xF000 ≤ 0xF000 ∧ (u.sess 0).role < 3)) :=
  servedWit (by decide +kernel)

theorem test_ClaimsAndSubscriptions_4 : ∃ u, Served 0 rq false 0 oS u :=
  servedWit0 (by decide +kernel)

def sClaimsAndSubscriptions5 : State := oS.setSess 0 { oS.sess 0 with queue := some { subscribed := true, ranges := [(0, 1)], minSev := 1 } }

theorem test_ClaimsAndSubscriptions_5 : ∃ u, Served 0 rq false 0 sClaimsAndSubscriptions5 u :=
  servedWit0 (by decide +kernel)

theorem test_SessionOpens_1 : hears (tick 0 State.reset) host = true :=
  by decide +kernel

theorem test_SessionOpens_2 : hears (tick 0 State.reset) host = true ∧ freeSession State.reset = some 0 :=
  by decide +kernel

def sSessionOpens3 : State := (List.range 8).foldl (fun s k => s.setSess k { phase := .opened, id := BitVec.ofNat 32 (k + 1) }) State.reset

theorem test_SessionOpens_3 : hears (tick 0 sSessionOpens3) host = true ∧ freeSession sSessionOpens3 = none :=
  by decide +kernel

def sSessionOpens4 : State := oS.setSess 0 { phase := .opening, id := 1, reqRole := 3, peer := host }

theorem test_SessionOpens_4 : openingSlot (tick 0 sSessionOpens4) rq.sess = some 0 ∧ rq.seq.getLsbD 63 = false ∧ hears (tick 0 sSessionOpens4) host = true ∧ (openVerdict (frameIn host (tick 0 sSessionOpens4)) (sSessionOpens4.sess 0) true true).1 = 0 :=
  by decide +kernel

theorem test_SessionOpens_5 : openingSlot (tick 0 sSessionOpens4) rq.sess = some 0 ∧ (openVerdict (frameIn host (tick 0 sSessionOpens4)) (sSessionOpens4.sess 0) false true).1 = 0x0205 :=
  by decide +kernel

def sSessionsAndHandlesEnd1 : State := State.reset.setSess 7 { phase := .opening, id := 1 }

theorem test_SessionsAndHandlesEnd_1 : (sSessionsAndHandlesEnd1.sess 7).phase = .opening ∧ (sSessionsAndHandlesEnd1.sess 7).openedAt + sec ≤ sSessionsAndHandlesEnd1.time.now + sec :=
  by decide +kernel

theorem test_SessionsAndHandlesEnd_2 : State.reset.time.coldStart + 600 * sec ≤ State.reset.time.now + 600 * sec :=
  by decide +kernel

theorem test_SessionsAndHandlesEnd_3 : (oS.sess 0).phase = .opened ∧ (oS.sess 0).lastHeard + cfgN (tick (3600 * sec) oS) 0x1011 0 * sec ≤ oS.time.now + 3600 * sec :=
  by decide +kernel

def sSessionsAndHandlesEnd4 : State := State.reset.setHandle 255 { phase := .done }

theorem test_SessionsAndHandlesEnd_4 : (sSessionsAndHandlesEnd4.handle 255).phase = .done ∧ (sSessionsAndHandlesEnd4.handle 255).owner = 0 ∧ (sSessionsAndHandlesEnd4.handle 255).doneAt + 60 * sec ≤ sSessionsAndHandlesEnd4.time.now + 60 * sec :=
  by decide +kernel

def sClaimsAndSubscriptions3 : State := { oS with proto := { oS.proto with claims := [⟨0x4000, 1, 1, 3, sec⟩] } }

theorem test_SessionsAndHandlesEnd_5 : ∃ u, Served 0 rq true 0 sClaimsAndSubscriptions3 u ∧ u.proto.withheld.all (fun w => w.slot != 0) = true :=
  servedWit (by decide +kernel)

def sEventQueueService1 : State := oS.setSess 0 { oS.sess 0 with queue := some { stopped := true } }

theorem test_EventQueueService_1 : ∃ u, Served 0 rq true 0 sEventQueueService1 u :=
  servedWit0 (by decide +kernel)

def sEventQueueService2 : State := oS.setSess 0 { oS.sess 0 with queue := some { stopped := true, records := [⟨0, 0, 1, 1, 0, 0, 0, 0, 0, 0, 0⟩], nextRseq := 2, pushed := 1 } }

theorem test_EventQueueService_2 : ∃ u, Served 0 rq false 0 sEventQueueService2 u ∧ (u.sess 0).queue = some { stopped := true, records := [⟨0, 0, 1, 1, 0, 0, 0, 0, 0, 0, 0⟩], nextRseq := 2, pushed := 1 } :=
  servedWit (by decide +kernel)

def sEventQueueService3 : State := oS.setSess 0 { oS.sess 0 with queue := some { records := [⟨0, 0, 1, 1, 0, 0, 0, 0, 0, 0, 0⟩], nextRseq := 2, pushed := 1, sends := [(1, 1)] } }

theorem test_EventQueueService_3 : (sEventQueueService3.sess 0).queue = some { records := [⟨0, 0, 1, 1, 0, 0, 0, 0, 0, 0, 0⟩], nextRseq := 2, pushed := 1, sends := [(1, 1)] } ∧ serverUp (tick (20 * ms) sEventQueueService3) = true :=
  by decide +kernel

def sEventQueueService4 : State := oS.setSess 0 { oS.sess 0 with queue := some { records := [⟨0, 0, 1, 1, 0, 0, 0, 0, 0, 0, 0⟩], nextRseq := 2, pushed := 1, sends := [(1, 5)] } }

theorem test_EventQueueService_4 : (sEventQueueService4.sess 0).queue = some { records := [⟨0, 0, 1, 1, 0, 0, 0, 0, 0, 0, 0⟩], nextRseq := 2, pushed := 1, sends := [(1, 5)] } :=
  by decide +kernel

theorem test_DiscoveryAndProtocols_1 : hears (tick 0 State.reset) host = true :=
  by decide +kernel

def sDiscoveryAndProtocols2 : State := { State.reset with proto := { State.reset.proto with discover := [⟨host, 0⟩] } }

theorem test_DiscoveryAndProtocols_2 : sDiscoveryAndProtocols2.proto.discover = [⟨host, 0⟩] ∧ hears (tick 0 sDiscoveryAndProtocols2) host = true :=
  by decide +kernel

theorem test_DiscoveryAndProtocols_3 : receiverRuns netS = true ∧ netS.power.down = false ∧ netS.faults.resetN = false ∧ queryAnswer netS 0 ⟨.arp, 5⟩ = some (0, []) :=
  by decide +kernel

theorem test_DiscoveryAndProtocols_4 : receiverRuns State.reset = true ∧ queryAnswer State.reset 0 ⟨.arp, 5⟩ = none :=
  by decide +kernel

theorem test_DiscoveryAndProtocols_5 : ∃ u, Served 0 rq false 0 oS u :=
  servedWit0 (by decide +kernel)

theorem test_DiscoveryAndProtocols_6 : ∃ u, Served 0 rq false 0 oS u :=
  servedWit0 (by decide +kernel)

theorem test_FramesThatDoNotRun_1 : receiverRuns netS = true ∧ netS.power.down = false ∧ netS.faults.resetN = false ∧ badFcs.fcsOk = false :=
  by decide +kernel

theorem test_FramesThatDoNotRun_2 : receiverRuns netS = true ∧ twoTags.fcsOk = true ∧ 1 < twoTags.tags.length :=
  by decide +kernel

theorem test_FramesThatDoNotRun_3 : receiverRuns netS = true ∧ macControl.tags.length ≤ 1 ∧ macControl.length ≤ 9018 ∧ macControl.etherType = 0x8808 :=
  by decide +kernel

theorem test_FramesThatDoNotRun_4 : receiverRuns netS = true ∧ otherMac.etherType ≠ 0x8808 ∧ passesFilter netS 0 otherMac = false :=
  by decide +kernel

theorem test_FramesThatDoNotRun_5 : receiverRuns netS = true ∧ passesFilter netS 0 otherType = true ∧ sortFrame netS otherType = .other :=
  by decide +kernel

theorem test_FramesThatDoNotRun_6 : passesFilter netS 0 otherKind = true ∧ sortFrame netS otherKind = .kind ∧ hears (tick 0 netS) (framePeer otherKind) = true :=
  by decide +kernel

theorem test_FramesThatDoNotRun_7 : sortFrame netS shortMsg = .objects ∧ hears (tick 0 netS) (framePeer shortMsg) = true ∧ lengthAgrees shortMsg (headerOf shortMsg.payload) = false :=
  by decide +kernel

theorem test_FramesThatDoNotRun_8 : sortFrame netS toOther = .objects ∧ hears (tick 0 netS) (framePeer toOther) = true ∧ lengthAgrees toOther (headerOf toOther.payload) = true ∧ (headerOf toOther.payload).flags.getLsbD flagBcast = false ∧ (headerOf toOther.payload).dst ≠ ownNode netS :=
  by decide +kernel

theorem test_FramesThatDoNotRun_9 : sortFrame netS badTag = .objects ∧ hears (tick 0 netS) (framePeer badTag) = true ∧ lengthAgrees badTag (headerOf badTag.payload) = true ∧ (headerOf badTag.payload).dst = ownNode netS ∧ (headerOf badTag.payload).flags.getLsbD flagPlain = false ∧ (slotOf netS (headerOf badTag.payload).sess).isSome = true ∧ badTag.tagOk = false :=
  by decide +kernel

theorem test_FramesThatDoNotRun_10 : ∃ u, Served 0 (frameReq toAll) true 0 netS u ∧ sortFrame netS toAll = .objects ∧ lengthAgrees toAll (headerOf toAll.payload) = true ∧ (headerOf toAll.payload).flags.getLsbD flagBcast = true ∧ (headerOf toAll.payload).flags.getLsbD flagPlain = false ∧ toAll.tagOk = true :=
  servedWit (by decide +kernel)

theorem test_CommandsRun_1 : ∃ u, Served 0 rq false 0 oS u ∧ Starts 0 0xC030 2 (.storeFill 0 64 1 1) 0 u ∧ storeBarred u = 0 ∧ badClass 1 = false ∧ rangeBusy u 0 64 = false :=
  startsWit (by decide +kernel)

theorem test_CommandsRun_2 : ∃ u, Served 0 rq false 0 oS u ∧ Starts 0 0xC031 2 (.storeCopy 0 64 64 2) 0 u ∧ rangeBusy u 64 64 = false :=
  startsWit (by decide +kernel)

theorem test_CommandsRun_3 : ∃ u, Served 0 rq false 0 oS u ∧ Starts 0 0xC034 3 (.rowRepair 31 2 15 16383) 0 u ∧ badBank 31 2 15 = false ∧ noSpareRow u 31 2 15 = false :=
  startsWit (by decide +kernel)

theorem test_CommandsRun_4 : ∃ u, Served 0 rq false 0 oS u ∧ Starts 0 0xC040 1 (.encode [0, 64, 1, 64, 1, 8, 0, 0, 0, 1048576, 65536, 1]) 0 u ∧ (encArgs [0, 64, 1, 64, 1, 8, 0, 0, 0, 1048576, 65536, 1]).bad = false ∧ rangeBusy u (encArgs [0, 64, 1, 64, 1, 8, 0, 0, 0, 1048576, 65536, 1]).dest (encArgs [0, 64, 1, 64, 1, 8, 0, 0, 0, 1048576, 65536, 1]).capacity = false :=
  startsWit (by decide +kernel)

theorem test_CommandsRun_5 : ∃ u, Served 0 rq false 0 oS u ∧ Starts 0 0xC053 1 .nozzleSave 0 u :=
  startsWit0 (by decide +kernel)

theorem test_UploadsBegin_1 : ∃ u, Served 0 rq false 0 oS u ∧ Starts 0 0xC050 2 (.thresholdLoad 15 512 512 7 1 []) 0 u ∧ (15 + 1) * 2097152 ≤ (purposeRange u 3).2 ∧ slotInUse u 15 = false :=
  startsWit (by decide +kernel)

theorem test_UploadsBegin_2 : ∃ u, Served 0 rq false 0 oS u ∧ Starts 0 0xC051 2 (.nozzleWrite 524287 1 1 []) 0 u ∧ openSlot u rq.sess = some 0 :=
  startsWit (by decide +kernel)

theorem test_UploadsBegin_3 : ∃ u, Served 0 rq false 0 oS u ∧ Starts 0 0xC070 2 (.inspLoad 15 2 1 []) 0 u ∧ asleep u = false :=
  startsWit (by decide +kernel)

theorem test_UploadsBegin_4 : ∃ u, Served 0 rq true 0 oS u ∧ Starts 0 0xC0B0 3 (.imageWrite 33554432 1 []) 0 u :=
  startsWit0 (by decide +kernel)

theorem test_CommandsReadOut_1 : ∃ u, Served 0 rq false 0 oS u ∧ Starts 0 0xC033 3 .none 0 u ∧ openSlot u rq.sess = some 0 ∧ checkerBarred u 0 64 = 0 ∧ slabSkipped u (slabOf 64) = false :=
  startsWit (by decide +kernel)

theorem test_CommandsReadOut_2 : ∃ u, Served 0 rq false 0 oS u ∧ Starts 0 0xC052 0 (.nozzleRead 0 22 false) 0 u ∧ openSlot u rq.sess = some 0 ∧ badRange 0 22 = false :=
  startsWit (by decide +kernel)

def sCommandsReadOut3 : State := { oS with insp := { oS.insp with stats := [⟨1, 0, 0, 0, 0, 0, 0, 0, 0, 0, 0, [], []⟩] } }

theorem test_CommandsReadOut_3 : ∃ u, Served 0 rq false 0 sCommandsReadOut3 u ∧ Starts 0 0xC073 0 (.inspRead 0 1) 0 u ∧ openSlot u rq.sess = some 0 ∧ statsOf u 0 1 ≠ [] :=
  startsWit (by decide +kernel)

theorem test_CommandsEndAtOnce_1 : ∃ u, Served 0 rq false 0 oS u ∧ Starts 0 0xC032 3 .none 0 u ∧ checkerBarred u 0 32 = 0 :=
  startsWit (by decide +kernel)

theorem test_CommandsEndAtOnce_2 : ∃ u, Served 0 rq false 0 oS u ∧ Starts 0 0xC032 3 .none 0 u ∧ checkerBarred u 1 8 = 0 ∧ unitBytes 1 = 8 :=
  startsWit (by decide +kernel)

def sCommandsEndAtOnce3 : State := { oS with noz := { oS.noz with cnt := [(1, { fire := 5 })] } }

theorem test_CommandsEndAtOnce_3 : ∃ u, Served 0 rq false 0 sCommandsEndAtOnce3 u ∧ Starts 0 0xC054 2 (.countReset 0 2) 0 u ∧ badRange 0 2 = false :=
  startsWit (by decide +kernel)

def sCommandsEndAtOnce4 : State := { oS with insp := { oS.insp with frames := [{ frame := 1, sensor := 0, port := 0, vc := 0, width := 64, linesCfg := 1, first := 0, pitch := 1, trigTime := 0, trigAt := 0, space := 64, ended := true }] } }

theorem test_CommandsEndAtOnce_4 : ∃ u, Served 0 rq false 0 sCommandsEndAtOnce4 u ∧ Starts 0 0xC071 1 .none 0 u ∧ (frameOf u 0 1).isSome = true ∧ (u.insp.frames.filter (·.held)).length < 8 :=
  startsWit (by decide +kernel)

def sCommandsEndAtOnce5 : State := { oS with insp := { oS.insp with frames := [{ frame := 1, sensor := 0, port := 0, vc := 0, width := 64, linesCfg := 1, first := 0, pitch := 1, trigTime := 0, trigAt := 0, space := 64, ended := true, held := true }] } }

theorem test_CommandsEndAtOnce_5 : ∃ u, Served 0 rq false 0 sCommandsEndAtOnce5 u ∧ Starts 0 0xC071 1 .none 0 u ∧ (frameOf u 0 1).isSome = true :=
  startsWit (by decide +kernel)

def sCommandsEndAtOnce6 : State := { oS with pending := [.dieFault 0 0], faults := { oS.faults with stopHold := true, active := [⟨0x6003, 2, 5, 0, 0, false⟩] } }

theorem test_CommandsEndAtOnce_6 : ∃ u, Served 0 rq false 0 sCommandsEndAtOnce6 u ∧ Starts 0 0xC0C0 2 .faultClear 0 u ∧ remainingHold (fireUeGone u) = none ∧ (holdComing (fireUeGone u)).isSome = true :=
  startsWit (by decide +kernel)

def sCommandsEndAtOnce7 : State := { oS with faults := { oS.faults with stopHold := true, active := [⟨0x6003, 2, 5, 0, 0, false⟩] } }

theorem test_CommandsEndAtOnce_7 : ∃ u, Served 0 rq false 0 sCommandsEndAtOnce7 u ∧ Starts 0 0xC0C0 2 .faultClear 0 u ∧ remainingHold (fireUeGone u) = none :=
  startsWit (by decide +kernel)

def sCommandsEndAtOnce8 : State := { oS with faults := { oS.faults with stopHold := true, cls := 2, active := [⟨0x6003, 2, 5, 0, 0, true⟩] } }

theorem test_CommandsEndAtOnce_8 : ∃ u, Served 0 rq false 0 sCommandsEndAtOnce8 u ∧ Starts 0 0xC0C0 2 .faultClear 0 u ∧ remainingHold (fireUeGone u) = some ⟨0x6003, 2, 5, 0, 0, true⟩ :=
  startsWit (by decide +kernel)

def sTimeCommands1 : State := { oS with time := { oS.time with servo := 4, pendingStep := 7 } }

theorem test_TimeCommands_1 : ∃ u, Served 0 rq false 0 sTimeCommands1 u ∧ Starts 0 0xC080 2 .none 0 u ∧ u.time.servo = 4 :=
  startsWit (by decide +kernel)

def sTimeCommands2 : State := oS.setPort 2 { oS.port 2 with up := true }

theorem test_TimeCommands_2 : ∃ u, Served 0 rq false 0 sTimeCommands2 u ∧ Starts 0 0xC081 2 (.ptpSend 2 (List.replicate 34 1)) 0 u ∧ timeRole u ≠ 0 ∧ (u.port 2).up = true :=
  startsWit (by decide +kernel)

theorem test_TimeCommands_3 : ∃ u, Served 0 rq false 0 oS u ∧ Starts 0 0xC082 1 .none 0 u ∧ u.time.pd.running = false :=
  startsWit (by decide +kernel)

def sTimeCommands4 : State := { oS with time := { oS.time with pd := { oS.time.pd with running := true, session := 1 } } }

theorem test_TimeCommands_4 : ∃ u, Served 0 rq false 0 sTimeCommands4 u ∧ Starts 0 0xC083 1 .none 0 u ∧ u.time.pd.running = true :=
  startsWit (by decide +kernel)

def sBlockDataAndCancel1 : State := hS (.imageWrite 1024 1 [])

theorem test_BlockDataAndCancel_1 : ∃ u, Served 0 rq true 0 sBlockDataAndCancel1 u ∧ namesHandle u 256 = true ∧ blockOp u (u.handle 0).op = some (1024, []) :=
  servedWit (by decide +kernel)

theorem test_BlockDataAndCancel_2 : ∃ u, Served 0 rq false 0 sBlockDataAndCancel1 u ∧ namesHandle u 256 = true ∧ (u.handle 0).role ≤ (u.sess 0).role :=
  servedWit (by decide +kernel)

def sBlockDataAndCancel3 : State := oS.setHandle 0 { use := 1, used := true, phase := .done, owner := 1, role := 2 }

theorem test_BlockDataAndCancel_3 : ∃ u, Served 0 rq false 0 sBlockDataAndCancel3 u ∧ namesHandle u 256 = true :=
  servedWit (by decide +kernel)

def sFillStoresPattern1 : State := hS (.storeFill 64 64 0x0102030405060708 0)

theorem test_FillStoresPattern_1 : (sFillStoresPattern1.handle 0).phase = .running ∧ (sFillStoresPattern1.handle 0).op = .storeFill 64 64 0x0102030405060708 0 ∧ serverUp (tick 0 sFillStoresPattern1) = true ∧ sFillStoresPattern1.store.state ≠ 3 :=
  by decide +kernel

def sCommandsEnd1 : State := hS (.storeCopy 0 64 64 0)

theorem test_CommandsEnd_1 : (sCommandsEnd1.handle 0).phase = .running ∧ serverUp (tick 0 sCommandsEnd1) = true ∧ sCommandsEnd1.store.state ≠ 3 :=
  by decide +kernel

def sCommandsEnd2 : State := hS (.rowRepair 0 0 0 5)

theorem test_CommandsEnd_2 : (sCommandsEnd2.handle 0).op = .rowRepair 0 0 0 5 :=
  by decide +kernel

def sCommandsEnd3 : State := hS (.encode [0, 64, 1, 64, 1, 8, 0, 0, 0, 1048576, 65536, 1])

theorem test_CommandsEnd_3 : (sCommandsEnd3.handle 0).op = .encode [0, 64, 1, 64, 1, 8, 0, 0, 0, 1048576, 65536, 1] ∧ encodeRuns (tick 0 sCommandsEnd3) 0 = true :=
  by decide +kernel

def sCommandsEnd4 : State := hS .nozzleSave

theorem test_CommandsEnd_4 : (sCommandsEnd4.handle 0).op = .nozzleSave ∧ flashWorks (tick 0 sCommandsEnd4) = true :=
  by decide +kernel

theorem test_CommandsEnd_5 : (sCommandsEnd4.handle 0).op = .nozzleSave :=
  by decide +kernel

def sUploadsAndTransfersEnd1 : State := hS (.thresholdLoad 0 1 1 1 (Config.crc32c (dataBytes (putData [] 0 [9]) 1)) (putData [] 0 [9]))

theorem test_UploadsAndTransfersEnd_1 : (sUploadsAndTransfersEnd1.handle 0).phase = .running ∧ serverUp (tick 0 sUploadsAndTransfersEnd1) = true ∧ sUploadsAndTransfersEnd1.store.state ≠ 3 ∧ 1 * 1 * 1 ≤ (putData [] 0 [9]).length :=
  by decide +kernel

def sUploadsAndTransfersEnd2 : State := hS (.thresholdLoad 0 1 1 1 (Config.crc32c (dataBytes (putData [] 0 [9]) 1) + 1) (putData [] 0 [9]))

theorem test_UploadsAndTransfersEnd_2 : (sUploadsAndTransfersEnd2.handle 0).phase = .running :=
  by decide +kernel

def sUploadsAndTransfersEnd3 : State := hS (.nozzleWrite 0 1 (Config.crc32c (dataBytes (putData [] 0 (List.replicate 48 0)) 48)) (putData [] 0 (List.replicate 48 0)))

theorem test_UploadsAndTransfersEnd_3 : (sUploadsAndTransfersEnd3.handle 0).phase = .running ∧ 48 * 1 ≤ (putData [] 0 (List.replicate 48 0)).length :=
  by decide +kernel

def sUploadsAndTransfersEnd4 : State := hS (.nozzleWrite 0 1 (Config.crc32c (dataBytes (putData [] 0 (List.replicate 48 0)) 48) + 1) (putData [] 0 (List.replicate 48 0)))

theorem test_UploadsAndTransfersEnd_4 : (sUploadsAndTransfersEnd4.handle 0).phase = .running ∧ 48 * 1 ≤ (putData [] 0 (List.replicate 48 0)).length :=
  by decide +kernel

def sUploadsAndTransfersEnd5 : State := setCfg (hS (.inspLoad 0 0 (Config.crc32c (dataBytes (putData [] 0 (List.replicate 128 1)) 128) + 1) (putData [] 0 (List.replicate 128 1)))) 0x8010 0 (.bytes ([0, 0, 0x2A, 0, 64] ++ List.replicate 11 0)) 0

theorem test_UploadsAndTransfersEnd_5 : (sUploadsAndTransfersEnd5.handle 0).phase = .running ∧ tableBytes (tick 0 sUploadsAndTransfersEnd5) 0 0 = 128 ∧ flashWorks (tick 0 sUploadsAndTransfersEnd5) = true :=
  by decide +kernel

def sUploadsAndTransfersEnd6 : State := hS (.imageWrite 1 (Config.crc32c (dataBytes (putData [] 0 [9]) 1) + 1) (putData [] 0 [9]))

theorem test_UploadsAndTransfersEnd_6 : (sUploadsAndTransfersEnd6.handle 0).phase = .running ∧ 1 ≤ (putData [] 0 [9]).length ∧ flashWorks (tick 0 sUploadsAndTransfersEnd6) = true :=
  by decide +kernel

def sUploadsAndTransfersEnd7 : State := setCfg (hS (.inspLoad 0 0 (Config.crc32c (dataBytes (putData [] 0 (List.replicate 128 1)) 128)) (putData [] 0 (List.replicate 128 1)))) 0x8010 0 (.bytes ([0, 0, 0x2A, 0, 64] ++ List.replicate 11 0)) 0

theorem test_UploadsAndTransfersEnd_7 : (sUploadsAndTransfersEnd7.handle 0).phase = .running ∧ tableBytes (tick 0 sUploadsAndTransfersEnd7) 0 0 = 128 ∧ flashWorks (tick 0 sUploadsAndTransfersEnd7) = true :=
  by decide +kernel

def sUploadsAndTransfersEnd8 : State := hS (.imageWrite 1 (Config.crc32c (dataBytes (putData [] 0 [9]) 1)) (putData [] 0 [9]))

theorem test_UploadsAndTransfersEnd_8 : (sUploadsAndTransfersEnd8.handle 0).phase = .running ∧ 1 ≤ (putData [] 0 [9]).length ∧ flashWorks (tick 0 sUploadsAndTransfersEnd8) = true :=
  by decide +kernel

theorem test_UploadsAndTransfersEnd_9 : (sUploadsAndTransfersEnd8.handle 0).phase = .running :=
  by decide +kernel

def sUploadsAndTransfersEnd10 : State := (hS (.cci 3 16 0 1 0 true)).setCamPort 3 { cciHandle := some 256 }

theorem test_UploadsAndTransfersEnd_10 : (sUploadsAndTransfersEnd10.handle 0).phase = .running ∧ (sUploadsAndTransfersEnd10.camPort 3).cciHandle = some (handleWord sUploadsAndTransfersEnd10 0) ∧ (sUploadsAndTransfersEnd10.handle 0).startedAt + 100 * ms ≤ sUploadsAndTransfersEnd10.time.now + 100 * ms :=
  by decide +kernel

theorem test_UploadsAndTransfersEnd_11 : sUploadsAndTransfersEnd10.time.now + 0 < (sUploadsAndTransfersEnd10.handle 0).startedAt + 100 * ms :=
  by decide +kernel

theorem test_UploadsAndTransfersEnd_12 : sUploadsAndTransfersEnd10.time.now + 0 < (sUploadsAndTransfersEnd10.handle 0).startedAt + 100 * ms :=
  by decide +kernel

def sUploadsAndTransfersEnd13 : State := { hS .pairing with pair := { (hS .pairing).pair with pairing := some (256, 0) } }

theorem test_UploadsAndTransfersEnd_13 : (sUploadsAndTransfersEnd13.handle 0).op = .pairing ∧ (sUploadsAndTransfersEnd13.handle 0).startedAt + 60 * sec ≤ sUploadsAndTransfersEnd13.time.now + 60 * sec :=
  by decide +kernel

theorem test_CommandsThatAct_1 : ∃ u, Served 0 rq false 0 oS u ∧ Starts 0 0xC035 2 (.retire 31 2 15 254) 0 u ∧ storeBarred u = 0 ∧ badBank 31 2 15 = false ∧ noSpareBlock u 31 2 15 = false :=
  startsWit (by decide +kernel)

theorem test_CommandsThatAct_2 : ∃ u, Served 0 rq false 0 oS u ∧ Starts 0 0xC072 (if 1 = 1 then 3 else 2) (.cci 3 127 3 65535 0 true) 0 u ∧ asleep u = false ∧ masterBusy u 3 = false :=
  startsWit (by decide +kernel)

def sCommandsThatAct3 : State := oS.setCamPort 0 { cciHandle := some 5 }

theorem test_CommandsThatAct_3 : ∃ u, Served 0 rq false 0 sCommandsThatAct3 u ∧ Starts 0 0xC072 (if 0 = 1 then 3 else 2) (.cci 0 0 0 0 0 false) 0 u ∧ masterBusy u 0 = true :=
  startsWit (by decide +kernel)

theorem test_CommandsThatAct_4 : ∃ u, Served 0 rq false 0 sStreamStoreTraceWritesTakeEffect6 u ∧ Starts 0 0xC061 (if true then 3 else 2) (.bridgeAccess 63 true 0x3FF 0) 0 u ∧ (u.lane 63).state = 6 ∧ ownRegister u 63 0x3FF 0 = false ∧ freeTag (u.lane 63) = some 0 :=
  startsWit (by decide +kernel)

theorem test_CommandsThatAct_5 : ∃ u, Served 0 rq false 0 oS u ∧ Starts 0 0xC060 2 (.traceBringUp 63) 0 u ∧ cfgN u 0x7043 63 ≠ 0 ∧ laneBusy u 63 = false ∧ u.power.state ≠ 1 ∧ (u.lane 63).state ≠ 6 :=
  startsWit (by decide +kernel)

theorem test_CommandsThatAct_6 : ∃ u, Served 0 rq false 0 sStreamStoreTraceWritesTakeEffect6 u ∧ Starts 0 0xC060 2 (.traceBringUp 63) 0 u ∧ laneBusy u 63 = false ∧ (u.lane 63).state = 6 :=
  startsWit (by decide +kernel)

def sCommandsThatAct7 : State := { oS with power := { oS.power with state := 1, coresRun := false } }

theorem test_CommandsThatAct_7 : ∃ u, Served 0 rq false 0 sCommandsThatAct7 u ∧ Starts 0 0xC060 2 (.traceBringUp 0) 0 u ∧ u.power.state = 1 ∧ isWheeler u = false :=
  startsWit (by decide +kernel)

def sPairAndImageCommands1 : State := { leadS with pair := { leadS.pair with state := 2 } }

theorem test_PairAndImageCommands_1 : ∃ u, Served 0 rq false 0 sPairAndImageCommands1 u ∧ Starts 0 0xC090 2 .pairing 0 u ∧ u.gait.job = 0 ∧ lanesUp u ≠ 0 ∧ u.pair.pairing = none ∧ u.pair.partnerPairing = none :=
  startsWit (by decide +kernel)

def sPairAndImageCommands2 : State := { leadS with pair := { leadS.pair with state := 2, partnerPairing := some (0, [1]) } }

theorem test_PairAndImageCommands_2 : ∃ u, Served 0 rq false 0 sPairAndImageCommands2 u ∧ Starts 0 0xC090 2 .pairing 0 u ∧ u.pair.partnerPairing = some (0, [1]) ∧ u.time.now ≤ 0 + 60 * sec :=
  startsWit (by decide +kernel)

def sPairAndImageCommands3 : State := { leadS with pair := { leadS.pair with state := 2, partnerHash := [1], identified := true } }

theorem test_PairAndImageCommands_3 : ∃ u, Served 0 rq false 0 sPairAndImageCommands3 u ∧ Starts 0 0xC091 2 .none 0 u ∧ u.pair.state ≠ 0 :=
  startsWit (by decide +kernel)

theorem test_PairAndImageCommands_4 : ∃ u, Served 0 rq false 0 oS u ∧ Starts 0 0xC091 2 .none 0 u ∧ u.pair.state = 0 :=
  startsWit (by decide +kernel)

theorem test_PairAndImageCommands_5 : ∃ u, Served 0 rq false 0 leadS u ∧ Starts 0 0xC092 2 .handover 0 u ∧ handoverAllowed u = true :=
  startsWit (by decide +kernel)

def sPairAndImageCommands6 : State := { oS with start := { oS.start with slots := [{ reason := 0 }, { reason := 0, checked := true }] } }

theorem test_PairAndImageCommands_6 : ∃ u, Served 0 rq true 0 sPairAndImageCommands6 u ∧ Starts 0 0xC0B1 3 .none 0 u ∧ (slotOfImage u (otherSlot u)).checked = true ∧ u.start.recovery = false :=
  startsWit (by decide +kernel)

def sPairAndImageCommands7 : State := { (oS.setSess 0 { oS.sess 0 with peer := { port := .mgmt, addr := 7 } }) with start := { oS.start with recovery := true, step := 4, slots := [{ reason := 0 }, { reason := 0, checked := true }] } }

theorem test_PairAndImageCommands_7 : ∃ u, Served 0 ⟨1, 5, 1, { port := .mgmt, addr := 7 }⟩ true 0 sPairAndImageCommands7 u ∧ Starts 0 0xC0B1 3 .none 0 u ∧ (slotOfImage sPairAndImageCommands7 (otherSlot sPairAndImageCommands7)).checked = true :=
  startsWit (by decide +kernel)

def sPairAndImageCommands8 : State := { oS with start := { oS.start with bootSlot := 1, slots := [{}, { rollback := 3 }], boot := { oS.start.boot with trial := true, preferred := 1 } } }

theorem test_PairAndImageCommands_8 : ∃ u, Served 0 rq false 0 sPairAndImageCommands8 u ∧ Starts 0 0xC0B2 3 .none 0 u ∧ u.start.boot.trial = true ∧ u.start.boot.preferred = u.start.bootSlot :=
  startsWit (by decide +kernel)

theorem test_PowerStateCommands_1 : ∃ u, Served 0 rq false 0 oS u ∧ Starts 0 0xC0A0 1 (.power 1) 0 u ∧ powerRefusal 1 u = none :=
  startsWit (by decide +kernel)

theorem test_PowerStateCommands_2 : ∃ u, Served 0 rq false 0 sCommandsThatAct7 u ∧ Starts 0 0xC0A0 1 (.power 0) 0 u ∧ powerRefusal 0 u = none :=
  startsWit (by decide +kernel)

theorem test_PowerStateCommands_3 : ∃ u, Served 0 rq false 0 oS u ∧ Starts 0 0xC0A0 1 (.power 2) 0 u ∧ powerRefusal 2 u = none ∧ entryRefusal entryOk (startHandle 0 0xC0A0 (.power 2) 0 u) = none :=
  startsWit (by decide +kernel)

theorem test_PowerStateCommands_4 : ∃ u, Served 0 rq false 0 oS u ∧ Starts 0 0xC0A0 2 (.power 3) 0 u ∧ powerRefusal 3 u = none ∧ entryRefusal entryOk (startHandle 0 0xC0A0 (.power 3) 0 u) = none :=
  startsWit (by decide +kernel)

theorem test_PowerStateCommands_5 : ∃ u, Served 0 rq false 0 oS u ∧ Starts 0 0xC0A0 2 (.power 4) 0 u ∧ powerRefusal 4 u = none ∧ entryRefusal entryOk (startHandle 0 0xC0A0 (.power 4) 0 u) = none :=
  startsWit (by decide +kernel)

theorem test_PowerStateCommands_6 : ∃ u, Served 0 rq false 0 oS u ∧ Starts 0 0xC0A0 1 (.power 2) 0 u ∧ entryRefusal ⟨none, false, some 3, none⟩ (startHandle 0 0xC0A0 (.power 2) 0 u) = some (4, 1) :=
  startsWit (by decide +kernel)

def sCountEdgeCounts1 : State := cf oS 0x4020 3 0x000F0007

theorem test_CountEdgeCounts_1 : samplesRun (tick 0 sCountEdgeCounts1) = true ∧ encEnabled (tick 0 sCountEdgeCounts1) 3 = true ∧ filtered (tick 0 sCountEdgeCounts1) 3 true false = (true, false) ∧ (true != (sCountEdgeCounts1.chan 3).a) ≠ (false != (sCountEdgeCounts1.chan 3).b) :=
  by decide +kernel

theorem test_CountEdgeCounts_2 : samplesRun (tick 0 sAxisWritesTakeEffect1) = true ∧ encEnabled (tick 0 sAxisWritesTakeEffect1) 0 = true ∧ filtered (tick 0 sAxisWritesTakeEffect1) 0 true false = (true, false) ∧ (0 : Nat) = sAxisWritesTakeEffect1.axis.source :=
  by decide +kernel

theorem test_CountEdgeCounts_3 : samplesRun (tick 0 sCountEdgeCounts1) = true ∧ encEnabled (tick 0 sCountEdgeCounts1) 3 = true ∧ filtered (tick 0 sCountEdgeCounts1) 3 true true = (true, true) ∧ true ≠ (sCountEdgeCounts1.chan 3).a ∧ true ≠ (sCountEdgeCounts1.chan 3).b ∧ (sCountEdgeCounts1.chan 3).illegal.length < 16 :=
  by decide +kernel

theorem test_CountEdgeCounts_4 : samplesRun (tick 0 oS) = true ∧ encEnabled (tick 0 oS) 3 = false ∧ filtered (tick 0 oS) 3 true false = (true, false) ∧ true ≠ (oS.chan 3).a :=
  by decide +kernel

theorem test_CountEdgeCounts_5 : samplesRun (tick 0 sCountEdgeCounts1) = true ∧ filtered (tick 0 sCountEdgeCounts1) 3 false false = ((sCountEdgeCounts1.chan 3).a, (sCountEdgeCounts1.chan 3).b) :=
  by decide +kernel

theorem test_IndexAndWireEvents_1 : samplesRun (tick 0 sCountEdgeCounts1) = true ∧ encEnabled (tick 0 sCountEdgeCounts1) 3 = true ∧ 8 < 9 :=
  by decide +kernel

theorem test_IndexAndWireEvents_2 : indexMode (tick 0 sCountEdgeCounts1) 3 = 0 :=
  by decide +kernel

def sIndexAndWireEvents3 : State := (cf oS 0x4020 3 0x000F0807).setChan 3 { (oS.chan 3) with reload := true }

theorem test_IndexAndWireEvents_3 : samplesRun (tick 0 sIndexAndWireEvents3) = true ∧ encEnabled (tick 0 sIndexAndWireEvents3) 3 = true ∧ indexMode (tick 0 sIndexAndWireEvents3) 3 ≠ 0 ∧ (sIndexAndWireEvents3.chan 3).status.on encWireZ = false ∧ (sIndexAndWireEvents3.chan 3).faulty = false ∧ (sIndexAndWireEvents3.chan 3).reload = true :=
  by decide +kernel

def sIndexAndWireEvents4 : State := (cf (cf oS 0x4020 3 0x000F0807) 0x4022 3 1000).setChan 3 { (oS.chan 3) with hasRef := true, refNext := false, reload := false, count := 1 }

theorem test_IndexAndWireEvents_4 : samplesRun (tick 0 sIndexAndWireEvents4) = true ∧ encEnabled (tick 0 sIndexAndWireEvents4) 3 = true ∧ indexMode (tick 0 sIndexAndWireEvents4) 3 ≠ 0 ∧ (sIndexAndWireEvents4.chan 3).status.on encWireZ = false ∧ (sIndexAndWireEvents4.chan 3).faulty = false ∧ (sIndexAndWireEvents4.chan 3).reload = false ∧ (sIndexAndWireEvents4.chan 3).armed = false ∧ (sIndexAndWireEvents4.chan 3).refNext = false ∧ (sIndexAndWireEvents4.chan 3).hasRef = true ∧ cfgN sIndexAndWireEvents4 0x4022 3 ≠ 0 ∧ (indexOffset (countDiff (countOf (sIndexAndWireEvents4.chan 3)) (cfg sIndexAndWireEvents4 0x4021 3)) (cfgN sIndexAndWireEvents4 0x4022 3)).natAbs ≤ cfgN sIndexAndWireEvents4 0x4023 3 :=
  by decide +kernel

def sIndexAndWireEvents5 : State := (cf (cf oS 0x4020 3 0x000F0807) 0x4022 3 1000).setChan 3 { (oS.chan 3) with hasRef := true, refNext := false, reload := false, count := 100 }

theorem test_IndexAndWireEvents_5 : samplesRun (tick 0 sIndexAndWireEvents5) = true ∧ encEnabled (tick 0 sIndexAndWireEvents5) 3 = true ∧ indexMode (tick 0 sIndexAndWireEvents5) 3 ≠ 0 ∧ (sIndexAndWireEvents5.chan 3).status.on encWireZ = false ∧ (sIndexAndWireEvents5.chan 3).faulty = false ∧ (sIndexAndWireEvents5.chan 3).reload = false ∧ (sIndexAndWireEvents5.chan 3).armed = false ∧ (sIndexAndWireEvents5.chan 3).refNext = false ∧ (sIndexAndWireEvents5.chan 3).hasRef = true ∧ cfgN sIndexAndWireEvents5 0x4023 3 < (indexOffset (countDiff (countOf (sIndexAndWireEvents5.chan 3)) (cfg sIndexAndWireEvents5 0x4021 3)) (cfgN sIndexAndWireEvents5 0x4022 3)).natAbs :=
  by decide +kernel

theorem test_IndexAndWireEvents_6 : monitored (tick 0 sCountEdgeCounts1) 3 = true ∧ (wirePair sCountEdgeCounts1 3 2).over50 = false ∧ (sCountEdgeCounts1.chan 3).episodes.length < 16 :=
  by decide +kernel

def sIndexAndWireEvents7 : State := (cf oS 0x4020 3 0x000F0007).setChan 3 { pairs := [(2, { over50 := true })] }

theorem test_IndexAndWireEvents_7 : monitored (tick 0 sIndexAndWireEvents7) 3 = true ∧ (wirePair sIndexAndWireEvents7 3 2).over50 = true ∧ (wirePair sIndexAndWireEvents7 3 2).over1us = false :=
  by decide +kernel

def sIndexAndWireEvents8 : State := (cf oS 0x4020 3 0x000F0007).setChan 3 { pairs := [(1, { over50 := true })] }

theorem test_IndexAndWireEvents_8 : monitored (tick 0 sIndexAndWireEvents8) 3 = true ∧ (wirePair sIndexAndWireEvents8 3 1).over50 = true ∧ (sIndexAndWireEvents8.chan 3).faulty = false ∧ (3 : Nat) ≠ sIndexAndWireEvents8.axis.source :=
  by decide +kernel

theorem test_IndexAndWireEvents_9 : samplesRun (tick 0 sIndexAndWireEvents7) = true ∧ (wirePair sIndexAndWireEvents7 3 2).over50 = true :=
  by decide +kernel

theorem test_IndexAndWireEvents_10 : samplesRun (tick 0 sCountEdgeCounts1) = true ∧ encEnabled (tick 0 sCountEdgeCounts1) 3 = true :=
  by decide +kernel

theorem test_IndexAndWireEvents_11 : bitOn (cfg sCountEdgeCounts1 0x4020 3) 2 = true ∧ supplied sCountEdgeCounts1 = true ∧ (wirePair sCountEdgeCounts1 3 2).termOff = false ∧ (sCountEdgeCounts1.chan 3).episodes.length < 16 :=
  by decide +kernel

def sIndexAndWireEvents12 : State := (cf oS 0x4020 3 0x000F0007).setChan 3 { pairs := [(2, { termOff := true })] }

theorem test_IndexAndWireEvents_12 : (wirePair sIndexAndWireEvents12 3 2).termOff = true ∧ supplied sIndexAndWireEvents12 = true ∧ (wirePair sIndexAndWireEvents12 3 2).termAt + 10 * ms ≤ sIndexAndWireEvents12.time.now + 10 * ms :=
  by decide +kernel

def sAxisLimitAndReinTimers1 : State := { oS with axis := { oS.axis with stopped := false } }

theorem test_AxisLimitAndReinTimers_1 : stopDue (tick 0 sAxisLimitAndReinTimers1) = true ∧ sAxisLimitAndReinTimers1.rein.state = 0 :=
  by decide +kernel

def sAxisLimitAndReinTimers2 : State := { oS with axis := { oS.axis with state := 1 } }

theorem test_AxisLimitAndReinTimers_2 : sAxisLimitAndReinTimers2.axis.supervisorLost = false ∧ sAxisLimitAndReinTimers2.axis.state = 1 ∧ isWheeler sAxisLimitAndReinTimers2 = false ∧ sAxisLimitAndReinTimers2.pair.state ≠ 3 :=
  by decide +kernel

def sAxisLimitAndReinTimers3 : State := { oS with gait := { oS.gait with riseSince := some 0, sentLimit := 5 } }

theorem test_AxisLimitAndReinTimers_3 : since (tick (100 * ms) sAxisLimitAndReinTimers3) sAxisLimitAndReinTimers3.gait.riseSince (100 * ms) = true :=
  by decide +kernel

def sAxisLimitAndReinTimers4 : State := { oS with gait := { oS.gait with overSince := some 0 } }

theorem test_AxisLimitAndReinTimers_4 : since (tick ms sAxisLimitAndReinTimers4) sAxisLimitAndReinTimers4.gait.overSince ms = true ∧ sAxisLimitAndReinTimers4.gait.overRaised = false :=
  by decide +kernel

def sAxisLimitAndReinTimers5 : State := { oS with gait := { oS.gait with slowSince := some 0, slowLimit := 5 } }

theorem test_AxisLimitAndReinTimers_5 : since (tick (3600 * sec) sAxisLimitAndReinTimers5) sAxisLimitAndReinTimers5.gait.slowSince (cfgN sAxisLimitAndReinTimers5 0x7032 0 * sec) = true :=
  by decide +kernel

def sAxisLimitAndReinTimers6 : State := { oS with rein := { oS.rein with state := 1 }, faults := { oS.faults with stopRein := true } }

theorem test_AxisLimitAndReinTimers_6 : isWheeler sAxisLimitAndReinTimers6 = false ∧ sAxisLimitAndReinTimers6.rein.state = 1 ∧ sAxisLimitAndReinTimers6.rein.stopAt + cfgN sAxisLimitAndReinTimers6 0x4084 0 * ms ≤ sAxisLimitAndReinTimers6.time.now + 3600 * sec :=
  by decide +kernel

theorem test_AxisLimitAndReinTimers_7 : sAxisWritesTakeEffect6.rein.state = 2 ∧ sAxisWritesTakeEffect6.axis.stopped = true ∧ lpos (tick (3600 * sec) sAxisWritesTakeEffect6) ≤ sAxisWritesTakeEffect6.rein.target ∧ sAxisWritesTakeEffect6.rein.revAt + cfgN sAxisWritesTakeEffect6 0x4085 0 * ms ≤ sAxisWritesTakeEffect6.time.now + 3600 * sec :=
  by decide +kernel

def sAxisLimitAndReinTimers8 : State := { oS with rein := { oS.rein with state := 2 }, axis := { oS.axis with stopped := false } }

theorem test_AxisLimitAndReinTimers_8 : sAxisLimitAndReinTimers8.rein.state = 2 ∧ sAxisLimitAndReinTimers8.axis.stopped = false :=
  by decide +kernel

def sAxisLimitAndReinTimers9 : State := ({ oS with rein := { oS.rein with state := 3 } }).setRow 0 { held := true, heldCause := 3, heldLine := 5 }

theorem test_AxisLimitAndReinTimers_9 : sAxisLimitAndReinTimers9.rein.state = 3 ∧ sAxisLimitAndReinTimers9.rein.holdAt + cfgN sAxisLimitAndReinTimers9 0x4086 0 * ms ≤ sAxisLimitAndReinTimers9.time.now + 3600 * sec ∧ allReady (tick (3600 * sec) sAxisLimitAndReinTimers9) = false :=
  by decide +kernel

def sAxisLimitAndReinTimers10 : State := { oS with rein := { oS.rein with state := 4 } }

theorem test_AxisLimitAndReinTimers_10 : sAxisLimitAndReinTimers10.rein.state = 4 ∧ sAxisLimitAndReinTimers10.rein.runRaised = false ∧ sAxisLimitAndReinTimers10.rein.runAt + cfgN sAxisLimitAndReinTimers10 0x4087 0 * ms ≤ sAxisLimitAndReinTimers10.time.now + 3600 * sec ∧ countDiff (countOf (srcChan sAxisLimitAndReinTimers10)) sAxisLimitAndReinTimers10.rein.lowCount ≤ 0 :=
  by decide +kernel

def sAxisLimitAndReinTimers11 : State := { oS with rein := { oS.rein with state := 3 } }

theorem test_AxisLimitAndReinTimers_11 : sAxisLimitAndReinTimers11.rein.state = 3 ∧ sAxisLimitAndReinTimers11.axis.stopped = true ∧ allReady (tick 0 sAxisLimitAndReinTimers11) = true :=
  by decide +kernel

theorem test_TriggersPulse_1 : ((predS.trig 7).pred.map (fun p => (some p.1, p.2))) = some (trigNextPos predS 7, 0) ∧ trigsRun predS = true ∧ predS.axis.state = 1 ∧ trigMode predS 7 = 1 ∧ (trigNextPos predS 7).isSome = true ∧ (predS.trig 7).pulseEnd = none :=
  by decide +kernel

def sTriggersPulse2 : State := predS.setTrig 7 { predS.trig 7 with pulseEnd := some 5 }

theorem test_TriggersPulse_2 : ((sTriggersPulse2.trig 7).pred.map (fun p => (some p.1, p.2))) = some (trigNextPos sTriggersPulse2 7, 0) ∧ trigsRun sTriggersPulse2 = true ∧ (sTriggersPulse2.trig 7).pulseEnd = some 5 :=
  by decide +kernel

def sTriggersPulse3 : State := cf oS 0x9040 7 2

theorem test_TriggersPulse_3 : trigMode (tick 0 sTriggersPulse3) 7 = 2 ∧ trigTime (tick 0 sTriggersPulse3) 7 (sTriggersPulse3.trig 7).k ≤ devTime (tick 0 sTriggersPulse3) ∧ (sTriggersPulse3.trig 7).k = 0 ∧ trigsRun sTriggersPulse3 = true :=
  by decide +kernel

def sTriggersPulse4 : State := oS.setTrig 7 { pulseEnd := some 5 }

theorem test_TriggersPulse_4 : (sTriggersPulse4.trig 7).pulseEnd = some 5 :=
  by decide +kernel

def sFireSendsTheLine1 : State := (({ oS with axis := { oS.axis with state := 1 } }).setRow 127 { pred := some ⟨5, 0, 0, false, 0, 0, false⟩ }).setLane 63 { oS.lane 63 with state := 6 }

theorem test_FireSendsTheLine_1 : (sFireSendsTheLine1.row 127).pred = some ⟨5, 0, 0, false, 0, 0, false⟩ ∧ gaitLive sFireSendsTheLine1 = true ∧ (sFireSendsTheLine1.row 127).held = false ∧ lateCauses (beginBars 5 (tick 0 sFireSendsTheLine1)) 127 5 0 false = [] ∧ (sFireSendsTheLine1.lane 63).state = 6 :=
  by decide +kernel

theorem test_FireSendsTheLine_2 : (oS.row 127).pred = none :=
  by decide +kernel

def sStreamDataIsStored1 : State := ringOn 0 oS

theorem test_StreamDataIsStored_1 : receiverRuns sStreamDataIsStored1 = true ∧ (dataPkt 0).typ ≠ 3 :=
  by decide +kernel

theorem test_StreamDataIsStored_2 : receiverRuns oS = true ∧ 63 < (dataPkt 64).stream :=
  by decide +kernel

def sStreamDataIsStored3 : State := ringOn 63 oS

theorem test_StreamDataIsStored_3 : receiverRuns sStreamDataIsStored3 = true ∧ packetCheck (sStreamDataIsStored3.ring 63) (limitBefore (tick 0 sStreamDataIsStored3) 63) (cfgN sStreamDataIsStored3 0x5005 63) (dataPkt 63) = (0, 0) :=
  by decide +kernel

theorem test_StreamDataIsStored_4 : receiverRuns oS = true ∧ packetCheck (oS.ring 63) (limitBefore (tick 0 oS) 63) (cfgN oS 0x5005 63) (dataPkt 63) = (2 + 1, 1) :=
  by decide +kernel

def sAcksNaksAndLinks1 : State := (ringOn 63 oS).setRing 63 { (ringOn 63 oS).ring 63 with sources := [host] }

theorem test_AcksNaksAndLinks_1 : packetCheck (sAcksNaksAndLinks1.ring 63) (limitBefore (tick 0 sAcksNaksAndLinks1) 63) (cfgN sAcksNaksAndLinks1 0x5005 63) (probePkt 63) = (0, 0) ∧ isWheeler sAcksNaksAndLinks1 = false ∧ streamPeer sAcksNaksAndLinks1 63 = some host :=
  by decide +kernel

def sAcksNaksAndLinks2 : State := (ringOn 63 oS).setRing 63 { (ringOn 63 oS).ring 63 with sources := [host], dataSince := true }

theorem test_AcksNaksAndLinks_2 : (sAcksNaksAndLinks2.ring 63).enable = true ∧ (sAcksNaksAndLinks2.ring 63).dataSince = true ∧ (sAcksNaksAndLinks2.ring 63).ackAt + cfgN sAcksNaksAndLinks2 0x5010 0 * us ≤ sAcksNaksAndLinks2.time.now + 100 * ms ∧ isWheeler sAcksNaksAndLinks2 = false ∧ hasWheeler sAcksNaksAndLinks2 = false ∧ streamPeer sAcksNaksAndLinks2 63 = some host :=
  by decide +kernel

def sAcksNaksAndLinks3 : State := (ringOn 63 oS).setRing 63 { (ringOn 63 oS).ring 63 with sources := [host], gaps := [⟨0, 64, 0, none, 1⟩], ranges := [(64, 128)], high := 128 }

theorem test_AcksNaksAndLinks_3 : gapDue (tick sec sAcksNaksAndLinks3) ⟨0, 64, 0, none, 1⟩ = true ∧ inTime (tick sec sAcksNaksAndLinks3) 63 0 64 = true ∧ isWheeler sAcksNaksAndLinks3 = false ∧ streamPeer sAcksNaksAndLinks3 63 = some host :=
  by decide +kernel

theorem test_AcksNaksAndLinks_4 : oS.power.state ≤ 1 ∧ oS.power.down = false :=
  by decide +kernel

theorem test_DecodersAndBandsTakeLines_1 : ringRegion (tick 0 blankS) (envNow (tick 0 blankS)) 0 = some 0 ∧ blankS.faults.stopped = false ∧ blankS.power.state = 0 ∧ tget false blankS.screen.decFailed (6 * 0 + 5) = false ∧ queueFront (tick 0 blankS) 0 = some 0 ∧ (readyLine (tick 0 blankS) 0).map (fun y => (y.base, y.page, y.i)) = some (0, 1, 1) ∧ (stripeAt (blankS.ring 0) 0).map (fun x => (x.len, x.depth)) = some (some 64, some 10) ∧ (pageNumbered blankS 1).isSome = true ∧ (stripeLine (parseHdr (ringBytes blankS 0 0 24)) (ringBytes blankS 0 0 64) 1 []).err = 0 :=
  by decide +kernel

theorem test_DecodersAndBandsTakeLines_2 : (readyLine (tick 0 badS) 0).map (fun y => (y.base, y.page, y.i)) = some (0, 1, 1) ∧ (stripeLine (parseHdr (ringBytes badS 0 0 24)) (ringBytes badS 0 0 64) 1 []).err ≠ 0 :=
  by decide +kernel

theorem test_DecodersAndBandsTakeLines_3 : CleanMemories decS ∧ queueFront (tick 0 decS) 0 = some 0 :=
  cleanWit (by decide +kernel)

theorem test_DecodersAndBandsTakeLines_4 : regionPowered (tick 0 printS) 0 = true ∧ tget false printS.screen.decFailed (6 * 0 + 5) = false :=
  by decide +kernel

def sDecodersAndBandsTakeLines5 : State := { oS with screen := { oS.screen with decFailed := [(23, true)] } }

theorem test_DecodersAndBandsTakeLines_5 : tget false sDecodersAndBandsTakeLines5.screen.decFailed (6 * 3 + 5) = true :=
  by decide +kernel

def sDecodersAndBandsTakeLines6 : State := printS.setEngine 0 { role := .band, plane := some 0, width := 64 }

theorem test_DecodersAndBandsTakeLines_6 : recoverable (tick 0 sDecodersAndBandsTakeLines6) 0 = none ∧ lineDue (tick 0 sDecodersAndBandsTakeLines6) 0 = true ∧ rowAwaited (tick 0 sDecodersAndBandsTakeLines6) 0 = none :=
  by decide +kernel

def sDecodersAndBandsTakeLines7 : State := ({ printS with screen := { printS.screen with arrays := [(0, some ⟨64, 64, 1, 0⟩)] } }).setEngine 0 { role := .band, plane := some 0, width := 64 }

theorem test_DecodersAndBandsTakeLines_7 : recoverable (tick 0 sDecodersAndBandsTakeLines7) 0 = none ∧ lineDue (tick 0 sDecodersAndBandsTakeLines7) 0 = true ∧ rowAwaited (tick 0 sDecodersAndBandsTakeLines7) 0 = some 0 :=
  by decide +kernel

def sDecodersAndBandsTakeLines8 : State := printS.setEngine 0 { role := .band, plane := some 0, width := 64, next := 100000 }

theorem test_DecodersAndBandsTakeLines_8 : (sDecodersAndBandsTakeLines8.engine 0).role = .band ∧ sDecodersAndBandsTakeLines8.integ.sramErr = [] ∧ recoverable (tick 0 sDecodersAndBandsTakeLines8) 0 = none ∧ lineDue (tick 0 sDecodersAndBandsTakeLines8) 0 = false :=
  by decide +kernel

def sDecodersAndBandsTakeLines9 : State := oS.setEngine 35 { role := .band, plane := some 0, width := 64, waitRows := [5, 6], waiting := true }

theorem test_DecodersAndBandsTakeLines_9 : (sDecodersAndBandsTakeLines9.engine 35).waitRows = [5, 6] :=
  by decide +kernel

def sStoreUpkeep1 : State := { oS with store := { oS.store with banks := [(1535, { behind := 3 })] } }

theorem test_StoreUpkeep_1 : storeRuns sStoreUpkeep1 = true :=
  by decide +kernel

def sStoreUpkeep2 : State := { oS with store := { oS.store with banks := [(0, { behind := 7 })] } }

theorem test_StoreUpkeep_2 : storeRuns sStoreUpkeep2 = true ∧ (tget {} sStoreUpkeep2.store.banks 0).behind < 8 :=
  by decide +kernel

def sStoreUpkeep3 : State := { oS with store := { oS.store with banks := [(0, { behind := 8 })] } }

theorem test_StoreUpkeep_3 : storeRuns sStoreUpkeep3 = true ∧ 8 ≤ (tget {} sStoreUpkeep3.store.banks 0).behind :=
  by decide +kernel

theorem test_StoreUpkeep_4 : storeRuns oS = true :=
  by decide +kernel

theorem test_StoreUpkeep_5 : oS.power.state ≤ 1 ∧ cfg oS 0xB013 0 = 1 ∧ oS.store.state = 2 ∧ (oS.integ.scrubQueue.find? (fun u => (cellOf oS (u * 64)).pc == 31)) = none :=
  by decide +kernel

def sStoreUpkeep6 : State := { oS with integ := { oS.integ with scrubPos := [(31, pcUnits - 1)] } }

theorem test_StoreUpkeep_6 : sStoreUpkeep6.store.state = 2 ∧ (¬(tget 0 sStoreUpkeep6.integ.scrubPos 31 + 1 < pcUnits)) :=
  by decide +kernel

def sStoreUpkeep7 : State := { oS with integ := { oS.integ with scrubQueue := [0] } }

theorem test_StoreUpkeep_7 : (sStoreUpkeep7.integ.scrubQueue.find? (fun u => (cellOf sStoreUpkeep7 (u * 64)).pc == 0)) = some 0 :=
  by decide +kernel

def sStoreUpkeep8 : State := { oS with integ := { oS.integ with scrubQueue := [0] }, store := { oS.store with marks := [(0, { dataErr := [(0, 1)] }), (1, { dataErr := [(0, 1), (9, 1)] })] } }

theorem test_StoreUpkeep_8 : sStoreUpkeep8.integ.scrubQueue.find? (fun u => (cellOf sStoreUpkeep8 (u * 64)).pc == 0) = some 0 ∧ burstClass sStoreUpkeep8 0 = 1 ∧ burstClass sStoreUpkeep8 1 = 3 :=
  by decide +kernel

def sStoreUpkeep9 : State := { oS with integ := { oS.integ with sramQueue := [sramKey 1 0] } }

theorem test_StoreUpkeep_9 : sStoreUpkeep9.power.state ≤ 1 ∧ cfg sStoreUpkeep9 0xB013 0 = 1 ∧ sStoreUpkeep9.integ.sramQueue.find? (fun key => sramBank (keyMem key) (keyAddr key) == 0) = some (sramKey 1 0) :=
  by decide +kernel

def sStoreUpkeep10 : State := { oS with integ := { oS.integ with sramPos := [(21, sramWords 21 - 1)] } }

theorem test_StoreUpkeep_10 : cfg sStoreUpkeep10 0xB013 0 = 1 ∧ (¬(tget 0 sStoreUpkeep10.integ.sramPos 21 + 1 < sramWords 21)) :=
  by decide +kernel

def sStoreUpkeep11 : State := { oS with integ := { oS.integ with retired := [⟨0, 0, 0, 5, 1, 0, []⟩] } }

theorem test_StoreUpkeep_11 : storeRuns sStoreUpkeep11 = true ∧ sStoreUpkeep11.integ.retired[0]? = some ⟨0, 0, 0, 5, 1, 0, []⟩ :=
  by decide +kernel

def sStoreUpkeep12 : State := { oS with noz := { oS.noz with cnt := [(5, { fire := 1 })] } }

theorem test_StoreUpkeep_12 : storeRuns sStoreUpkeep12 = true :=
  by decide +kernel

def sStoreUpkeep13 : State := { oS with noz := { oS.noz with dirty := [(0, true), (63, true)] } }

theorem test_StoreUpkeep_13 : storeRuns sStoreUpkeep13 = true ∧ flashWorks sStoreUpkeep13 = true ∧ sStoreUpkeep13.noz.savedAt + cfgN sStoreUpkeep13 0x6033 0 * sec ≤ sStoreUpkeep13.time.now + 3600 * 24 * sec :=
  by decide +kernel

theorem test_EngineFaultsTakeEnginesOut_1 : LoneFault 1000 printS ∧ engineRuns (tick 1000 printS) 0 = true ∧ (printS.engine 0).role ≠ .out :=
  loneWit (by decide +kernel)

theorem test_EngineFaultsTakeEnginesOut_2 : LoneFault 1000 sDecodersAndBandsTakeLines6 ∧ engineRuns (tick 1000 sDecodersAndBandsTakeLines6) 0 = true ∧ engineRuns (tick 1000 sDecodersAndBandsTakeLines6) 2 = true :=
  loneWit (by decide +kernel)

def sEngineFaultsTakeEnginesOut3 : State := printS.setEngine 0 { role := .band, plane := some 0, width := 64, dueAt := some 0 }

theorem test_EngineFaultsTakeEnginesOut_3 : LoneFault (10 * us) sEngineFaultsTakeEnginesOut3 ∧ stalled (tick (10 * us) sEngineFaultsTakeEnginesOut3) 0 = true :=
  loneWit (by decide +kernel)

theorem test_EngineFaultsTakeEnginesOut_4 : LoneFault 1000 printS ∧ engineRuns (tick 1000 printS) 0 = true ∧ (printS.engine 0).role = .free :=
  loneWit (by decide +kernel)

theorem test_EngineFaultsTakeEnginesOut_5 : LoneFault 1000 oS ∧ engineRuns (tick 1000 oS) 35 = false ∧ 1 ≠ 5 :=
  loneWit (by decide +kernel)

theorem test_EngineFaultsTakeEnginesOut_6 : engineRuns (tick 0 printS) 8 = true ∧ (printS.engine 8).role = .spare :=
  by decide +kernel

def sEngineFaultsTakeEnginesOut7 : State := printS.setEngine 0 { role := .band, plane := some 0, width := 64, next := 6, remount := some ⟨1, 5, 4, 1, 0, false⟩ }

theorem test_EngineFaultsTakeEnginesOut_7 : (sEngineFaultsTakeEnginesOut7.engine 0).remount = some ⟨1, 5, 4, 1, 0, false⟩ ∧ 5 < (sEngineFaultsTakeEnginesOut7.engine 0).next :=
  by decide +kernel

def sHeadsReport1 : State := headOn 63 oS

theorem test_HeadsReport_1 : laneActive sHeadsReport1 63 = true ∧ headAssigned (tick 0 sHeadsReport1) 63 = true ∧ (sHeadsReport1.head 63).thermal ≠ 2 ∧ cfg sHeadsReport1 0x700B 63 ≤ 1000 :=
  by decide +kernel

def sHeadsReport2 : State := headOn 0 oS

theorem test_HeadsReport_2 : laneActive sHeadsReport2 0 = true ∧ headAssigned (tick 0 sHeadsReport2) 0 = true ∧ (sHeadsReport2.head 0).thermal = 0 ∧ 0 < cfg sHeadsReport2 0x700B 0 :=
  by decide +kernel

theorem test_HeadsReport_3 : (sHeadsReport2.head 0).thermal = 0 ∧ 599 < cfg sHeadsReport2 0x700B 0 ∧ cfg sHeadsReport2 0x700A 0 ≤ 599 :=
  by decide +kernel

def sHeadsReport4 : State := (headOn 0 oS).setHead 0 { thermal := 2 }

theorem test_HeadsReport_4 : laneActive sHeadsReport4 0 = true ∧ headAssigned (tick 0 sHeadsReport4) 0 = true ∧ (sHeadsReport4.head 0).thermal = 2 ∧ cfg sHeadsReport4 0x700B 0 - cfg sHeadsReport4 0x700C 0 < 1000 :=
  by decide +kernel

def sHeadsReport5 : State := (headOn 63 oS).setHead 63 { thermal := 1, coolSince := some 0 }

theorem test_HeadsReport_5 : (sHeadsReport5.head 63).thermal = 1 ∧ since (tick (100 * ms) sHeadsReport5) (sHeadsReport5.head 63).coolSince (100 * ms) = true :=
  by decide +kernel

def sHeadsReport6 : State := (headOn 63 oS).setHead 63 { thermal := 2, coolSince := some 0, inhibited := true }

theorem test_HeadsReport_6 : laneActive sHeadsReport6 63 = true ∧ (sHeadsReport6.head 63).thermal = 2 ∧ since (tick (3600 * sec) sHeadsReport6) (sHeadsReport6.head 63).coolSince (cfgN sHeadsReport6 0x700D 63 * ms) = true :=
  by decide +kernel

def sHeadsReport7 : State := (headOn 63 oS).setHead 63 { lastRead := some 0 }

theorem test_HeadsReport_7 : laneActive sHeadsReport7 63 = true ∧ headAssigned (tick (3600 * sec) sHeadsReport7) 63 = true ∧ (sHeadsReport7.head 63).thermal ≠ 2 ∧ since (tick (3600 * sec) sHeadsReport7) (sHeadsReport7.head 63).lastRead (cfgN sHeadsReport7 0x700E 63 * ms) = true :=
  by decide +kernel

theorem test_HeadsReport_8 : laneActive sHeadsReport1 63 = true ∧ (sHeadsReport1.lane 63).senseEn = true ∧ 8191 < headChans ∧ holdsLead sHeadsReport1 = true :=
  by decide +kernel

theorem test_HeadsReport_9 : laneActive sHeadsReport1 63 = true ∧ (sHeadsReport1.lane 63).senseEn = true ∧ 0 < headChans ∧ holdsLead sHeadsReport1 = true :=
  by decide +kernel

def sHeadsReport10 : State := (headOn 63 oS).setLane 63 { (headOn 63 oS).lane 63 with senseEn := true }

theorem test_HeadsReport_10 : laneActive sHeadsReport10 63 = true ∧ ownReport sHeadsReport10 63 0 (reportedLine sHeadsReport10 (2 * 63 + 1) 5) = true :=
  by decide +kernel

theorem test_HeadsReport_11 : laneActive sHeadsReport1 63 = true ∧ ownReport sHeadsReport1 63 0 (missedFrom sHeadsReport1 (2 * 63 + 1) 5) = true :=
  by decide +kernel

def sLaneBringUpSteps1 : State := oS.setLane 63 { oS.lane 63 with state := 1 }

theorem test_LaneBringUpSteps_1 : sLaneBringUpSteps1.power.state ≤ 1 ∧ (sLaneBringUpSteps1.lane 63).state = 1 ∧ senseDue (tick (100 * ms) sLaneBringUpSteps1) 63 = true :=
  by decide +kernel

def sLaneBringUpSteps2 : State := oS.setLane 63 { oS.lane 63 with state := 2 }

theorem test_LaneBringUpSteps_2 : sLaneBringUpSteps2.power.state ≤ 1 ∧ (sLaneBringUpSteps2.lane 63).state = 2 ∧ senseDue (tick (100 * ms) sLaneBringUpSteps2) 63 = true :=
  by decide +kernel

def sLaneBringUpSteps3 : State := oS.setLane 63 { oS.lane 63 with state := 0 }

theorem test_LaneBringUpSteps_3 : cfgN sLaneBringUpSteps3 0x7043 63 = 1 ∧ (sLaneBringUpSteps3.lane 63).state = 0 ∧ senseDue (tick (100 * ms) sLaneBringUpSteps3) 63 = true :=
  by decide +kernel

def sLaneBringUpSteps4 : State := oS.setLane 63 { oS.lane 63 with state := 1, handle := some 256 }

theorem test_LaneBringUpSteps_4 : (sLaneBringUpSteps4.lane 63).state = 1 ∧ senseDue (tick (100 * ms) sLaneBringUpSteps4) 63 = true :=
  by decide +kernel

def sLaneBringUpSteps5 : State := oS.setLane 63 { oS.lane 63 with state := 3 }

theorem test_LaneBringUpSteps_5 : (sLaneBringUpSteps5.lane 63).state = 3 :=
  by decide +kernel

def sLaneBringUpSteps6 : State := oS.setLane 63 { oS.lane 63 with state := 4 }

theorem test_LaneBringUpSteps_6 : (sLaneBringUpSteps6.lane 63).state = 4 ∧ capsRefusal (sLaneBringUpSteps6.lane 63).rate (tget none ([(0, 65536), (1, 0x4D2000), (2, 0), (3, 0), (4, 0), (5, 1), (6, 100), (7, 0), (8, 0), (9, 0), (10, 0), (11, 0)].foldl (fun t w => tput none t w.1 (some w.2)) (sLaneBringUpSteps6.lane 63).capsIn)) = none :=
  by decide +kernel

def sLaneBringUpSteps7 : State := oS.setLane 63 { oS.lane 63 with state := 4, capsTries := 1 }

theorem test_LaneBringUpSteps_7 : (sLaneBringUpSteps7.lane 63).state = 4 ∧ (sLaneBringUpSteps7.lane 63).capsTries < 2 ∧ capsRefusal (sLaneBringUpSteps7.lane 63).rate (tget none (sLaneBringUpSteps7.lane 63).capsIn) = some (1, 0) :=
  by decide +kernel

def sLaneBringUpSteps8 : State := oS.setLane 63 { oS.lane 63 with state := 5, measuring := true, echoes := 62 }

theorem test_LaneBringUpSteps_8 : (sLaneBringUpSteps8.lane 63).measuring = true ∧ (sLaneBringUpSteps8.lane 63).echoes < 63 :=
  by decide +kernel

def sLaneBringUpSteps9 : State := oS.setLane 63 { oS.lane 63 with state := 6, measuring := true, echoes := 63 }

theorem test_LaneBringUpSteps_9 : (sLaneBringUpSteps9.lane 63).measuring = true ∧ 63 ≤ (sLaneBringUpSteps9.lane 63).echoes ∧ (sLaneBringUpSteps9.lane 63).state = 6 :=
  by decide +kernel

def sLaneBringUpSteps10 : State := oS.setLane 63 { oS.lane 63 with state := 6, measuring := true }

theorem test_LaneBringUpSteps_10 : (sLaneBringUpSteps10.lane 63).state = 6 ∧ (sLaneBringUpSteps10.lane 63).measuring = true ∧ (9 : BitVec 8) ≠ (sLaneBringUpSteps10.lane 63).echoSeq :=
  by decide +kernel

def sLaneBringUpSteps11 : State := oS.setLane 63 { oS.lane 63 with state := 4, retrain := some 0 }

theorem test_LaneBringUpSteps_11 : (sLaneBringUpSteps11.lane 63).state = 4 ∧ (sLaneBringUpSteps11.lane 63).retrain = some 0 :=
  by decide +kernel

def sLaneBringUpSteps12 : State := oS.setLane 63 { oS.lane 63 with state := 5, retrain := some 1 }

theorem test_LaneBringUpSteps_12 : (sLaneBringUpSteps12.lane 63).state = 5 ∧ (sLaneBringUpSteps12.lane 63).retrain = some (0 + 1) :=
  by decide +kernel

def sLaneBringUpSteps13 : State := oS.setLane 63 { oS.lane 63 with state := 3, retrain := some 3 }

theorem test_LaneBringUpSteps_13 : (sLaneBringUpSteps13.lane 63).state = 3 ∧ (sLaneBringUpSteps13.lane 63).retrain = some (2 + 1) :=
  by decide +kernel

theorem test_ActiveLinksAndBridges_1 : laneActive sHeadsReport1 63 = true ∧ (sHeadsReport1.lane 63).measuring = false ∧ (sHeadsReport1.lane 63).measuredAt + sec ≤ sHeadsReport1.time.now + sec :=
  by decide +kernel

theorem test_ActiveLinksAndBridges_2 : laneActive sHeadsReport1 63 = true ∧ deepPending sHeadsReport1 63 = false :=
  by decide +kernel

theorem test_ActiveLinksAndBridges_3 : cfgN sHeadsReport1 0x7051 0 < 1000 ∧ laneActive sHeadsReport1 63 = true ∧ deepPending sHeadsReport1 63 = false :=
  by decide +kernel

theorem test_ActiveLinksAndBridges_4 : blockFault none 0 = some 3 :=
  by decide +kernel

theorem test_ActiveLinksAndBridges_5 : blockFault (some true) 1 = some 0 :=
  by decide +kernel

theorem test_ActiveLinksAndBridges_6 : blockFault (some false) 0 = some 7 :=
  by decide +kernel

theorem test_ActiveLinksAndBridges_7 : blockFault (some true) (controlBlock 0x33) = none :=
  by decide +kernel

theorem test_ActiveLinksAndBridges_8 : laneActive sHeadsReport1 63 = true ∧ (sHeadsReport1.lane 63).eyeReadAt = none :=
  by decide +kernel

theorem test_ActiveLinksAndBridges_9 : claimMode sHeadsReport1 63 = some 1 ∧ laneActive sHeadsReport1 63 = true ∧ sHeadsReport1.faults.stopped = false :=
  by decide +kernel

theorem test_ActiveLinksAndBridges_10 : laneActive sHeadsReport1 63 = true ∧ sHeadsReport1.pair.state ≠ 5 ∧ sHeadsReport1.pair.state ≠ 6 :=
  by decide +kernel

def sActiveLinksAndBridges11 : State := (hS (.bridgeAccess 63 false 5 0)).setLane 63 { oS.lane 63 with state := 6, requests := [⟨15, false, 5, 0, 0, some 256, 0⟩] }

theorem test_ActiveLinksAndBridges_11 : (sActiveLinksAndBridges11.lane 63).requests.find? (fun x => x.tag == 15) = some ⟨15, false, 5, 0, 0, some 256, 0⟩ ∧ (sActiveLinksAndBridges11.handle 0).phase = .running ∧ handleWord sActiveLinksAndBridges11 0 = 256 :=
  by decide +kernel

def sActiveLinksAndBridges12 : State := oS.setLane 63 { oS.lane 63 with state := 6, powerReq := some 2, requests := [⟨0, true, 4, 2, 0, none, 1⟩] }

theorem test_ActiveLinksAndBridges_12 : (sActiveLinksAndBridges12.lane 63).requests.find? (fun x => x.tag == 0) = some ⟨0, true, 4, 2, 0, none, 1⟩ ∧ (sActiveLinksAndBridges12.lane 63).powerReq = some 2 :=
  by decide +kernel

def sActiveLinksAndBridges13 : State := oS.setLane 63 { oS.lane 63 with state := 6, requests := [⟨0, false, 4, 0, 0, none, 2⟩] }

theorem test_ActiveLinksAndBridges_13 : (sActiveLinksAndBridges13.lane 63).requests.find? (fun x => x.tag == 0) = some ⟨0, false, 4, 0, 0, none, 2⟩ :=
  by decide +kernel

theorem test_ActiveLinksAndBridges_14 : (sActiveLinksAndBridges11.lane 63).requests.find? (fun x => x.tag == 15) = some ⟨15, false, 5, 0, 0, some 256, 0⟩ ∧ (sActiveLinksAndBridges11.handle 0).phase = .running ∧ handleWord sActiveLinksAndBridges11 0 = 256 :=
  by decide +kernel

theorem test_LinesListsAndSlices_1 : (camDue (tick 0 camPredS) 3).map (fun d => (d.pos, 0)) = (camPredS.camPort 3).pred ∧ (camDue (tick 0 camPredS) 3).isSome = true ∧ captureRuns camPredS = true ∧ camPredS.axis.state = 1 ∧ (camPredS.camPort 3).lastTrig = none ∧ isWheeler camPredS = false ∧ (match camDue (tick 0 camPredS) 3, (camPredS.camPort 3).mark with | some d, some p => decide (p < d.pos) | _, _ => false) = true :=
  by decide +kernel

theorem test_LinesListsAndSlices_2 : (camDue (tick 0 camNewPredS) 3).map (fun d => (d.pos, 0)) = (camNewPredS.camPort 3).pred ∧ (camDue (tick 0 camNewPredS) 3).map (fun d => d.new) = some true ∧ captureRuns camNewPredS = true ∧ camNewPredS.axis.state = 1 :=
  by decide +kernel

def sLinesListsAndSlices3 : State := camCfg.setSensor 15 { expRun := true, expOpen := some 4 }

theorem test_LinesListsAndSlices_3 : (sLinesListsAndSlices3.sensor 15).expRun = true ∧ (sLinesListsAndSlices3.camPort (sensorCfg (envNow (tick 0 sLinesListsAndSlices3)) 15).port).cciHandle = none :=
  by decide +kernel

def sLinesListsAndSlices4 : State := camCfg.setSensor 15 { expRun := true, expOpen := some 4, expDone := 3 }

theorem test_LinesListsAndSlices_4 : (sLinesListsAndSlices4.sensor 15).expRun = true :=
  by decide +kernel

def sLinesListsAndSlices5 : State := camS { frame1 with slice := some 3, started := true, ended := true, noStats := true, held := true }

theorem test_LinesListsAndSlices_5 : (sliceFrame sLinesListsAndSlices5 3).isSome = true ∧ captureRuns sLinesListsAndSlices5 = true ∧ tget false sLinesListsAndSlices5.insp.sliceFailed 3 = false :=
  by decide +kernel

theorem test_LinesListsAndSlices_6 : tget false oS.insp.sliceFailed 3 = false :=
  by decide +kernel

def sLinesListsAndSlices7 : State := { oS with insp := { oS.insp with sliceFailed := [(3, true)] } }

theorem test_LinesListsAndSlices_7 : tget false sLinesListsAndSlices7.insp.sliceFailed 3 = true :=
  by decide +kernel

theorem test_LinesListsAndSlices_8 : captureRuns oS = true :=
  by decide +kernel

theorem test_LinesListsAndSlices_9 : supplied oS = true :=
  by decide +kernel

def sCameraFramesAreTaken1 : State := camS frame1

theorem test_CameraFramesAreTaken_1 : captureRuns sCameraFramesAreTaken1 = true ∧ sensorOn (tick 0 sCameraFramesAreTaken1) 3 15 = some 15 ∧ openOf sCameraFramesAreTaken1 15 = some frame1 ∧ frame1.started = false :=
  by decide +kernel

theorem test_CameraFramesAreTaken_2 : sensorOn (tick 0 camCfg) 3 15 = some 15 ∧ openOf camCfg 15 = none :=
  by decide +kernel

def sCameraFramesAreTaken3 : State := camS { frame1 with started := true }

theorem test_CameraFramesAreTaken_3 : captureRuns sCameraFramesAreTaken3 = true ∧ sensorOn (tick 0 sCameraFramesAreTaken3) 3 15 = some 15 ∧ sCameraFramesAreTaken3.integ.sramErr = [] ∧ (sCameraFramesAreTaken3.sensor 15).discard = false ∧ openOf sCameraFramesAreTaken3 15 = some { frame1 with started := true } ∧ frameOf sCameraFramesAreTaken3 15 1 = some { frame1 with started := true } ∧ 0x2A = (sensorCfg (envAt (tick 0 sCameraFramesAreTaken3) (lineOf frame1.first)) 15).dtype ∧ frame1.nextLine < frame1.linesCfg ∧ (List.replicate 64 9).length = frame1.width * chanCount 0x2A :=
  by decide +kernel

theorem test_CameraFramesAreTaken_4 : sensorOn (tick 0 oS) 3 15 = none ∧ captureRuns oS = true :=
  by decide +kernel

theorem test_CameraFramesAreTaken_5 : captureRuns oS = true :=
  by decide +kernel

theorem test_CameraFramesAreTaken_6 : sensorOn (tick 0 oS) 3 15 = none :=
  by decide +kernel

theorem test_CameraFramesAreTaken_7 : sensorOn (tick 0 sCameraFramesAreTaken3) 3 15 = some 15 ∧ (sCameraFramesAreTaken3.sensor 15).discard = false ∧ (openOf sCameraFramesAreTaken3 15).isSome = true :=
  by decide +kernel

def sCameraFramesAreTaken8 : State := camCfg.setSensor 15 { discard := true }

theorem test_CameraFramesAreTaken_8 : sensorOn (tick 0 sCameraFramesAreTaken8) 3 15 = some 15 ∧ (sCameraFramesAreTaken8.sensor 15).discard = true :=
  by decide +kernel

theorem test_CameraFramesAreTaken_9 : frame1 ∈ openFrames sCameraFramesAreTaken1 ∧ frame1.port = 3 ∧ frame1.trigAt + (envAt (tick sec sCameraFramesAreTaken1) (lineOf frame1.first)).nat 0x8004 3 * ns < sCameraFramesAreTaken1.time.now + sec :=
  by decide +kernel

def sLoopBarsAreMeasured1 : State := { oS with gait := { oS.gait with w := 100000 * oneLine }, loop := { oS.loop with bars := [⟨3, 0, [0], 0, 0, 0, true⟩] } }

theorem test_LoopBarsAreMeasured_1 : sLoopBarsAreMeasured1.loop.outstanding = none ∧ captureRuns sLoopBarsAreMeasured1 = true ∧ sLoopBarsAreMeasured1.loop.bars.find? (barComplete (tick 0 sLoopBarsAreMeasured1)) = some ⟨3, 0, [0], 0, 0, 0, true⟩ ∧ skipReason (tick 0 sLoopBarsAreMeasured1) ⟨3, 0, [0], 0, 0, 0, true⟩ = 1 :=
  by decide +kernel

theorem test_PtpMessagesAndTimers_1 : ptpRuns ptpS = true ∧ ptpTakes ptpS (syncMsg true) = true ∧ forwards ptpS 0 = false ∧ fromMaster ptpS (syncMsg true) = true :=
  by decide +kernel

theorem test_PtpMessagesAndTimers_2 : ptpRuns ptpS = true ∧ ptpTakes ptpS (syncMsg false) = true ∧ fromMaster ptpS (syncMsg false) = true :=
  by decide +kernel

theorem test_PtpMessagesAndTimers_3 : ptpTakes ptpS (syncMsg true) = true ∧ (ptpS.ptpPort 0).sync = some (5, 100, 0) :=
  by decide +kernel

theorem test_PtpMessagesAndTimers_4 : ptpTakes ptpS (syncMsg false) = true ∧ fromMaster ptpS (syncMsg false) = true ∧ (syncMsg false).reqPort = 0 + 1 ∧ (ptpS.ptpPort 0).t1t2 = some (100 * 65536, 200 * 65536) ∧ (ptpS.ptpPort 0).delayReq = some (5, 300 * 65536) :=
  by decide +kernel

def sPtpMessagesAndTimers5 : State := ((oS.setPort 0 { oS.port 0 with up := true }).setPtpPort 0 { state := 6 })

theorem test_PtpMessagesAndTimers_5 : ptpTakes sPtpMessagesAndTimers5 (syncMsg false) = true ∧ forwards sPtpMessagesAndTimers5 0 = false ∧ (sPtpMessagesAndTimers5.ptpPort 0).state = 6 :=
  by decide +kernel

theorem test_PtpMessagesAndTimers_6 : ptpTakes ptpS (syncMsg false) = true ∧ (254 : Nat) < 255 :=
  by decide +kernel

def sPtpMessagesAndTimers7 : State := oS.setPtpPort 2 { state := 6 }

theorem test_PtpMessagesAndTimers_7 : ptpRuns sPtpMessagesAndTimers7 = true ∧ timeRole sPtpMessagesAndTimers7 ≠ 0 ∧ (sPtpMessagesAndTimers7.ptpPort 2).state = 6 :=
  by decide +kernel

theorem test_PtpMessagesAndTimers_8 : (sPtpMessagesAndTimers7.ptpPort 2).state = 6 ∧ timeRole sPtpMessagesAndTimers7 ≠ 0 :=
  by decide +kernel

def sPtpMessagesAndTimers9 : State := oS.setPtpPort 2 { state := 9 }

theorem test_PtpMessagesAndTimers_9 : (sPtpMessagesAndTimers9.ptpPort 2).state = 9 ∧ timeRole sPtpMessagesAndTimers9 ≠ 0 :=
  by decide +kernel

theorem test_PtpMessagesAndTimers_10 : ptpRuns oS = true :=
  by decide +kernel

def sCapturesAndCorrelations1 : State := cf oS 0x9050 3 1

theorem test_CapturesAndCorrelations_1 : evtAccepted (tick 0 sCapturesAndCorrelations1) 3 true = true ∧ evtEnabled sCapturesAndCorrelations1 3 true = true ∧ sCapturesAndCorrelations1.power.state ≤ 1 ∧ (sCapturesAndCorrelations1.evt 3).queue.length < 64 :=
  by decide +kernel

def sCapturesAndCorrelations2 : State := (cf oS 0x9050 3 2).setEvt 3 { level := some true, queue := List.replicate 64 ⟨1, 1, 0, 0, 0⟩, seq := 0xFFFFFFFF }

theorem test_CapturesAndCorrelations_2 : evtAccepted (tick 0 sCapturesAndCorrelations2) 3 false = true ∧ evtEnabled sCapturesAndCorrelations2 3 false = true ∧ popsNow (tick 0 sCapturesAndCorrelations2) 0x9052 3 = false ∧ 64 ≤ (sCapturesAndCorrelations2.evt 3).queue.length :=
  by decide +kernel

def sCapturesAndCorrelations3 : State := oS.setEvt 3 { level := some true }

theorem test_CapturesAndCorrelations_3 : evtAccepted (tick 0 sCapturesAndCorrelations3) 3 true = false :=
  by decide +kernel

theorem test_CapturesAndCorrelations_4 : evtAccepted (tick 0 oS) 3 true = true ∧ oS.power.state ≤ 1 ∧ evtEnabled oS 3 true = false :=
  by decide +kernel

def sCapturesAndCorrelations5 : State := { oS with time := { oS.time with pd := { running := true, cycle := 100000, phase := 0, session := 1, lastN := some 0 } } }

theorem test_CapturesAndCorrelations_5 : slotOf sCapturesAndCorrelations5 sCapturesAndCorrelations5.time.pd.session = some 0 ∧ sCapturesAndCorrelations5.time.pd.lastN = some 0 ∧ ptpRuns sCapturesAndCorrelations5 = true ∧ pdInstant sCapturesAndCorrelations5 (0 + 1) * 1000 ≤ devTime (tick (100000 * 1000) sCapturesAndCorrelations5) :=
  by decide +kernel

theorem test_CapturesAndCorrelations_6 : oS.power.state ≤ 2 ∧ oS.time.corr = [] :=
  by decide +kernel

theorem test_CapturesAndCorrelations_7 : sReadAnswersEachEntry2.power.state ≤ 2 ∧ (0 : Int) < corrInstant (tick sec sReadAnswersEachEntry2) :=
  by decide +kernel

def sCapturesAndCorrelations8 : State := { oS with time := { oS.time with corr := [⟨0, 0, 0, 0, 0, 0, 0⟩] } }

theorem test_CapturesAndCorrelations_8 : sCapturesAndCorrelations8.time.stepped = false ∧ corrInstant (tick 0 sCapturesAndCorrelations8) ≤ 0 :=
  by decide +kernel

def sLoopBarsAreMeasured2 : State := barS 2000

theorem test_LoopBarsAreMeasured_2 : sLoopBarsAreMeasured2.loop.bars.find? (barComplete (tick 0 sLoopBarsAreMeasured2)) = some bar1 ∧ skipReason (tick 0 sLoopBarsAreMeasured2) bar1 = 0 ∧ noInk (tick 0 sLoopBarsAreMeasured2) bar1 = true :=
  by decide +kernel

def sLoopBarsAreMeasured3 : State := barS 4000

theorem test_LoopBarsAreMeasured_3 : sLoopBarsAreMeasured3.loop.bars.find? (barComplete (tick 0 sLoopBarsAreMeasured3)) = some bar1 ∧ skipReason (tick 0 sLoopBarsAreMeasured3) bar1 = 0 ∧ noInk (tick 0 sLoopBarsAreMeasured3) bar1 = false ∧ bar1.mode ≠ 2 :=
  by decide +kernel

def sRecordsAreTaken1 : State := wheelS 5

theorem test_RecordsAreTaken_1 : pairRuns sRecordsAreTaken1 = false ∨ (⟨5, true, 2, false⟩ : PairHdr).crcOk = false :=
  by decide +kernel

def sRecordsAreTaken2 : State := { wheelS 5 with pair := { (wheelS 5).pair with silent := true, pending := [⟨2, .ack, 0, 1⟩, ⟨3, .ack, 0, 1⟩], txSeq := 4 } }

theorem test_RecordsAreTaken_2 : pairRuns sRecordsAreTaken2 = true ∧ (hd false).crcOk = true :=
  by decide +kernel

theorem test_RecordsAreTaken_3 : pairRuns sRecordsAreTaken1 = true ∧ (hd true).crcOk = true :=
  by decide +kernel

theorem test_RecordsAreTaken_4 : FreshRecord (hd false) sRecordsAreTaken1 ∧ sRecordsAreTaken1.pair.state ≠ 6 :=
  freshWit (by decide +kernel)

theorem test_RecordsAreTaken_5 : FreshRecord (hd false) sRecordsAreTaken1 ∧ sRecordsAreTaken1.pair.state = 5 ∧ sRecordsAreTaken1.pair.kKnown = true :=
  freshWit (by decide +kernel)

theorem test_RecordsAreTaken_6 : FreshRecord (hd false) sRecordsAreTaken1 :=
  freshWit0 (by decide +kernel)

theorem test_RecordsAreTaken_7 : FreshRecord (hd false) sRecordsAreTaken1 :=
  freshWit0 (by decide +kernel)

theorem test_WheelerFollowsTheLead_1 : FreshRecord (hd false) sRecordsAreTaken1 ∧ sRecordsAreTaken1.pair.state = 5 ∧ sRecordsAreTaken1.pair.early = [] ∧ (1 : BitVec 32) = sRecordsAreTaken1.proto.gen + 1 :=
  freshWit (by decide +kernel)

def sWheelerFollowsTheLead2 : State := wheelS 4

theorem test_WheelerFollowsTheLead_2 : FreshRecord (hd false) sWheelerFollowsTheLead2 ∧ sWheelerFollowsTheLead2.pair.state = 4 ∧ sWheelerFollowsTheLead2.pair.snapshot = false :=
  freshWit (by decide +kernel)

theorem test_WheelerFollowsTheLead_3 : FreshRecord (hd false) sRecordsAreTaken1 ∧ (clearFlags 0x4051 0 0 sRecordsAreTaken1).isNone = true ∧ (writeOnly 0x4051 0 0 sRecordsAreTaken1).isNone = true :=
  freshWit (by decide +kernel)

theorem test_WheelerFollowsTheLead_4 : FreshRecord (hd false) sRecordsAreTaken1 ∧ sRecordsAreTaken1.pair.blocks = [] :=
  freshWit (by decide +kernel)

theorem test_WheelerFollowsTheLead_5 : FreshRecord (hd false) sRecordsAreTaken1 ∧ isWheeler sRecordsAreTaken1 = true ∧ axisRec1.kind ≠ 2 ∧ axisRec1.edge = none ∧ axisRec1.valid = true :=
  freshWit (by decide +kernel)

def sWheelerFollowsTheLead6 : State := wheelS 3

theorem test_WheelerFollowsTheLead_6 : FreshRecord (hd false) sWheelerFollowsTheLead6 ∧ isWheeler sWheelerFollowsTheLead6 = false :=
  freshWit (by decide +kernel)

theorem test_WheelerFollowsTheLead_7 : FreshRecord (hd false) sRecordsAreTaken1 ∧ isWheeler sRecordsAreTaken1 = true :=
  freshWit (by decide +kernel)

theorem test_WheelerFollowsTheLead_8 : FreshRecord (hd false) sRecordsAreTaken1 :=
  freshWit0 (by decide +kernel)

theorem test_WheelerFollowsTheLead_9 : FreshRecord (hd false) sRecordsAreTaken1 ∧ sRecordsAreTaken1.time.servo ≠ 2 :=
  freshWit (by decide +kernel)

theorem test_WheelerFollowsTheLead_10 : FreshRecord (hd false) sRecordsAreTaken1 :=
  freshWit0 (by decide +kernel)

theorem test_WheelerFollowsTheLead_11 : FreshRecord (hd false) sWheelerFollowsTheLead6 :=
  freshWit0 (by decide +kernel)

def sJoiningRecords1 : State := { wheelS 2 with pair := { (wheelS 2).pair with partnerHash := Config.sha384 [1] } }

theorem test_JoiningRecords_1 : FreshRecord (hd false) sJoiningRecords1 ∧ Config.sha384 (ident1 true).key = sJoiningRecords1.pair.partnerHash ∧ (ident1 true).sigOk = true :=
  freshWit ⟨by decide +kernel, rfl, rfl⟩

def sJoiningRecords2 : State := wheelS 2

theorem test_JoiningRecords_2 : FreshRecord (hd false) sJoiningRecords2 ∧ (ident1 false).sigOk = false :=
  freshWit (by decide +kernel)

theorem test_JoiningRecords_3 : FreshRecord (hd false) sRecordsAreTaken1 ∧ isWheeler sRecordsAreTaken1 = true :=
  freshWit (by decide +kernel)

theorem test_JoiningRecords_4 : FreshRecord (hd false) sWheelerFollowsTheLead6 ∧ isWheeler sWheelerFollowsTheLead6 = false :=
  freshWit (by decide +kernel)

def sJoiningRecords5 : State := ringOn 63 (wheelS 4)

theorem test_JoiningRecords_5 : FreshRecord (hd false) sJoiningRecords5 ∧ (sJoiningRecords5.ring 63).enable = true ∧ (sJoiningRecords5.ring 63).release < 0 + 64 ∧ 0 + 64 ≤ (sJoiningRecords5.ring 63).release + ringSize sJoiningRecords5 63 :=
  freshWit (by decide +kernel)

theorem test_JoiningRecords_6 : FreshRecord (hd false) sWheelerFollowsTheLead2 ∧ sWheelerFollowsTheLead2.pair.state = 4 ∧ sWheelerFollowsTheLead2.pair.early = [] :=
  freshWit (by decide +kernel)

theorem test_JoiningRecords_7 : sRecordsAreTaken1.pair.state ≠ 4 :=
  by decide +kernel

theorem test_JoiningRecords_8 : FreshRecord (hd false) sRecordsAreTaken1 ∧ sRecordsAreTaken1.pair.state = 5 :=
  freshWit (by decide +kernel)

theorem test_JoiningRecords_9 : FreshRecord (hd false) sWheelerFollowsTheLead2 ∧ sWheelerFollowsTheLead2.pair.state ≠ 5 :=
  freshWit (by decide +kernel)

theorem test_RecordsAndPairState_1 : pairRuns sRecordsAreTaken1 = true ∧ sRecordsAreTaken1.pair.beatAt + 2 * us ≤ sRecordsAreTaken1.time.now + 2 * us :=
  by decide +kernel

theorem test_RecordsAndPairState_2 : pairRuns sRecordsAreTaken1 = true ∧ sRecordsAreTaken1.pair.lposAt + 10 * us ≤ sRecordsAreTaken1.time.now + 10 * us :=
  by decide +kernel

theorem test_RecordsAndPairState_3 : pairRuns sRecordsAreTaken1 = true ∧ sRecordsAreTaken1.pair.echoAt + sec ≤ sRecordsAreTaken1.time.now + sec :=
  by decide +kernel

def sRecordsAndPairState4 : State := { wheelS 5 with pair := { (wheelS 5).pair with pending := [⟨2, .ack, 0, 3⟩] } }

theorem test_RecordsAndPairState_4 : pairRuns sRecordsAndPairState4 = true ∧ sRecordsAndPairState4.pair.pending.find? (fun x => x.seq == 2) = some ⟨2, .ack, 0, 3⟩ :=
  by decide +kernel

def sRecordsAndPairState5 : State := { wheelS 5 with pair := { (wheelS 5).pair with pending := [⟨2, .ack, 0, 4⟩] } }

theorem test_RecordsAndPairState_5 : pairRuns sRecordsAndPairState5 = true ∧ sRecordsAndPairState5.pair.pending.find? (fun x => x.seq == 2) = some ⟨2, .ack, 0, 4⟩ :=
  by decide +kernel

theorem test_RecordsAndPairState_6 : sWheelerFollowsTheLead2.pair.state ≠ 0 ∧ sWheelerFollowsTheLead2.power.state ≤ 1 ∧ sWheelerFollowsTheLead2.pair.silent = false ∧ sWheelerFollowsTheLead2.pair.heardAt = some 0 :=
  by decide +kernel

theorem test_RecordsAndPairState_7 : isWheeler sWheelerFollowsTheLead6 = false ∧ sWheelerFollowsTheLead6.pair.silent = false ∧ sWheelerFollowsTheLead6.pair.heardAt = some 0 :=
  by decide +kernel

theorem test_RecordsAndPairState_8 : isWheeler sRecordsAreTaken1 = true ∧ sRecordsAreTaken1.pair.state ≠ 6 :=
  by decide +kernel

def sRecordsAndPairState9 : State := { wheelS 3 with proto := { oS.proto with withheld := [⟨0, 1, 5, ⟨2, 0, .none⟩, 7, 0⟩] } }

theorem test_RecordsAndPairState_9 : sRecordsAndPairState9.proto.withheld ≠ [] ∧ isWheeler sRecordsAndPairState9 = false :=
  by decide +kernel

theorem test_RecordsAndPairState_10 : sRecordsAreTaken1.pair.state ≠ 0 ∧ sRecordsAreTaken1.power.state ≤ 1 ∧ tget false sRecordsAreTaken1.pair.lanes 3 ≠ true :=
  by decide +kernel

def sRecordsAndPairState11 : State := { wheelS 2 with pair := { (wheelS 2).pair with lanes := [] } }

theorem test_RecordsAndPairState_11 : lanesUp sRecordsAndPairState11 = 0 ∧ tget false sRecordsAndPairState11.pair.lanes 3 ≠ true :=
  by decide +kernel

def sRecordsAndPairState12 : State := { wheelS 5 with pair := { (wheelS 5).pair with peerLeadN := true } }

theorem test_RecordsAndPairState_12 : sRecordsAndPairState12.pair.state = 5 ∧ sRecordsAndPairState12.pair.peerLeadN ≠ false ∧ sRecordsAndPairState12.power.state ≤ 1 :=
  by decide +kernel

def sRecordsAndPairState13 : State := { wheelS 3 with pair := { (wheelS 3).pair with elected := true } }

theorem test_RecordsAndPairState_13 : sRecordsAndPairState13.pair.state = 3 ∧ sRecordsAndPairState13.pair.elected = true ∧ sRecordsAndPairState13.pair.peerLeadN ≠ true :=
  by decide +kernel

def sRecordsAndPairState14 : State := wheelS 6

theorem test_RecordsAndPairState_14 : sRecordsAndPairState14.pair.state = 6 ∧ sRecordsAndPairState14.pair.peerLeadN ≠ true :=
  by decide +kernel

theorem test_RecordsAndPairState_15 : (searchS.pair.state = 1 ∧ searchS.power.state ≤ 1 ∧ searchS.pair.heardAt = none ∧ searchS.pair.peerLeadN = false) ∧ searchS.pair.searchAt + cfgN searchS 0xA010 0 * ms + searchWait searchS ≤ searchS.time.now + (cfgN searchS 0xA010 0 * ms + searchWait searchS) :=
  ⟨by decide +kernel, Nat.le_of_eq (by rw [show searchS.pair.searchAt = 0 from rfl, show searchS.time.now = 0 from rfl]; omega)⟩

theorem test_StartsEnd_1 : failFacts.failed = some (2, 1, 4, 0) :=
  by decide +kernel

theorem test_StartsEnd_2 : startOk.failed = none ∧ startOk.digestBad = false ∧ (bootChoice none (atStepOne false (railsUp 9 (tick 5 goodS)))).1 = some 0 :=
  by decide +kernel

def sStartsEnd3 : State := { State.reset with start := { State.reset.start with slots := [{ reason := 1 }, { reason := 1 }] } }

theorem test_StartsEnd_3 : startOk.failed = none ∧ (bootChoice none (atStepOne false (railsUp 9 (tick 0 sStartsEnd3)))).1 = none :=
  by decide +kernel

theorem test_StartsEnd_4 : supplied goodS = true ∧ goodS.faults.resetN = false :=
  by decide +kernel

def sStartsEnd5 : State := { goodS with faults := { goodS.faults with resetN := true } }

theorem test_StartsEnd_5 : supplied sStartsEnd5 = true ∧ sStartsEnd5.faults.resetN = true ∧ startOk.failed = none ∧ (bootChoice none (atStepOne true (checkRails (tick 0 sStartsEnd5)))).1 = some 0 :=
  by decide +kernel

def sStartsEnd6 : State := { State.reset with start := { State.reset.start with step := 0, retryAt := some 0 } }

theorem test_StartsEnd_6 : sStartsEnd6.start.retryAt = some 0 ∧ 0 + sec ≤ sStartsEnd6.time.now + sec :=
  by decide +kernel

def sStartsEnd7 : State := { goodS with start := { goodS.start with step := 0, retryAt := some 0 } }

theorem test_StartsEnd_7 : sStartsEnd7.start.retryAt = some 0 ∧ 0 + sec ≤ sStartsEnd7.time.now + sec ∧ (bootChoice none (atStepOne true (railsUp 9 (tick sec sStartsEnd7)))).1 = some 0 :=
  by decide +kernel

theorem test_RailsAndSupplyEvents_1 : State.reset.power.req = none :=
  by decide +kernel

def sRailsAndSupplyEvents2 : State := { sleepS 2 with power := { (sleepS 2).power with seq := .wakeSleep, todo := [(4, 2, 0)], req := some ⟨6, 0, 0, 1, 0⟩ } }

theorem test_RailsAndSupplyEvents_2 : sRailsAndSupplyEvents2.power.req = some ⟨6, 0, 0, 1, 0⟩ ∧ acknowledges sRailsAndSupplyEvents2 ⟨6, 0, 0, 1, 0⟩ 0 true 0 = false :=
  by decide +kernel

def sRailsAndSupplyEvents3 : State := { sleepS 2 with power := { (sleepS 2).power with seq := .wakeSleep, todo := [(4, 2, 0)], req := some ⟨6, 2, 5, 1, 0⟩ } }

theorem test_RailsAndSupplyEvents_3 : acknowledges sRailsAndSupplyEvents3 ⟨6, 2, 5, 1, 0⟩ 0 true 5 = true ∧ sRailsAndSupplyEvents3.power.todo = [(4, 2, 0)] :=
  by decide +kernel

theorem test_RailsAndSupplyEvents_4 : acknowledges sRailsAndSupplyEvents2 ⟨6, 0, 0, 1, 0⟩ 64 false 0 = true ∧ sRailsAndSupplyEvents2.power.todo = [(4, 2, 0)] :=
  by decide +kernel

def sRailsAndSupplyEvents5 : State := { sleepS 2 with power := { (sleepS 2).power with seq := .wakeSleep, todo := [(4, 2, 0)], req := some ⟨6, 1, 0, 1, 0⟩ } }

theorem test_RailsAndSupplyEvents_5 : acknowledges sRailsAndSupplyEvents5 ⟨6, 1, 0, 1, 0⟩ 0 true 0 = true ∧ sRailsAndSupplyEvents5.power.todo = [(4, 2, 0)] :=
  by decide +kernel

def sRailsAndSupplyEvents6 : State := { sleepS 2 with power := { (sleepS 2).power with seq := .wakeSleep, todo := [(4, 2, 0)], req := some ⟨6, 2, 5, 3, 0⟩ } }

theorem test_RailsAndSupplyEvents_6 : sRailsAndSupplyEvents6.power.req = some ⟨6, 2, 5, 3, 0⟩ ∧ sRailsAndSupplyEvents6.power.seq ≠ .wakeReturn 2 :=
  by decide +kernel

theorem test_RailsAndSupplyEvents_7 : State.reset.power.down = false :=
  by decide +kernel

theorem test_RailsAndSupplyEvents_8 : supplied State.reset = true ∧ State.reset.power.brown = false :=
  by decide +kernel

def sRailsAndSupplyEvents9 : State := { State.reset with power := { State.reset.power with brown := true } }

theorem test_RailsAndSupplyEvents_9 : supplied sRailsAndSupplyEvents9 = true ∧ sRailsAndSupplyEvents9.power.brown = true :=
  by decide +kernel

theorem test_RailsAndSupplyEvents_10 : supplied State.reset = true :=
  by decide +kernel

theorem test_RailsAndSupplyEvents_11 : supplied State.reset = true ∧ State.reset.power.vsup3Over = false :=
  by decide +kernel

def sRailsAndSupplyEvents12 : State := { State.reset with power := { State.reset.power with vsup3Over := true }, faults := { State.reset.faults with cls := 1, active := [⟨0x3004, 1, 6, unitDevice, 0, true⟩] } }

theorem test_RailsAndSupplyEvents_12 : supplied sRailsAndSupplyEvents12 = true ∧ sRailsAndSupplyEvents12.power.vsup3Over = true :=
  by decide +kernel

theorem test_RailsAndSupplyEvents_13 : supplied State.reset = true :=
  by decide +kernel

def sWakesAndIdleCores1 : State := sleepS 1

theorem test_WakesAndIdleCores_1 : sWakesAndIdleCores1.power.down = false ∧ sWakesAndIdleCores1.faults.failed = false ∧ sWakesAndIdleCores1.start.step = 9 ∧ sWakesAndIdleCores1.power.state = 1 :=
  by decide +kernel

theorem test_WakesAndIdleCores_2 : State.reset.power.state = 0 ∧ State.reset.start.step = 9 :=
  by decide +kernel

def sWakesAndIdleCores3 : State := sleepS 2

theorem test_WakesAndIdleCores_3 : sWakesAndIdleCores3.power.seq = .idle ∧ sWakesAndIdleCores3.power.state = 2 ∧ sWakesAndIdleCores3.start.step = 9 :=
  by decide +kernel

def sWakesAndIdleCores4 : State := sleepS 3

theorem test_WakesAndIdleCores_4 : sWakesAndIdleCores4.power.seq = .idle ∧ sWakesAndIdleCores4.power.state = 3 ∧ sWakesAndIdleCores4.start.step = 9 :=
  by decide +kernel

theorem test_WakesAndIdleCores_5 : sWakesAndIdleCores4.power.seq = .idle ∧ sWakesAndIdleCores4.power.state = 3 :=
  by decide +kernel

theorem test_WakesAndIdleCores_6 : sWakesAndIdleCores3.power.seq = .idle ∧ sWakesAndIdleCores3.power.state = 2 :=
  by decide +kernel

def sWakesAndIdleCores7 : State := { sleepS 2 with power := { (sleepS 2).power with seq := .enter 2 } }

theorem test_WakesAndIdleCores_7 : sWakesAndIdleCores7.power.seq = .enter 2 ∧ sWakesAndIdleCores7.power.state = 2 :=
  by decide +kernel

theorem test_WakesAndIdleCores_8 : wakeTimerS.power.state = 2 ∧ sourceReady wakeTimerS 1 = true ∧ cfgN wakeTimerS 0x3003 0 ≠ 0 ∧ wakeTimerS.power.enteredAt + cfgN wakeTimerS 0x3003 0 * sec ≤ wakeTimerS.time.now + sec :=
  by decide +kernel

theorem test_WakesAndIdleCores_9 : sWakesAndIdleCores1.power.state = 1 ∧ sWakesAndIdleCores1.power.coresRun = true ∧ sWakesAndIdleCores1.power.coreMsgAt + 10 * ms ≤ sWakesAndIdleCores1.time.now + 10 * ms :=
  by decide +kernel

theorem test_ReadingsAndUpkeep_1 : supplied State.reset = true :=
  by decide +kernel

theorem test_ReadingsAndUpkeep_2 : supplied State.reset = true :=
  by decide +kernel

theorem test_ReadingsAndUpkeep_3 : expectedLevel (tick 0 State.reset) 0 = some true :=
  by decide +kernel

theorem test_ReadingsAndUpkeep_4 : expectedLevel (tick 0 State.reset) 11 = some false :=
  by decide +kernel

def sReadingsAndUpkeep5 : State := { State.reset with faults := { State.reset.faults with disagree := [3, 11] } }

theorem test_ReadingsAndUpkeep_5 : 11 ∈ sReadingsAndUpkeep5.faults.disagree ∧ supplied sReadingsAndUpkeep5 = true :=
  by decide +kernel

theorem test_ReadingsAndUpkeep_6 : State.reset.faults.resetN = false ∧ supplied State.reset = true :=
  by decide +kernel

theorem test_ReadingsAndUpkeep_7 : State.reset.faults.failed = false ∧ supplied State.reset = true :=
  by decide +kernel

def sReadingsAndUpkeep8 : State := { State.reset with start := { State.reset.start with store := { State.reset.start.store with dirtyAt := some 0 } } }

theorem test_ReadingsAndUpkeep_8 : sReadingsAndUpkeep8.start.store.dirtyAt ≠ none ∧ flashWorks sReadingsAndUpkeep8 = true ∧ sReadingsAndUpkeep8.start.step = 9 :=
  by decide +kernel

def sReadingsAndUpkeep9 : State := { State.reset with faults := { State.reset.faults with life := { State.reset.faults.life with since := some 0 } } }

theorem test_ReadingsAndUpkeep_9 : sReadingsAndUpkeep9.faults.life.storedHours < powerHours (tick (3600 * sec) sReadingsAndUpkeep9) ∧ supplied sReadingsAndUpkeep9 = true ∧ sReadingsAndUpkeep9.power.vsup3Over = false :=
  by decide +kernel

def sReadingsAndUpkeep10 : State := { State.reset with start := { State.reset.start with deferred := [(3, true)] } }

theorem test_ReadingsAndUpkeep_10 : tget false sReadingsAndUpkeep10.start.deferred 3 = true ∧ sReadingsAndUpkeep10.axis.stopped = true ∧ (sReadingsAndUpkeep10.chan 3).last = none :=
  by decide +kernel

def sReadingsAndUpkeep11 : State := { State.reset with start := { State.reset.start with taps := [(1151, (127, 60))] } }

theorem test_ReadingsAndUpkeep_11 : sReadingsAndUpkeep11.store.state = 2 ∧ 1151 < 1152 :=
  by decide +kernel

def sReadingsAndUpkeep12 : State := { State.reset with start := { State.reset.start with taps := [(0, (0, 8))] } }

theorem test_ReadingsAndUpkeep_12 : sReadingsAndUpkeep12.store.state = 2 :=
  by decide +kernel

theorem test_DiesAndCores_1 : State.reset.power.state ≤ 1 ∧ State.reset.power.down = false ∧ State.reset.pair.state = 0 :=
  by decide +kernel

theorem test_DiesAndCores_2 : leadS.power.state ≤ 1 ∧ leadS.power.down = false :=
  by decide +kernel

theorem test_DiesAndCores_3 : leadS.power.state ≤ 1 :=
  by decide +kernel

theorem test_DiesAndCores_4 : State.reset.power.state = 0 ∧ State.reset.faults.refclkLost = false ∧ State.reset.pair.state = 0 :=
  by decide +kernel

theorem test_DiesAndCores_5 : oS.start.step = 9 ∧ (corePair oS (coreKey false)).inReset = none :=
  by decide +kernel

theorem test_DiesAndCores_6 : leadS.start.step = 9 ∧ (corePair leadS (coreKey true)).inReset = none :=
  by decide +kernel

def sDiesAndCores7 : State := { State.reset with faults := { State.reset.faults with cores := [(1, ⟨some 0, some 5⟩)] } }

theorem test_DiesAndCores_7 : (corePair sDiesAndCores7 (coreKey true)).inReset ≠ none :=
  by decide +kernel

end Sys2Proof.Tests
end

/-! ## Proofs of the family "architecture"

What a fault, its response and the end of a rein-back leave alone: one relation (`Calm`), one lemma for each operation. -/

namespace Sys2Proof.Machine

/-! ### Folds and guards -/

/-- A property that the application of `f` to each element keeps holds after all of them. -/
theorem forAll_induct_mem {α : Type} {P : State → Prop} {f : α → State → State} :
    ∀ (l : List α), (∀ a ∈ l, ∀ t, P t → P (f a t)) → ∀ s, P s → P (forAll l f s)
  | [], _, _, hs => hs
  | a :: l, h, s, hs => forAll_induct_mem l (fun b hb => h b (List.mem_cons_of_mem a hb)) (f a s) (h a List.mem_cons_self s hs)

theorem forAll_induct {α : Type} {P : State → Prop} {f : α → State → State} (h : ∀ a t, P t → P (f a t)) (l : List α) (s : State) (hs : P s) :
    P (forAll l f s) := forAll_induct_mem l (fun a _ => h a) s hs

/-- A property that an element's application brings about, and every later one keeps, holds in the end. -/
theorem forAll_reaches_mem {α : Type} {P : State → Prop} {f : α → State → State} {a : α} {l : List α} (ha : a ∈ l) (make : ∀ t, P (f a t))
    (keep : ∀ b ∈ l, ∀ t, P t → P (f b t)) (s : State) : P (forAll l f s) := by
  obtain ⟨l₁, l₂, rfl⟩ := List.append_of_mem ha
  have happend : forAll (l₁ ++ a :: l₂) f s = forAll l₂ f (f a (forAll l₁ f s)) := by simp [forAll]
  rw [happend]
  exact forAll_induct_mem l₂ (fun b hb => keep b (by simp [hb])) _ (make _)

/-- A command whose premise holds has its effect. -/
theorem guardOk_of {c : Bool} (h : c = true) (f : State → State) (s : State) : guardOk c f s = .next (f s) := by rw [guardOk, if_pos h, ok]

/-! ### What the handling of faults leaves alone -/

/-- What the device does about a fault or a rein-back leaves these as they were: the axis, the streams and stored data, screening, inspection, the
clock and power, the high-water mark, the phase of each session, and which faults are active. -/
structure Calm (s t : State) : Prop where
  axis : t.axis = s.axis
  ports : t.ports = s.ports
  rings : t.rings = s.rings
  store : t.store = s.store
  integ : t.integ = s.integ
  screen : t.screen = s.screen
  noz : t.noz = s.noz
  lanes : t.lanes = s.lanes
  insp : t.insp = s.insp
  loop : t.loop = s.loop
  time : t.time = s.time
  power : t.power = s.power
  pending : t.pending = s.pending
  w : t.gait.w = s.gait.w
  gen : t.proto.gen = s.proto.gen
  active : t.faults.active = s.faults.active
  cores : t.faults.cores = s.faults.cores
  refclkLost : t.faults.refclkLost = s.faults.refclkLost
  phase : ∀ i, (t.sess i).phase = (s.sess i).phase

/-- The fields that `Calm` speaks of. -/
abbrev State.calmFields (s : State) := (s.axis, s.ports, s.rings, s.store, s.integ, s.screen, s.noz, s.lanes, s.insp, s.loop, s.time, s.power,
  s.pending, s.gait.w, s.proto.gen, s.faults.active, s.faults.cores, s.faults.refclkLost, s.proto.sessions)

/-- An update of other fields is calm. -/
theorem Calm.same {s t : State} (h : t.calmFields = s.calmFields) : Calm s t := by
  simp only [State.calmFields, Prod.mk.injEq] at h
  obtain ⟨axis, ports, rings, store, integ, screen, noz, lanes, insp, loop, time, power, pending, w, gen, active, cores, refclkLost, sessions⟩ := h
  exact ⟨axis, ports, rings, store, integ, screen, noz, lanes, insp, loop, time, power, pending, w, gen, active, cores, refclkLost,
    fun i => by rw [State.sess, State.sess, sessions]⟩

theorem Calm.refl (s : State) : Calm s s := .same rfl

theorem Calm.trans {s t u : State} (g : Calm t u) (h : Calm s t) : Calm s u where
  axis := g.axis.trans h.axis
  ports := g.ports.trans h.ports
  rings := g.rings.trans h.rings
  store := g.store.trans h.store
  integ := g.integ.trans h.integ
  screen := g.screen.trans h.screen
  noz := g.noz.trans h.noz
  lanes := g.lanes.trans h.lanes
  insp := g.insp.trans h.insp
  loop := g.loop.trans h.loop
  time := g.time.trans h.time
  power := g.power.trans h.power
  pending := g.pending.trans h.pending
  w := g.w.trans h.w
  gen := g.gen.trans h.gen
  active := g.active.trans h.active
  cores := g.cores.trans h.cores
  refclkLost := g.refclkLost.trans h.refclkLost
  phase i := (g.phase i).trans (h.phase i)

theorem forAll_calm {α : Type} {f : α → State → State} (h : ∀ a s, Calm s (f a s)) (l : List α) (s : State) : Calm s (forAll l f s) :=
  forAll_induct (P := Calm s) (fun a t c => (h a t).trans c) l s (Calm.refl s)

theorem foldl_calm {α : Type} {f : State → α → State} (h : ∀ a s, Calm s (f s a)) (l : List α) (s : State) : Calm s (l.foldl f s) :=
  forAll_calm (f := fun a s => f s a) h l s

theorem ite_calm {c : Prop} [Decidable c] {s t u : State} (ht : Calm s t) (hu : Calm s u) : Calm s (if c then t else u) := by
  split <;> assumption

/-- A change of a session that keeps its phase. -/
theorem setSess_calm (s : State) (n : Nat) (x : Session) (h : x.phase = (s.sess n).phase) : Calm s (s.setSess n x) where
  __ := setSess_quiet s n x
  w := rfl
  gen := rfl
  active := rfl
  cores := rfl
  refclkLost := rfl
  phase i := by
    by_cases hi : i = n
    · subst hi; simpa using h
    · rw [State.setSess_sess_ne _ _ _ _ hi]

theorem setHandle_calm (s : State) (n : Nat) (x : Handle) : Calm s (s.setHandle n x) := .same rfl
theorem setRow_calm (s : State) (n : Nat) (x : Row) : Calm s (s.setRow n x) := .same rfl
theorem commFlag_calm (b : Nat) (s : State) : Calm s (commFlag b s) := .same rfl
theorem emit_calm (o : Output) (s : State) : Calm s (emit o s) := .same rfl

/-! Events, completions and responses (R44, R67, R68) -/

theorem pushQueue_calm (k : Nat) (s : State) : Calm s (pushQueue k s) := by
  unfold pushQueue
  dsimp only
  split
  · exact Calm.refl s
  · split
    · exact Calm.refl s
    · exact (foldl_calm (fun _ t => emit_calm _ t) _ _).trans (setSess_calm _ _ _ rfl)

theorem deliver_calm (k : Nat) (r : EventRec) (s : State) : Calm s (deliver k r s) := by
  unfold deliver
  dsimp only
  split
  · exact Calm.refl s
  · split
    · exact (pushQueue_calm _ _).trans (setSess_calm _ _ _ rfl)
    · exact (commFlag_calm 3 _).trans (setSess_calm _ _ _ rfl)

theorem raise_calm (c v : Nat) (d : BitVec 96) (s : State) (u : BitVec 32) (l : Option Int) (n : Nat) : Calm s (raise c v d s u l n) := by
  unfold raise
  dsimp only
  split
  · exact foldl_calm (fun i t => ite_calm (deliver_calm _ _ t) (Calm.refl t)) _ _
  · exact .same rfl

theorem ev_calm (c : Nat) (d : BitVec 96) (s : State) (u : BitVec 32) (l : Option Int) (n : Nat) : Calm s (ev c d s u l n) :=
  raise_calm _ _ _ _ _ _ _

theorem completeHandle_calm (k c : Nat) (d : BitVec 96) (s : State) : Calm s (completeHandle k c d s) := by
  unfold completeHandle
  dsimp only
  split
  · exact Calm.refl s
  · split
    · exact setHandle_calm _ _ _
    · split
      · exact setHandle_calm _ _ _
      · split
        · exact (deliver_calm _ _ _).trans (setHandle_calm _ _ _)
        · exact (deliver_calm _ _ _).trans ((setHandle_calm _ _ _).trans (setHandle_calm _ _ _))

theorem sendResponse_calm (k n : Nat) (r : Response) (s : State) : Calm s (sendResponse k n r s) :=
  (emit_calm _ _).trans (setSess_calm _ _ _ rfl)

theorem settleWithheld_calm (due : Withheld → Bool) (f : Response → Response) (s : State) : Calm s (settleWithheld due f s) := by
  unfold settleWithheld
  dsimp only
  exact (forAll_calm (fun _ t => ite_calm (sendResponse_calm _ _ _ t) (Calm.refl t)) _ _).trans (.same rfl)

/-! The pair link (R467, R471, R475) -/

theorem sendRecord_calm (b : PairBody) (s : State) : Calm s (sendRecord b s) := .same rfl

theorem mirror_calm (b : PairBody) (s : State) : Calm s (mirror b s) := ite_calm (sendRecord_calm b s) (Calm.refl s)

theorem setPairState_calm (st reason : Nat) (s : State) : Calm s (setPairState st reason s) := by
  unfold setPairState
  refine ite_calm ?_ ((ev_calm _ _ _ _ _ _).trans ?_) <;> exact .same rfl

/-! The job and the defect log (R122, R333) -/

theorem setJob_calm (j : Nat) (s : State) : Calm s (setJob j s) := by
  unfold setJob
  refine ite_calm (Calm.refl s) ((ev_calm _ _ _ _ _ _).trans ?_)
  exact .same rfl

theorem haltJob_calm (s : State) : Calm s (haltJob s) := by
  have hs : Calm s { s with gait := { s.gait with pages := [], abortAt := none } } := .same rfl
  exact ite_calm ((setJob_calm _ _).trans hs) hs

theorem addDefect_calm (d : Defect) (s : State) : Calm s (addDefect d s) :=
  (mirror_calm _ _).trans (.same rfl)

theorem markPage_calm (L : Int) (s : State) : Calm s (markPage L s) := .same rfl

theorem logLateLine_calm (h : Nat) (L : Int) (cause action : Nat) (s : State) : Calm s (logLateLine h L cause action s) := by
  refine Calm.trans ?_ (markPage_calm L s)
  unfold logLateLine
  dsimp only
  split
  · refine ite_calm ?_ (addDefect_calm _ _)
    exact .same rfl
  · exact addDefect_calm _ _

theorem fireStopped_calm (cause : Nat) (s : State) : Calm s (fireStopped cause s) :=
  forAll_calm (fun _ _ => (addDefect_calm _ _).trans (ev_calm _ _ _ _ _ _)) _ _

/-! The speed limit (R132 to R134) -/

theorem sendLimit_calm (s : State) : Calm s (sendLimit s) :=
  (ev_calm _ _ _ _ _ _).trans (.same rfl)

theorem updateLimit_calm (s : State) : Calm s (updateLimit s) := by
  unfold updateLimit
  refine ite_calm (sendLimit_calm s) (ite_calm ?_ (ite_calm (Calm.refl s) ?_)) <;> exact .same rfl

theorem judgeSpeed_calm (s : State) : Calm s (judgeSpeed s) := by
  unfold judgeSpeed
  refine ite_calm ?_ ?_ <;> exact .same rfl

theorem limitChanged_calm (s : State) : Calm s (limitChanged s) := (judgeSpeed_calm _).trans (updateLimit_calm s)

/-! Rein-back (R387, R388) -/

theorem updateSplice_calm (f : Splice → Splice) (s : State) : Calm s (updateSplice f s) := by
  unfold updateSplice
  split
  · exact .same rfl
  · exact Calm.refl s

theorem skipRow_calm (log : Bool) (u : Nat) (s : State) : Calm s (skipRow log u s) := by
  unfold skipRow
  dsimp only
  refine ite_calm ?_ (setRow_calm _ _ _)
  have skipped : ∀ (x : Row) (n : Nat) (a b : Int), Calm s (settleEntries (u / 2) a b
      { s.setRow u x with rein := { (s.setRow u x).rein with skipped := n } }) := by
    intros; exact .same rfl
  exact ite_calm ((forAll_calm (fun _ _ => logLateLine_calm _ _ _ _ _) _ _).trans (skipped _ _ _ _)) (skipped _ _ _ _)

theorem reinAbandon_calm (reason : Nat) (s : State) : Calm s (reinAbandon reason s) := by
  unfold reinAbandon
  dsimp only
  refine ite_calm (Calm.refl s) ?_
  refine (mirror_calm _ _).trans ((mirror_calm _ _).trans ((ev_calm _ _ _ _ _ _).trans ((updateSplice_calm _ _).trans ?_)))
  refine Calm.trans ?_ (forAll_calm (skipRow_calm (reason != 6)) (heldRows s) s)
  exact .same rfl

/-! Giving up lead (R483 to R485, R493) -/

theorem releaseLanes_calm (s : State) : Calm s (releaseLanes s) := forAll_calm (fun _ t => emit_calm _ t) _ _

theorem setClaims_calm (s : State) (c : List Claim) : Calm s { s with proto := { s.proto with claims := c } } := .same rfl

theorem dropHostState_calm (s : State) : Calm s (dropHostState s) :=
  (setClaims_calm _ _).trans ((forAll_calm (fun i t => setSess_calm t i { t.sess i with staging := [] } rfl) _ _).trans
    ((forAll_calm (fun i t => completeHandle_calm i _ _ t) _ _).trans (settleWithheld_calm _ _ _)))

theorem leadRelease_calm (code : Nat) (silent : Bool) (s : State) : Calm s (leadRelease code silent s) := by
  unfold leadRelease
  dsimp only
  have drop : ∀ t : State, Calm t (dropHostState { t with pair := { t.pair with leadN := false } }) := fun t =>
    (dropHostState_calm _).trans (.same rfl)
  have sent : Calm s (if silent = true then s else sendRecord (.release code) (releaseLanes s)) :=
    ite_calm (Calm.refl s) ((sendRecord_calm _ _).trans (releaseLanes_calm s))
  exact ite_calm ((setPairState_calm _ _ _).trans ((drop _).trans sent)) ((setPairState_calm _ _ _).trans ((drop _).trans sent))

theorem releaseOwned_calm (s : State) :
    Calm s (forAll (headNums.filter (fun h => tget 0 s.pair.owner h == 1)) (fun h s => emit (.release h s.pair.epoch) s) s) :=
  forAll_calm (fun _ t => emit_calm _ t) _ _

theorem holdWheeler_calm (reason : Nat) (s : State) : Calm s (holdWheeler reason s) :=
  ite_calm (Calm.refl s) ((setPairState_calm _ _ _).trans (ite_calm (releaseOwned_calm s) (Calm.refl s)))

/-! Faults and their classes (R546 to R554) -/

theorem syncClass_calm (code : Nat) (unit : BitVec 32) (s : State) : Calm s (syncClass code unit s) := by
  have h : Calm s { s with faults := { s.faults with cls := faultClass s } } := .same rfl
  exact ite_calm (Calm.refl s) (ite_calm h ((raise_calm _ _ _ _ _ _ _).trans h))

theorem holdEntry_calm (s : State) : Calm s (holdEntry s) := by
  unfold holdEntry
  refine (fireStopped_calm _ _).trans ((haltJob_calm _).trans ((reinAbandon_calm _ _).trans
    ((forAll_calm (fun _ t => setRow_calm t _ _) _ _).trans ?_)))
  exact .same rfl

theorem failEntry_calm (s : State) : Calm s (failEntry s) := by
  refine Calm.trans ?_ (releaseLanes_calm s)
  exact .same rfl

theorem classResponse_calm (cls : Nat) (trigger : Option Nat) (silent : Bool) (s : State) : Calm s (classResponse cls trigger silent s) := by
  unfold classResponse
  dsimp only
  refine ite_calm ((holdWheeler_calm _ _).trans (ite_calm (releaseOwned_calm s) (Calm.refl s))) (ite_calm (leadRelease_calm _ _ _) ?_)
  have held : Calm s (if s.faults.stopHold = true then s else holdEntry s) := ite_calm (Calm.refl s) (holdEntry_calm s)
  exact ite_calm ((failEntry_calm _).trans held) held

/-- The active faults once a fault has been found (R546, R563). -/
def foundFaults (code cls level : Nat) (unit : BitVec 32) (exact : Bool) (s : State) : List ActiveFault :=
  let same := fun (f : ActiveFault) => f.code == code && f.unit == unit && (!exact || f.cls == cls)
  if cls = 0 then s.faults.active
  else if s.faults.active.any same then s.faults.active.map (fun g => if same g then { g with cls := max g.cls cls, cause := true } else g)
  else s.faults.active ++ [⟨code, cls, level, unit, devTime s, true⟩]

/-- The state with these faults active. -/
def State.withActive (s : State) (l : List ActiveFault) : State := { s with faults := { s.faults with active := l } }

section
variable (s : State) (l : List ActiveFault)
@[simp] theorem State.withActive_active : (s.withActive l).faults.active = l := rfl
@[simp] theorem State.withActive_cores : (s.withActive l).faults.cores = s.faults.cores := rfl
@[simp] theorem State.withActive_refclkLost : (s.withActive l).faults.refclkLost = s.faults.refclkLost := rfl
@[simp] theorem State.withActive_axis : (s.withActive l).axis = s.axis := rfl
@[simp] theorem State.withActive_store : (s.withActive l).store = s.store := rfl
@[simp] theorem State.withActive_engine (k : Nat) : (s.withActive l).engine k = s.engine k := rfl
@[simp] theorem State.withActive_gen : (s.withActive l).proto.gen = s.proto.gen := rfl
end

theorem Calm.withActive {s t : State} (c : Calm s t) (l : List ActiveFault) : Calm (s.withActive l) (t.withActive l) :=
  { c with active := rfl }

theorem addFault_calm (code cls level : Nat) (unit : BitVec 32) (s : State) (respond : Bool) (trigger : Option Nat) (silent exact : Bool) :
    Calm (s.withActive (foundFaults code cls level unit exact s)) (addFault code cls level unit s respond trigger silent exact) := by
  unfold addFault foundFaults State.withActive
  dsimp only
  by_cases h0 : cls = 0
  · simp only [h0, if_true]
    exact .same rfl
  · simp only [h0, if_false]
    refine (syncClass_calm _ _ _).trans (Calm.trans (ite_calm (classResponse_calm _ _ _ _) (Calm.refl _)) (ite_calm ?_ ?_)) <;>
      exact .same rfl

/-- A fault of a class above 0 is active once it has been found, with its cause. -/
theorem mem_foundFaults {code cls level : Nat} {unit : BitVec 32} {s : State} (h : cls ≠ 0) :
    ∃ g ∈ foundFaults code cls level unit false s, g.code = code ∧ g.unit = unit ∧ g.cause = true ∧ cls ≤ g.cls := by
  unfold foundFaults
  simp only [h, if_false]
  split
  case isTrue hany =>
    obtain ⟨f, hf, hsame⟩ := List.any_eq_true.mp hany
    refine ⟨_, List.mem_map_of_mem hf, ?_⟩
    rw [if_pos hsame]
    simp only [Bool.and_eq_true, beq_iff_eq] at hsame
    exact ⟨hsame.1.1, hsame.1.2, rfl, le_max_right _ _⟩
  case isFalse => exact ⟨_, List.mem_append_right _ (List.mem_singleton.mpr rfl), rfl, rfl, rfl, le_refl _⟩

/-- A fault and its event leave the state before it, but for the active faults, and the fault is active. -/
theorem raise_addFault_calm (c v : Nat) (d : BitVec 96) (u : BitVec 32) (line : Option Int) (n : Nat) {code cls : Nat} (h : cls ≠ 0) (level : Nat)
    (unit : BitVec 32) (s : State) (respond : Bool) (trigger : Option Nat) (silent : Bool) :
    ∃ l, Calm (s.withActive l) (addFault code cls level unit (raise c v d s u line n) respond trigger silent) ∧
      ∃ g ∈ l, g.code = code ∧ g.unit = unit ∧ g.cause = true ∧ cls ≤ g.cls :=
  ⟨_, (addFault_calm _ _ _ _ _ _ _ _ _).trans ((raise_calm _ _ _ _ _ _ _).withActive _), mem_foundFaults h⟩

theorem Calm.engine {s t : State} (c : Calm s t) (k : Nat) : t.engine k = s.engine k := by rw [State.engine, State.engine, c.screen]

theorem addFault_screen (code cls level : Nat) (unit : BitVec 32) (s : State) (respond : Bool) (trigger : Option Nat) (silent exact : Bool) :
    (addFault code cls level unit s respond trigger silent exact).screen = s.screen := (addFault_calm _ _ _ _ _ _ _ _ _).screen
theorem addFault_store (code cls level : Nat) (unit : BitVec 32) (s : State) (respond : Bool) (trigger : Option Nat) (silent exact : Bool) :
    (addFault code cls level unit s respond trigger silent exact).store = s.store := (addFault_calm _ _ _ _ _ _ _ _ _).store

/-! ### Engines that fall out of service (R28, R284 to R288) -/

/-- Every engine keeps its role, and the page store is as it was. -/
structure RolesKept (s t : State) : Prop where
  role : ∀ j, (t.engine j).role = (s.engine j).role
  store : t.store = s.store

theorem RolesKept.refl (s : State) : RolesKept s s := ⟨fun _ => rfl, rfl⟩

theorem RolesKept.trans {s t u : State} (g : RolesKept t u) (h : RolesKept s t) : RolesKept s u :=
  ⟨fun j => (g.role j).trans (h.role j), g.store.trans h.store⟩

theorem RolesKept.of_engines {s t : State} (he : t.screen.engines = s.screen.engines) (hs : t.store = s.store) : RolesKept s t :=
  ⟨fun j => by rw [State.engine, State.engine, he], hs⟩

theorem Calm.rolesKept {s t : State} (c : Calm s t) : RolesKept s t := .of_engines (by rw [c.screen]) c.store

theorem addFault_rolesKept (code cls level : Nat) (unit : BitVec 32) (s : State) (respond : Bool) (trigger : Option Nat) (silent exact : Bool) :
    RolesKept s (addFault code cls level unit s respond trigger silent exact) :=
  .of_engines (by rw [addFault_screen]) (addFault_store ..)

theorem setEngine_rolesKept {s : State} {k : Nat} {x : Engine} (h : x.role = (s.engine k).role) : RolesKept s (s.setEngine k x) := by
  refine ⟨fun j => ?_, rfl⟩
  by_cases hj : j = k
  · subst hj; rwa [State.setEngine_engine]
  · rw [State.setEngine_engine_ne _ _ _ _ hj]

theorem forAll_rolesKept {α : Type} {f : α → State → State} (h : ∀ a s, RolesKept s (f a s)) (l : List α) (s : State) : RolesKept s (forAll l f s) :=
  forAll_induct (P := RolesKept s) (fun a t c => (h a t).trans c) l s (RolesKept.refl s)

theorem bumpStats_rolesKept (k i m : Nat) (s : State) : RolesKept s (bumpStats k i m s) := setEngine_rolesKept rfl

theorem redecode_rolesKept (p : Nat) (C : Int) (s : State) : RolesKept s (redecode p C s) := by
  unfold redecode
  dsimp only
  refine forAll_rolesKept (fun _ _ => ?_) _ _
  exact ⟨fun _ => rfl, rfl⟩

theorem setAcc_rolesKept (p : Nat) (l : List AccPart) (s : State) : RolesKept s (setAcc p l s) := ⟨fun _ => rfl, rfl⟩

theorem setBare_rolesKept (s : State) (l : List BareBand) : RolesKept s { s with screen := { s.screen with bare := l } } := ⟨fun _ => rfl, rfl⟩

theorem ite_rolesKept {c : Prop} [Decidable c] {s t u : State} (ht : RolesKept s t) (hu : RolesKept s u) : RolesKept s (if c then t else u) := by
  split <;> assumption

theorem rollBack_rolesKept (p : Nat) (ks : List Nat) (C : Int) (chain : Bool) (s : State) : RolesKept s (rollBack p ks C chain s) := by
  unfold rollBack
  dsimp only
  refine (redecode_rolesKept _ _ _).trans (RolesKept.trans (ite_rolesKept (setAcc_rolesKept _ _ _) (RolesKept.refl _)) ?_)
  refine forAll_rolesKept (fun _ _ => ?_) _ _
  exact setEngine_rolesKept (by rfl)

theorem updateCapacity_rolesKept (s : State) : RolesKept s (updateCapacity s) := by
  unfold updateCapacity
  dsimp only
  have raised : ∀ c v d l, RolesKept s (raise 0x6003 v d { s with screen := { s.screen with capacity := c } } 0 l 0) :=
    fun _ _ _ _ => (raise_calm _ _ _ _ _ _ _).rolesKept.trans ⟨fun _ => rfl, rfl⟩
  refine ite_rolesKept (RolesKept.refl s) ((limitChanged_calm _).rolesKept.trans (ite_rolesKept ?_ (raised _ _ _ _)))
  exact (addFault_rolesKept _ _ _ _ _ _ _ _ _).trans (raised _ _ _ _)

/-- Engine `k` is out of service, and so is every engine that was; the page store is as it was. -/
structure Falls (k : Nat) (s t : State) : Prop where
  out : (t.engine k).role = .out
  others : ∀ j, (s.engine j).role = .out → (t.engine j).role = .out
  store : t.store = s.store

theorem Falls.andThen {k : Nat} {s t u : State} (f : Falls k s t) (h : RolesKept t u) : Falls k s u :=
  ⟨(h.role k).trans f.out, fun j hj => (h.role j).trans (f.others j hj), h.store.trans f.store⟩

/-- An engine that is taken out of service falls. -/
theorem RolesKept.takeOut {k : Nat} {s t : State} {x : Engine} (h : RolesKept s t) (hx : x.role = .out) : Falls k s (t.setEngine k x) where
  out := by rwa [State.setEngine_engine]
  others j hj := by
    by_cases hjk : j = k
    · subst hjk; rwa [State.setEngine_engine]
    · rw [State.setEngine_engine_ne _ _ _ _ hjk, h.role, hj]
  store := h.store

/-- Another engine takes the band over: one that was not out of service. -/
theorem Falls.standsIn {k m : Nat} {s t : State} (f : Falls k s t) (hm : (s.engine m).role ≠ .out) (hk : m ≠ k) (y : Engine) :
    Falls k s (t.setEngine m y) where
  out := by rw [State.setEngine_engine_ne _ _ _ _ hk.symm, f.out]
  others j hj := by
    have hjm : j ≠ m := fun e => hm (e ▸ hj)
    rw [State.setEngine_engine_ne _ _ _ _ hjm, f.others j hj]
  store := f.store

/-- A stand-in is a spare. -/
theorem role_of_standIn {s : State} {r m : Nat} (h : standIn s r = some m) : (s.engine m).role = .spare := by
  obtain ⟨i, -, hi⟩ := List.exists_of_findSome?_eq_some h
  have := List.find?_some hi
  simp only [Bool.and_eq_true, beq_iff_eq] at this
  exact this.2

/-- R284 to R288: an engine whose fault is not one of its line buffer falls out of service. -/
theorem engineFaultAt_falls {k cause : Nat} (hc : cause ≠ 4) (hand : Option Int) (s : State) : Falls k s (engineFaultAt k cause hand s) := by
  unfold engineFaultAt
  dsimp only
  have bump := bumpStats_rolesKept k 4 1 s
  split
  case h_1 _ hrole => exact ⟨hrole, fun _ h => h, rfl⟩
  case h_2 p hband _ =>
    rw [if_neg hc]
    split
    case h_1 m hm =>
      have hspare : (s.engine m).role = .spare := (bump.role m).symm.trans (role_of_standIn hm)
      have hmk : m ≠ k := fun e => by rw [e, hband] at hspare; cases hspare
      refine Falls.andThen ?_ (updateCapacity_rolesKept _)
      refine Falls.andThen ?_ (addFault_rolesKept _ _ _ _ _ _ _ _ _)
      refine Falls.andThen ?_ (rollBack_rolesKept _ _ _ _ _)
      refine Falls.andThen ?_ (ite_rolesKept (forAll_rolesKept (fun _ _ => setEngine_rolesKept (by rfl)) _ _) (RolesKept.refl _))
      refine Falls.standsIn (RolesKept.takeOut ((raise_calm _ _ _ _ _ _ _).rolesKept.trans bump) ?_) (by rw [hspare]; decide) hmk _
      rfl
    case h_2 =>
      have fallen : ∀ u, RolesKept (updateCapacity u) (if (updateCapacity u).pair.state = 3 ∧ partnerStandby (updateCapacity u) = true
          then leadRelease 4 false (updateCapacity u) else updateCapacity u) := fun u =>
        (ite_calm (leadRelease_calm _ _ _) (Calm.refl _)).rolesKept
      refine Falls.andThen ?_ (fallen _)
      refine Falls.andThen ?_ (updateCapacity_rolesKept _)
      refine Falls.andThen ?_ (addFault_rolesKept _ _ _ _ _ _ _ _ _)
      refine Falls.andThen ?_ (ite_rolesKept (forAll_rolesKept (fun _ _ => setEngine_rolesKept (by rfl)) _ _) (RolesKept.refl _))
      refine Falls.andThen ?_ (setBare_rolesKept _ _)
      refine RolesKept.takeOut ((raise_calm _ _ _ _ _ _ _).rolesKept.trans bump) ?_
      rfl
  case h_3 =>
    exact Falls.andThen (RolesKept.takeOut ((raise_calm _ _ _ _ _ _ _).rolesKept.trans bump) (by rfl)) (addFault_rolesKept _ _ _ _ _ _ _ _ _)

/-! ### The engine faults of one fabric cycle (R29) -/

theorem mem_insertFault {f g : EngFault} : ∀ {l : List EngFault}, g ∈ insertFault f l ↔ g = f ∨ g ∈ l
  | [] => by simp [insertFault]
  | h :: r => by
    unfold insertFault
    split
    · simp
    · rw [List.mem_cons, mem_insertFault, List.mem_cons]; exact or_left_comm

theorem mem_sortFaults {g : EngFault} : ∀ (l acc : List EngFault), g ∈ l.foldl (fun l f => insertFault f l) acc ↔ g ∈ l ∨ g ∈ acc
  | [], acc => by simp
  | f :: r, acc => by
    rw [List.foldl_cons, mem_sortFaults r, mem_insertFault, List.mem_cons, or_left_comm, or_assoc]

/-- A fault joins those found unless its engine has one already. -/
def addOnce (l : List EngFault) (f : EngFault) : List EngFault := if l.any (fun g => g.engine == f.engine) then l else l ++ [f]

theorem mem_of_mem_addOnce {f g : EngFault} {l : List EngFault} (h : g ∈ addOnce l f) : g = f ∨ g ∈ l := by
  unfold addOnce at h
  split at h
  · exact .inr h
  · simpa [or_comm] using h

theorem addOnce_has_engine (l : List EngFault) (f : EngFault) : ∃ g ∈ addOnce l f, g.engine = f.engine := by
  unfold addOnce
  split
  case isTrue h => simpa using h
  case isFalse => exact ⟨f, by simp, rfl⟩

theorem mem_addOnce_of_mem {f g : EngFault} {l : List EngFault} (h : g ∈ l) : g ∈ addOnce l f := by
  unfold addOnce
  split
  · exact h
  · exact List.mem_append_left _ h

theorem mem_of_mem_foldl_addOnce {g : EngFault} : ∀ (l acc : List EngFault), g ∈ l.foldl addOnce acc → g ∈ l ∨ g ∈ acc
  | [], _, h => .inr h
  | f :: r, acc, h => by
    rcases mem_of_mem_foldl_addOnce r _ h with h | h
    · exact .inl (List.mem_cons_of_mem f h)
    · rcases mem_of_mem_addOnce h with rfl | h
      · exact .inl List.mem_cons_self
      · exact .inr h

theorem mem_foldl_addOnce_of_mem {g : EngFault} : ∀ (l acc : List EngFault), g ∈ acc → g ∈ l.foldl addOnce acc
  | [], _, h => h
  | _ :: r, _, h => mem_foldl_addOnce_of_mem r _ (mem_addOnce_of_mem h)

theorem foldl_addOnce_has_engine {f : EngFault} : ∀ (l acc : List EngFault), f ∈ l → ∃ g ∈ l.foldl addOnce acc, g.engine = f.engine
  | x :: r, acc, h => by
    rcases List.mem_cons.mp h with rfl | h
    · obtain ⟨g, hg, he⟩ := addOnce_has_engine acc f
      exact ⟨g, mem_foldl_addOnce_of_mem r _ hg, he⟩
    · exact foldl_addOnce_has_engine r _ h

section
variable {dt : Nat} {s : State} (lone : LoneFault dt s) (own : List EngFault)
include lone

/-- With no other fault of the cycle, the faults found are those of the command itself. -/
theorem LoneFault.faultsNow_eq : faultsNow own (tick dt s) =
    ((own.filter (canFault (tick dt s))).foldl addOnce []).foldl (fun l f => insertFault f l) [] := by
  have hq : (tick dt s).pending.takeWhile (fun i => instrTime i == 0) = [] := by
    rw [List.takeWhile_eq_nil_iff]
    intro hl
    simpa using lone.queue _ (List.getElem_mem hl)
  have hc : (tick dt s).screen.faultCycle ≠ (tick dt s).time.now / 1000 := lone.cycle
  unfold faultsNow
  simp only [hq, if_neg hc, List.flatMap_nil, List.append_nil, List.contains_nil, Bool.not_false, Bool.and_true]
  rfl

theorem LoneFault.mem_faultsNow {f : EngFault} (h : f ∈ faultsNow own (tick dt s)) : f ∈ own ∧ canFault (tick dt s) f = true := by
  rw [lone.faultsNow_eq] at h
  have hmem : f ∈ own.filter (canFault (tick dt s)) := by
    have hadd := ((mem_sortFaults _ _).mp h).resolve_right List.not_mem_nil
    exact (mem_of_mem_foldl_addOnce _ _ hadd).resolve_right List.not_mem_nil
  exact List.mem_filter.mp hmem

theorem LoneFault.faultsNow_has_engine {f : EngFault} (hf : f ∈ own) (hc : canFault (tick dt s) f = true) :
    ∃ g ∈ faultsNow own (tick dt s), g.engine = f.engine := by
  obtain ⟨g, hg, he⟩ := foldl_addOnce_has_engine (own.filter (canFault (tick dt s))) [] (List.mem_filter.mpr ⟨hf, hc⟩)
  exact ⟨g, by rw [lone.faultsNow_eq]; exact (mem_sortFaults _ _).mpr (.inl hg), he⟩

/-- R284: an engine with a fault that is not one of its line buffer falls; the page store is as it was. -/
theorem LoneFault.engineFaults_falls (hown : ∀ f ∈ own, f.cause ≠ 4) {f : EngFault} (hf : f ∈ own) (hc : canFault (tick dt s) f = true) :
    ((engineFaults own (tick dt s)).engine f.engine).role = .out ∧ (engineFaults own (tick dt s)).store = s.store := by
  obtain ⟨g, hg, he⟩ := lone.faultsNow_has_engine own hf hc
  have falls : ∀ x ∈ (faultsNow own (tick dt s)).map (fun f => (f, handOf (tick dt s) f.engine)), ∀ t, Falls x.1.engine t
      (if x.1.cause = 4 then (bufferErrors x.1.engine (strikeWords x.1.upsets (bufferWord x.1.engine) t)).2
        else engineFaultAt x.1.engine x.1.cause x.2 t) := by
    intro x hx t
    obtain ⟨y, hy, rfl⟩ := List.mem_map.mp hx
    have hcause : y.cause ≠ 4 := hown y (lone.mem_faultsNow own hy).1
    rw [if_neg hcause]
    exact engineFaultAt_falls hcause _ t
  unfold engineFaults
  dsimp only
  constructor
  · rw [← he]
    refine forAll_reaches_mem (P := fun t => (t.engine g.engine).role = .out) (List.mem_map_of_mem hg) (fun t => ?_) (fun x hx t ht => ?_) _
    · exact (falls _ (List.mem_map_of_mem hg) t).out
    · exact (falls x hx t).others _ ht
  · refine forAll_induct_mem (P := fun t => t.store = s.store) _ (fun x hx t ht => ?_) _ rfl
    exact (falls x hx t).store.trans ht

/-- R282: a fault that its engine cannot have changes no engine. -/
theorem LoneFault.engineFaults_none (h : ∀ f ∈ own, canFault (tick dt s) f = false) :
    (engineFaults own (tick dt s)).screen.engines = s.screen.engines ∧ (engineFaults own (tick dt s)).faults = s.faults := by
  have hnil : faultsNow own (tick dt s) = [] := by
    refine List.eq_nil_iff_forall_not_mem.mpr fun f hf => ?_
    obtain ⟨hown, hcan⟩ := lone.mem_faultsNow own hf
    rw [h f hown] at hcan
    cases hcan
  unfold engineFaults
  rw [hnil]
  exact ⟨rfl, rfl⟩
end

/-- R282: an engine with work pending is powered. -/
theorem engineRuns_of_stalled {s : State} {k : Nat} (h : stalled s k = true) : engineRuns s k = true := by
  have hdue : lineDue s k = true := by
    simp only [stalled, workPending, Bool.and_eq_true] at h
    exact h.1.1
  unfold lineDue at hdue
  dsimp only at hdue
  split at hdue
  · cases hdue
  · simp only [Bool.and_eq_true] at hdue
    simp [engineRuns, hdue]

/-- R284: the faults of a cluster: each of its three engines. -/
theorem mem_clusterFaults {dt : Nat} {engine j : Fin 36} {x : EngineCheck} (hx : x.cause = 5) (hj : j.val / 3 = engine.val / 3) :
    { engine := j, cause := 5 } ∈ faultsOf (.engineFault dt engine x) := by
  have h : j.val = 3 * (engine.val / 3) ∨ j.val = 3 * (engine.val / 3) + 1 ∨ j.val = 3 * (engine.val / 3) + 2 := by omega
  simp only [faultsOf, hx, if_true, List.map_cons, List.map_nil, List.mem_cons, EngFault.mk.injEq, and_true, List.not_mem_nil, or_false]
  exact h

theorem cause_of_mem_clusterFaults {dt : Nat} {engine : Fin 36} {x : EngineCheck} (hx : x.cause = 5) {f : EngFault}
    (hf : f ∈ faultsOf (.engineFault dt engine x)) : f.cause ≠ 4 := by
  simp only [faultsOf, hx, if_true, List.map_cons, List.map_nil, List.mem_cons, List.not_mem_nil, or_false] at hf
  rcases hf with rfl | rfl | rfl <;> simp

/-- Outside a cluster fault, the faults that ENGINE_FAULT finds are of the engine it names. -/
theorem engine_of_mem_faultsOf {dt : Nat} {engine : Fin 36} {x : EngineCheck} (hx : x.cause ≠ 5) {f : EngFault}
    (hf : f ∈ faultsOf (.engineFault dt engine x)) : f.engine = engine := by
  simp only [faultsOf, if_neg hx] at hf
  split at hf
  · rw [List.mem_singleton.mp hf]
  · cases hf

theorem canFault_eq_false {s : State} {f : EngFault} (h : engineRuns s f.engine = false) : canFault s f = false := by simp [canFault, h]

/-! ### Remounts and regions (R26, R30, R213, R284) -/

theorem remountDone_remount {k : Nat} {s : State} {m : Remount} (hm : (s.engine k).remount = some m) (hn : m.lf < (s.engine k).next) :
    ((remountDone k s).engine k).remount = none := by
  unfold remountDone
  simp only [hm, if_neg (not_le.mpr hn), ev_engine, State.setEngine_engine]

/-- One step of `endRemounts` leaves an engine without a remount as it is. -/
theorem endRemounts_step_keeps {sel : Nat → Engine → Bool} {k e : Nat} {t : State} (h : (t.engine k).remount = none) :
    ((if sel e (t.engine e) then t.setEngine e { t.engine e with remount := none } else t).engine k).remount = none := by
  split
  · by_cases hk : k = e
    · subst hk; rw [State.setEngine_engine]
    · rw [State.setEngine_engine_ne _ _ _ _ hk, h]
  · exact h

theorem endRemounts_remount {sel : Nat → Engine → Bool} {k : Nat} (hk : k < 36) (hsel : ∀ x, sel k x = true) (s : State) :
    ((endRemounts sel s).engine k).remount = none :=
  forAll_reaches_mem (P := fun t => (t.engine k).remount = none) (List.mem_range.mpr hk)
    (fun t => by rw [if_pos (hsel _), State.setEngine_engine]) (fun _ _ _ ht => endRemounts_step_keeps ht) s

/-- R26, R30, R213: the remounts on the engines of a region that fails end, and the fault, of class 3, is active. -/
theorem regionFault_spec (r : Nat) (first : BitVec 32) (s : State) :
    (∀ k, k < 36 → k / 9 = r → ((regionFault r first s).engine k).remount = none) ∧
      ∃ f ∈ (regionFault r first s).faults.active, f.code = 0xB021 ∧ f.unit = unitRegion r ∧ 3 ≤ f.cls := by
  obtain ⟨l, calm, f, hf, hcode, hunit, -, hcls⟩ := raise_addFault_calm 0xB021 3 (faultDetail r 0 0 first.toNat) (unitRegion r) none 0
    (code := 0xB021) (cls := 3) (by decide) 4 (unitRegion r)
    (endRemounts (fun e x => e / 9 == r || x.cluster / 3 == r || (x.remount.any (fun m => m.failed / 9 == r))) s) true (some 7) false
  change Calm _ (regionFault r first s) at calm
  refine ⟨fun k hk hr => ?_, f, ?_, hcode, hunit, hcls⟩
  · rw [calm.engine, State.withActive_engine]
    exact endRemounts_remount hk (by simp [hr]) s
  · rw [calm.active]; exact hf

/-- Settles O43: an engine fault found alone in its cycle goes through `engineFaultAt_falls`, a remount and a region through `endRemounts`. -/
theorem engineFaultsTakeEnginesOut : Obligations.EngineFaultsTakeEnginesOut := by
  intro dt engine s
  refine ⟨fun lone => ⟨fun runs _ => ?_, ?_, fun stall => ?_, fun runs free => ?_, fun gated cause hcause => ?_⟩, fun runs free => ?_, fun m hm hn => ?_,
    fun region => ?_⟩
  · obtain ⟨hout, hstore⟩ := lone.engineFaults_falls (faultsOf (.engineFault dt engine { cause := 1 })) (f := { engine := engine, cause := 1 })
      (by simp [faultsOf]) (by simp [faultsOf]) (by simp [canFault, runs])
    exact ⟨_, rfl, hout, by rw [hstore]⟩
  · refine ⟨_, rfl, fun j hj runs => ?_⟩
    exact (lone.engineFaults_falls _ (fun f hf => cause_of_mem_clusterFaults rfl hf) (mem_clusterFaults rfl hj) (by simp [canFault, runs])).1
  · refine ⟨_, rfl, (lone.engineFaults_falls [{ engine := engine, cause := 3 }] (by simp) (List.mem_singleton.mpr rfl) ?_).1⟩
    simp [canFault, engineRuns_of_stalled stall, stall]
  · refine ⟨_, rfl, (lone.engineFaults_falls [{ engine := engine, cause := 2 }] (by simp) (List.mem_singleton.mpr rfl) ?_).1⟩
    simp only [canFault, runs, Bool.true_and, Bool.or_eq_true, beq_iff_eq]
    exact free
  · refine ⟨_, rfl, lone.engineFaults_none _ fun f hf => canFault_eq_false ?_⟩
    rw [engine_of_mem_faultsOf hcause hf, gated]
  · have guard : ((((tick dt s).engine engine).role == .free || ((tick dt s).engine engine).role == .spare) && engineRuns (tick dt s) engine) = true := by
      simpa [runs] using free
    exact ⟨_, guardOk_of guard _ _, by simp [bumpStats, tmod], by simp [bumpStats]⟩
  · exact ⟨_, rfl, remountDone_remount hm hn⟩
  · obtain ⟨remounts, active⟩ := regionFault_spec region (unitRegion region) (tick dt s)
    exact ⟨_, rfl, fun i hi => remounts _ (by omega) (by omega), active⟩

/-! ### A die that fails (R33, R550) -/

/-- Ending remounts touches screening alone. -/
theorem endRemounts_eq (sel : Nat → Engine → Bool) (s : State) : endRemounts sel s = { s with screen := (endRemounts sel s).screen } := by
  refine forAll_induct (P := fun t => t = { s with screen := t.screen }) (fun e t ht => ?_) _ _ rfl
  split
  · rw [ht]; rfl
  · exact ht

theorem endRemounts_axis (sel : Nat → Engine → Bool) (s : State) : (endRemounts sel s).axis = s.axis := by rw [endRemounts_eq]
theorem endRemounts_store (sel : Nat → Engine → Bool) (s : State) : (endRemounts sel s).store = s.store := by rw [endRemounts_eq]
theorem endRemounts_faults (sel : Nat → Engine → Bool) (s : State) : (endRemounts sel s).faults = s.faults := by rw [endRemounts_eq]

/-- A die fault leaves all but the remounts and the active faults (`Calm`), and is active. -/
theorem dieFault_calm (die reason : Nat) {cls : Nat} (h : cls ≠ 0) (v : Int) (trigger : Option Nat) (silent : Bool) (s : State) :
    ∃ l, Calm ((endRemounts (fun _ _ => true) s).withActive l) (dieFault die reason cls v trigger silent s) ∧
      ∃ g ∈ l, g.code = 0xB022 ∧ g.unit = unitDie die ∧ g.cause = true ∧ cls ≤ g.cls := raise_addFault_calm _ _ _ _ _ _ h _ _ _ _ _ _

section
variable (die reason : Nat) {cls : Nat} (h : cls ≠ 0) (v : Int) (trigger : Option Nat) (silent : Bool) (s : State)
include h

theorem dieFault_axis : (dieFault die reason cls v trigger silent s).axis = s.axis := by
  obtain ⟨l, calm, -⟩ := dieFault_calm die reason h v trigger silent s
  rw [calm.axis, State.withActive_axis, endRemounts_axis]

theorem dieFault_store : (dieFault die reason cls v trigger silent s).store = s.store := by
  obtain ⟨l, calm, -⟩ := dieFault_calm die reason h v trigger silent s
  rw [calm.store, State.withActive_store, endRemounts_store]

theorem dieFault_refclkLost : (dieFault die reason cls v trigger silent s).faults.refclkLost = s.faults.refclkLost := by
  obtain ⟨l, calm, -⟩ := dieFault_calm die reason h v trigger silent s
  rw [calm.refclkLost, State.withActive_refclkLost, endRemounts_faults]

theorem dieFault_active : ∃ g ∈ (dieFault die reason cls v trigger silent s).faults.active,
    g.code = 0xB022 ∧ g.unit = unitDie die ∧ g.cause = true ∧ cls ≤ g.cls := by
  obtain ⟨l, calm, hl⟩ := dieFault_calm die reason h v trigger silent s
  rw [calm.active, State.withActive_active]; exact hl
end

/-! ### The position is lost (R102, R412) -/

theorem fireLatency_axis (pc lat : Nat) (s : State) : (fireLatency pc lat s).axis = s.axis := by
  unfold fireLatency
  extract_lets v due
  split
  · rw [ev_axis]
  · rfl

theorem countRequests_axis (cls pc n : Nat) (write : Bool) (s : State) : (countRequests cls pc n write s).axis = s.axis := by
  unfold countRequests
  extract_lets w was lat slow acts stats₁ stats v
  split
  · exact fireLatency_axis pc lat _
  · rfl

theorem noteRewrite_axis (u : Nat) (s : State) : (noteRewrite u s).axis = s.axis := by
  unfold noteRewrite
  split <;> rfl

theorem writeUnits_axis (cls u : Nat) (b : List Byte) (s : State) : (writeUnits cls u b s).axis = s.axis := by
  refine forAll_induct (P := fun t => t.axis = s.axis) (fun i t ht => ?_) _ _ rfl
  rw [noteRewrite_axis, countAccess, countRequests_axis, cleanBurst, cleanBurst, ht]

theorem zeroFill_axis (f : Frame) (dtype : Nat) (s : State) : (zeroFill f dtype s).axis = s.axis := by
  unfold zeroFill
  split
  · rfl
  · exact forAll_induct (P := fun t => t.axis = s.axis) (fun _ t ht => (writeUnits_axis _ _ _ t).trans ht) _ _ rfl

theorem frameFault_axis (f : Frame) (s : State) : (frameFault f s).axis = s.axis := by
  unfold frameFault
  extract_lets x due
  split
  · rfl
  · rw [ev_axis]; rfl

theorem assignSlices_axis (s : State) : (assignSlices s).axis = s.axis := by
  refine forAll_induct (P := fun t => t.axis = s.axis) (fun _ t ht => ?_) _ _ rfl
  split <;> exact ht

theorem noteBacklog_axis (s : State) : (noteBacklog s).axis = s.axis := by
  unfold noteBacklog
  dsimp only
  split
  · rfl
  · split
    · rw [ev_axis]
    · rfl

theorem closeFrame_axis (n : Nat) (k : BitVec 32) (more : List Nat) (s : State) : (closeFrame n k more s).axis = s.axis := by
  unfold closeFrame
  split
  · rfl
  · dsimp only
    split
    · rfl
    · rw [noteBacklog_axis, assignSlices_axis]
      split <;> simp only [freeFrames, frameDone, ev_axis, frameFault_axis, zeroFill_axis, modFrame]

theorem cutFrames_axis (sel : Nat → Bool) (s : State) : (cutFrames sel s).axis = s.axis :=
  forAll_induct (P := fun t => t.axis = s.axis) (fun _ t ht => (closeFrame_axis _ _ _ t).trans ht) _ _ rfl

/-- R102: losing the position changes the state of the axis and its confidence. -/
theorem losePosition_axis (why : Nat) (s : State) : (losePosition why s).axis = { s.axis with state := 2, confidence := false } := by
  unfold losePosition
  dsimp only
  rw [mirrorAxis, (mirror_calm _ _).axis, (addFault_calm _ _ _ _ _ _ _ _ _).axis, State.withActive, (fireStopped_calm _ _).axis,
    (haltJob_calm _).axis, (forAll_calm (fun _ t => setRow_calm t _ _) _ _).axis]
  split <;> simp only [ev_axis, (reinAbandon_calm _ _).axis]

theorem lostPosition_axis (why : Nat) (s : State) : (lostPosition why s).axis = { s.axis with state := 2, confidence := false } :=
  (cutFrames_axis _ _).trans (losePosition_axis why s)

/-- R19, R102: without the supervisor die the position is lost, where this chip decides for the press and no standby takes over. -/
theorem supervisorGone_axis (s : State) : (supervisorGone s).axis.supervisorLost = true ∧
    (s.axis.state = 1 → isWheeler s = false → s.pair.state ≠ 3 → (supervisorGone s).axis.state = 2) := by
  unfold supervisorGone
  dsimp only
  split
  case isTrue hlead =>
    rw [dieFault_axis _ _ (by decide)]
    exact ⟨rfl, fun _ _ h3 => absurd hlead.1 h3⟩
  case isFalse =>
    rw [dieFault_axis _ _ (by decide)]
    split
    case isTrue =>
      rw [lostPosition_axis]
      exact ⟨rfl, fun _ _ _ => rfl⟩
    case isFalse hvalid => exact ⟨rfl, fun h1 hw _ => absurd ⟨h1, (congrArg (!·) hw : (!isWheeler s) = true)⟩ hvalid⟩

/-! ### Core pairs (R552) -/

theorem corePair_setCorePair_self (k : Nat) (c : CorePair) (s : State) : corePair (setCorePair k c s) k = c := tget_tput_self
theorem corePair_setCorePair_ne {j k : Nat} (c : CorePair) (s : State) (h : j ≠ k) : corePair (setCorePair k c s) j = corePair s j := tget_tput_ne h

theorem coreKey_not_ne (pairB : Bool) : coreKey (!pairB) ≠ coreKey pairB := by cases pairB <;> decide

/-- The core pairs, the time and the phase of every session are as they were. -/
structure CoresKept (s t : State) : Prop where
  cores : t.faults.cores = s.faults.cores
  now : t.time.now = s.time.now
  phase : ∀ i, (t.sess i).phase = (s.sess i).phase

theorem CoresKept.refl (s : State) : CoresKept s s := ⟨rfl, rfl, fun _ => rfl⟩

theorem CoresKept.trans {s t u : State} (g : CoresKept t u) (h : CoresKept s t) : CoresKept s u :=
  ⟨g.cores.trans h.cores, g.now.trans h.now, fun i => (g.phase i).trans (h.phase i)⟩

theorem CoresKept.corePair {s t : State} (h : CoresKept s t) (k : Nat) : corePair t k = corePair s k := by
  rw [Machine.corePair, Machine.corePair, h.cores]

theorem Calm.coresKept {s t : State} (c : Calm s t) : CoresKept s t := ⟨c.cores, by rw [c.time], c.phase⟩

theorem addFault_coresKept (code cls level : Nat) (unit : BitVec 32) (s : State) (respond : Bool) (trigger : Option Nat) (silent exact : Bool) :
    CoresKept s (addFault code cls level unit s respond trigger silent exact) :=
  (addFault_calm _ _ _ _ _ _ _ _ _).coresKept.trans ⟨rfl, rfl, fun _ => rfl⟩

theorem ite_coresKept {c : Prop} [Decidable c] {s t u : State} (ht : CoresKept s t) (hu : CoresKept s u) : CoresKept s (if c then t else u) := by
  split <;> assumption

theorem forAll_coresKept {α : Type} {f : α → State → State} (h : ∀ a s, CoresKept s (f a s)) (l : List α) (s : State) : CoresKept s (forAll l f s) :=
  forAll_induct (P := CoresKept s) (fun a t c => (h a t).trans c) l s (CoresKept.refl s)

/-- A change of the record of stored data's errors keeps the cores. -/
theorem setInteg_coresKept (s : State) (z : Integ) : CoresKept s { s with integ := z } := ⟨rfl, rfl, fun _ => rfl⟩

theorem logError_coresKept (e : LogEntry) (s : State) : CoresKept s (logError e s) := by
  unfold logError
  dsimp only
  refine ite_coresKept (setInteg_coresKept _ _) (ite_coresKept (setInteg_coresKept _ _) (ite_coresKept (ite_coresKept ?_ ?_) (setInteg_coresKept _ _)))
  · exact (ev_calm _ _ _ _ _ _).coresKept.trans ⟨rfl, rfl, fun _ => rfl⟩
  · exact ⟨rfl, rfl, fun _ => rfl⟩

theorem countUe_coresKept (mem region : Nat) (s : State) : CoresKept s (countUe mem region s) := ⟨rfl, rfl, fun _ => rfl⟩

theorem fireCritical_coresKept (requester address : Nat) (s : State) : CoresKept s (fireCritical requester address s) := by
  unfold fireCritical
  refine ite_coresKept ?_ (setInteg_coresKept _ _)
  exact (addFault_coresKept _ _ _ _ _ _ _ _ _).trans ((raise_calm _ _ _ _ _ _ _).coresKept.trans (setInteg_coresKept _ _))

theorem storeUe_coresKept (requester : Nat) (unit : BitVec 32) (u cls : Nat) (s : State) : CoresKept s (storeUe requester unit u cls s) := by
  unfold storeUe
  extract_lets logged record marked counted raised
  have hmarked : CoresKept s marked := (setInteg_coresKept logged _).trans (logError_coresKept _ s)
  have hcounted : CoresKept s counted := (ite_coresKept (CoresKept.refl marked) (countUe_coresKept 0 0 marked)).trans hmarked
  have hraised : CoresKept s raised := (ev_calm _ _ counted _ _ _).coresKept.trans hcounted
  exact ite_coresKept ((fireCritical_coresKept _ _ _).trans hraised) hraised

theorem supervisorUe_coresKept (x : MemRead) (s : State) : CoresKept s (supervisorUe x s) := by
  unfold supervisorUe
  refine ite_coresKept (storeUe_coresKept _ _ _ _ _) ?_
  exact (ev_calm _ _ _ _ _ _).coresKept.trans ((countUe_coresKept _ _ _).trans (logError_coresKept _ _))

theorem discardMeasured_coresKept (s : State) : CoresKept s (discardMeasured s) := by
  unfold discardMeasured
  split
  · exact CoresKept.refl s
  · exact ⟨rfl, rfl, fun _ => rfl⟩

theorem writeLife_coresKept (s : State) : CoresKept s (writeLife s) :=
  ite_coresKept (CoresKept.refl s) ⟨rfl, rfl, fun _ => rfl⟩

theorem sendList_coresKept (c n : Nat) (L : Int) (s : State) : CoresKept s (sendList c n L s) :=
  ite_coresKept (CoresKept.refl s) (forAll_coresKept (fun _ t => (emit_calm _ t).coresKept) _ _)

theorem freeMaster_coresKept (c : Nat) (s : State) : CoresKept s (freeMaster c s) :=
  (forAll_coresKept (fun _ t => sendList_coresKept _ _ _ t) _ _).trans ⟨rfl, rfl, fun _ => rfl⟩

theorem dropOp_coresKept (w : BitVec 16) (s : State) : CoresKept s (dropOp w s) := by
  unfold dropOp
  dsimp only
  refine (forAll_coresKept (fun h t => ite_coresKept ?_ (CoresKept.refl t)) _ _).trans
    ((forAll_coresKept (fun c t => ite_coresKept (freeMaster_coresKept c t) (CoresKept.refl t)) _ _).trans ?_)
  all_goals exact ⟨rfl, rfl, fun _ => rfl⟩

/-! Every session ends (R50, R552) -/

/-- A session that ends leaves its slot free, every free slot free, and the faults as they were. -/
theorem endSession_phase (slot : Nat) (s : State) : ((endSession slot s).sess slot).phase = .free ∧
    (∀ i, (s.sess i).phase = .free → ((endSession slot s).sess i).phase = .free) ∧ (endSession slot s).faults = s.faults := by
  unfold endSession
  extract_lets x p hs held u v
  have hv : v.proto.sessions = s.proto.sessions ∧ v.faults = s.faults := by
    simp only [v]
    split <;> exact ⟨rfl, rfl⟩
  refine ⟨by rw [State.setSess_sess], fun i hi => ?_, hv.2⟩
  by_cases h : i = slot
  · subst h; rw [State.setSess_sess]
  · rw [State.setSess_sess_ne _ _ _ _ h, State.sess, hv.1]; exact hi

theorem endSessions_phase {i : Nat} (hi : i < 8) (s : State) : ((endSessions s).sess i).phase = .free := by
  by_cases h : (s.sess i).phase = .free
  · exact forAll_induct (P := fun t => (t.sess i).phase = .free) (fun k t ht => (endSession_phase k t).2.1 i ht) _ _ h
  · refine forAll_reaches_mem (P := fun t => (t.sess i).phase = .free) (a := i) ?_ (fun t => (endSession_phase i t).1)
      (fun k _ t ht => (endSession_phase k t).2.1 i ht) s
    simp [hi, h]

theorem endSessions_faults (s : State) : (endSessions s).faults = s.faults :=
  forAll_induct (P := fun t => t.faults = s.faults) (fun k t ht => (endSession_phase k t).2.2.trans ht) _ _ rfl

/-- R552: the pair that fails is held in reset from now, the other runs as before; a restart of pair A ends every session. -/
theorem coreFault_spec (pairB trap : Bool) (ue : Option MemRead) (s : State) :
    corePair (coreFault pairB trap ue s) (coreKey pairB) = ⟨some s.time.now, some s.time.now⟩ ∧
      corePair (coreFault pairB trap ue s) (coreKey (!pairB)) = corePair s (coreKey (!pairB)) ∧
      (pairB = false → ∀ i, i < 8 → ((coreFault pairB trap ue s).sess i).phase = .free) := by
  unfold coreFault
  extract_lets k read again held closed ended written
  have hread : CoresKept s read := by
    simp only [read]
    split
    · exact ite_coresKept (supervisorUe_coresKept _ s) (CoresKept.refl s)
    · exact CoresKept.refl s
  have hended : ended.faults.cores = held.faults.cores ∧ (pairB = false → ∀ i, i < 8 → (ended.sess i).phase = .free) := by
    simp only [ended]
    split
    case isTrue hB => exact ⟨(discardMeasured_coresKept held).cores, fun hA => by rw [hA] at hB; cases hB⟩
    case isFalse =>
      have done : CoresKept (endSessions held) _ := forAll_coresKept
        (fun i t => (completeHandle_calm i 0x0801 0 _).coresKept.trans (dropOp_coresKept (handleWord t i) t)) (runningHandles (endSessions held)) _
      exact ⟨done.cores.trans (by rw [endSessions_faults]), fun _ i hi => (done.phase i).trans (endSessions_phase hi held)⟩
  have hafter : CoresKept ended (addFault 0xB022 (if again then 3 else 2) 5 (unitDie 0) written (trigger := some (if trap then 2 else 1))) :=
    (addFault_coresKept _ _ _ _ _ _ _ _ _).trans (ite_coresKept (writeLife_coresKept _) (CoresKept.refl _))
  have hpair : ∀ j, corePair (addFault 0xB022 (if again then 3 else 2) 5 (unitDie 0) written (trigger := some (if trap then 2 else 1))) j =
      corePair held j := fun j => by rw [hafter.corePair, corePair, corePair, hended.1]
  refine ⟨?_, ?_, fun hA i hi => (hafter.phase i).trans (hended.2 hA i hi)⟩
  · rw [hpair, corePair_setCorePair_self, hread.now]
  · rw [hpair, corePair_setCorePair_ne _ _ (coreKey_not_ne pairB), hread.corePair]

/-- R550: the end of a fault's cause changes the active faults and what follows from their class alone. -/
theorem causeGone_calm (code : Nat) (unit : BitVec 32) (s : State) (only : Option Nat) : ∃ l, Calm (s.withActive l) (causeGone code unit s only) :=
  ⟨_, syncClass_calm _ _ _⟩

/-- R552: the pair that has restarted runs again. -/
theorem coreRestarted_spec (k : Nat) (s : State) : corePair (coreRestarted k s) k = { corePair s k with inReset := none } ∧
    (coreRestarted k s).proto.gen = s.proto.gen := by
  unfold coreRestarted
  extract_lets old t
  split
  · exact ⟨corePair_setCorePair_self _ _ _, rfl⟩
  · obtain ⟨l, calm⟩ := causeGone_calm 0xB022 (unitDie 0) t (some 2)
    exact ⟨by rw [corePair, calm.cores, State.withActive_cores]; exact corePair_setCorePair_self _ _ _, by rw [calm.gen, State.withActive_gen]; rfl⟩

/-! DIE_FAULT, by die -/

section
variable {dt : Nat} {s : State} (hstate : s.power.state ≤ 1) (hdown : s.power.down = false)
include hstate hdown

theorem exec_dieFault (die : Fin 3) : exec (.dieFault dt die) s = .next (dieFails die (tick dt s)) :=
  guardOk_of (by simp [hstate, hdown]) _ _

theorem exec_dieFault_logic : exec (.dieFault dt 0) s = .next (dieFault 0 1 3 0 (some 7) true (tick dt s)) := by
  rw [exec_dieFault hstate hdown, dieFails, if_pos (by rfl)]

theorem exec_dieFault_supervisor : exec (.dieFault dt 1) s = .next (supervisorGone (tick dt s)) := by
  rw [exec_dieFault hstate hdown, dieFails, if_neg (by decide), if_pos (by rfl)]

theorem exec_dieFault_stack : exec (.dieFault dt 2) s =
    .next (dieFault 2 3 2 0 (some 7) false { tick dt s with store := { (tick dt s).store with state := 0 } }) := by
  rw [exec_dieFault hstate hdown, dieFails, if_neg (by decide), if_neg (by decide)]
end

/-- Settles O60: what a die fault and a core pair's reset leave (`Calm`, `CoresKept`), and what they set. -/
theorem diesAndCores : Obligations.DiesAndCores := by
  intro dt s hstate hdown
  refine ⟨fun _ => ⟨_, exec_dieFault_logic hstate hdown, ?_, dieFault_active _ _ (by decide) _ _ _ _⟩,
    ⟨_, exec_dieFault_supervisor hstate hdown, (supervisorGone_axis _).1⟩, ⟨_, exec_dieFault_stack hstate hdown, ?_, ?_⟩,
    fun _ hrun hclk => ?_, fun pairB trap ue hstep hreset => ?_, fun pairB hreset => ?_⟩
  · rw [dieFault_store _ _ (by decide)]; rfl
  · rw [dieFault_store _ _ (by decide)]
  · rw [dieFault_store _ _ (by decide)]; rfl
  · have clock : ((tick dt s).power.state == 0 && !(tick dt s).power.down && !(tick dt s).faults.refclkLost) = true := by simp [hrun, hdown, hclk]
    refine ⟨_, guardOk_of clock _ _, ?_, dieFault_active _ _ (by decide) _ _ _ _⟩
    rw [refclkLoss, dieFault_refclkLost _ _ (by decide)]
  · have hnone : (corePair (tick dt s) (coreKey pairB)).inReset = none := hreset
    have runs : (decide ((tick dt s).power.state ≤ 1) && (tick dt s).start.step == 9 && (corePair (tick dt s) (coreKey pairB)).inReset.isNone) = true := by
      simp [hstate, hstep, hnone]
    obtain ⟨hself, hother, hfree⟩ := coreFault_spec pairB trap ue (tick dt s)
    exact ⟨_, guardOk_of runs _ _, by rw [hself]; rfl, by rw [hself]; rfl, hother, hfree⟩
  · have waits : (corePair (tick dt s) (coreKey pairB)).inReset.isSome = true := Option.isSome_iff_ne_none.mpr hreset
    obtain ⟨hself, hgen⟩ := coreRestarted_spec (coreKey pairB) (tick dt s)
    exact ⟨_, guardOk_of waits _ _, by rw [hself], by rw [hself]; rfl, hgen⟩

/-! ### What predictions and blocks leave of the axis, W and the rein-back -/

/-- The axis, the high-water mark and the rein-back are as they were. -/
structure LineKept (s t : State) : Prop where
  axis : t.axis = s.axis
  w : t.gait.w = s.gait.w
  rein : t.rein = s.rein

theorem LineKept.refl (s : State) : LineKept s s := ⟨rfl, rfl, rfl⟩

theorem LineKept.trans {s t u : State} (g : LineKept t u) (h : LineKept s t) : LineKept s u :=
  ⟨g.axis.trans h.axis, g.w.trans h.w, g.rein.trans h.rein⟩

theorem ite_lineKept {c : Prop} [Decidable c] {s t u : State} (ht : LineKept s t) (hu : LineKept s u) : LineKept s (if c then t else u) := by
  split <;> assumption

theorem forAll_lineKept {α : Type} {f : α → State → State} (h : ∀ a s, LineKept s (f a s)) (l : List α) (s : State) : LineKept s (forAll l f s) :=
  forAll_induct (P := LineKept s) (fun a t c => (h a t).trans c) l s (LineKept.refl s)

theorem setRow_lineKept (s : State) (n : Nat) (x : Row) : LineKept s (s.setRow n x) := ⟨rfl, rfl, rfl⟩

theorem predictRow_lineKept (u : Nat) (s : State) : LineKept s (predictRow u s) := by
  unfold predictRow
  extract_lets r now fixed L e F su tu _ atOnce
  have hnow : LineKept s atOnce := ⟨rfl, rfl, rfl⟩
  refine ite_lineKept (LineKept.refl s) (ite_lineKept (setRow_lineKept _ _ _) (ite_lineKept (setRow_lineKept _ _ _) (ite_lineKept hnow ?_)))
  split
  · exact setRow_lineKept _ _ _
  · exact ite_lineKept hnow (setRow_lineKept _ _ _)

/-- R116, R119: predictions move nothing but themselves. -/
theorem predictUnits_lineKept (s : State) : LineKept s (predictUnits s) := by
  have trigs : ∀ n t, LineKept t (predictTrig n t) := fun _ _ => ⟨rfl, rfl, rfl⟩
  have cams : ∀ c t, LineKept t (predictCam c t) := fun _ _ => ⟨rfl, rfl, rfl⟩
  have all : LineKept s (predictAll s) := (forAll_lineKept trigs _ _).trans (forAll_lineKept predictRow_lineKept _ s)
  exact (forAll_lineKept cams _ _).trans all

theorem emit_lineKept (o : Output) (s : State) : LineKept s (emit o s) := ⟨rfl, rfl, rfl⟩

theorem sendMgmt_lineKept (h : Nat) (o : Output) (s : State) : LineKept s (sendMgmt h o s) := by
  unfold sendMgmt
  split
  · exact ⟨rfl, rfl, rfl⟩
  · exact emit_lineKept o s

theorem flushMgmt_lineKept (h : Nat) (s : State) : LineKept s (flushMgmt h s) := by
  unfold flushMgmt
  extract_lets x
  have hset : ∀ y, LineKept s (s.setLane h y) := fun _ => ⟨rfl, rfl, rfl⟩
  refine ite_lineKept ((forAll_lineKept (sendMgmt_lineKept h) _ _).trans (hset _)) (ite_lineKept (LineKept.refl s) ?_)
  split
  · exact LineKept.refl s
  · exact (sendMgmt_lineKept h _ _).trans (hset _)

theorem judgeSpeed_lineKept (s : State) : LineKept s (judgeSpeed s) := by
  unfold judgeSpeed
  refine ite_lineKept ?_ ?_ <;> exact ⟨rfl, rfl, rfl⟩

/-- R382: with no rein-back under way the stop of the axis starts no step of one. -/
theorem reinStopped_of_idle {s : State} (h : s.rein.state = 0) : reinStopped s = s := by simp [reinStopped, h]

/-- R96: the stop of the axis. -/
theorem axisStopStep_spec {s : State} (h : s.rein.state = 0) :
    (axisStopStep s).axis.stopped = true ∧ ((axisStopStep s).chan 0).sinceStop = 0 ∧ ((axisStopStep s).chan 1).sinceStop = 0 ∧
      (axisStopStep s).axis.source = s.axis.source ∧ (axisStopStep s).gait.w = s.gait.w := by
  unfold axisStopStep
  extract_lets _ halted cleared
  have kept : LineKept cleared (judgeSpeed (forAll headNums flushMgmt (predictUnits cleared))) :=
    (judgeSpeed_lineKept _).trans ((forAll_lineKept flushMgmt_lineKept _ _).trans (predictUnits_lineKept cleared))
  have hchan : ∀ n, (judgeSpeed (forAll headNums flushMgmt (predictUnits cleared))).chan n = cleared.chan n := fun n => by
    rw [State.chan, State.chan, kept.axis]
  rw [reinStopped_of_idle (by rw [kept.rein]; exact h), hchan, hchan, kept.axis, kept.w]
  refine ⟨rfl, ?_, ?_, rfl, rfl⟩
  · simp only [cleared, forAll, List.foldl_cons, List.foldl_nil]
    rw [State.setChan_chan_ne _ _ _ _ (by decide), State.setChan_chan]
  · simp only [cleared, forAll, List.foldl_cons, List.foldl_nil]
    rw [State.setChan_chan]

/-! ### The speed limit (R133, R335) -/

theorem sendLimit_gait (s : State) : (sendLimit s).gait = { s.gait with sentLimit := (speedLimit s).1, riseSince := none } := by
  rw [sendLimit]; exact ev_gait _ _ _ _ _ _

/-- Judging the limit leaves the slow hold as it is. -/
theorem limitChanged_slow (s : State) :
    (limitChanged s).gait.slowLimit = s.gait.slowLimit ∧ (limitChanged s).gait.slowSince = s.gait.slowSince := by
  have judged : ∀ t, (judgeSpeed t).gait.slowLimit = t.gait.slowLimit ∧ (judgeSpeed t).gait.slowSince = t.gait.slowSince := fun t => by
    unfold judgeSpeed
    dsimp only
    split <;> exact ⟨rfl, rfl⟩
  have updated : (updateLimit s).gait.slowLimit = s.gait.slowLimit ∧ (updateLimit s).gait.slowSince = s.gait.slowSince := by
    unfold updateLimit
    dsimp only
    split
    · rw [sendLimit_gait]; exact ⟨rfl, rfl⟩
    · split
      · exact ⟨rfl, rfl⟩
      · split <;> exact ⟨rfl, rfl⟩
  exact ⟨(judged _).1.trans updated.1, (judged _).2.trans updated.2⟩

/-! ### The sequence of a rein-back (R382 to R388) -/

section
variable (b : PairBody) (s : State)
@[simp] theorem mirror_rein : (mirror b s).rein = s.rein := by unfold mirror; split <;> rfl
@[simp] theorem mirror_faults : (mirror b s).faults = s.faults := by unfold mirror; split <;> rfl
end

section
variable (f : Splice → Splice) (s : State)
@[simp] theorem updateSplice_state : (updateSplice f s).rein.state = s.rein.state := by unfold updateSplice; split <;> rfl
@[simp] theorem updateSplice_runAt : (updateSplice f s).rein.runAt = s.rein.runAt := by unfold updateSplice; split <;> rfl
@[simp] theorem updateSplice_faults : (updateSplice f s).faults = s.faults := by unfold updateSplice; split <;> rfl
end

/-- R387: once abandoned, no rein-back runs. -/
theorem reinAbandon_state (reason : Nat) (s : State) : (reinAbandon reason s).rein.state = 0 := by
  unfold reinAbandon
  split
  · assumption
  · simp [mirrorLogs, mirrorRein]

/-- R387: a rein-back that is abandoned no longer asks the press to stop. -/
theorem reinAbandon_stopRein (reason : Nat) {s : State} (h : s.rein.state ≠ 0) : (reinAbandon reason s).faults.stopRein = false := by
  rw [reinAbandon, if_neg h]
  simp [mirrorLogs, mirrorRein]

theorem reinWait_calm (s : State) : Calm s (reinWait s) :=
  (mirror_calm _ _).trans (.same rfl)

theorem reinWait_state (s : State) : (reinWait s).rein.state = 3 := by simp [reinWait, mirrorRein]

theorem reinReverseEnd_calm (s : State) : Calm s (reinReverseEnd s) := by
  unfold reinReverseEnd
  extract_lets edge out skipped _ part
  have hskip : Calm s skipped := forAll_calm (skipRow_calm true) out s
  have hpart : Calm skipped part := .same rfl
  exact ite_calm (reinAbandon_calm 7 s) (ite_calm (reinWait_calm s) (ite_calm (reinAbandon_calm 7 s)
    ((reinWait_calm _).trans ((updateSplice_calm _ _).trans (hpart.trans hskip)))))

/-- R387: after the reverse timeout the rein-back is abandoned or waits: abandoned while the web moves, waiting at or below T. -/
theorem reinReverseEnd_state (s : State) : ((reinReverseEnd s).rein.state = 0 ∨ (reinReverseEnd s).rein.state = 3) ∧
    (s.axis.stopped = false → (reinReverseEnd s).rein.state = 0) ∧
    (s.axis.stopped = true → lpos s ≤ s.rein.target → (reinReverseEnd s).rein.state = 3) := by
  unfold reinReverseEnd
  split
  case isTrue hmoves =>
    have hmoves : s.axis.stopped = false := by simpa using hmoves
    exact ⟨.inl (reinAbandon_state 7 s), fun _ => reinAbandon_state 7 s, fun h => by rw [hmoves] at h; cases h⟩
  case isFalse hstopped =>
    refine ⟨?_, fun h => absurd (by rw [h]; rfl) hstopped, fun _ hlow => by rw [if_pos hlow]; exact reinWait_state s⟩
    split
    · exact .inr (reinWait_state s)
    · dsimp only
      split
      · exact .inl (reinAbandon_state 7 s)
      · exact .inr (reinWait_state _)

theorem lowerCameras_lineKept (first : Int) (s : State) : LineKept s (lowerCameras first s) := by
  unfold lowerCameras
  dsimp only
  refine forAll_lineKept (fun c t => ?_) _ _
  split
  · exact LineKept.refl t
  · exact ⟨rfl, rfl, rfl⟩

/-- R382, R385: after the re-arm the web has to run forward, and W is the position of the web. -/
theorem reinRearm_spec (s : State) : (reinRearm s).rein.state = 4 ∧ (reinRearm s).rein.runAt = s.time.now ∧
    (reinRearm s).gait.w = lpos s ∧ (reinRearm s).axis = s.axis := by
  unfold reinRearm
  extract_lets w low₀ low _ _ armed lowered freed spliced raised
  have hfreed : LineKept armed freed := (forAll_lineKept (fun _ t => setRow_lineKept t _ _) _ _).trans (lowerCameras_lineKept _ armed)
  have hspliced : Calm freed spliced := updateSplice_calm _ freed
  have hmirror : Calm freed (mirrorAxis (mirrorRein raised)) :=
    (mirror_calm _ _).trans ((mirror_calm _ _).trans ((ev_calm _ _ spliced _ _ _).trans hspliced))
  have hrein : (mirrorAxis (mirrorRein raised)).rein = spliced.rein := by
    rw [mirrorAxis, mirror_rein, mirrorRein, mirror_rein]; exact ev_rein _ _ _ _ _ _
  refine ⟨?_, ?_, ?_, ?_⟩
  · rw [hrein, updateSplice_state, hfreed.rein]
  · rw [hrein, updateSplice_runAt, hfreed.rein]
  · rw [hmirror.w, hfreed.w]
  · rw [hmirror.axis, hfreed.axis]

section
variable (dt : Nat) (s : State)
@[simp] theorem tick_cfgN (i j : Nat) : cfgN (tick dt s) i j = cfgN s i j := rfl
@[simp] theorem tick_isWheeler : isWheeler (tick dt s) = isWheeler s := rfl
@[simp] theorem tick_srcChan : srcChan (tick dt s) = srcChan s := rfl
end

/-- Settles O35: the stop of the axis (`axisStopStep_spec`), the limits, and each time-out of a rein-back by the state that it ends in. -/
theorem axisLimitAndReinTimers : Obligations.AxisLimitAndReinTimers := by
  refine ⟨fun dt s => ⟨fun hdue hidle => ?_, fun hreach => ?_⟩, fun dt s => ⟨fun hrise => ?_, fun hover hraised => ?_, fun hslow => ?_⟩,
    fun dt s hlead => ⟨fun hstate hexp => ?_, fun hstate hexp => ?_, fun hstate hexp hready => ?_, fun hstate hraised hexp hlow => ?_,
      fun hstate hstop hready => ?_⟩⟩
  · exact ⟨_, guardOk_of hdue _ _, axisStopStep_spec (s := tick dt s) hidle⟩
  · obtain ⟨hlost, hstate⟩ := supervisorGone_axis (tick dt s)
    exact ⟨_, guardOk_of (by simp [hreach]) _ _, hlost, fun h1 hw h3 => by rw [hstate h1 hw h3]; decide⟩
  · exact ⟨_, guardOk_of hrise _ _, sendLimit_gait (tick dt s), (sendLimit_calm (tick dt s)).axis⟩
  · exact ⟨_, guardOk_of (by simp [hover, hraised]) _ _, ev_gait _ _ _ _ _ _, ev_axis _ _ _ _ _ _⟩
  · obtain ⟨hlimit, hsince⟩ := limitChanged_slow { tick dt s with gait := { s.gait with slowLimit := 400000, slowSince := none } }
    exact ⟨_, guardOk_of hslow _ _, hlimit, hsince, (limitChanged_calm _).axis⟩
  · have calm := reinAbandon_calm 1 (tick dt s)
    refine ⟨_, guardOk_of ?_ _ _, reinAbandon_state 1 _, reinAbandon_stopRein 1 (by rw [tick_rein, hstate]; decide), calm.axis, calm.store⟩
    simp [expired, hstate, hlead, hexp]
  · obtain ⟨hends, hmoves, hlow⟩ := reinReverseEnd_state (tick dt s)
    refine ⟨_, guardOk_of ?_ _ _, hends, hmoves, hlow, (reinReverseEnd_calm _).axis⟩
    simp [expired, hstate, hlead, hexp]
  · refine ⟨_, guardOk_of ?_ _ _, reinAbandon_state 4 _, (reinAbandon_calm 4 _).axis⟩
    simpa [expired, hlead, hexp, hready] using hstate
  · refine ⟨_, guardOk_of ?_ _ _, ev_rein _ _ _ _ _ _, ev_axis _ _ _ _ _ _, ev_gait _ _ _ _ _ _⟩
    simp [expired, hstate, hlead, hraised, hexp, hlow]
  · refine ⟨_, guardOk_of ?_ _ _, reinRearm_spec (tick dt s)⟩
    simp [hstate, hlead, hstop, hready]

end Sys2Proof.Machine

/-! ## Proofs of the family "object protocol"

What a served request leads to, request by request; what the operations behind them leave alone; how a handle ends. -/

namespace Sys2Proof.Machine

/-! ### What a served request is answered with -/

section
variable {dt op k : Nat} {r : Req} {recovery : Bool} {s u v : State} {f : Nat → State → Answer} {resp : Response} {after : State → State}

/-- A served request whose function answers is replied to, and what follows the response takes effect. -/
theorem served_replies (h : Served dt r recovery k s u) (ha : f k u = { resp := some resp, state := v, after := after }) :
    ok (request dt r op f s recovery) = .next (after (reply k r.seq.toNat u.pair.txSeq resp v)) := by
  rw [request_served h, ha]; rfl

/-- A served request that is refused is answered with the code and changes only the host's side. -/
theorem served_refuses {code : Nat} (h : Served dt r recovery k s u) (ha : f k u = refuse op code u) :
    ok (request dt r op f s recovery) = .next (reply k r.seq.toNat u.pair.txSeq ⟨op, code, .none⟩ u) := served_replies h ha

theorem needsRole_of_le {role : Nat} (h : role ≤ (u.sess k).role) : needsRole op role f k u = f k u := if_neg (Nat.not_lt.mpr h)
end

theorem entryCount_of {n : Nat} (h1 : 1 ≤ n) (h64 : n ≤ 64) : entryCount n = true := by simp [entryCount, h1, h64]

section
variable (k n first : Nat) (resp : Response) (s : State) (m : Nat)

theorem reply_staging : ((reply k n first resp s).sess m).staging = (s.sess m).staging := by
  obtain ⟨staging, -⟩ := reply_sess k n first resp s m
  exact staging

theorem reply_queue : ((reply k n first resp s).sess m).queue = (s.sess m).queue := by
  obtain ⟨-, queue, -⟩ := reply_sess k n first resp s m
  exact queue

theorem reply_id : ((reply k n first resp s).sess m).id = (s.sess m).id := by
  obtain ⟨-, -, id, -⟩ := reply_sess k n first resp s m
  exact id

theorem reply_claims : (reply k n first resp s).proto.claims = s.proto.claims := (reply_proto k n first resp s).1
end

/-! ### READ (R55, R65) -/

/-- Entries whose stored data read without an error log nothing. -/
theorem readErrors_of_clean {es : List ReadEntry} (h : es.all (fun e => e.ue.isNone) = true) (role : Nat) (s : State) :
    readErrors es role s = s := by
  refine forAll_induct_mem (P := fun t => t = s) _ (fun e he t ht => ?_) s rfl
  obtain ⟨hmem, -⟩ := List.mem_filter.mp he
  have hue : e.ue = none := by simpa using List.all_eq_true.mp h e hmem
  simp only [hue, ht]

/-- Settles O8: the answer is the one that `runRead` builds, or 0303h where no message holds it; the state is that of `readErrors`. -/
theorem readAnswersEachEntry : Obligations.ReadAnswersEachEntry := by
  intro dt r es k s u answer served hmin hmax hanswer
  have hcount := entryCount_of hmin hmax
  have read : ∃ resp, ok (request dt r 0x01 (runRead es) s) = .next (reply k r.seq.toNat u.pair.txSeq resp (readErrors es (u.sess k).role u)) ∧
      ((respBytes answer).length ≤ maxPayload → resp = answer) ∧ (maxPayload < (respBytes answer).length → resp = ⟨0x01, 0x0303, .none⟩) := by
    by_cases hlong : maxPayload < (respBytes answer).length
    · refine ⟨⟨0x01, 0x0303, .none⟩, served_replies (after := id) served ?_, fun h => absurd h (Nat.not_le.mpr hlong), fun _ => rfl⟩
      simp [runRead, hcount, ← hanswer, hlong, refuse]
    · refine ⟨answer, served_replies (after := id) served ?_, fun _ => rfl, fun h => absurd h hlong⟩
      simp [runRead, hcount, ← hanswer, hlong]
  obtain ⟨resp, hexec, hfits, hlong⟩ := read
  refine ⟨_, hexec, reply_quiet _ _ _ _ _, fun hclean => ?_, fun h => ?_, fun h => ?_⟩
  · rw [readErrors_of_clean hclean]; exact reply_quiet _ _ _ _ _
  · rw [hfits h]; exact reply_answered _ _ _ _ _
  · rw [hlong h]; exact reply_answered _ _ _ _ _

/-! ### WRITE (R55, R59, R606) -/

theorem badEntry_eq (op code pos : Nat) (es : List Entry) (s : State) :
    badEntry op code pos es s = { resp := some ⟨op, code, .position pos⟩, state := (badEntry op code pos es s).state } := rfl

/-- An entry refused with another code than that of uncorrectable data logs nothing. -/
theorem badEntry_state {code : Nat} (h : code ≠ 0x0702) (op pos : Nat) (es : List Entry) (s : State) : (badEntry op code pos es s).state = s := by
  simp only [badEntry, if_neg h]; split <;> rfl

/-- R55: a WRITE that passes takes effect, entry by entry, and is answered 0000h. -/
theorem WritePasses.runs {dt k : Nat} {r : Req} {es : List Entry} {s v : State} (w : WritePasses dt r es k s v) :
    ∃ first, ok (request dt r 0x02 (runWrite r es) s) = .next (reply k r.seq.toNat first ⟨0x02, 0, .none⟩ (applyEntries es v)) := by
  obtain ⟨⟨u, served, harb⟩, ⟨hmin, hmax⟩, hpass⟩ := w
  refine ⟨_, served_replies (after := id) served ?_⟩
  simp [runWrite, entryCount_of hmin hmax, harb, hpass]

/-- Settles O9: `runWrite` by its three outcomes: every entry passes, one does not, or a rival outranks the request. -/
theorem writeAppliesAllOrNone : Obligations.WriteAppliesAllOrNone := by
  intro dt r es k s u v
  refine ⟨fun passes => ?_, fun served hmin hmax => ⟨fun code pos harb hbad => ?_, fun winner harb => ?_⟩⟩
  · obtain ⟨first, hexec⟩ := passes.runs
    exact ⟨_, hexec, reply_quiet _ _ _ _ _, reply_answered _ _ _ _ _⟩
  · have run : runWrite r es k u = badEntry 0x02 code pos es v := by simp [runWrite, entryCount_of hmin hmax, harb, hbad]
    rw [badEntry_eq] at run
    have quiet := reply_quiet k r.seq.toNat u.pair.txSeq ⟨0x02, code, .position pos⟩ (badEntry 0x02 code pos es v).state
    exact ⟨_, served_replies served run, quiet, fun h => by rw [badEntry_state h] at quiet ⊢; exact quiet, reply_answered _ _ _ _ _⟩
  · have run : runWrite r es k u = lost 0x02 winner v := by simp [runWrite, entryCount_of hmin hmax, harb]
    exact ⟨_, served_replies served run, reply_quiet _ _ _ _ _, reply_answered _ _ _ _ _⟩

/-! ### The staging set (R60) -/

/-- A staging set holds a value of this object. -/
def HoldsObject (l : List ObjWrite) (idx sub : Nat) : Prop := ∃ x ∈ l, x.idx = idx ∧ x.sub = sub

theorem mem_stageObject {l : List ObjWrite} {w x : ObjWrite} : x ∈ stageObject l w ↔ (x ∈ l ∧ ¬(x.idx = w.idx ∧ x.sub = w.sub)) ∨ x = w := by
  simp only [stageObject, List.mem_append, List.mem_filter, List.mem_singleton, Bool.not_eq_true', Bool.and_eq_false_iff, beq_eq_false_iff_ne, not_and_or]

/-- Staging an object keeps every object that the set holds. -/
theorem HoldsObject.stage {l : List ObjWrite} {i j : Nat} (h : HoldsObject l i j) (w : ObjWrite) : HoldsObject (stageObject l w) i j := by
  obtain ⟨x, hx, hi, hj⟩ := h
  by_cases hw : x.idx = w.idx ∧ x.sub = w.sub
  · exact ⟨w, mem_stageObject.mpr (.inr rfl), hw.1 ▸ hi, hw.2 ▸ hj⟩
  · exact ⟨x, mem_stageObject.mpr (.inl ⟨hx, hw⟩), hi, hj⟩

/-- An object that the set holds takes no new place. -/
theorem stageObject_length_le {l : List ObjWrite} {w : ObjWrite} (h : HoldsObject l w.idx w.sub) : (stageObject l w).length ≤ l.length := by
  obtain ⟨x, hx, hi, hj⟩ := h
  have hfewer := List.length_filter_lt_length_iff_exists (p := fun x : ObjWrite => !(x.idx == w.idx && x.sub == w.sub)) |>.mpr ⟨x, hx, by simp [hi, hj]⟩
  simpa [stageObject] using hfewer

/-- Entries that all find a place keep the set within 1,024 objects, every object that it holds, and each of their own. -/
theorem stageAll_spec : ∀ (ws l l' : List ObjWrite) (n : Nat), l.length ≤ 1024 → stageAll l ws n = (l', none) →
    l'.length ≤ 1024 ∧ (∀ i j, HoldsObject l i j → HoldsObject l' i j) ∧ ∀ w ∈ ws, HoldsObject l' w.idx w.sub
  | [], l, l', n, hl, h => by
    obtain ⟨rfl, -⟩ := Prod.mk.inj h
    exact ⟨hl, fun _ _ hold => hold, fun _ hw => absurd hw List.not_mem_nil⟩
  | w :: ws, l, l', n, hl, h => by
    unfold stageAll at h
    split at h
    case isTrue => simp at h
    case isFalse hroom =>
      obtain ⟨hlen, hkeep, hall⟩ := stageAll_spec ws (stageObject l w) l' (n + 1) (Nat.not_lt.mp hroom) h
      refine ⟨hlen, fun i j hold => hkeep i j (hold.stage w), fun x hx => ?_⟩
      rcases List.mem_cons.mp hx with rfl | hx
      · exact hkeep _ _ ⟨x, mem_stageObject.mpr (.inr rfl), rfl, rfl⟩
      · exact hall x hx

/-- Settles O13: STAGE by what `stageAll` finds, DISCARD, and the laws of the set (`stageAll_spec`, `mem_stageObject`). -/
theorem stagingSet : Obligations.StagingSet := by
  refine ⟨fun dt r k s u served => ⟨fun es v hmin hmax harb hpass => ⟨fun l hroom => ?_, fun l p hfull => ?_⟩, fun hrole => ?_⟩,
    fun l ws l' n hl hroom => ?_, fun l w => ⟨mem_stageObject.mpr (.inr rfl), fun x hx hi hj => ?_, fun x hx hne => mem_stageObject.mpr (.inl ⟨hx, hne⟩),
      stageObject_length_le⟩⟩
  · have run : runStage r es k u = { resp := some ⟨0x03, 0, .none⟩, state := v.setSess k { v.sess k with staging := l } } := by
      simp [runStage, entryCount_of hmin hmax, harb, hpass, hroom]
    exact ⟨_, served_replies served run, reply_answered _ _ _ _ _, by rw [id, reply_staging, State.setSess_sess], reply_cfg _ _ _ _ _⟩
  · have run : runStage r es k u = badEntry 0x03 0x0503 p es v := by simp [runStage, entryCount_of hmin hmax, harb, hpass, hfull]
    rw [badEntry_eq, badEntry_state (by decide)] at run
    exact ⟨_, served_replies served run, reply_answered _ _ _ _ _, reply_staging _ _ _ _ _ _, reply_cfg _ _ _ _ _⟩
  · exact ⟨_, served_replies served (needsRole_of_le hrole), reply_answered _ _ _ _ _, by rw [id, reply_staging, State.setSess_sess], reply_cfg _ _ _ _ _⟩
  · obtain ⟨hlen, -, hall⟩ := stageAll_spec ws l l' n hl hroom
    exact ⟨hlen, hall⟩
  · exact (mem_stageObject.mp hx).elim (fun h => absurd ⟨hi, hj⟩ h.2) id

/-! ### Claims and subscriptions (R57, R68) -/

/-- Settles O15: each of the four requests by its own function, and the expiry of a lease. -/
theorem claimsAndSubscriptions : Obligations.ClaimsAndSubscriptions := by
  refine ⟨fun dt r first k s u served => ⟨fun count lease hcode => ?_, fun hopen => ?_, ⟨_, rfl, rfl⟩⟩,
    fun dt r k s u served => ⟨fun ranges minSev hsome hfew hsev => ?_, ?_⟩⟩
  · have run : runClaim first count lease k u = { resp := some ⟨0x09, 0, .none⟩, state := { u with proto := { u.proto with
        claims := u.proto.claims ++ [claimOf u (u.sess k).id (u.sess k).role first count lease] } } } := by simp [runClaim, hcode]
    exact ⟨_, served_replies served run, reply_answered _ _ _ _ _, reply_claims _ _ _ _ _⟩
  · have run : runRelease first k u = { resp := some ⟨0x0A, 0, .none⟩
                                        state := { u with proto := { u.proto with claims := dropClaim (u.sess k).id first u.proto.claims } } } := by
      simp only [runRelease, if_neg hopen]
    exact ⟨_, served_replies served run, reply_answered _ _ _ _ _, reply_claims _ _ _ _ _⟩
  · have run : runSubscribe ranges minSev k u = { resp := some ⟨0x0B, 0, .none⟩, state := u.setSess k { u.sess k with
        queue := some { (u.sess k).queue.getD {} with subscribed := true, ranges := ranges, minSev := minSev } } } := by
      simp only [runSubscribe]
      rw [if_neg (by simp [hsome, Nat.not_lt.mpr hfew, Nat.not_lt.mpr hsev])]
    refine ⟨_, { (u.sess k).queue.getD {} with subscribed := true, ranges := ranges, minSev := minSev }, served_replies served run,
      reply_answered _ _ _ _ _, ?_, rfl, rfl, rfl, rfl⟩
    rw [id, reply_queue, State.setSess_sess]
  · exact ⟨_, served_replies (f := runUnsubscribe) served rfl, reply_answered _ _ _ _ _, by rw [id, reply_queue, State.setSess_sess]⟩

/-! ### What goes out (R139) -/

/-- An output goes out with the tag that its port has at that moment. -/
theorem withTag_mem_emit (o : Output) (s : State) : o.withTag s ∈ (emit o s).model.tx := by
  refine List.mem_append_left _ ?_
  unfold withSkip
  split
  case h_1 => exact List.mem_singleton.mpr rfl
  case h_2 =>
    extract_lets blocks
    split
    · exact List.mem_singleton.mpr rfl
    · split <;> simp

/-- Under the same configuration an output has the same tag. -/
theorem withTag_congr {s t : State} (h : t.proto.cfg = s.proto.cfg) (o : Output) : o.withTag t = o.withTag s := by
  cases o <;> simp only [Output.withTag, tagged, vlanOf, cfgN, cfg, baseVal, h]

theorem sent_emit {s t : State} (h : t.proto.cfg = s.proto.cfg) (o : Output) : Sent o s (emit o t) := by
  rw [Sent, ← withTag_congr h]; exact withTag_mem_emit o t

@[simp] theorem emit_proto (o : Output) (s : State) : (emit o s).proto = s.proto := rfl
@[simp] theorem emit_sess (o : Output) (s : State) (m : Nat) : (emit o s).sess m = s.sess m := rfl

theorem forAll_emit_sess {α : Type} (g : α → Output) (l : List α) (s : State) (m : Nat) : (forAll l (fun c s => emit (g c) s) s).sess m = s.sess m := by
  rw [State.sess, State.sess, forAll, foldl_emit_handles]

/-! ### Event queues (R50, R70) -/

theorem setSess_queue (s : State) (n : Nat) (x : Session) : ((s.setSess n x).sess n).queue = x.queue := by rw [State.setSess_sess]

/-- What pushing keeps of a queue: its records, and whether pushing has stopped. -/
def EventQueue.holding (q : EventQueue) : List EventRec × Bool := (q.records, q.stopped)

theorem pushQueue_holding (k : Nat) (s : State) : ((pushQueue k s).sess k).queue.map EventQueue.holding = (s.sess k).queue.map EventQueue.holding := by
  unfold pushQueue
  dsimp only
  split
  · rfl
  case h_2 q hq =>
    split
    · rfl
    · rw [State.sess, foldl_emit_handles, ← State.sess, State.setSess_sess, hq]
      rfl

/-- R70: once pushing goes on, the queue holds the same records and is not stopped. -/
theorem resumePush_holding (k : Nat) (s : State) :
    ((resumePush k s).sess k).queue.map EventQueue.holding = (s.sess k).queue.map (fun q => (q.records, false)) := by
  have hresume : EventQueue.holding ∘ resumeQueue = fun q => (q.records, false) := by
    funext q
    unfold Function.comp EventQueue.holding resumeQueue
    cases hq : q.stopped
    · rw [if_neg (by decide)]; exact congrArg _ hq
    · rw [if_pos rfl]
  rw [resumePush, pushQueue_holding, State.setSess_sess, Option.map_map, hresume]

/-- A session that has a queue has one that is not stopped, with the same records, once pushing goes on. -/
theorem resumePush_queue {k : Nat} {s : State} {q : EventQueue} (h : (s.sess k).queue = some q) :
    ∃ q', ((resumePush k s).sess k).queue = some q' ∧ q'.records = q.records ∧ q'.stopped = false := by
  have hold := resumePush_holding k s
  rw [h, Option.map_some, Option.map_eq_some_iff] at hold
  obtain ⟨q', hq', heq⟩ := hold
  obtain ⟨hrecords, hstopped⟩ := Prod.mk.inj heq
  exact ⟨q', hq', hrecords, hstopped⟩

theorem resumePush_not_stopped {k : Nat} {s : State} {q : EventQueue} (h : q ∈ ((resumePush k s).sess k).queue) : q.stopped = false := by
  have hold := resumePush_holding k s
  rw [Option.mem_def.mp h, Option.map_some] at hold
  obtain ⟨_, -, heq⟩ := Option.map_eq_some_iff.mp hold.symm
  exact (congrArg Prod.snd heq).symm

theorem resumePush_withheld (k : Nat) (s : State) : (resumePush k s).proto.withheld = s.proto.withheld := (pushQueue_handles k _).2

theorem resumePush_tx (k : Nat) (s : State) : TxKept s (resumePush k s) := (resumePush_keeps k s (Keeps.refl s)).tx

/-- A queue without the records up to a sequence number. -/
def dropAcked (rseq : Nat) (q : EventQueue) : EventQueue :=
  { q with records := q.records.filter (fun x => decide (rseq < x.rseq)), sends := q.sends.filter (fun e => decide (rseq < e.1)) }

/-- R67, R70: what EVENT_ACK leaves of a queue that no record has been lost from. -/
theorem ackEvents_queue {k rseq : Nat} {s : State} {q : EventQueue} (h : (s.sess k).queue = some q) :
    ∃ q', ((ackEvents rseq k s).sess k).queue = some q' ∧ q'.stopped = false ∧
      (q.pendingLost = 0 → q'.records = q.records.filter (fun x => decide (rseq < x.rseq))) := by
  have run : ackEvents rseq k s = resumePush k ((forAll (q.records.filter (fun x => decide (x.rseq ≤ rseq))) freeAcked s).setSess k
      { s.sess k with queue := some (queueOverflow (dropAcked rseq q) (eventRec s 0 0 0 0 none 0)) }) := by
    unfold ackEvents
    simp only [h]
    rfl
  obtain ⟨q', hq', hrecords, hstopped⟩ := resumePush_queue (setSess_queue (forAll (q.records.filter (fun x => decide (x.rseq ≤ rseq))) freeAcked s) k
    { s.sess k with queue := some (queueOverflow (dropAcked rseq q) (eventRec s 0 0 0 0 none 0)) })
  refine ⟨q', run ▸ hq', hstopped, fun hlost => ?_⟩
  have hall : queueOverflow (dropAcked rseq q) (eventRec s 0 0 0 0 none 0) = dropAcked rseq q := if_neg (by simp [dropAcked, hlost])
  rw [hrecords, hall]; rfl

/-- R70: what the resending of events leaves of a queue. -/
theorem resendEvents_queue (k : Nat) (q : EventQueue) (s : State) : ∃ q', ((resendEvents k q s).sess k).queue = some q' ∧ q'.records = q.records ∧
    if (q.records.filter (fun x => decide (x.rseq ≤ q.pushed))).any (fun x => decide (5 ≤ tget 0 q.sends x.rseq)) = true
    then q'.stopped = true else q'.stopped = q.stopped ∧ q'.lastPush = s.time.now := by
  unfold resendEvents
  simp only [List.any_map, Function.comp_def]
  split
  case isTrue => exact ⟨_, setSess_queue _ _ _, rfl, rfl⟩
  case isFalse => exact ⟨_, (congrArg Session.queue (forAll_emit_sess _ _ _ _)).trans (setSess_queue _ _ _), rfl, rfl, rfl⟩

/-- Settles O18: KEEPALIVE and EVENT_ACK by what `resumePush` leaves of the queue, the resending by its two branches. -/
theorem eventQueueService : Obligations.EventQueueService := by
  refine ⟨fun dt r k s u served => ?_, fun dt r rseq k s u q served hqueue => ?_, fun dt slot s q hqueue hruns hsent hdue hup => ?_⟩
  · refine ⟨_, served_replies (after := resumePush k) served rfl, ?_, fun q hq => ?_⟩
    · exact (reply_answered _ _ _ _ _).mono (resumePush_tx _ _) (resumePush_withheld _ _)
    · exact resumePush_not_stopped hq
  · obtain ⟨q', hq', hstopped, hrecords⟩ := ackEvents_queue (rseq := rseq) hqueue
    exact ⟨_, q', congrArg Host.Outcome.next (request_served served), hq', hstopped, hrecords⟩
  · have due : (!q.stopped && q.records.any (fun x => decide (x.rseq ≤ q.pushed)) && decide (q.lastPush + 20 * ms ≤ (tick dt s).time.now) &&
        serverUp (tick dt s)) = true := by simp [hruns, hsent, hdue, hup]
    have run : exec (.eventResend dt slot) s = .next (resendEvents slot q (tick dt s)) := by
      change execEventResend dt slot s = _
      unfold execEventResend
      simp only [tick_sess, hqueue]
      exact guardOk_of due _ _
    obtain ⟨q', hq', hrecords, hbranch⟩ := resendEvents_queue slot q (tick dt s)
    rw [hruns] at hbranch
    exact ⟨_, q', run, hq', hrecords, hbranch⟩

/-! ### Discovery, other protocols and unknown requests (R46, R53, R66, R140) -/

theorem countPort_stats (p : Port) (i : Nat) (s : State) :
    tget 0 ((countPort p i s).port (portNum p)).stats i = tget 0 (s.port (portNum p)).stats i + 1 := by
  simp [countPort, tinc, tmod]

theorem peerNum_eq (p : Peer) : peerNum p = portNum p.port := by unfold peerNum portNum; cases p.port <;> rfl

theorem frameIn_start (p : Peer) (s : State) : (frameIn p s).start = s.start := by unfold frameIn countPort; dsimp only; split <;> rfl

/-- The tag that an output carries depends on the configuration alone. -/
theorem discoverReply_sent {s t : State} (p : Peer) (hcfg : t.proto.cfg = s.proto.cfg) (hstart : t.start = s.start) (hsess : ∀ i, t.sess i = s.sess i) :
    Sent (.discover p (ownNode s) Config.serial stepping (firmwareRelease s) Config.publicKey
      (((List.range 8).filter (fun i => (s.sess i).phase == .free)).length + if s.start.recovery then 128 else 0) (enrolOpen t)) s
      (discoverReply p t) := by
  have hnode : ownNode t = ownNode s := by rw [ownNode, ownNode, hstart]
  have hrelease : firmwareRelease t = firmwareRelease s := by rw [firmwareRelease, firmwareRelease, slotOfImage, slotOfImage, hstart]
  have hfree : (if s.start.recovery then ((List.range 8).filter (fun i => (s.sess i).phase == .free)).length + 128
      else ((List.range 8).filter (fun i => (s.sess i).phase == .free)).length) =
      ((List.range 8).filter (fun i => (s.sess i).phase == .free)).length + if s.start.recovery then 128 else 0 := by split <;> rfl
  unfold discoverReply
  simp only [hnode, hrelease, hstart, hsess, hfree]
  exact sent_emit hcfg _

/-- Settles O19: DISCOVER and its reply, the answer of the protocol responder, and the codes of unknown requests. -/
theorem discoveryAndProtocols : Obligations.DiscoveryAndProtocols := by
  refine ⟨fun dt s => ⟨fun peer hhears => ?_, fun d rest hfirst hdue hhears => ?_, fun peer q hruns hdown hreset => ?_⟩,
    fun dt r k s u served => ⟨fun opcode => ⟨_, served_refuses served rfl, reply_answered _ _ _ _ _⟩,
      fun idx => ⟨_, served_refuses served rfl, reply_answered _ _ _ _ _⟩⟩⟩
  · change ∃ t, execDiscover dt peer s = .next t ∧ _
    unfold execDiscover
    refine ⟨_, guardOk_of hhears _ _, ?_⟩
    simp [discoverDelay, ownNode, frameIn_start]
  · have due : (decide (d.due ≤ (tick dt s).time.now) && hears (tick dt s) d.peer) = true := by simp [hdue, hhears]
    have run : exec (.discoverReply dt) s = .next (discoverReply d.peer { tick dt s with proto := { s.proto with discover := rest } }) := by
      change execDiscoverReply dt s = _
      unfold execDiscoverReply
      simp only [tick_proto, hfirst]
      exact guardOk_of due _ _
    exact ⟨_, run, rfl, discoverReply_sent d.peer rfl rfl (fun _ => rfl)⟩
  · have up : (receiverRuns (tick dt s) && !(tick dt s).power.down && !(tick dt s).faults.resetN) = true := by
      simp [hdown, hreset, show receiverRuns (tick dt s) = true from hruns]
    change ∃ t, execProtocolQuery dt peer q s = .next t ∧ _
    unfold execProtocolQuery
    refine ⟨_, guardOk_of up _ _, ?_, fun kind groups hanswer => ?_, fun hnone => ?_⟩
    · rw [peerNum_eq]
      split <;> exact countPort_stats _ _ _
    · have hanswer : queryAnswer (tick dt s) (peerNum peer) q = some (kind, groups) := hanswer
      rw [hanswer]; exact sent_emit rfl _
    · have hnone : queryAnswer (tick dt s) (peerNum peer) q = none := hnone
      rw [hnone]; rfl

/-! ### The configuration table -/

theorem baseVal_setCfg (s : State) (i j : Nat) (v : Val) (g : BitVec 32) : baseVal (setCfg s i j v g) i j = (v, g) := by
  simp [baseVal, setCfg]

theorem baseVal_setCfg_ne (s : State) {i j i' j' : Nat} (v : Val) (g : BitVec 32) (h : key i' j' ≠ key i j) :
    baseVal (setCfg s i j v g) i' j' = baseVal s i' j' := by
  simp only [baseVal, setCfg, tget_tput_ne h]

theorem cfgN_setCfg_ne (s : State) {i j i' j' : Nat} (v : Val) (g : BitVec 32) (h : key i' j' ≠ key i j) :
    cfgN (setCfg s i j v g) i' j' = cfgN s i' j' := by
  rw [cfgN, cfgN, cfg, cfg, baseVal_setCfg_ne s v g h]

/-- R529: noting a change marks the configuration store as due, and nothing else. -/
theorem noteStored_eq (i : Nat) (s : State) : ∃ start, noteStored i s = { s with start := start } := by
  unfold noteStored
  split
  · exact ⟨_, rfl⟩
  · exact ⟨s.start, rfl⟩

theorem noteStored_proto (i : Nat) (s : State) : (noteStored i s).proto = s.proto := by
  obtain ⟨start, h⟩ := noteStored_eq i s
  rw [h]

/-! ### Opening a session (R46, R48, R49) -/

theorem freeSession_congr {s t : State} (h : ∀ i, t.sess i = s.sess i) : freeSession t = freeSession s := by simp only [freeSession, h]

section
variable (peer : Peer) (src : BitVec 16) (version role : Nat) (a b c : List Byte) (s : State)

theorem openSession_version (h : version ≠ 1) : openSession peer src version role a b c s = emit (.plain peer 0x10 0x0102) s := if_pos h

theorem openSession_full (h : freeSession s = none) : openSession peer src 1 role a b c s = emit (.plain peer 0x10 0x0501) s := by
  unfold openSession
  rw [if_neg (by decide), h]

/-- R48: OPEN_1 takes a free slot, and OPEN_2 answers with the session's identifier and a payload. -/
theorem openSession_opening {k : Nat} (h : freeSession s = some k) : ∃ x payload,
    openSession peer src 1 role a b c s = emit (.open2 peer x.id payload) ({ s with model := { s.model with free := s.model.free + 1 } }.setSess k x) ∧
      x.phase = .opening ∧ x.reqRole = role ∧ x.node = src ∧ x.id ≠ 0 ∧ x.openedAt = s.time.now ∧
      (x.keyIn, x.keyOut) = sessionKeys s.model.free a c ∧ x.transcript = natBytes 1 role ++ a ++ b ++ c ++ payload := by
  have hid : (if Config.sessionId s.model.free = 0 then 1 else Config.sessionId s.model.free) ≠ 0 := by
    split
    · decide
    · assumption
  unfold openSession
  rw [if_neg (by decide), h]
  exact ⟨_, _, rfl, rfl, rfl, rfl, hid, rfl, rfl, rfl⟩
end

/-- R49: enrolling a credential changes no port's tag. -/
theorem enrol_tagged (j : Nat) (credential : List Byte) (s : State) (p : Peer) : tagged (enrol j credential s) p = tagged s p := by
  have hport : peerNum p ≤ 2 := by unfold peerNum; split <;> decide
  have hkey : key 0x1024 (peerNum p) ≠ key 0x1030 j := by unfold key; omega
  have hcfg : cfgN (enrol j credential s) 0x1024 (peerNum p) = cfgN s 0x1024 (peerNum p) := by
    rw [← cfgN_setCfg_ne s (.bytes (Config.sha384 credential ++ [2])) (datumGen s) hkey]
    simp only [enrol, cfgN, cfg, baseVal, noteStored_proto]
  rw [tagged, tagged, vlanOf, vlanOf, hcfg]

/-- R48: OPEN_4 says with code 0 or 3 that the session is open, and with any other that its slot is free. -/
theorem finishOpen_spec (k : Nat) (r : Req) (sigOk service : Bool) (s : State) : ∃ t,
    finishOpen k r sigOk service s = emit (.open4 r.peer (s.sess k).id r.seq (openVerdict s (s.sess k) sigOk service).1) t ∧
      (∀ p, tagged t p = tagged s p) ∧
      ((openVerdict s (s.sess k) sigOk service).1 = 0 ∨ (openVerdict s (s.sess k) sigOk service).1 = 3 →
        (t.sess k).phase = .opened ∧ (t.sess k).role = (s.sess k).reqRole ∧ (t.sess k).highSeq = r.seq.toNat ∧ (t.sess k).lastHeard = s.time.now) ∧
      ((openVerdict s (s.sess k) sigOk service).1 ≠ 0 → (openVerdict s (s.sess k) sigOk service).1 ≠ 3 → t.sess k = {}) := by
  unfold finishOpen
  extract_lets x v enrolled n
  change ∃ t, _ ∧ _ ∧ (v.1 = 0 ∨ v.1 = 3 → _) ∧ (v.1 ≠ 0 → v.1 ≠ 3 → _)
  split
  case isFalse hbad =>
    exact ⟨_, rfl, fun p => rfl, fun h => absurd h hbad, fun _ _ => State.setSess_sess _ _ _⟩
  case isTrue hgood =>
    have htag : ∀ p, tagged enrolled p = tagged s p := fun p => by
      simp only [enrolled]
      split
      · exact enrol_tagged _ _ _ _
      · rfl
    have hnow : enrolled.time.now = s.time.now := by
      simp only [enrolled]
      split
      · obtain ⟨start, h⟩ := noteStored_eq 0x1030 (setCfg s 0x1030 ‹Nat› (.bytes (Config.sha384 x.credential ++ [2])) (datumGen s))
        rw [enrol, h]; rfl
      · rfl
    refine ⟨_, rfl, htag, fun _ => ?_, fun h0 h3 => absurd hgood (by simp [h0, h3])⟩
    rw [State.setSess_sess]
    exact ⟨rfl, rfl, rfl, hnow⟩

/-- Settles O16: OPEN_1 by its three outcomes, OPEN_3 by the code of OPEN_4. -/
theorem sessionOpens : Obligations.SessionOpens := by
  intro dt s
  refine ⟨fun peer src version role a b c hhears => ?_, fun r sigOk service k hslot hseq hhears => ?_⟩
  · have hcfg : (frameIn peer (tick dt s)).proto.cfg = s.proto.cfg := by simp
    refine ⟨openSession peer src version role a b c (frameIn peer (tick dt s)),
      guardOk_of hhears (fun s => openSession peer src version role a b c (frameIn peer s)) _, fun hver => ?_, fun hver hfull => ?_,
      fun k hver hfree => ?_⟩
    · rw [openSession_version _ _ _ _ _ _ _ _ hver]
      exact ⟨sent_emit hcfg _, by simp⟩
    · subst hver
      rw [openSession_full _ _ _ _ _ _ _ (by rw [freeSession_congr (s := s) (by simp), hfull])]
      exact ⟨sent_emit hcfg _, by simp⟩
    · subst hver
      obtain ⟨x, payload, hrun, hphase, hrole, hnode, hid, hopened, hkeys, htranscript⟩ :=
        openSession_opening peer src role a b c (frameIn peer (tick dt s)) (by rw [freeSession_congr (s := s) (by simp), hfree])
      rw [frameIn_time] at hopened
      rw [frameIn_model] at hkeys
      rw [hrun, emit_sess, State.setSess_sess]
      exact ⟨hphase, hrole, hnode, hid, hopened, hkeys, payload, sent_emit hcfg _, htranscript⟩
  · obtain ⟨t, hrun, htag, hgood, hbad⟩ := finishOpen_spec k r sigOk service (frameIn r.peer (tick dt s))
    have hsess : (frameIn r.peer (tick dt s)).sess k = s.sess k := by simp
    rw [hsess] at hrun hgood hbad
    have hexec : exec (.open3 dt r sigOk service) s = .next (finishOpen k r sigOk service (frameIn r.peer (tick dt s))) := by
      change execOpen3 dt r sigOk service s = _
      unfold execOpen3
      simp only [hslot]
      rw [if_neg (by rw [hseq]; decide)]
      exact guardOk_of hhears _ _
    refine ⟨_, _, hexec, ?_, rfl, fun hc => ?_, fun h0 h3 => ?_⟩
    · have htags : tagged t r.peer = tagged s r.peer := by
        rw [htag, tagged, tagged, vlanOf, vlanOf, cfgN, cfgN, cfg, cfg, baseVal, baseVal, frameIn_proto, tick_proto]
      rw [hrun, Sent]
      have hmem := withTag_mem_emit (.open4 r.peer (s.sess k).id r.seq (openVerdict (frameIn r.peer (tick dt s)) (s.sess k) sigOk service).1) t
      simpa only [Output.withTag, htags] using hmem
    · rw [hrun, emit_sess]
      simpa using hgood hc
    · rw [hrun, emit_sess]; exact hbad h0 h3

/-! ### The ends of sessions and handles (R48 to R50, R67) -/

/-- R50: a session that ends frees its slot and takes its claims with it; the other sessions stay. -/
theorem endSession_spec (k : Nat) (s : State) : (endSession k s).sess k = {} ∧
    (endSession k s).proto.claims = s.proto.claims.filter (fun c => c.session != (s.sess k).id) ∧
    (endSession k s).proto.expired = s.proto.expired ∧ ∀ m, m ≠ k → (endSession k s).sess m = s.sess m := by
  unfold endSession
  extract_lets x p handles held t₀ t
  have hproto : t.proto = t₀.proto := by
    simp only [t]
    split <;> rfl
  have hsess : ∀ m, t.sess m = s.sess m := fun m => by rw [State.sess, hproto]; rfl
  refine ⟨State.setSess_sess _ _ _, ?_, ?_, fun m hm => by rw [State.setSess_sess_ne _ _ _ _ hm, hsess]⟩
  · change t.proto.claims = _
    rw [hproto]
  · change t.proto.expired = _
    rw [hproto]

theorem endSession_claims {k : Nat} {s : State} {c : Claim} (h : c ∈ (endSession k s).proto.claims) : c.session ≠ (s.sess k).id := by
  obtain ⟨-, claims, -⟩ := endSession_spec k s
  rw [claims] at h
  simpa using (List.mem_filter.mp h).2

/-- R476: a response that no record of the wheeler answers for, in a session with none withheld, goes out at once. -/
theorem reply_at_once {k : Nat} {resp : Response} {s : State} (hop : waitsForWheeler resp.opcode = false)
    (hnone : s.proto.withheld.all (fun w => w.slot != k) = true) (seq first : Nat) : reply k seq first resp s = sendResponse k seq resp s := by
  have hempty : s.proto.withheld.filter (fun w => w.slot == k) = [] :=
    List.filter_eq_nil_iff.mpr fun w hw => by simpa using List.all_eq_true.mp hnone w hw
  simp [reply, awaitedRecord, hop, hempty]

theorem sendResponse_goes_out (k n : Nat) (resp : Response) (s : State) :
    ∃ peer sess, Output.response peer sess (BitVec.ofNat 64 n) resp ∈ (sendResponse k n resp s).model.tx :=
  ⟨_, _, withTag_mem_emit (.response _ _ _ _) _⟩

section
variable {dt : Nat} {s : State}

/-- R48: OPEN_3 has not come within 1 s. -/
theorem exec_openTimeout {slot : Fin 8} (hphase : (s.sess slot).phase = .opening) (hdue : (s.sess slot).openedAt + sec ≤ s.time.now + dt) :
    exec (.openTimeout dt slot) s = .next ((tick dt s).setSess slot {}) := by
  have due : decide (((tick dt s).sess slot).openedAt + sec ≤ (tick dt s).time.now) = true := decide_eq_true (by rwa [tick_sess, tick_now])
  change execOpenTimeout dt slot s = _
  unfold execOpenTimeout
  refine guardOk_of ?_ _ _
  have opening : ((tick dt s).sess slot).phase = .opening := by rwa [tick_sess]
  rw [opening, due]; rfl

/-- R49: the enrolment window is over. -/
theorem exec_enrolWindowEnd (hdue : s.time.coldStart + 600 * sec ≤ s.time.now + dt) :
    exec (.enrolWindowEnd dt) s = .next { tick dt s with proto := { s.proto with enrolClosed := true } } := by
  have due : decide ((tick dt s).time.coldStart + 600 * sec ≤ (tick dt s).time.now) = true := decide_eq_true hdue
  change execEnrolWindowEnd dt s = _
  unfold execEnrolWindowEnd
  exact guardOk_of due _ _

/-- R50: nothing has been heard of the session for `Comm.SessionTimeout`. -/
theorem exec_sessionTimeout {slot : Fin 8} (hphase : (s.sess slot).phase = .opened)
    (hdue : (s.sess slot).lastHeard + cfgN (tick dt s) 0x1011 0 * sec ≤ s.time.now + dt) :
    exec (.sessionTimeout dt slot) s = .next (expireSession slot (tick dt s)) := by
  have due : decide (((tick dt s).sess slot).lastHeard + cfgN (tick dt s) 0x1011 0 * sec ≤ (tick dt s).time.now) = true :=
    decide_eq_true (by rwa [tick_sess, tick_now])
  have opened : ((tick dt s).sess slot).phase = .opened := by rwa [tick_sess]
  change execSessionTimeout dt slot s = _
  unfold execSessionTimeout
  refine guardOk_of ?_ _ _
  rw [opened, due]; rfl

/-- R67: a handle whose session has gone expires 60 s after its end. -/
theorem exec_handleExpiry {slot : Fin 256} (hphase : (s.handle slot).phase = .done) (howner : (s.handle slot).owner = 0)
    (hdue : (s.handle slot).doneAt + 60 * sec ≤ s.time.now + dt) : exec (.handleExpiry dt slot) s = .next (freeHandle slot (tick dt s)) := by
  have due : decide (((tick dt s).handle slot).doneAt + 60 * sec ≤ (tick dt s).time.now) = true := decide_eq_true hdue
  have done : ((tick dt s).handle slot).phase = .done := hphase
  have unowned : ((tick dt s).handle slot).owner = 0 := howner
  change execHandleExpiry dt slot s = _
  unfold execHandleExpiry
  refine guardOk_of ?_ _ _
  rw [done, unowned, due]; rfl
end

/-- Settles O17: each time-out by its guard, and SESSION_CLOSE by what the end of a session leaves (`endSession_spec`). -/
theorem sessionsAndHandlesEnd : Obligations.SessionsAndHandlesEnd := by
  refine ⟨fun dt s => ⟨fun slot hphase hdue => ?_, fun hdue => ?_, fun slot hphase hdue => ?_, fun slot hphase howner hdue => ?_⟩,
    fun dt r k s u served => ?_⟩
  · exact ⟨_, exec_openTimeout hphase hdue, State.setSess_sess _ _ _, fun m hm => State.setSess_sess_ne _ _ _ _ hm⟩
  · exact ⟨_, exec_enrolWindowEnd hdue, by simp [enrolOpen], rfl⟩
  · obtain ⟨free, -, expired, others⟩ := endSession_spec slot { tick dt s with proto := { s.proto with expired := (s.sess slot).id :: s.proto.expired } }
    exact ⟨_, exec_sessionTimeout hphase hdue, free, expired.symm ▸ List.mem_cons_self,
      fun c hc => endSession_claims (s := { tick dt s with proto := { s.proto with expired := (s.sess slot).id :: s.proto.expired } }) hc, others⟩
  · refine ⟨_, exec_handleExpiry hphase howner hdue, ?_, ?_, fun m hm => State.setHandle_handle_ne _ _ _ _ hm⟩
    · rw [freeHandle, State.setHandle_handle]
    · rw [freeHandle, State.setHandle_handle]; rfl
  · obtain ⟨free, -⟩ := endSession_spec k (reply k r.seq.toNat u.pair.txSeq ⟨0x14, 0, .none⟩ u)
    refine ⟨_, served_replies (after := endSession k) served rfl, free, fun c hc => ?_, fun hnone => .inl ?_⟩
    · rw [← reply_id k r.seq.toNat u.pair.txSeq ⟨0x14, 0, .none⟩ u k]; exact endSession_claims hc
    · obtain ⟨peer, sess, hout⟩ := sendResponse_goes_out k r.seq.toNat ⟨0x14, 0, .none⟩ u
      rw [reply_at_once rfl hnone]
      exact ⟨peer, sess, (endSession_keeps k _ (Keeps.refl _)).tx _ hout⟩

/-! ### Commands that take a handle (R66, R67) -/

section
variable {dt : Nat} {r : Req} {k h : Nat} {s u : State} {recovery : Bool}

/-- A command that takes its handle is answered with it, and the handle runs; `v`: the state in which it has begun. -/
theorem handle_runs {idx : Nat} {op : Op} {v : State} (hv : v.handle h = (startHandle k idx op h u).handle h) {n : Nat} :
    Answered k r ⟨0x07, 1, .handle (handleWord (reply k r.seq.toNat n ⟨0x07, 1, .handle (handleWord v h)⟩ v) h)⟩
        (reply k r.seq.toNat n ⟨0x07, 1, .handle (handleWord v h)⟩ v) ∧
      Running k h idx op u (reply k r.seq.toNat n ⟨0x07, 1, .handle (handleWord v h)⟩ v) := by
  refine ⟨?_, (startHandle_running k idx op h u).same (by rw [reply_handle, hv])⟩
  rw [reply_handleWord]
  exact reply_answered k r n _ v

/-- R66, R67: a command with no effect of its own at its start changes nothing but the host's side. -/
theorem command_runs {idx role : Nat} {op : Op} {bad : State → Nat} (served : Served dt r recovery k s u) (starts : Starts k idx role op h u)
    (hbad : bad u = 0) : ∃ t, command dt r { idx := idx, role := role, op := op, bad := bad } s recovery = .next t ∧
      Answered k r ⟨0x07, 1, .handle (handleWord t h)⟩ t ∧ Running k h idx op u t ∧ Quiet u t := by
  obtain ⟨answered, running⟩ := handle_runs (r := r) (k := k) (h := h) (u := u) (idx := idx) (op := op) (v := startHandle k idx op h u)
    (n := u.pair.txSeq) rfl
  exact ⟨_, command_next served starts hbad, answered, running, (reply_quiet ..).trans (startHandle_quiet k idx op h u)⟩

/-- A command that passes every check is answered with a handle. -/
theorem runCommand_starts {c : Command} (starts : Starts k c.idx c.role c.op h u) (hbad : c.bad u = 0) :
    ∃ w, (runCommand c k u).resp = some ⟨0x07, 1, .handle w⟩ := by
  obtain ⟨role, lead, supervisor, slot, mover⟩ := starts
  have hlead : (isWheeler u && !chipLocalCmd c.idx) = false := by rcases lead with h | h <;> simp [h]
  have hsup : (u.axis.supervisorLost && supervisorRuns c.idx) = false := by rcases supervisor with h | h <;> simp [h]
  have hmover : (needsMover c.op && decide (96 ≤ moversUsed u)) = false := by rcases mover with h | h <;> simp [h]
  simp [runCommand, Nat.not_lt.mpr role, hlead, hbad, hsup, slot, hmover]

/-- R220: the event of a refused repair is not raised where a handle is given. -/
theorem withRepairEvent_started {a : Answer} {w : BitVec 16} (ha : a.resp = some ⟨0x07, 1, .handle w⟩) (reason pc sid bank row : Nat) :
    withRepairEvent reason pc sid bank row a = a := by
  rw [withRepairEvent, if_neg (by rw [ha]; simp)]

/-- R220: ROW_REPAIR starts as every other command does. -/
theorem exec_rowRepair {pc sid bank row : Nat} (served : Served dt r false k s u) (starts : Starts k 0xC034 3 (.rowRepair pc sid bank row) h u)
    (hbad : storeBarred u = 0) (hbank : badBank pc sid bank = false) (hrow : row ≤ 16383) (hspare : noSpareRow u pc sid bank = false) :
    ∃ t, exec (.rowRepair dt r pc sid bank row) s = .next t ∧ Answered k r ⟨0x07, 1, .handle (handleWord t h)⟩ t ∧
      Running k h 0xC034 (.rowRepair pc sid bank row) u t ∧ Quiet u t := by
  let bad : State → Nat := fun s => firstOf [(storeBarred s != 0, storeBarred s), (badBank pc sid bank || decide (16383 < row), 0x0303),
    (noSpareRow s pc sid bank, 0x0508)]
  have hfirst : bad u = 0 := by
    simp [bad, firstOf, hbad, hbank, Nat.not_lt.mpr hrow, hspare]
  obtain ⟨w, hw⟩ := runCommand_starts (c := { idx := 0xC034, role := 3, op := .rowRepair pc sid bank row, bad := bad }) starts hfirst
  obtain ⟨t, hrun, hrest⟩ := command_runs (bad := bad) served starts hfirst
  refine ⟨t, Eq.trans ?_ hrun, hrest⟩
  change execRowRepair dt r pc sid bank row s = _
  rw [execRowRepair, command, request_served served, request_served served, withRepairEvent_started hw]

theorem Quiet.otherSlot {s t : State} (h : Quiet s t) : otherSlot t = otherSlot s := by
  unfold Machine.otherSlot
  rw [h.start]

/-- Erasing or filling an image slot on both sides leaves the difference to the host's side. -/
theorem Quiet.setSlot {s t : State} (h : Quiet s t) (i : Nat) (x : Slot) : Quiet (setSlot i x s) (setSlot i x t) := by
  obtain ⟨axis, gait, ports, rings, store, integ, screen, noz, fire, lanes, rein, insp, loop, time, pair, power, faults, pending, start, free, proto⟩ := h
  refine ⟨axis, gait, ports, rings, store, integ, screen, noz, fire, lanes, rein, insp, loop, time, pair, power, faults, pending, ?_, free, proto⟩
  simp only [Machine.setSlot]
  rw [start]

/-- Settles O21: each command by `command_runs`, its own checks by the statement's hypotheses. -/
theorem commandsRun : Obligations.CommandsRun := by
  intro dt r k h s u served hstore
  refine ⟨fun address length pattern cls starts ha hl hc hrange hbusy => command_runs served starts ?_,
    fun source dest length cls starts hsrc hdst hl hc hsrange hdrange hbusy => command_runs served starts ?_,
    fun pc sid bank row starts hbank hrow hspare => exec_rowRepair served starts hstore hbank hrow hspare,
    fun args starts hargs hbusy => command_runs served starts ?_,
    fun starts => command_runs served starts hstore⟩
  · simp [firstOf, hstore, ha, hl, hc, Nat.not_lt.mpr hrange, hbusy]
  · simp [firstOf, hstore, hsrc, hdst, hl, hc, Nat.not_lt.mpr hsrange, Nat.not_lt.mpr hdrange, hbusy]
  · simp [firstOf, hstore, hargs, hbusy]

/-- Settles O22: the uploads by `command_runs`; IMAGE_WRITE erases its slot as it begins. -/
theorem uploadsBegin : Obligations.UploadsBegin := by
  intro dt r k h s u crc
  refine ⟨fun slot w hh n served hstore starts hslot hw hw' hh₁ hh' hn hpart huse => command_runs served starts ?_,
    fun first count served hstore starts hcount hrange hroom hopen => command_runs served starts ?_,
    fun sensor table served hawake starts hsensor htable => command_runs served starts ?_,
    fun length served starts hpos hmax => ?_⟩
  · have hinUse : (slotInUse u slot && !sameContent u slot crc) = false := by
      cases huse' : slotInUse u slot
      · rfl
      · rw [huse huse']; rfl
    have hn' : [1, 3, 7].contains n = true := List.contains_iff_mem.mpr hn
    have hw0 : (w == 0) = false := beq_false_of_ne (by omega)
    have hh0 : (hh == 0) = false := beq_false_of_ne (by omega)
    simp only [firstOf, hstore, hn', hw0, hh0, hinUse]
    simp [Nat.not_lt.mpr hslot, Nat.not_lt.mpr hw', Nat.not_lt.mpr hh', Nat.not_lt.mpr hpart]
  · have hcount0 : (count == 0) = false := beq_false_of_ne (by omega)
    simp [firstOf, hstore, badRange, hcount0, Nat.not_lt.mpr hrange, hopen, stagingFull, Nat.not_le.mpr hroom]
  · simp [firstOf, hawake, Nat.not_lt.mpr hsensor, Nat.not_lt.mpr htable]
  · obtain ⟨answered, running⟩ := handle_runs (r := r) (k := k) (h := h) (u := u) (idx := 0xC0B0) (op := .imageWrite length crc [])
      (v := setSlot (otherSlot (startHandle k 0xC0B0 (.imageWrite length crc []) h u)) {} (startHandle k 0xC0B0 (.imageWrite length crc []) h u))
      (n := u.pair.txSeq) rfl
    have hquiet := startHandle_quiet k 0xC0B0 (.imageWrite length crc []) h u
    refine ⟨_, command_next served starts (if_neg (by omega)), answered, running, (reply_quiet ..).trans ?_⟩
    have h := hquiet.setSlot (otherSlot u) {}
    rwa [← hquiet.otherSlot] at h ⊢

end

/-! ### What the work of a command leaves alone: the ports, and the books of the host's requests -/

/-- The ports are as they were, and so is each session's count of the requests of its tick (R54). -/
structure FrameKept (s t : State) : Prop where
  ports : t.ports = s.ports
  tickReqs : ∀ i, (t.sess i).tickReqs = (s.sess i).tickReqs

theorem FrameKept.refl (s : State) : FrameKept s s := ⟨rfl, fun _ => rfl⟩

theorem FrameKept.trans {s t u : State} (g : FrameKept t u) (h : FrameKept s t) : FrameKept s u :=
  ⟨g.ports.trans h.ports, fun i => (g.tickReqs i).trans (h.tickReqs i)⟩

/-- Beside those, the handles, the responses that wait for the wheeler and the commits are as they were. -/
structure BooksKept (s t : State) : Prop extends FrameKept s t where
  handles : t.proto.handles = s.proto.handles
  withheld : t.proto.withheld = s.proto.withheld
  commits : t.proto.commits = s.proto.commits

/-- The fields that hold what `BooksKept` speaks of. -/
abbrev State.books (s : State) := (s.ports, s.proto.sessions, s.proto.handles, s.proto.withheld, s.proto.commits)

/-- An update of other fields keeps the books. -/
theorem BooksKept.same {s t : State} (h : t.books = s.books) : BooksKept s t := by
  simp only [State.books, Prod.mk.injEq] at h
  obtain ⟨ports, sessions, handles, withheld, commits⟩ := h
  exact ⟨⟨ports, fun i => by rw [State.sess, State.sess, sessions]⟩, handles, withheld, commits⟩

theorem BooksKept.refl (s : State) : BooksKept s s := .same rfl

theorem BooksKept.trans {s t u : State} (g : BooksKept t u) (h : BooksKept s t) : BooksKept s u :=
  ⟨g.toFrameKept.trans h.toFrameKept, g.handles.trans h.handles, g.withheld.trans h.withheld, g.commits.trans h.commits⟩

theorem BooksKept.handle {s t : State} (h : BooksKept s t) (i : Nat) : t.handle i = s.handle i := by rw [State.handle, State.handle, h.handles]

theorem ite_books {c : Prop} [Decidable c] {s t u : State} (ht : BooksKept s t) (hu : BooksKept s u) : BooksKept s (if c then t else u) := by
  split <;> assumption

theorem forAll_books {α : Type} {f : α → State → State} (h : ∀ a s, BooksKept s (f a s)) (l : List α) (s : State) : BooksKept s (forAll l f s) :=
  forAll_induct (P := BooksKept s) (fun a t c => (h a t).trans c) l s (.refl s)

theorem foldl_books {α : Type} {f : State → α → State} (h : ∀ a s, BooksKept s (f s a)) (l : List α) (s : State) : BooksKept s (l.foldl f s) :=
  forAll_books (f := fun a s => f s a) h l s

theorem emit_books (o : Output) (s : State) : BooksKept s (emit o s) := .same rfl

/-- A change of a session that keeps its count of requests. -/
theorem setSess_books (s : State) (n : Nat) (x : Session) (h : x.tickReqs = (s.sess n).tickReqs) : BooksKept s (s.setSess n x) := by
  refine ⟨⟨rfl, fun i => ?_⟩, rfl, rfl, rfl⟩
  by_cases hi : i = n
  · subst hi; rw [State.setSess_sess, h]
  · rw [State.setSess_sess_ne _ _ _ _ hi]

/-! Events (R44, R67, R68) -/

theorem pushQueue_books (k : Nat) (s : State) : BooksKept s (pushQueue k s) := by
  unfold pushQueue
  dsimp only
  split
  · exact .refl s
  · split
    · exact .refl s
    · exact (foldl_books (fun _ t => emit_books _ t) _ _).trans (setSess_books s k _ rfl)

theorem deliver_books (k : Nat) (r : EventRec) (s : State) : BooksKept s (deliver k r s) := by
  unfold deliver
  extract_lets x
  split
  · exact .refl s
  next q _ =>
    split
    next q' fits _ =>
      extract_lets queued
      have hqueued : BooksKept s queued := setSess_books s k _ rfl
      exact ite_books ((pushQueue_books k queued).trans hqueued) (BooksKept.trans (t := queued) (.same rfl) hqueued)

theorem broadcast_books (r : EventRec) (s : State) : BooksKept s (broadcast r s) :=
  foldl_books (fun _ t => ite_books (deliver_books _ _ t) (.refl t)) _ s

theorem raise_books (c v : Nat) (d : BitVec 96) (s : State) (u : BitVec 32) (l : Option Int) (n : Nat) : BooksKept s (raise c v d s u l n) := by
  unfold raise
  exact ite_books (broadcast_books _ s) (.same rfl)

theorem ev_books (c : Nat) (d : BitVec 96) (s : State) (u : BitVec 32) (l : Option Int) (n : Nat) : BooksKept s (ev c d s u l n) :=
  raise_books _ _ _ _ _ _ _

theorem sendRecord_books (b : PairBody) (s : State) : BooksKept s (sendRecord b s) := .same rfl

theorem mirror_books (b : PairBody) (s : State) : BooksKept s (mirror b s) := ite_books (sendRecord_books b s) (.refl s)

/-! Faults of class 1 and the speed limit (R133, R546) -/

theorem syncClass_books (code : Nat) (unit : BitVec 32) (s : State) : BooksKept s (syncClass code unit s) := by
  unfold syncClass
  dsimp only
  exact ite_books (.refl s) (ite_books (.same rfl) ((raise_books ..).trans (.same rfl)))

theorem causeGone_books (code : Nat) (unit : BitVec 32) (s : State) (only : Option Nat) : BooksKept s (causeGone code unit s only) :=
  (syncClass_books _ _ _).trans (.same rfl)

/-- R546: a fault of class 1 has no response. -/
theorem addFault_one_books (code level : Nat) (unit : BitVec 32) (s : State) (respond : Bool) (trigger : Option Nat) (silent exact_ : Bool) :
    BooksKept s (addFault code 1 level unit s respond trigger silent exact_) :=
  (syncClass_books _ _ _).trans (.same rfl)

theorem limitChanged_books (s : State) : BooksKept s (limitChanged s) := by
  have hsend : BooksKept s (sendLimit s) := (ev_books ..).trans (.same rfl)
  have hupdate : BooksKept s (updateLimit s) := by
    unfold updateLimit
    exact ite_books hsend (ite_books (.same rfl) (ite_books (.refl s) (.same rfl)))
  have hjudge : BooksKept (updateLimit s) (judgeSpeed (updateLimit s)) := by
    unfold judgeSpeed
    exact ite_books (.same rfl) (.same rfl)
  exact hjudge.trans hupdate

/-! The page store: reads, except those that are fire-critical (R212), and writes -/

/-- A change of the record of stored data's errors touches no book. -/
theorem setInteg_books (s : State) (z : Integ) : BooksKept s { s with integ := z } := .same rfl

/-- Nor does a change of the page store. -/
theorem setStore_books (s : State) (z : Store) : BooksKept s { s with store := z } := .same rfl

theorem logError_books (e : LogEntry) (s : State) : BooksKept s (logError e s) := by
  unfold logError
  dsimp only
  refine ite_books (setInteg_books s _) (ite_books (setInteg_books s _) (ite_books (ite_books ?_ (setInteg_books s _)) (setInteg_books s _)))
  exact (ev_books ..).trans (setInteg_books s _)

theorem countCorrected_books (mem region : Nat) (s : State) : BooksKept s (countCorrected mem region s) := by
  unfold countCorrected
  dsimp only
  exact ite_books ((ev_books ..).trans (.same rfl)) (.same rfl)

theorem countUe_books (mem region : Nat) (s : State) : BooksKept s (countUe mem region s) := .same rfl

theorem retireBlock_books (pc sid bank block row : Nat) (s : State) : BooksKept s (retireBlock pc sid bank block row s) := by
  unfold retireBlock
  exact ite_books (.refl s) (ite_books (ev_books ..) (ite_books (ite_books (.refl s) (.same rfl)) (.same rfl)))

theorem uninitRead_books (requester : Nat) (unit : BitVec 32) (u : Nat) (s : State) : BooksKept s (uninitRead requester unit u s) :=
  (logError_books _ _).trans (ev_books ..)

theorem storeUe_books {requester : Nat} (hr : isFireCritical requester = false) (unit : BitVec 32) (u cls : Nat) (s : State) :
    BooksKept s (storeUe requester unit u cls s) := by
  unfold storeUe
  extract_lets logged record marked counted raised
  have hmarked : BooksKept s marked := (setInteg_books logged _).trans (logError_books _ s)
  have hcounted : BooksKept s counted := (ite_books (.refl marked) (countUe_books 0 0 marked)).trans hmarked
  rw [if_neg (by rw [hr]; decide)]
  exact (ev_books _ _ counted _ _ _).trans hcounted

theorem retireCheck_books (u : Nat) (again : Bool) (s : State) : BooksKept s (retireCheck u again s) :=
  ite_books (retireBlock_books ..) (.refl s)

theorem noteRead_books {requester : Nat} (hr : isFireCritical requester = false) (unit : BitVec 32) (u : Nat) (s : State) :
    BooksKept s (noteRead requester unit u s) := by
  unfold noteRead
  extract_lets cls skip
  split
  next again first hfirst =>
  have hread : first = (firstRead u s).2 := by rw [hfirst]
  extract_lets uninit queued corrected lost
  have hfirstRead : BooksKept s first := by rw [hread]; exact setInteg_books s _
  have huninit : BooksKept s uninit := (ite_books (uninitRead_books requester unit u first) (.refl first)).trans hfirstRead
  have hcorrected : BooksKept uninit corrected := by
    simp only [corrected]
    split
    · exact .refl uninit
    · have hqueued : BooksKept uninit queued := ite_books (.refl uninit) (setInteg_books uninit _)
      exact ite_books hqueued ((countCorrected_books 0 0 _).trans ((logError_books _ _).trans hqueued))
  have hlost : BooksKept corrected lost := ite_books (storeUe_books hr unit u cls corrected) (.refl corrected)
  exact (ite_books (.refl lost) (retireCheck_books u again lost)).trans (hlost.trans (hcorrected.trans huninit))

theorem fireLatency_books (pc lat : Nat) (s : State) : BooksKept s (fireLatency pc lat s) := by
  unfold fireLatency
  dsimp only
  exact ite_books ((ev_books ..).trans (setStore_books s _)) (setStore_books s _)

theorem countRequests_books (cls pc n : Nat) (write : Bool) (s : State) : BooksKept s (countRequests cls pc n write s) := by
  unfold countRequests
  dsimp only
  exact ite_books ((fireLatency_books _ _ _).trans (setStore_books s _)) (setStore_books s _)

theorem countAccess_books (cls u : Nat) (write : Bool) (s : State) : BooksKept s (countAccess cls u write s) := countRequests_books ..

theorem readUnit_books {requester : Nat} (hr : isFireCritical requester = false) (cls : Nat) (unit : BitVec 32) (u : Nat) (s : State) :
    BooksKept s (readUnit cls requester unit u s).2 :=
  (noteRead_books hr unit u _).trans (countAccess_books cls u false s)

theorem readUnits_books {requester : Nat} (hr : isFireCritical requester = false) (cls : Nat) (unit : BitVec 32) :
    ∀ (n u : Nat) (s : State), BooksKept s (readUnits cls requester unit n u s).2
  | 0, _, s => .refl s
  | n + 1, u, s => by
    unfold readUnits
    dsimp only
    split
    · exact readUnit_books hr cls unit u s
    · exact (readUnits_books hr cls unit n (u + 1) _).trans (readUnit_books hr cls unit u s)

theorem noteRewrite_books (u : Nat) (s : State) : BooksKept s (noteRewrite u s) := ite_books (.same rfl) (.refl s)

theorem settleBurst_books (b : Nat) (s : State) : BooksKept s (settleBurst b s) := by
  unfold settleBurst
  split
  · exact .refl s
  · exact .same rfl
  · exact .refl s
  · exact .same rfl

theorem cleanBurst_books (b : Nat) (s : State) : BooksKept s (cleanBurst b s) := setStore_books s _

theorem writeUnits_books (cls u : Nat) (bytes : List Byte) (s : State) : BooksKept s (writeUnits cls u bytes s) := by
  unfold writeUnits
  dsimp only
  refine (forAll_books (fun i t => ?_) _ _).trans (setStore_books s _)
  exact (noteRewrite_books _ _).trans ((countAccess_books ..).trans ((cleanBurst_books _ _).trans (cleanBurst_books _ t)))

theorem mergeUnit_books (cls u a z : Nat) (s : State) : BooksKept s (mergeUnit cls u a z s) := by
  unfold mergeUnit
  dsimp only
  exact (forAll_books (fun b t => ite_books (cleanBurst_books b t) (settleBurst_books b t)) _ _).trans (readUnit_books rfl cls (unitDie 0) u s)

theorem writeBytes_books (cls a : Nat) (bytes : List Byte) (s : State) : BooksKept s (writeBytes cls a bytes s) := by
  unfold writeBytes
  extract_lets z units opened mem written
  have hopened : BooksKept s opened :=
    forAll_books (fun u t => ite_books ((cleanBurst_books _ _).trans (cleanBurst_books _ t)) (mergeUnit_books cls u a z t)) units s
  exact (forAll_books (fun u t => (noteRewrite_books u _).trans (countAccess_books cls u true t)) units written).trans
    ((setStore_books opened _).trans hopened)

/-! Operations that a handle holds outside itself (R67, R394) -/

theorem sendList_books (c n : Nat) (L : Int) (s : State) : BooksKept s (sendList c n L s) :=
  ite_books (.refl s) (forAll_books (fun _ t => emit_books _ t) _ s)

theorem freeMaster_books (c : Nat) (s : State) : BooksKept s (freeMaster c s) :=
  (forAll_books (fun _ t => sendList_books _ _ _ t) _ _).trans (.same rfl)

theorem dropOp_books (w : BitVec 16) (s : State) : BooksKept s (dropOp w s) := by
  unfold dropOp
  extract_lets pair dropped freed
  have hfreed : BooksKept dropped freed := forAll_books (fun c t => ite_books (freeMaster_books c t) (.refl t)) _ dropped
  refine (forAll_books (fun h t => ite_books ?_ (.refl t)) _ freed).trans (hfreed.trans ?_)
  all_goals exact .same rfl

/-! ### BLOCK_DATA and CMD_CANCEL (R56, R67) -/

theorem mirrorBlock_books (w : BitVec 16) (op : Op) (offset : Nat) (data : List Byte) (s : State) : BooksKept s (mirrorBlock w op offset data s) := by
  unfold mirrorBlock
  split
  · exact mirror_books _ s
  · exact .refl s

theorem mirrorBlock_store (w : BitVec 16) (op : Op) (offset : Nat) (data : List Byte) (s : State) :
    (mirrorBlock w op offset data s).store = s.store := by
  unfold mirrorBlock
  split
  · exact (mirror_calm _ s).store
  · rfl

/-- R56: data that belong to a running block write are taken. -/
theorem runBlockData_takes {w : BitVec 16} {offset n k : Nat} {data : List Byte} {got : Tab (Option Byte)} {u : State} (hname : namesHandle u w = true)
    (hphase : (u.handle (w.toNat % 256)).phase = .running) (howner : (u.handle (w.toNat % 256)).owner = (u.sess k).id)
    (hop : blockOp u (u.handle (w.toNat % 256)).op = some (n, got)) (hdata : data ≠ []) (hlen : data.length ≤ 1024) (hfits : offset + data.length ≤ n) :
    runBlockData w offset data k u =
      { resp := some ⟨0x15, 0, .none⟩
        state := mirrorBlock w (u.handle (w.toNat % 256)).op offset data (u.setHandle (w.toNat % 256) { u.handle (w.toNat % 256) with
          op := withData (u.handle (w.toNat % 256)).op (putData got offset data), progress := (putData got offset data).length }) } := by
  have hguard : (namesHandle u w && (u.handle (w.toNat % 256)).phase == .running && (u.handle (w.toNat % 256)).owner == (u.sess k).id) = true := by
    rw [hname, hphase, howner]; simp
  have hpasses : ¬(data.isEmpty = true ∨ 1024 < data.length ∨ n < offset + data.length) := by
    rw [List.isEmpty_iff]; simp only [hdata, false_or]; omega
  unfold runBlockData
  dsimp only
  rw [if_pos hguard, hop]
  exact if_neg hpasses

theorem voidStripe_books (args : List Nat) (s : State) : BooksKept s (voidStripe args s) := writeUnits_books ..

/-- R67, R254: the state at the safe point of a cancelled operation: an encode leaves its destination undefined. -/
def safePoint (slot : Nat) (s : State) : State :=
  match (s.handle slot).op with
  | .encode args => voidStripe args s
  | _ => s

theorem cancelOp_eq (slot : Nat) (s : State) : cancelOp slot s = cancelHandle slot (safePoint slot s) := by
  unfold cancelOp safePoint
  cases (s.handle slot).op <;> rfl

theorem safePoint_books (slot : Nat) (s : State) : BooksKept s (safePoint slot s) := by
  unfold safePoint
  split
  · exact voidStripe_books _ s
  · exact .refl s

/-- R67: a handle that is cancelled while it runs ends with 040Ah, and what waits to go out still does. -/
theorem cancelOp_spec {slot : Nat} {s : State} (h : (s.handle slot).phase = .running) :
    Completed slot 0x040A 0 (cancelOp slot s) ∧ (cancelOp slot s).proto.withheld = s.proto.withheld := by
  have hbooks : BooksKept s (dropOp (handleWord (safePoint slot s) slot) (safePoint slot s)) := (dropOp_books _ _).trans (safePoint_books slot s)
  rw [cancelOp_eq, cancelHandle]
  exact ⟨completeHandle_completed _ _ _ _ (by rw [hbooks.handle, h]), (completeHandle_withheld ..).trans hbooks.withheld⟩

/-- Settles O29: BLOCK_DATA by what it stores in the handle, CMD_CANCEL by whether the handle still runs. -/
theorem blockDataAndCancel : Obligations.BlockDataAndCancel := by
  intro dt r w k s u
  refine ⟨fun offset data n got served hname hphase howner hop hdata hlen hfits => ?_, fun served hname hrole => ?_⟩
  · refine ⟨_, served_replies served (runBlockData_takes hname hphase howner hop hdata hlen hfits), reply_answered .., ?_, ?_, ?_⟩
    · rw [id, reply_handle, (mirrorBlock_books ..).handle, State.setHandle_handle]
    · rw [id, reply_handle, (mirrorBlock_books ..).handle, State.setHandle_handle, hphase]
    · rw [id, (reply_quiet ..).store, mirrorBlock_store]; rfl
  · have hrun : runCancel w k u =
        { resp := some ⟨0x08, 0, .none⟩
          state := u
          after := fun s => if (s.handle (w.toNat % 256)).phase = .running then cancelOp (w.toNat % 256) s else s } := by
      unfold runCancel
      dsimp only
      rw [if_neg (by rw [hname]; decide), if_neg (Nat.not_lt.mpr hrole)]
    have hanswered := reply_answered k r u.pair.txSeq ⟨0x08, 0, .none⟩ u
    refine ⟨_, served_replies served hrun, ?_, fun hrunning => ?_, fun hended => ?_⟩
    · split
      next hrunning => exact hanswered.mono (cancelOp_keeps _ _ (Keeps.refl _)).tx (cancelOp_spec hrunning).2
      next => exact hanswered
    · rw [← reply_handle k r.seq.toNat u.pair.txSeq ⟨0x08, 0, .none⟩ u] at hrunning
      rw [if_pos hrunning]
      exact (cancelOp_spec hrunning).1
    · rw [← reply_handle k r.seq.toNat u.pair.txSeq ⟨0x08, 0, .none⟩ u] at hended
      rw [if_neg hended]
      exact ⟨reply_quiet .., reply_handle ..⟩

/-! ### The ends of commands (R67) -/

section
variable {dt : Nat} {slot : Fin 256} {failed : Bool} {data : BitVec 32} {s : State}

/-- R67: a running operation that can end ends. -/
theorem exec_handleComplete (hrun : (s.handle slot).phase = .running) (hup : serverUp (tick dt s) = true) (hend : canEnd slot (tick dt s) = true) :
    exec (.handleComplete dt slot failed data) s = .next (endOp slot failed data (tick dt s)) := by
  have running : ((tick dt s).handle slot).phase = .running := hrun
  change execHandleComplete dt slot failed data s = _
  unfold execHandleComplete
  refine guardOk_of ?_ _ _
  rw [running, hup, hend]; rfl
end

/-- R67: a handle that runs ends with its result, after work that keeps it running. -/
theorem completeHandle_after {slot code : Nat} {d : BitVec 96} {s t : State} (hrun : (s.handle slot).phase = .running)
    (h : t.handle slot = s.handle slot) : Completed slot code d (completeHandle slot code d t) :=
  completeHandle_completed slot code d t (by rw [h, hrun])

theorem withProgress_phase (slot n : Nat) (s : State) : ((withProgress slot n s).handle slot).phase = (s.handle slot).phase := by
  rw [withProgress, State.setHandle_handle]

/-! STORE_FILL (R192) -/

theorem fireLatency_mem (pc lat : Nat) (s : State) : (fireLatency pc lat s).store.mem = s.store.mem := by
  unfold fireLatency
  dsimp only
  split
  · rw [(ev_calm _ _ _ _ _ _).store]
  · rfl

theorem countAccess_mem (cls u : Nat) (write : Bool) (s : State) : (countAccess cls u write s).store.mem = s.store.mem := by
  unfold countAccess countRequests
  dsimp only
  split
  · exact fireLatency_mem ..
  · rfl

theorem noteRewrite_store (u : Nat) (s : State) : (noteRewrite u s).store = s.store := by
  unfold noteRewrite
  split <;> rfl

/-- R198: writing whole units stores their bytes. -/
theorem writeUnits_mem (cls u : Nat) (bytes : List Byte) (s : State) :
    (writeUnits cls u bytes s).store.mem = storeBytes s.store.mem (u * 64) bytes := by
  unfold writeUnits
  refine forAll_induct (P := fun t => t.store.mem = storeBytes s.store.mem (u * 64) bytes) (fun i t ht => ?_) _ _ rfl
  rw [noteRewrite_store, countAccess_mem]
  exact ht

/-- The bytes of a fill: its pattern, over and over. -/
def patternBytes (n : Nat) (pattern : BitVec 64) : List Byte := (List.range (n / 8)).flatMap (fun _ => natBytes 8 pattern.toNat)

theorem flatMap_const_getElem? {α β : Type} {l : List β} (hl : 0 < l.length) : ∀ (xs : List α) (i : Nat), i < l.length * xs.length →
    (xs.flatMap (fun _ => l))[i]? = l[i % l.length]?
  | [], i, hi => absurd hi (by simp)
  | x :: xs, i, hi => by
    rw [List.flatMap_cons]
    by_cases h : i < l.length
    · rw [List.getElem?_append_left h, Nat.mod_eq_of_lt h]
    · rw [List.getElem?_append_right (by omega), flatMap_const_getElem? hl xs _ (by rw [List.length_cons, Nat.mul_succ] at hi; omega),
        ← Nat.mod_eq_sub_mod (by omega)]

theorem natBytes_length : ∀ n v : Nat, (natBytes n v).length = n
  | 0, _ => rfl
  | n + 1, v => congrArg (· + 1) (natBytes_length n v)

theorem patternBytes_length {n : Nat} (pattern : BitVec 64) (hn : n % 64 = 0) : (patternBytes n pattern).length = n := by
  simp [patternBytes, natBytes_length]
  omega

theorem patternBytes_getElem {n i : Nat} (pattern : BitVec 64) (hn : n % 64 = 0) (hi : i < (patternBytes n pattern).length) :
    (patternBytes n pattern)[i] = (natBytes 8 pattern.toNat).getD (i % 8) 0 := by
  have hlen := patternBytes_length pattern hn
  have h := flatMap_const_getElem? (l := natBytes 8 pattern.toNat) (by rw [natBytes_length]; decide) (List.range (n / 8)) i
    (by rw [natBytes_length, List.length_range]; omega)
  rw [natBytes_length] at h
  rw [List.getD_eq_getElem?_getD, ← h]
  exact (List.getElem?_eq_getElem hi ▸ rfl)

theorem fillRange_mem {a : Nat} (ha : a % 64 = 0) (n : Nat) (pattern : BitVec 64) (cls : Nat) (s : State) :
    (fillRange a n pattern cls s).store.mem = storeBytes s.store.mem a (patternBytes n pattern) := by
  have h := writeUnits_mem cls (a / 64) (patternBytes n pattern) s
  rwa [Nat.div_mul_cancel (Nat.dvd_of_mod_eq_zero ha)] at h

theorem fillRange_books (a n : Nat) (pattern : BitVec 64) (cls : Nat) (s : State) : BooksKept s (fillRange a n pattern cls s) := by
  unfold fillRange
  extract_lets written whole
  have hwritten : BooksKept s written := writeUnits_books ..
  exact BooksKept.trans (t := written) (.same rfl) hwritten

/-- Settles O30: the memory after a fill is the memory before it with the pattern's bytes stored (`fillRange_mem`). -/
theorem fillStoresPattern : Obligations.FillStoresPattern := by
  intro dt a n pattern cls slot s hrun hop ha hn hup hstore data
  have hend : endOp slot false data (tick dt s) =
      completeHandle slot 0 0 (withProgress slot n (fillRange a n pattern cls (tick dt s))) := by
    unfold endOp
    rw [tick_handle, hop]
  refine ⟨_, exec_handleComplete hrun hup (by unfold canEnd; rw [tick_handle, hop]; simpa using hstore), ?_, fun b => ?_⟩
  · rw [hend]
    refine completeHandle_completed _ _ _ _ ?_
    rw [withProgress_phase, (fillRange_books ..).handle, tick_handle, hrun]
  · have hmem : (endOp slot false data (tick dt s)).store.mem = storeBytes s.store.mem a (patternBytes n pattern) := by
      rw [hend, completeHandle_store]
      exact fillRange_mem ha n pattern cls (tick dt s)
    have hlen := patternBytes_length pattern hn
    rw [hmem]
    split
    next hin =>
      have h := loadByte_storeBytes (m := s.store.mem) (a := a) (i := b - a) (b := patternBytes n pattern) (by omega)
      rw [patternBytes_getElem pattern hn, Nat.add_sub_cancel' hin.1] at h
      exact h
    next hout => exact loadByte_storeBytes_ne (by omega)

/-! Copies, encodes and saves (R192, R220, R252, R312) -/

theorem copyUnits_books (cls : Nat) : ∀ (n u v moved : Nat) (s : State), BooksKept s (copyUnits cls n u v moved s).2.2
  | 0, _, _, _, s => .refl s
  | n + 1, u, v, moved, s => by
    have hread : BooksKept s (readUnit cls 3 (unitDie 0) u s).2 := readUnit_books rfl cls (unitDie 0) u s
    unfold copyUnits
    dsimp only
    split
    · exact hread
    · exact (copyUnits_books cls n (u + 1) (v + 1) (moved + 64) _).trans ((writeUnits_books ..).trans hread)

theorem encodeFrom_books (a : EncArgs) : ∀ (n y : Nat) (lines : List (List Nat)) (len : Nat) (s : State),
    BooksKept s (encodeFrom a n y lines len s).2.2
  | 0, _, _, _, s => .refl s
  | n + 1, y, lines, len, s => by
    unfold encodeFrom
    extract_lets units r line len lines code
    have hread : BooksKept s r.2 := readUnits_books rfl a.cls (unitDie 0) _ _ s
    split
    · exact hread
    · split
      · exact hread
      · exact (encodeFrom_books a n (y + 1) lines len r.2).trans hread

theorem runEncode_books (args : List Nat) (s : State) : BooksKept s (runEncode args s).2.2 := by
  unfold runEncode
  extract_lets a r out code
  have hread : BooksKept s r.2.2 := encodeFrom_books a a.lines 0 [] 0 s
  split
  · exact (voidStripe_books args _).trans hread
  · exact (writeUnits_books ..).trans hread

theorem completeHandle_progress (slot code : Nat) (d : BitVec 96) (s : State) :
    ((completeHandle slot code d s).handle slot).progress = (s.handle slot).progress := by
  unfold completeHandle
  dsimp only
  split
  · rfl
  · split
    · rw [State.setHandle_handle]
    · split
      · rw [State.setHandle_handle]
      · split
        · rw [(deliver_books ..).handle, State.setHandle_handle]
        · rw [(deliver_books ..).handle, State.setHandle_handle]

/-- R312: saving a head's part changes the nozzle table's record of flash and sends the part out. -/
theorem savePart_spec (h : Nat) (s : State) : (savePart h s).proto = s.proto ∧ (savePart h s).time = s.time := by
  unfold savePart
  extract_lets chans z saved
  exact ⟨emit_proto (.flash 2 h) saved, (emit_calm (.flash 2 h) saved).time⟩

theorem saveTable_spec (s : State) : (saveTable s).proto = s.proto ∧ (saveTable s).noz.savedAt = s.time.now := by
  unfold saveTable
  extract_lets saved
  have hsaved : saved.proto = s.proto ∧ saved.time = s.time :=
    forAll_induct (P := fun t => t.proto = s.proto ∧ t.time = s.time)
      (fun h t ht => ⟨(savePart_spec h t).1.trans ht.1, (savePart_spec h t).2.trans ht.2⟩) _ s ⟨rfl, rfl⟩
  exact ⟨hsaved.1, by rw [hsaved.2]⟩

theorem withProgress_handle_progress (slot n : Nat) (s : State) : ((withProgress slot n s).handle slot).progress = n := by
  rw [withProgress, State.setHandle_handle]

/-- R67: work that keeps the handles, and then the bytes moved, leave the handle running. -/
theorem withProgress_running {slot n : Nat} {s t : State} (hrun : (s.handle slot).phase = .running) (h : BooksKept s t) :
    ((withProgress slot n t).handle slot).phase = .running := by rw [withProgress_phase, h.handle, hrun]

theorem tget_tadd (t : Tab Nat) (k m : Nat) : tget 0 (tadd t k m) k = tget 0 t k + m := by rw [tadd, tmod, tget_tput_self]

/-- R220: the fuse map has taken the row. -/
theorem repairRow_repaired (pc sid bank row : Nat) (s : State) : (pc, sid, bank, row) ∈ (repairRow pc sid bank row s).integ.repaired := by
  unfold repairRow
  dsimp only
  split
  next h => exact List.contains_iff_mem.mp h
  next => exact List.mem_cons_self

/-- Settles O31: each command's work, and the handle that it keeps running until it ends. -/
theorem commandsEnd : Obligations.CommandsEnd := by
  intro dt slot failed data s hrun hup
  have hrunning : ((tick dt s).handle slot).phase = .running := hrun
  refine ⟨fun a b n cls hop hstore => ?_, fun pc sid bank row hop => ?_, fun args hop hstore hfree => ?_, fun hop => ?_⟩
  · have hend : endOp slot failed data (tick dt s) = completeHandle slot (copyUnits cls (n / 64) (a / 64) (b / 64) 0 (tick dt s)).1 0
        (withProgress slot (copyUnits cls (n / 64) (a / 64) (b / 64) 0 (tick dt s)).2.1 (copyUnits cls (n / 64) (a / 64) (b / 64) 0 (tick dt s)).2.2) := by
      unfold endOp
      rw [tick_handle, hop]
    have hbooks := copyUnits_books cls (n / 64) (a / 64) (b / 64) 0 (tick dt s)
    obtain ⟨phase, result, -, -⟩ := completeHandle_completed slot (copyUnits cls (n / 64) (a / 64) (b / 64) 0 (tick dt s)).1 0
      (withProgress slot (copyUnits cls (n / 64) (a / 64) (b / 64) 0 (tick dt s)).2.1 _) (withProgress_running hrunning hbooks)
    refine ⟨_, _, _, _, (exec_handleComplete hrun hup (by unfold canEnd; rw [tick_handle, hop]; simpa using hstore)).trans (congrArg _ hend), rfl, ?_, ?_,
      phase, result, ?_⟩
    · rw [completeHandle_store]; rfl
    · rw [completeHandle_integ]; rfl
    · rw [completeHandle_progress, withProgress_handle_progress]
  · have hend : endOp slot failed data (tick dt s) = completeHandle slot 0 0 (repairRow pc sid bank row (tick dt s)) := by
      unfold endOp
      rw [tick_handle, hop]
    refine ⟨_, (exec_handleComplete hrun hup (by unfold canEnd; rw [tick_handle, hop])).trans (congrArg _ hend),
      completeHandle_completed _ _ _ _ hrunning, ?_, ?_, ?_⟩
    · rw [completeHandle_integ]; exact repairRow_repaired ..
    · rw [completeHandle_integ]; exact tget_tadd (tick dt s).integ.spareRows (spareKey pc sid bank) 1
    · rw [completeHandle_store]; rfl
  · have hend : endOp slot failed data (tick dt s) = completeHandle slot (runEncode args (tick dt s)).1
        (detail 0 0 0 (runEncode args (tick dt s)).2.1) (withProgress slot (runEncode args (tick dt s)).2.1 (runEncode args (tick dt s)).2.2) := by
      unfold endOp
      rw [tick_handle, hop]
    refine ⟨_, _, _, _, (exec_handleComplete hrun hup (by unfold canEnd; rw [tick_handle, hop]; simp [hstore, hfree])).trans (congrArg _ hend), rfl, ?_,
      completeHandle_completed _ _ _ _ (withProgress_running hrunning (runEncode_books args (tick dt s)))⟩
    rw [completeHandle_store]; rfl
  · have hend : endOp slot failed data (tick dt s) = if failed = true ∨ (!flashWorks (tick dt s)) = true
        then completeHandle slot 0x0801 0 (tick dt s) else completeHandle slot 0 0 (saveTable (tick dt s)) := by
      unfold endOp
      rw [tick_handle, hop]
    refine ⟨_, exec_handleComplete hrun hup (by unfold canEnd; rw [tick_handle, hop]), fun hbad => ?_, fun hgood hflash => ?_⟩
    · rw [hend, if_pos (by rcases hbad with h | h <;> simp [h])]
      exact ⟨completeHandle_completed _ _ _ _ hrunning, completeHandle_noz ..⟩
    · rw [hend, if_neg (by simp [hgood, hflash])]
      refine ⟨completeHandle_completed _ _ _ _ (by rw [State.handle, (saveTable_spec _).1]; exact hrun), ?_⟩
      rw [completeHandle_noz, (saveTable_spec _).2, tick_now]

/-! Uploads (R56, R265, R310, R408, R534) -/

/-- R56: the data of a whole transfer are taken exactly when their check word agrees. -/
theorem checkedData_of_crc {n : Nat} {crc : BitVec 32} {got : Tab (Option Byte)} (h : Config.crc32c (dataBytes got n) = crc) :
    checkedData n crc got = some (dataBytes got n) := if_pos h

theorem checkedData_of_not_crc {n : Nat} {crc : BitVec 32} {got : Tab (Option Byte)} (h : Config.crc32c (dataBytes got n) ≠ crc) :
    checkedData n crc got = none := if_neg h

theorem storeArray_books (slot w h n : Nat) (crc : BitVec 32) (got : List Byte) (s : State) : BooksKept s (storeArray slot w h n crc got s) := by
  unfold storeArray
  extract_lets stored
  have hstored : BooksKept s stored := forAll_books (fun i t => writeBytes_books ..) _ s
  exact BooksKept.trans (t := stored) (.same rfl) hstored

theorem storeArray_arrays (slot w h n : Nat) (crc : BitVec 32) (got : List Byte) (s : State) :
    tget none (storeArray slot w h n crc got s).screen.arrays slot = some ⟨w, h, n, crc⟩ := by
  unfold storeArray
  rw [tget_tput_self]

/-- R310: a block write stages, and changes neither the table nor a handle. -/
theorem stageShadow_spec (slot first count : Nat) (bytes : List Byte) (s : State) :
    BooksKept s (stageShadow slot first count bytes s).2 ∧ (stageShadow slot first count bytes s).2.noz = s.noz := by
  unfold stageShadow
  extract_lets code
  split
  · exact ⟨.refl s, rfl⟩
  · split
    · exact ⟨.refl s, rfl⟩
    · extract_lets l
      split
      · exact ⟨.refl s, rfl⟩
      · exact ⟨setSess_books s _ _ rfl, rfl⟩

theorem keepTable_of_flash {s : State} (h : flashWorks s = true) (sensor table : Nat) (bytes : List Byte) :
    keepTable sensor table bytes s = (0, emit (.flash 0 sensor) (storeTable sensor table (words16 bytes) s)) := if_pos h

section
variable {dt : Nat} {slot : Fin 256} {failed : Bool} {data : BitVec 32} {s : State} {got : Tab (Option Byte)} {crc : BitVec 32}

theorem thresholdLoad_ends {n w h m : Nat} (hrun : (s.handle slot).phase = .running) (hup : serverUp (tick dt s) = true)
    (hop : (s.handle slot).op = .thresholdLoad n w h m crc got) (hstore : s.store.state ≠ 3) (hgot : w * h * m ≤ got.length) :
    ∃ t, exec (.handleComplete dt slot failed data) s = .next t ∧
      (Config.crc32c (dataBytes got (w * h * m)) = crc → Completed slot 0 0 t ∧ tget none t.screen.arrays n = some ⟨w, h, m, crc⟩) ∧
      (Config.crc32c (dataBytes got (w * h * m)) ≠ crc → Completed slot 0x0703 0 t ∧ t.screen = s.screen ∧ t.store = s.store) := by
  refine ⟨_, exec_handleComplete hrun hup (by unfold canEnd; rw [tick_handle, hop]; simp [hstore, hgot]), fun hcrc => ?_, fun hcrc => ?_⟩
  · have hend : endOp slot failed data (tick dt s) = completeHandle slot 0 0 (storeArray n w h m crc (dataBytes got (w * h * m)) (tick dt s)) := by
      simp only [endOp, tick_handle, hop, checkedData_of_crc hcrc]
    rw [hend]
    refine ⟨completeHandle_after hrun ((storeArray_books ..).handle slot), ?_⟩
    rw [completeHandle_screen, storeArray_arrays]
  · have hend : endOp slot failed data (tick dt s) = completeHandle slot 0x0703 0 (tick dt s) := by
      simp only [endOp, tick_handle, hop, checkedData_of_not_crc hcrc]
    rw [hend]
    exact ⟨completeHandle_after hrun rfl, completeHandle_screen .., completeHandle_store ..⟩

theorem nozzleWrite_ends {first count : Nat} (hrun : (s.handle slot).phase = .running) (hup : serverUp (tick dt s) = true)
    (hop : (s.handle slot).op = .nozzleWrite first count crc got) (hgot : 48 * count ≤ got.length) :
    ∃ t, exec (.handleComplete dt slot failed data) s = .next t ∧ t.noz = s.noz ∧
      (Config.crc32c (dataBytes got (48 * count)) = crc → (t.handle slot).phase = .done ∧
        (t.handle slot).result = (stageShadow slot first count (dataBytes got (48 * count)) (tick dt s)).1) ∧
      (Config.crc32c (dataBytes got (48 * count)) ≠ crc → Completed slot 0x0703 0 t) := by
  have hcan : canEnd slot (tick dt s) = true := by unfold canEnd; rw [tick_handle, hop]; simp [hgot]
  by_cases hcrc : Config.crc32c (dataBytes got (48 * count)) = crc
  · obtain ⟨hbooks, hnoz⟩ := stageShadow_spec slot first count (dataBytes got (48 * count)) (tick dt s)
    have hend : endOp slot failed data (tick dt s) = completeHandle slot (stageShadow slot first count (dataBytes got (48 * count)) (tick dt s)).1 0
        (stageShadow slot first count (dataBytes got (48 * count)) (tick dt s)).2 := by
      simp only [endOp, tick_handle, hop, checkedData_of_crc hcrc]
    obtain ⟨phase, result, -, -⟩ := completeHandle_after (d := 0)
      (code := (stageShadow slot first count (dataBytes got (48 * count)) (tick dt s)).1) hrun (hbooks.handle slot)
    exact ⟨_, (exec_handleComplete hrun hup hcan).trans (congrArg _ hend), (completeHandle_noz ..).trans hnoz, fun _ => ⟨phase, result⟩,
      fun h => absurd hcrc h⟩
  · have hend : endOp slot failed data (tick dt s) = completeHandle slot 0x0703 0 (tick dt s) := by
      simp only [endOp, tick_handle, hop, checkedData_of_not_crc hcrc]
    exact ⟨_, (exec_handleComplete hrun hup hcan).trans (congrArg _ hend), completeHandle_noz .., fun h => absurd h hcrc,
      fun _ => completeHandle_after hrun rfl⟩

theorem inspLoad_ends {n table : Nat} (hrun : (s.handle slot).phase = .running) (hup : serverUp (tick dt s) = true)
    (hop : (s.handle slot).op = .inspLoad n table crc got) (hgot : tableBytes (tick dt s) n table ≤ got.length) :
    ∃ t, exec (.handleComplete dt slot failed data) s = .next t ∧
      (Config.crc32c (dataBytes got (tableBytes (tick dt s) n table)) ≠ crc → Completed slot 0x0703 0 t ∧ t.insp = s.insp) ∧
      (Config.crc32c (dataBytes got (tableBytes (tick dt s) n table)) = crc → failed = false → flashWorks (tick dt s) = true →
        Completed slot 0 0 t ∧ t.insp = (storeTable n table (words16 (dataBytes got (tableBytes (tick dt s) n table))) (tick dt s)).insp) := by
  refine ⟨_, exec_handleComplete hrun hup (by unfold canEnd; rw [tick_handle, hop]; simp [hgot]), fun hcrc => ?_, fun hcrc hgood hflash => ?_⟩
  · have hend : endOp slot failed data (tick dt s) = completeHandle slot 0x0703 0 (tick dt s) := by
      simp only [endOp, tick_handle, hop, checkedData_of_not_crc hcrc]
    rw [hend]
    exact ⟨completeHandle_after hrun rfl, completeHandle_insp ..⟩
  · have hend : endOp slot failed data (tick dt s) = completeHandle slot 0 0
        (emit (.flash 0 n) (storeTable n table (words16 (dataBytes got (tableBytes (tick dt s) n table))) (tick dt s))) := by
      simp only [endOp, tick_handle, hop, checkedData_of_crc hcrc, hgood, keepTable_of_flash hflash]
      rfl
    rw [hend]
    refine ⟨completeHandle_after hrun rfl, ?_⟩
    rw [completeHandle_insp, (emit_calm ..).insp]

theorem completeHandle_slots (k c : Nat) (d : BitVec 96) (s : State) : (completeHandle k c d s).start.slots = s.start.slots := by
  rw [(completeHandle_quiet k c d s).start]

theorem imageWrite_ends {n : Nat} (hrun : (s.handle slot).phase = .running) (hup : serverUp (tick dt s) = true)
    (hop : (s.handle slot).op = .imageWrite n crc got) (hgot : n ≤ got.length) :
    ∃ t, exec (.handleComplete dt slot failed data) s = .next t ∧
      (failed = true ∨ flashWorks (tick dt s) = false → Completed slot 0x0801 0 t ∧ t.start.slots = s.start.slots) ∧
      (failed = false → flashWorks (tick dt s) = true → Config.crc32c (dataBytes got n) ≠ crc →
        Completed slot 0x0703 0 t ∧ t.start.slots = s.start.slots) ∧
      (failed = false → flashWorks (tick dt s) = true → Config.crc32c (dataBytes got n) = crc → (t.handle slot).phase = .done ∧
        t.start.slots = s.start.slots.set (otherSlot s) (slotFrom (tick dt s) (dataBytes got n) data.toNat)) := by
  refine ⟨_, exec_handleComplete hrun hup (by unfold canEnd; rw [tick_handle, hop]; simp [hgot]), fun hbad => ?_, fun hgood hflash hcrc => ?_,
    fun hgood hflash hcrc => ?_⟩
  · have hend : endOp slot failed data (tick dt s) = completeHandle slot 0x0801 0 (tick dt s) := by
      simp only [endOp, tick_handle, hop]
      exact if_pos (by rcases hbad with h | h <;> simp [h])
    rw [hend]
    exact ⟨completeHandle_after hrun rfl, completeHandle_slots ..⟩
  · have hend : endOp slot failed data (tick dt s) = completeHandle slot 0x0703 0 (tick dt s) := by
      simp only [endOp, tick_handle, hop, hgood, hflash, checkedData_of_not_crc hcrc]
      rfl
    rw [hend]
    exact ⟨completeHandle_after hrun rfl, completeHandle_slots ..⟩
  · let v := emit (.flash 8 (otherSlot s)) (setSlot (otherSlot s) (slotFrom (tick dt s) (dataBytes got n) data.toNat) (tick dt s))
    have hend : ∃ code d, endOp slot failed data (tick dt s) = completeHandle slot code d v := by
      refine ⟨if slotReason v (otherSlot s) = 0 then 0 else 0x0303,
        if slotReason v (otherSlot s) = 0 then 0 else detail 0 0 0 (slotReason v (otherSlot s)), ?_⟩
      simp only [endOp, tick_handle, hop, hgood, hflash, checkedData_of_crc hcrc]
      change (if slotReason v (otherSlot s) = 0 then completeHandle slot 0 0 v else completeHandle slot 0x0303 _ v) = _
      split <;> rfl
    obtain ⟨code, d, hend⟩ := hend
    rw [hend]
    have hdone : Completed slot code d (completeHandle slot code d v) := completeHandle_after hrun rfl
    exact ⟨hdone.phase, completeHandle_slots ..⟩

/-! Camera transfers and pairing (R394, R417, R466) -/

theorem sendList_insp (c n : Nat) (L : Int) (s : State) : (sendList c n L s).insp = s.insp := by
  unfold sendList
  split
  · rfl
  · exact forAll_induct (P := fun t => t.insp = s.insp) (fun x t ht => (emit_calm _ t).insp.trans ht) _ s rfl

theorem freeMaster_free (c : Nat) (s : State) : ((freeMaster c s).camPort c).cciHandle = none := by
  unfold freeMaster
  extract_lets port freed line
  have hfreed : (freed.camPort c).cciHandle = none := by rw [State.setCamPort_camPort]
  refine forAll_induct (P := fun t => (t.camPort c).cciHandle = none) (fun n t ht => ?_) _ freed hfreed
  rwa [State.camPort, sendList_insp]

/-- R394, R417: a transfer that holds its master frees it, and ends with 0901h after 100 ms, with 0801h where the register did not take it. -/
theorem endTransfer_spec {slot port flags : Nat} {write failed : Bool} {data : BitVec 32} {s : State}
    (hheld : (s.camPort port).cciHandle = some (handleWord s slot)) : ∃ code d,
    endTransfer slot port flags write failed data s = completeHandle slot code d (freeMaster port s) ∧
      ((s.handle slot).startedAt + 100 * ms ≤ s.time.now → code = 0x0901 ∧ d = 0) ∧
      (s.time.now < (s.handle slot).startedAt + 100 * ms → failed = true → code = 0x0801 ∧ d = 0) ∧
      (s.time.now < (s.handle slot).startedAt + 100 * ms → failed = false → write = true → code = 0 ∧ d = 0) := by
  unfold endTransfer
  extract_lets late freed
  have hfreed : freed = freeMaster port s := if_pos hheld
  rw [hfreed]
  split
  next h =>
    have hdue := of_decide_eq_true h
    exact ⟨_, _, rfl, fun _ => ⟨rfl, rfl⟩, fun h => absurd h (Nat.not_lt.mpr hdue), fun h => absurd h (Nat.not_lt.mpr hdue)⟩
  next h =>
    have hearly : ¬(s.handle slot).startedAt + 100 * ms ≤ s.time.now := fun hdue => h (decide_eq_true hdue)
    split
    next hbad => exact ⟨_, _, rfl, fun hdue => absurd hdue hearly, fun _ _ => ⟨rfl, rfl⟩, fun _ hgood => absurd hbad (by simp [hgood])⟩
    next hgood => exact ⟨_, _, rfl, fun hdue => absurd hdue hearly, fun _ hbad => absurd hbad hgood, fun _ _ hwrite => ⟨rfl, if_pos hwrite⟩⟩

theorem cci_ends {port address flags register : Nat} {value : BitVec 32} {write : Bool} (hrun : (s.handle slot).phase = .running)
    (hup : serverUp (tick dt s) = true) (hop : (s.handle slot).op = .cci port address flags register value write)
    (hheld : (s.camPort port).cciHandle = some (handleWord s slot)) :
    ∃ t, exec (.handleComplete dt slot failed data) s = .next t ∧ (t.camPort port).cciHandle = none ∧
      ((s.handle slot).startedAt + 100 * ms ≤ s.time.now + dt → Completed slot 0x0901 0 t) ∧
      (s.time.now + dt < (s.handle slot).startedAt + 100 * ms → failed = true → Completed slot 0x0801 0 t) ∧
      (s.time.now + dt < (s.handle slot).startedAt + 100 * ms → failed = false → write = true → Completed slot 0 0 t) := by
  have hlate : lateTransfer port address flags register value write (tick dt s) = tick dt s := by
    unfold lateTransfer
    rw [tick_camPort, hheld]; rfl
  have hend : endOp slot failed data (tick dt s) = endTransfer slot port flags write failed data (tick dt s) := by
    simp only [endOp, tick_handle, hop, hlate]
  have hcan : canEnd slot (tick dt s) = true := by
    simp only [canEnd, tick_handle, hop, tick_camPort, hheld]
    simp [handleWord]
  obtain ⟨code, d, hdone, hover, hfail, hok⟩ := endTransfer_spec (slot := slot) (port := port) (flags := flags) (write := write) (failed := failed)
    (data := data) (s := tick dt s) hheld
  have hcompleted : Completed slot code d (completeHandle slot code d (freeMaster port (tick dt s))) :=
    completeHandle_after hrun ((freeMaster_books _ _).handle slot)
  refine ⟨_, (exec_handleComplete hrun hup hcan).trans (congrArg _ (hend.trans hdone)), ?_, fun hdue => ?_, fun hearly hbad => ?_,
    fun hearly hgood hwrite => ?_⟩
  · rw [completeHandle_camPort, freeMaster_free]
  · obtain ⟨rfl, rfl⟩ := hover hdue; exact hcompleted
  · obtain ⟨rfl, rfl⟩ := hfail hearly hbad; exact hcompleted
  · obtain ⟨rfl, rfl⟩ := hok hearly hgood hwrite; exact hcompleted

theorem pairing_ends (hrun : (s.handle slot).phase = .running) (hup : serverUp (tick dt s) = true) (hop : (s.handle slot).op = .pairing)
    (hdue : (s.handle slot).startedAt + 60 * sec ≤ s.time.now + dt) :
    ∃ t, exec (.handleComplete dt slot failed data) s = .next t ∧ Completed slot 0x0901 0 t ∧ t.pair.pairing = none := by
  have due : decide (((tick dt s).handle slot).startedAt + 60 * sec ≤ (tick dt s).time.now) = true := decide_eq_true hdue
  have hend : endOp slot failed data (tick dt s) =
      completeHandle slot 0x0901 0 { tick dt s with pair := { (tick dt s).pair with pairing := none } } := by
    simp only [endOp, tick_handle, hop]
  refine ⟨_, (exec_handleComplete hrun hup (by simp only [canEnd, tick_handle, hop]; exact due)).trans (congrArg _ hend),
    completeHandle_after hrun rfl, ?_⟩
  rw [completeHandle_pair]
end

/-- Settles O32: one lemma for each operation that a handle runs. -/
theorem uploadsAndTransfersEnd : Obligations.UploadsAndTransfersEnd :=
  ⟨fun _ _ _ _ _ hrun hup => ⟨fun _ _ _ _ _ _ hop hstore hgot => thresholdLoad_ends hrun hup hop hstore hgot,
    fun _ _ _ _ hop hgot => nozzleWrite_ends hrun hup hop hgot, fun _ _ _ _ hop hgot => inspLoad_ends hrun hup hop hgot,
    fun _ _ _ hop hgot => imageWrite_ends hrun hup hop hgot⟩,
   fun _ _ _ _ _ hrun hup => ⟨fun _ _ _ _ _ _ hop hheld => cci_ends hrun hup hop hheld, fun hop hdue => pairing_ends hrun hup hop hdue⟩⟩

/-! ### Writes to the clock's objects and to status words (R71, R441, R445, R455) -/

/-- What a served WRITE changes beside its entries: what is kept of the exchange, and what waits on the pair link. -/
def State.exchanged (s : State) (sessions : Tab Session) (withheld : List Withheld) (pair : Tandem) (model : Model) : State :=
  { s with proto := { s.proto with sessions := sessions, withheld := withheld }, pair := pair, model := model }

theorem mirrorWrite_exchanged (es : List Entry) (s : State) : ∃ pair model, mirrorWrite es s = s.exchanged s.proto.sessions s.proto.withheld pair model := by
  unfold mirrorWrite
  dsimp only
  split
  · exact ⟨_, _, rfl⟩
  · unfold mirror
    split
    · exact ⟨_, _, rfl⟩
    · exact ⟨_, _, rfl⟩

theorem reply_exchanged (k n first : Nat) (resp : Response) (s : State) :
    ∃ sessions withheld model, reply k n first resp s = s.exchanged sessions withheld s.pair model := by
  unfold reply
  split
  · exact ⟨_, _, _, rfl⟩
  · exact ⟨_, _, _, rfl⟩

/-- R55: a WRITE of one object that passes does what the write of the object does. -/
theorem WritePasses.one {dt k i j ty : Nat} {r : Req} {x : Val} {s v : State} (w : WritePasses dt r [entry i j ty x] k s v)
    (halias : aliasWrite i x = some x) (htarget : aliasTarget i = i) :
    ∃ sessions withheld pair model, writeObject dt r (entry i j ty x) s = .next ((applyWrite true i j x v).exchanged sessions withheld pair model) := by
  obtain ⟨first, hexec⟩ := w.runs
  have hentry : applyEntry (entry i j ty x) v = applyWrite true i j x v := by
    simp only [applyEntry, halias, htarget]
  obtain ⟨pair, model, hmirror⟩ := mirrorWrite_exchanged [entry i j ty x] (applyWrite true i j x v)
  obtain ⟨sessions, withheld, model', hreply⟩ := reply_exchanged k r.seq.toNat first ⟨0x02, 0, .none⟩
    ((applyWrite true i j x v).exchanged (applyWrite true i j x v).proto.sessions (applyWrite true i j x v).proto.withheld pair model)
  refine ⟨sessions, withheld, pair, model', hexec.trans ?_⟩
  rw [applyEntries, forAll, List.foldl_cons, List.foldl_nil, hentry, hmirror, hreply]
  rfl

/-! The roles of the clock (R441, R448) -/

theorem decidePorts_proto (s : State) : (decidePorts s).proto = s.proto :=
  forAll_induct (P := fun t => t.proto = s.proto) (fun _ _ ht => (State.setPtpPort_proto ..).trans ht) _ s rfl

/-- R441: every port returns to INITIALIZING and forgets its masters. -/
theorem ptpInit_spec (s : State) : (ptpInit s).proto = s.proto ∧ (ptpInit s).time.hasMaster = false ∧
    ∀ m, m < 3 → ((ptpInit s).ptpPort m).state = 1 ∧ ((ptpInit s).ptpPort m).foreign = [] := by
  unfold ptpInit
  extract_lets cleared
  have hports : ∀ m, m < 3 → (cleared.ptpPort m).state = 1 ∧ (cleared.ptpPort m).foreign = [] := fun m hm => by
    refine forAll_reaches_mem (P := fun t => (t.ptpPort m).state = 1 ∧ (t.ptpPort m).foreign = []) (a := m)
      (by simp; omega) (fun t => ?_) (fun n _ t ht => ?_) s
    · rw [State.setPtpPort_ptpPort]; exact ⟨rfl, rfl⟩
    · by_cases hn : m = n
      · subst hn; rw [State.setPtpPort_ptpPort]; exact ⟨rfl, rfl⟩
      · rw [State.setPtpPort_ptpPort_ne _ _ _ _ hn]; exact ht
  exact ⟨forAll_induct (P := fun t => t.proto = s.proto) (fun _ _ ht => (State.setPtpPort_proto ..).trans ht) _ s rfl, rfl, hports⟩

theorem mirrorTime_spec (accepted : Bool) (s : State) : (mirrorTime s accepted).proto.cfg = s.proto.cfg ∧ (mirrorTime s accepted).time = s.time := by
  unfold mirrorTime mirror
  dsimp only
  split
  · exact ⟨rfl, rfl⟩
  · exact ⟨rfl, rfl⟩

/-- R448: the servo's state has no part in the roles and the ports. -/
theorem setServo_spec (st : Nat) (s : State) : (setServo st s).proto.cfg = s.proto.cfg ∧ (setServo st s).time.hasMaster = s.time.hasMaster ∧
    ∀ m, (setServo st s).ptpPort m = s.ptpPort m := by
  unfold setServo
  split
  · exact ⟨rfl, rfl, fun _ => rfl⟩
  · extract_lets hist avg servo changed
    obtain ⟨hcfg, htime⟩ := mirrorTime_spec false (ev 0x9001 (timeDetail 0xFF st s.time.offset) changed)
    rw [ev_cfg] at hcfg
    rw [ev_time] at htime
    exact ⟨hcfg, by rw [htime], fun m => by rw [State.ptpPort, htime]; rfl⟩

theorem roleWritten_spec (s : State) : (roleWritten s).proto.cfg = s.proto.cfg ∧ (roleWritten s).time.hasMaster = false ∧
    ∀ m, m < 3 → ((roleWritten s).ptpPort m).state = 1 ∧ ((roleWritten s).ptpPort m).foreign = [] := by
  obtain ⟨hproto, hmaster, hports⟩ := ptpInit_spec s
  unfold roleWritten
  dsimp only
  split
  · obtain ⟨hcfg, htime, hport⟩ := setServo_spec 0 (ptpInit s)
    exact ⟨hcfg.trans (by rw [hproto]), htime.trans hmaster, fun m hm => by rw [hport]; exact hports m hm⟩
  · exact ⟨by rw [hproto], hmaster, hports⟩

/-! One lemma for each kind of write -/

theorem cfg_congr {s t : State} (h : t.proto.cfg = s.proto.cfg) (i j : Nat) : cfg t i j = cfg s i j := by rw [cfg, cfg, baseVal, baseVal, h]

/-- R441: a write of the role, of the domain or of the transport. -/
theorem applyWrite_role {i : Nat} (hi : i = 0x9000 ∨ i = 0x9001 ∨ i = 0x9006) (x : Val) (v : State) :
    applyWrite true i 0 x v = noteStored i (roleWritten (setCfg v i 0 x (datumGen v))) := by
  rcases hi with rfl | rfl | rfl <;> rfl

/-- R442: a write of the priority, of slave-only or of a port's enable. -/
theorem applyWrite_decides {i : Nat} (hi : i = 0x9002 ∨ i = 0x9003 ∨ i = 0x9004) (x : Val) (v : State) :
    applyWrite true i 0 x v = noteStored i (decidePorts (setCfg v i 0 x (datumGen v))) := by
  rcases hi with rfl | rfl | rfl <;> rfl

theorem noteStored_time (i : Nat) (s : State) : (noteStored i s).time = s.time := by
  obtain ⟨start, h⟩ := noteStored_eq i s
  rw [h]

/-- R441 to R444: the value that is written is the value that is stored. -/
theorem cfg_applyWrite {i : Nat} (hi : i = 0x9000 ∨ i = 0x9001 ∨ i = 0x9002 ∨ i = 0x9003 ∨ i = 0x9004 ∨ i = 0x9006) (n : Int) (v : State) :
    cfg (applyWrite true i 0 (.num n) v) i 0 = n := by
  have hset : ∀ t : State, t.proto.cfg = (setCfg v i 0 (.num n) (datumGen v)).proto.cfg → cfg t i 0 = n := fun t ht => by
    rw [cfg_congr ht, cfg, baseVal_setCfg]; rfl
  refine hset _ ?_
  rcases hi with h | h | h | h | h | h
  · rw [applyWrite_role (.inl h), noteStored_proto, (roleWritten_spec _).1]
  · rw [applyWrite_role (.inr (.inl h)), noteStored_proto, (roleWritten_spec _).1]
  · rw [applyWrite_decides (.inl h), noteStored_proto, decidePorts_proto]
  · rw [applyWrite_decides (.inr (.inl h)), noteStored_proto, decidePorts_proto]
  · rw [applyWrite_decides (.inr (.inr h)), noteStored_proto, decidePorts_proto]
  · rw [applyWrite_role (.inr (.inr h)), noteStored_proto, (roleWritten_spec _).1]

/-- R71: what a write of `mask` leaves of a flag. -/
theorem Flags.clear_on (now : Nat) (f : Flags) (mask : BitVec 32) {b : Nat} (hb : b < 32) :
    (f.clear now mask).on b = (f.on b && (!mask.getLsbD b || (f.setNow now).getLsbD b)) := by
  simp [Flags.on, Flags.clear, hb]

/-- The clock's objects (R441, R445, R455). -/
theorem timeWrites (dt : Nat) (r : Req) (idx sub ty k n : Nat) (s v : State) :
    (WritePasses dt r [entry 0x9000 0 ty (.num n)] k s v →
      ∃ t, exec (.timeRoleWrite dt r 0x9000 ty (.num n)) s = .next t ∧ timeRole t = n ∧ t.time.hasMaster = false ∧
        ∀ m, m < 3 → (t.ptpPort m).state = 1 ∧ (t.ptpPort m).foreign = []) ∧
    (idx ∈ [0x9001, 0x9002, 0x9003, 0x9004, 0x9006] → WritePasses dt r [entry idx 0 ty (.num n)] k s v →
      ∃ t, exec (.timeRoleWrite dt r idx ty (.num n)) s = .next t ∧ cfg t idx 0 = n) ∧
    (WritePasses dt r [entry 0x9021 sub ty (.num n)] k s v →
      ∃ t, exec (.txStampPop dt r sub ty (.num n)) s = .next t ∧ t.ptpPort sub = { v.ptpPort sub with tx := (v.ptpPort sub).tx.drop n }) ∧
    (WritePasses dt r [entry 0x9052 sub ty (.num n)] k s v →
      ∃ t, exec (.capturePop dt r sub ty (.num n)) s = .next t ∧ t.evt sub = { v.evt sub with queue := (v.evt sub).queue.drop n }) := by
  refine ⟨fun w => ?_, fun hidx w => ?_, fun w => ?_, fun w => ?_⟩
  · obtain ⟨sessions, withheld, pair, model, hexec⟩ := w.one rfl rfl
    have hrole : timeRole (applyWrite true 0x9000 0 (.num n) v) = n := by
      rw [timeRole, cfgN, cfg_applyWrite (.inl rfl), Int.toNat_natCast]
    have htime : (applyWrite true 0x9000 0 (.num n) v).time = (roleWritten (setCfg v 0x9000 0 (.num n) (datumGen v))).time := by
      rw [applyWrite_role (.inl rfl), noteStored_time]
    obtain ⟨-, hmaster, hports⟩ := roleWritten_spec (setCfg v 0x9000 0 (.num n) (datumGen v))
    rw [← htime] at hmaster
    simp only [State.ptpPort, ← htime] at hports
    exact ⟨_, hexec, hrole, hmaster, hports⟩
  · have hi : idx = 0x9000 ∨ idx = 0x9001 ∨ idx = 0x9002 ∨ idx = 0x9003 ∨ idx = 0x9004 ∨ idx = 0x9006 := .inr (by simpa using hidx)
    obtain ⟨sessions, withheld, pair, model, hexec⟩ := w.one (by rcases hi with rfl | rfl | rfl | rfl | rfl | rfl <;> rfl)
      (by rcases hi with rfl | rfl | rfl | rfl | rfl | rfl <;> rfl)
    exact ⟨_, hexec, cfg_applyWrite hi n v⟩
  · obtain ⟨sessions, withheld, pair, model, hexec⟩ := w.one rfl rfl
    exact ⟨_, hexec, State.setPtpPort_ptpPort ..⟩
  · obtain ⟨sessions, withheld, pair, model, hexec⟩ := w.one rfl rfl
    exact ⟨_, hexec, State.setEvt_evt ..⟩

/-- R71: the flags of a status word. -/
def flagsOf : FlagObj → State → Flags
  | .comm, s => s.proto.comm
  | .vsup, s => s.power.vsup
  | .enc c, s => (s.chan c).status
  | .stream m, s => (s.ring m).status
  | .txStamp m, s => (s.ptpPort m).txStatus
  | .evt m, s => (s.evt m).status
  | .output, s => s.faults.output
  | .cal, s => s.start.cal

/-- R71, R85: the flags that a write of `mask` names: an encoder's faulty bit is not among them. -/
def namedFlags : FlagObj → BitVec 32 → BitVec 32
  | .enc _, mask => mask &&& ~~~ (BitVec.ofNat 32 (2 ^ encFaulty))
  | _, mask => mask

/-- R71: a write of a status word clears the flags that it names. -/
theorem applyWrite_flags (obj : FlagObj) (n : Nat) (v : State) :
    flagsOf obj (applyWrite true (flagKey obj).1 (flagKey obj).2 (.num n) v) = (flagsOf obj v).clear v.time.now (namedFlags obj (BitVec.ofNat 32 n)) := by
  rw [← BitVec.ofInt_natCast]
  cases obj with
  | comm => rfl
  | vsup => rfl
  | enc c => exact congrArg EncChan.status (State.setChan_chan v c _)
  | stream m => exact congrArg Ring.status (State.setRing_ring v m _)
  | txStamp m => exact congrArg PtpPort.txStatus (State.setPtpPort_ptpPort v m _)
  | evt m => exact congrArg Evt.status (State.setEvt_evt v m _)
  | output => rfl
  | cal => rfl

theorem aliasWrite_flagKey (obj : FlagObj) (x : Val) : aliasWrite (flagKey obj).1 x = some x ∧ aliasTarget (flagKey obj).1 = (flagKey obj).1 := by
  cases obj <;> exact ⟨rfl, rfl⟩

/-- What a WRITE changes beside its entries has no part in a status word. -/
theorem flagsOf_exchanged (obj : FlagObj) (s : State) (sessions : Tab Session) (withheld : List Withheld) (pair : Tandem) (model : Model) :
    flagsOf obj (s.exchanged sessions withheld pair model) = flagsOf obj s := by
  cases obj <;> rfl

/-- Settles O12: the clock's objects by `timeWrites`, the status words by `applyWrite_flags`. -/
theorem timeAndStatusWritesTakeEffect : Obligations.TimeAndStatusWritesTakeEffect := by
  refine ⟨timeWrites, fun dt r obj ty k n s v f mask of passes hof hf => ?_⟩
  obtain ⟨hflags, hmask⟩ : (∀ x, of x = flagsOf obj x) ∧ mask = namedFlags obj (BitVec.ofNat 32 n) := by
    cases obj <;> (obtain ⟨rfl, rfl⟩ := Prod.mk.inj hof; exact ⟨fun _ => rfl, rfl⟩)
  obtain ⟨halias, htarget⟩ := aliasWrite_flagKey obj (.num n)
  obtain ⟨sessions, withheld, pair, model, hexec⟩ := passes.one halias htarget
  refine ⟨_, hexec, ?_⟩
  rw [hflags, flagsOf_exchanged, applyWrite_flags, hf, hflags, hmask]
  exact ⟨rfl, fun b hb => Flags.clear_on _ _ _ hb⟩

/-! ### CHECK and COMMIT (R59, R61 to R63) -/

/-! Accepting a commit (R276, R287, R550) -/

theorem setEngine_books (s : State) (k : Nat) (x : Engine) : BooksKept s (s.setEngine k x) := .same rfl

theorem updateCapacity_books (s : State) : BooksKept s (updateCapacity s) := by
  unfold updateCapacity
  extract_lets c top screen published raised faulted
  split
  · exact .refl s
  · have hraised : BooksKept s raised := (raise_books _ _ _ published _ _ _).trans (.same rfl)
    have hfaulted : BooksKept raised faulted := ite_books (addFault_one_books ..) (.refl raised)
    exact (limitChanged_books _).trans (hfaulted.trans hraised)

theorem runFaults_books (s : State) : BooksKept s (runFaults s) :=
  forAll_books (fun _ t => ite_books (.refl t) (causeGone_books ..)) _ s

theorem runAssignment_books (L : Int) (s : State) : BooksKept s (runAssignment L s) := by
  unfold runAssignment
  extract_lets e plan freed screen cleared numbered placed faultless capacity
  have hfreed : BooksKept s freed := forAll_books (fun k t => setEngine_books t k _) _ s
  have hplaced : BooksKept cleared placed := forAll_books (fun _ t => setEngine_books t _ _) _ cleared
  have hfaultless : BooksKept placed faultless := forAll_books (fun k t => causeGone_books ..) _ placed
  have hcapacity : BooksKept s capacity :=
    (updateCapacity_books _).trans (hfaultless.trans (hplaced.trans (BooksKept.trans (t := freed) (.same rfl) hfreed)))
  exact (ite_books (.refl capacity) (causeGone_books ..)).trans hcapacity

theorem reportStates_books (old : State) (c : Commit) (s : State) : BooksKept s (reportStates old c s) := by
  unfold reportStates
  refine forAll_books (fun h t => ?_) _ s
  dsimp only
  split
  · exact .refl t
  · exact ev_books ..

theorem reportUncovered_books (old : State) (c : Commit) (s : State) : BooksKept s (reportUncovered old c s) := by
  unfold reportUncovered
  split
  · exact .refl s
  · extract_lets planes runs reported
    have hreported : BooksKept s reported := forAll_books (fun r t => ev_books ..) _ s
    exact (ite_books (ev_books ..) (.refl reported)).trans hreported

theorem acceptAction_books (a : Option Nat) (L : Int) (s : State) : BooksKept s (acceptAction a L s) := by
  unfold acceptAction
  split
  · exact .same rfl
  · exact .refl s

/-- R62 to R64: an accepted commit joins the commits with its generation and its line, and nothing else of the books changes. -/
theorem acceptCommit_books (c : Commit) (ws : List ObjWrite) (s : State) : ∃ full, full.gen = c.gen ∧ full.line = c.line ∧ full.passed = c.passed ∧
    BooksKept (withCommit s full) (acceptCommit c ws s) := by
  unfold acceptCommit
  extract_lets old from' a acted full accepted pages gait paged noz dirty noz' planted reported ran
  have hacted : BooksKept s acted := acceptAction_books a c.line s
  have haccepted : BooksKept (withCommit s full) accepted :=
    ⟨⟨hacted.ports, hacted.tickReqs⟩, hacted.handles, hacted.withheld, congrArg (· ++ [full]) hacted.commits⟩
  have hpaged : BooksKept accepted paged := ite_books (.refl accepted) (.same rfl)
  have hplanted : BooksKept accepted planted := BooksKept.trans (t := paged) (.same rfl) hpaged
  have hreported : BooksKept planted reported := (reportUncovered_books ..).trans (reportStates_books ..)
  have hran : BooksKept reported ran :=
    ite_books (ite_books ((runAssignment_books _ _).trans (runFaults_books _)) (runFaults_books _)) (.refl reported)
  have hkept := (mirror_books (.commit full []) _).trans (hran.trans (hreported.trans (hplanted.trans haccepted)))
  obtain ⟨hgen, hline, hpassed⟩ : full.gen = c.gen ∧ full.line = c.line ∧ full.passed = c.passed := by
    simp only [full]
    split
    · exact ⟨rfl, rfl, rfl⟩
    · exact ⟨rfl, rfl, rfl⟩
  exact ⟨full, hgen, hline, hpassed, hkept⟩

/-- R62: a COMMIT that is judged to pass is accepted, and the set is empty again. -/
theorem runCommit_passes {k target : Nat} {lpos L : Int} {src : BitVec 16} {v : State}
    (h : judgeCommit (wakeForJob k v) ((wakeForJob k v).sess k).staging target lpos src = .passes L) :
    ∃ w, runCommit k target lpos src v = { resp := some ⟨0x05, 0x0002, .accepted (nextGen (wakeForJob k v).proto.gen) L⟩, state := w } ∧
      (w.sess k).staging = [] ∧ ∃ c ∈ w.proto.commits, c.gen = nextGen (wakeForJob k v).proto.gen ∧ c.line = L ∧ c.passed = false := by
  unfold runCommit
  dsimp only
  rw [h]
  refine ⟨_, rfl, by rw [State.setSess_sess], ?_⟩
  obtain ⟨full, hgen, hline, hpassed, hkept⟩ := acceptCommit_books
    (commitOf (wakeForJob k v) L ((wakeForJob k v).sess k).staging (stagedNozzles ((wakeForJob k v).sess k).staging) false 0 src target)
    ((wakeForJob k v).sess k).staging (wakeForJob k v)
  exact ⟨full, hkept.commits ▸ List.mem_append_right _ List.mem_cons_self, hgen, hline, hpassed⟩

/-- R65: the oldest generation that has passed is noticed, and its notice goes to the subscribers. -/
theorem commitNoticeStep_some {s : State} {c : Commit} (h : s.proto.commits.find? (fun x => x.passed && !x.noticed) = some c) :
    ∃ rec, commitNoticeStep s = broadcast rec
      { s with proto := { s.proto with commits := s.proto.commits.map (fun x => if x.gen = c.gen then { x with noticed := true } else x) } } := by
  unfold commitNoticeStep
  rw [h]
  exact ⟨_, rfl⟩

theorem commitNoticeStep_none {s : State} (h : s.proto.commits.find? (fun x => x.passed && !x.noticed) = none) : commitNoticeStep s = s := by
  unfold commitNoticeStep
  rw [h]

/-- Settles O14: CHECK by its verdicts; COMMIT by `runCommit_passes`; notices and the device's own commits by their steps. -/
theorem checkAndCommit : Obligations.CheckAndCommit := by
  refine ⟨fun dt r k s u served hrole => ?_, fun dt r target lpos k s u v L served hlead hrole harb hfirst hpasses => ?_, fun dt s => ⟨fun c hc => ?_,
    fun hnone => ?_, fun d hlead hready => ?_, fun hidle => ?_⟩⟩
  · have answers : ∀ resp, runCheck r k u = { resp := some resp, state := u } → ∃ t, exec (.check dt r) s = .next t ∧ Quiet u t ∧
        (t.sess k).staging = (u.sess k).staging ∧ Answered k r resp t := fun resp hrun =>
      ⟨_, served_replies served ((needsRole_of_le hrole).trans hrun), reply_quiet .., reply_staging .., reply_answered ..⟩
    cases hj : judgeCheck u (u.sess k).staging r.src with
    | refused c => exact answers ⟨0x04, c, .none⟩ (by simp only [runCheck, hj, refuse])
    | failed f => exact answers ⟨0x04, 0x0405, .failures f.length (f.take 32)⟩ (by simp only [runCheck, hj])
    | passes L => exact answers ⟨0x04, 0, .none⟩ (by simp only [runCheck, hj, refuse])
  · obtain ⟨w, hrun, hstaging, hcommit⟩ := runCommit_passes hpasses
    have htake : runCommitRequest r target lpos k u = runCommit k target lpos r.src v := by
      rw [runCommitRequest, if_neg (by rw [hlead]; decide), needsRole_of_le hrole, takeCommitRequest, harb]
      exact if_neg (by rw [hfirst]; decide)
    have hreq : ok (request dt r 0x05 (runCommitRequest r target lpos) s) = _ := served_replies served (htake.trans hrun)
    refine ⟨request dt r 0x05 (runCommitRequest r target lpos) s, rfl, ?_⟩
    injection hreq with hreq
    rw [hreq]
    refine ⟨reply_answered .., (reply_staging ..).trans hstaging, ?_⟩
    rw [id, (reply_quiet ..).proto]
    exact hcommit
  · obtain ⟨rec, hstep⟩ := commitNoticeStep_some (s := tick dt s) hc
    refine ⟨_, congrArg ok hstep, ?_, (broadcast_quiet ..).gait, (broadcast_quiet ..).noz⟩
    rw [(broadcast_books ..).commits]; rfl
  · exact ⟨_, congrArg ok (commitNoticeStep_none (s := tick dt s) hnone), rfl⟩
  · refine ⟨_, ?_, rfl⟩
    have hstep : deviceCommitStep (tick dt s) = commitChange d (tick dt s) := by
      have hlead' : holdsLead (tick dt s) = true := hlead
      have hready' : (tick dt s).proto.waiting.find? (changeReady (tick dt s)) = some d := hready
      rw [deviceCommitStep, if_neg (by rw [hlead']; decide), hready']
    exact congrArg ok hstep
  · have hstep : deviceCommitStep (tick dt s) = tick dt s := by
      unfold deviceCommitStep
      split
      · rfl
      next hlead =>
        have hholds : holdsLead (tick dt s) = true := by simpa using hlead
        have hnone : (tick dt s).proto.waiting.find? (changeReady (tick dt s)) = none := by
          refine List.find?_eq_none.mpr fun d hd => ?_
          rcases hidle with h | h
          · exact absurd (hholds.symm.trans h) (by decide)
          · rw [h d hd]; decide
        rw [hnone]
    exact ⟨_, congrArg ok hstep, rfl, rfl⟩

/-! ### Received frames that run nothing (R40 to R45, R139 to R142) -/

/-! The return from Idle that a COMMIT may bring about (R511) -/

theorem setRow_books (s : State) (n : Nat) (x : Row) : BooksKept s (s.setRow n x) := .same rfl
theorem setRing_books (s : State) (n : Nat) (x : Ring) : BooksKept s (s.setRing n x) := .same rfl

theorem setScreen_books (s : State) (z : Screen) : BooksKept s { s with screen := z } := .same rfl

theorem predictRow_books (u : Nat) (s : State) : BooksKept s (predictRow u s) := by
  unfold predictRow
  extract_lets r now fixed L e F su tu _ atOnce
  have hnow : BooksKept s atOnce := .same rfl
  refine ite_books (.refl s) (ite_books (.same rfl) (ite_books (.same rfl) (ite_books hnow ?_)))
  split
  · exact .same rfl
  · exact ite_books hnow (.same rfl)

theorem enterActive_books (h : Nat) (s : State) : BooksKept s (enterActive h s) := by
  unfold enterActive replaceLines
  extract_lets restarted
  have hrestarted : BooksKept s restarted := forAll_books (fun _ t => setRow_books t _ _) _ s
  exact (forAll_books predictRow_books _ _).trans (BooksKept.trans (t := restarted) (.same rfl) hrestarted)

theorem laneWake_books (h reason : Nat) (s : State) : BooksKept s (laneWake h reason s) := by
  unfold laneWake
  exact ite_books ((enterActive_books h _).trans (.same rfl)) (ite_books (.same rfl) (.refl s))

theorem restartRegions_books (s : State) : BooksKept s (restartRegions s) := by
  unfold restartRegions
  extract_lets rings screen cleared
  have hrings : BooksKept s rings := forAll_books (fun _ t => setRing_books t _ _) _ s
  refine (forAll_books (fun k t => ?_) _ _).trans ((setScreen_books rings _).trans hrings)
  dsimp only
  split
  · exact setEngine_books t k _
  · exact .refl t

theorem resumeRows_books (s : State) : BooksKept s (resumeRows s) :=
  forAll_books (fun _ t => ite_books (setRow_books t _ _) (.refl t)) _ s

theorem stateEvent_books (st src : Nat) (s : State) : BooksKept s (stateEvent st src s) :=
  ite_books (raise_books ..) (.same rfl)

theorem returnToRun_books (src : Nat) (s : State) : BooksKept s (returnToRun src s) := by
  unfold returnToRun
  split
  · exact .refl s
  · extract_lets asked power running woken
    have hasked : BooksKept s asked := ite_books (sendRecord_books _ s) (.refl s)
    have hwoken : BooksKept running woken := forAll_books (fun h t => ite_books (laneWake_books h 2 t) (.refl t)) _ running
    exact (resumeRows_books _).trans ((restartRegions_books _).trans ((stateEvent_books 0 src _).trans
      (hwoken.trans (BooksKept.trans (t := asked) (.same rfl) hasked))))

theorem wakeForJob_books (k : Nat) (s : State) : BooksKept s (wakeForJob k s) := ite_books (returnToRun_books 0xFF s) (.refl s)

/-! Requests and the COMMITs that are held for them (R59, R62) -/

theorem setSess_frame (s : State) (n : Nat) (x : Session) (h : x.tickReqs = (s.sess n).tickReqs) : FrameKept s (s.setSess n x) :=
  (setSess_books s n x h).toFrameKept

theorem forAll_frame {α : Type} {f : α → State → State} (h : ∀ a s, FrameKept s (f a s)) (l : List α) (s : State) : FrameKept s (forAll l f s) :=
  forAll_induct (P := FrameKept s) (fun a t c => (h a t).trans c) l s (.refl s)

theorem reply_frame (k n first : Nat) (resp : Response) (s : State) : FrameKept s (reply k n first resp s) := by
  unfold reply
  split
  · exact ⟨rfl, fun _ => rfl⟩
  · exact (emit_books ..).toFrameKept.trans (setSess_frame s k _ rfl)

theorem acceptCommit_frame (c : Commit) (ws : List ObjWrite) (s : State) : FrameKept s (acceptCommit c ws s) := by
  obtain ⟨full, -, -, -, hkept⟩ := acceptCommit_books c ws s
  exact hkept.toFrameKept.trans ⟨rfl, fun _ => rfl⟩

theorem runCommit_frame (k target : Nat) (lpos : Int) (src : BitVec 16) (s : State) :
    FrameKept s (runCommit k target lpos src s).state ∧ (runCommit k target lpos src s).after = id := by
  have hwoken := (wakeForJob_books k s).toFrameKept
  unfold runCommit
  extract_lets woken ws
  split
  · exact ⟨hwoken, rfl⟩
  · exact ⟨hwoken, rfl⟩
  · extract_lets c accepted
    have haccepted : FrameKept woken accepted := acceptCommit_frame c ws woken
    refine ⟨.trans ?_ (haccepted.trans hwoken), rfl⟩
    exact setSess_frame accepted k { accepted.sess k with staging := [] } rfl

/-- An answer with no effect after its response. -/
theorem settle_frame {s : State} {a : Answer} (k n first : Nat) (h : FrameKept s a.state) (hafter : a.after = id) :
    FrameKept s (settle k n first a) := by
  unfold settle
  rw [hafter]
  split
  · exact (reply_frame ..).trans h
  · exact h

theorem runHeld_frame (h : HeldCommit) (s : State) : FrameKept s (runHeld h s) := by
  unfold runHeld
  split
  · exact .refl s
  · obtain ⟨hstate, hafter⟩ := runCommit_frame h.slot h.target h.lpos h.src s
    exact settle_frame _ _ _ hstate hafter

theorem flushHeld_frame (pick : HeldCommit → Bool) (s : State) : FrameKept s (flushHeld pick s) := by
  unfold flushHeld
  exact (forAll_frame runHeld_frame _ _).trans ⟨rfl, fun _ => rfl⟩

/-! Messages (R41 to R46) -/

theorem serveRequest_ports (k : Nat) (r : Req) (op code : Nat) (recovery : Bool) (s : State) :
    (serveRequest k r op recovery (fun _ s => refuse op code s) s).ports = s.ports := by
  unfold serveRequest
  extract_lets flushed proto served a
  have hflushed : flushed.ports = s.ports := (flushHeld_frame _ _).ports
  have hanswer : ∃ c, a = refuse op c served := by
    simp only [a]
    split
    · exact ⟨_, rfl⟩
    · split
      · exact ⟨_, rfl⟩
      · exact ⟨_, rfl⟩
  obtain ⟨c, hanswer⟩ := hanswer
  rw [hanswer]
  exact (reply_quiet k r.seq.toNat _ ⟨op, c, .none⟩ served).ports.trans hflushed

theorem sessionMessage_ports (k : Nat) (r : Req) (op code : Nat) (recovery : Bool) (s : State) :
    (sessionMessage k r op recovery (fun _ s => refuse op code s) s).ports = s.ports := by
  unfold sessionMessage
  extract_lets x heard y n
  split
  · rfl
  · split
    · rfl
    · split
      · split
        · rfl
        · rfl
      · exact serveRequest_ports ..

/-- R142: a message that does not run leaves the ports' counts to the frame. -/
theorem discardMessage_ports (f : RxFrame) (s : State) : (discardMessage f s).ports = s.ports := by
  unfold discardMessage
  extract_lets h r plain bcast
  have hstray : (strayRequest r h.opcode s).ports = s.ports := by
    unfold strayRequest
    split <;> rfl
  have hheard : (heard r s).ports = s.ports := by
    unfold heard
    split <;> rfl
  split
  · rfl
  · split
    · rfl
    · split
      · split <;> rfl
      · split
        · exact hstray
        · split
          · rfl
          · split
            · split
              · exact sessionMessage_ports ..
              · rfl
            · split
              · rfl
              · split
                · exact hheard
                · rfl

theorem noteSeq_tickReqs (k n : Nat) (s : State) :
    ((noteSeq k n s).sess k).tickReqs = if (s.sess k).reqTick = tickNow s then (s.sess k).tickReqs + 1 else 1 := by
  rw [noteSeq, State.setSess_sess]

/-- R44, R54: a new request of a session whose tick has room runs, in recovery mode as well. -/
theorem sessionMessage_runs {k : Nat} {r : Req} {op : Nat} {f : Nat → State → Answer} {s : State} (hown : r.seq.getLsbD 63 = false)
    (hhigh : ¬r.seq.toNat + 64 < (s.sess k).highSeq) (hseen : (s.sess k).seen.contains r.seq.toNat = false)
    (hroom : (if (s.sess k).reqTick = tickNow s then (s.sess k).tickReqs + 1 else 1) ≤ 32) :
    ∃ first v, sessionMessage k r op true f s = settle k r.seq.toNat first (f k v) := by
  unfold sessionMessage
  extract_lets x heard y n
  have hy : y = { s.sess k with lastHeard := s.time.now, peer := r.peer } := State.setSess_sess _ _ _
  rw [if_neg (by rw [hown]; decide), if_neg (by rw [hy]; exact hhigh), if_neg (by rw [hy, hseen]; decide)]
  unfold serveRequest
  extract_lets flushed proto served a
  have hnoted : ((noteSeq k r.seq.toNat heard).sess k).tickReqs = if (s.sess k).reqTick = tickNow s then (s.sess k).tickReqs + 1 else 1 := by
    rw [noteSeq_tickReqs, show heard.sess k = _ from hy]; rfl
  have hreqs : (served.sess k).tickReqs ≤ 32 := by
    have hflushed : (flushed.sess k).tickReqs = _ := (flushHeld_frame _ (noteSeq k r.seq.toNat heard)).tickReqs k
    rw [hnoted] at hflushed
    exact hflushed ▸ hroom
  have ha : a = f k served := by
    simp only [a]
    rw [if_neg (Nat.not_lt.mpr hreqs), if_neg (by simp [barred])]
  exact ⟨_, _, by rw [ha]⟩

/-- R44, R54: what makes a request of a session a new one whose tick has room. -/
theorem Served.fresh_spec {dt k : Nat} {r : Req} {recovery : Bool} {s u : State} (h : Served dt r recovery k s u) :
    openSlot s r.sess = some k ∧ r.seq.getLsbD 63 = false ∧ ¬r.seq.toNat + 64 < (s.sess k).highSeq ∧ (s.sess k).seen.contains r.seq.toNat = false ∧
      (if (s.sess k).reqTick = tickNow (tick dt s) then (s.sess k).tickReqs + 1 else 1) ≤ 32 := by
  obtain ⟨-, hfresh, hstate, hroom, -⟩ := h
  have hslot : openSlot s r.sess = some k ∧ ¬(r.seq.getLsbD 63 || decide (r.seq.toNat + 64 < (s.sess k).highSeq) ||
      (s.sess k).seen.contains r.seq.toNat) = true := by
    unfold freshSlot at hfresh
    split at hfresh
    · cases hfresh
    next j hopen =>
      dsimp only at hfresh
      split at hfresh
      · cases hfresh
      next hnew =>
        cases hfresh
        exact ⟨hopen, hnew⟩
  obtain ⟨hopen, hnew⟩ := hslot
  simp only [Bool.or_eq_true, decide_eq_true_eq, not_or, Bool.not_eq_true] at hnew
  obtain ⟨⟨hown, hhigh⟩, hseen⟩ := hnew
  refine ⟨hopen, hown, hhigh, hseen, ?_⟩
  let counted := frameIn r.peer (tick dt s)
  let heard := counted.setSess k { counted.sess k with lastHeard := counted.time.now, peer := r.peer }
  have hflushed : (u.sess k).tickReqs = ((noteSeq k r.seq.toNat heard).sess k).tickReqs := by
    rw [hstate]
    exact (flushHeld_frame _ (noteSeq k r.seq.toNat heard)).tickReqs k
  have hheard : heard.sess k = { s.sess k with lastHeard := s.time.now + dt, peer := r.peer } := by
    simp only [heard, counted, State.setSess_sess, frameIn_sess, frameIn_time, tick_sess, tick_now]
  have htick : tickNow heard = tickNow (tick dt s) := by
    have htime : heard.time = (tick dt s).time := frameIn_time r.peer (tick dt s)
    simp only [tickNow, devTime, htime]
  rw [hflushed, noteSeq_tickReqs, hheard, htick] at hroom
  exact hroom

/-! Frames (R139 to R142) -/

theorem countPort_port_ne {p : Port} {m : Nat} (h : m ≠ portNum p) (i : Nat) (s : State) : (countPort p i s).port m = s.port m :=
  State.setPort_port_ne _ _ _ _ h

theorem countPort_stats_ne {i j : Nat} (h : j ≠ i) (p : Port) (s : State) :
    tget 0 ((countPort p i s).port (portNum p)).stats j = tget 0 (s.port (portNum p)).stats j := by
  rw [countPort, State.setPort_port, tinc, tmod, tget_tput_ne h]

/-- A frame of port `p` has counted in these elements of the port's statistics, and nowhere else. -/
def Counted (p : Port) (is : List Nat) (s t : State) : Prop := t.ports = (forAll is (countPort p) s).ports

theorem Counted.port_ne {p : Port} {is : List Nat} {s t : State} (h : Counted p is s t) {m : Nat} (hm : m ≠ portNum p) : t.port m = s.port m := by
  rw [State.port, h]
  exact forAll_induct (P := fun t => t.port m = s.port m) (fun i t ht => (countPort_port_ne hm i t).trans ht) is s rfl

theorem Counted.stats_ne {p : Port} {is : List Nat} {s t : State} (h : Counted p is s t) {j : Nat} (hj : j ∉ is) :
    tget 0 (t.port (portNum p)).stats j = tget 0 (s.port (portNum p)).stats j := by
  rw [State.port, h]
  refine forAll_induct_mem (P := fun t => tget 0 (t.port (portNum p)).stats j = tget 0 (s.port (portNum p)).stats j) is (fun i hi t ht => ?_) s rfl
  have hji : j ≠ i := fun e => hj (by rwa [e])
  rw [countPort_stats_ne hji, ht]

theorem frameIn_counted (p : Peer) (s : State) : Counted p.port [0] s (frameIn p s) := by
  unfold frameIn
  dsimp only
  split
  · rfl
  · rfl

theorem framePeer_port (f : RxFrame) : (framePeer f).port = f.port := by
  unfold framePeer
  split <;> rfl

/-- R139, R142: more than one tag, or longer than the longest frame. -/
def LongFrame (f : RxFrame) : Prop := 1 < f.tags.length ∨ (if f.tags.isEmpty then 9018 else 9022) < f.length

section
variable {f : RxFrame} (s : State)

theorem discardFrame_badFcs (h : f.fcsOk = false) : discardFrame f s = countPort f.port 1 s := if_pos (by rw [h]; rfl)

theorem discardFrame_long (h : f.fcsOk = true) (hlong : LongFrame f) : discardFrame f s = countPort f.port 4 (countPort f.port 0 s) :=
  (if_neg (by rw [h]; decide)).trans (if_pos hlong)

theorem discardFrame_control (h : f.fcsOk = true) (hlong : ¬LongFrame f) (hmac : f.etherType = 0x8808) :
    discardFrame f s = countPort f.port 5 (countPort f.port 0 s) :=
  (if_neg (by rw [h]; decide)).trans ((if_neg hlong).trans (if_pos hmac))

theorem discardFrame_filtered (h : f.fcsOk = true) (hlong : ¬LongFrame f) (hmac : f.etherType ≠ 0x8808)
    (hfilter : passesFilter s (peerNum (framePeer f)) f = false) : discardFrame f s = countPort f.port 0 s :=
  (if_neg (by rw [h]; decide)).trans ((if_neg hlong).trans ((if_neg hmac).trans (if_pos (by rw [hfilter]; rfl))))

theorem discardFrame_sorted (h : f.fcsOk = true) (hlong : ¬LongFrame f) (hmac : f.etherType ≠ 0x8808)
    (hfilter : passesFilter s (peerNum (framePeer f)) f = true) : discardFrame f s = match sortFrame s f with
      | .other => countPort f.port 6 (countPort f.port 0 s)
      | .kind => if hears s (framePeer f) then commFlag 2 (countPort f.port 0 s) else countPort f.port 0 s
      | .objects => if hears s (framePeer f) then discardMessage f (frameIn (framePeer f) s) else countPort f.port 0 s
      | .stream | .time | .responder => countPort f.port 0 s := by
  refine (if_neg (by rw [h]; decide)).trans ((if_neg hlong).trans ((if_neg hmac).trans ((if_neg (by rw [hfilter]; decide)).trans ?_)))
  cases sortFrame s f <;> rfl

/-- R142: no frame counts in the elements of the codewords. -/
theorem discardFrame_counted (f : RxFrame) : ∃ is, 2 ∉ is ∧ 3 ∉ is ∧ Counted f.port is s (discardFrame f s) := by
  by_cases h : f.fcsOk = true
  case neg => exact ⟨[1], by decide, by decide, by rw [discardFrame_badFcs s (by simpa using h)]; rfl⟩
  by_cases hlong : LongFrame f
  case pos => exact ⟨[0, 4], by decide, by decide, by rw [discardFrame_long s h hlong]; rfl⟩
  by_cases hmac : f.etherType = 0x8808
  case pos => exact ⟨[0, 5], by decide, by decide, by rw [discardFrame_control s h hlong hmac]; rfl⟩
  by_cases hfilter : passesFilter s (peerNum (framePeer f)) f = true
  case neg => exact ⟨[0], by decide, by decide, by rw [discardFrame_filtered s h hlong hmac (by simpa using hfilter)]; rfl⟩
  rw [discardFrame_sorted s h hlong hmac hfilter]
  split
  · exact ⟨[0, 6], by decide, by decide, rfl⟩
  · refine ⟨[0], by decide, by decide, ?_⟩
    split <;> rfl
  · refine ⟨[0], by decide, by decide, ?_⟩
    split
    · have hcounted := frameIn_counted (framePeer f) s
      rw [framePeer_port] at hcounted
      exact (discardMessage_ports f _).trans hcounted
    · rfl
  all_goals exact ⟨[0], by decide, by decide, rfl⟩
end

/-! What the codewords of a port leave alone -/

theorem countCodewords_eq (n : Nat) (fec : Codewords) (s : State) : ∃ ports, countCodewords n fec s = { s with ports := ports } := by
  unfold countCodewords
  split
  · exact ⟨_, rfl⟩
  · exact ⟨_, rfl⟩

theorem countCodewords_port_ne {n m : Nat} (h : m ≠ n) (fec : Codewords) (s : State) : (countCodewords n fec s).port m = s.port m := by
  unfold countCodewords
  split
  · rfl
  · exact State.setPort_port_ne _ _ _ _ h

theorem countCodewords_stats_ne {i : Nat} (h2 : i ≠ 2) (h3 : i ≠ 3) (n : Nat) (fec : Codewords) (s : State) :
    tget 0 ((countCodewords n fec s).port n).stats i = tget 0 (s.port n).stats i := by
  unfold countCodewords
  split
  · rfl
  · rw [State.setPort_port, tmod, tmod, tget_tput_ne h3, tget_tput_ne h2]

theorem countCodewords_stats {n : Nat} (hn : n ≠ 2) (fec : Codewords) (s : State) :
    tget 0 ((countCodewords n fec s).port n).stats 2 = tget 0 (s.port n).stats 2 + BitVec.ofNat 64 fec.fixed ∧
      tget 0 ((countCodewords n fec s).port n).stats 3 = tget 0 (s.port n).stats 3 + BitVec.ofNat 64 fec.bad := by
  rw [countCodewords, if_neg hn, State.setPort_port]
  dsimp only
  rw [tmod, tmod, tget_tput_ne (by decide), tget_tput_self, tget_tput_self, tget_tput_ne (by decide)]
  exact ⟨rfl, rfl⟩

/-- The address filter, the sorting and the guard of the object server look at no port's counts. -/
theorem passesFilter_ports (s : State) (ports : Tab NetPort) (n : Nat) (f : RxFrame) :
    passesFilter { s with ports := ports } n f = passesFilter s n f := rfl

theorem sortFrame_ports (s : State) (ports : Tab NetPort) (f : RxFrame) : sortFrame { s with ports := ports } f = sortFrame s f := rfl

theorem hears_ports (s : State) (ports : Tab NetPort) (p : Peer) : hears { s with ports := ports } p = hears s p := rfl

section
variable {dt : Nat} {f : RxFrame} {fec : Codewords} {s : State}

/-- The state in which a frame is looked at: time has passed, and its port's codewords are counted. -/
def frameState (dt : Nat) (f : RxFrame) (fec : Codewords) (s : State) : State := countCodewords (peerNum (framePeer f)) fec (tick dt s)

theorem frameState_eq (dt : Nat) (f : RxFrame) (fec : Codewords) (s : State) : ∃ ports, frameState dt f fec s = { tick dt s with ports := ports } :=
  countCodewords_eq (peerNum (framePeer f)) fec (tick dt s)

theorem exec_frameDiscard (hruns : receiverRuns s = true) (hup : s.power.down = false) (hreset : s.faults.resetN = false) :
    exec (.frameDiscard dt f fec) s = .next (discardFrame f (frameState dt f fec s)) := by
  have hguard : (receiverRuns (tick dt s) && !(tick dt s).power.down && !(tick dt s).faults.resetN) = true := by
    rw [show receiverRuns (tick dt s) = true from hruns, tick_power, tick_faults, hup, hreset]; rfl
  change execFrameDiscard dt f fec s = _
  unfold execFrameDiscard
  exact guardOk_of hguard _ _

theorem frameState_proto : (frameState dt f fec s).proto = s.proto := by
  obtain ⟨ports, h⟩ := frameState_eq dt f fec s
  rw [h]; rfl

theorem frameState_now : (frameState dt f fec s).time.now = s.time.now + dt := by
  obtain ⟨ports, h⟩ := frameState_eq dt f fec s
  rw [h]; rfl

theorem frameState_passesFilter (n : Nat) : passesFilter (frameState dt f fec s) n f = passesFilter s n f := by
  obtain ⟨ports, h⟩ := frameState_eq dt f fec s
  rw [h]; exact passesFilter_ports ..

theorem frameState_sortFrame : sortFrame (frameState dt f fec s) f = sortFrame s f := by
  obtain ⟨ports, h⟩ := frameState_eq dt f fec s
  rw [h]; exact sortFrame_ports ..

theorem frameState_hears (p : Peer) : hears (frameState dt f fec s) p = hears (tick dt s) p := by
  obtain ⟨ports, h⟩ := frameState_eq dt f fec s
  rw [h]; exact hears_ports ..

theorem frameState_ownNode : ownNode (frameState dt f fec s) = ownNode s := by
  obtain ⟨ports, h⟩ := frameState_eq dt f fec s
  rw [h]; rfl

theorem peerNum_framePeer (f : RxFrame) : peerNum (framePeer f) = portNum f.port := by rw [peerNum_eq, framePeer_port]

/-- A frame that is received counts once. -/
theorem frameState_counted : tget 0 ((countPort f.port 0 (frameState dt f fec s)).port (portNum f.port)).stats 0 =
    tget 0 (s.port (portNum f.port)).stats 0 + 1 := by
  rw [countPort_stats, ← peerNum_framePeer, frameState, countCodewords_stats_ne (by decide) (by decide)]; rfl

/-- A frame that is received and discarded counts among both. -/
theorem frameState_counted_also {i : Nat} (h0 : i ≠ 0) (h2 : i ≠ 2) (h3 : i ≠ 3) :
    tget 0 ((countPort f.port i (countPort f.port 0 (frameState dt f fec s))).port (portNum f.port)).stats 0 = tget 0 (s.port (portNum f.port)).stats 0 + 1 ∧
      tget 0 ((countPort f.port i (countPort f.port 0 (frameState dt f fec s))).port (portNum f.port)).stats i =
        tget 0 (s.port (portNum f.port)).stats i + 1 := by
  constructor
  · rw [countPort_stats_ne (Ne.symm h0), frameState_counted]
  · rw [countPort_stats, countPort_stats_ne h0, ← peerNum_framePeer, frameState, countCodewords_stats_ne h2 h3]; rfl

theorem countPort_proto (p : Port) (i : Nat) (s : State) : (countPort p i s).proto = s.proto := rfl

/-- R142: what every frame leaves of the ports: the others as they were, and its own with its codewords. -/
theorem discardFrame_ports : (∀ m, m ≠ portNum f.port → (discardFrame f (frameState dt f fec s)).port m = s.port m) ∧
    (portNum f.port ≠ 2 →
      tget 0 ((discardFrame f (frameState dt f fec s)).port (portNum f.port)).stats 2 = tget 0 (s.port (portNum f.port)).stats 2 + BitVec.ofNat 64 fec.fixed ∧
      tget 0 ((discardFrame f (frameState dt f fec s)).port (portNum f.port)).stats 3 =
        tget 0 (s.port (portNum f.port)).stats 3 + BitVec.ofNat 64 fec.bad) := by
  obtain ⟨is, hfixed, hbad, hcounted⟩ := discardFrame_counted (frameState dt f fec s) f
  refine ⟨fun m hm => ?_, fun hn => ?_⟩
  · rw [hcounted.port_ne hm, frameState, countCodewords_port_ne (by rwa [peerNum_framePeer])]; rfl
  · rw [hcounted.stats_ne hfixed, hcounted.stats_ne hbad, frameState, peerNum_framePeer]
    exact countCodewords_stats hn fec (tick dt s)

/-- R41: a message of another length than its header says is malformed. -/
theorem discardMessage_malformed {s : State} (h : lengthAgrees f (headerOf f.payload) = false) : discardMessage f s = commFlag 2 s :=
  if_pos (by rw [h]; rfl)

theorem commFlag_proto {s t : State} (b : Nat) (h : t.proto = s.proto) : (commFlag b t).proto = { s.proto with comm := s.proto.comm.set t.time.now b } := by
  rw [← h]; rfl

/-- R42: a message for another node is passed over. -/
theorem discardMessage_foreign {s : State} (hlen : lengthAgrees f (headerOf f.payload) = true) (hbcast : (headerOf f.payload).flags.getLsbD flagBcast = false)
    (hdst : (headerOf f.payload).dst ≠ ownNode s) : discardMessage f s = s :=
  (if_neg (by rw [hlen]; decide)).trans (if_pos (by rw [hbcast]; simpa using hdst))

/-- R43: a message whose tag does not verify. -/
theorem discardMessage_unauthenticated {s : State} (hlen : lengthAgrees f (headerOf f.payload) = true)
    (hours : (headerOf f.payload).flags.getLsbD flagBcast = true ∨ (headerOf f.payload).dst = ownNode s)
    (hplain : (headerOf f.payload).flags.getLsbD flagPlain = false) (hslot : (slotOf s (headerOf f.payload).sess).isSome = true) (htag : f.tagOk = false) :
    discardMessage f s = commFlag 0 s := by
  have hnone : (slotOf s (headerOf f.payload).sess).isNone = false := by rw [← Option.not_isSome, hslot]; rfl
  unfold discardMessage
  dsimp only
  rw [if_neg (by rw [hlen]; decide), if_neg (by rcases hours with h | h <;> simp [h]), if_neg (by rw [hplain]; decide), if_neg (by rw [hnone]; decide),
    if_pos (by simp [authentic, htag])]

/-- An open session is one that is not free. -/
theorem slotOf_of_openSlot {s : State} {id : BitVec 32} {k : Nat} (h : openSlot s id = some k) : (slotOf s id).isNone = false := by
  have hk := List.find?_some h
  simp only [Bool.and_eq_true, beq_iff_eq] at hk
  obtain ⟨hphase, hid⟩ := hk
  rw [← Option.not_isSome, Bool.not_eq_false', slotOf, List.find?_isSome]
  exact ⟨k, List.mem_of_find?_eq_some h, by rw [hphase, hid]; simp⟩

/-- R45: a broadcast of a request goes to its session, which refuses it. -/
theorem discardMessage_broadcast {s : State} {k : Nat} (hlen : lengthAgrees f (headerOf f.payload) = true)
    (hbcast : (headerOf f.payload).flags.getLsbD flagBcast = true) (hplain : (headerOf f.payload).flags.getLsbD flagPlain = false) (htag : f.tagOk = true)
    (hopen : openSlot s (headerOf f.payload).sess = some k) : discardMessage f s =
      sessionMessage k (frameReq f) (headerOf f.payload).opcode true (fun _ s => refuse (headerOf f.payload).opcode 0x0105 s) s := by
  have hslot := slotOf_of_openSlot hopen
  unfold discardMessage
  dsimp only
  rw [if_neg (by rw [hlen]; decide), if_neg (by simp [hbcast]), if_neg (by rw [hplain]; decide), if_neg (by rw [hslot]; decide),
    if_neg (by simp [authentic, htag, hopen]), if_pos hbcast, hopen]
end

/-- Settles O20: the first clause by the branch of `discardFrame` that the frame takes, the second by that of `discardMessage`. -/
theorem framesThatDoNotRun : Obligations.FramesThatDoNotRun := by
  refine ⟨fun dt n f fec s long hruns hup hreset hn hlong => ?_,
    fun dt f fec h s hruns hup hreset hfcs htags hlen hmac hfilter hsort hhears hh hagrees => ?_⟩
  · have hlong : long ↔ LongFrame f := hlong
    rw [hlong]
    rw [peerNum_framePeer] at hn
    subst hn
    obtain ⟨hports, hwords⟩ := discardFrame_ports (dt := dt) (f := f) (fec := fec) (s := s)
    have hfiltered : passesFilter (frameState dt f fec s) (peerNum (framePeer f)) f = passesFilter s (portNum f.port) f := by
      rw [frameState_passesFilter, peerNum_framePeer]
    refine ⟨_, exec_frameDiscard hruns hup hreset, hports, hwords, fun hfcs => ?_, fun hfcs hlong => ?_, fun hfcs hlong hmac => ?_,
      fun hfcs hlong hmac hfilter => ?_, fun hfcs hlong hmac hfilter => ?_⟩
    · rw [discardFrame_badFcs _ hfcs]
      refine ⟨?_, frameState_proto⟩
      rw [countPort_stats, ← peerNum_framePeer, frameState, countCodewords_stats_ne (by decide) (by decide)]; rfl
    · rw [discardFrame_long _ hfcs hlong]
      obtain ⟨hall, hthis⟩ := frameState_counted_also (dt := dt) (f := f) (fec := fec) (s := s) (i := 4) (by decide) (by decide) (by decide)
      exact ⟨hall, hthis, frameState_proto⟩
    · rw [discardFrame_control _ hfcs hlong hmac]
      obtain ⟨hall, hthis⟩ := frameState_counted_also (dt := dt) (f := f) (fec := fec) (s := s) (i := 5) (by decide) (by decide) (by decide)
      exact ⟨hall, hthis, frameState_proto⟩
    · rw [discardFrame_filtered _ hfcs hlong hmac (hfiltered.trans hfilter)]
      exact ⟨frameState_counted, frameState_proto⟩
    · rw [discardFrame_sorted _ hfcs hlong hmac (hfiltered.trans hfilter), frameState_sortFrame]
      refine ⟨fun hsort => ?_, fun hsort hhears => ?_, fun hsort hhears hagrees => ?_⟩
      · rw [hsort]
        obtain ⟨hall, hthis⟩ := frameState_counted_also (dt := dt) (f := f) (fec := fec) (s := s) (i := 6) (by decide) (by decide) (by decide)
        exact ⟨hall, hthis, frameState_proto⟩
      · rw [hsort]
        dsimp only
        rw [if_pos ((frameState_hears _).trans hhears), commFlag_proto 2 ((countPort_proto ..).trans frameState_proto)]
        exact congrArg (fun now => { s.proto with comm := s.proto.comm.set now 2 }) frameState_now
      · rw [hsort]
        dsimp only
        rw [if_pos ((frameState_hears _).trans hhears), discardMessage_malformed hagrees,
          commFlag_proto 2 ((frameIn_proto ..).trans frameState_proto), frameIn_time, frameState_now]
  · subst hh
    have hshort : ¬LongFrame f := by
      unfold LongFrame
      omega
    have hrun : exec (.frameDiscard dt f fec) s = .next (discardMessage f (frameIn (framePeer f) (frameState dt f fec s))) := by
      rw [exec_frameDiscard hruns hup hreset, discardFrame_sorted _ hfcs hshort hmac ((frameState_passesFilter _).trans hfilter), frameState_sortFrame, hsort]
      dsimp only
      rw [if_pos ((frameState_hears _).trans hhears)]
    have hproto : (frameIn (framePeer f) (frameState dt f fec s)).proto = s.proto := (frameIn_proto ..).trans frameState_proto
    have hsess : ∀ k, (frameIn (framePeer f) (frameState dt f fec s)).sess k = s.sess k := fun k => by rw [State.sess, hproto]; rfl
    have hown : ownNode (frameIn (framePeer f) (frameState dt f fec s)) = ownNode s := by
      rw [ownNode, frameIn_start]; exact frameState_ownNode
    refine ⟨fun hbcast hdst => ?_, fun hours hplain hslot htag => ?_, fun k u hbcast hplain htag served => ?_⟩
    · exact ⟨_, hrun, by rw [discardMessage_foreign hagrees hbcast (by rwa [hown]), hproto]⟩
    · have hslot' : (slotOf (frameIn (framePeer f) (frameState dt f fec s)) (headerOf f.payload).sess).isSome = true := by
        simpa only [slotOf, hsess] using hslot
      refine ⟨_, hrun, ?_⟩
      rw [discardMessage_unauthenticated hagrees (by rwa [hown]) hplain hslot' htag, commFlag_proto 0 hproto, frameIn_time, frameState_now]
    · obtain ⟨hopen, hownSeq, hhigh, hseen, hroom⟩ := served.fresh_spec
      have hopen' : openSlot (frameIn (framePeer f) (frameState dt f fec s)) (headerOf f.payload).sess = some k := by
        simp only [openSlot, hsess]
        exact hopen
      have htick : tickNow (frameIn (framePeer f) (frameState dt f fec s)) = tickNow (tick dt s) := by
        obtain ⟨ports, heq⟩ := frameState_eq dt f fec s
        rw [tickNow, devTime, frameIn_time, heq]; rfl
      obtain ⟨first, v, hserve⟩ := sessionMessage_runs (k := k) (r := frameReq f) (op := (headerOf f.payload).opcode)
        (f := fun _ s => refuse (headerOf f.payload).opcode 0x0105 s) (s := frameIn (framePeer f) (frameState dt f fec s)) hownSeq
        (by rw [hsess]; exact hhigh) (by rw [hsess]; exact hseen) (by rw [hsess, htick]; exact hroom)
      refine ⟨_, hrun, ?_⟩
      rw [discardMessage_broadcast hagrees hbcast hplain htag hopen', hserve]
      exact reply_answered k (frameReq f) first ⟨(headerOf f.payload).opcode, 0x0105, .none⟩ v

end Sys2Proof.Machine

/-! ## Proofs of the family "web position"

The invariant of the block; the writes of the axis; the edges, index pulses and wires of an encoder channel. -/

namespace Sys2Proof.Machine

/-! ### The invariant -/

/-- Log 2: a command lets its time pass and then keeps the queue, the clock, what has gone out and the invariant, by the lemma of its own meaning. -/
theorem exec_keeps (s : State) : ∀ c : Instr, KeepsO (tick (instrTime c) s) (exec c s)
  | .read .. => execRead_keeps _ _ _ _
  | .write .. => execWrite_keeps _ _ _ _
  | .stage .. => execStage_keeps _ _ _ _
  | .check .. => execCheck_keeps _ _ _
  | .commit .. => execCommit_keeps _ _ _ _ _
  | .discard .. => execDiscard_keeps _ _ _
  | .cmdCancel .. => execCmdCancel_keeps _ _ _ _
  | .claim .. => execClaim_keeps _ _ _ _ _ _
  | .release .. => execRelease_keeps _ _ _ _
  | .subscribe .. => execSubscribe_keeps _ _ _ _ _
  | .unsubscribe .. => execUnsubscribe_keeps _ _ _
  | .eventAck .. => execEventAck_keeps _ _ _ _
  | .keepalive .. => execKeepalive_keeps _ _ _
  | .open1 .. => execOpen1_keeps _ _ _ _ _ _ _ _ _
  | .open3 .. => execOpen3_keeps _ _ _ _ _
  | .sessionClose .. => execSessionClose_keeps _ _ _
  | .blockData .. => execBlockData_keeps _ _ _ _ _ _
  | .discover .. => execDiscover_keeps _ _ _
  | .discoverReply .. => execDiscoverReply_keeps _ _
  | .unknownOpcode .. => execUnknownOpcode_keeps _ _ _ _
  | .frameDiscard .. => execFrameDiscard_keeps _ _ _ _
  | .protocolQuery .. => execProtocolQuery_keeps _ _ _ _
  | .sessionTimeout .. => execSessionTimeout_keeps _ _ _
  | .openTimeout .. => execOpenTimeout_keeps _ _ _
  | .enrolWindowEnd .. => execEnrolWindowEnd_keeps _ _
  | .claimLeaseExpiry .. => execClaimLeaseExpiry_keeps _ _ _
  | .eventResend .. => execEventResend_keeps _ _ _
  | .handleComplete .. => execHandleComplete_keeps _ _ _ _ _
  | .handleExpiry .. => execHandleExpiry_keeps _ _ _
  | .commitNotice .. => execCommitNotice_keeps _ _
  | .deviceCommit .. => execDeviceCommit_keeps _ _
  | .countEdge .. => execCountEdge_keeps _ _ _ _ _
  | .index .. => execIndex_keeps _ _ _ _
  | .wireEpisode50ns .. => execWireEpisode50ns_keeps _ _ _ _
  | .wireEpisodeEnd .. => execWireEpisodeEnd_keeps _ _ _ _ _
  | .wireEpisode1us .. => execWireEpisode1us_keeps _ _ _ _
  | .axisStop .. => execAxisStop_keeps _ _
  | .supervisorUnreachable .. => execSupervisorUnreachable_keeps _ _
  | .termSwingLow .. => execTermSwingLow_keeps _ _ _ _
  | .axisPreset .. => execAxisPreset_keeps _ _ _ _ _
  | .indexArm .. => execIndexArm_keeps _ _ _ _ _ _
  | .encReenable .. => execEncReenable_keeps _ _ _ _ _ _
  | .sourceRequest .. => execSourceRequest_keeps _ _ _ _ _
  | .fire .. => execFire_keeps _ _ _ _ _ _
  | .speedLimitRise .. => execSpeedLimitRise_keeps _ _
  | .lineOverrate .. => execLineOverrate_keeps _ _
  | .slowHoldExpiry .. => execSlowHoldExpiry_keeps _ _
  | .hostSpeedLimit .. => execHostSpeedLimit_keeps _ _ _ _ _
  | .trigOccurrence .. => execTrigOccurrence_keeps _ _ _
  | .timeTrigger .. => execTimeTrigger_keeps _ _ _
  | .trigPulseEnd .. => execTrigPulseEnd_keeps _ _ _
  | .streamData .. => execStreamData_keeps _ _ _ _
  | .probe .. => execProbe_keeps _ _ _ _
  | .ackInterval .. => execAckInterval_keeps _ _ _
  | .nak .. => execNak_keeps _ _ _
  | .streamEnable .. => execStreamEnable_keeps _ _ _ _ _ _
  | .streamReleaseTo .. => execStreamReleaseTo_keeps _ _ _ _ _ _
  | .netLink .. => execNetLink_keeps _ _ _ _
  | .decodeLine .. => execDecodeLine_keeps _ _ _ _ _
  | .decoderFault .. => execDecoderFault_keeps _ _ _ _
  | .storeRefresh .. => execStoreRefresh_keeps _ _ _ _
  | .stackTempRead .. => execStackTempRead_keeps _ _ _
  | .scrub .. => execScrub_keeps _ _ _ _
  | .sramScrub .. => execSramScrub_keeps _ _ _ _ _
  | .retireCopyDone .. => execRetireCopyDone_keeps _ _ _
  | .counterWriteback .. => execCounterWriteback_keeps _ _
  | .nozzleSave .. => execNozzleSave_keeps _ _
  | .screenLine .. => execScreenLine_keeps _ _ _ _
  | .windowRefill .. => execWindowRefill_keeps _ _ _
  | .tileCheck .. => execTileCheck_keeps _ _ _ _
  | .engineFault .. => execEngineFault_keeps _ _ _ _
  | .engineStall .. => execEngineStall_keeps _ _ _
  | .engineRemount .. => execEngineRemount_keeps _ _ _
  | .sliceFault .. => execSliceFault_keeps _ _ _
  | .regionFault .. => execRegionFault_keeps _ _ _
  | .dieFault .. => execDieFault_keeps _ _ _
  | .temperature .. => execTemperature_keeps _ _ _ _
  | .warmExit .. => execWarmExit_keeps _ _ _
  | .hotExit .. => execHotExit_keeps _ _ _
  | .telemetryTimeout .. => execTelemetryTimeout_keeps _ _ _
  | .nozzleSense .. => execNozzleSense_keeps _ _ _ _ _
  | .incompleteSegment .. => execIncompleteSegment_keeps _ _ _ _ _
  | .missedFires .. => execMissedFires_keeps _ _ _ _ _ _
  | .claimStatus .. => execClaimStatus_keeps _ _ _ _ _ _
  | .configResponse .. => execConfigResponse_keeps _ _ _ _ _ _
  | .configTimeout .. => execConfigTimeout_keeps _ _ _ _
  | .caps .. => execCaps_keeps _ _ _ _
  | .echoReply .. => execEchoReply_keeps _ _ _ _
  | .latencyMeasure .. => execLatencyMeasure_keeps _ _ _
  | .traceDetect .. => execTraceDetect_keeps _ _ _ _
  | .blockLock .. => execBlockLock_keeps _ _ _
  | .bringupStepFail .. => execBringupStepFail_keeps _ _ _
  | .lockLost .. => execLockLost_keeps _ _ _
  | .errorLimit .. => execErrorLimit_keeps _ _ _ _
  | .eyeRead .. => execEyeRead_keeps _ _ _ _ _
  | .claimSend .. => execClaimSend_keeps _ _ _
  | .traceEnable .. => execTraceEnable_keeps _ _ _ _ _ _
  | .tracePower .. => execTracePower_keeps _ _ _ _ _ _
  | .reinStopTimeout .. => execReinStopTimeout_keeps _ _
  | .reinReverseTimeout .. => execReinReverseTimeout_keeps _ _
  | .reinHoldTimeout .. => execReinHoldTimeout_keeps _ _
  | .reinRunTimeout .. => execReinRunTimeout_keeps _ _
  | .rearm .. => execRearm_keeps _ _
  | .pressRefuse .. => execPressRefuse_keeps _ _ _ _ _
  | .stopClear .. => execStopClear_keeps _ _ _ _ _
  | .lineTrigger .. => execLineTrigger_keeps _ _ _
  | .frameStart .. => execFrameStart_keeps _ _ _ _
  | .cameraLine .. => execCameraLine_keeps _ _ _ _ _ _ _ _ _
  | .frameEnd .. => execFrameEnd_keeps _ _ _ _
  | .startWindow .. => execStartWindow_keeps _ _ _
  | .exposureListDone .. => execExposureListDone_keeps _ _ _ _
  | .sliceDone .. => execSliceDone_keeps _ _ _
  | .cciBusStuck .. => execCciBusStuck_keeps _ _ _ _
  | .loopBar .. => execLoopBar_keeps _ _
  | .sync .. => execSync_keeps _ _ _ _
  | .followUp .. => execFollowUp_keeps _ _ _
  | .delayReq .. => execDelayReq_keeps _ _ _ _
  | .delayResp .. => execDelayResp_keeps _ _ _
  | .announce .. => execAnnounce_keeps _ _ _ _
  | .ptpOther .. => execPtpOther_keeps _ _ _ _
  | .announceTimeout .. => execAnnounceTimeout_keeps _ _
  | .ptpSendInterval .. => execPtpSendInterval_keeps _ _ _ _
  | .followUpTimeout .. => execFollowUpTimeout_keeps _ _
  | .timeRoleWrite .. => execTimeRoleWrite_keeps _ _ _ _ _ _
  | .txStampPop .. => execTxStampPop_keeps _ _ _ _ _ _
  | .evtCapture .. => execEvtCapture_keeps _ _ _ _ _ _
  | .capturePop .. => execCapturePop_keeps _ _ _ _ _ _
  | .pdCycle .. => execPdCycle_keeps _ _
  | .correlation .. => execCorrelation_keeps _ _
  | .heartbeat .. => execHeartbeat_keeps _ _ _ _
  | .heartbeatSend .. => execHeartbeatSend_keeps _ _
  | .pairAck .. => execPairAck_keeps _ _ _
  | .commitRecord .. => execCommitRecord_keeps _ _ _ _ _
  | .writeRecord .. => execWriteRecord_keeps _ _ _ _
  | .blockRecord .. => execBlockRecord_keeps _ _ _ _
  | .axisRecord .. => execAxisRecord_keeps _ _ _ _
  | .lposRecord dt h t count lpos => execLposRecord_keeps dt h t count lpos s
  | .lposSend .. => execLposSend_keeps _ _
  | .ringRecord .. => execRingRecord_keeps _ _ _ _ _ _ _ _
  | .digest .. => execDigest_keeps _ _ _ _
  | .loopRecord .. => execLoopRecord_keeps _ _ _ _
  | .reinRecord .. => execReinRecord_keeps _ _ _ _
  | .timeRecord .. => execTimeRecord_keeps _ _ _ _
  | .logRecord .. => execLogRecord_keeps _ _ _ _
  | .releaseRecord .. => execReleaseRecord_keeps _ _ _ _
  | .ident .. => execIdent_keeps _ _ _ _
  | .snapshot .. => execSnapshot_keeps _ _ _ _
  | .fill .. => execFill_keeps _ _ _ _
  | .echo .. => execEcho_keeps _ _ _ _ _ _
  | .echoSend .. => execEchoSend_keeps _ _
  | .recordResend .. => execRecordResend_keeps _ _ _
  | .partnerSilent .. => execPartnerSilent_keeps _ _
  | .mirrorTimeout .. => execMirrorTimeout_keeps _ _
  | .pairLaneChange .. => execPairLaneChange_keeps _ _ _ _
  | .peerLead .. => execPeerLead_keeps _ _ _
  | .searchTimeout .. => execSearchTimeout_keeps _ _
  | .enterIdle .. => execEnterIdle_keeps _ _ _
  | .enterSleep .. => execEnterSleep_keeps _ _ _ _
  | .enterDeepSleep .. => execEnterDeepSleep_keeps _ _ _ _
  | .enterOff .. => execEnterOff_keeps _ _ _ _
  | .returnToRun .. => execReturnToRun_keeps _ _ _
  | .coreIdleStop .. => execCoreIdleStop_keeps _ _
  | .wake .. => execWake_keeps _ _ _ _
  | .wakeTimer .. => execWakeTimer_keeps _ _ _
  | .pmbusAck .. => execPmbusAck_keeps _ _ _ _
  | .pmbusTimeout .. => execPmbusTimeout_keeps _ _ _
  | .pmbAlert .. => execPmbAlert_keeps _ _ _ _ _
  | .railTelemetry .. => execRailTelemetry_keeps _ _ _
  | .powerOnReset .. => execPowerOnReset_keeps _ _ _
  | .resetN .. => execResetN_keeps _ _ _ _
  | .startRetry .. => execStartRetry_keeps _ _ _
  | .brownout .. => execBrownout_keeps _ _ _
  | .vsupRecovered .. => execVsupRecovered_keeps _ _ _
  | .supervisorReset .. => execSupervisorReset_keeps _ _
  | .overvolt .. => execOvervolt_keeps _ _ _
  | .vsup3Overload .. => execVsup3Overload_keeps _ _
  | .dieTemp .. => execDieTemp_keeps _ _ _ _ _
  | .outputReadback .. => execOutputReadback_keeps _ _ _ _
  | .refclkLoss .. => execRefclkLoss_keeps _ _
  | .coreFault .. => execCoreFault_keeps _ _ _ _
  | .coreRestartDone .. => execCoreRestartDone_keeps _ _ _
  | .configStoreWrite .. => execConfigStoreWrite_keeps _ _
  | .lifeHour .. => execLifeHour_keeps _ _
  | .encCalDeferred .. => execEncCalDeferred_keeps _ _ _ _
  | .tapStep .. => execTapStep_keeps _ _ _ _
  | .statusClear .. => execStatusClear_keeps _ _ _ _ _ _
  | .storePartition .. => execStorePartition_keeps _ _ _ _ _ _
  | .errorLogClear .. => execErrorLogClear_keeps _ _ _ _ _
  | .defectLogClear .. => execDefectLogClear_keeps _ _ _ _ _
  | .storeFill .. => execStoreFill_keeps _ _ _ _ _ _ _
  | .storeCopy .. => execStoreCopy_keeps _ _ _ _ _ _ _
  | .integInject .. => execIntegInject_keeps _ _ _ _
  | .integReadRaw .. => execIntegReadRaw_keeps _ _ _ _ _
  | .rowRepair .. => execRowRepair_keeps _ _ _ _ _ _ _
  | .retire .. => execRetire_keeps _ _ _ _ _ _ _
  | .encode .. => execEncode_keeps _ _ _ _
  | .thresholdLoad .. => execThresholdLoad_keeps _ _ _ _ _ _ _ _
  | .nozzleTableWrite .. => execNozzleTableWrite_keeps _ _ _ _ _ _
  | .nozzleTableRead .. => execNozzleTableRead_keeps _ _ _ _ _ _
  | .nozzleTableSave .. => execNozzleTableSave_keeps _ _ _
  | .nozzleCountReset .. => execNozzleCountReset_keeps _ _ _ _ _
  | .traceBringUp .. => execTraceBringUp_keeps _ _ _ _
  | .bridgeAccess .. => execBridgeAccess_keeps _ _ _ _ _ _ _
  | .inspTableLoad .. => execInspTableLoad_keeps _ _ _ _ _ _
  | .frameHold .. => execFrameHold_keeps _ _ _ _ _ _
  | .cciAccess .. => execCciAccess_keeps _ _ _ _ _ _ _ _ _
  | .inspStatRead .. => execInspStatRead_keeps _ _ _ _ _
  | .timeAcceptJump .. => execTimeAcceptJump_keeps _ _ _
  | .ptpSend .. => execPtpSend_keeps _ _ _ _ _
  | .pdStart .. => execPdStart_keeps _ _ _ _ _
  | .pdStop .. => execPdStop_keeps _ _ _
  | .pair .. => execPair_keeps _ _ _
  | .unpair .. => execUnpair_keeps _ _ _
  | .handover .. => execHandover_keeps _ _ _
  | .imageWrite .. => execImageWrite_keeps _ _ _ _ _
  | .imageActivate .. => execImageActivate_keeps _ _ _ _
  | .imageConfirm .. => execImageConfirm_keeps _ _ _
  | .faultClear .. => execFaultClear_keeps _ _ _
  | .unknownCommand .. => execUnknownCommand_keeps _ _ _ _
  | .traceBlockDiscard .. => execTraceBlockDiscard_keeps _ _ _ _
  | .cameraPacketError .. => execCameraPacketError_keeps _ _ _ _ _
  | .jtagInstruction .. => execJtagInstruction_keeps _ _ _
  | .terminationDisconnect .. => execTerminationDisconnect_keeps _ _ _ _
  | .terminationReconnect .. => execTerminationReconnect_keeps _ _ _ _
  | .outputAgreement .. => execOutputAgreement_keeps _ _ _
  | .vsup3LoadRecovered .. => execVsup3LoadRecovered_keeps _ _
  | .vsupSample .. => execVsupSample_keeps _ _ _

theorem Inv.tick {s : State} (dt : Nat) (h : Inv s) : Inv (tick dt s) := Inv.same (t := s) rfl h

/-- The invariant says nothing of the queue. -/
theorem Inv.withPending {s : State} (h : Inv s) (q : List Instr) : Inv { s with pending := q } := Inv.same (t := s) rfl h

/-- Settles O6: an empty queue changes nothing; a command at the front keeps the invariant by `exec_keeps`. -/
theorem stepKeepsInvariant : Obligations.StepKeepsInvariant := by
  intro s t hs hstep
  unfold step at hstep
  split at hstep
  case h_1 =>
    cases hstep
    exact hs
  case h_2 c rest _ => exact (exec_keeps _ c t hstep).inv ((hs.withPending rest).tick _)

/-! ### A channel that is declared faulty in the instant of its re-enabling (R71, R85) -/

/-- R71, R85: a channel whose faulty bit the hardware sets in the instant of the write is not re-enabled. -/
theorem reenable_of_faulty_now {ch : Nat} {s : State}
    (h : ((s.chan ch).status.clear s.time.now (BitVec.ofNat 32 (2 ^ encFaulty))).on encFaulty = true) : reenable ch s = s := if_pos h

/-- R85: a write of 1 to `Axis.EncReenable`. -/
theorem applyWrite_reenable (ch : Nat) (s : State) : applyWrite true 0x4037 ch (.num 1) s = reenable ch s := rfl

/-- A host on NET_0 that writes in the session of slot 0. -/
def reenableRequest : Req := ⟨1, 5, 1, { port := .net0, addr := 7 }⟩

/-- The device with a session of the service role in slot 0, at the stop, in the instant in which encoder 0 is declared faulty (R100). -/
def faultyThisInstant : State :=
  let s := State.reset.setSess 0 { phase := .opened, id := 1, role := 3, node := 1, peer := reenableRequest.peer, highSeq := 4 }
  s.setChan 0 { s.chan 0 with status := (s.chan 0).status.set s.time.now encFaulty }

/-- The state in which the write of that instant takes effect. -/
def reenabledState : State := (arbitrate 0 reenableRequest (objectKeys [entry 0x4037 0 1 (.num 1)]) false (servedState 0 reenableRequest 0 faultyThisInstant)).2

theorem reenableRequest_passes : WritePasses 0 reenableRequest [entry 0x4037 0 1 (.num 1)] 0 faultyThisInstant reenabledState where
  served := ⟨_, ⟨by decide +kernel, by decide +kernel, rfl, by decide +kernel, by decide +kernel⟩, Prod.ext (by decide +kernel) rfl⟩
  count := by decide
  passes := by decide +kernel

/-- Refutes O10: ENC_REENABLE passes at the stop, but a channel that is declared faulty in that very instant stays faulty, since what the hardware sets
wins over a clear (R71). -/
theorem not_axisWritesTakeEffect : ¬ Obligations.AxisWritesTakeEffect := by
  intro h
  obtain ⟨-, -, hreenable, -⟩ := h 0 reenableRequest 0 1 0 1 faultyThisInstant reenabledState
  obtain ⟨t, ht, -, hfaulty, -⟩ := hreenable reenableRequest_passes
  obtain ⟨sessions, withheld, pair, model, hexec⟩ := reenableRequest_passes.one rfl rfl
  have heffect : applyWrite true 0x4037 0 (.num 1) reenabledState = reenabledState :=
    (applyWrite_reenable ..).trans (reenable_of_faulty_now (by decide +kernel))
  rw [heffect] at hexec
  have hstate : t = reenabledState.exchanged sessions withheld pair model := by
    injection ht.symm.trans hexec
  have hstill : (reenabledState.chan 0).faulty = true := by decide +kernel
  rw [hstate] at hfaulty
  exact absurd (hstill.symm.trans hfaulty) (by decide)

/-! ### An edge of A or B (R79 to R83) -/

/-- R81 to R83: what an edge latches of its channel. -/
abbrev EncChan.latched (c : EncChan) := (c.count, c.a, c.b, c.last, c.prev, c.illegal)

/-- What is latched of each channel, the choice of the source, the index log, the configuration and the page store are as they were. -/
structure EdgeKept (s t : State) : Prop where
  latched : ∀ m, (t.chan m).latched = (s.chan m).latched
  source : t.axis.source = s.axis.source
  indexLog : t.axis.indexLog = s.axis.indexLog
  cfg : t.proto.cfg = s.proto.cfg
  store : t.store = s.store

theorem EdgeKept.refl (s : State) : EdgeKept s s := ⟨fun _ => rfl, rfl, rfl, rfl, rfl⟩

theorem EdgeKept.trans {s t u : State} (g : EdgeKept t u) (h : EdgeKept s t) : EdgeKept s u :=
  ⟨fun m => (g.latched m).trans (h.latched m), g.source.trans h.source, g.indexLog.trans h.indexLog, g.cfg.trans h.cfg, g.store.trans h.store⟩

theorem ite_edgeKept {c : Prop} [Decidable c] {s t u : State} (ht : EdgeKept s t) (hu : EdgeKept s u) : EdgeKept s (if c then t else u) := by
  split <;> assumption

section
variable {s t : State}

/-- A channel is set anew, but for what is latched of it. -/
theorem EdgeKept.setChan (g : EdgeKept s t) {n : Nat} {x : EncChan} (h : (x.count, x.a, x.b, x.last, x.prev, x.illegal) =
    ((t.chan n).count, (t.chan n).a, (t.chan n).b, (t.chan n).last, (t.chan n).prev, (t.chan n).illegal)) : EdgeKept s (t.setChan n x) := by
  refine ⟨fun m => ?_, g.source, g.indexLog, g.cfg, g.store⟩
  by_cases hm : m = n
  · subst hm; rw [State.setChan_chan]; exact h.trans (g.latched m)
  · rw [State.setChan_chan_ne _ _ _ _ hm]; exact g.latched m

/-- The axis is set anew, but for its channels, its source and its index log. -/
theorem EdgeKept.setAxis (g : EdgeKept s t) {x : Axis} (hchans : x.chans = t.axis.chans) (hsource : x.source = t.axis.source)
    (hlog : x.indexLog = t.axis.indexLog) : EdgeKept s { t with axis := x } := by
  refine ⟨fun m => ?_, hsource.trans g.source, hlog.trans g.indexLog, g.cfg, g.store⟩
  rw [← g.latched m, State.chan, State.chan, hchans]

theorem EdgeKept.ev (g : EdgeKept s t) {code : Nat} {d : BitVec 96} {unit : BitVec 32} {line : Option Int} {n : Nat} :
    EdgeKept s (ev code d t unit line n) where
  latched m := by rw [ev_chan]; exact g.latched m
  source := by rw [ev_axis]; exact g.source
  indexLog := by rw [ev_axis]; exact g.indexLog
  cfg := (ev_cfg ..).trans g.cfg
  store := (ev_store ..).trans g.store

theorem EdgeKept.encFlag (g : EdgeKept s t) {ch b code pair : Nat} {v : Int} : EdgeKept s (encFlag ch b code pair v t) := by
  have hset : EdgeKept s (t.setChan ch { t.chan ch with status := (t.chan ch).status.set t.time.now b }) := g.setChan rfl
  exact hset.ev
end

theorem overspeed_edgeKept (ch : Nat) (old : Option Nat) (t : Nat) (s : State) : EdgeKept s (overspeed ch old t s) := by
  unfold overspeed
  split
  · extract_lets flagged _
    have hflag : EdgeKept s flagged := (EdgeKept.refl s).encFlag
    exact ite_edgeKept (hflag.setAxis rfl rfl rfl) (.refl s)
  · exact .refl s

theorem residualStep_edgeKept (ch : Nat) (dc : Int) (t : Nat) (s : State) : EdgeKept s (residualStep ch dc t s) := by
  unfold residualStep
  extract_lets c
  split
  · extract_lets d r l s' top due _
    have hset : EdgeKept s s' := (EdgeKept.refl s).setChan rfl
    have hnoted : EdgeKept s { s' with axis := { s'.axis with residualRaised := some s'.time.now } } := hset.setAxis rfl rfl rfl
    exact ite_edgeKept (.refl s) (ite_edgeKept hnoted.ev hset)
  · exact .refl s

theorem reverseStep_edgeKept (ch : Nat) (s : State) : EdgeKept s (reverseStep ch s) := by
  unfold reverseStep
  extract_lets c below
  have h := EdgeKept.refl s
  have hback : EdgeKept s (s.setChan ch { c with reversed := true }) := h.setChan rfl
  exact ite_edgeKept (h.setChan rfl) (ite_edgeKept hback.encFlag h)

theorem directionStep_edgeKept (ch : Nat) (dc : Int) (s : State) : EdgeKept s (directionStep ch dc s) := by
  unfold directionStep
  extract_lets c run s1 _ s2 c2
  have h := EdgeKept.refl s
  have hrun : EdgeKept s s1 := h.setChan rfl
  have hraised : EdgeKept s (s1.setChan ch { s1.chan ch with backRaised := true }) := hrun.setChan rfl
  have hflag : EdgeKept s s2 := hraised.encFlag
  have hback : EdgeKept s (s2.setChan ch { c2 with reversed := true }) := hflag.setChan rfl
  exact ite_edgeKept (h.setChan rfl) (ite_edgeKept (ite_edgeKept hflag hback.encFlag) hrun)

theorem travelStep_edgeKept (ch : Nat) (dc : Int) (s : State) : EdgeKept s (travelStep ch dc s) :=
  ite_edgeKept ((EdgeKept.refl s).setChan rfl) ((directionStep_edgeKept ..).trans (reverseStep_edgeKept ..))

theorem oppositeStep_edgeKept (ch : Nat) (dc : Int) (s : State) : EdgeKept s (oppositeStep ch dc s) := by
  unfold oppositeStep
  extract_lets c up c2 s2
  have h := EdgeKept.refl s
  have hset : EdgeKept s s2 := h.setChan rfl
  have hraised : EdgeKept s (s2.setChan 1 { c2 with oppRaised := true }) := hset.setChan (by rw [State.setChan_chan])
  exact ite_edgeKept (h.setChan rfl) (ite_edgeKept (ite_edgeKept (h.setChan rfl) (ite_edgeKept hraised.encFlag hset))
    (ite_edgeKept (ite_edgeKept (h.setChan rfl) (h.setChan rfl)) h))

theorem spreadStep_latched (c : EncChan) : (spreadStep c).latched = c.latched := by
  unfold spreadStep
  split <;> rfl

theorem gearStep_edgeKept (ch : Nat) (s : State) : EdgeKept s (gearStep ch s) := ite_edgeKept (.refl s) ((EdgeKept.refl s).setChan rfl)

theorem wrapStep_edgeKept (ch : Nat) (s : State) : EdgeKept s (wrapStep ch s) := ite_edgeKept ((EdgeKept.refl s).setChan rfl) (.refl s)

theorem alignShadow_edgeKept (s : State) : EdgeKept s (alignShadow s) := by
  unfold alignShadow
  extract_lets c d good _ s1 _ s2
  have h := EdgeKept.refl s
  have hshadow : EdgeKept s s1 := h.setChan rfl
  have hset : EdgeKept s s2 := hshadow.setChan rfl
  exact ite_edgeKept h (ite_edgeKept hset hset.ev)

theorem alignStep_edgeKept (ch : Nat) (dc : Int) (s : State) : EdgeKept s (alignStep ch dc s) := by
  unfold alignStep
  extract_lets c n s1
  have h := EdgeKept.refl s
  have hset : EdgeKept s s1 := h.setChan rfl
  exact ite_edgeKept h (ite_edgeKept ((alignShadow_edgeKept _).trans (hset.setChan rfl)) hset)

/-- R81, R83: from `s` to `u` the pair of channel `ch` is latched once, with the counter moved by `dc`. -/
structure EdgeCounted (ch : Nat) (dc : Int) (s u : State) : Prop where
  count : (u.chan ch).count = (s.chan ch).count + BitVec.ofInt 48 dc
  a : (u.chan ch).a = (s.chan ch).a
  b : (u.chan ch).b = (s.chan ch).b
  prev : (u.chan ch).prev = (s.chan ch).last
  illegal : (u.chan ch).illegal = (s.chan ch).illegal
  source : u.axis.source = s.axis.source
  store : u.store = s.store

section
variable {ch : Nat} {dc : Int} {s t u : State}

theorem EdgeKept.fields (k : EdgeKept s t) : (t.chan ch).count = (s.chan ch).count ∧ (t.chan ch).a = (s.chan ch).a ∧ (t.chan ch).b = (s.chan ch).b ∧
    (t.chan ch).last = (s.chan ch).last ∧ (t.chan ch).prev = (s.chan ch).prev ∧ (t.chan ch).illegal = (s.chan ch).illegal := by
  simpa only [EncChan.latched, Prod.mk.injEq] using k.latched ch

theorem EdgeCounted.kept (h : EdgeCounted ch dc s t) (k : EdgeKept t u) : EdgeCounted ch dc s u := by
  obtain ⟨count, a, b, -, prev, illegal⟩ := k.fields (ch := ch)
  exact ⟨count.trans h.count, a.trans h.a, b.trans h.b, prev.trans h.prev, illegal.trans h.illegal, k.source.trans h.source, k.store.trans h.store⟩

theorem latch_counted (k : EdgeKept s t) (dc : Int) (n : Nat) : EdgeCounted ch dc s (latch ch dc n t) := by
  obtain ⟨count, a, b, last, -, illegal⟩ := k.fields (ch := ch)
  unfold latch
  extract_lets c cnt iv s1 _
  have hlatched : EdgeCounted ch dc s s1 := by
    constructor <;> simp only [s1, cnt, c, State.setChan_chan, State.setChan_store]
    · rw [count]
    · exact a
    · exact b
    · exact last
    · exact illegal
    · exact k.source
    · exact k.store
  split
  · exact hlatched.kept ((EdgeKept.refl s1).setAxis rfl rfl rfl)
  · exact hlatched
end

/-- R82: a transition in which both levels change. -/
def illegalEdge (ch : Nat) (a b : Bool) (s : State) : Bool := a != (s.chan ch).a && b != (s.chan ch).b

/-- R81, R82: the counts of an edge: by the quadrature of the pair, and two in the direction of the last edge where the transition is illegal. -/
def edgeTravel (ch : Nat) (a b : Bool) (s : State) : Int :=
  if illegalEdge ch a b s then (if (s.chan ch).up then 2 else -2) else quadStep s ch (s.chan ch) a b

/-- The new levels are latched, with the instants at which they changed (R79). -/
def latchLevels (ch : Nat) (a b : Bool) (s : State) : State :=
  let c := s.chan ch
  s.setChan ch { c with a := a, b := b, edgeA := if a != c.a then some (stampNow s ch) else c.edgeA, edgeB := if b != c.b then some (stampNow s ch) else c.edgeB }

theorem latchLevels_chan (ch : Nat) (a b : Bool) (s : State) : ((latchLevels ch a b s).chan ch).count = (s.chan ch).count ∧
    ((latchLevels ch a b s).chan ch).a = a ∧ ((latchLevels ch a b s).chan ch).b = b ∧ ((latchLevels ch a b s).chan ch).last = (s.chan ch).last ∧
    ((latchLevels ch a b s).chan ch).illegal = (s.chan ch).illegal := by
  rw [latchLevels, State.setChan_chan]
  exact ⟨rfl, rfl, rfl, rfl, rfl⟩

/-- What is counted after the new levels have been latched. -/
theorem EdgeCounted.levels {ch : Nat} {a b : Bool} {dc : Int} {s u : State} (h : EdgeCounted ch dc (latchLevels ch a b s) u) :
    (u.chan ch).count = (s.chan ch).count + BitVec.ofInt 48 dc ∧ (u.chan ch).a = a ∧ (u.chan ch).b = b ∧ (u.chan ch).prev = (s.chan ch).last ∧
      (u.chan ch).illegal = (s.chan ch).illegal ∧ u.axis.source = s.axis.source ∧ u.store = s.store := by
  obtain ⟨count, ha, hb, last, illegal⟩ := latchLevels_chan ch a b s
  exact ⟨h.count.trans (by rw [count]), h.a.trans ha, h.b.trans hb, h.prev.trans last, h.illegal.trans illegal, h.source, h.store⟩

theorem quadStep_congr {s t : State} (h : t.proto.cfg = s.proto.cfg) (ch : Nat) (c : EncChan) (a b : Bool) : quadStep t ch c a b = quadStep s ch c a b := by
  rw [quadStep, quadStep, cfg_congr h]

/-- R81 to R83: an edge of an enabled channel is counted; then an illegal transition is reported, and where the channel is the source the position
moves. -/
theorem countEdgeStep_counted {ch : Nat} {a b : Bool} {s : State} (h : encEnabled s ch = true) :
    ∃ u m, EdgeCounted ch (edgeTravel ch a b s) (latchLevels ch a b s) u ∧ countEdgeStep ch a b s =
      (let v := if illegalEdge ch a b s then illegalStep ch m u else u
       if ch = v.axis.source then sourceEdge v else v) := by
  unfold countEdgeStep
  extract_lets c bad t s1 s2 s3 mark dc s4 s5 _ s6 s7 s8 s9 s10
  have hfast : EdgeKept s1 s3 :=
    .trans (ite_edgeKept (overspeed_edgeKept ..) (.refl s2)) (ite_edgeKept (overspeed_edgeKept ..) (.refl s1))
  have hdc : dc = edgeTravel ch a b s := by
    simp only [dc, edgeTravel, quadStep_congr hfast.cfg]; rfl
  have hcounted : EdgeCounted ch dc s1 s5 := latch_counted (.trans (ite_edgeKept (residualStep_edgeKept ..) (.refl s3)) hfast) dc t
  have hup : EdgeKept s5 s6 := ite_edgeKept (.refl s5) ((EdgeKept.refl s5).setChan rfl)
  have hturned : EdgeKept s6 s7 := (oppositeStep_edgeKept ..).trans (travelStep_edgeKept ..)
  have hspread : EdgeKept s7 (s7.setChan ch (spreadStep (s7.chan ch))) := (EdgeKept.refl s7).setChan (spreadStep_latched _)
  have hgeared : EdgeKept s7 s8 := ite_edgeKept (.refl s7) ((wrapStep_edgeKept ..).trans ((gearStep_edgeKept ..).trans hspread))
  have haligned : EdgeKept s8 s9 := alignStep_edgeKept ..
  refine ⟨s9, mark, hdc ▸ hcounted.kept (haligned.trans (hgeared.trans (hturned.trans hup))), ?_⟩
  have henabled : encEnabled s1 ch = true := h
  rw [henabled]; rfl

/-- R84: a disabled channel counts nothing. -/
theorem countEdgeStep_disabled {ch : Nat} {a b : Bool} {s : State} (h : encEnabled s ch = false) : countEdgeStep ch a b s = latchLevels ch a b s := by
  have hdisabled : encEnabled (latchLevels ch a b s) ch = false := h
  exact if_pos (by rw [Bool.not_eq_true']; exact hdisabled)

/-- R71: a flag that the hardware sets reads 1. -/
theorem Flags.set_on (now : Nat) (f : Flags) {b : Nat} (hb : b < 32) : (f.set now b).on b = true := by
  rw [Flags.on, Flags.set, BitVec.getLsbD_or, BitVec.getLsbD_ofNat, Nat.testBit_two_pow_self, decide_eq_true hb, Bool.and_true, Bool.or_true]

theorem window10_length_le (l : List BadMark) (m : BadMark) : (window10 l m).length ≤ l.length + 1 := List.length_filter_le ..

/-- R82: an illegal transition that is not the seventeenth of its window only sets the flag and takes the confidence. -/
theorem illegalStep_spec {ch : Nat} (m : BadMark) {s : State} (h : (s.chan ch).illegal.length < 16) :
    (illegalStep ch m s).axis.source = s.axis.source ∧ (illegalStep ch m s).axis.confidence = false ∧ (illegalStep ch m s).store = s.store ∧
    ((illegalStep ch m s).chan ch).count = (s.chan ch).count ∧ ((illegalStep ch m s).chan ch).a = (s.chan ch).a ∧
    ((illegalStep ch m s).chan ch).b = (s.chan ch).b ∧ ((illegalStep ch m s).chan ch).status.on encIllegal = true := by
  unfold illegalStep
  extract_lets c l due s1 _ s2 s3
  have hfew : ¬17 ≤ l.length := Nat.not_le.mpr (Nat.lt_of_le_of_lt (window10_length_le ..) (Nat.succ_lt_succ h))
  have haxis : s3.axis = s2.axis := by
    simp only [s3]; split
    · exact ev_axis ..
    · rfl
  have hstore : s3.store = s.store := by
    simp only [s3]; split
    · exact ev_store ..
    · rfl
  have hchan : s3.chan ch = s1.chan ch := by rw [State.chan, haxis]; rfl
  rw [if_neg hfew, haxis, hchan, State.setChan_chan]
  exact ⟨rfl, rfl, hstore, rfl, rfl, rfl, Flags.set_on _ _ (by decide)⟩

/-- Settles O33: an accepted edge by `countEdgeStep_counted`, an illegal one also by `illegalStep_spec`; levels that are not accepted by the guard. -/
theorem countEdgeCounts : Obligations.CountEdgeCounts := by
  intro dt ch a b s hruns
  have hexec : filtered (tick dt s) ch a b = (a, b) → (a ≠ (s.chan ch).a ∨ b ≠ (s.chan ch).b) →
      exec (.countEdge dt ch a b) s = .next (countEdgeStep ch a b (tick dt s)) := fun hfilter hedge => by
    refine (guardOk_of ?_ _ _).trans (by rw [hfilter])
    rw [hruns, hfilter]
    rcases hedge with h | h <;> simp [Ne.symm h]
  refine ⟨fun hfilter => ?_, fun henabled hfilter hlegal => ?_, fun henabled hfilter ha hb hfew => ?_, fun hdisabled hfilter hedge => ?_⟩
  · refine if_neg ?_
    rw [hfilter]
    simp
  · have hone : illegalEdge ch a b (tick dt s) = false := by
      rw [illegalEdge, tick_chan]
      revert hlegal
      cases a != (s.chan ch).a <;> cases b != (s.chan ch).b <;> simp
    obtain ⟨u, m, hu, hstep⟩ := countEdgeStep_counted (a := a) (b := b) henabled
    obtain ⟨count, ha, hb, prev, -, source, store⟩ := hu.levels
    have hchanged : a ≠ (s.chan ch).a ∨ b ≠ (s.chan ch).b := by
      by_contra h
      simp only [not_or, not_not] at h
      obtain ⟨hsameA, hsameB⟩ := h
      simp [hsameA, hsameB] at hlegal
    rw [edgeTravel, hone] at count
    simp only [hone, Bool.false_eq_true, if_false, source] at hstep
    exact ⟨_, u, hexec hfilter hchanged, hstep, count, ha, hb, prev, store⟩
  · have hboth : illegalEdge ch a b (tick dt s) = true := by simp [illegalEdge, ha, hb]
    obtain ⟨u, m, hu, hstep⟩ := countEdgeStep_counted (a := a) (b := b) henabled
    obtain ⟨count, ha', hb', -, illegal, source, store⟩ := hu.levels
    obtain ⟨source', confidence, store', count', a', b', flag⟩ := illegalStep_spec m (s := u) (ch := ch) (by rwa [illegal])
    rw [edgeTravel, hboth] at count
    simp only [hboth, if_true, source', source] at hstep
    exact ⟨_, illegalStep ch m u, hexec hfilter (.inl ha), hstep, count'.trans count, a'.trans ha', b'.trans hb', flag, confidence, store'.trans store⟩
  · obtain ⟨count, ha, hb, -⟩ := latchLevels_chan ch a b (tick dt s)
    exact ⟨_, (hexec hfilter hedge).trans (congrArg _ (countEdgeStep_disabled hdisabled)), count, ha, hb,
      fun m hm => State.setChan_chan_ne _ _ _ _ hm⟩

/-! ### Index pulses (R77, R86 to R90) -/

/-- R85: the flag, and nothing else of the channel. -/
theorem encFlag_chan (ch b code pair : Nat) (v : Int) (s : State) :
    (encFlag ch b code pair v s).chan ch = { s.chan ch with status := (s.chan ch).status.set s.time.now b } := by
  rw [encFlag, ev_chan, State.setChan_chan]

theorem encFlag_on (ch code pair : Nat) (v : Int) (s : State) {b : Nat} (hb : b < 32) : ((encFlag ch b code pair v s).chan ch).status.on b = true := by
  rw [encFlag_chan]; exact Flags.set_on _ _ hb

theorem EdgeKept.count {s t : State} (k : EdgeKept s t) (ch : Nat) : (t.chan ch).count = (s.chan ch).count := k.fields.1

theorem mirrorAxis_axis (s : State) (kind why : Nat) : (mirrorAxis s kind why).axis = s.axis := (mirror_calm _ _).axis

theorem chan_congr {s t : State} (h : t.axis = s.axis) (ch : Nat) : t.chan ch = s.chan ch := by rw [State.chan, State.chan, h]

/-- R81: a counter that moves by its difference from `v` takes the value `v`. -/
theorem count_add_countDiff (c : EncChan) (v : Int) : c.count + BitVec.ofInt 48 (countDiff v (countOf c)) = BitVec.ofInt 48 v := by
  have hsum : BitVec.ofInt 48 c.count.toInt + BitVec.ofInt 48 (v - c.count.toInt) = BitVec.ofInt 48 v := by
    rw [← BitVec.ofInt_add, add_sub_cancel]
  rw [BitVec.ofInt_toInt] at hsum
  rwa [countDiff, BitVec.ofInt_toInt]

theorem shiftCount_count (ch : Nat) (d : Int) (s : State) : ((shiftCount ch d s).chan ch).count = (s.chan ch).count + BitVec.ofInt 48 d := by
  rw [shiftCount, State.setChan_chan]

/-- R88, R90: a reference load. -/
theorem loadReference_spec (ch t : Nat) (s : State) : ((loadReference ch t s).chan ch).hasRef = true ∧ ((loadReference ch t s).chan ch).reload = false ∧
    ((loadReference ch t s).chan ch).count = BitVec.ofInt 48 (cfg s 0x4021 ch) ∧
    (loadReference ch t s).axis.indexLog = (⟨ch, 3, 0, lposAt s t⟩ :: s.axis.indexLog).take 16 := by
  unfold loadReference
  extract_lets x s1 c fresh s2 s3
  have haxis : (if ch = s3.axis.source then mirrorAxis s3 else s3).axis = s3.axis := by
    split
    · exact mirrorAxis_axis ..
    · rfl
  have hchan : s3.chan ch = s2.chan ch := rfl
  rw [chan_congr haxis, haxis, hchan, State.setChan_chan]
  refine ⟨rfl, rfl, ?_, rfl⟩
  exact (shiftCount_count ..).trans (count_add_countDiff ..)

/-- R88: a clean index has a part in the confidence and in the shadow. -/
theorem cleanIndex_edgeKept (ch : Nat) (s : State) : EdgeKept s (cleanIndex ch s) := by
  unfold cleanIndex
  extract_lets _ s1
  have hsure : EdgeKept s s1 := ite_edgeKept ((EdgeKept.refl s).setAxis rfl rfl rfl) (.refl s)
  exact ite_edgeKept ((alignShadow_edgeKept s1).trans hsure) hsure

/-- The offset of a channel's index from its nearest expected count (R86). -/
def offsetOf (ch : Nat) (s : State) : Int := indexOffset (countDiff (countOf (s.chan ch)) (cfg s 0x4021 ch)) (cfgN s 0x4022 ch)

section
variable {ch t : Nat} {s : State} (href : (s.chan ch).hasRef = true) (hperiod : cfgN s 0x4022 ch ≠ 0)
include href hperiod

/-- R88, R90: an index within the tolerance is logged, and in mode 1 the counter is corrected. -/
theorem checkIndex_within (h : (offsetOf ch s).natAbs ≤ cfgN s 0x4023 ch) :
    (checkIndex ch t s).axis.indexLog = (⟨ch, if indexMode s ch = 1 then 0 else 1, offsetOf ch s, lposAt s t⟩ :: s.axis.indexLog).take 16 ∧
    ((checkIndex ch t s).chan ch).count = if indexMode s ch = 1 then (s.chan ch).count + BitVec.ofInt 48 (-offsetOf ch s) else (s.chan ch).count := by
  unfold checkIndex
  extract_lets c period d x s1 s2 _ _
  have hguard : ¬((!c.hasRef) = true ∨ period = 0) := by simp [c, period, href, hperiod]
  have hclean : EdgeKept s2 (if (c.illegal.head?.map (·.t)) = some t then s2 else cleanIndex ch s2) := ite_edgeKept (.refl s2) (cleanIndex_edgeKept ..)
  have hwithin : d.natAbs ≤ cfgN s 0x4023 ch := h
  rw [if_neg hguard, if_pos hwithin, hclean.indexLog, hclean.count]
  by_cases hmode : indexMode s ch = 1
  · have hs2 : s2 = logIndex ch 0 d x (s1.setChan ch (spreadAdd (s1.chan ch) (-d * (s1.chan ch).gear))) := if_pos hmode
    have hchan : s2.chan ch = spreadAdd (s1.chan ch) (-d * (s1.chan ch).gear) := by rw [hs2]; exact State.setChan_chan ..
    rw [if_pos hmode, if_pos hmode, hchan, hs2]
    exact ⟨rfl, shiftCount_count ..⟩
  · have hs2 : s2 = logIndex ch 1 d x s := if_neg hmode
    rw [if_neg hmode, if_neg hmode, hs2]
    exact ⟨rfl, rfl⟩

/-- R88, R90: one beyond the tolerance sets the flag and takes the confidence; the counter stays. -/
theorem checkIndex_beyond (h : cfgN s 0x4023 ch < (offsetOf ch s).natAbs) :
    (checkIndex ch t s).axis.indexLog = (⟨ch, 2, offsetOf ch s, lposAt s t⟩ :: s.axis.indexLog).take 16 ∧
    ((checkIndex ch t s).chan ch).status.on encIndexOffset = true ∧ (checkIndex ch t s).axis.confidence = false ∧
    ((checkIndex ch t s).chan ch).count = (s.chan ch).count := by
  unfold checkIndex
  extract_lets c period d x _ _ s3 _
  have hguard : ¬((!c.hasRef) = true ∨ period = 0) := by simp [c, period, href, hperiod]
  have hflag : EdgeKept s (encFlag ch encIndexOffset 0x4008 2 d s) := (EdgeKept.refl s).encFlag
  have hbeyond : ¬d.natAbs ≤ cfgN s 0x4023 ch := Nat.not_le.mpr h
  rw [if_neg hguard, if_neg hbeyond]
  exact ⟨congrArg (fun l => (_ :: l).take 16) hflag.indexLog, encFlag_on ch 0x4008 2 d s (by decide), rfl, hflag.count ch⟩
end

/-- R86 to R88: what an index pulse of at most 8 counts leads to, where neither its mode nor a fault rules it out. -/
theorem indexStep_judged {ch width : Nat} {s : State} (hwidth : width ≤ 8) (hmode : indexMode s ch ≠ 0) (hwire : (s.chan ch).status.on encWireZ = false)
    (hfaulty : (s.chan ch).faulty = false) : indexStep ch width s =
      if (s.chan ch).reload || ((s.chan ch).armed && (s.chan ch).armedTick != some (tickNow s)) || (indexMode s ch == 1 && (s.chan ch).refNext)
      then loadReference ch (stampNow s ch) s else checkIndex ch (stampNow s ch) s := by
  unfold indexStep
  extract_lets c t armed
  rw [if_neg (Nat.not_lt.mpr hwidth), if_neg (by simp [c, hmode, hwire, hfaulty])]

/-! ### Wire episodes and terminations (R75, R76, R78, R100, R574) -/

/-- The count, the flags and the wires of each channel are as they were. -/
structure WiresKept (s t : State) : Prop where
  count : ∀ m, (t.chan m).count = (s.chan m).count
  status : ∀ m, (t.chan m).status = (s.chan m).status
  pairs : ∀ m, (t.chan m).pairs = (s.chan m).pairs

theorem WiresKept.refl (s : State) : WiresKept s s := ⟨fun _ => rfl, fun _ => rfl, fun _ => rfl⟩

theorem WiresKept.trans {s t u : State} (g : WiresKept t u) (h : WiresKept s t) : WiresKept s u :=
  ⟨fun m => (g.count m).trans (h.count m), fun m => (g.status m).trans (h.status m), fun m => (g.pairs m).trans (h.pairs m)⟩

theorem WiresKept.of_chans {s t : State} (h : t.axis.chans = s.axis.chans) : WiresKept s t := by
  have hchan : ∀ m, t.chan m = s.chan m := fun m => by rw [State.chan, State.chan, h]
  exact ⟨fun m => by rw [hchan], fun m => by rw [hchan], fun m => by rw [hchan]⟩

theorem WiresKept.of_axis {s t : State} (h : t.axis = s.axis) : WiresKept s t := .of_chans (by rw [h])

theorem ite_wiresKept {c : Prop} [Decidable c] {s t u : State} (ht : WiresKept s t) (hu : WiresKept s u) : WiresKept s (if c then t else u) := by
  split <;> assumption

theorem setChan_wiresKept {s : State} {n : Nat} {x : EncChan} (hcount : x.count = (s.chan n).count) (hstatus : x.status = (s.chan n).status)
    (hpairs : x.pairs = (s.chan n).pairs) : WiresKept s (s.setChan n x) := by
  have hchan : ∀ m, ((s.setChan n x).chan m).count = (s.chan m).count ∧ ((s.setChan n x).chan m).status = (s.chan m).status ∧
      ((s.setChan n x).chan m).pairs = (s.chan m).pairs := fun m => by
    by_cases hm : m = n
    · subst hm; rw [State.setChan_chan]; exact ⟨hcount, hstatus, hpairs⟩
    · rw [State.setChan_chan_ne _ _ _ _ hm]; exact ⟨rfl, rfl, rfl⟩
  exact ⟨fun m => (hchan m).1, fun m => (hchan m).2.1, fun m => (hchan m).2.2⟩

/-- R101: a changeover moves a base pair and the choice of the source. -/
theorem changeover_wiresKept (ch : Nat) (follow : Bool) (s : State) : WiresKept s (changeover ch follow s) := by
  unfold changeover
  extract_lets x c L own step _ c' low s1 _ s2 s3
  have hset : WiresKept s s1 := by
    obtain ⟨hcount, hstatus, hpairs⟩ : c'.count = c.count ∧ c'.status = c.status ∧ c'.pairs = c.pairs := by
      simp only [c']
      split
      · exact ⟨rfl, rfl, rfl⟩
      · exact ⟨rfl, rfl, rfl⟩
    exact setChan_wiresKept hcount hstatus hpairs
  have hsource : WiresKept s1 s2 := .of_chans rfl
  have hlow : WiresKept s2 s3 := ite_wiresKept (.refl s2) (.of_chans rfl)
  refine .trans (.of_axis ?_) (hlow.trans (hsource.trans hset))
  rw [mirrorAxis_axis, ev_axis]

theorem addFault_wiresKept (code cls level : Nat) (unit : BitVec 32) (s : State) : WiresKept s (addFault code cls level unit s) :=
  .of_axis (addFault_calm code cls level unit s true none false false).axis

/-- R101, R102: what a faulty source does to position has no part in the wires. -/
theorem sourceFaulty_wiresKept (s : State) : WiresKept s (sourceFaulty s) := by
  have hlost : ∀ why, WiresKept s (lostPosition why s) := fun why => .of_chans (by rw [lostPosition_axis])
  unfold sourceFaulty
  extract_lets mode can took
  refine ite_wiresKept (.of_axis (holdWheeler_calm ..).axis) ?_
  split
  · exact ite_wiresKept ((addFault_wiresKept ..).trans (changeover_wiresKept ..)) (.refl s)
  · exact ite_wiresKept ((addFault_wiresKept ..).trans (changeover_wiresKept ..)) (hlost _)
  · exact .refl s

/-- R100: a channel that is declared faulty reads faulty, and counts and wires stay. -/
theorem declareFaulty_spec (ch cause : Nat) (m : BadMark) (s : State) : ((declareFaulty ch cause m s).chan ch).faulty = true ∧
    ((declareFaulty ch cause m s).chan ch).count = (s.chan ch).count ∧ ((declareFaulty ch cause m s).chan ch).pairs = (s.chan ch).pairs := by
  unfold declareFaulty
  extract_lets c good s1 s2
  split
  case isTrue h => exact ⟨h, rfl, rfl⟩
  case isFalse =>
    have hs2 : s2.chan ch = { s1.chan ch with status := (s1.chan ch).status.set s1.time.now encFaulty } := encFlag_chan ..
    have hkept : WiresKept s2 (if ch = s2.axis.source then sourceFaulty s2 else s2) := ite_wiresKept (sourceFaulty_wiresKept s2) (.refl s2)
    have hmarked : WiresKept s s1 := setChan_wiresKept rfl rfl rfl
    refine ⟨?_, (hkept.count ch).trans ((congrArg EncChan.count hs2).trans (hmarked.count ch)),
      (hkept.pairs ch).trans ((congrArg EncChan.pairs hs2).trans (hmarked.pairs ch))⟩
    rw [EncChan.faulty, hkept.status, hs2]
    exact Flags.set_on _ _ (by decide)

section
variable (ch p : Nat) (w : WirePair) (s : State)

theorem setWirePair_count : ((setWirePair ch p w s).chan ch).count = (s.chan ch).count := by rw [setWirePair, State.setChan_chan]
theorem setWirePair_status : ((setWirePair ch p w s).chan ch).status = (s.chan ch).status := by rw [setWirePair, State.setChan_chan]
theorem setWirePair_episodes : ((setWirePair ch p w s).chan ch).episodes = (s.chan ch).episodes := by rw [setWirePair, State.setChan_chan]

theorem wirePair_setWirePair : wirePair (setWirePair ch p w s) ch p = w := by
  rw [wirePair, setWirePair, State.setChan_chan]; exact tget_tput_self
end

theorem wirePair_congr {s t : State} {ch : Nat} (h : (t.chan ch).pairs = (s.chan ch).pairs) (p : Nat) : wirePair t ch p = wirePair s ch p := by
  rw [wirePair, wirePair, h]

/-- R75, R76: an episode that has lasted 50 ns and is not the seventeenth of its window sets the pair's flag. -/
theorem wire50_spec {ch p : Nat} (hp : p < 32) {s : State} (h : (s.chan ch).episodes.length < 16) :
    (wirePair (wire50 ch p s) ch p).over50 = true ∧ (wirePair (wire50 ch p s) ch p).over1us = false ∧
    (wirePair (wire50 ch p s) ch p).termOff = (wirePair s ch p).termOff ∧ ((wire50 ch p s).chan ch).status.on p = true ∧
    ((wire50 ch p s).chan ch).count = (s.chan ch).count := by
  unfold wire50
  extract_lets now c m w s1 c1 s2 l _ s3
  have hs2 : s2.chan ch = { c1 with status := c1.status.set s1.time.now p } := State.setChan_chan ..
  have hepisodes : c1.episodes.length < 16 := by
    have heq : c1.episodes = (s.chan ch).episodes := setWirePair_episodes ..
    rwa [heq]
  have hfew : ¬17 ≤ l.length := Nat.not_le.mpr (Nat.lt_of_le_of_lt (window10_length_le ..) (Nat.succ_lt_succ hepisodes))
  have hkept : WiresKept s2 (if 2 ≤ p then s2 else if 17 ≤ l.length then declareFaulty ch 2 (l.getD 16 m) s3 else s3) := by
    rw [if_neg hfew]
    exact ite_wiresKept (.refl s2) (setChan_wiresKept rfl rfl rfl)
  have hs2pairs : (s2.chan ch).pairs = (s1.chan ch).pairs := by rw [hs2]
  have hpair := (wirePair_congr (hkept.pairs ch) p).trans ((wirePair_congr hs2pairs p).trans (wirePair_setWirePair ch p _ s))
  rw [hpair, hkept.status, hkept.count, hs2]
  exact ⟨rfl, rfl, rfl, Flags.set_on _ _ hp, setWirePair_count ..⟩

/-- R76, R78: an episode that reaches 1 µs, on A or B, makes the channel faulty. -/
theorem wire1us_spec (ch p : Nat) (s : State) : (wirePair (wire1us ch p s) ch p).over1us = true ∧ ((wire1us ch p s).chan ch).count = (s.chan ch).count ∧
    (p < 2 → ((wire1us ch p s).chan ch).faulty = true) := by
  unfold wire1us
  extract_lets w s1 s2
  have hs2 : s2.chan ch = s1.chan ch := ev_chan ..
  have hs2count : (s2.chan ch).count = (s.chan ch).count := by rw [hs2]; exact setWirePair_count ..
  have hpair : wirePair s2 ch p = { w with over1us := true } := by rw [wirePair, hs2]; exact wirePair_setWirePair ..
  split
  case isTrue h => exact ⟨by rw [hpair], hs2count, fun h2 => absurd h2 (Nat.not_lt.mpr h)⟩
  case isFalse =>
    obtain ⟨hfaulty, hcount, hpairs⟩ := declareFaulty_spec ch 2 ((wirePair s2 ch p).mark.getD (markBefore (s2.chan ch) s2.time.now s2.time.now)) s2
    exact ⟨by rw [wirePair_congr hpairs, hpair], hcount.trans hs2count, fun _ => hfaulty⟩

/-- R75: the end of an episode. -/
theorem wireEnd_spec (ch p length : Nat) (s : State) : (wirePair (wireEnd ch p length s) ch p).over50 = false ∧
    (wirePair (wireEnd ch p length s) ch p).over1us = false ∧ ((wireEnd ch p length s).chan ch).status = (s.chan ch).status ∧
    ((wireEnd ch p length s).chan ch).count = (s.chan ch).count := by
  unfold wireEnd
  extract_lets w s1
  have hkept : WiresKept s1 (if w.over1us then s1 else ev 0x4001 (axisDetail ch p length) s1 (count := (s1.chan ch).status.count p)) :=
    ite_wiresKept (.refl s1) (.of_axis (ev_axis ..))
  have hpair := (wirePair_congr (hkept.pairs ch) p).trans (wirePair_setWirePair ch p _ s)
  rw [hpair, hkept.status, hkept.count]
  exact ⟨rfl, rfl, setWirePair_status .., setWirePair_count ..⟩

/-- R574: a termination that is disconnected; the wire monitor then sees the pair as wrong (R78). -/
theorem disconnect_spec {ch p : Nat} (hp : p < 32) {s : State} (h : (wirePair s ch p).over50 = true ∨ (s.chan ch).episodes.length < 16) :
    (wirePair (disconnect ch p s) ch p).termOff = true ∧ ((disconnect ch p s).chan ch).count = (s.chan ch).count ∧
    (monitored s ch = true → (wirePair (disconnect ch p s) ch p).over50 = true) := by
  unfold disconnect
  extract_lets w s1
  have hpair : wirePair s1 ch p = { w with termOff := true, termAt := s.time.now } := wirePair_setWirePair ..
  have hcount : (s1.chan ch).count = (s.chan ch).count := setWirePair_count ..
  have hepisodes : (s1.chan ch).episodes = (s.chan ch).episodes := setWirePair_episodes ..
  have hmonitored : monitored s1 ch = monitored s ch := rfl
  split
  case isTrue hstarts =>
    obtain ⟨-, hover⟩ := hstarts
    have hfew : (s1.chan ch).episodes.length < 16 := by
      rw [hpair, Bool.not_eq_true'] at hover
      rw [hepisodes]
      exact h.resolve_left (by rw [hover]; decide)
    obtain ⟨hover50, -, hoff, -, hstays⟩ := wire50_spec hp hfew
    exact ⟨hoff.trans (by rw [hpair]), hstays.trans hcount, fun _ => hover50⟩
  case isFalse hno =>
    refine ⟨by rw [hpair], hcount, fun hmon => ?_⟩
    rw [hmonitored] at hno
    simpa [hmon] using hno

/-- Settles O34: an index pulse by what `indexStep` judges of it, the wires by one lemma for each of their events. -/
theorem indexAndWireEvents : Obligations.IndexAndWireEvents := by
  refine ⟨fun dt ch width s hruns hon => ?_, fun dt ch pair s => ⟨fun hmon hover hfew => ?_, fun hmon hover h1us => ?_, fun length hruns hover => ?_,
    fun hruns hon => ?_, fun hterm hsupplied hoff hepisodes => ?_, fun hoff hsupplied hdue => ?_⟩⟩
  · have hexec : exec (.index dt ch width) s = .next (indexStep ch width (tick dt s)) := guardOk_of (by rw [hruns, hon]; rfl) _ _
    refine ⟨fun hwide => ?_, fun hwidth hout => ?_, fun hwidth hmode hwire hfaulty hreload => ?_,
      fun d hwidth hmode hwire hfaulty hreload harmed hnext href hperiod hd => ?_⟩
    · have hstep : indexStep ch width (tick dt s) = encFlag ch encPolarity 0x4002 2 width (tick dt s) := if_pos hwide
      rw [hexec, hstep]
      exact ⟨_, rfl, encFlag_on _ _ _ _ _ (by decide), (EdgeKept.refl (tick dt s)).encFlag.count ch⟩
    · have hstep : indexStep ch width (tick dt s) = tick dt s := (if_neg (Nat.not_lt.mpr hwidth)).trans (if_pos hout)
      rw [hexec, hstep]
    · have hstep : indexStep ch width (tick dt s) = loadReference ch (stampNow (tick dt s) ch) (tick dt s) :=
        (indexStep_judged hwidth hmode hwire hfaulty).trans (if_pos (by simp [hreload]))
      rw [hexec, hstep]
      exact ⟨_, _, rfl, loadReference_spec ch (stampNow (tick dt s) ch) (tick dt s)⟩
    · have hstep : indexStep ch width (tick dt s) = checkIndex ch (stampNow (tick dt s) ch) (tick dt s) :=
        (indexStep_judged hwidth hmode hwire hfaulty).trans (if_neg (by simp [hreload, harmed, hnext]))
      have hoffset : d = offsetOf ch (tick dt s) := hd
      subst hoffset
      rw [hexec, hstep]
      exact ⟨_, _, rfl, checkIndex_within (s := tick dt s) href hperiod, checkIndex_beyond (s := tick dt s) href hperiod⟩
  · have hguard : (monitored (tick dt s) ch && !(wirePair (tick dt s) ch pair).over50) = true := by
      simp only [Bool.and_eq_true, Bool.not_eq_true']
      exact ⟨hmon, hover⟩
    obtain ⟨hover50, hover1us, -, hflag, hcount⟩ := wire50_spec (p := pair) (by omega) (s := tick dt s) hfew
    exact ⟨_, guardOk_of hguard _ _, hover50, hover1us, hflag, hcount⟩
  · have hguard : (monitored (tick dt s) ch && (wirePair (tick dt s) ch pair).over50 && !(wirePair (tick dt s) ch pair).over1us) = true := by
      simp only [Bool.and_eq_true, Bool.not_eq_true']
      exact ⟨⟨hmon, hover⟩, h1us⟩
    exact ⟨_, guardOk_of hguard _ _, wire1us_spec ch pair (tick dt s)⟩
  · have hguard : (samplesRun (tick dt s) && (wirePair (tick dt s) ch pair).over50) = true := by
      rw [Bool.and_eq_true]
      exact ⟨hruns, hover⟩
    exact ⟨_, guardOk_of hguard _ _, wireEnd_spec ch pair length (tick dt s)⟩
  · exact ⟨_, if_pos (by rw [hruns, hon]; rfl), ev_quiet ..⟩
  · have hguard : (bitOn (cfg (tick dt s) 0x4020 ch) 2 && supplied (tick dt s) && !(wirePair (tick dt s) ch pair).termOff) = true := by
      simp only [Bool.and_eq_true, Bool.not_eq_true']
      exact ⟨⟨hterm, hsupplied⟩, hoff⟩
    exact ⟨_, guardOk_of hguard _ _, disconnect_spec (by omega) (s := tick dt s) hepisodes⟩
  · have hguard : ((wirePair (tick dt s) ch pair).termOff && supplied (tick dt s) &&
        decide ((wirePair (tick dt s) ch pair).termAt + 10 * ms ≤ (tick dt s).time.now)) = true := by
      rw [Bool.and_eq_true, Bool.and_eq_true, decide_eq_true_eq]
      exact ⟨⟨hoff, hsupplied⟩, hdue⟩
    exact ⟨_, if_pos hguard, by rw [wirePair_setWirePair], setWirePair_count ..⟩

end Sys2Proof.Machine

/-! ## Proofs of the family "line clocks"

The pulses of the trigger outputs; the line that FIRE sends, and what leaves the numbers of a row's FIREs alone; line triggers, slices, exposure lists
and buses, and what leaves the camera ports and the stored bytes alone. -/

namespace Sys2Proof.Machine

/-! ### Trigger outputs (R119, R129, R130, R453) -/

/-- R119: predicting an output's next occurrence changes its prediction alone. -/
theorem predictTrig_trig (n : Nat) (s : State) : ∃ p, (predictTrig n s).trig n = { s.trig n with pred := p } :=
  ⟨_, State.setTrig_trig _ _ _⟩

/-- R453: a chip that does not drive the output counts that in `undriven`, and changes nothing else of it. -/
theorem noteUndriven_trig (n : Nat) (s : State) : ∃ u, (noteUndriven n s).trig n = { s.trig n with undriven := u } := by
  unfold noteUndriven
  split
  · exact ⟨_, rfl⟩
  · exact ⟨_, State.setTrig_trig _ _ _⟩

/-- R130: a missed occurrence is counted, and changes nothing else of the output but when it was last reported. -/
theorem trigMiss_trig (n : Nat) {m : Nat} (h : m ≠ 0) (s : State) :
    ∃ r, (trigMiss n m s).trig n = { s.trig n with missed := (s.trig n).missed + BitVec.ofNat 16 m, missRaised := r } := by
  unfold trigMiss
  extract_lets t t' due
  rw [if_neg h]
  split
  · exact ⟨some s.time.now, by rw [ev_trig, State.setTrig_trig]⟩
  · exact ⟨t'.missRaised, State.setTrig_trig _ _ _⟩

/-- The width of an output's pulse depends on neither its own state nor what it left undriven. -/
theorem trigWidth_noteUndriven (n : Nat) (s : State) : trigWidth (noteUndriven n s) n = trigWidth s n := by
  unfold noteUndriven
  split <;> rfl

/-- R129: with no pulse asserted, one starts at `x`. -/
theorem pulse_idle {n x : Nat} {s : State} (h : (s.trig n).pulseEnd = none) :
    ∃ u, (pulse n x s).trig n = { s.trig n with undriven := u, pulseEnd := some (x + trigWidth s n) } := by
  obtain ⟨u, hu⟩ := noteUndriven_trig n s
  refine ⟨u, ?_⟩
  simp only [pulse, hu, h, State.setTrig_trig, trigWidth_noteUndriven]

/-- R130: an occurrence while the last pulse still lasts is missed. -/
theorem pulse_busy {n x e : Nat} {s : State} (h : (s.trig n).pulseEnd = some e) (hx : x < e) :
    ∃ u r, (pulse n x s).trig n = { s.trig n with undriven := u, missed := (s.trig n).missed + 1, missRaised := r } := by
  obtain ⟨u, hu⟩ := noteUndriven_trig n s
  obtain ⟨r, hr⟩ := trigMiss_trig n one_ne_zero (noteUndriven n s)
  refine ⟨u, r, ?_⟩
  simp only [pulse, hu, h, if_pos hx, hr]
  rfl

/-- Whatever an occurrence finds, it leaves the output's mark and the number of its next time. -/
theorem pulse_keeps_place (n x : Nat) (s : State) : ((pulse n x s).trig n).mark = (s.trig n).mark ∧ ((pulse n x s).trig n).k = (s.trig n).k := by
  obtain ⟨u, hu⟩ := noteUndriven_trig n s
  obtain ⟨r, hr⟩ := trigMiss_trig n one_ne_zero (noteUndriven n s)
  unfold pulse
  extract_lets v t
  split
  · split
    · rw [hr, hu]; exact ⟨rfl, rfl⟩
    · simp [t, v, hu]
  · simp [t, v, hu]

/-- R119, R120: an occurrence moves the output's mark to its position, and is a pulse at its instant. -/
theorem occurrence_trig (n : Nat) (F : Int) (x : Nat) (s : State) :
    ((occurrence n F x s).trig n).mark = some F ∧
      ((s.trig n).pulseEnd = none →
        ((occurrence n F x s).trig n).pulseEnd = some (x + trigWidth s n) ∧ ((occurrence n F x s).trig n).missed = (s.trig n).missed) ∧
      (∀ e, (s.trig n).pulseEnd = some e → x < e →
        ((occurrence n F x s).trig n).pulseEnd = some e ∧ ((occurrence n F x s).trig n).missed = (s.trig n).missed + 1) := by
  unfold occurrence
  set placed := s.setTrig n { s.trig n with mark := some F, pred := none }
  have hplaced : placed.trig n = { s.trig n with mark := some F, pred := none } := State.setTrig_trig _ _ _
  obtain ⟨p, hp⟩ := predictTrig_trig n (pulse n x placed)
  rw [hp]
  refine ⟨by simp only [pulse_keeps_place, hplaced], fun hidle => ?_, fun e hbusy hx => ?_⟩
  · obtain ⟨u, hu⟩ := pulse_idle (x := x) (s := placed) (n := n) (by rw [hplaced]; exact hidle)
    rw [hu, hplaced]
    exact ⟨rfl, rfl⟩
  · obtain ⟨u, r, hu⟩ := pulse_busy (s := placed) (n := n) (by rw [hplaced]; exact hbusy) hx
    rw [hu, hplaced]
    exact ⟨hbusy, rfl⟩

/-- Settles O36: an occurrence and a time are one pulse each, at the instant predicted or at the present one. -/
theorem triggersPulse : Obligations.TriggersPulse := by
  refine fun dt trig s => ⟨fun F x hpred hx hruns haxis hmode hnext => ?_, fun hruns hmode htime hk => ?_, fun e hend hdue => ?_⟩
  · have hguard : (trigsRun (tick dt s) && (tick dt s).axis.state == 1 && trigMode (tick dt s) trig == 1 &&
        trigNextPos (tick dt s) trig == some F && decide (x ≤ (tick dt s).time.now)) = true := by
      simp only [Bool.and_eq_true, beq_iff_eq, decide_eq_true_eq]
      exact ⟨⟨⟨⟨hruns, haxis⟩, hmode⟩, hnext⟩, hx⟩
    have hexec : exec (.trigOccurrence dt trig) s = .next (occurrence trig F x (tick dt s)) := by
      have hpred' : ((tick dt s).trig trig).pred = some (F, x) := hpred
      change execTrigOccurrence dt trig s = _
      simp only [execTrigOccurrence, hpred']
      exact guardOk_of hguard _ _
    exact ⟨_, hexec, occurrence_trig trig F x (tick dt s)⟩
  · have hguard : (trigsRun (tick dt s) && trigMode (tick dt s) trig == 2 &&
        decide (trigTime (tick dt s) trig ((tick dt s).trig trig).k ≤ devTime (tick dt s)) &&
        (((tick dt s).trig trig).k == 0 || (trigEnv (tick dt s)).nat 0x9042 trig != 0)) = true := by
      simp only [Bool.and_eq_true, Bool.or_eq_true, beq_iff_eq, bne_iff_ne, decide_eq_true_eq]
      exact ⟨⟨⟨hruns, hmode⟩, htime⟩, hk⟩
    refine ⟨_, if_pos hguard, ?_, fun hidle => ?_⟩
    · rw [(pulse_keeps_place _ _ _).2, State.setTrig_trig]; rfl
    · obtain ⟨u, hu⟩ := pulse_idle (n := trig) (x := (tick dt s).time.now)
        (s := (tick dt s).setTrig trig { (tick dt s).trig trig with k := ((tick dt s).trig trig).k + 1 }) (by rw [State.setTrig_trig]; exact hidle)
      rw [hu]
      rfl
  · have hguard : since (tick dt s) ((tick dt s).trig trig).pulseEnd 0 = true := by
      have hend' : ((tick dt s).trig trig).pulseEnd = some e := hend
      simp only [since, hend', Nat.add_zero, decide_eq_true_eq]
      exact hdue
    exact ⟨_, if_pos hguard, State.setTrig_trig _ _ _, rfl, rfl, fun m hm => State.setTrig_trig_ne _ _ _ _ hm⟩

/-! ### What a row's next FIRE is numbered (R346): the operations that leave the number alone -/

/-- The FSEQ of every row's next FIRE is as it was. -/
structure FseqKept (s t : State) : Prop where
  row : ∀ u, (t.row u).fseq = (s.row u).fseq

theorem FseqKept.refl (s : State) : FseqKept s s := ⟨fun _ => rfl⟩

theorem FseqKept.trans {s t u : State} (g : FseqKept t u) (h : FseqKept s t) : FseqKept s u := ⟨fun n => (g.row n).trans (h.row n)⟩

/-- An update of other fields than the rows keeps it. -/
theorem FseqKept.same {s t : State} (h : t.gait.rows = s.gait.rows) : FseqKept s t := ⟨fun n => by rw [State.row, State.row, h]⟩

/-- So does what goes out. -/
theorem Quiet.fseq {s t : State} (h : Quiet s t) : FseqKept s t := .same (by rw [h.gait])

theorem ite_fseq {c : Prop} [Decidable c] {s t u : State} (ht : FseqKept s t) (hu : FseqKept s u) : FseqKept s (if c then t else u) := by
  split <;> assumption

theorem forAll_fseq {α : Type} {f : α → State → State} (h : ∀ a s, FseqKept s (f a s)) (l : List α) (s : State) : FseqKept s (forAll l f s) :=
  forAll_induct (P := FseqKept s) (fun a t k => (h a t).trans k) l s (.refl s)

/-- A change of a row that keeps its number. -/
theorem setRow_fseq {s : State} {n : Nat} {x : Row} (h : x.fseq = (s.row n).fseq) : FseqKept s (s.setRow n x) := by
  refine ⟨fun m => ?_⟩
  by_cases hm : m = n
  · subst hm; rwa [State.setRow_row]
  · rw [State.setRow_row_ne _ _ _ _ hm]

theorem ev_fseq (c : Nat) (d : BitVec 96) (s : State) (u : BitVec 32) (l : Option Int) (n : Nat) : FseqKept s (ev c d s u l n) := (ev_quiet ..).fseq

/-! The pair link, the job and the defect log (R122, R333, R471) -/

theorem sendRecord_fseq (b : PairBody) (s : State) : FseqKept s (sendRecord b s) := .same rfl

theorem mirror_fseq (b : PairBody) (s : State) : FseqKept s (mirror b s) := ite_fseq (sendRecord_fseq b s) (.refl s)

theorem setPairState_fseq (st reason : Nat) (s : State) : FseqKept s (setPairState st reason s) :=
  ite_fseq (.same rfl) ((ev_fseq ..).trans (.same rfl))

theorem setJob_fseq (j : Nat) (s : State) : FseqKept s (setJob j s) := ite_fseq (.refl s) ((ev_fseq ..).trans (.same rfl))

theorem haltJob_fseq (s : State) : FseqKept s (haltJob s) :=
  ite_fseq ((setJob_fseq _ _).trans (.same rfl)) (.same rfl)

theorem addDefect_fseq (d : Defect) (s : State) : FseqKept s (addDefect d s) := (mirror_fseq _ _).trans (.same rfl)

theorem logLateLine_fseq (h : Nat) (L : Int) (cause action : Nat) (s : State) : FseqKept s (logLateLine h L cause action s) := by
  refine FseqKept.trans (t := markPage L s) ?_ (.same rfl)
  unfold logLateLine
  dsimp only
  split
  · exact ite_fseq (.same rfl) (addDefect_fseq _ _)
  · exact addDefect_fseq _ _

theorem fireStopped_fseq (cause : Nat) (s : State) : FseqKept s (fireStopped cause s) :=
  forAll_fseq (fun _ _ => (addDefect_fseq _ _).trans (ev_fseq ..)) _ _

/-! Rein-back that is abandoned (R387, R388) -/

theorem updateSplice_fseq (f : Splice → Splice) (s : State) : FseqKept s (updateSplice f s) := by
  unfold updateSplice
  split
  · exact .same rfl
  · exact .refl s

theorem skipRow_fseq (log : Bool) (u : Nat) (s : State) : FseqKept s (skipRow log u s) := by
  unfold skipRow
  extract_lets x old last r left _ settled
  have hleft : FseqKept s left := setRow_fseq rfl
  have hsettled : FseqKept s settled := FseqKept.trans (t := left) (.same rfl) hleft
  exact ite_fseq (ite_fseq ((forAll_fseq (fun _ t => logLateLine_fseq _ _ _ _ t) _ settled).trans hsettled) hsettled) (setRow_fseq rfl)

theorem mirrorRein_fseq (s : State) : FseqKept s (mirrorRein s) := mirror_fseq _ s

theorem mirrorLogs_fseq (s : State) : FseqKept s (mirrorLogs s) := mirror_fseq _ s

theorem reinAbandon_fseq (reason : Nat) (s : State) : FseqKept s (reinAbandon reason s) := by
  unfold reinAbandon
  extract_lets step skipped _ _ freed spliced raised
  have hskipped : FseqKept s skipped := forAll_fseq (skipRow_fseq _) _ s
  have hfreed : FseqKept s freed := FseqKept.trans (t := skipped) (.same rfl) hskipped
  have hspliced : FseqKept s spliced := (updateSplice_fseq _ freed).trans hfreed
  exact ite_fseq (.refl s) ((mirrorLogs_fseq _).trans ((mirrorRein_fseq _).trans ((ev_fseq ..).trans hspliced)))

/-! Lead that is given up (R483 to R485, R493) -/

theorem releaseLanes_fseq (s : State) : FseqKept s (releaseLanes s) := forAll_fseq (fun _ t => (emit_quiet _ t).fseq) _ s

theorem settleWithheld_fseq (due : Withheld → Bool) (f : Response → Response) (s : State) : FseqKept s (settleWithheld due f s) :=
  (forAll_fseq (fun _ t => ite_fseq (sendResponse_quiet _ _ _ t).fseq (.refl t)) _ _).trans (.same rfl)

theorem dropHostState_fseq (s : State) : FseqKept s (dropHostState s) := by
  unfold dropHostState
  extract_lets settled ended unstaged
  have hended : FseqKept s ended := (forAll_fseq (fun _ t => (completeHandle_quiet _ _ _ t).fseq) _ settled).trans (settleWithheld_fseq _ _ s)
  have hunstaged : FseqKept s unstaged := (forAll_fseq (fun _ t => (setSess_quiet t _ _).fseq) _ ended).trans hended
  exact FseqKept.trans (t := unstaged) (.same rfl) hunstaged

theorem leadRelease_fseq (code : Nat) (silent : Bool) (s : State) : FseqKept s (leadRelease code silent s) := by
  unfold leadRelease
  extract_lets sent _ given dropped
  have hsent : FseqKept s sent := ite_fseq (.refl s) ((sendRecord_fseq _ _).trans (releaseLanes_fseq s))
  have hdropped : FseqKept s dropped := (dropHostState_fseq given).trans (FseqKept.trans (t := sent) (.same rfl) hsent)
  exact ite_fseq ((setPairState_fseq _ _ dropped).trans hdropped) ((setPairState_fseq _ _ dropped).trans hdropped)

theorem releaseOwned_fseq (s : State) :
    FseqKept s (forAll (headNums.filter (fun h => tget 0 s.pair.owner h == 1)) (fun h s => emit (.release h s.pair.epoch) s) s) :=
  forAll_fseq (fun _ t => (emit_quiet _ t).fseq) _ s

theorem holdWheeler_fseq (reason : Nat) (s : State) : FseqKept s (holdWheeler reason s) :=
  ite_fseq (.refl s) ((setPairState_fseq _ _ _).trans (ite_fseq (releaseOwned_fseq s) (.refl s)))

/-! Faults (R546 to R548) -/

theorem syncClass_fseq (code : Nat) (unit : BitVec 32) (s : State) : FseqKept s (syncClass code unit s) :=
  ite_fseq (.refl s) (ite_fseq (.same rfl) ((raise_quiet ..).fseq.trans (.same rfl)))

theorem holdEntry_fseq (s : State) : FseqKept s (holdEntry s) := by
  unfold holdEntry
  extract_lets _ held voided
  have hrow : ∀ u t, FseqKept t (t.setRow u { t.row u with pred := none }) := fun _ _ => setRow_fseq rfl
  have hvoided : FseqKept s voided := (forAll_fseq hrow (List.range 128) held).trans (.same rfl)
  exact (fireStopped_fseq _ _).trans ((haltJob_fseq _).trans ((reinAbandon_fseq _ voided).trans hvoided))

theorem failEntry_fseq (s : State) : FseqKept s (failEntry s) := FseqKept.trans (t := releaseLanes s) (.same rfl) (releaseLanes_fseq s)

theorem classResponse_fseq (cls : Nat) (trigger : Option Nat) (silent : Bool) (s : State) : FseqKept s (classResponse cls trigger silent s) := by
  unfold classResponse
  extract_lets released held
  have hreleased : FseqKept s released := ite_fseq (releaseOwned_fseq s) (.refl s)
  have hheld : FseqKept s held := ite_fseq (.refl s) (holdEntry_fseq s)
  exact ite_fseq ((holdWheeler_fseq _ released).trans hreleased)
    (ite_fseq (leadRelease_fseq _ _ s) (ite_fseq ((failEntry_fseq held).trans hheld) hheld))

theorem addFault_fseq (code cls level : Nat) (unit : BitVec 32) (s : State) (respond : Bool) (trigger : Option Nat) (silent exact_ : Bool) :
    FseqKept s (addFault code cls level unit s respond trigger silent exact_) := by
  unfold addFault
  extract_lets counts _ counted same f active _ found lived answered
  have hlived : FseqKept s lived := ite_fseq (.same rfl) (.same rfl)
  have hanswered : FseqKept s answered := ite_fseq ((classResponse_fseq _ _ _ lived).trans hlived) hlived
  exact ite_fseq (.same rfl) ((syncClass_fseq _ _ answered).trans hanswered)

/-! ### Reads of the page store (R196 to R217) -/

/-- What a read leaves alone: the numbers of the rows, the lanes, inspection, and the bytes stored. -/
structure ReadKept (s t : State) : Prop where
  fseq : FseqKept s t
  lanes : t.lanes = s.lanes
  insp : t.insp = s.insp
  mem : t.store.mem = s.store.mem

/-- The fields that hold what `ReadKept` speaks of. -/
abbrev State.readFields (s : State) := (s.gait.rows, s.lanes, s.insp, s.store.mem)

theorem ReadKept.same {s t : State} (h : t.readFields = s.readFields) : ReadKept s t := by
  simp only [State.readFields, Prod.mk.injEq] at h
  obtain ⟨rows, lanes, insp, mem⟩ := h
  exact ⟨.same rows, lanes, insp, mem⟩

theorem ReadKept.refl (s : State) : ReadKept s s := .same rfl

theorem ReadKept.trans {s t u : State} (g : ReadKept t u) (h : ReadKept s t) : ReadKept s u :=
  ⟨g.fseq.trans h.fseq, g.lanes.trans h.lanes, g.insp.trans h.insp, g.mem.trans h.mem⟩

theorem Quiet.read {s t : State} (h : Quiet s t) : ReadKept s t := ⟨h.fseq, h.lanes, h.insp, by rw [h.store]⟩

theorem Calm.read {s t : State} (h : Calm s t) (hf : FseqKept s t) : ReadKept s t := ⟨hf, h.lanes, h.insp, by rw [h.store]⟩

theorem ite_read {c : Prop} [Decidable c] {s t u : State} (ht : ReadKept s t) (hu : ReadKept s u) : ReadKept s (if c then t else u) := by
  split <;> assumption

theorem forAll_read {α : Type} {f : α → State → State} (h : ∀ a s, ReadKept s (f a s)) (l : List α) (s : State) : ReadKept s (forAll l f s) :=
  forAll_induct (P := ReadKept s) (fun a t k => (h a t).trans k) l s (.refl s)

/-- A fold of reads, beside what it gathers. -/
theorem foldl_read {α β : Type} {f : β × State → α → β × State} (h : ∀ p a, ReadKept p.2 (f p a).2) :
    ∀ (l : List α) (p : β × State), ReadKept p.2 (l.foldl f p).2
  | [], p => .refl p.2
  | a :: l, p => (foldl_read h l (f p a)).trans (h p a)

/-- A change of the record of stored data's errors. -/
theorem setInteg_read (s : State) (z : Integ) : ReadKept s { s with integ := z } := .same rfl

theorem addFault_read (code cls level : Nat) (unit : BitVec 32) (s : State) (respond : Bool) (trigger : Option Nat) (silent exact_ : Bool) :
    ReadKept s (addFault code cls level unit s respond trigger silent exact_) := by
  have calm := addFault_calm code cls level unit s respond trigger silent exact_
  exact ⟨addFault_fseq .., calm.lanes, calm.insp, by rw [calm.store]; rfl⟩

/-! Counts, logs and retirement (R181, R214 to R218) -/

theorem fireLatency_read (pc lat : Nat) (s : State) : ReadKept s (fireLatency pc lat s) :=
  ite_read ((ev_quiet ..).read.trans (.same rfl)) (.same rfl)

theorem countRequests_read (cls pc n : Nat) (write : Bool) (s : State) : ReadKept s (countRequests cls pc n write s) :=
  ite_read ((fireLatency_read _ _ _).trans (.same rfl)) (.same rfl)

theorem countAccess_read (cls u : Nat) (write : Bool) (s : State) : ReadKept s (countAccess cls u write s) := countRequests_read ..

theorem logError_read (e : LogEntry) (s : State) : ReadKept s (logError e s) := by
  unfold logError
  dsimp only
  refine ite_read (setInteg_read s _) (ite_read (setInteg_read s _) (ite_read (ite_read ?_ (setInteg_read s _)) (setInteg_read s _)))
  exact (ev_quiet ..).read.trans (setInteg_read s _)

theorem countCorrected_read (mem region : Nat) (s : State) : ReadKept s (countCorrected mem region s) :=
  ite_read ((ev_quiet ..).read.trans (.same rfl)) (.same rfl)

theorem countUe_read (mem region : Nat) (s : State) : ReadKept s (countUe mem region s) := .same rfl

theorem retireBlock_read (pc sid bank block row : Nat) (s : State) : ReadKept s (retireBlock pc sid bank block row s) :=
  ite_read (.refl s) (ite_read (ev_quiet ..).read (ite_read (ite_read (.refl s) (setInteg_read s _)) (setInteg_read s _)))

theorem retireCheck_read (u : Nat) (again : Bool) (s : State) : ReadKept s (retireCheck u again s) := ite_read (retireBlock_read ..) (.refl s)

/-! Errors that a read finds (R204, R210, R212) -/

theorem uninitRead_read (requester : Nat) (unit : BitVec 32) (u : Nat) (s : State) : ReadKept s (uninitRead requester unit u s) :=
  (logError_read _ _).trans (ev_quiet ..).read

theorem fireCritical_read (requester address : Nat) (s : State) : ReadKept s (fireCritical requester address s) :=
  ite_read ((addFault_read ..).trans ((raise_quiet ..).read.trans (setInteg_read s _))) (setInteg_read s _)

theorem storeUe_read (requester : Nat) (unit : BitVec 32) (u cls : Nat) (s : State) : ReadKept s (storeUe requester unit u cls s) := by
  unfold storeUe
  extract_lets logged _ marked counted raised
  have hmarked : ReadKept s marked := (setInteg_read logged _).trans (logError_read _ s)
  have hcounted : ReadKept s counted := (ite_read (.refl marked) (countUe_read 0 0 marked)).trans hmarked
  have hraised : ReadKept s raised := (ev_quiet ..).read.trans hcounted
  exact ite_read ((fireCritical_read _ _ raised).trans hraised) hraised

theorem noteRead_read (requester : Nat) (unit : BitVec 32) (u : Nat) (s : State) : ReadKept s (noteRead requester unit u s) := by
  unfold noteRead
  extract_lets cls skip
  split
  next again first hfirst =>
  have hread : first = (firstRead u s).2 := by rw [hfirst]
  extract_lets uninit queued corrected lost
  have hfirstRead : ReadKept s first := by rw [hread]; exact setInteg_read s _
  have huninit : ReadKept s uninit := (ite_read (uninitRead_read requester unit u first) (.refl first)).trans hfirstRead
  have hcorrected : ReadKept uninit corrected := by
    simp only [corrected]
    split
    · exact .refl uninit
    · have hqueued : ReadKept uninit queued := ite_read (.refl uninit) (setInteg_read uninit _)
      exact ite_read hqueued ((countCorrected_read 0 0 _).trans ((logError_read _ _).trans hqueued))
  have hlost : ReadKept corrected lost := ite_read (storeUe_read requester unit u cls corrected) (.refl corrected)
  exact (ite_read (.refl lost) (retireCheck_read u again lost)).trans (hlost.trans (hcorrected.trans huninit))

theorem readUnit_read (cls requester : Nat) (unit : BitVec 32) (u : Nat) (s : State) : ReadKept s (readUnit cls requester unit u s).2 :=
  (noteRead_read requester unit u _).trans (countAccess_read cls u false s)

/-! The assembly reads of a line (R210, R324) -/

theorem strikeBytes_read (errs : List (Nat × Byte)) (s : State) : ReadKept s (strikeBytes errs s) := by
  unfold strikeBytes
  refine forAll_read (fun _ _ => ?_) _ s
  exact .same rfl

theorem assemblyReads_read (u : Nat) (L : Int) (r : DotReads) (s : State) : ReadKept s (assemblyReads u L r s).2 := by
  unfold assemblyReads
  extract_lets h e base struck
  split
  refine (foldl_read (fun p v => ?_) _ _).trans (strikeBytes_read _ s)
  exact readUnit_read 0 5 (unitRegion (regionOf h)) v p.2

theorem withLatencies_read {α : Type} {f : State → α × State} (h : ∀ t, ReadKept t (f t).2) (lats : List Nat) (s : State) :
    ReadKept s (withLatencies lats f s).2 :=
  ReadKept.trans (t := (f { s with store := { s.store with lats := lats } }).2) (.same rfl) ((h _).trans (.same rfl))

/-! ### Frames that close (R399 to R407) -/

/-- What work on frames leaves alone: the numbers of the rows, and the camera ports. -/
structure CamsKept (s t : State) : Prop where
  fseq : FseqKept s t
  cams : t.insp.ports = s.insp.ports

theorem CamsKept.same {s t : State} (h : (t.gait.rows, t.insp.ports) = (s.gait.rows, s.insp.ports)) : CamsKept s t := by
  rw [Prod.mk.injEq] at h
  exact ⟨.same h.1, h.2⟩

theorem CamsKept.refl (s : State) : CamsKept s s := .same rfl

theorem CamsKept.trans {s t u : State} (g : CamsKept t u) (h : CamsKept s t) : CamsKept s u := ⟨g.fseq.trans h.fseq, g.cams.trans h.cams⟩

theorem CamsKept.camPort {s t : State} (h : CamsKept s t) (c : Nat) : t.camPort c = s.camPort c := by rw [State.camPort, State.camPort, h.cams]

theorem ReadKept.camsKept {s t : State} (h : ReadKept s t) : CamsKept s t := ⟨h.fseq, by rw [h.insp]⟩

theorem ite_cams {c : Prop} [Decidable c] {s t u : State} (ht : CamsKept s t) (hu : CamsKept s u) : CamsKept s (if c then t else u) := by
  split <;> assumption

theorem forAll_cams {α : Type} {f : α → State → State} (h : ∀ a s, CamsKept s (f a s)) (l : List α) (s : State) : CamsKept s (forAll l f s) :=
  forAll_induct (P := CamsKept s) (fun a t k => (h a t).trans k) l s (.refl s)

theorem ev_cams (c : Nat) (d : BitVec 96) (s : State) (u : BitVec 32) (l : Option Int) (n : Nat) : CamsKept s (ev c d s u l n) :=
  (ev_quiet ..).read.camsKept

/-- Every frame with this sensor and number has its statistics. -/
def FrameProcessed (n : Nat) (k : BitVec 32) (s : State) : Prop := ∀ g ∈ s.insp.frames, g.is n k = true → g.processed = true

/-- What the slices' work leaves alone beside those: the page store, which slices have failed, and which frames have their statistics. -/
structure SliceKept (s t : State) : Prop extends CamsKept s t where
  store : t.store = s.store
  failed : t.insp.sliceFailed = s.insp.sliceFailed
  processed : ∀ n k, FrameProcessed n k s → FrameProcessed n k t

/-- The fields that hold what `SliceKept` speaks of. -/
abbrev State.sliceFields (s : State) := (s.gait.rows, s.insp.ports, s.store, s.insp.sliceFailed, s.insp.frames)

theorem SliceKept.same {s t : State} (h : t.sliceFields = s.sliceFields) : SliceKept s t := by
  simp only [State.sliceFields, Prod.mk.injEq] at h
  obtain ⟨rows, cams, store, failed, frames⟩ := h
  exact ⟨⟨.same rows, cams⟩, store, failed, fun n k => by simp only [FrameProcessed, frames]; exact id⟩

theorem SliceKept.refl (s : State) : SliceKept s s := .same rfl

theorem SliceKept.trans {s t u : State} (g : SliceKept t u) (h : SliceKept s t) : SliceKept s u :=
  ⟨g.toCamsKept.trans h.toCamsKept, g.store.trans h.store, g.failed.trans h.failed, fun n k p => g.processed n k (h.processed n k p)⟩

theorem Quiet.slice {s t : State} (h : Quiet s t) : SliceKept s t := .same (by simp only [State.sliceFields, h.gait, h.insp, h.store])

theorem ite_slice {c : Prop} [Decidable c] {s t u : State} (ht : SliceKept s t) (hu : SliceKept s u) : SliceKept s (if c then t else u) := by
  split <;> assumption

theorem forAll_slice {α : Type} {f : α → State → State} (h : ∀ a s, SliceKept s (f a s)) (l : List α) (s : State) : SliceKept s (forAll l f s) :=
  forAll_induct (P := SliceKept s) (fun a t k => (h a t).trans k) l s (.refl s)

theorem modFrame_cams (n : Nat) (k : BitVec 32) (g : Frame → Frame) (s : State) : CamsKept s (modFrame n k g s) := .same rfl

/-- A change of a frame that leaves its name, and takes no statistics from it. -/
theorem modFrame_slice {n : Nat} {k : BitVec 32} {g : Frame → Frame} (s : State) (hname : ∀ f m j, (g f).is m j = f.is m j)
    (hdone : ∀ f : Frame, f.processed = true → (g f).processed = true) : SliceKept s (modFrame n k g s) := by
  refine ⟨modFrame_cams .., rfl, rfl, fun m j h f hf hfis => ?_⟩
  obtain ⟨f₀, hf₀, rfl⟩ := List.mem_map.mp hf
  split at hfis
  · rw [if_pos ‹_›]
    rw [hname] at hfis
    exact hdone f₀ (h f₀ hf₀ hfis)
  · rw [if_neg ‹_›]
    exact h f₀ hf₀ hfis

/-- R411: the frame has its statistics. -/
theorem modFrame_processed {n : Nat} {k : BitVec 32} {g : Frame → Frame} (s : State) (hdone : ∀ f : Frame, (g f).processed = true) :
    FrameProcessed n k (modFrame n k g s) := by
  intro f hf hfis
  obtain ⟨f₀, -, rfl⟩ := List.mem_map.mp hf
  split at hfis
  · rw [if_pos ‹_›]
    exact hdone f₀
  · exact absurd hfis ‹_›

theorem freeFrames_slice (s : State) : SliceKept s (freeFrames s) :=
  ⟨.same rfl, rfl, rfl, fun _ _ h g hg => h g (List.mem_of_mem_filter hg)⟩

theorem assignSlices_slice (s : State) : SliceKept s (assignSlices s) := by
  unfold assignSlices
  dsimp only
  refine forAll_slice (fun k t => ?_) _ s
  split
  · exact modFrame_slice t (fun _ _ _ => rfl) (fun _ h => h)
  · exact .refl t

theorem noteBacklog_slice (s : State) : SliceKept s (noteBacklog s) :=
  ite_slice (.same rfl) (ite_slice ((ev_quiet ..).slice.trans (.same rfl)) (.refl s))

theorem frameDone_slice (f : Frame) (s : State) : SliceKept s (frameDone f s) := (ev_quiet ..).slice

theorem noteRewrite_cams (u : Nat) (s : State) : CamsKept s (noteRewrite u s) := ite_cams (.same rfl) (.refl s)

theorem writeUnits_cams (cls u : Nat) (bytes : List Byte) (s : State) : CamsKept s (writeUnits cls u bytes s) := by
  unfold writeUnits
  dsimp only
  refine (forAll_cams (fun i t => ?_) _ _).trans (.same rfl)
  exact (noteRewrite_cams _ _).trans ((countAccess_read ..).camsKept.trans (.same rfl))

theorem zeroFill_cams (f : Frame) (dtype : Nat) (s : State) : CamsKept s (zeroFill f dtype s) := by
  unfold zeroFill
  dsimp only
  exact ite_cams (.refl s) (forAll_cams (fun _ t => writeUnits_cams _ _ _ t) _ s)

theorem frameFault_cams (f : Frame) (s : State) : CamsKept s (frameFault f s) := by
  unfold frameFault
  extract_lets x due
  exact ite_cams (.refl s) ((ev_cams ..).trans (.same rfl))

theorem closeFrame_cams (n : Nat) (k : BitVec 32) (more : List Nat) (s : State) : CamsKept s (closeFrame n k more s) := by
  unfold closeFrame
  split
  · exact .refl s
  · extract_lets f₁ none' f₂ changed _ logged filled faulted done
    have hchanged : CamsKept s changed := modFrame_cams ..
    have hlogged : CamsKept s logged := CamsKept.trans (t := changed) (.same rfl) hchanged
    have hfaulted : CamsKept s faulted := (frameFault_cams _ filled).trans ((zeroFill_cams _ _ logged).trans hlogged)
    have hdone : CamsKept s done := ite_cams ((frameDone_slice _ faulted).toCamsKept.trans hfaulted) hfaulted
    have hfreed : CamsKept s (freeFrames done) := (freeFrames_slice done).toCamsKept.trans hdone
    exact ite_cams (.refl s) ((noteBacklog_slice _).toCamsKept.trans ((assignSlices_slice _).toCamsKept.trans hfreed))

theorem cutFrames_cams (sel : Nat → Bool) (s : State) : CamsKept s (cutFrames sel s) := forAll_cams (fun _ t => closeFrame_cams _ _ _ t) _ s

/-! ### A late line and the rein-back that it may start (R332 to R336, R377 to R383) -/

theorem limitChanged_fseq (s : State) : FseqKept s (limitChanged s) := by
  have hsend : FseqKept s (sendLimit s) := (ev_fseq ..).trans (.same rfl)
  have hupdate : FseqKept s (updateLimit s) := ite_fseq hsend (ite_fseq (.same rfl) (ite_fseq (.refl s) (.same rfl)))
  have hjudge : FseqKept (updateLimit s) (judgeSpeed (updateLimit s)) := ite_fseq (.same rfl) (.same rfl)
  exact hjudge.trans hupdate

theorem slowPress_fseq (s : State) : FseqKept s (slowPress s) := (limitChanged_fseq _).trans (.same rfl)

theorem wheelerLateLine_fseq (s : State) : FseqKept s (wheelerLateLine s) := ite_fseq ((holdWheeler_fseq _ _).trans (.same rfl)) (.same rfl)

theorem holdRow_fseq (u : Nat) (L : Int) (cause : Nat) (s : State) : FseqKept s (holdRow u L cause s) := by
  unfold holdRow
  extract_lets _ held _ moved
  have hheld : FseqKept s held := setRow_fseq rfl
  have hmoved : FseqKept s moved := ite_fseq (FseqKept.trans (t := held) (.same rfl) hheld) hheld
  exact ite_fseq (.refl s) ((updateSplice_fseq _ moved).trans hmoved)

theorem reinBegin_fseq (u : Nat) (L : Int) (cause : Nat) (s : State) : FseqKept s (reinBegin u L cause s) := by
  unfold reinBegin
  extract_lets carried held first cause' _ _ begun counted _ spliced raised
  have hrow : ∀ v t, FseqKept t (t.setRow v { t.row v with held := true, resumed := true, pred := none }) := fun _ _ => setRow_fseq rfl
  have hheld : FseqKept s held := forAll_fseq hrow carried s
  have hspliced : FseqKept held spliced := .same rfl
  exact (mirrorLogs_fseq _).trans ((mirrorRein_fseq _).trans ((holdRow_fseq u L cause raised).trans ((ev_fseq ..).trans (hspliced.trans hheld))))

theorem reinWait_fseq (s : State) : FseqKept s (reinWait s) := (mirrorRein_fseq _).trans (.same rfl)

theorem muteReverse_fseq (s : State) : FseqKept s (muteReverse s) := by
  unfold muteReverse
  refine forAll_fseq (fun _ _ => ?_) _ s
  exact .same rfl

theorem reinReverse_fseq (s : State) : FseqKept s (reinReverse s) := by
  unfold reinReverse
  extract_lets cut ps t _ turned muted raised _ mirrored
  have hturned : FseqKept s turned := FseqKept.trans (t := cut) (.same rfl) (cutFrames_cams _ s).fseq
  have hmuted : FseqKept s muted := (muteReverse_fseq _).trans ((updateSplice_fseq _ turned).trans hturned)
  have hraised : FseqKept s raised := (ev_fseq ..).trans hmuted
  have hmirrored : FseqKept s mirrored := (mirrorRein_fseq _).trans (FseqKept.trans (t := raised) (.same rfl) hraised)
  exact ite_fseq ((reinAbandon_fseq _ muted).trans hmuted) (ite_fseq ((reinWait_fseq mirrored).trans hmirrored) hmirrored)

theorem reinLate_fseq (u : Nat) (L : Int) (cause : Nat) (s : State) : FseqKept s (reinLate u L cause s).2 := by
  unfold reinLate
  extract_lets why begun d
  have hbegun : FseqKept s begun := reinBegin_fseq u L cause s
  split
  · split
    · exact .refl s
    · exact (mirrorRein_fseq _).trans (holdRow_fseq u L cause s)
  · split
    · exact .refl s
    · split
      · exact ite_fseq ((reinReverse_fseq begun).trans hbegun) hbegun
      · split
        · exact .refl s
        · exact ev_fseq ..

theorem lateLine_fseq (u : Nat) (L : Int) (cause pol : Nat) (s : State) (data : Bool) : FseqKept s (lateLine u L cause pol s data).2 := by
  unfold lateLine
  extract_lets h runs
  split
  · exact wheelerLateLine_fseq s
  · split
    next held asked hasked =>
    extract_lets action fresh _ run raised _ slowed logged
    have hasked : FseqKept s asked := by
      have hreins : FseqKept s (if pol = 2 ∨ (runs ∧ cause ≤ 4) then reinLate u L cause s else (false, s)).2 := by
        split
        · exact reinLate_fseq u L cause s
        · exact .refl s
      rwa [hasked] at hreins
    have hrun : FseqKept s run := (setRow_fseq (by rfl)).trans hasked
    have hraised : FseqKept s raised := ite_fseq ((ev_fseq ..).trans hrun) hrun
    have hslowed : FseqKept s slowed := FseqKept.trans (t := raised)
      (ite_fseq (ite_fseq (slowPress_fseq raised) (ite_fseq (.same rfl) (.refl raised))) (.refl raised)) hraised
    exact FseqKept.trans (t := logged) (.same rfl) ((logLateLine_fseq _ _ _ _ slowed).trans hslowed)

/-! ### After a line: the next prediction, management blocks, pages, the job and the rein-back's end -/

theorem predictRow_fseq (u : Nat) (s : State) : FseqKept s (predictRow u s) := by
  unfold predictRow
  extract_lets r now fixed L e F su tu _ atOnce
  have hnow : FseqKept s atOnce := (setRow_fseq (by rfl)).trans (.same rfl)
  have hset : ∀ p, FseqKept s (s.setRow u { r with pred := p }) := fun _ => setRow_fseq rfl
  refine ite_fseq (.refl s) (ite_fseq (hset none) (ite_fseq (hset none) (ite_fseq hnow ?_)))
  split
  · exact hset none
  · exact ite_fseq hnow (hset _)

theorem sendMgmt_fseq (h : Nat) (o : Output) (s : State) : FseqKept s (sendMgmt h o s) := by
  unfold sendMgmt
  split
  · exact .same rfl
  · exact (emit_quiet o s).fseq

theorem flushMgmt_fseq (h : Nat) (s : State) : FseqKept s (flushMgmt h s) := by
  unfold flushMgmt
  extract_lets x
  have hset : ∀ y, FseqKept s (s.setLane h y) := fun _ => .same rfl
  refine ite_fseq ((forAll_fseq (sendMgmt_fseq h) _ _).trans (hset _)) (ite_fseq (.refl s) ?_)
  split
  · exact .refl s
  · exact (sendMgmt_fseq h _ _).trans (hset _)

theorem newPeriod_fseq (u : Nat) (s : State) : FseqKept s (newPeriod u s) :=
  ite_fseq (.refl s) ((flushMgmt_fseq _ _).trans (.same rfl))

theorem sendAck_fseq (n : Nat) (s : State) : FseqKept s (sendAck n s) := by
  unfold sendAck
  extract_lets r v limit
  split
  · exact .refl s
  · exact .same rfl

theorem updateRelease_fseq (n : Nat) (s : State) : FseqKept s (updateRelease n s) := by
  unfold updateRelease
  extract_lets r0 dead r open' point rel limit rises r' noted
  have hnoted : FseqKept s noted := by
    refine FseqKept.trans (t := s.setRing n (regap s.time.now r')) ?_ (.same rfl)
    exact ite_fseq (ite_fseq (sendRecord_fseq _ _) (.refl _)) (.refl _)
  exact ite_fseq ((sendAck_fseq n noted).trans hnoted) hnoted

theorem releasePage_fseq (page : BitVec 32) (s : State) : FseqKept s (releasePage page s) := by
  unfold releasePage
  dsimp only
  refine forAll_fseq (fun n t => ?_) _ s
  have hwhere : FseqKept t (releaseWhere n (fun x => x.page == page) t) := by
    unfold releaseWhere
    extract_lets r gone known
    exact ite_fseq (.refl t) ((updateRelease_fseq n _).trans (.same rfl))
  exact FseqKept.trans (t := releaseWhere n (fun x => x.page == page) t) (.same rfl) hwhere

theorem checkPages_fseq (s : State) : FseqKept s (checkPages s) := by
  unfold checkPages
  extract_lets due done gone
  have hdone : FseqKept s done := by
    refine forAll_fseq (fun p t => ?_) due s
    exact (mirrorLogs_fseq _).trans ((ev_fseq ..).trans (.same rfl))
  refine FseqKept.trans (t := done) (forAll_fseq (fun p t => ?_) gone done) hdone
  exact (releasePage_fseq _ _).trans (.same rfl)

theorem discardBar_fseq (reason : Nat) (s : State) : FseqKept s (discardBar reason s) := by
  unfold discardBar
  split
  · exact .refl s
  · exact (mirror_fseq _ _).trans ((ev_fseq ..).trans (.same rfl))

theorem checkJob_fseq (s : State) : FseqKept s (checkJob s) := by
  unfold checkJob
  split
  · exact ite_fseq ((discardBar_fseq _ _).trans ((setJob_fseq _ _).trans (.same rfl))) (.refl s)
  · exact ite_fseq ((discardBar_fseq _ _).trans (setJob_fseq _ s)) (.refl s)

theorem checkReinDone_fseq (s : State) : FseqKept s (checkReinDone s) := by
  unfold checkReinDone
  extract_lets all back _ ended out spliced held raised
  have hspliced : FseqKept s spliced := (updateSplice_fseq _ ended).trans (.same rfl)
  have hraised : FseqKept s raised := (ev_fseq ..).trans hspliced
  exact ite_fseq ((mirrorLogs_fseq _).trans ((mirrorRein_fseq raised).trans hraised)) (ite_fseq (.same rfl) (.refl s))

/-! ### FIRE (R324, R346) -/

theorem rowDone_fseq (u : Nat) (p : Prediction) (s : State) : FseqKept s (rowDone u p s) := setRow_fseq rfl

theorem countFires_fseq (h lo : Nat) (codes : List Nat) (s : State) : FseqKept s (countFires h lo codes s) := by
  unfold countFires
  extract_lets hits counted
  have hcounted : FseqKept s counted := by
    refine forAll_fseq (fun _ _ => ?_) hits s
    exact .same rfl
  exact FseqKept.trans (t := counted) (.same rfl) hcounted

/-- A FIRE of line `L` has gone out to row `u` with the number `n`, and the row's next one is numbered one higher. -/
structure LineSent (u : Nat) (L : Int) (n : BitVec 8) (t : State) : Prop where
  out : ∃ fine wave blank crc, Output.fire (u / 2) (u % 2) L n fine wave blank crc ∈ t.model.tx
  next : (t.row u).fseq = n + 1

theorem LineSent.mono {u : Nat} {L : Int} {n : BitVec 8} {s t : State} (h : LineSent u L n s) (hf : FseqKept s t) (hk : Keeps s t) :
    LineSent u L n t := by
  obtain ⟨⟨fine, wave, blank, crc, hout⟩, hnext⟩ := h
  exact ⟨⟨fine, wave, blank, crc, hk.tx _ hout⟩, (hf.row u).trans hnext⟩

/-- R324, R346: the block goes out with the row's number. -/
theorem sendFire_sent (u : Nat) (p : Prediction) (blank : Bool) (s : State) : LineSent u p.line (s.row u).fseq (sendFire u p blank s) := by
  unfold sendFire
  extract_lets h r e
  split
  next x drawn hdrawn =>
  extract_lets fine therm wave sent _ numbered warned
  have hout : Output.fire (u / 2) (u % 2) p.line r.fseq fine wave blank (chkField (fireContent p.line (u % 2) r.fseq.toNat fine wave blank)) ∈
      sent.model.tx := withTag_mem_emit _ _
  have hsent : LineSent u p.line (s.row u).fseq numbered := ⟨⟨_, _, _, _, hout⟩, by simp only [numbered, State.setRow_row]; rfl⟩
  split
  · exact hsent
  · refine hsent.mono ?_ (State.setHead_keeps _ _ _ (ev_keeps _ _ _ _ _ _ (Keeps.refl numbered)))
    exact FseqKept.trans (t := warned) (.same rfl) (ev_fseq ..)

/-- R324, R349: a line goes out as one FIRE, whatever data follow it. -/
theorem sendLine_sent (u : Nat) (p : Prediction) (bad : List Nat) (s : State) : LineSent u p.line (s.row u).fseq (sendLine u p bad s) := by
  unfold sendLine
  extract_lets h r L e d all sent
  split
  · exact sendFire_sent u p true s
  · split
    next lo n _ =>
    extract_lets codes
    split
    · exact sendFire_sent u p true s
    · exact (sendFire_sent u p false s).mono ((countFires_fseq ..).trans (emit_quiet ..).fseq)
        (countFires_keeps _ _ _ _ (emit_keeps _ _ (Keeps.refl sent)))

/-- R332: what FIRE does of a line that no cause makes late, `bad` the units of its assembly reads that gave no data. -/
def fireOnTime (u : Nat) (p : Prediction) (bad : List Nat) (s : State) : State :=
  let s := rowDone u p (sendLine u p bad s)
  if bad.isEmpty then s.setRow u { s.row u with lateRun := 0 }
  else
    let s := s.setHead (u / 2) { s.head (u / 2) with lastC5 := tput none (s.head (u / 2)).lastC5 (u % 2) (some p.line) }
    (lateLine u p.line 5 (policyOf s 5) s).2

/-- What FIRE does once it has done with the line. -/
def afterFire (u : Nat) (s : State) : State := checkReinDone (checkJob (checkPages (newPeriod u (predictRow u s))))

theorem afterFire_fseq (u : Nat) (s : State) : FseqKept s (afterFire u s) :=
  (checkReinDone_fseq _).trans ((checkJob_fseq _).trans ((checkPages_fseq _).trans ((newPeriod_fseq u _).trans (predictRow_fseq u s))))

theorem afterFire_keeps (u : Nat) (s : State) : Keeps s (afterFire u s) :=
  checkReinDone_keeps _ (checkJob_keeps _ (checkPages_keeps _ (newPeriod_keeps _ _ (predictRow_keeps _ _ (Keeps.refl s)))))

/-- Units that gave no data make a line late by cause 5 only after its FIRE has gone out. -/
theorem fireOnTime_sent (u : Nat) (p : Prediction) (bad : List Nat) (s : State) : LineSent u p.line (s.row u).fseq (fireOnTime u p bad s) := by
  unfold fireOnTime
  extract_lets done late
  have hdone : LineSent u p.line (s.row u).fseq done := (sendLine_sent u p bad s).mono (rowDone_fseq ..) (rowDone_keeps _ _ _ (Keeps.refl _))
  split
  · exact hdone.mono (setRow_fseq rfl) (State.setRow_keeps _ _ _ (Keeps.refl done))
  · refine hdone.mono ?_ (lateLine_keeps _ _ _ _ _ _ (State.setHead_keeps _ _ _ (Keeps.refl done)))
    exact (lateLine_fseq ..).trans (.same rfl)

/-- R332: a line without a cause, on an ACTIVE lane and not dropped, goes out after its assembly reads. -/
theorem fireStep_onTime {u : Nat} {p : Prediction} {reads : DotReads} {s v : State} (hdropped : p.dropped = false)
    (hv : v = beginBars p.line (if p.moved = 0 then s else ev 0x4014 (lineDetail u p.movedLines) s (line := atLine p.line)))
    (hcauses : lateCauses v u p.line p.ts reads.late = []) (hlane : (v.lane (u / 2)).state = 6) :
    ∃ bad read, ReadKept v read ∧ fireStep u p reads s = afterFire u (fireOnTime u p bad read) := by
  unfold fireStep
  extract_lets h L warned begun causes runs
  have hbegun : v = begun := hv
  rw [hbegun] at hcauses hlane ⊢
  rcases hreads : (if runs = true then withLatencies reads.lats (assemblyReads u L reads) begun else ([], begun)) with ⟨bad, read⟩
  have hread : ReadKept begun read := by
    have hpair : ReadKept begun (if runs then withLatencies reads.lats (assemblyReads u L reads) begun else ([], begun)).2 := by
      split
      · exact withLatencies_read (assemblyReads_read u L reads) _ begun
      · exact .refl begun
    rwa [hreads] at hpair
  have hactive : (read.lane h).state = 6 := by rw [State.lane, hread.lanes]; exact hlane
  have hnone : causes = [] := hcauses
  refine ⟨bad, read, hread, ?_⟩
  simp only [hdropped, hactive, hnone]
  rfl

/-- R116, R324, R332: such a line is sent with the row's number. -/
theorem fireStep_sent {u : Nat} {p : Prediction} {reads : DotReads} {s v : State} (hdropped : p.dropped = false)
    (hv : v = beginBars p.line (if p.moved = 0 then s else ev 0x4014 (lineDetail u p.movedLines) s (line := atLine p.line)))
    (hcauses : lateCauses v u p.line p.ts reads.late = []) (hlane : (s.lane (u / 2)).state = 6) :
    LineSent u p.line (s.row u).fseq (fireStep u p reads s) := by
  have hbegun : ReadKept s v := by
    rw [hv]
    refine ReadKept.trans (t := if p.moved = 0 then s else ev 0x4014 (lineDetail u p.movedLines) s (line := atLine p.line)) (.same rfl) ?_
    exact ite_read (.refl s) (ev_quiet ..).read
  obtain ⟨bad, read, hread, hstep⟩ := fireStep_onTime hdropped hv hcauses (by rw [State.lane, hbegun.lanes]; exact hlane)
  have hsent := fireOnTime_sent u p bad read
  rw [(hread.trans hbegun).fseq.row u] at hsent
  rw [hstep]
  exact hsent.mono (afterFire_fseq u _) (afterFire_keeps u _)

/-- Settles O37: the step of FIRE sends the line (`fireStep_sent`). -/
theorem fireSendsTheLine : Obligations.FireSendsTheLine := by
  refine fun dt head row reads s => ⟨fun p v hpred hts hlive hheld hdropped hv hcauses hlane => ?_, fun hnone line => ?_⟩
  · have hguard : (p.line == p.line && decide (p.ts ≤ (tick dt s).time.now) && gaitLive (tick dt s) && !((tick dt s).row (2 * head + row)).held) = true := by
      simp only [Bool.and_eq_true, beq_self_eq_true, decide_eq_true_eq, Bool.not_eq_true']
      exact ⟨⟨⟨trivial, hts⟩, hlive⟩, hheld⟩
    have hexec : exec (.fire dt head row p.line reads) s = .next (fireStep (2 * head + row) p reads (tick dt s)) := by
      have hpred' : ((tick dt s).row (2 * head + row)).pred = some p := hpred
      change execFire dt head row p.line reads s = _
      simp only [execFire, hpred']
      exact guardOk_of hguard _ _
    have hhead : (2 * head.val + row.val) / 2 = head := by omega
    have hrow : (2 * head.val + row.val) % 2 = row := by omega
    obtain ⟨⟨fine, wave, blank, crc, hout⟩, hnext⟩ := fireStep_sent (s := tick dt s) hdropped hv hcauses (by rw [hhead]; exact hlane)
    rw [hhead, hrow] at hout
    exact ⟨_, fine, wave, blank, crc, hexec, hnext, hout⟩
  · have hnone' : ((tick dt s).row (2 * head + row)).pred = none := hnone
    change execFire dt head row line reads s = _
    simp only [execFire, hnone']
    rfl

/-! ### Frame triggers (R400, R404 to R406) -/

theorem setSensor_cams (s : State) (n : Nat) (x : Sensor) : CamsKept s (s.setSensor n x) := .same rfl

theorem drawFree_cams (s : State) : CamsKept s (drawFree s).2 := .same rfl

theorem emit_cams (o : Output) (s : State) : CamsKept s (emit o s) := (emit_quiet o s).read.camsKept

theorem sendList_cams (c n : Nat) (L : Int) (s : State) : CamsKept s (sendList c n L s) :=
  ite_cams (.refl s) (forAll_cams (fun _ t => emit_cams _ t) _ s)

theorem startList_cams (c n : Nat) (L : Int) (s : State) : CamsKept s (startList c n L s) := by
  unfold startList
  extract_lets g x opened
  exact ite_cams (setSensor_cams ..) (ite_cams (setSensor_cams ..) ((sendList_cams c n L opened).trans (setSensor_cams ..)))

theorem failList_cams (c n entry : Nat) (s : State) : CamsKept s (failList c n entry s) := (ev_cams ..).trans (setSensor_cams ..)

theorem exposureTrigger_cams (c n : Nat) (L : Int) (s : State) : CamsKept s (exposureTrigger c n L s) := by
  unfold exposureTrigger
  extract_lets x sampled g failed
  have hsampled : CamsKept s sampled := setSensor_cams ..
  have hfailed : CamsKept s failed :=
    (ite_cams ((failList_cams c n _ _).trans (drawFree_cams sampled)) (.refl sampled)).trans hsampled
  have hstarted : CamsKept s (startList c n L failed) := (startList_cams c n L failed).trans hfailed
  exact ite_cams hstarted (ite_cams hstarted hfailed)

theorem openFrame_cams (c n : Nat) (F : Int) (lines m : Nat) (s : State) : CamsKept s (openFrame c n F lines m s) := by
  unfold openFrame
  extract_lets e y x at' inl retake kept size place dropped
  split
  next exp fault hexp =>
  extract_lets flags f sampled _ opened
  have hopened : CamsKept s opened := CamsKept.trans (t := sampled) (.same rfl) (setSensor_cams ..)
  clear_value place opened
  split
  · exact CamsKept.trans (t := opened) (.same rfl) hopened
  · exact ite_cams ((ev_cams ..).trans (CamsKept.trans (t := opened) (.same rfl) hopened)) hopened

theorem frameTrigger_cams (c : Nat) (F : Int) (lines m : Nat) (s : State) : CamsKept s (frameTrigger c F lines m s) := by
  have hend : CamsKept s (endFrames c s) := forAll_cams (fun _ t => closeFrame_cams _ _ _ t) _ s
  refine CamsKept.trans (forAll_cams (fun n t => ?_) _ _) hend
  exact (openFrame_cams ..).trans (exposureTrigger_cams ..)

/-! ### Line triggers (R119, R396, R397) -/

theorem camPulse_cams (c n : Nat) (frame : Bool) (s : State) : CamsKept s (camPulse c n frame s) :=
  ite_cams (.refl s) ((emit_cams _ _).trans (.same rfl))

theorem predictCam_camPort (c : Nat) (s : State) : ∃ p, (predictCam c s).camPort c = { s.camPort c with pred := p } :=
  ⟨_, State.setCamPort_camPort _ _ _⟩

/-- R396: the lead's pulse goes out. -/
theorem camPulse_out {c n : Nat} {frame : Bool} {s : State} (h : isWheeler s = false) : Output.camTrigger c frame ∈ (camPulse c n frame s).model.tx := by
  rw [camPulse, if_neg (by rw [h]; decide)]
  exact withTag_mem_emit _ _

/-- R119, R397: the port goes on to the frame's next line; above its mark, and not too soon after the last, the pulse goes out. -/
theorem lineTrigger_spec (c : Nat) (d : LineDue) (t : Nat) (s : State) :
    ((lineTrigger c d t s).camPort c).m = d.m + 1 ∧ (d.new = true → ((lineTrigger c d t s).camPort c).frameF = some d.first) ∧
      (∀ p, (s.camPort c).mark = some p → p < d.pos → (s.camPort c).lastTrig = none → isWheeler s = false →
        ((lineTrigger c d t s).camPort c).mark = some d.pos ∧ ((lineTrigger c d t s).camPort c).lastTrig = some t ∧
          Output.camTrigger c false ∈ (lineTrigger c d t s).model.tx) := by
  unfold lineTrigger
  extract_lets e p₀ opened _ begun p soon above moved _ produced pulsed
  have hbegun : p.mark = (s.camPort c).mark ∧ p.lastTrig = (s.camPort c).lastTrig ∧ (d.new = true → p.frameF = some d.first) := by
    by_cases hnew : d.new = true
    · have hport : p = opened.camPort c := by
        simp only [p, begun, if_pos hnew]
        split <;> rfl
      rw [hport, State.setCamPort_camPort]
      exact ⟨rfl, rfl, fun _ => rfl⟩
    · have hport : p = s.camPort c := by simp only [p, begun, if_neg hnew]
      rw [hport]
      exact ⟨rfl, rfl, fun h => absurd h hnew⟩
  obtain ⟨hmark, hlast, hframe⟩ := hbegun
  have hmoved : moved.camPort c = { p with m := d.m + 1 } := State.setCamPort_camPort _ _ _
  have hproduced : produced.camPort c = { moved.camPort c with mark := some d.pos, lastTrig := some t, frameTrig := true } :=
    State.setCamPort_camPort _ _ _
  split
  next hdue =>
    set after := if p.frameTrig then pulsed else frameTrigger c d.first d.lines d.m (camPulse c (frameTrigOf e c) true pulsed)
    have hcams : CamsKept produced after :=
      (ite_cams (.refl pulsed) ((frameTrigger_cams ..).trans (camPulse_cams ..))).trans (camPulse_cams c _ false produced)
    have hkeeps : Keeps pulsed after := by
      simp only [after]
      split
      · exact Keeps.refl pulsed
      · exact frameTrigger_keeps _ _ _ _ _ (camPulse_keeps _ _ _ _ (Keeps.refl pulsed))
    rw [hcams.camPort, hproduced, hmoved]
    refine ⟨rfl, hframe, fun x hx hbelow hfirst hlead => ⟨rfl, rfl, hkeeps.tx _ (camPulse_out ?_)⟩⟩
    have hwheeler : isWheeler produced = isWheeler s := by
      have hbegun : isWheeler begun = isWheeler s := by
        simp only [begun]
        split
        · split <;> rfl
        · rfl
      exact hbegun
    rw [hwheeler, hlead]
  next hmissed =>
    set after := if p.frameTrig then _ else moved
    have hcams : CamsKept moved after := ite_cams (forAll_cams (fun f u => modFrame_cams ..) _ moved) (.refl moved)
    rw [hcams.camPort, hmoved]
    refine ⟨rfl, hframe, fun x hx hbelow hfirst _ => absurd ?_ hmissed⟩
    have hsoon : soon = false := by simp only [soon, hlast, hfirst]
    have habove : above = true := by simp only [above, hmark, hx, decide_eq_true_eq]; exact hbelow
    rw [hsoon, habove]
    exact ⟨rfl, rfl⟩

/-! ### What a slice works on (R407, R411) -/

theorem endRemounts_read (sel : Nat → Engine → Bool) (s : State) : ReadKept s (endRemounts sel s) := by
  rw [endRemounts_eq]; exact .same rfl

theorem dieFault_read (die reason cls : Nat) (v : Int) (trigger : Option Nat) (silent : Bool) (s : State) :
    ReadKept s (dieFault die reason cls v trigger silent s) :=
  (addFault_read ..).trans ((raise_quiet ..).read.trans (endRemounts_read _ s))

/-- R411: reading a frame changes no stored byte. -/
theorem readFrame_mem (n : Nat) (k : BitVec 32) (s : State) : (readFrame n k s).store.mem = s.store.mem := by
  unfold readFrame
  split
  · rfl
  · split
    · rfl
    · extract_lets dtype stride
      refine forAll_induct (P := fun t => t.store.mem = s.store.mem) (fun m t ht => ?_) _ _ rfl
      extract_lets units
      split
      next bad read hreads =>
      have hread : ReadKept t read := by
        rw [show read = (bad, read).2 from rfl, ← hreads]
        refine foldl_read (fun p u => ?_) units (false, t)
        exact readUnit_read ..
      split
      · exact hread.mem.trans ht
      · exact hread.mem.trans ht

theorem alignPair_slice (f g : Frame) (s : State) : SliceKept s (alignPair f g s) := by
  unfold alignPair
  split
  extract_lets w e p data shift peak r aligned
  exact ite_slice (.same rfl) (ev_quiet ..).slice

theorem alignFrame_slice (f : Frame) (s : State) : SliceKept s (alignFrame f s) :=
  ite_slice (.refl s) (forAll_slice (fun g t => alignPair_slice f g t) _ s)

theorem missWindows_slice (f : Frame) (s : State) : SliceKept s (missWindows f s) := by
  unfold missWindows
  extract_lets stop
  refine forAll_slice (fun w t => ?_) _ s
  exact ite_slice (.same rfl) (ite_slice (.refl t) (.same rfl))

theorem sliceCount_slice (k : Nat) (f : Frame) (s : State) : SliceKept s (sliceCount k f s) := .same rfl

theorem keepRecords_slice (s : State) : SliceKept s (keepRecords s) := .same rfl

/-- The frame found under a frame's own name has that name. -/
theorem frameOf_getD_name (s : State) (f : Frame) : ((frameOf s f.sensor f.frame).getD f).sensor = f.sensor ∧
    ((frameOf s f.sensor f.frame).getD f).frame = f.frame := by
  cases hfound : frameOf s f.sensor f.frame with
  | none => exact ⟨rfl, rfl⟩
  | some g =>
    have hname := List.find?_some hfound
    simpa [Frame.is] using hname

/-- R411: the slice's frame has its statistics, and nothing stored has changed. -/
theorem sliceDone_spec (k : Nat) (f : Frame) (s : State) : (sliceDone k f s).store.mem = s.store.mem ∧
    FrameProcessed f.sensor f.frame (sliceDone k f s) := by
  unfold sliceDone
  extract_lets read g _ gathered done aligned counted raised
  have hname : g.sensor = f.sensor ∧ g.frame = f.frame := frameOf_getD_name read f
  have hgathered : SliceKept read gathered := ite_slice (.refl read) (.same rfl)
  have hdone : FrameProcessed f.sensor f.frame done := by
    rw [← hname.1, ← hname.2]
    exact modFrame_processed gathered (fun _ => rfl)
  have haligned : SliceKept done aligned := ite_slice (.refl done) (alignFrame_slice g done)
  have hraised : SliceKept done raised :=
    (frameDone_slice g counted).trans ((sliceCount_slice k g _).trans ((missWindows_slice g aligned).trans haligned))
  have hend : SliceKept done (noteBacklog (assignSlices (keepRecords (freeFrames raised)))) :=
    (noteBacklog_slice _).trans ((assignSlices_slice _).trans ((keepRecords_slice _).trans ((freeFrames_slice raised).trans hraised)))
  refine ⟨?_, hend.processed _ _ hdone⟩
  rw [hend.store]
  exact (congrArg Store.mem hgathered.store).trans (readFrame_mem _ _ s)

/-- R407: the slice is out of use, and nothing stored has changed. -/
theorem sliceFault_spec {k : Nat} {s : State} (h : tget false s.insp.sliceFailed k = false) :
    tget false (sliceFault k s).insp.sliceFailed k = true ∧ (sliceFault k s).store.mem = s.store.mem := by
  unfold sliceFault
  rw [if_neg (by rw [h]; decide)]
  extract_lets line _ failed last raised faulted died freed
  have hdied : ReadKept failed died :=
    (ite_read (dieFault_read ..) (.refl faulted)).trans ((addFault_read ..).trans (raise_quiet ..).read)
  have hfreed : SliceKept died freed := by
    refine forAll_slice (fun f t => ?_) _ died
    extract_lets passed done
    have hpassed : SliceKept t passed := modFrame_slice t (fun _ _ _ => rfl) (fun _ h => h)
    have hdone : SliceKept passed done := modFrame_slice passed (fun _ _ _ => rfl) (fun _ _ => rfl)
    exact ite_slice ((frameDone_slice _ done).trans (hdone.trans hpassed)) hpassed
  have hend : SliceKept died (noteBacklog (assignSlices (freeFrames freed))) :=
    (noteBacklog_slice _).trans ((assignSlices_slice _).trans ((freeFrames_slice freed).trans hfreed))
  refine ⟨?_, ?_⟩
  · rw [hend.failed, hdied.insp]
    exact tget_tput_self (d := false) (v := true)
  · rw [hend.store, hdied.mem]

/-! ### Exposure lists and stuck buses (R406, R555) -/

/-- R406: a list that ends whole is in force; one that stops leaves what was in force. -/
theorem listDone_spec (n : Nat) (failed : Option (Fin 16)) (s : State) : ((listDone n failed s).sensor n).expRun = false ∧
    (failed = none → ((listDone n failed s).sensor n).expOpen = none ∧
      ((listDone n failed s).sensor n).expDone = (s.sensor n).expOpen.getD (s.sensor n).expDone) ∧
    (failed ≠ none → ((listDone n failed s).sensor n).expDone = (s.sensor n).expDone) := by
  cases failed with
  | none => simp [listDone]
  | some k => simp [listDone, failList]

/-- R555: a stuck camera bus is clocked free, whatever becomes of its transfer. -/
theorem busStuck_camera {bus : Nat} (h : bus < 4) (released : Bool) (s : State) : Output.cci bus 0 [] ∈ (busStuck bus released s).model.tx := by
  rw [busStuck, if_pos h]
  have hout : Output.cci bus 0 [] ∈ (emit (.cci bus 0 []) s).model.tx := withTag_mem_emit _ s
  dsimp only
  split
  · exact hout
  · exact (cciFails_keeps _ _ (Keeps.refl _)).tx _ hout

/-- R505, R555: so is PMBus, and its request is repeated. -/
theorem busStuck_power (released : Bool) (s : State) : Output.pmbus 0 4 0 ∈ (busStuck 4 released s).model.tx ∧ Quiet s (busStuck 4 released s) := by
  rw [busStuck, if_neg (by decide)]
  have hout : Output.pmbus 0 4 0 ∈ (emit (.pmbus 0 4 0) s).model.tx := withTag_mem_emit _ s
  split
  · exact ⟨(emit_keeps _ _ (Keeps.refl _)).tx _ hout, (emit_quiet ..).trans (emit_quiet ..)⟩
  · exact ⟨hout, emit_quiet ..⟩

/-- Settles O48: a line trigger by what it leaves of its port, the other commands by the step of each. -/
theorem linesListsAndSlices : Obligations.LinesListsAndSlices := by
  refine ⟨fun dt port d x s hdue hpred hx hruns haxis => ?_, fun dt s => ⟨fun sensor failed hrun hfree => ?_, fun slice f hf hruns hworks => ?_,
    fun slice hworks => ?_, fun slice hfailed => ?_, fun bus released hbus hruns => ?_, fun released hsupplied => ?_⟩⟩
  · have hguard : (captureRuns (tick dt s) && (tick dt s).axis.state == 1 && d.pos == d.pos && decide (x ≤ (tick dt s).time.now)) = true := by
      simp only [Bool.and_eq_true, beq_iff_eq, decide_eq_true_eq]
      exact ⟨⟨⟨hruns, haxis⟩, trivial⟩, hx⟩
    have hexec : exec (.lineTrigger dt port) s = .next (predictCam port (lineTrigger port d x (tick dt s))) := by
      have hpred' : ((tick dt s).camPort port).pred = some (d.pos, x) := hpred
      change execLineTrigger dt port s = _
      simp only [execLineTrigger, hdue, hpred']
      exact guardOk_of hguard _ _
    obtain ⟨hm, hframe, hpulse⟩ := lineTrigger_spec port d x (tick dt s)
    obtain ⟨p, hp⟩ := predictCam_camPort port (lineTrigger port d x (tick dt s))
    refine ⟨_, hexec, ?_⟩
    rw [hp]
    refine ⟨hm, hframe, fun q hq hbelow hfirst hlead => ?_⟩
    obtain ⟨hmark, hlast, hout⟩ := hpulse q hq hbelow hfirst hlead
    exact ⟨hmark, hlast, (predictCam_keeps _ _ (Keeps.refl _)).tx _ hout⟩
  · have hguard : (((tick dt s).sensor sensor).expRun &&
        ((tick dt s).camPort (sensorCfg (envNow (tick dt s)) sensor).port).cciHandle.isNone) = true := by
      rw [Bool.and_eq_true, Option.isNone_iff_eq_none]
      exact ⟨hrun, hfree⟩
    exact ⟨_, guardOk_of hguard _ _, listDone_spec sensor failed (tick dt s)⟩
  · have hexec : exec (.sliceDone dt slice) s = .next (sliceDone slice f (tick dt s)) := by
      have hf' : sliceFrame (tick dt s) slice = some f := hf
      change execSliceDone dt slice s = _
      simp only [execSliceDone, hf']
      exact guardOk_of (by rw [Bool.and_eq_true, Bool.not_eq_true']; exact ⟨hruns, hworks⟩) _ _
    exact ⟨_, hexec, sliceDone_spec slice f (tick dt s)⟩
  · exact ⟨_, rfl, sliceFault_spec (s := tick dt s) hworks⟩
  · exact congrArg ok (if_pos hfailed)
  · exact ⟨_, guardOk_of ((if_pos hbus).trans hruns) _ _, busStuck_camera hbus released (tick dt s)⟩
  · exact ⟨_, guardOk_of hsupplied _ _, busStuck_power released (tick dt s)⟩

end Sys2Proof.Machine

/-! ## Proofs of the family "image streams"

Writes of rings, partitions, trace links and logs; packets of the streams, acknowledgements and links; the header of a record, and the records that
either chip takes. -/

namespace Sys2Proof.Machine

/-! ### Writes of rings, partitions, trace links and logs (R150, R161, R170, R215, R333, R361, R364) -/

/-- R475: a WRITE of one object that the lead does not mirror leaves what the write of the object leaves, but for the host's side. -/
theorem WritePasses.one_quiet {dt k i j ty : Nat} {r : Req} {x : Val} {s v : State} (w : WritePasses dt r [entry i j ty x] k s v)
    (halias : aliasWrite i x = some x) (htarget : aliasTarget i = i) (hown : mirroredObject i = false) :
    ∃ t, writeObject dt r (entry i j ty x) s = .next t ∧ Quiet (applyWrite true i j x v) t := by
  obtain ⟨first, hexec⟩ := w.runs
  have hentries : applyEntries [entry i j ty x] v = applyWrite true i j x v := by
    simp [applyEntries, mirrorWrite, forAll, applyEntry, halias, htarget, hown]
  exact ⟨_, hexec, by rw [← hentries]; exact reply_quiet _ _ _ _ _⟩

section
variable (i : Nat) (s : State)
theorem noteStored_ring (m : Nat) : (noteStored i s).ring m = s.ring m := by obtain ⟨start, h⟩ := noteStored_eq i s; rw [h]; rfl
theorem noteStored_lane (m : Nat) : (noteStored i s).lane m = s.lane m := by obtain ⟨start, h⟩ := noteStored_eq i s; rw [h]; rfl
theorem noteStored_store : (noteStored i s).store = s.store := by obtain ⟨start, h⟩ := noteStored_eq i s; rw [h]
end

/-! Rings (R150, R161) -/

theorem updateCapacity_rings (s : State) : (updateCapacity s).rings = s.rings := by
  unfold updateCapacity
  extract_lets c top _ published raised judged
  have hjudged : judged.rings = raised.rings := by
    unfold judged
    split
    · exact (addFault_calm ..).rings
    · rfl
  split
  · rfl
  · rw [(limitChanged_calm judged).rings, hjudged]
    exact raise_rings ..

theorem updateCapacity_ring (s : State) (m : Nat) : (updateCapacity s).ring m = s.ring m := by rw [State.ring, State.ring, updateCapacity_rings]

/-- Log 10: enabling a ring that is enabled changes nothing. -/
theorem enableRing_of_enabled {n : Nat} {s : State} (h : (s.ring n).enable = true) : enableRing n s = s := if_pos h

/-- R161: an accepted enable empties the ring. -/
theorem enableRing_of_disabled {n : Nat} {s : State} (h : (s.ring n).enable = false) : ((enableRing n s).ring n).enable = true ∧
    ((enableRing n s).ring n).cum = 0 ∧ ((enableRing n s).ring n).release = 0 ∧ ((enableRing n s).ring n).index = [] ∧
    ((enableRing n s).ring n).ranges = [] := by
  unfold enableRing
  rw [if_neg (by rw [h]; decide), updateCapacity_ring, State.setRing_ring]
  exact ⟨rfl, rfl, rfl, rfl, rfl⟩

theorem disableRing_ring (n : Nat) (s : State) : (disableRing n s).ring n = { s.ring n with enable := false } := by
  rw [disableRing, updateCapacity_ring, State.setRing_ring]

theorem disableRing_ring_ne {n m : Nat} (h : m ≠ n) (s : State) : (disableRing n s).ring m = s.ring m := by
  rw [disableRing, updateCapacity_ring, State.setRing_ring_ne _ _ _ _ h]

theorem sendAck_store (n : Nat) (s : State) : (sendAck n s).store = s.store := by
  unfold sendAck
  dsimp only
  split <;> rfl

theorem noteRing_store (n : Nat) (old : Ring) (s : State) : (noteRing n old s).store = s.store := by
  unfold noteRing sendRing
  dsimp only
  split
  · split <;> rfl
  · rfl

theorem updateRelease_store (n : Nat) (s : State) : (updateRelease n s).store = s.store := by
  unfold updateRelease
  extract_lets r0 dead r open' point rel limit rises r' noted
  have hnoted : noted.store = s.store := noteRing_store ..
  split
  · rw [sendAck_store, hnoted]
  · exact hnoted

theorem releaseTo_store (n v : Nat) (s : State) : (releaseTo n v s).store = s.store := by
  unfold releaseTo releaseWhere
  extract_lets r gone known
  split
  · rfl
  · rw [updateRelease_store]; rfl

/-! Partitions (R170, R172) -/

theorem skipSlabs_spec (pick : Nat → Bool) (s : State) : (skipSlabs pick s).proto = s.proto ∧ (skipSlabs pick s).store.mem = s.store.mem := by
  unfold skipSlabs
  exact ⟨rfl, rfl⟩

theorem loseSlabs_spec (pick : Nat → Bool) (s : State) : (loseSlabs pick s).proto = s.proto ∧ (loseSlabs pick s).store.mem = s.store.mem := by
  unfold loseSlabs
  exact ⟨rfl, rfl⟩

theorem partitionChanged_spec (sub : Nat) (old : Partition) (s : State) :
    (partitionChanged sub old s).proto = s.proto ∧ (partitionChanged sub old s).store.mem = s.store.mem := by
  unfold partitionChanged
  extract_lets p moved skipped
  obtain ⟨hproto, hmem⟩ : skipped.proto = s.proto ∧ skipped.store.mem = s.store.mem := skipSlabs_spec ..
  split
  · exact ⟨rfl, rfl⟩
  · split
    · obtain ⟨hproto', hmem'⟩ := loseSlabs_spec (fun k => p.holds k || (old.order != 0 && old.holds k && (partAt skipped k).isNone)) skipped
      exact ⟨hproto'.trans hproto, hmem'.trans hmem⟩
    · exact ⟨hproto, hmem⟩

/-! Lanes (R361, R364, R373) -/

theorem completeWords_lane (ws : List (BitVec 16)) (code : Nat) (d : BitVec 96) (s : State) (m : Nat) :
    (forAll ws (fun w s => completeWord w code d s) s).lane m = s.lane m :=
  forAll_induct (P := fun t => t.lane m = s.lane m) (fun _ _ ht => (completeWord_lane ..).trans ht) _ s rfl

theorem laneHandle_lane (h code : Nat) (d : BitVec 96) (s : State) :
    (laneHandle h code d s).lane h = { s.lane h with handle := none } := by
  unfold laneHandle
  split
  next hnone => rw [← hnone]
  next => rw [completeWord_lane, State.setLane_lane]

/-- R361: a lane that is taken DOWN has no request left. -/
theorem laneDown_lane (h : Nat) (s : State) : ((laneDown h s).lane h).state = 0 ∧ ((laneDown h s).lane h).requests = [] := by
  unfold laneDown
  rw [laneHandle_lane, State.setLane_lane]
  refine ⟨rfl, ?_⟩
  unfold dropRequests
  dsimp only
  rw [completeWords_lane, State.setLane_lane]

/-- R116: a prediction changes the state of the line alone. -/
theorem predictRow_eq (u : Nat) (s : State) : ∃ gait, predictRow u s = { s with gait := gait } := by
  unfold predictRow
  extract_lets r now fixed L e F su tu _ atOnce
  have hset : ∀ x, ∃ gait, s.setRow u x = { s with gait := gait } := fun _ => ⟨_, rfl⟩
  have hnow : ∃ gait, atOnce = { s with gait := gait } := ⟨_, rfl⟩
  split
  · exact ⟨s.gait, rfl⟩
  · split
    · exact hset _
    · split
      · exact hset _
      · split
        · exact hnow
        · split
          · exact hset _
          · extract_lets tf
            split
            · exact hnow
            · exact hset _

theorem forAll_gait_eq {α : Type} {f : α → State → State} (h : ∀ a s, ∃ gait, f a s = { s with gait := gait }) (l : List α) (s : State) :
    ∃ gait, forAll l f s = { s with gait := gait } :=
  forAll_induct (P := fun t => ∃ gait, t = { s with gait := gait })
    (fun a t ⟨gait, ht⟩ => by obtain ⟨gait', h'⟩ := h a t; exact ⟨gait', by rw [h', ht]⟩) l s ⟨s.gait, rfl⟩

/-- R330, R347, R364: a lane that enters ACTIVE changes the rows and the head alone. -/
theorem enterActive_eq (h : Nat) (s : State) : ∃ gait fire, enterActive h s = { s with gait := gait, fire := fire } := by
  unfold enterActive replaceLines
  extract_lets fresh
  obtain ⟨gait, hfresh⟩ : ∃ gait, fresh = { s with gait := gait } := forAll_gait_eq (fun _ _ => ⟨_, rfl⟩) _ s
  obtain ⟨gait', hlines⟩ := forAll_gait_eq predictRow_eq [2 * h, 2 * h + 1] (fresh.setHead h { fresh.head h with lastRead := some fresh.time.now })
  exact ⟨gait', _, by rw [hlines, hfresh]; rfl⟩

theorem enterActive_lane (h : Nat) (s : State) (m : Nat) : (enterActive h s).lane m = s.lane m := by
  obtain ⟨gait, fire, hactive⟩ := enterActive_eq h s
  rw [hactive]; rfl

/-- R364: a lane in Standby is ACTIVE again when its power state 0 is asked for. -/
theorem lanePower_wakes {h : Nat} {s : State} (hstandby : (s.lane h).state = 7) :
    ((lanePower h 0 s).lane h).state = 6 ∧ ((lanePower h 0 s).lane h).power = 0 := by
  rw [lanePower, if_pos rfl, laneWake, if_pos hstandby]
  rw [enterActive_lane, State.setLane_lane]
  exact ⟨rfl, rfl⟩

/-! Management blocks leave the request for a power state (R350, R355) -/

/-- The power state that is asked of every lane is as it was. -/
def PowerReqKept (s t : State) : Prop := ∀ h, (t.lane h).powerReq = (s.lane h).powerReq

theorem setLane_powerReq {s : State} {h : Nat} {x : Lane} (hx : x.powerReq = (s.lane h).powerReq) : PowerReqKept s (s.setLane h x) := by
  intro m
  by_cases hm : m = h
  · subst hm; rwa [State.setLane_lane]
  · rw [State.setLane_lane_ne _ _ _ _ hm]

theorem PowerReqKept.trans {s t u : State} (g : PowerReqKept t u) (h : PowerReqKept s t) : PowerReqKept s u := fun m => (g m).trans (h m)

theorem sendMgmt_powerReq (h : Nat) (o : Output) (s : State) : PowerReqKept s (sendMgmt h o s) := by
  unfold sendMgmt
  split
  · exact setLane_powerReq rfl
  · exact fun _ => rfl

theorem flushMgmt_powerReq (h : Nat) (s : State) : PowerReqKept s (flushMgmt h s) := by
  unfold flushMgmt
  extract_lets x
  split
  · refine PowerReqKept.trans ?_ (setLane_powerReq (x := { x with mgmt := [], mgmtSent := false }) rfl)
    exact forAll_induct (P := PowerReqKept _) (fun o t ht => (sendMgmt_powerReq h o t).trans ht) _ _ fun _ => rfl
  · split
    · exact fun _ => rfl
    · split
      · exact fun _ => rfl
      · exact (sendMgmt_powerReq h _ _).trans (setLane_powerReq rfl)

theorem queueMgmt_powerReq (h : Nat) (o : Output) (s : State) : PowerReqKept s (queueMgmt h o s) :=
  (flushMgmt_powerReq h _).trans (setLane_powerReq rfl)

theorem sendWaiting_powerReq (h : Nat) (s : State) : PowerReqKept s (sendWaiting h s) := by
  unfold sendWaiting
  extract_lets x
  split
  · exact (queueMgmt_powerReq h _ _).trans (setLane_powerReq rfl)
  · exact fun _ => rfl

theorem sendConfig_powerReq (h : Nat) (write : Bool) (addr : Nat) (data : BitVec 32) (handle : Option (BitVec 16)) (why : Nat) (s : State) :
    PowerReqKept s (sendConfig h write addr data handle why s) := by
  exact (sendWaiting_powerReq h _).trans (setLane_powerReq rfl)

/-- R364: another power state is asked of an ACTIVE lane. -/
theorem lanePower_asks {h v : Nat} {s : State} (hv : v ≠ 0) (hactive : laneActive s h = true) :
    ((lanePower h v s).lane h).powerReq = some v := by
  rw [lanePower, if_neg hv, if_pos hactive, sendConfig_powerReq, State.setLane_lane]

/-! Logs (R215, R333) -/

theorem clearDefectLog_fire (s : State) : (clearDefectLog s).fire = { s.fire with defects := [] } := by
  unfold clearDefectLog mirrorLogs mirror
  split <;> rfl

/-- Settles O11: each write by what the write of its object does (`WritePasses.one`, `WritePasses.one_quiet`). -/
theorem streamStoreTraceWritesTakeEffect : Obligations.StreamStoreTraceWritesTakeEffect := by
  intro dt r sub ty k n b s v
  refine ⟨fun w => ?_, fun w => ?_, fun w => ?_, fun w => ?_, fun w => ?_, fun w => ?_, fun w => ?_, fun w => ?_, fun w => ?_⟩
  · obtain ⟨sessions, withheld, pair, model, hexec⟩ := w.one rfl rfl
    let set := setCfg v 0x5006 sub (.num 1) (datumGen v)
    have hring : ((applyWrite true 0x5006 sub (.num 1) v).exchanged sessions withheld pair model).ring sub = (enableRing sub set).ring sub :=
      noteStored_ring 0x5006 (enableRing sub set) sub
    refine ⟨_, hexec, ?_, fun hon => ?_, fun hoff => ?_⟩
    · rw [hring]
      cases hon : (v.ring sub).enable with
      | true => rw [enableRing_of_enabled (s := set) hon]; exact hon
      | false => exact (enableRing_of_disabled (s := set) hon).1
    · rw [hring, enableRing_of_enabled (s := set) hon]; rfl
    · rw [hring]; exact (enableRing_of_disabled (s := set) hoff).2
  · obtain ⟨sessions, withheld, pair, model, hexec⟩ := w.one rfl rfl
    let set := setCfg v 0x5006 sub (.num 0) (datumGen v)
    have hring : ∀ m, ((applyWrite true 0x5006 sub (.num 0) v).exchanged sessions withheld pair model).ring m = (disableRing sub set).ring m :=
      noteStored_ring 0x5006 (disableRing sub set)
    exact ⟨_, hexec, by rw [hring, disableRing_ring]; rfl, fun m hm => by rw [hring, disableRing_ring_ne hm]; rfl⟩
  · obtain ⟨t, hexec, hquiet⟩ := w.one_quiet rfl rfl (by decide)
    change Quiet (releaseTo sub n v) t at hquiet
    exact ⟨t, hexec, hquiet, by rw [hquiet.store, releaseTo_store]⟩
  · obtain ⟨sessions, withheld, pair, model, hexec⟩ := w.one rfl rfl
    let set := setCfg v 0x5040 sub (.bytes b) (datumGen v)
    obtain ⟨hproto, hmem⟩ := partitionChanged_spec sub (partition v sub) set
    refine ⟨_, hexec, ?_, ?_⟩
    · change (baseVal (noteStored 0x5040 (partitionChanged sub (partition v sub) set)) 0x5040 sub).1 = _
      rw [baseVal, noteStored_proto, hproto]
      exact congrArg Prod.fst (baseVal_setCfg ..)
    · change (noteStored 0x5040 (partitionChanged sub (partition v sub) set)).store.mem = _
      rw [noteStored_store, hmem]; rfl
  · obtain ⟨sessions, withheld, pair, model, hexec⟩ := w.one rfl rfl
    let set := setCfg v 0x7043 sub (.num 1) (datumGen v)
    have hlane : ((applyWrite true 0x7043 sub (.num 1) v).exchanged sessions withheld pair model).lane sub = (setTraceEnable sub true set).lane sub :=
      noteStored_lane 0x7043 (setTraceEnable sub true set) sub
    refine ⟨_, hexec, fun hdown => ?_, fun hup => ?_⟩
    · rw [hlane, setTraceEnable, if_pos rfl, if_pos (show (set.lane sub).state = 0 from hdown), startBringUp, State.setLane_lane]
      exact ⟨rfl, rfl⟩
    · rw [hlane, setTraceEnable, if_pos rfl, if_neg (show ¬(set.lane sub).state = 0 from hup)]; rfl
  · obtain ⟨sessions, withheld, pair, model, hexec⟩ := w.one rfl rfl
    let set := setCfg v 0x7043 sub (.num 0) (datumGen v)
    have hlane : ((applyWrite true 0x7043 sub (.num 0) v).exchanged sessions withheld pair model).lane sub = (laneDown sub set).lane sub :=
      noteStored_lane 0x7043 (laneDown sub set) sub
    exact ⟨_, hexec, by rw [hlane]; exact laneDown_lane sub set⟩
  · obtain ⟨sessions, withheld, pair, model, hexec⟩ := w.one rfl rfl
    let set := setCfg v 0x7049 sub (.num n) (datumGen v)
    have hlane : ((applyWrite true 0x7049 sub (.num n) v).exchanged sessions withheld pair model).lane sub = (lanePower sub n set).lane sub :=
      noteStored_lane 0x7049 (lanePower sub n set) sub
    refine ⟨_, hexec, fun hn hstandby => ?_, fun hn hactive => ?_⟩
    · rw [hlane, hn]; exact lanePower_wakes (s := set) hstandby
    · rw [hlane]; exact lanePower_asks (s := set) hn hactive
  · exact w.one_quiet rfl rfl (by decide)
  · obtain ⟨t, hexec, hquiet⟩ := w.one_quiet rfl rfl (by decide)
    exact ⟨t, hexec, hquiet.fire.trans (clearDefectLog_fire v)⟩

/-! ### What the partner's last heartbeat is kept by (R472): what follows upon it changes it in no way -/

/-- The last heartbeat heard is as it was. -/
structure HeardKept (s t : State) : Prop where
  heartbeat : t.pair.heartbeat = s.pair.heartbeat

theorem HeardKept.refl (s : State) : HeardKept s s := ⟨rfl⟩

theorem HeardKept.trans {s t u : State} (g : HeardKept t u) (h : HeardKept s t) : HeardKept s u := ⟨g.heartbeat.trans h.heartbeat⟩

/-- An update of other fields keeps it. -/
theorem HeardKept.upd {s t u : State} (h : HeardKept s t) (hu : u.pair.heartbeat = t.pair.heartbeat) : HeardKept s u := ⟨hu.trans h.heartbeat⟩

theorem Quiet.heard {s t : State} (h : Quiet s t) : HeardKept s t := ⟨by rw [h.pair]⟩

theorem ite_heard {c : Prop} [Decidable c] {s t u : State} (ht : HeardKept s t) (hu : HeardKept s u) : HeardKept s (if c then t else u) := by
  split <;> assumption

theorem forAll_heard {α : Type} {f : α → State → State} (h : ∀ a s, HeardKept s (f a s)) (l : List α) (s : State) : HeardKept s (forAll l f s) :=
  forAll_induct (P := HeardKept s) (fun a t k => (h a t).trans k) l s (.refl s)

theorem raise_heard (c v : Nat) (d : BitVec 96) (s : State) (u : BitVec 32) (l : Option Int) (n : Nat) : HeardKept s (raise c v d s u l n) :=
  (raise_quiet ..).heard
theorem emit_heard (o : Output) (s : State) : HeardKept s (emit o s) := (emit_quiet ..).heard
theorem ev_heard (c : Nat) (d : BitVec 96) (s : State) (u : BitVec 32) (l : Option Int) (n : Nat) : HeardKept s (ev c d s u l n) := (ev_quiet ..).heard
theorem completeWord_heard (w : BitVec 16) (c : Nat) (d : BitVec 96) (s : State) : HeardKept s (completeWord w c d s) := (completeWord_quiet ..).heard
theorem completeHandle_heard (k c : Nat) (d : BitVec 96) (s : State) : HeardKept s (completeHandle k c d s) := (completeHandle_quiet ..).heard

/-! The pair link, the job and the defect log (R122, R333, R471) -/

theorem sendRecord_heard (b : PairBody) (s : State) : HeardKept s (sendRecord b s) := ⟨rfl⟩

theorem mirror_heard (b : PairBody) (s : State) : HeardKept s (mirror b s) := ite_heard (sendRecord_heard ..) (.refl s)

theorem setPairState_heard (st reason : Nat) (s : State) : HeardKept s (setPairState st reason s) := by
  unfold setPairState
  extract_lets _ changed
  have hchanged : HeardKept s changed := ⟨rfl⟩
  exact ite_heard hchanged ((ev_heard ..).trans hchanged)

theorem setJob_heard (j : Nat) (s : State) : HeardKept s (setJob j s) := ite_heard (.refl s) ((ev_heard ..).trans ⟨rfl⟩)

theorem haltJob_heard (s : State) : HeardKept s (haltJob s) := ite_heard ((setJob_heard ..).trans ⟨rfl⟩) ⟨rfl⟩

theorem addDefect_heard (d : Defect) (s : State) : HeardKept s (addDefect d s) := (mirror_heard ..).trans ⟨rfl⟩

theorem logLateLine_heard (h : Nat) (L : Int) (cause action : Nat) (s : State) : HeardKept s (logLateLine h L cause action s) := by
  unfold logLateLine
  extract_lets marked
  have hmarked : HeardKept s marked := ⟨rfl⟩
  split
  · exact ite_heard (hmarked.upd rfl) ((addDefect_heard ..).trans hmarked)
  · exact (addDefect_heard ..).trans hmarked

theorem fireStopped_heard (cause : Nat) (s : State) : HeardKept s (fireStopped cause s) :=
  forAll_heard (fun _ _ => (addDefect_heard ..).trans (ev_heard ..)) _ s

theorem updateSplice_heard (f : Splice → Splice) (s : State) : HeardKept s (updateSplice f s) := by
  unfold updateSplice
  split <;> exact ⟨rfl⟩

theorem skipRow_heard (log : Bool) (u : Nat) (s : State) : HeardKept s (skipRow log u s) := by
  unfold skipRow
  extract_lets x old last r left _ settled
  have hsettled : HeardKept s settled := ⟨rfl⟩
  exact ite_heard (ite_heard ((forAll_heard (fun _ t => logLateLine_heard _ _ _ _ t) _ settled).trans hsettled) hsettled) ⟨rfl⟩

theorem reinAbandon_heard (reason : Nat) (s : State) : HeardKept s (reinAbandon reason s) := by
  unfold reinAbandon
  extract_lets step skipped _ _ freed spliced raised
  have hskipped : HeardKept s skipped := forAll_heard (skipRow_heard _) _ s
  have hspliced : HeardKept s spliced := (updateSplice_heard _ freed).trans (hskipped.upd rfl)
  exact ite_heard (.refl s) ((mirror_heard ..).trans ((mirror_heard ..).trans ((ev_heard ..).trans hspliced)))

/-! Lead that is given up, and faults (R483 to R488, R546 to R548) -/

theorem settleWithheld_heard (due : Withheld → Bool) (f : Response → Response) (s : State) : HeardKept s (settleWithheld due f s) :=
  (forAll_heard (fun _ t => ite_heard (sendResponse_quiet ..).heard (.refl t)) _ _).trans ⟨rfl⟩

theorem releaseLanes_heard (s : State) : HeardKept s (releaseLanes s) := forAll_heard (fun _ _ => emit_heard ..) _ s

theorem dropHostState_heard (s : State) : HeardKept s (dropHostState s) := by
  unfold dropHostState
  extract_lets settled ended unstaged
  have hended : HeardKept s ended := (forAll_heard (fun _ _ => completeHandle_heard ..) _ settled).trans (settleWithheld_heard ..)
  have hunstaged : HeardKept s unstaged := (forAll_heard (fun _ t => (setSess_quiet t _ _).heard) _ ended).trans hended
  exact hunstaged.upd rfl

theorem leadRelease_heard (code : Nat) (silent : Bool) (s : State) : HeardKept s (leadRelease code silent s) := by
  unfold leadRelease
  extract_lets sent _ given dropped
  have hsent : HeardKept s sent := ite_heard (.refl s) ((sendRecord_heard ..).trans (releaseLanes_heard s))
  have hdropped : HeardKept s dropped := (dropHostState_heard given).trans (hsent.upd rfl)
  exact ite_heard ((setPairState_heard ..).trans hdropped) ((setPairState_heard ..).trans hdropped)

theorem releaseOwned_heard (s : State) :
    HeardKept s (forAll (headNums.filter (fun h => tget 0 s.pair.owner h == 1)) (fun h s => emit (.release h s.pair.epoch) s) s) :=
  forAll_heard (fun _ _ => emit_heard ..) _ s

theorem holdWheeler_heard (reason : Nat) (s : State) : HeardKept s (holdWheeler reason s) :=
  ite_heard (.refl s) ((setPairState_heard ..).trans (ite_heard (releaseOwned_heard s) (.refl s)))

theorem syncClass_heard (code : Nat) (unit : BitVec 32) (s : State) : HeardKept s (syncClass code unit s) :=
  ite_heard (.refl s) (ite_heard ⟨rfl⟩ ((raise_heard ..).trans ⟨rfl⟩))

theorem causeGone_heard (code : Nat) (unit : BitVec 32) (s : State) (only : Option Nat) : HeardKept s (causeGone code unit s only) :=
  (syncClass_heard ..).trans ⟨rfl⟩

theorem holdEntry_heard (s : State) : HeardKept s (holdEntry s) := by
  unfold holdEntry
  extract_lets _ held voided
  have hrow : ∀ u t, HeardKept t (t.setRow u { t.row u with pred := none }) := fun _ _ => ⟨rfl⟩
  have hvoided : HeardKept s voided := (forAll_heard hrow (List.range 128) held).trans ⟨rfl⟩
  exact (fireStopped_heard ..).trans ((haltJob_heard _).trans ((reinAbandon_heard _ voided).trans hvoided))

theorem failEntry_heard (s : State) : HeardKept s (failEntry s) := (releaseLanes_heard s).upd rfl

theorem classResponse_heard (cls : Nat) (trigger : Option Nat) (silent : Bool) (s : State) : HeardKept s (classResponse cls trigger silent s) := by
  unfold classResponse
  extract_lets released held
  have hreleased : HeardKept s released := ite_heard (releaseOwned_heard s) (.refl s)
  have hheld : HeardKept s held := ite_heard (.refl s) (holdEntry_heard s)
  exact ite_heard ((holdWheeler_heard _ released).trans hreleased)
    (ite_heard (leadRelease_heard ..) (ite_heard ((failEntry_heard held).trans hheld) hheld))

theorem addFault_heard (code cls level : Nat) (unit : BitVec 32) (s : State) (respond : Bool) (trigger : Option Nat) (silent exact_ : Bool) :
    HeardKept s (addFault code cls level unit s respond trigger silent exact_) := by
  unfold addFault
  extract_lets counts _ counted same f active _ found lived answered
  have hlived : HeardKept s lived := ite_heard ⟨rfl⟩ ⟨rfl⟩
  have hanswered : HeardKept s answered := ite_heard ((classResponse_heard _ _ _ lived).trans hlived) hlived
  exact ite_heard ⟨rfl⟩ ((syncClass_heard _ _ answered).trans hanswered)

/-! Roles and comparison (R468, R472, R478, R479, R481) -/

theorem becomeLead_heard (s : State) : HeardKept s (becomeLead s) :=
  (forAll_heard (fun _ _ => emit_heard ..) _ _).trans ((setPairState_heard ..).trans ⟨rfl⟩)

theorem joinPair_heard (s : State) : HeardKept s (joinPair s) :=
  ite_heard ((setPairState_heard ..).trans ⟨rfl⟩) ((setPairState_heard ..).trans ⟨rfl⟩)

theorem elect_heard (s : State) : HeardKept s (elect s) :=
  ite_heard (joinPair_heard s) (ite_heard (.refl s) ((becomeLead_heard s).upd rfl))

theorem compareDots_heard (p : Nat) (first : Int) (crc own : BitVec 32) (s : State) : HeardKept s (compareDots p first crc own s) := by
  unfold compareDots
  extract_lets counted differs
  have hdiffers : HeardKept s differs := (ev_heard ..).trans ⟨rfl⟩
  have hcounted : HeardKept s counted := ⟨rfl⟩
  exact ite_heard (ite_heard ((joinPair_heard counted).trans hcounted) hcounted) (ite_heard ((holdWheeler_heard _ differs).trans hdiffers) hdiffers)

theorem compareWaiting_heard (s : State) : HeardKept s (compareWaiting s) := by
  unfold compareWaiting
  extract_lets ready old _ kept
  refine HeardKept.trans (t := kept) (forAll_heard (fun d t => ?_) ready kept) ⟨rfl⟩
  split
  · exact compareDots_heard ..
  · exact .refl t

theorem rejoin_heard (s : State) : HeardKept s (rejoin s) := by
  unfold rejoin
  split
  · exact ite_heard (joinPair_heard s) (.refl s)
  · exact joinPair_heard s
  · exact ite_heard (.refl s) (joinPair_heard s)
  · exact .refl s

theorem tryStandby_heard (b : Heartbeat) (s : State) : HeardKept s (tryStandby b s) :=
  ite_heard (setPairState_heard ..) (.refl s)

/-- R472: the heartbeat is noted. -/
theorem noteHeartbeat_noted (b : Heartbeat) (s : State) : (noteHeartbeat b s).pair.heartbeat = some b := by
  unfold noteHeartbeat
  extract_lets cleared _ noted
  have hnoted : noted.pair.heartbeat = some b := rfl
  split
  · split
    · exact (completeWord_heard ..).heartbeat.trans rfl
    · exact hnoted
  · exact hnoted

theorem takeHeartbeat_noted (b : Heartbeat) (s : State) : (takeHeartbeat b s).pair.heartbeat = some b := by
  unfold takeHeartbeat
  extract_lets was noted
  refine Eq.trans (HeardKept.heartbeat (s := noted) ?_) (noteHeartbeat_noted b s)
  split
  · exact ite_heard (.refl _) (ite_heard (joinPair_heard noted) (ite_heard (elect_heard noted) (.refl _)))
  · exact ite_heard (sendRecord_heard ..) (.refl _)
  · exact (tryStandby_heard ..).trans (compareWaiting_heard noted)
  · exact compareWaiting_heard noted
  · exact ite_heard ((compareWaiting_heard _).trans (rejoin_heard noted)) (.refl _)
  · exact .refl _

/-! The lanes, rows and regions (R361, R364, R510, R511) -/

section
variable (s : State) (n : Nat)
theorem setRow_heard (x : Row) : HeardKept s (s.setRow n x) := ⟨rfl⟩
theorem setRing_heard (x : Ring) : HeardKept s (s.setRing n x) := ⟨rfl⟩
theorem setEngine_heard (x : Engine) : HeardKept s (s.setEngine n x) := ⟨rfl⟩
end

theorem enterActive_heard (h : Nat) (s : State) : HeardKept s (enterActive h s) := by
  obtain ⟨gait, fire, hactive⟩ := enterActive_eq h s
  exact ⟨by rw [hactive]⟩

theorem laneWake_heard (h reason : Nat) (s : State) : HeardKept s (laneWake h reason s) := by
  unfold laneWake
  exact ite_heard ((enterActive_heard h _).trans ⟨rfl⟩) (ite_heard ⟨rfl⟩ (.refl s))

theorem dropRequests_heard (h : Nat) (s : State) : HeardKept s (dropRequests h s) :=
  (forAll_heard (fun _ _ => completeWord_heard ..) _ _).trans ⟨rfl⟩

theorem laneHandle_heard (h code : Nat) (d : BitVec 96) (s : State) : HeardKept s (laneHandle h code d s) := by
  unfold laneHandle
  split
  · exact .refl s
  · exact (completeWord_heard ..).trans ⟨rfl⟩

theorem powerTaken_heard (h v : Nat) (s : State) : HeardKept s (powerTaken h v s) := (dropRequests_heard h s).upd rfl

theorem laneDown_heard (h : Nat) (s : State) : HeardKept s (laneDown h s) :=
  (laneHandle_heard ..).trans ((dropRequests_heard h s).upd rfl)

theorem laneSleep_heard (h : Nat) (s : State) : HeardKept s (laneSleep h s) :=
  ite_heard (powerTaken_heard ..) (ite_heard (laneDown_heard ..) (.refl s))

theorem restartRegions_heard (s : State) : HeardKept s (restartRegions s) := by
  unfold restartRegions
  extract_lets rings screen cleared
  have hrings : HeardKept s rings := forAll_heard (fun _ t => setRing_heard t _ _) _ s
  refine (forAll_heard (fun k t => ?_) engineNums cleared).trans (hrings.upd rfl)
  dsimp only
  split
  · exact setEngine_heard ..
  · exact .refl t

theorem resumeRows_heard (s : State) : HeardKept s (resumeRows s) := forAll_heard (fun _ t => ite_heard (setRow_heard t _ _) (.refl t)) _ s

theorem stateEvent_heard (st src : Nat) (s : State) : HeardKept s (stateEvent st src s) := ite_heard (raise_heard ..) ⟨rfl⟩

theorem returnToRun_heard (src : Nat) (s : State) : HeardKept s (returnToRun src s) := by
  unfold returnToRun
  extract_lets asked power running woken
  have hasked : HeardKept s asked := ite_heard (sendRecord_heard ..) (.refl s)
  have hwoken : HeardKept running woken := forAll_heard (fun h t => ite_heard (laneWake_heard h 2 t) (.refl t)) _ running
  exact ite_heard (.refl s) ((resumeRows_heard _).trans ((restartRegions_heard _).trans ((stateEvent_heard ..).trans (hwoken.trans (hasked.upd rfl)))))

theorem goIdle_heard (s : State) : HeardKept s (goIdle s) :=
  (forAll_heard (fun _ _ => powerTaken_heard ..) _ _).trans ((stateEvent_heard ..).trans ⟨rfl⟩)

/-! Frames that are cut (R401, R508) -/

theorem fireLatency_heard (pc lat : Nat) (s : State) : HeardKept s (fireLatency pc lat s) := by
  unfold fireLatency
  extract_lets v due _ raised
  exact ite_heard ((ev_heard ..).trans ⟨rfl⟩) ⟨rfl⟩

theorem countAccess_heard (cls u : Nat) (write : Bool) (s : State) : HeardKept s (countAccess cls u write s) := by
  unfold countAccess countRequests
  extract_lets b w was lat slow acts stats₁ stats _ counted
  have hcounted : HeardKept s counted := ⟨rfl⟩
  exact ite_heard ((fireLatency_heard ..).trans hcounted) hcounted

theorem writeUnits_heard (cls u : Nat) (bytes : List Byte) (s : State) : HeardKept s (writeUnits cls u bytes s) := by
  unfold writeUnits
  extract_lets _ stored
  have hrewrite : ∀ v t, HeardKept t (noteRewrite v t) := fun v t => ite_heard ⟨rfl⟩ (.refl t)
  refine (forAll_heard (fun i t => ?_) _ stored).trans ⟨rfl⟩
  exact (hrewrite _ _).trans ((countAccess_heard ..).trans ⟨rfl⟩)

theorem zeroFill_heard (f : Frame) (dtype : Nat) (s : State) : HeardKept s (zeroFill f dtype s) :=
  ite_heard (.refl s) (forAll_heard (fun _ _ => writeUnits_heard ..) _ s)

theorem frameFault_heard (f : Frame) (s : State) : HeardKept s (frameFault f s) := by
  unfold frameFault
  extract_lets x due
  exact ite_heard (.refl s) ((ev_heard ..).trans ⟨rfl⟩)

theorem assignSlices_heard (s : State) : HeardKept s (assignSlices s) := by
  unfold assignSlices
  extract_lets fixed
  refine forAll_heard (fun k t => ?_) _ s
  split <;> exact ⟨rfl⟩

theorem noteBacklog_heard (s : State) : HeardKept s (noteBacklog s) :=
  ite_heard ⟨rfl⟩ (ite_heard ((ev_heard ..).trans ⟨rfl⟩) (.refl s))

theorem closeFrame_heard (n : Nat) (k : BitVec 32) (more : List Nat) (s : State) : HeardKept s (closeFrame n k more s) := by
  unfold closeFrame
  split
  · exact .refl s
  · extract_lets f₁ none' f₂ changed _ logged filled faulted done
    have hfaulted : HeardKept s faulted := (frameFault_heard _ filled).trans ((zeroFill_heard _ _ logged).trans ⟨rfl⟩)
    have hdone : HeardKept s done := ite_heard ((ev_heard ..).trans hfaulted) hfaulted
    exact ite_heard (.refl s) ((noteBacklog_heard _).trans ((assignSlices_heard _).trans (hdone.upd rfl)))

theorem listDone_heard (n : Nat) (failed : Option (Fin 16)) (s : State) : HeardKept s (listDone n failed s) := by
  unfold listDone
  extract_lets x
  split
  · exact ⟨rfl⟩
  · exact (ev_heard ..).trans ⟨rfl⟩

theorem stopCapture_heard (s : State) : HeardKept s (stopCapture s) := by
  unfold stopCapture
  extract_lets idle stopped
  have hidle : HeardKept s idle := by
    refine forAll_heard (fun c t => ?_) _ s
    split
    · exact (completeWord_heard ..).trans ⟨rfl⟩
    · exact .refl t
  have hstopped : HeardKept idle stopped := forAll_heard (fun n t => ite_heard (listDone_heard ..) (.refl t)) _ idle
  exact (forAll_heard (fun _ _ => closeFrame_heard ..) _ stopped).trans (hstopped.trans hidle)

/-! The clock (R441, R448) -/

/-- What the choice of a master leaves alone: the last heartbeat heard, the ports, the page store and the axis. -/
structure ClockKept (s t : State) : Prop extends HeardKept s t where
  ports : t.ports = s.ports
  store : t.store = s.store
  axis : t.axis = s.axis

theorem ClockKept.refl (s : State) : ClockKept s s := ⟨.refl s, rfl, rfl, rfl⟩

theorem ClockKept.trans {s t u : State} (g : ClockKept t u) (h : ClockKept s t) : ClockKept s u :=
  ⟨g.toHeardKept.trans h.toHeardKept, g.ports.trans h.ports, g.store.trans h.store, g.axis.trans h.axis⟩

theorem Calm.clock {s t : State} (c : Calm s t) (h : HeardKept s t) : ClockKept s t := ⟨h, c.ports, c.store, c.axis⟩

theorem ev_clock (c : Nat) (d : BitVec 96) (s : State) (u : BitVec 32) (l : Option Int) (n : Nat) : ClockKept s (ev c d s u l n) :=
  (ev_calm ..).clock (ev_heard ..)

theorem setTime_clock (s : State) (time : Timing) : ClockKept s { s with time := time } := ⟨⟨rfl⟩, rfl, rfl, rfl⟩

theorem ite_clock {c : Prop} [Decidable c] {s t u : State} (ht : ClockKept s t) (hu : ClockKept s u) : ClockKept s (if c then t else u) := by
  split <;> assumption

theorem setPtpPorts_clock {α : Type} (l : List α) (port : α → Nat) (x : α → State → PtpPort) (s : State) :
    ClockKept s (forAll l (fun a s => s.setPtpPort (port a) (x a s)) s) :=
  forAll_induct (P := ClockKept s) (fun _ _ k => (setTime_clock _ _).trans k) l s (.refl s)

theorem mirrorTime_clock (accepted : Bool) (s : State) : ClockKept s (mirrorTime s accepted) := by
  have hmirror : ClockKept s (mirror (.time (timeRecord s accepted)) s) := (mirror_calm ..).clock (mirror_heard ..)
  exact ⟨hmirror.toHeardKept.upd rfl, hmirror.ports, hmirror.store, hmirror.axis⟩

theorem setServo_clock (st : Nat) (s : State) : ClockKept s (setServo st s) := by
  unfold setServo
  extract_lets hist avg _ changed
  exact ite_clock (.refl s) ((mirrorTime_clock ..).trans ((ev_clock ..).trans (setTime_clock ..)))

theorem loseMaster_clock (s : State) : ClockKept s (loseMaster s) := by
  unfold loseMaster
  extract_lets _ without
  have hwithout : ClockKept s without := setTime_clock ..
  exact ite_clock ((setServo_clock 3 without).trans hwithout) hwithout

theorem selectMaster_clock (s : State) : ClockKept s (selectMaster s) := by
  unfold selectMaster
  extract_lets decided
  have hdecided : ClockKept s decided := setPtpPorts_clock ..
  have hlost : ClockKept s (if decided.time.hasMaster = true then loseMaster decided else decided) :=
    ite_clock ((loseMaster_clock decided).trans hdecided) hdecided
  split
  · exact hlost
  · extract_lets gm
    exact ite_clock hlost (ite_clock ((setTime_clock ..).trans hdecided) ((ev_clock ..).trans ((setTime_clock ..).trans ((setTime_clock ..).trans hdecided))))

theorem dropMasters_clock (s : State) : ClockKept s (dropMasters s) := by
  unfold dropMasters
  extract_lets limit kept selected
  have hkept : ClockKept s kept := setPtpPorts_clock ..
  have hselected : ClockKept s selected := (selectMaster_clock kept).trans hkept
  exact ite_clock hselected ((loseMaster_clock selected).trans hselected)

/-! Entries to the sleeps (R496, R508, R510) -/

theorem discardBar_heard (reason : Nat) (s : State) : HeardKept s (discardBar reason s) := by
  unfold discardBar
  split
  · exact .refl s
  · exact (mirror_heard ..).trans ((ev_heard ..).trans ⟨rfl⟩)

theorem settleNozzles_heard (s : State) : HeardKept s (settleNozzles s) := by
  unfold settleNozzles
  exact ⟨rfl⟩

theorem linkChange_heard (n : Nat) (up : Bool) (s : State) : HeardKept s (linkChange n up s) := by
  unfold linkChange
  extract_lets _ changed raised
  have hraised : HeardKept s raised := (raise_heard ..).trans ⟨rfl⟩
  exact ite_heard (.refl s) (ite_heard hraised (ite_heard ((addFault_heard ..).trans hraised)
    (ite_heard ((causeGone_heard ..).trans hraised) hraised)))

theorem laneFalls_heard (n : Nat) (s : State) : HeardKept s (laneChange n false s) := by
  unfold laneChange
  rw [if_pos (.inl rfl)]
  exact (raise_heard ..).trans ⟨rfl⟩

theorem writeLife_heard (s : State) : HeardKept s (writeLife s) := ite_heard (.refl s) ((emit_heard ..).trans ⟨rfl⟩)

theorem writeConfig_heard (s : State) : HeardKept s (writeConfig s) := by
  unfold writeConfig
  extract_lets st heads late objs copy
  exact ite_heard (.refl s) ((emit_heard ..).trans ⟨rfl⟩)

theorem flushConfig_heard (s : State) : HeardKept s (flushConfig s) := ite_heard (writeConfig_heard s) (.refl s)

theorem beginSeq_heard (k : SeqKind) (todo : List (Nat × Nat × Nat)) (s : State) : HeardKept s (beginSeq k todo s) := by
  unfold beginSeq startRail
  split
  · exact ⟨rfl⟩
  · exact (emit_heard ..).trans ⟨rfl⟩

theorem enterDeep_heard (target : Nat) {commit : State → State} (h : ∀ t, HeardKept t (commit t)) (s : State) :
    HeardKept s (enterDeep target commit s) := by
  unfold enterDeep
  extract_lets lead stopped _ stored settled _ barless committed _ entered asleep _ unpowered unlinked _ fallen flushed
  have hstopped : HeardKept s stopped := stopCapture_heard s
  clear_value stopped
  have hsettled : HeardKept s settled := (settleNozzles_heard _).trans ((discardBar_heard 7 stored).trans (hstopped.upd rfl))
  have hcommitted : HeardKept s committed := (stateEvent_heard ..).trans ((h barless).trans (hsettled.upd rfl))
  have hentered : HeardKept s entered := hcommitted.upd rfl
  clear_value entered
  have hasleep : HeardKept s asleep := (forAll_heard (fun _ t => laneSleep_heard _ t) headNums entered).trans hentered
  clear_value asleep
  have hunlinked : HeardKept s unlinked :=
    (dropMasters_clock _).toHeardKept.trans ((forAll_heard (fun n t => linkChange_heard n false t) [0, 1, 2] unpowered).trans (hasleep.upd rfl))
  clear_value unlinked
  have hfallen : HeardKept s fallen := ite_heard hunlinked
    (HeardKept.trans (forAll_heard (fun n t => ite_heard (laneFalls_heard n t) (.refl t)) _ _) (hunlinked.upd rfl))
  have hflushed : HeardKept s flushed := ite_heard ((flushConfig_heard _).trans ((writeLife_heard fallen).trans hfallen)) hfallen
  exact (beginSeq_heard ..).trans hflushed

theorem followPower_heard (request : Option Nat) (s : State) : HeardKept s (followPower request s) := by
  unfold followPower
  split
  · exact .refl s
  · refine ite_heard (.refl s) ?_
    split
    · exact returnToRun_heard ..
    · exact goIdle_heard s
    · split
      next block reason _ =>
        extract_lets stopped
        have hstopped : HeardKept s stopped := ite_heard (stopCapture_heard s) (.refl s)
        exact (sendRecord_heard ..).trans (ite_heard ((restartRegions_heard stopped).trans hstopped) hstopped)
      next => exact enterDeep_heard _ (fun t => sendRecord_heard ..) s

/-! ### A record that arrives (R471, R473) -/

theorem forAll_quiet {α : Type} {f : α → State → State} (h : ∀ a s, Quiet s (f a s)) (l : List α) (s : State) : Quiet s (forAll l f s) :=
  forAll_induct (P := Quiet s) (fun a t q => (h a t).trans q) l s (.refl s)

/-- What the host's side has no part in, the same change of the pair link keeps apart from it. -/
theorem Quiet.withPair {s t : State} (q : Quiet s t) (f : Tandem → Tandem) :
    Quiet { s with pair := f s.pair } { t with pair := f t.pair } := { q with pair := congrArg f q.pair }

theorem settleWithheld_quiet (due : Withheld → Bool) (f : Response → Response) (s : State) : Quiet s (settleWithheld due f s) := by
  unfold settleWithheld
  extract_lets go _ kept
  have hkept : Quiet s kept := by constructor <;> rfl
  refine (forAll_quiet (fun w t => ?_) go kept).trans hkept
  split
  · exact sendResponse_quiet ..
  · exact .refl t

/-- R471, R473: a record that verifies is a sign of the partner, and takes off what it acknowledges. -/
def heardFrom (h : PairHdr) (s : State) : State :=
  let t := { s with pair := { s.pair with heardAt := some s.time.now, silent := false, reason2 := false } }
  takeAck h.ackSeq (if s.pair.silent then pairEvent 0xA004 2 (lanesUp t) t else t)

/-- What the chip knows of its partner once it has heard a record. -/
def heardPair (h : PairHdr) (s : State) : Tandem :=
  { s.pair with heardAt := some s.time.now, silent := false, reason2 := false
                pending := s.pair.pending.filter (fun p => decide (h.ackSeq < p.seq)) }

theorem heardFrom_quiet (h : PairHdr) (s : State) : Quiet { s with pair := heardPair h s } (heardFrom h s) := by
  unfold heardFrom
  extract_lets _ t
  have hevent : Quiet t (if s.pair.silent then pairEvent 0xA004 2 (lanesUp t) t else t) := by
    split
    · exact raise_quiet ..
    · exact .refl t
  exact (settleWithheld_quiet ..).trans (hevent.withPair fun p => { p with pending := p.pending.filter (fun r => decide (h.ackSeq < r.seq)) })

theorem heardFrom_pair (h : PairHdr) (s : State) : (heardFrom h s).pair = heardPair h s := (heardFrom_quiet h s).pair

/-- R471: a record that has not come before is noted. -/
def noteRecord (h : PairHdr) (s : State) : State :=
  let above := h.seq :: s.pair.rxAbove
  let n := advanceSeq above.length s.pair.rxSeq above
  { s with pair := { s.pair with rxSeq := n, rxAbove := above.filter (fun x => decide (n < x)) } }

theorem noteRecord_pair (h : PairHdr) (s : State) : ∃ n above, (noteRecord h s).pair = { s.pair with rxSeq := n, rxAbove := above } := ⟨_, _, rfl⟩

/-- R473: a record with ACKREQ is acknowledged. -/
def ackBack (h : PairHdr) (s : State) : State := if h.ackReq then sendRecord .ack s else s

/-- R471: a record that verifies, by whether it has come before. -/
theorem receiveRecord_heard {h : PairHdr} {s : State} (runs : pairRuns s = true) (crc : h.crcOk = true) (f : State → State) :
    receiveRecord h f s = ackBack h (if (decide (h.seq ≤ (heardFrom h s).pair.rxSeq) || (heardFrom h s).pair.rxAbove.contains h.seq) = true
      then heardFrom h s else f (noteRecord h (heardFrom h s))) := by
  rw [receiveRecord, if_neg (by simp [runs, crc])]
  rfl

/-- R471: a record that does not verify, or that no lane brings, changes nothing. -/
theorem receiveRecord_unheard {h : PairHdr} {s : State} (unheard : pairRuns s = false ∨ h.crcOk = false) (f : State → State) :
    receiveRecord h f s = s := if_pos (by simpa using unheard)

/-- The acknowledgement takes a sequence number, and no more. -/
theorem ackBack_eq (h : PairHdr) (s : State) : ∃ model, ackBack h s =
    { s with pair := { s.pair with txSeq := if h.ackReq then s.pair.txSeq + 1 else s.pair.txSeq }, model := model } := by
  unfold ackBack
  split <;> exact ⟨_, rfl⟩

/-- The state that a new record is applied to. -/
def recordState (dt : Nat) (h : PairHdr) (s : State) : State := noteRecord h (heardFrom h (tick dt s))

theorem FreshRecord.recordOk {h : PairHdr} {s : State} (fresh : FreshRecord h s) (dt : Nat) (f : State → State) :
    recordOk dt h f s = .next (ackBack h (f (recordState dt h s))) := by
  obtain ⟨runs, crc, above, new⟩ := fresh
  have habove : ¬h.seq ≤ (heardPair h (tick dt s)).rxSeq := Nat.not_le.mpr above
  have hnew : (heardPair h (tick dt s)).rxAbove.contains h.seq = false := new
  rw [Machine.recordOk, receiveRecord_heard (s := tick dt s) runs crc, heardFrom_pair, if_neg (by rw [decide_eq_false habove, hnew]; decide)]
  rfl

section
variable (dt : Nat) (h : PairHdr) (s : State)
theorem recordState_axis : (recordState dt h s).axis = s.axis := (heardFrom_quiet h (tick dt s)).axis
theorem recordState_store : (recordState dt h s).store = s.store := (heardFrom_quiet h (tick dt s)).store
theorem recordState_pair : ∃ n above, (recordState dt h s).pair = { heardPair h (tick dt s) with rxSeq := n, rxAbove := above } :=
  by rw [← heardFrom_pair]; exact noteRecord_pair h (heardFrom h (tick dt s))

theorem recordState_state : (recordState dt h s).pair.state = s.pair.state := by obtain ⟨n, above, hpair⟩ := recordState_pair dt h s; rw [hpair]; rfl
theorem recordState_kKnown : (recordState dt h s).pair.kKnown = s.pair.kKnown := by
  obtain ⟨n, above, hpair⟩ := recordState_pair dt h s; rw [hpair]; rfl
theorem recordState_compare : (recordState dt h s).pair.compare = s.pair.compare := by
  obtain ⟨n, above, hpair⟩ := recordState_pair dt h s; rw [hpair]; rfl
end

/-! LPOS (R478) -/

theorem setPairState_compare (st reason : Nat) (s : State) : (setPairState st reason s).pair.compare = s.pair.compare := by
  unfold setPairState
  extract_lets _ changed
  split
  · rfl
  · rw [ev_pair]

theorem holdWheeler_compare (reason : Nat) (s : State) : (holdWheeler reason s).pair.compare = s.pair.compare := by
  unfold holdWheeler
  extract_lets released
  have hreleased : Quiet s released := by
    unfold released
    split
    · exact forAll_quiet (fun _ _ => emit_quiet ..) _ s
    · exact .refl s
  split
  · rfl
  · rw [setPairState_compare, hreleased.pair]

/-- R478: a standby compares the partner's position, and keeps its own. -/
theorem takeLpos_standby {s : State} (t x : Int) (hstate : s.pair.state = 5) (hknown : s.pair.kKnown = true) :
    tget 0 (takeLpos t x s).pair.compare 0 = tget 0 s.pair.compare 0 + 1 ∧ (takeLpos t x s).axis = s.axis := by
  unfold takeLpos
  extract_lets held d counted _ kept _ apart
  have hkept : tget 0 kept.pair.compare 0 = tget 0 s.pair.compare 0 + 1 := (tget_tput_ne (by decide)).trans tget_tput_self
  have hheld : held = false := by simp [held, hstate]
  have hcompared : ¬(!(((s.pair.state == 4 || s.pair.state == 5) && s.pair.kKnown) || hasWheeler s || (held && s.pair.realigned))) = true := by
    simp [hstate, hknown]
  rw [if_neg hcompared]
  split
  · have hapart : Quiet { kept with pair := { kept.pair with agreeSince := none } } apart := ev_quiet ..
    split
    · rw [holdWheeler_compare, hapart.pair, (holdWheeler_calm 1 apart).axis, hapart.axis]
      exact ⟨hkept, rfl⟩
    · rw [hapart.pair, hapart.axis]
      exact ⟨hkept, rfl⟩
  · rw [if_pos (by simp [hheld])]
    exact ⟨hkept, rfl⟩

/-! RING (R163) -/

/-- R153: an ACK changes when the ring was last acknowledged. -/
theorem sendAck_ring (n : Nat) (s : State) : ∃ ackAt since limit,
    (sendAck n s).ring n = { s.ring n with ackAt := ackAt, dataSince := since, ackLimit := limit } := by
  unfold sendAck
  extract_lets r v limit
  split
  · exact ⟨_, _, _, rfl⟩
  · exact ⟨_, _, _, State.setRing_ring ..⟩

/-- R154: NAKs only go out. -/
theorem sendNak_quiet (n reason : Nat) : ∀ (k : Nat) (runs : List (Nat × Nat)) (s : State), Quiet s (sendNak n reason k runs s)
  | 0, _, s => .refl s
  | k + 1, runs, s => by
    unfold sendNak
    split
    · exact .refl s
    · split
      · exact .refl s
      · exact (sendNak_quiet n reason k _ _).trans (emit_quiet ..)

/-- R163: what the partner has received of a ring is noted. -/
theorem takeRing_spec (n cum release : Nat) (ranges : List (Nat × Nat)) (limit : Nat) (s : State) :
    ((takeRing n cum release ranges limit s).ring n).peerCum = cum ∧ ((takeRing n cum release ranges limit s).ring n).peerRelease = release ∧
      ((takeRing n cum release ranges limit s).ring n).peerRanges = ranges ∧ (takeRing n cum release ranges limit s).store = s.store := by
  unfold takeRing
  extract_lets old r was noted new lost _ asked
  have hnoted : (noted.ring n).peerCum = cum ∧ (noted.ring n).peerRelease = release ∧ (noted.ring n).peerRanges = ranges ∧ noted.store = s.store := by
    simp only [noted, State.setRing_ring]
    exact ⟨rfl, rfl, rfl, rfl⟩
  have hasked : (asked.ring n).peerCum = cum ∧ (asked.ring n).peerRelease = release ∧ (asked.ring n).peerRanges = ranges ∧ asked.store = s.store := by
    unfold asked
    split
    · exact hnoted
    · have hquiet := sendNak_quiet n 2 lost.length (lost.map (fun g => (max g.first r.release, g.stop)))
        (noted.setRing n { noted.ring n with
          peerGaps := (noted.ring n).peerGaps.map (fun g => if lost.contains g then { g with naked := some noted.time.now } else g) })
      rw [State.ring, hquiet.rings, hquiet.store, ← State.ring, State.setRing_ring]
      exact hnoted
  split
  · obtain ⟨ackAt, since, ackLimit, hring⟩ := sendAck_ring n asked
    rw [hring, sendAck_store]
    exact hasked
  · exact hasked

/-- Settles O52: the header by what is heard with it (`heardFrom_quiet`), each record by what its own function leaves. -/
theorem recordsAreTaken : Obligations.RecordsAreTaken := by
  refine ⟨fun dt h s => ⟨fun unheard => congrArg ok (receiveRecord_unheard (s := tick dt s) unheard id), fun runs crc => ?_⟩,
    fun dt h s fresh => ⟨fun b => ?_, fun t0 count lpos hstate hknown => ?_, fun ring cum release limit ranges => ?_, fun latency offset diff => ?_⟩⟩
  · have hquiet := heardFrom_quiet h (tick dt s)
    obtain ⟨u, hu, haxis, hstore, n, above, hpair⟩ : ∃ u, receiveRecord h id (tick dt s) = ackBack h u ∧ u.axis = s.axis ∧ u.store = s.store ∧
        ∃ n above, u.pair = { heardPair h (tick dt s) with rxSeq := n, rxAbove := above } := by
      rw [receiveRecord_heard (s := tick dt s) runs crc]
      split
      · exact ⟨_, rfl, hquiet.axis, hquiet.store, _, _, hquiet.pair⟩
      · exact ⟨_, rfl, recordState_axis dt h s, recordState_store dt h s, recordState_pair dt h s⟩
    have hexec : exec (.pairAck dt h) s = .next (ackBack h u) := congrArg ok hu
    refine ⟨_, hexec, ?_⟩
    obtain ⟨model, hback⟩ := ackBack_eq h u
    refine ⟨by rw [hback, hpair]; rfl, by rw [hback, hpair]; rfl, by rw [hback]; exact haxis, by rw [hback]; exact hstore, fun hreq => ?_, fun hreq => ?_⟩
    · rw [hback, hpair, hreq]; exact ⟨rfl, rfl⟩
    · refine ⟨by rw [hback, hpair, hreq]; rfl, u.pair.rxSeq, ?_⟩
      have hseq : s.pair.txSeq = u.pair.txSeq := by rw [hpair]; rfl
      rw [ackBack, if_pos hreq, hseq]
      exact withTag_mem_emit (.pair u.pair.txSeq false u.pair.rxSeq .ack) _
  · obtain ⟨model, hback⟩ := ackBack_eq h (followPower b.request (takeHeartbeat b (recordState dt h s)))
    refine ⟨_, fresh.recordOk dt _, ?_⟩
    rw [hback]
    exact (followPower_heard b.request _).heartbeat.trans (takeHeartbeat_noted b _)
  · obtain ⟨model, hback⟩ := ackBack_eq h (takeLpos t0 lpos (recordState dt h s))
    obtain ⟨hcompare, haxis⟩ := takeLpos_standby t0 lpos ((recordState_state dt h s).trans hstate) ((recordState_kKnown dt h s).trans hknown)
    rw [recordState_compare] at hcompare
    rw [recordState_axis] at haxis
    exact ⟨_, fresh.recordOk dt _, by rw [hback]; exact hcompare, by rw [hback]; exact haxis⟩
  · obtain ⟨model, hback⟩ := ackBack_eq h (takeRing ring cum release ranges limit (recordState dt h s))
    have hring := takeRing_spec ring cum release ranges limit (recordState dt h s)
    rw [recordState_store] at hring
    refine ⟨_, fresh.recordOk dt _, ?_⟩
    rw [hback]
    exact hring
  · obtain ⟨model, hback⟩ := ackBack_eq h (takeEchoRecord latency offset diff (recordState dt h s))
    refine ⟨_, fresh.recordOk dt _, ?_⟩
    rw [hback]
    exact ⟨rfl, rfl, rfl, recordState_axis dt h s⟩

/-! ### Packets by their check (R141, R142, R158) -/

section
variable {peer : Peer} {p : StreamPkt} {s : State}

theorem receivePacket_probe {flag : Nat} (hport : peer.port ≠ .mgmt) (hring : p.stream ≤ 63) (htyp : p.typ = 3)
    (hcheck : packetCheck (s.ring p.stream) (limitBefore s p.stream) (cfgN s 0x5005 p.stream) p = (0, flag)) :
    receivePacket peer p s = sendAck p.stream (countPort peer.port 0 s) := by
  have hcounted : packetCheck ((countPort peer.port 0 s).ring p.stream) (limitBefore (countPort peer.port 0 s) p.stream)
    (cfgN (countPort peer.port 0 s) 0x5005 p.stream) p = (0, flag) := hcheck
  simp only [receivePacket, if_neg hport, if_neg (Nat.not_lt.mpr hring), hcounted, if_pos htyp]

end

/-! ### Acknowledgements and requests (R153, R154, R157) -/

theorem countPort_up (q : Port) (i : Nat) (s : State) (m : Nat) : ((countPort q i s).port m).up = (s.port m).up := by
  by_cases hm : m = portNum q
  · subst hm; rw [countPort, State.setPort_port]
  · rw [countPort_port_ne hm]

theorem streamPeer_countPort (q : Port) (i : Nat) (s : State) (n : Nat) : streamPeer (countPort q i s) n = streamPeer s n := by
  simp only [streamPeer, countPort_up]
  rfl

section
variable {s : State} {n : Nat} {p : Peer} (hlead : isWheeler s = false) (hpeer : streamPeer s n = some p)
include hlead hpeer

/-- R153: an ACK goes to the latest source of the ring. -/
theorem sendAck_sends : sendAck n s = emit (.ack n p (cfgN s 0x5005 n) (ackLimitOf s n) (ackValues s n).2.1 (ackValues s n).1 ((ackValues s n).2.2.take 32))
    (s.setRing n { s.ring n with ackAt := s.time.now, dataSince := false, ackLimit := ackLimitOf s n }) := by
  rw [sendAck, hlead, hpeer]
  rfl

/-- R154: a NAK carries the first runs that are asked for. -/
theorem sendNak_sends {runs : List (Nat × Nat)} (hruns : runs ≠ []) (reason k : Nat) :
    Sent (.nak n p (cfgN s 0x5005 n) reason (ackLimitOf s n) (ackValues s n).2.1 (ackValues s n).1 (runs.take 32)) s (sendNak n reason (k + 1) runs s) := by
  have hsent : sendNak n reason (k + 1) runs s = sendNak n reason k (runs.drop 32)
      (emit (.nak n p (cfgN s 0x5005 n) reason (ackLimitOf s n) (ackValues s n).2.1 (ackValues s n).1 (runs.take 32)) s) := by
    rw [sendNak, if_neg (by simpa using hruns), hlead, hpeer]
    rfl
  rw [hsent]
  exact (sendNak_keeps _ _ _ _ _ (Keeps.refl _)).tx _ (sent_emit rfl _)
end

theorem addRun_ne_nil {a b : Nat} {l : List (Nat × Nat)} (h : a < b ∨ l ≠ []) : addRun a b l ≠ [] := by
  unfold addRun
  split
  · exact h.resolve_left (by omega)
  · simp

/-- Runs that are gathered from gaps, one of which is not empty. -/
theorem gatherRuns_ne_nil (run : Gap → Nat × Nat) : ∀ (gs : List Gap) (l : List (Nat × Nat)), (l ≠ [] ∨ ∃ g ∈ gs, (run g).1 < (run g).2) →
    gs.foldl (fun l g => addRun (run g).1 (run g).2 l) l ≠ []
  | [], l, h => by simpa using h
  | g :: gs, l, h => by
    refine gatherRuns_ne_nil run gs _ ?_
    rcases h with hl | ⟨x, hx, hrun⟩
    · exact .inl (addRun_ne_nil (.inr hl))
    · rcases List.mem_cons.mp hx with rfl | hx
      · exact .inl (addRun_ne_nil (.inl hrun))
      · exact .inr ⟨x, hx, hrun⟩

/-- R154: a gap whose request is due is asked for, and notes when. -/
theorem requestGaps_asks {s : State} {n : Nat} {p : Peer} {g : Gap} (hlead : isWheeler s = false) (hpeer : streamPeer s n = some p)
    (hg : g ∈ (s.ring n).gaps) (hdue : gapDue s g = true) (htime : inTime s n g.first g.stop = true) (hreason : g.reason = 1)
    (hrun : g.first < g.stop) (hrelease : (s.ring n).release < g.stop) :
    ∃ runs, runs ≠ [] ∧ { g with naked := some s.time.now } ∈ ((requestGaps n s).ring n).gaps ∧ (requestGaps n s).store = s.store ∧
      Sent (.nak n p (cfgN s 0x5005 n) 1 (ackLimitOf s n) (ackValues s n).2.1 (ackValues s n).1 runs) s (requestGaps n s) := by
  unfold requestGaps
  rw [if_neg (by simp [hlead, hpeer])]
  extract_lets due own peer runs asked noted
  have hown : g ∈ own := List.mem_filter.mpr ⟨hg, by rw [hdue, htime]; rfl⟩
  have hruns : runs 1 ≠ [] := by
    refine gatherRuns_ne_nil (gapRun (s.ring n)) _ [] (.inr ⟨g, ?_, max_lt hrun hrelease⟩)
    exact List.mem_filter.mpr ⟨List.mem_append_left _ hown, by rw [hreason]; rfl⟩
  have hring : noted.ring n = { s.ring n with gaps := asked (s.ring n).gaps, peerGaps := asked (s.ring n).peerGaps } := State.setRing_ring ..
  have hgap : { g with naked := some s.time.now } ∈ (noted.ring n).gaps := by
    rw [hring]
    exact List.mem_map.mpr ⟨g, hg, if_pos (List.contains_iff_mem.mpr (List.mem_append_left _ hown))⟩
  have hquiet : Quiet noted (sendNak n 2 ((runs 2).length + 1) (runs 2) (sendNak n 1 ((runs 1).length + 1) (runs 1) noted)) :=
    (sendNak_quiet ..).trans (sendNak_quiet ..)
  have hvalues : ackValues noted n = ackValues s n := by
    simp only [ackValues, hring]
    rfl
  have hlimit : ackLimitOf noted n = ackLimitOf s n := by
    simp only [ackLimitOf, hvalues, hring]
    rfl
  have hsent := sendNak_sends (s := noted) hlead (by rw [streamPeer, hring]; exact hpeer) hruns 1 (runs 1).length
  rw [hvalues, hlimit] at hsent
  refine ⟨(runs 1).take 32, by simpa using hruns, by rw [State.ring, hquiet.rings]; exact hgap, hquiet.store, ?_⟩
  exact (sendNak_keeps _ _ _ _ _ (Keeps.refl _)).tx _ hsent

/-! ### Links (R143) -/

/-- R143: a port's link changes, and no other port. -/
theorem linkChange_spec (n : Nat) (up : Bool) (s : State) : ((linkChange n up s).port n).up = up ∧ (linkChange n up s).store = s.store ∧
    (linkChange n up s).axis = s.axis ∧ ∀ m, m ≠ n → (linkChange n up s).port m = s.port m := by
  unfold linkChange
  extract_lets _ changed raised
  split
  case isTrue hup => exact ⟨hup, rfl, rfl, fun _ _ => rfl⟩
  case isFalse =>
    have hraised : Quiet changed raised := raise_quiet ..
    obtain ⟨l, hgone⟩ := causeGone_calm 0x5015 (unitDie 0) raised none
    have hfault := addFault_calm 0x5015 1 5 (unitDie 0) raised true none false false
    have hkept : ClockKept raised (if n = 2 then raised
        else if (!up) = true then addFault 0x5015 1 5 (unitDie 0) raised
        else if ((raised.port 0).up && (raised.port 1).up) = true then causeGone 0x5015 (unitDie 0) raised else raised) :=
      ite_clock (.refl raised) (ite_clock ⟨addFault_heard .., hfault.ports, hfault.store, hfault.axis⟩
        (ite_clock ⟨causeGone_heard .., hgone.ports, hgone.store, hgone.axis⟩ (.refl raised)))
    have hport : ∀ t, ClockKept raised t → ∀ m, t.port m = changed.port m := fun t ht m => by rw [State.port, ht.ports, hraised.ports]; rfl
    refine ⟨?_, ?_, ?_, fun m hm => ?_⟩
    · rw [hport _ hkept, State.setPort_port]
    · rw [hkept.store, hraised.store]; rfl
    · rw [hkept.axis, hraised.axis]; rfl
    · rw [hport _ hkept, State.setPort_port_ne _ _ _ _ hm]

/-- Settles O39: ACK and NAK by what goes out, the link by `linkChange_spec`. -/
theorem acksNaksAndLinks : Obligations.AcksNaksAndLinks := by
  refine ⟨fun dt s => ⟨fun peer p pkt flag hruns htyp hport hring hcheck hlead hpeer => ?_, fun ring p henable hsince hdue hlead hpeer => ?_,
    fun ring p g henable hlead hpeer hg hdue htime hreason hrun hrelease => ?_⟩, fun dt port up s hpower hdown => ?_⟩
  · have hguard : (receiverRuns s && pkt.typ == 3) = true := by rw [hruns, htyp]; rfl
    have hexec := (guardOk_of hguard (receivePacket peer pkt) (tick dt s)).trans
      (congrArg _ (receivePacket_probe (s := tick dt s) hport hring htyp hcheck))
    refine ⟨_, hexec, by rw [sendAck_store]; rfl, ?_⟩
    rw [sendAck_sends (s := countPort peer.port 0 (tick dt s)) hlead ((streamPeer_countPort ..).trans hpeer)]
    exact sent_emit rfl _
  · have hguard : (((tick dt s).ring ring).enable && ((tick dt s).ring ring).dataSince &&
        decide (((tick dt s).ring ring).ackAt + cfgN (tick dt s) 0x5010 0 * us ≤ (tick dt s).time.now)) = true := by
      rw [Bool.and_eq_true, Bool.and_eq_true, decide_eq_true_eq]
      exact ⟨⟨henable, hsince⟩, hdue⟩
    refine ⟨_, guardOk_of hguard _ _, ?_⟩
    rw [sendAck_sends (s := tick dt s) hlead hpeer]
    refine ⟨?_, ?_, rfl, sent_emit rfl _⟩
    · rw [emit_ring, State.setRing_ring]; rfl
    · rw [emit_ring, State.setRing_ring]
  · obtain ⟨runs, hruns, hnoted, hstore, hsent⟩ := requestGaps_asks (s := tick dt s) hlead hpeer hg hdue htime hreason hrun hrelease
    exact ⟨_, runs, guardOk_of (s := tick dt s) henable _, hruns, hnoted, hstore, hsent⟩
  · have hguard : (decide ((tick dt s).power.state ≤ 1) && !(tick dt s).power.down) = true := by simp [hpower, hdown]
    obtain ⟨hup, hstore, haxis, hothers⟩ := linkChange_spec port up (tick dt s)
    have hclock := dropMasters_clock (linkChange port up (tick dt s))
    refine ⟨_, guardOk_of hguard (fun s => dropMasters (linkChange port up s)) (tick dt s), ?_, hclock.store.trans hstore, hclock.axis.trans haxis, fun m hm => ?_⟩
    · rw [State.port, hclock.ports]; exact hup
    · rw [State.port, hclock.ports]; exact hothers m hm

/-! ### DATA packets (R142, R146, R158, R160) -/

/-! Packets by their check -/

section
variable {peer : Peer} {p : StreamPkt} {s : State}

/-- R142: a packet by MGMT, or of no ring, changes the counters of its port alone. -/
theorem countPort_twice (q : Port) (i : Nat) (s : State) (hi : i ≠ 0) : (countPort q i (countPort q 0 s)).store = s.store ∧
    (countPort q i (countPort q 0 s)).rings = s.rings ∧
    tget 0 ((countPort q i (countPort q 0 s)).port (portNum q)).stats i = tget 0 (s.port (portNum q)).stats i + 1 :=
  ⟨rfl, rfl, by rw [countPort_stats, countPort_stats_ne hi]⟩

theorem receivePacket_mgmt (hport : peer.port = .mgmt) : receivePacket peer p s = countPort .mgmt 6 (countPort .mgmt 0 s) := if_pos hport

section
variable (hport : peer.port ≠ .mgmt)
include hport

theorem receivePacket_beyond (hring : 63 < p.stream) : receivePacket peer p s = countPort peer.port 7 (countPort peer.port 0 s) := by
  rw [receivePacket, if_neg hport, if_pos hring]

/-- R160: a DATA packet that passes every check, and that does not come by NET_0 as well, is accepted. -/
theorem receivePacket_accepts {flag : Nat} (hring : p.stream ≤ 63) (htyp : p.typ ≠ 3)
    (hcheck : packetCheck (s.ring p.stream) (limitBefore s p.stream) (cfgN s 0x5005 p.stream) p = (0, flag))
    (htwin : peer.port = .net1 → net0Twin s p.stream p = false) :
    receivePacket peer p s = acceptPacket p.stream peer p (countPort peer.port 0 s) := by
  have hcounted : packetCheck ((countPort peer.port 0 s).ring p.stream) (limitBefore (countPort peer.port 0 s) p.stream)
    (cfgN (countPort peer.port 0 s) 0x5005 p.stream) p = (0, flag) := hcheck
  have hsingle : ¬(peer.port = .net1 ∧ net0Twin (countPort peer.port 0 s) p.stream p = true) :=
    fun ⟨hnet, htrue⟩ => Bool.false_ne_true ((htwin hnet).symm.trans htrue)
  simp only [receivePacket, if_neg hport, if_neg (Nat.not_lt.mpr hring), hcounted, if_neg htyp, if_neg hsingle]

/-- R158: a packet that a check refuses is discarded, which a conflict with the index reports besides. -/
theorem receivePacket_refuses {check flag : Nat} (hring : p.stream ≤ 63)
    (hcheck : packetCheck (s.ring p.stream) (limitBefore s p.stream) (cfgN s 0x5005 p.stream) p = (check + 1, flag)) :
    Quiet (discardPacket p.stream (check + 1) flag (countPort peer.port 0 s)) (receivePacket peer p s) := by
  have hcounted : packetCheck ((countPort peer.port 0 s).ring p.stream) (limitBefore (countPort peer.port 0 s) p.stream)
    (cfgN (countPort peer.port 0 s) 0x5005 p.stream) p = (check + 1, flag) := hcheck
  simp only [receivePacket, if_neg hport, if_neg (Nat.not_lt.mpr hring), hcounted]
  split
  next heq => simp at heq
  next heq =>
    obtain ⟨hseven, hflag⟩ := Prod.mk.inj heq
    rw [hseven, hflag]
    exact ev_quiet ..
  next heq =>
    obtain ⟨hcheck', hflag⟩ := Prod.mk.inj heq
    rw [hcheck', hflag]
    exact .refl _
end
end

/-! Refused packets (R158) -/

/-- R158: each check has a flag of the ring's status. -/
theorem packetCheck_flag_lt (r : Ring) (limit epoch : Nat) (p : StreamPkt) : (packetCheck r limit epoch p).2 < 32 := by
  unfold packetCheck
  repeat' split
  all_goals decide

/-- R158: a discard sets the flag of its check, and stores nothing. -/
theorem discardPacket_spec (n check : Nat) {flag : Nat} (hflag : flag < 32) (s : State) : (discardPacket n check flag s).store = s.store ∧
    ((discardPacket n check flag s).ring n).status.on flag = true ∧ ((discardPacket n check flag s).ring n).cum = (s.ring n).cum ∧
    ((discardPacket n check flag s).ring n).index = (s.ring n).index := by
  have hset := Flags.set_on s.time.now (s.ring n).status hflag
  unfold discardPacket
  extract_lets r flagged counted due
  split
  · rw [State.setRing_ring]; exact ⟨rfl, hset, rfl, rfl⟩
  · split
    · rw [ev_ring, ev_store, State.setRing_ring]; exact ⟨rfl, hset, rfl, rfl⟩
    · rw [State.setRing_ring]; exact ⟨rfl, hset, rfl, rfl⟩

/-! Well-formed packets (R144, R145) -/

theorem packetFormed_of_check {r : Ring} {limit epoch flag : Nat} {p : StreamPkt} (h : packetCheck r limit epoch p = (0, flag)) :
    packetFormed p = true := by
  by_contra hformed
  rw [packetCheck, if_pos (by simpa using hformed)] at h
  simp at h

/-- R145: a DATA packet carries whole blocks, from a block of the sequence on. -/
theorem packetFormed_data {p : StreamPkt} (h : packetFormed p = true) (htyp : p.typ = 0) :
    p.seq.toNat % 64 = 0 ∧ p.length % 64 = 0 ∧ 64 ≤ p.length ∧ p.payload.length = p.length := by
  simp only [packetFormed, htyp, bne_self_eq_false, Bool.false_or, Nat.reduceBNe, Bool.true_or, Bool.and_true, Bool.and_eq_true, beq_iff_eq,
    decide_eq_true_eq] at h
  omega

/-! Blocks of the store (R146, R198) -/

/-- Blocks of bytes written one after another: block `q` holds `data q`, and lies from `addr q` on. -/
def storeBlocks (addr : Nat → Nat) (data : Nat → List Byte) (qs : List Nat) (m : Tab Byte) : Tab Byte :=
  qs.foldl (fun m q => storeBytes m (addr q) (data q)) m

section
variable {addr : Nat → Nat} {data : Nat → List Byte}

/-- A byte outside every block reads as before. -/
theorem loadByte_storeBlocks_ne {a : Nat} : ∀ {qs : List Nat} {m : Tab Byte}, (∀ q ∈ qs, a < addr q ∨ addr q + (data q).length ≤ a) →
    loadByte (storeBlocks addr data qs m) a = loadByte m a
  | [], _, _ => rfl
  | q :: qs, m, h => by
    rw [storeBlocks, List.foldl_cons, ← storeBlocks, loadByte_storeBlocks_ne fun x hx => h x (List.mem_cons_of_mem q hx),
      loadByte_storeBytes_ne (h q List.mem_cons_self)]

/-- A byte of a block that no other block covers reads as it was written. -/
theorem loadByte_storeBlocks {q k : Nat} (hk : k < (data q).length) : ∀ {qs : List Nat} {m : Tab Byte}, q ∈ qs →
    (∀ x ∈ qs, x ≠ q → addr q + k < addr x ∨ addr x + (data x).length ≤ addr q + k) →
    loadByte (storeBlocks addr data qs m) (addr q + k) = (data q)[k]
  | x :: qs, m, hq, h => by
    rw [storeBlocks, List.foldl_cons, ← storeBlocks]
    by_cases hlater : q ∈ qs
    · exact loadByte_storeBlocks hk hlater fun y hy => h y (List.mem_cons_of_mem x hy)
    · obtain rfl : q = x := (List.mem_cons.mp hq).resolve_right hlater
      rw [loadByte_storeBlocks_ne fun y hy => h y (List.mem_cons_of_mem q hy) fun heq => hlater (heq ▸ hy)]
      exact loadByte_storeBytes hk
end

theorem fireLatency_cfg (pc lat : Nat) (s : State) : (fireLatency pc lat s).proto.cfg = s.proto.cfg := by
  unfold fireLatency
  extract_lets v due
  split
  · rw [ev_cfg]
  · rfl

theorem countAccess_cfg (cls u : Nat) (write : Bool) (s : State) : (countAccess cls u write s).proto.cfg = s.proto.cfg := by
  unfold countAccess countRequests
  extract_lets b w was lat slow acts stats
  split
  · exact fireLatency_cfg ..
  · rfl

theorem noteRewrite_cfg (u : Nat) (s : State) : (noteRewrite u s).proto.cfg = s.proto.cfg := by
  unfold noteRewrite
  split <;> rfl

theorem writeUnits_cfg (cls u : Nat) (bytes : List Byte) (s : State) : (writeUnits cls u bytes s).proto.cfg = s.proto.cfg := by
  unfold writeUnits
  refine forAll_induct (P := fun t => t.proto.cfg = s.proto.cfg) (fun i t ht => ?_) _ _ rfl
  rw [noteRewrite_cfg, countAccess_cfg]
  exact ht

theorem baseVal_of_cfg {s t : State} (h : t.proto.cfg = s.proto.cfg) (i j : Nat) : baseVal t i j = baseVal s i j := by
  unfold baseVal
  rw [h]

/-- R146: where the blocks of a ring lie rests on the configuration alone. -/
theorem ringAddr_of_cfg {s t : State} (h : t.proto.cfg = s.proto.cfg) (n q : Nat) : ringAddr t n q = ringAddr s n q := by
  have hcfg : ∀ i, cfgN t i n = cfgN s i n := fun i => by rw [cfgN, cfg, baseVal_of_cfg h, ← cfg, ← cfgN]
  rw [ringAddr, ringAddr, ringBase, ringSize, hcfg, hcfg, ← ringBase, ← ringSize]

/-! The blocks of a packet (R158) -/

/-- R158: the runs of a packet that are not yet received and lie at or above RELEASE. -/
def packetRuns (r : Ring) (p : StreamPkt) : List (Nat × Nat) :=
  missingIn (received r) (max r.release p.seq.toNat) (p.seq.toNat + p.length)

/-- R158: where the blocks that a packet stores begin in the sequence. -/
def packetBlocks (r : Ring) (p : StreamPkt) : List Nat :=
  (packetRuns r p).flatMap (fun x => (List.range ((x.2 - x.1) / 64)).map (fun i => x.1 + 64 * i))

/-- The bytes of the block of a packet at `q` of the sequence. -/
def packetBlock (p : StreamPkt) (q : Nat) : List Byte := (p.payload.drop (q - p.seq.toNat)).take 64

theorem packetBlock_length_le (p : StreamPkt) (q : Nat) : (packetBlock p q).length ≤ 64 := List.length_take_le ..

theorem writeBlocks_mem (n : Nat) (data : Nat → List Byte) (s : State) : ∀ (qs : List Nat) (t : State), t.proto.cfg = s.proto.cfg →
    (forAll qs (fun q s => writeUnits 1 (ringAddr s n q / 64) (data q) s) t).store.mem =
      storeBlocks (fun q => ringAddr s n q / 64 * 64) data qs t.store.mem
  | [], _, _ => rfl
  | q :: qs, t, ht => by
    rw [forAll, List.foldl_cons, ← forAll, writeBlocks_mem n data s qs _ ((writeUnits_cfg ..).trans ht), writeUnits_mem, ringAddr_of_cfg ht]
    rfl

/-- R146, R158: storing a packet writes its blocks at their places in the ring. -/
theorem storePacket_mem (n : Nat) (p : StreamPkt) (s : State) : (storePacket n p s).store.mem =
    storeBlocks (fun q => ringAddr s n q / 64 * 64) (packetBlock p) (packetBlocks (s.ring n) p) s.store.mem :=
  writeBlocks_mem n (packetBlock p) s _ s rfl

/-- Runs that lie in an interval. -/
def RunsWithin (a b : Nat) (l : List (Nat × Nat)) : Prop := ∀ x ∈ l, a ≤ x.1 ∧ x.2 ≤ b

theorem RunsWithin.cutRun {a b : Nat} {l : List (Nat × Nat)} (h : RunsWithin a b l) (first stop : Nat) : RunsWithin a b (cutRun first stop l) := by
  intro x hx
  simp only [Machine.cutRun, List.mem_filter, List.mem_flatMap, List.mem_cons, List.not_mem_nil, or_false] at hx
  obtain ⟨⟨y, hy, hpart⟩, -⟩ := hx
  obtain ⟨hlow, hhigh⟩ := h y hy
  rcases hpart with rfl | rfl
  · exact ⟨hlow, (min_le_left ..).trans hhigh⟩
  · exact ⟨hlow.trans (le_max_left ..), hhigh⟩

theorem RunsWithin.cutRuns {a b : Nat} : ∀ (held : List (Nat × Nat)) {l : List (Nat × Nat)}, RunsWithin a b l →
    RunsWithin a b (held.foldl (fun acc r => Machine.cutRun r.1 r.2 acc) l)
  | [], _, h => h
  | r :: held, _, h => cutRuns held (h.cutRun r.1 r.2)

/-- What is missing in an interval lies in it. -/
theorem missingIn_within (a b : Nat) (held : List (Nat × Nat)) : RunsWithin a b (missingIn held a b) := by
  refine RunsWithin.cutRuns held fun x hx => ?_
  split at hx
  · rw [List.mem_singleton.mp hx]
    exact ⟨le_rfl, le_rfl⟩
  · exact absurd hx List.not_mem_nil

/-- A block that a packet stores lies in the packet. -/
theorem packetBlocks_within {r : Ring} {p : StreamPkt} {q : Nat} (h : q ∈ packetBlocks r p) :
    p.seq.toNat ≤ q ∧ q < p.seq.toNat + p.length := by
  obtain ⟨x, hx, hq⟩ := List.mem_flatMap.mp h
  obtain ⟨i, hi, rfl⟩ := List.mem_map.mp hq
  obtain ⟨hlow, hhigh⟩ := missingIn_within _ _ _ x hx
  have hrange := List.mem_range.mp hi
  have hseq := le_max_right r.release p.seq.toNat
  omega

/-- The blocks of a packet that is wholly new. -/
theorem mem_packetBlocks_of_new {r : Ring} {p : StreamPkt} (hnew : packetRuns r p = [(p.seq.toNat, p.seq.toNat + p.length)]) {q : Nat} :
    q ∈ packetBlocks r p ↔ ∃ j < p.length / 64, p.seq.toNat + 64 * j = q := by
  simp [packetBlocks, hnew]

/-- R146: a block of the ring begins at a block of the store, and its bytes follow one another. -/
theorem ringAddr_block {s : State} {n q k : Nat} (hbase : ringBase s n % 64 = 0) (hsize : ringSize s n % 64 = 0) (hq : q % 64 = 0)
    (hk : k < 64) :
    ringAddr s n q % 64 = 0 ∧ (0 < ringSize s n → ringAddr s n (q + k) = ringAddr s n q + k) := by
  have hmod : q % ringSize s n % 64 = 0 := by rw [Nat.mod_mod_of_dvd _ (Nat.dvd_of_mod_eq_zero hsize), hq]
  unfold ringAddr
  refine ⟨?_, fun hpos => ?_⟩
  · split <;> omega
  · rw [if_neg hpos.ne', if_neg hpos.ne']
    have hlt := Nat.mod_lt q hpos
    rw [Nat.add_mod, Nat.mod_eq_of_lt (a := k) (by omega), Nat.mod_eq_of_lt (a := _ + k) (by omega), Nat.add_assoc]

/-- R146: blocks of the sequence that lie within a ring's size of each other lie apart in the ring. -/
theorem ringAddr_injective {s : State} {n q x : Nat} (hx : x < q + ringSize s n) (hq : q < x + ringSize s n)
    (h : ringAddr s n q = ringAddr s n x) : q = x := by
  unfold ringAddr at h
  rw [if_neg (by omega), if_neg (by omega)] at h
  have hmod : q % ringSize s n = x % ringSize s n := Nat.add_left_cancel h
  exact Nat.ModEq.eq_of_abs_lt hmod (abs_lt.mpr (by omega))

/-- R158: nothing outside a packet's units changes in the store. -/
theorem storePacket_frame {n a : Nat} {p : StreamPkt} {s : State}
    (h : ∀ q, p.seq.toNat ≤ q → q < p.seq.toNat + p.length → ringAddr s n q / 64 ≠ a / 64) :
    loadByte (storePacket n p s).store.mem a = loadByte s.store.mem a := by
  rw [storePacket_mem]
  refine loadByte_storeBlocks_ne fun q hq => ?_
  obtain ⟨hlow, hhigh⟩ := packetBlocks_within hq
  have hunit := h q hlow hhigh
  have hlength := packetBlock_length_le p q
  omega

/-- R146, R158: the bytes of a packet that is wholly new lie at their places in the ring. -/
theorem storePacket_byte {n : Nat} {p : StreamPkt} {s : State} (hseq : p.seq.toNat % 64 = 0) (hblocks : p.length % 64 = 0)
    (hpayload : p.payload.length = p.length) (hnew : packetRuns (s.ring n) p = [(p.seq.toNat, p.seq.toNat + p.length)])
    (hbase : ringBase s n % 64 = 0) (hsize : ringSize s n % 64 = 0) (hroom : p.length ≤ ringSize s n) {i : Nat} (hi : i < p.length) :
    loadByte (storePacket n p s).store.mem (ringAddr s n (p.seq.toNat + i)) = p.payload.getD i 0 := by
  have hk : i % 64 < (packetBlock p (p.seq.toNat + 64 * (i / 64))).length := by
    rw [packetBlock, List.length_take, List.length_drop, hpayload]
    omega
  have hmem : p.seq.toNat + 64 * (i / 64) ∈ packetBlocks (s.ring n) p := (mem_packetBlocks_of_new hnew).mpr ⟨i / 64, by omega, rfl⟩
  have halign : ∀ j, ringAddr s n (p.seq.toNat + 64 * j) / 64 * 64 = ringAddr s n (p.seq.toNat + 64 * j) := fun j => by
    have := (ringAddr_block hbase hsize (q := p.seq.toNat + 64 * j) (k := 0) (by omega) (by decide)).1
    omega
  have haddr : ringAddr s n (p.seq.toNat + i) = ringAddr s n (p.seq.toNat + 64 * (i / 64)) / 64 * 64 + i % 64 := by
    rw [halign, ← (ringAddr_block hbase hsize (by omega) (Nat.mod_lt i (by decide))).2 (by omega)]
    congr 1
    omega
  rw [storePacket_mem, haddr, loadByte_storeBlocks (addr := fun q => ringAddr s n q / 64 * 64) hk hmem fun x hx hne => ?_]
  · rw [List.getD_eq_getElem _ _ (by omega)]
    simp only [packetBlock, List.getElem_take, List.getElem_drop]
    congr 1
    omega
  · obtain ⟨j, hj, rfl⟩ := (mem_packetBlocks_of_new hnew).mp hx
    have hapart : ringAddr s n (p.seq.toNat + 64 * j) ≠ ringAddr s n (p.seq.toNat + 64 * (i / 64)) :=
      fun heq => hne (ringAddr_injective (by omega) (by omega) heq)
    have hlength := packetBlock_length_le p (p.seq.toNat + 64 * j)
    have hj64 := halign j
    have hi64 := halign (i / 64)
    omega

/-! What follows an accepted packet (R151, R153, R163, R479) -/

/-- What the ring knows of how far its packets reach and where they come from. -/
structure ReachKept (r r' : Ring) : Prop where
  high : r'.high = r.high
  sources : r'.sources = r.sources

theorem ReachKept.refl (r : Ring) : ReachKept r r := ⟨rfl, rfl⟩

theorem ReachKept.trans {r r' r'' : Ring} (h' : ReachKept r' r'') (h : ReachKept r r') : ReachKept r r'' :=
  ⟨h'.high.trans h.high, h'.sources.trans h.sources⟩

theorem noteRing_ring (n : Nat) (old : Ring) (s : State) (m : Nat) : (noteRing n old s).ring m = s.ring m := by
  unfold noteRing sendRing
  dsimp only
  split
  · split <;> rfl
  · rfl

theorem sendAck_reach (n : Nat) (s : State) : ReachKept (s.ring n) ((sendAck n s).ring n) := by
  obtain ⟨_, _, _, hring⟩ := sendAck_ring n s
  rw [hring]
  exact ⟨rfl, rfl⟩

/-- R151: the runs of released stripes count as received. -/
theorem addReleased_reach (run : Stripe → Nat × Nat) : ∀ (xs : List Stripe) (r : Ring),
    ReachKept r (xs.foldl (fun r x => { r with ranges := addRun (run x).1 (run x).2 r.ranges }) r)
  | [], r => .refl r
  | _ :: xs, _ => (addReleased_reach run xs _).trans ⟨rfl, rfl⟩

theorem updateRelease_reach (n : Nat) (s : State) : ReachKept (s.ring n) ((updateRelease n s).ring n) := by
  unfold updateRelease
  extract_lets r0 dead r open' point rel limit rises r' noted
  have hr : ReachKept r0 r' := by
    have h := addReleased_reach (fun x => (x.base, releasedEnd r0 x)) dead r0
    exact ⟨h.high, h.sources⟩
  have hnoted : ReachKept r0 (noted.ring n) := by
    rw [noteRing_ring, State.setRing_ring]
    exact ⟨hr.high, hr.sources⟩
  split
  · exact (sendAck_reach n noted).trans hnoted
  · exact hnoted

theorem sendStripe_calm (n base : Nat) (whole : Bool) (s : State) : Calm s (sendStripe n base whole s) := by
  unfold sendStripe
  split
  · exact ite_calm (.refl s) (mirror_calm ..)
  · exact .refl s

/-- R158: an accepted packet is stored; the ring reaches to its end, and answers where it came from. -/
theorem acceptPacket_spec (n : Nat) (peer : Peer) (p : StreamPkt) (s : State) :
    (acceptPacket n peer p s).store = (storePacket n p s).store ∧ p.seq.toNat + p.length ≤ ((acceptPacket n peer p s).ring n).high ∧
      ((acceptPacket n peer p s).ring n).sources.head? = some peer := by
  unfold acceptPacket
  extract_lets stored r r0 whole old runs joined filled _ taken released sent acked
  have htaken : p.seq.toNat + p.length ≤ taken.high ∧ taken.sources.head? = some peer := ⟨le_max_right .., rfl⟩
  clear_value taken
  have hreleased : ReachKept taken (released.ring n) := by
    have h := updateRelease_reach n (stored.setRing n taken)
    rwa [State.setRing_ring] at h
  have hsent : ReachKept taken (sent.ring n) := by
    rw [State.ring, (sendStripe_calm n (p.seq.toNat - p.offset) whole released).rings]
    exact hreleased
  have hsentStore : sent.store = stored.store := (sendStripe_calm ..).store.trans (updateRelease_store ..)
  have hacked : acked.store = stored.store ∧ ReachKept taken (acked.ring n) := by
    unfold acked
    split
    · exact ⟨(sendAck_store n sent).trans hsentStore, (sendAck_reach n sent).trans hsent⟩
    · exact ⟨hsentStore, hsent⟩
  obtain ⟨hstore, hreach⟩ := hacked
  rw [← hreach.high, ← hreach.sources] at htaken
  split
  · rw [noteRing_store, noteRing_ring]
    exact ⟨hstore, htaken⟩
  · exact ⟨hstore, htaken⟩

/-- Settles O38: `packetCheck` decides, an accepted packet's blocks by `storePacket_frame` and `storePacket_byte`. -/
theorem streamDataIsStored : Obligations.StreamDataIsStored := by
  intro dt peer p s hruns htyp
  have hguard : (receiverRuns s && p.typ != 3) = true := by simp [hruns, htyp]
  have hexec : exec (.streamData dt peer p) s = .next (receivePacket peer p (tick dt s)) := guardOk_of hguard (receivePacket peer p) (tick dt s)
  refine ⟨fun hport => ?_, fun hport hring => ?_, fun flag hport hring hdata hcheck htwin => ?_, fun check flag hport hring hcheck => ?_⟩
  · refine ⟨_, hexec, ?_⟩
    rw [receivePacket_mgmt hport]
    exact countPort_twice .mgmt 6 (tick dt s) (by decide)
  · refine ⟨_, hexec, ?_⟩
    rw [receivePacket_beyond hport hring]
    exact countPort_twice peer.port 7 (tick dt s) (by decide)
  · obtain ⟨hseq, hblocks, -, hpayload⟩ := packetFormed_data (packetFormed_of_check hcheck) hdata
    obtain ⟨hstore, hhigh, hsource⟩ := acceptPacket_spec p.stream peer p (countPort peer.port 0 (tick dt s))
    refine ⟨_, hexec, ?_⟩
    rw [receivePacket_accepts (s := tick dt s) hport hring htyp hcheck htwin, hstore]
    exact ⟨hhigh, hsource, fun a hframe => storePacket_frame (s := countPort peer.port 0 (tick dt s)) hframe,
      fun hnew hbase hsize hroom i hi => storePacket_byte (s := countPort peer.port 0 (tick dt s)) hseq hblocks hpayload hnew hbase hsize hroom hi⟩
  · have hquiet := receivePacket_refuses (s := tick dt s) hport hring hcheck
    have hflag : flag < 32 := by
      have h := packetCheck_flag_lt (s.ring p.stream) (limitBefore (tick dt s) p.stream) (cfgN s 0x5005 p.stream) p
      rwa [hcheck] at h
    have hdiscard := discardPacket_spec p.stream (check + 1) hflag (countPort peer.port 0 (tick dt s))
    refine ⟨_, hexec, ?_⟩
    rw [State.ring, hquiet.store, hquiet.rings]
    exact hdiscard

end Sys2Proof.Machine

/-! ## Proofs of the family "page store"

Two relations carry the scrubs: what reads, counts, logs and faults leave of the scrubbers' walks and of the bursts stored (`ScrubKept`), and the
part of it that concerns the walks alone (`WalkKept`), which the writing back of a burst keeps too. -/

namespace Sys2Proof.Machine

/-! ### Bytes stored (R166) -/

/-- Settles O7: a byte within the stored ones by `loadByte_storeBytes`, every other by `loadByte_storeBytes_ne`. -/
theorem storedBytesReadBack : Obligations.StoredBytesReadBack := by
  intro m a d b
  split
  case isTrue h =>
    have hi : b - a < d.length := by omega
    have hread := loadByte_storeBytes (m := m) (a := a) hi
    rw [Nat.add_sub_cancel' h.1] at hread
    rw [hread, List.getD_eq_getElem _ _ hi]
  case isFalse h => exact loadByte_storeBytes_ne (by omega)

/-! ### What the scrubs' reads, counts and faults leave alone -/

/-- The scrubbers' positions, and the units and words that wait for a scrub, are as they were. -/
structure WalkKept (s t : State) : Prop where
  scrubPos : t.integ.scrubPos = s.integ.scrubPos
  scrubQueue : t.integ.scrubQueue = s.integ.scrubQueue
  sramPos : t.integ.sramPos = s.integ.sramPos
  sramQueue : t.integ.sramQueue = s.integ.sramQueue

/-- So are the bytes of the page store, and what is known of its bursts. -/
structure ScrubKept (s t : State) : Prop extends WalkKept s t where
  mem : t.store.mem = s.store.mem
  marks : t.store.marks = s.store.marks
  fresh : t.store.fresh = s.store.fresh
  unwritten : t.store.unwritten = s.store.unwritten

theorem WalkKept.trans {s t u : State} (g : WalkKept t u) (h : WalkKept s t) : WalkKept s u :=
  ⟨g.scrubPos.trans h.scrubPos, g.scrubQueue.trans h.scrubQueue, g.sramPos.trans h.sramPos, g.sramQueue.trans h.sramQueue⟩

theorem WalkKept.of_integ {s t : State} (h : t.integ = s.integ) : WalkKept s t := by constructor <;> rw [h]

theorem ScrubKept.trans {s t u : State} (g : ScrubKept t u) (h : ScrubKept s t) : ScrubKept s u :=
  ⟨g.toWalkKept.trans h.toWalkKept, g.mem.trans h.mem, g.marks.trans h.marks, g.fresh.trans h.fresh, g.unwritten.trans h.unwritten⟩

/-- The fields that `ScrubKept` speaks of. -/
abbrev State.scrubFields (s : State) := (s.integ.scrubPos, s.integ.scrubQueue, s.integ.sramPos, s.integ.sramQueue, s.store.mem, s.store.marks,
  s.store.fresh, s.store.unwritten)

/-- An update of other fields keeps them. -/
theorem ScrubKept.same {s t : State} (h : t.scrubFields = s.scrubFields) : ScrubKept s t := by
  simp only [State.scrubFields, Prod.mk.injEq] at h
  obtain ⟨scrubPos, scrubQueue, sramPos, sramQueue, mem, marks, fresh, unwritten⟩ := h
  exact ⟨⟨scrubPos, scrubQueue, sramPos, sramQueue⟩, mem, marks, fresh, unwritten⟩

theorem ScrubKept.refl (s : State) : ScrubKept s s := .same rfl

theorem ScrubKept.of_integ_store {s t : State} (hi : t.integ = s.integ) (hs : t.store = s.store) : ScrubKept s t := .same (by
  rw [State.scrubFields, hi, hs])

theorem Quiet.scrub {s t : State} (h : Quiet s t) : ScrubKept s t := .of_integ_store h.integ h.store

theorem Calm.scrub {s t : State} (h : Calm s t) : ScrubKept s t := .of_integ_store h.integ h.store

theorem ite_scrub {c : Prop} [Decidable c] {s t u : State} (ht : ScrubKept s t) (hu : ScrubKept s u) : ScrubKept s (if c then t else u) := by
  split <;> assumption

theorem forAll_scrub {α : Type} {f : α → State → State} (h : ∀ a s, ScrubKept s (f a s)) (l : List α) (s : State) : ScrubKept s (forAll l f s) :=
  forAll_induct (P := ScrubKept s) (fun a t k => (h a t).trans k) l s (.refl s)

theorem ev_scrub (c : Nat) (d : BitVec 96) (s : State) (u : BitVec 32) (l : Option Int) (n : Nat) : ScrubKept s (ev c d s u l n) := (ev_quiet ..).scrub

theorem raise_scrub (c v : Nat) (d : BitVec 96) (s : State) (u : BitVec 32) (l : Option Int) (n : Nat) : ScrubKept s (raise c v d s u l n) :=
  (raise_quiet ..).scrub

theorem addFault_scrub (code cls level : Nat) (unit : BitVec 32) (s : State) (respond : Bool) (trigger : Option Nat) (silent exact_ : Bool) :
    ScrubKept s (addFault code cls level unit s respond trigger silent exact_) :=
  (addFault_calm code cls level unit s respond trigger silent exact_).scrub.trans (.same rfl)

/-! Counts, logs and retirement (R181, R214 to R218) -/

theorem fireLatency_scrub (pc lat : Nat) (s : State) : ScrubKept s (fireLatency pc lat s) :=
  ite_scrub ((ev_scrub ..).trans (.same rfl)) (.same rfl)

theorem countRequests_scrub (cls pc n : Nat) (write : Bool) (s : State) : ScrubKept s (countRequests cls pc n write s) :=
  ite_scrub ((fireLatency_scrub _ _ _).trans (.same rfl)) (.same rfl)

theorem countAccess_scrub (cls u : Nat) (write : Bool) (s : State) : ScrubKept s (countAccess cls u write s) := countRequests_scrub ..

theorem logError_scrub (e : LogEntry) (s : State) : ScrubKept s (logError e s) := by
  unfold logError
  dsimp only
  refine ite_scrub (.same rfl) (ite_scrub (.same rfl) (ite_scrub (ite_scrub ?_ (.same rfl)) (.same rfl)))
  exact (ev_scrub ..).trans (.same rfl)

theorem countCorrected_scrub (mem region : Nat) (s : State) : ScrubKept s (countCorrected mem region s) :=
  ite_scrub ((ev_scrub ..).trans (.same rfl)) (.same rfl)

theorem countUe_scrub (mem region : Nat) (s : State) : ScrubKept s (countUe mem region s) := .same rfl

theorem noteLap_scrub (mem addr : Nat) (ue : Bool) (s : State) : ScrubKept s (noteLap mem addr ue s) := .same rfl

theorem retireBlock_scrub (pc sid bank block row : Nat) (s : State) : ScrubKept s (retireBlock pc sid bank block row s) :=
  ite_scrub (.refl s) (ite_scrub (ev_scrub ..) (ite_scrub (ite_scrub (.refl s) (.same rfl)) (.same rfl)))

theorem retireCheck_scrub (u : Nat) (again : Bool) (s : State) : ScrubKept s (retireCheck u again s) := ite_scrub (retireBlock_scrub ..) (.refl s)

theorem uninitRead_scrub (requester : Nat) (unit : BitVec 32) (u : Nat) (s : State) : ScrubKept s (uninitRead requester unit u s) :=
  (logError_scrub _ _).trans (ev_scrub ..)

/-! Streams (R154, R155, R163) -/

theorem sendRing_scrub (n : Nat) (s : State) : ScrubKept s (sendRing n s) := ite_scrub (sendRecord_calm _ s).scrub (.refl s)

theorem integrityResend_scrub (n base reason : Nat) (s : State) : ScrubKept s (integrityResend n base reason s) := by
  unfold integrityResend
  extract_lets r
  split
  · exact .refl s
  · refine ite_scrub (.refl s) ?_
    extract_lets stop keep cum cut filling gapped noted raised _ asked
    have hraised : ScrubKept s raised := (ev_scrub _ _ noted _ _ _).trans (.same rfl)
    have hasked : ScrubKept raised asked := ite_scrub (sendNak_quiet ..).scrub (.same rfl)
    exact (sendRing_scrub n asked).trans (hasked.trans hraised)

/-! ### Faults of engines and regions (R26, R213, R284) -/

theorem endRemounts_scrub (sel : Nat → Engine → Bool) (s : State) : ScrubKept s (endRemounts sel s) := by
  rw [endRemounts_eq]; exact .same rfl

theorem regionFault_scrub (r : Nat) (first : BitVec 32) (s : State) : ScrubKept s (regionFault r first s) := by
  unfold regionFault
  extract_lets ended raised
  exact (addFault_scrub ..).trans ((raise_scrub _ _ _ ended _ _ _).trans (endRemounts_scrub _ s))

theorem setEngine_scrub (s : State) (k : Nat) (x : Engine) : ScrubKept s (s.setEngine k x) := .same rfl

theorem setRing_scrub (s : State) (n : Nat) (r : Ring) : ScrubKept s (s.setRing n r) := .same rfl

theorem setScreen_scrub (s : State) (x : Screen) : ScrubKept s { s with screen := x } := .same rfl

theorem redecode_scrub (p : Nat) (C : Int) (s : State) : ScrubKept s (redecode p C s) := by
  unfold redecode
  exact forAll_scrub (fun n t => setRing_scrub t n _) _ s

theorem rollBack_scrub (p : Nat) (ks : List Nat) (C : Int) (chain : Bool) (s : State) : ScrubKept s (rollBack p ks C chain s) := by
  unfold rollBack
  extract_lets returned cleared
  have hreturned : ScrubKept s returned := forAll_scrub (fun k t => setEngine_scrub t k _) ks s
  have hcleared : ScrubKept returned cleared := ite_scrub (.same rfl) (.refl returned)
  exact (redecode_scrub p C cleared).trans (hcleared.trans hreturned)

theorem updateCapacity_scrub (s : State) : ScrubKept s (updateCapacity s) := by
  unfold updateCapacity
  extract_lets c top _ known raised faulted
  have hraised : ScrubKept s raised := (raise_scrub _ _ _ known _ _ _).trans (.same rfl)
  have hfaulted : ScrubKept raised faulted := ite_scrub (addFault_scrub ..) (.refl raised)
  exact ite_scrub (.refl s) ((limitChanged_calm faulted).scrub.trans (hfaulted.trans hraised))

theorem engineFaultAt_scrub (k cause : Nat) (hand : Option Int) (s : State) : ScrubKept s (engineFaultAt k cause hand s) := by
  unfold engineFaultAt
  dsimp only
  have raised : ∀ sev d l u, ScrubKept s (raise 0x6002 sev d (bumpStats k 4 1 s) u l 0) := fun _ _ _ _ => (raise_scrub ..).trans (setEngine_scrub ..)
  split
  case h_1 => exact .refl s
  case h_2 =>
    refine ite_scrub ?inPlace ?_
    case inPlace => exact (addFault_scrub ..).trans ((rollBack_scrub ..).trans ((setEngine_scrub ..).trans (raised ..)))
    split
    case h_1 m _ =>
      refine (updateCapacity_scrub _).trans ?_
      refine (addFault_scrub ..).trans ?_
      refine (rollBack_scrub ..).trans ?_
      refine ScrubKept.trans (ite_scrub (forAll_scrub (fun j t => setEngine_scrub t j _) _ _) (.refl _)) ?_
      exact (setEngine_scrub _ m _).trans ((setEngine_scrub _ k _).trans (raised ..))
    case h_2 =>
      have released : ∀ u, ScrubKept u (if u.pair.state = 3 ∧ partnerStandby u = true then leadRelease 4 false u else u) :=
        fun u => ite_scrub (leadRelease_calm 4 false u).scrub (.refl u)
      refine (released _).trans ?_
      refine (updateCapacity_scrub _).trans ?_
      refine (addFault_scrub ..).trans ?_
      refine ScrubKept.trans (ite_scrub (forAll_scrub (fun j t => setEngine_scrub t j _) _ _) (.refl _)) ?_
      exact (setScreen_scrub _ _).trans ((setEngine_scrub _ k _).trans (raised ..))
  case h_3 => exact (addFault_scrub ..).trans ((setEngine_scrub ..).trans (raised ..))

theorem clusterFault_scrub (cluster : Nat) (s : State) : ScrubKept s (clusterFault cluster s) := by
  unfold clusterFault
  exact forAll_scrub (fun (x : Nat × Option Int) t => engineFaultAt_scrub x.1 5 x.2 t) _ s

/-! ### The ends of laps (R207) -/

theorem lapEnd_scrub (k : Nat) (s : State) : ScrubKept s (lapEnd k s) := by
  unfold lapEnd
  extract_lets z start took mine ended target
  have hended : ScrubKept s ended := .same rfl
  exact ite_scrub ((ev_scrub ..).trans hended) hended

/-- R206: the walk of a pseudo-channel goes on by one, or back to the start of a new lap. -/
theorem advanceScrub_scrubPos (pc : Nat) (s : State) : tget 0 (advanceScrub pc s).integ.scrubPos pc =
    if tget 0 s.integ.scrubPos pc + 1 < pcUnits then tget 0 s.integ.scrubPos pc + 1 else 0 := by
  unfold advanceScrub
  extract_lets m _ done back
  have hended : ScrubKept back (if 32 ≤ done.length then lapEnd 0 back else back) := ite_scrub (lapEnd_scrub 0 back) (.refl back)
  split
  · simp only [tget_tput_self, m]
  · rw [hended.scrubPos]
    simp only [back, tget_tput_self]

/-- R206: so does the walk of an SRAM bank. -/
theorem advanceSram_sramPos (k : Nat) (s : State) : tget 0 (advanceSram k s).integ.sramPos k =
    if tget 0 s.integ.sramPos k + 1 < sramWords k then tget 0 s.integ.sramPos k + 1 else 0 := by
  unfold advanceSram
  extract_lets m _ done back
  have hended : ScrubKept back (if 22 ≤ done.length then lapEnd 1 back else back) := ite_scrub (lapEnd_scrub 1 back) (.refl back)
  split
  · simp only [tget_tput_self, m]
  · rw [hended.sramPos]
    simp only [back, tget_tput_self]

theorem advanceSram_mem (k : Nat) (s : State) : (advanceSram k s).store.mem = s.store.mem := by
  unfold advanceSram
  extract_lets m _ done back
  split
  · rfl
  · exact (ite_scrub (lapEnd_scrub 1 back) (.refl back)).mem

/-! ### A unit that goes back (R197, R198, R206) -/

/-- What a read of a burst finds depends on what is known of the burst alone. -/
theorem burstClass_congr {s t : State} {b : Nat} (hmarks : tget {} t.store.marks b = tget {} s.store.marks b)
    (hfresh : tget false t.store.fresh b = tget false s.store.fresh b) (hunwritten : t.store.unwritten = s.store.unwritten) :
    burstClass t b = burstClass s b := by
  have hlost : lostAt t b = lostAt s b := by rw [lostAt, lostAt, hfresh, hunwritten]
  rw [burstClass, burstClass, neverWritten, neverWritten, hlost, hmarks]

theorem ScrubKept.burstClass {s t : State} (h : ScrubKept s t) (b : Nat) : burstClass t b = burstClass s b :=
  burstClass_congr (by rw [h.marks]) (by rw [h.fresh]) h.unwritten

/-- A burst that is written back touches the page store alone, and no other burst of it. -/
structure BurstSettled (b : Nat) (s t : State) : Prop where
  integ : t.integ = s.integ
  unwritten : t.store.unwritten = s.store.unwritten
  marks : ∀ j, j ≠ b → tget {} t.store.marks j = tget {} s.store.marks j
  fresh : ∀ j, j ≠ b → tget false t.store.fresh j = tget false s.store.fresh j
  right : burstClass s b = 1 → tget {} t.store.marks b = {}
  poisoned : burstClass s b = 3 → (tget {} t.store.marks b).poisoned = true

theorem BurstSettled.burstClass {b j : Nat} {s t : State} (h : BurstSettled b s t) (hj : j ≠ b) : burstClass t j = burstClass s j :=
  burstClass_congr (h.marks j hj) (h.fresh j hj) h.unwritten

theorem fixBurst_marks (b : Nat) (s : State) : (fixBurst b s).store.marks = tput {} s.store.marks b {} := rfl

theorem poisonBurst_marks (b : Nat) (s : State) : (poisonBurst b s).store.marks =
    tput {} (tput {} s.store.marks b {}) b { poisoned := true, injected := (tget {} s.store.marks b).injected } := rfl

theorem cleanBurst_fresh_ne {b j : Nat} (hj : j ≠ b) (s : State) : tget false (cleanBurst b s).store.fresh j = tget false s.store.fresh j := by
  unfold cleanBurst
  dsimp only
  split
  · rfl
  · exact tget_tput_ne hj

theorem settleBurst_settled (b : Nat) (s : State) : BurstSettled b s (settleBurst b s) := by
  unfold settleBurst
  have unchanged : burstClass s b ≠ 1 → burstClass s b ≠ 3 → BurstSettled b s s := fun h1 h3 =>
    ⟨rfl, rfl, fun _ _ => rfl, fun _ _ => rfl, fun h => absurd h h1, fun h => absurd h h3⟩
  split
  case h_1 h => exact unchanged (by omega) (by omega)
  case h_2 h =>
    refine ⟨rfl, rfl, fun j hj => ?_, fun j hj => ?_, fun _ => ?_, fun h3 => by omega⟩
    · rw [fixBurst_marks, tget_tput_ne hj]
    · exact cleanBurst_fresh_ne hj { s with store := { s.store with mem := storeBytes s.store.mem (b * 32) (burstData s b) } }
    · rw [fixBurst_marks, tget_tput_self]
  case h_3 h => exact unchanged (by omega) (by omega)
  case h_4 _ h1 _ =>
    refine ⟨rfl, rfl, fun j hj => ?_, fun j hj => ?_, fun h => absurd h h1, fun _ => ?_⟩
    · rw [poisonBurst_marks, tget_tput_ne hj, tget_tput_ne hj]
    · exact cleanBurst_fresh_ne hj { s with store := { s.store with mem := storeBytes s.store.mem (b * 32) (storedBurst s b) } }
    · rw [poisonBurst_marks, tget_tput_self]

/-- A unit with a burst of a class has a first one. -/
theorem burstWith_isSome {s : State} {u b c : Nat} (hb : b = 2 * u ∨ b = 2 * u + 1) (hc : burstClass s b = c) : (burstWith s u c).isSome = true := by
  rw [burstWith, List.find?_isSome]
  exact ⟨b, by simpa using hb, by simpa using hc⟩

/-! ### The scrub of a unit (R206, R208) -/

theorem firstRead_scrub (u : Nat) (s : State) : ScrubKept s (firstRead u s).2 := .same rfl

theorem scrubCorrected_scrub (u b : Nat) (hard : Bool) (s : State) : ScrubKept s (scrubCorrected u b hard s) :=
  ite_scrub (.refl s) ((countCorrected_scrub ..).trans ((noteLap_scrub ..).trans (logError_scrub _ s)))

theorem scrubUe_scrub (u b : Nat) (hard : Bool) (s : State) : ScrubKept s (scrubUe u b hard s) := by
  unfold scrubUe
  extract_lets skip logged _ marked counted raised
  have hmarked : ScrubKept s marked := ScrubKept.trans (t := logged) (.same rfl) (logError_scrub _ s)
  have hcounted : ScrubKept marked counted := ite_scrub (.refl marked) ((countUe_scrub ..).trans (noteLap_scrub ..))
  have hraised : ScrubKept s raised := (ev_scrub _ _ counted _ _ _).trans (hcounted.trans hmarked)
  split
  · exact (integrityResend_scrub _ _ 2 raised).trans hraised
  · exact hraised

/-- The bursts of a unit that is scrubbed have gone back: corrected ones right, uncorrectable ones poisoned. -/
structure UnitScrubbed (u : Nat) (s t : State) : Prop extends WalkKept s t where
  bursts : ∀ b, b = 2 * u ∨ b = 2 * u + 1 →
    (burstClass s b = 1 → tget {} t.store.marks b = {}) ∧ (burstClass s b = 3 → (tget {} t.store.marks b).poisoned = true)

/-- What a scrub leaves after its bursts have gone back leaves them so. -/
theorem UnitScrubbed.andThen {u : Nat} {s t v : State} (h : UnitScrubbed u s t) (k : ScrubKept t v) : UnitScrubbed u s v where
  toWalkKept := k.toWalkKept.trans h.toWalkKept
  bursts b hb := by rw [k.marks]; exact h.bursts b hb

/-- The bursts of a unit are written back one after the other. -/
theorem settleUnit_scrubbed {s t : State} (h : ScrubKept s t) (u : Nat) : UnitScrubbed u s (settleBurst (2 * u + 1) (settleBurst (2 * u) t)) := by
  have first := settleBurst_settled (2 * u) t
  have second := settleBurst_settled (2 * u + 1) (settleBurst (2 * u) t)
  have hodd := first.burstClass (j := 2 * u + 1) (by omega)
  refine ⟨(WalkKept.of_integ (second.integ.trans first.integ)).trans h.toWalkKept, ?_⟩
  rintro b (rfl | rfl)
  · rw [second.marks _ (by omega), ← h.burstClass]
    exact ⟨first.right, first.poisoned⟩
  · rw [← h.burstClass, ← hodd]
    exact ⟨second.right, second.poisoned⟩

theorem scrubAt_scrubbed (u : Nat) (s : State) : UnitScrubbed u s (scrubAt u s) := by
  unfold scrubAt
  extract_lets addr skip hard twice
  split
  next again first hfirst =>
  have hread : ScrubKept s first := by
    have heq : first = (firstRead u (countAccess 2 u false s)).2 := by rw [hfirst]
    rw [heq]
    exact (firstRead_scrub u _).trans (countAccess_scrub 2 u false s)
  extract_lets fixed bad uninit corrected lost written
  split
  case isTrue hnone =>
    obtain ⟨hfixed, hbad⟩ : fixed = none ∧ bad = none := by simpa using hnone
    refine ⟨hread.toWalkKept, fun b hb => ⟨fun h => ?_, fun h => ?_⟩⟩
    · have hsome := burstWith_isSome hb ((hread.burstClass b).trans h)
      rw [show burstWith first u 1 = none from hfixed] at hsome
      cases hsome
    · have hsome := burstWith_isSome hb ((hread.burstClass b).trans h)
      rw [show burstWith first u 3 = none from hbad] at hsome
      cases hsome
  case isFalse =>
    have huninit : ScrubKept s uninit := ScrubKept.trans (ite_scrub (uninitRead_scrub 0 0 u first) (.refl first)) hread
    have hcorrected : ScrubKept s corrected := by
      simp only [corrected, fixed]
      split
      · exact (scrubCorrected_scrub ..).trans huninit
      · exact huninit
    have hlost : ScrubKept s lost := by
      simp only [lost, bad]
      split
      · exact (scrubUe_scrub ..).trans hcorrected
      · exact hcorrected
    have hwritten : UnitScrubbed u s written := (settleUnit_scrubbed hlost u).andThen (countAccess_scrub ..)
    split
    · exact hwritten
    · exact hwritten.andThen (retireCheck_scrub ..)

/-- What strikes a unit is noted in the page store. -/
theorem strikeUnit_integ (u : Nat) (x : Upset) (s : State) : (strikeUnit u x s).integ = s.integ := by
  unfold strikeUnit
  extract_lets hit d
  have hhit : ∀ b data chk t, (hit b data chk t).integ = t.integ := by
    intro b data chk t
    simp only [hit]
    split <;> rfl
  rw [hhit, hhit]

/-- R206: a slot of a scrubber for which nothing waits advances its walk. -/
theorem scrubStep_walks {pc : Nat} {s : State} (x : Upset) (h : s.integ.scrubQueue.find? (fun u => (cellOf s (u * 64)).pc == pc) = none) :
    tget 0 (scrubStep pc x s).integ.scrubPos pc =
      if tget 0 s.integ.scrubPos pc + 1 < pcUnits then tget 0 s.integ.scrubPos pc + 1 else 0 := by
  unfold scrubStep
  rw [h]
  dsimp only
  split
  · exact advanceScrub_scrubPos pc s
  · rw [advanceScrub_scrubPos, (scrubAt_scrubbed _ _).scrubPos, strikeUnit_integ]

/-- R199: a slot of a scrubber for which a unit waits scrubs that unit. -/
theorem scrubStep_queued {pc u : Nat} {s : State} (x : Upset)
    (h : s.integ.scrubQueue.find? (fun u => (cellOf s (u * 64)).pc == pc) = some u) :
    UnitScrubbed u { s with integ := { s.integ with scrubQueue := s.integ.scrubQueue.erase u } } (scrubStep pc x s) := by
  unfold scrubStep
  rw [h]
  exact scrubAt_scrubbed u _

/-! ### The scrub of a word (R200, R209, R213) -/

theorem setSramMark_scrub (key : Nat) (m : SramMark) (s : State) : ScrubKept s (setSramMark key m s) := .same rfl

theorem strikeWord_scrub (key : Nat) (data : BitVec 64) (check : BitVec 8) (s : State) : ScrubKept s (strikeWord key data check s) :=
  setSramMark_scrub ..

theorem logWord_scrub (kind requester : Nat) (unit : BitVec 32) (key : Nat) (hard : Bool) (s : State) :
    ScrubKept s (logWord kind requester unit key hard s) := logError_scrub ..

theorem writeTableWord_scrub (addr : Nat) (bytes : List Byte) (s : State) : ScrubKept s (writeTableWord addr bytes s) := .same rfl

theorem fixWord_scrub (key : Nat) (s : State) : ScrubKept s (fixWord key s) := by
  unfold fixWord
  extract_lets m cleared
  have hcleared : ScrubKept s cleared := setSramMark_scrub ..
  refine ite_scrub hcleared (ite_scrub ((writeTableWord_scrub _ _ cleared).trans hcleared) (ScrubKept.trans (t := cleared) ?_ hcleared))
  exact .same rfl

theorem restoreEntry_scrub (ch : Nat) (s : State) : ScrubKept s (restoreEntry ch s) := .same rfl

theorem noteNozzleUe_scrub (word : Nat) (s : State) : ScrubKept s (noteNozzleUe word s) := .same rfl

theorem noteClusterUe_scrub (c : Nat) (s : State) : ScrubKept s (noteClusterUe c s) := .same rfl

theorem nozzleWordUe_scrub (unit : BitVec 32) (key : Nat) (s : State) : ScrubKept s (nozzleWordUe unit key s) := by
  unfold nozzleWordUe
  extract_lets word restored
  have hrestored : ScrubKept s restored := (restoreEntry_scrub _ _).trans (noteNozzleUe_scrub word s)
  exact ite_scrub ((regionFault_scrub ..).trans hrestored) hrestored

theorem scrubWord_scrub (key : Nat) (s : State) : ScrubKept s (scrubWord key s) := by
  unfold scrubWord
  extract_lets mem addr hard noted raised k clustered
  split
  · exact .refl s
  · exact (fixWord_scrub ..).trans ((countCorrected_scrub ..).trans ((noteLap_scrub ..).trans (logWord_scrub ..)))
  · have hnoted : ScrubKept s noted := (noteLap_scrub ..).trans (logWord_scrub ..)
    have hraised : ScrubKept s raised := (ev_scrub ..).trans ((countUe_scrub ..).trans hnoted)
    have hclustered : ScrubKept s clustered := (noteClusterUe_scrub ..).trans hraised
    exact ite_scrub ((nozzleWordUe_scrub ..).trans hraised) (ite_scrub (ite_scrub ((clusterFault_scrub ..).trans hclustered) hclustered) hraised)

/-- R206: a slot of a bank's scrubber for which nothing waits advances its walk. -/
theorem sramScrubStep_walks {k : Nat} {s : State} (data : BitVec 64) (check : BitVec 8)
    (h : s.integ.sramQueue.find? (fun key => sramBank (keyMem key) (keyAddr key) == k) = none) :
    (sramScrubStep k data check s).store.mem = s.store.mem ∧ tget 0 (sramScrubStep k data check s).integ.sramPos k =
      if tget 0 s.integ.sramPos k + 1 < sramWords k then tget 0 s.integ.sramPos k + 1 else 0 := by
  unfold sramScrubStep
  rw [h]
  extract_lets _ x key
  have hkept : ScrubKept s (scrubWord key (strikeWord key data check s)) := (scrubWord_scrub ..).trans (strikeWord_scrub ..)
  rw [advanceSram_mem, advanceSram_sramPos, hkept.mem, hkept.sramPos]
  exact ⟨rfl, rfl⟩

/-- R199: a slot of a bank's scrubber for which a word waits scrubs that word. -/
theorem sramScrubStep_queued {k key : Nat} {s : State} (data : BitVec 64) (check : BitVec 8)
    (h : s.integ.sramQueue.find? (fun key => sramBank (keyMem key) (keyAddr key) == k) = some key) :
    ScrubKept { s with integ := { s.integ with sramQueue := s.integ.sramQueue.erase key } } (sramScrubStep k data check s) := by
  unfold sramScrubStep
  rw [h]
  exact scrubWord_scrub key _

/-! ### The copy of a retired block (R218) -/

theorem fireLatency_integ (pc lat : Nat) (s : State) : (fireLatency pc lat s).integ = s.integ := by
  unfold fireLatency
  dsimp only
  split
  · rw [ev_integ]
  · rfl

theorem countRequests_integ (cls pc n : Nat) (write : Bool) (s : State) : (countRequests cls pc n write s).integ = s.integ := by
  unfold countRequests
  dsimp only
  split
  · rw [fireLatency_integ]
  · rfl

theorem copyBlock_integ (r : RetireEntry) (s : State) : (copyBlock r s).integ = s.integ := by
  unfold copyBlock
  dsimp only
  rw [countRequests_integ, countRequests_integ]
  refine forAll_induct (P := fun t => t.integ = s.integ) (fun u t ht => ?_) _ s rfl
  rw [(settleBurst_settled _ _).integ, (settleBurst_settled _ _).integ, ht]

/-- The entries of the retirement map stay, and what flash holds of it. -/
structure RetiredKept (s t : State) : Prop where
  flash : t.integ.retiredFlash = s.integ.retiredFlash
  entries : ∀ (n : Nat) (r : RetireEntry), s.integ.retired[n]? = some r → t.integ.retired[n]? = some r

theorem RetiredKept.trans {s t u : State} (g : RetiredKept t u) (h : RetiredKept s t) : RetiredKept s u :=
  ⟨g.flash.trans h.flash, fun n r hr => g.entries n r (h.entries n r hr)⟩

/-- An update that leaves the map keeps it. -/
theorem RetiredKept.same {s t : State} (hflash : t.integ.retiredFlash = s.integ.retiredFlash) (hmap : t.integ.retired = s.integ.retired) :
    RetiredKept s t := ⟨hflash, fun _ _ h => by rwa [hmap]⟩

theorem Calm.retired {s t : State} (h : Calm s t) : RetiredKept s t := .same (by rw [h.integ]) (by rw [h.integ])

theorem enterRetired_retired (b : Block) (rows : List Nat) (s : State) : RetiredKept s (enterRetired b rows s) where
  flash := rfl
  entries n r h := by
    obtain ⟨hn, -⟩ := List.getElem?_eq_some_iff.mp h
    exact (List.getElem?_append_left hn).trans h

theorem retireBlock_retired (pc sid bank block row : Nat) (s : State) : RetiredKept s (retireBlock pc sid bank block row s) := by
  unfold retireBlock
  dsimp only
  split
  · exact .same rfl rfl
  · split
    · exact (ev_calm ..).retired
    · split
      · split <;> exact .same rfl rfl
      · exact enterRetired_retired ..

theorem retireWaiting_retired (s : State) : RetiredKept s (retireWaiting s) :=
  forAll_induct (P := RetiredKept s) (fun _ t k => (retireBlock_retired _ _ _ _ _ t).trans k) _ _ (.same rfl rfl)

theorem completeOps_calm (f : Op → Bool) (code : Nat) (d : BitVec 96) (s : State) : Calm s (completeOps f code d s) :=
  forAll_calm (fun i t => completeHandle_calm i code d t) _ s

/-- The block of an entry is retired: the entry says so, flash holds it, and it has been written there. -/
structure BlockRetired (n : Nat) (r : RetireEntry) (t : State) : Prop where
  entry : t.integ.retired[n]? = some r
  flash : r ∈ t.integ.retiredFlash
  sent : Output.flash 3 n ∈ t.model.tx

theorem BlockRetired.andThen {n : Nat} {r : RetireEntry} {t u : State} (h : BlockRetired n r t) (k : RetiredKept t u) (tx : TxKept t u) :
    BlockRetired n r u := ⟨k.entries n r h.entry, k.flash ▸ h.flash, tx _ h.sent⟩

/-- An entry whose copy is done goes to flash with the map. -/
theorem mem_flashMap {n : Nat} {r : RetireEntry} {s : State} (h : s.integ.retired[n]? = some r) (hdone : 2 ≤ r.state) :
    r ∈ (flashMap s).integ.retiredFlash := List.mem_filter.mpr ⟨List.mem_of_getElem? h, by simpa using hdone⟩

/-- R218 steps 2 and 3: a block whose copy is done is retired, and the map goes to flash with it. -/
theorem retireDone_retires {n : Nat} {r : RetireEntry} {s : State} (hr : s.integ.retired[n]? = some r) (hcopy : r.state = 1) :
    BlockRetired n { r with state := 2 } (retireDone n s) := by
  unfold retireDone
  simp only [hr, ne_eq, hcopy, not_true_eq_false, if_false, copyBlock_integ]
  have hentry : (s.integ.retired.set n { r with state := 2 })[n]? = some { r with state := 2 } := by
    obtain ⟨hn, -⟩ := List.getElem?_eq_some_iff.mp hr
    rw [List.getElem?_set_self hn]
  have hended := fun f t => (retireWaiting_retired _).trans (completeOps_calm f 0 0 t).retired
  have htx := fun f t => (retireWaiting_keeps _ (completeOps_keeps f 0 0 t (Keeps.refl t))).tx
  refine BlockRetired.andThen ?_ (hended _ _) (htx _ _)
  refine ⟨?_, ?_, withTag_mem_emit (.flash 3 n) _⟩
  · rw [emit_integ, ev_integ]; exact hentry
  · rw [emit_integ, ev_integ]; exact mem_flashMap hentry (le_refl 2)

/-! ### The save of the nozzle table (R312) -/

/-- The part of a head has been saved: it is in flash, and nothing of it has changed since. -/
structure PartSaved (h : Nat) (t : State) : Prop where
  clean : tget false t.noz.dirty h = false
  flashed : tget false t.noz.flashed h = true
  sent : Output.flash 2 h ∈ t.model.tx

theorem savePart_dirty (h : Nat) (s : State) : (savePart h s).noz.dirty = tput false s.noz.dirty h false := rfl
theorem savePart_flashed (h : Nat) (s : State) : (savePart h s).noz.flashed = tput false s.noz.flashed h true := rfl
theorem savePart_store (h : Nat) (s : State) : (savePart h s).store = s.store := by
  unfold savePart
  extract_lets chans z saved
  rw [emit_store]

theorem savePart_saved (h : Nat) (s : State) : PartSaved h (savePart h s) where
  clean := by rw [savePart_dirty, tget_tput_self]
  flashed := by rw [savePart_flashed, tget_tput_self]
  sent := withTag_mem_emit (.flash 2 h) _

theorem savePart_clean {h : Nat} (k : Nat) {s : State} (hs : tget false s.noz.dirty h = false) : tget false (savePart k s).noz.dirty h = false := by
  by_cases hk : h = k
  · subst hk; exact (savePart_saved h s).clean
  · rwa [savePart_dirty, tget_tput_ne hk]

/-- The save of one part keeps another saved. -/
theorem PartSaved.savePart {h : Nat} (k : Nat) {s : State} (hs : PartSaved h s) : PartSaved h (savePart k s) := by
  by_cases hk : h = k
  · subst hk; exact savePart_saved h s
  · have hflashed : tget false (Machine.savePart k s).noz.flashed h = true := by rw [savePart_flashed, tget_tput_ne hk, hs.flashed]
    exact ⟨savePart_clean k hs.clean, hflashed, (savePart_keeps k s (Keeps.refl s)).tx _ hs.sent⟩

theorem saveTable_store (s : State) : (saveTable s).store = s.store := by
  unfold saveTable
  exact forAll_induct (P := fun t => t.store = s.store) (fun k t ht => (savePart_store k t).trans ht) _ s rfl

theorem saveTable_savedAt (s : State) : (saveTable s).noz.savedAt = s.time.now :=
  (forAll_keeps (fun h t => savePart_keeps h t (Keeps.refl t)) (Keeps.refl s)).now

/-- R312: after a save no part is due, and those that were due are in flash. -/
theorem saveTable_saves {h : Nat} (hh : h < 64) (s : State) : tget false (saveTable s).noz.dirty h = false ∧
    (tget false s.noz.dirty h = true → tget false (saveTable s).noz.flashed h = true ∧ Output.flash 2 h ∈ (saveTable s).model.tx) := by
  have hsaved : tget false s.noz.dirty h = true → PartSaved h (saveTable s) := fun hdirty => by
    have hmem : h ∈ headNums.filter (fun h => tget false s.noz.dirty h) := List.mem_filter.mpr ⟨List.mem_range.mpr hh, hdirty⟩
    obtain ⟨clean, flashed, sent⟩ := forAll_reaches_mem (P := PartSaved h) hmem (savePart_saved h) (fun k _ t ht => ht.savePart k) s
    exact ⟨clean, flashed, sent⟩
  refine ⟨?_, fun hdirty => ⟨(hsaved hdirty).flashed, (hsaved hdirty).sent⟩⟩
  cases hdirty : tget false s.noz.dirty h with
  | true => exact (hsaved hdirty).clean
  | false => exact forAll_induct (P := fun t => tget false t.noz.dirty h = false) (fun k t ht => savePart_clean k ht) _ s hdirty

/-! ### Upkeep -/

/-- R186: a refresh that is done makes up one that was put off. -/
theorem refreshBank_idle (b : Nat) (s : State) :
    (tget {} (refreshBank b false s).store.banks b).behind = (tget {} s.store.banks b).behind - 1 ∧
      tget 0 (refreshBank b false s).store.pcStats (b / 48 * 8 + 3) =
        tget 0 s.store.pcStats (b / 48 * 8 + 3) + (if 0 < (tget {} s.store.banks b).behind then 2 else 1) ∧
      (refreshBank b false s).store.mem = s.store.mem := by
  refine ⟨?_, ?_, rfl⟩
  · simp [refreshBank]
  · simp only [refreshBank, Bool.not_false, if_true, tmod, tget_tput_self]
    split <;> rfl

/-- R186: a refresh of a busy bank is put off while fewer than eight are behind. -/
theorem refreshBank_postponed {b : Nat} {s : State} (h : (tget {} s.store.banks b).behind < 8) :
    (tget {} (refreshBank b true s).store.banks b).behind = (tget {} s.store.banks b).behind + 1 ∧
      (refreshBank b true s).store.pcStats = s.store.pcStats ∧ (refreshBank b true s).store.mem = s.store.mem := by
  simp [refreshBank, h]

/-- R186: the ninth is forced and counted. -/
theorem refreshBank_forced {b : Nat} {s : State} (h : 8 ≤ (tget {} s.store.banks b).behind) :
    tget {} (refreshBank b true s).store.banks b = tget {} s.store.banks b ∧
      tget 0 (refreshBank b true s).store.pcStats (b / 48 * 8 + 4) = tget 0 s.store.pcStats (b / 48 * 8 + 4) + 1 ∧
      (refreshBank b true s).store.mem = s.store.mem := by
  simp only [refreshBank, Bool.not_true, Bool.false_eq_true, if_false, if_neg (not_lt.mpr h), tinc, tmod]
  split <;> simp

/-- R187: the temperature of the stack and the refresh rate that it sets. -/
theorem exec_stackTempRead (dt : Nat) (temp : Int) (s : State) : ∃ t, exec (.stackTempRead dt temp) s = .next t ∧
    t.store = { s.store with temp := temp, hot := decide (85 < temp) } ∧ t.integ = s.integ := by
  refine ⟨_, rfl, ?_⟩
  split
  · rw [ev_store, ev_integ]; exact ⟨rfl, rfl⟩
  · exact ⟨rfl, rfl⟩

section
variable (dt : Nat) {s : State}

theorem exec_storeRefresh (bank : Fin 1536) (busy : Bool) (h : storeRuns s = true) :
    exec (.storeRefresh dt bank busy) s = .next (refreshBank bank busy (tick dt s)) := guardOk_of (c := storeRuns (tick dt s)) h _ _

theorem exec_scrub (pc : Fin 32) (upset : Upset) (hpower : s.power.state ≤ 1) (hon : cfg s 0xB013 0 = 1) (hstore : s.store.state = 2) :
    exec (.scrub dt pc upset) s = .next (scrubStep pc upset (tick dt s)) := by
  have hguard : (s.store.state == 2 && decide (s.power.state ≤ 1) && cfg s 0xB013 0 == 1) = true := by simp [hpower, hon, hstore]
  exact guardOk_of hguard _ _

theorem exec_sramScrub (bank : Fin 22) (data : BitVec 64) (check : BitVec 8) (hpower : s.power.state ≤ 1) (hon : cfg s 0xB013 0 = 1) :
    exec (.sramScrub dt bank data check) s = .next (sramScrubStep bank data check (tick dt s)) := by
  have hguard : (decide (s.power.state ≤ 1) && cfg s 0xB013 0 == 1) = true := by simp [hpower, hon]
  exact guardOk_of hguard _ _

theorem exec_retireCopyDone (entry : Nat) (h : storeRuns s = true) :
    exec (.retireCopyDone dt entry) s = .next (retireDone entry (tick dt s)) := guardOk_of (c := storeRuns (tick dt s)) h _ _

theorem exec_counterWriteback (h : storeRuns s = true) :
    exec (.counterWriteback dt) s = .next (writeBack (tick dt s)) := guardOk_of (c := storeRuns (tick dt s)) h _ _

theorem exec_nozzleSave (h : storeRuns s = true) (hflash : flashWorks s = true) (hdue : s.noz.savedAt + cfgN s 0x6033 0 * sec ≤ s.time.now + dt) :
    exec (.nozzleSave dt) s = .next (saveTable (tick dt s)) := by
  have hguard : (storeRuns s && flashWorks s && decide (s.noz.savedAt + cfgN s 0x6033 0 * sec ≤ s.time.now + dt)) = true := by simp [h, hflash, hdue]
  exact guardOk_of hguard _ _
end

/-- Settles O42: each command by the step that its premise lets run: refreshes by `refreshBank`, scrubs by whether anything waits for one,
retirement, the counters and the save by what each leaves. -/
theorem storeUpkeep : Obligations.StoreUpkeep := by
  refine ⟨fun dt s => ⟨fun bank hruns => ⟨?_, fun hbehind => ?_, fun hbehind => ?_⟩, fun temp => exec_stackTempRead dt temp s⟩,
    fun dt s hpower hon => ⟨fun pc upset hstore hnone => ?_, fun pc upset u hstore hsome => ?_, fun bank data check hnone => ?_,
      fun bank data check key hsome => ?_⟩,
    fun dt s hruns => ⟨fun entry r hentry hcopy => ?_, ?_, fun hflash hdue => ?_⟩⟩
  · exact ⟨_, exec_storeRefresh dt bank false hruns, refreshBank_idle bank (tick dt s)⟩
  · exact ⟨_, exec_storeRefresh dt bank true hruns, refreshBank_postponed (s := tick dt s) hbehind⟩
  · exact ⟨_, exec_storeRefresh dt bank true hruns, refreshBank_forced (s := tick dt s) hbehind⟩
  · exact ⟨_, exec_scrub dt pc upset hpower hon hstore, scrubStep_walks (s := tick dt s) upset hnone⟩
  · have hscrubbed := scrubStep_queued (s := tick dt s) upset hsome
    exact ⟨_, exec_scrub dt pc upset hpower hon hstore, hscrubbed.scrubPos, hscrubbed.scrubQueue, hscrubbed.bursts⟩
  · exact ⟨_, exec_sramScrub dt bank data check hpower hon, sramScrubStep_walks (s := tick dt s) data check hnone⟩
  · have hkept := sramScrubStep_queued (s := tick dt s) data check hsome
    exact ⟨_, exec_sramScrub dt bank data check hpower hon, hkept.mem, hkept.sramPos, hkept.sramQueue⟩
  · obtain ⟨hretired, hmap, hsent⟩ := retireDone_retires (s := tick dt s) hentry hcopy
    exact ⟨_, exec_retireCopyDone dt entry hruns, hretired, hmap, hsent⟩
  · exact ⟨_, exec_counterWriteback dt hruns, rfl, rfl, rfl, rfl⟩
  · exact ⟨_, exec_nozzleSave dt hruns hflash hdue, saveTable_savedAt (tick dt s), saveTable_store (tick dt s), fun h hh => saveTable_saves hh (tick dt s)⟩

end Sys2Proof.Machine

/-! ## Proofs of the family "data integrity"

A command that ends at once is answered with its handle, does its work and completes the handle. `Started` says what holds once it is answered,
`WorkKept` what its work leaves, so that the answer stands and the handle can end. -/

namespace Sys2Proof.Machine

/-! ### Commands that end at once (R66, R67) -/

theorem openSlot_congr {s t : State} (h : ∀ i, (t.sess i).phase = (s.sess i).phase ∧ (t.sess i).id = (s.sess i).id) (id : BitVec 32) :
    openSlot t id = openSlot s id :=
  find_congr fun i _ => by rw [(h i).1, (h i).2]

theorem reply_openSlot (k n first : Nat) (resp : Response) (s : State) (id : BitVec 32) : openSlot (reply k n first resp s) id = openSlot s id := by
  refine openSlot_congr (fun i => ?_) id
  obtain ⟨-, -, hid, hphase, -⟩ := reply_sess k n first resp s i
  exact ⟨hphase, hid⟩

/-- R67: a handle that starts gives its session an event queue, and changes no session otherwise. -/
theorem startHandle_openSlot (k idx : Nat) (op : Op) (h : Nat) (s : State) (id : BitVec 32) :
    openSlot (startHandle k idx op h s) id = openSlot s id := by
  refine openSlot_congr (fun i => ?_) id
  unfold startHandle
  dsimp only
  split
  · exact ⟨rfl, rfl⟩
  · by_cases hi : i = k
    · subst hi; rw [State.setSess_sess]; exact ⟨rfl, rfl⟩
    · rw [State.setSess_sess_ne _ _ _ _ hi]; exact ⟨rfl, rfl⟩

/-- Where a command that was served in `u` has taken its handle and is answered. -/
structure Started (r : Req) (k h idx : Nat) (op : Op) (u v : State) : Prop where
  quiet : Quiet u v
  answered : Answered k r ⟨0x07, 1, .handle (handleWord v h)⟩ v
  running : Running k h idx op u v
  opened : ∀ id, openSlot v id = openSlot u id

/-- R66: a command with no effect before its answer passes through a state in which it has started. -/
theorem command_started {dt : Nat} {r : Req} {recovery : Bool} {k h idx role : Nat} {s u : State} {op : Op} {bad : State → Nat}
    {after : Nat → State → State} (served : Served dt r recovery k s u) (starts : Starts k idx role op h u) (hbad : bad u = 0) :
    ∃ v, command dt r { idx := idx, role := role, op := op, bad := bad, after := after } s recovery = .next (after h v) ∧
      Started r k h idx op u v := by
  obtain ⟨answered, running⟩ := handle_runs (r := r) (k := k) (h := h) (u := u) (idx := idx) (op := op) (v := startHandle k idx op h u)
    (n := u.pair.txSeq) rfl
  exact ⟨_, command_next served starts hbad, (reply_quiet ..).trans (startHandle_quiet k idx op h u), answered, running,
    fun id => (reply_openSlot ..).trans (startHandle_openSlot ..)⟩

/-- What the work of a command leaves: its handle, as far as the answer and its end go, and what has gone out or waits to. -/
structure WorkKept (h : Nat) (s t : State) : Prop where
  phase : (t.handle h).phase = (s.handle h).phase
  use : (t.handle h).use = (s.handle h).use
  withheld : t.proto.withheld = s.proto.withheld
  tx : TxKept s t

theorem WorkKept.trans {h : Nat} {s t u : State} (g : WorkKept h t u) (w : WorkKept h s t) : WorkKept h s u :=
  ⟨g.phase.trans w.phase, g.use.trans w.use, g.withheld.trans w.withheld, g.tx.trans w.tx⟩

theorem BooksKept.work {s t : State} (b : BooksKept s t) (tx : TxKept s t) (h : Nat) : WorkKept h s t :=
  ⟨by rw [b.handle], by rw [b.handle], b.withheld, tx⟩

/-- R67: bytes moved are noted in the handle. -/
theorem withProgress_work (h n : Nat) (s : State) : WorkKept h s (withProgress h n s) :=
  ⟨withProgress_phase h n s, by rw [withProgress, State.setHandle_handle], rfl, .refl s⟩

theorem completeHandle_use (slot code : Nat) (d : BitVec 96) (s : State) :
    ((completeHandle slot code d s).handle slot).use = (s.handle slot).use := by
  unfold completeHandle
  dsimp only
  split
  · rfl
  · split
    · rw [State.setHandle_handle]
    · split
      · rw [State.setHandle_handle]
      · split
        · rw [(deliver_books ..).handle, State.setHandle_handle]
        · rw [(deliver_books ..).handle, State.setHandle_handle]

theorem completeHandle_tx (slot code : Nat) (d : BitVec 96) (s : State) : TxKept s (completeHandle slot code d s) :=
  (completeHandle_keeps slot code d s (.refl s)).tx

theorem WorkKept.handleWord_completeHandle {h : Nat} {v w : State} (work : WorkKept h v w) (code : Nat) (d : BitVec 96) :
    handleWord (completeHandle h code d w) h = handleWord v h := by
  rw [handleWord, completeHandle_use, work.use, handleWord]

/-- R67: after work that leaves them, the answer stands and the handle ends. -/
theorem Started.ends {r : Req} {k h idx : Nat} {op : Op} {u v w : State} (started : Started r k h idx op u v) (work : WorkKept h v w) (code : Nat)
    (d : BitVec 96) :
    Answered k r ⟨0x07, 1, .handle (handleWord (completeHandle h code d w) h)⟩ (completeHandle h code d w) ∧
      Completed h code d (completeHandle h code d w) := by
  refine ⟨?_, completeHandle_completed h code d w (work.phase.trans started.running.phase)⟩
  rw [work.handleWord_completeHandle]
  exact started.answered.mono ((completeHandle_tx h code d w).trans work.tx) ((completeHandle_withheld ..).trans work.withheld)

/-- A command that does its work at once: the answer stands, and the handle ends with success. -/
theorem command_doneAtOnce {dt : Nat} {r : Req} {recovery : Bool} {k h idx role : Nat} {s u : State} {op : Op} {bad : State → Nat}
    {f : State → State} (served : Served dt r recovery k s u) (starts : Starts k idx role op h u) (hbad : bad u = 0)
    (work : ∀ v, WorkKept h v (f v)) :
    ∃ v, command dt r { idx := idx, role := role, op := op, bad := bad, after := doneAtOnce f } s recovery = .next (completeHandle h 0 0 (f v)) ∧
      Quiet u v ∧
      Answered k r ⟨0x07, 1, .handle (handleWord (completeHandle h 0 0 (f v)) h)⟩ (completeHandle h 0 0 (f v)) ∧
      Completed h 0 0 (completeHandle h 0 0 (f v)) := by
  obtain ⟨v, hexec, started⟩ := command_started (after := doneAtOnce f) served starts hbad
  exact ⟨v, hexec, started.quiet, started.ends (work v) 0 0⟩

/-! ### BLOCK_DATA from the device (R53, R223, R310, R411) -/

theorem sendBlocks_quiet (sess : Nat) (w : BitVec 16) (data : List Byte) (s : State) : Quiet s (sendBlocks sess w data s) :=
  forAll_quiet (fun _ _ => (emit_quiet _ _).trans (setSess_quiet _ _ _)) _ s

theorem sendBlocks_books (sess : Nat) (w : BitVec 16) (data : List Byte) (s : State) : BooksKept s (sendBlocks sess w data s) :=
  forAll_books (fun _ t => (emit_books _ _).trans (setSess_books t sess { t.sess sess with devSeq := (t.sess sess).devSeq + 1 } rfl)) _ s

theorem sendBlocks_work (h sess : Nat) (w : BitVec 16) (data : List Byte) (s : State) : WorkKept h s (sendBlocks sess w data s) :=
  (sendBlocks_books sess w data s).work (sendBlocks_keeps sess w data s (.refl s)).tx h

/-- A block of the operation `w` has gone out, with these bytes at this offset. -/
def BlockSent (w : BitVec 16) (offset : Nat) (bytes : List Byte) (t : State) : Prop :=
  ∃ peer id n, Output.block peer id n w offset bytes ∈ t.model.tx

theorem BlockSent.mono {w : BitVec 16} {offset : Nat} {bytes : List Byte} {s t : State} (h : BlockSent w offset bytes s) (tx : TxKept s t) :
    BlockSent w offset bytes t := by
  obtain ⟨peer, id, n, hmem⟩ := h
  exact ⟨peer, id, n, tx _ hmem⟩

/-- R53: every 1,024 bytes of the data go out in a message of their own. -/
theorem sendBlocks_sends {data : List Byte} {i : Nat} (hi : i < (data.length + 1023) / 1024) (sess : Nat) (w : BitVec 16) (s : State) :
    BlockSent w (1024 * i) ((data.drop (1024 * i)).take 1024) (sendBlocks sess w data s) :=
  forAll_reaches_mem (List.mem_range.mpr hi) (fun _ => ⟨_, _, _, withTag_mem_emit (.block _ _ _ _ _ _) _⟩)
    (fun _ _ _ sent => sent.mono (fun o hmem => emit_tx _ _ o hmem)) s

/-- Data that one message holds go out in it. -/
theorem sendBlocks_one {data : List Byte} (hpos : data ≠ []) (hfits : data.length ≤ 1024) (sess : Nat) (w : BitVec 16) (s : State) :
    BlockSent w 0 data (sendBlocks sess w data s) := by
  have hlen := List.length_pos_iff.mpr hpos
  have h := sendBlocks_sends (data := data) (i := 0) (by omega) sess w s
  rwa [Nat.mul_zero, List.drop_zero, List.take_of_length_le hfits] at h

theorem loadBytes_length (m : Tab Byte) : ∀ n a : Nat, (loadBytes m a n).length = n
  | 0, _ => rfl
  | n + 1, a => congrArg (· + 1) (loadBytes_length m n (a + 1))

/-- R196: a burst has 32 bytes. -/
theorem storedBurst_length (s : State) (b : Nat) : (storedBurst s b).length = 32 := by
  unfold storedBurst
  dsimp only
  split
  · exact natBytes_length ..
  · simp [loadBytes_length]

theorem rawBurst_length (s : State) (a : Nat) : (rawBurst s a).length = 36 := by
  simp [rawBurst, storedBurst_length, natBytes_length]

theorem rawWord_length (s : State) (memory a : Nat) : (rawWord s memory a).length = 9 := by
  simp [rawWord, natBytes_length]

/-- R222: what a raw read sends: a burst of the page store, or a word of SRAM. -/
def rawBytes (s : State) (memory a : Nat) : List Byte := if memory = 0 then rawBurst s a else rawWord s memory a

/-- R222: a raw read's bytes fit one message. -/
theorem rawBytes_fits (s : State) (memory a : Nat) : rawBytes s memory a ≠ [] ∧ (rawBytes s memory a).length ≤ 1024 := by
  rw [← List.length_pos_iff, rawBytes]
  split
  · rw [rawBurst_length]; decide
  · rw [rawWord_length]; decide

/-- R204, R222: a raw read of a slab that is not skipped sends its bytes and ends. -/
theorem rawRead_eq {memory a : Nat} {s : State} (hskip : slabSkipped s (slabOf a) = false) (sess h : Nat) :
    rawRead sess memory a h s = completeHandle h 0 (detail 0 0 0 (rawClass s memory a)) (sendBlocks sess (handleWord s h) (rawBytes s memory a) s) := by
  have hlogged : ¬(memory == 0 && slabSkipped s (slabOf a)) = true := by rw [hskip, Bool.and_false]; decide
  unfold rawRead
  extract_lets bytes c logged
  rw [show logged = s from if_neg hlogged]
  rfl

/-- R310: a read of the nozzle table sends its entries, notes how many bytes went out, and ends with the generation. -/
theorem readTable_eq (sess first count : Nat) (pending : Bool) (h : Nat) (s : State) :
    readTable sess first count pending h s = completeHandle h 0 (detail 0 0 0 (readGen s pending).1.toNat)
      (withProgress h (48 * count) (sendBlocks sess (handleWord s h) (nozzleBytes s (readGen s pending).2 first count) s)) := rfl

/-- R294: an entry of the nozzle table has 48 bytes. -/
theorem entryBytes_length (e : Env) (d : NozDec) (unc : Bool) (c : NozCnt) (ch : Nat) : (entryBytes e d unc c ch).length = 48 := natBytes_length 48 _

theorem nozzleBytes_length (s : State) (L : Int) (first n : Nat) : (nozzleBytes s L first n).length = 48 * n := by
  simp [nozzleBytes, entryBytes_length, Nat.mul_comm]

/-- R411: the records of a frame go out, with how many bytes noted in the handle, which ends. -/
def readStats (sensor : Nat) (frame : BitVec 32) (sess h : Nat) (s : State) : State :=
  completeHandle h 0 0 (sendBlocks sess (handleWord s h) ((statsOf s sensor frame).flatMap statBytes)
    (withProgress h ((statsOf s sensor frame).flatMap statBytes).length s))

theorem Quiet.slabSkipped {s t : State} (q : Quiet s t) (slab : Nat) : slabSkipped t slab = slabSkipped s slab := by
  rw [Machine.slabSkipped, q.integ, Machine.slabSkipped]

theorem Quiet.statsOf {s t : State} (q : Quiet s t) (sensor : Nat) (frame : BitVec 32) : statsOf t sensor frame = statsOf s sensor frame := by
  rw [Machine.statsOf, q.insp, Machine.statsOf]

/-- A command that reads out does so for the session that asked for it. -/
theorem command_readsOut {dt : Nat} {r : Req} {recovery : Bool} {k h idx role : Nat} {s u : State} {op : Op} {bad : State → Nat}
    {work : Nat → Nat → State → State} (served : Served dt r recovery k s u) (hopen : openSlot u r.sess = some k) (starts : Starts k idx role op h u)
    (hbad : bad u = 0) :
    ∃ v, command dt r { idx := idx, role := role, op := op, bad := bad
                        after := fun h s => match openSlot s r.sess with | some k => work k h s | none => s } s recovery = .next (work k h v) ∧
      Started r k h idx op u v := by
  obtain ⟨v, hexec, started⟩ := command_started (bad := bad)
    (after := fun h s => match openSlot s r.sess with | some k => work k h s | none => s) served starts hbad
  rw [started.opened, hopen] at hexec
  exact ⟨v, hexec, started⟩

/-- Settles O23: each command's work is the sending of its blocks (`sendBlocks_sends`), after which its handle ends (`Started.ends`). -/
theorem commandsReadOut : Obligations.CommandsReadOut := by
  intro dt r k h s u served hopen
  refine ⟨fun memory address starts hbad hskip => ?_, fun first count pending starts hstore hrange => ?_, fun sensor frame starts hstats => ?_⟩
  · obtain ⟨v, hexec, started⟩ := command_readsOut (bad := fun s => checkerBarred s memory address) (work := fun k h s => rawRead k memory address h s)
      served hopen starts hbad
    rw [rawRead_eq ((started.quiet.slabSkipped _).trans hskip)] at hexec
    have work := sendBlocks_work h k (handleWord v h) (rawBytes v memory address) v
    obtain ⟨answered, completed⟩ := started.ends work 0 (detail 0 0 0 (rawClass v memory address))
    obtain ⟨hpos, hfits⟩ := rawBytes_fits v memory address
    refine ⟨_, v, hexec, started.quiet, (completeHandle_quiet ..).trans (sendBlocks_quiet ..), answered, completed, ?_⟩
    rw [work.handleWord_completeHandle]
    exact (sendBlocks_one hpos hfits k (handleWord v h) v).mono (completeHandle_tx _ _ _ _)
  · obtain ⟨v, hexec, started⟩ := command_readsOut
      (bad := fun s => firstOf [(storeBarred s != 0, storeBarred s), (badRange first count, 0x0303)])
      (work := fun k h s => readTable k first count pending h s) served hopen starts (by simp [firstOf, hstore, hrange])
    rw [readTable_eq] at hexec
    have work := (withProgress_work h (48 * count) _).trans
      (sendBlocks_work h k (handleWord v h) (nozzleBytes v (readGen v pending).2 first count) v)
    obtain ⟨answered, completed⟩ := started.ends work 0 (detail 0 0 0 (readGen v pending).1.toNat)
    refine ⟨_, v, hexec, started.quiet, (completeHandle_quiet ..).trans ((setHandle_quiet ..).trans (sendBlocks_quiet ..)), answered, completed,
      fun i hi => ?_⟩
    rw [work.handleWord_completeHandle]
    exact ((sendBlocks_sends (by rwa [nozzleBytes_length]) k (handleWord v h) v).mono (withProgress_work h (48 * count) _).tx).mono
      (completeHandle_tx _ _ _ _)
  · obtain ⟨v, hexec, started⟩ := command_readsOut (bad := fun s => if (statsOf s sensor frame).isEmpty then 0x0407 else 0)
      (work := readStats sensor frame) served hopen starts (if_neg (by simpa using hstats))
    have work := (sendBlocks_work h k (handleWord v h) ((statsOf v sensor frame).flatMap statBytes) _).trans
      (withProgress_work h ((statsOf v sensor frame).flatMap statBytes).length v)
    obtain ⟨answered, completed⟩ := started.ends work 0 0
    refine ⟨_, hexec, (completeHandle_quiet ..).trans ((sendBlocks_quiet ..).trans ((setHandle_quiet ..).trans started.quiet)), answered, completed,
      fun i hi => ?_⟩
    rw [← started.quiet.statsOf] at hi ⊢
    rw [readStats, work.handleWord_completeHandle]
    exact (sendBlocks_sends hi k (handleWord v h) _).mono (completeHandle_tx _ _ _ _)

/-! ### Writes of bytes (R166, R197, R198) -/

theorem burstData_length (s : State) (b : Nat) : (burstData s b).length = 32 := by
  unfold burstData
  split
  · exact storedBurst_length s b
  · split
    · exact loadBytes_length ..
    · rw [List.length_set, storedBurst_length]

/-- R197: settling a burst stores no byte outside it. -/
theorem settleBurst_byte_ne {b x : Nat} (hx : x / 32 ≠ b) (s : State) : loadByte (settleBurst b s).store.mem x = loadByte s.store.mem x := by
  unfold settleBurst
  split
  · rfl
  · exact loadByte_storeBytes_ne (by rw [burstData_length]; omega)
  · rfl
  · exact loadByte_storeBytes_ne (by rw [storedBurst_length]; omega)

/-- R198: merging a unit that is written in part stores no byte outside it. -/
theorem mergeUnit_byte_ne {u x : Nat} (hx : x / 64 ≠ u) (cls a z : Nat) (s : State) :
    loadByte (mergeUnit cls u a z s).store.mem x = loadByte s.store.mem x := by
  unfold mergeUnit
  refine forAll_induct_mem (P := fun t => loadByte t.store.mem x = loadByte s.store.mem x) _ (fun b hb t ht => ?_) _
    (by rw [(readUnit_read ..).mem])
  have hburst : x / 32 ≠ b := by
    simp only [List.mem_cons, List.not_mem_nil, or_false] at hb
    omega
  split
  · exact ht
  · exact (settleBurst_byte_ne hburst t).trans ht

/-- R166, R198: a write stores its bytes, in a memory that its merges have left as it was outside the units that it touches. -/
theorem writeBytes_mem (cls a : Nat) (bytes : List Byte) (s : State) :
    ∃ m, (writeBytes cls a bytes s).store.mem = storeBytes m a bytes ∧
      ∀ x, (x / 64 < a / 64 ∨ (a + bytes.length + 63) / 64 ≤ x / 64) → loadByte m x = loadByte s.store.mem x := by
  unfold writeBytes
  extract_lets z units opened stored written
  refine ⟨opened.store.mem, ?_, fun x hx => ?_⟩
  · refine forAll_induct (P := fun t => t.store.mem = storeBytes opened.store.mem a bytes) (fun u t ht => ?_) units written rfl
    rw [noteRewrite_store, countAccess_mem]
    exact ht
  · refine forAll_induct_mem (P := fun t => loadByte t.store.mem x = loadByte s.store.mem x) units (fun u hu t ht => ?_) s rfl
    have hunit : x / 64 ≠ u := by
      simp only [units, z, List.mem_map, List.mem_range] at hu
      omega
    split
    · exact ht
    · exact (mergeUnit_byte_ne hunit cls a z t).trans ht

/-! ### The checker test (R222) -/

/-- R222: a burst's mark as it is kept: none where it says nothing. -/
def keptMark (m : Mark) : Mark := if m.dataErr.isEmpty && m.checkErr == 0 && !m.foldErr && !m.poisoned then {} else m

theorem keptMark_spec (m : Mark) : (keptMark m).poisoned = m.poisoned ∧ (keptMark m).dataErr = m.dataErr ∧ (keptMark m).checkErr = m.checkErr := by
  unfold keptMark
  split
  next hclean =>
    simp only [Bool.and_eq_true, List.isEmpty_iff, beq_iff_eq, Bool.not_eq_true'] at hclean
    obtain ⟨⟨⟨hdata, hcheck⟩, -⟩, hpoison⟩ := hclean
    exact ⟨hpoison.symm, hdata.symm, hcheck.symm⟩
  next => exact ⟨rfl, rfl, rfl⟩

/-- R222: the mark that an injection leaves on its burst holds what the command asks for, clean or not. -/
theorem injectBurst_mark (a : InjectArgs) (s : State) :
    (tget {} (injectBurst a s).store.marks (a.address / 32)).poisoned = (a.mode == 1) ∧
      (tget {} (injectBurst a s).store.marks (a.address / 32)).dataErr = (if a.mode = 1 then [] else maskErrors a.dataMask) ∧
      (tget {} (injectBurst a s).store.marks (a.address / 32)).checkErr = (if a.mode = 1 then 0 else a.checkMask) := by
  unfold injectBurst
  extract_lets b written poison m clean
  obtain ⟨hpoison, hdata, hcheck⟩ := keptMark_spec m
  have hkept : tget {} (tput {} written.store.marks b (if clean = true then {} else m)) b = keptMark m := tget_tput_self
  rw [hkept, hpoison, hdata, hcheck]
  simp [m, poison]

/-- R222: an injection into the page store writes its 32 bytes, and outside the burst's unit nothing. -/
theorem injectBurst_bytes {a : InjectArgs} (haligned : a.address % 32 = 0) (hlen : a.data.length = 32) (s : State) :
    (∀ b, b / 32 = a.address / 32 → loadByte (injectBurst a s).store.mem b = a.data.getD (b - a.address) 0) ∧
      ∀ b, b / 64 ≠ a.address / 64 → loadByte (injectBurst a s).store.mem b = loadByte s.store.mem b := by
  obtain ⟨m, hmem, hout⟩ := writeBytes_mem 1 a.address a.data s
  have hstored : (injectBurst a s).store.mem = storeBytes m a.address a.data := hmem
  refine ⟨fun b hb => ?_, fun b hb => ?_⟩
  · have hi : b - a.address < a.data.length := by omega
    have hread := loadByte_storeBytes (m := m) (a := a.address) hi
    rw [Nat.add_sub_cancel' (by omega)] at hread
    rw [hstored, hread, List.getD_eq_getElem _ _ hi]
  · rw [hstored, loadByte_storeBytes_ne (by omega)]
    exact hout b (by omega)

theorem injectBurst_work (a : InjectArgs) (h : Nat) (s : State) : WorkKept h s (injectBurst a s) := by
  have hbooks : BooksKept s (injectBurst a s) := (setStore_books (writeBytes 1 a.address a.data s) _).trans (writeBytes_books 1 a.address a.data s)
  exact hbooks.work (injectBurst_keeps a s (.refl s)).tx h

/-- R200, R222: an injection into SRAM marks its word, and leaves the page store and the books of the host's requests. -/
theorem injectWord_spec (a : InjectArgs) (s : State) : (injectWord a s).store = s.store ∧
    (sramMark (injectWord a s) (sramKey a.memory a.address)).data = BitVec.ofNat 64 (beNat a.dataMask) ∧
    (sramMark (injectWord a s) (sramKey a.memory a.address)).check = a.checkMask.setWidth 8 ∧ BooksKept s (injectWord a s) := by
  have hmark : ∀ m : SramMark, (if m.data = 0 ∧ m.check = 0 then ({} : SramMark) else m).data = m.data ∧
      (if m.data = 0 ∧ m.check = 0 then ({} : SramMark) else m).check = m.check := by
    intro m
    split
    next hclean => exact ⟨hclean.1.symm, hclean.2.symm⟩
    next => exact ⟨rfl, rfl⟩
  unfold injectWord
  extract_lets key m marked
  have hword : sramMark marked key = if m.data = 0 ∧ m.check = 0 then {} else m := tget_tput_self
  split
  all_goals
    change marked.store = s.store ∧ (sramMark marked key).data = _ ∧ (sramMark marked key).check = _ ∧ _
    rw [hword]
    exact ⟨rfl, (hmark m).1, (hmark m).2, .same rfl⟩

theorem injectWord_work (a : InjectArgs) (h : Nat) (s : State) : WorkKept h s (injectWord a s) := by
  obtain ⟨-, -, -, hbooks⟩ := injectWord_spec a s
  exact hbooks.work (injectWord_keeps a s (.refl s)).tx h

/-- R222, R226: what the refusals of the checker's commands leave: an address that is aligned to its memory's unit. -/
theorem checkerBarred_aligned {s : State} {memory a : Nat} (h : checkerBarred s memory a = 0) : a % unitBytes memory = 0 := by
  unfold checkerBarred firstOf at h
  by_contra hbad
  by_cases hstore : storeBarred s = 0
  · simp [hstore, firstOf, hbad] at h
  · simp [hstore] at h

/-! ### Counters of nozzles (R298) -/

theorem nozCnt_setNozCnt (c : Nat) (x : NozCnt) (s : State) : nozCnt (setNozCnt c x s) c = x := tget_tput_self

theorem nozCnt_setNozCnt_ne {b c : Nat} (hbc : c ≠ b) (x : NozCnt) (s : State) : nozCnt (setNozCnt b x s) c = nozCnt s c := tget_tput_ne hbc

theorem setNozCnt_books (c : Nat) (x : NozCnt) (s : State) : BooksKept s (setNozCnt c x s) := .same rfl

/-- The channels that have counters on record, of a range. -/
def countedChannels (first count : Nat) (s : State) : List Nat :=
  (s.noz.cnt.map (·.1)).filter (fun c => decide (first ≤ c) && decide (c < first + count))

theorem resetCounts_other {c first count : Nat} {s : State} (hc : c ∉ countedChannels first count s) :
    nozCnt (resetCounts first count s) c = nozCnt s c := by
  refine forAll_induct_mem (P := fun t => nozCnt t c = nozCnt s c) (countedChannels first count s) (fun b hb t ht => ?_) s rfl
  have hbc : c ≠ b := fun h => hc (by rw [h]; exact hb)
  rw [nozCnt_setNozCnt_ne hbc, ht]

theorem tget_of_not_mem {α : Type} {d : α} {k : Nat} : ∀ {t : Tab α}, k ∉ t.map (·.1) → tget d t k = d
  | [], _ => rfl
  | (j, v) :: t, h => by
    simp only [List.map_cons, List.mem_cons, not_or] at h
    rw [tget, if_neg (Ne.symm h.1), tget_of_not_mem h.2]

/-- R298: the counts of a channel of the range are 0, whether it had any or not. -/
theorem resetCounts_zero {c first count : Nat} (hfirst : first ≤ c) (hlast : c < first + count) (s : State) :
    (nozCnt (resetCounts first count s) c).fire = 0 ∧ (nozCnt (resetCounts first count s) c).dropout = 0 := by
  by_cases hc : c ∈ s.noz.cnt.map (·.1)
  · refine forAll_reaches_mem (P := fun t => (nozCnt t c).fire = 0 ∧ (nozCnt t c).dropout = 0) (a := c)
      (List.mem_filter.mpr ⟨hc, by simp [hfirst, hlast]⟩) (fun t => ?_) (fun b _ t ht => ?_) s
    · rw [nozCnt_setNozCnt]; exact ⟨rfl, rfl⟩
    · by_cases hb : c = b
      · subst hb; rw [nozCnt_setNozCnt]; exact ⟨rfl, rfl⟩
      · rw [nozCnt_setNozCnt_ne hb]; exact ht
  · rw [resetCounts_other (fun h => hc (List.mem_filter.mp h).1), nozCnt, tget_of_not_mem hc]
    exact ⟨rfl, rfl⟩

theorem resetCounts_work (first count h : Nat) (s : State) : WorkKept h s (resetCounts first count s) :=
  BooksKept.work (forAll_books (fun c t => setNozCnt_books c _ t) _ s) (resetCounts_keeps first count s (.refl s)).tx h

/-! ### Frames that are held (R399) -/

theorem Quiet.frameOf {s t : State} (q : Quiet s t) (n : Nat) (k : BitVec 32) : frameOf t n k = frameOf s n k := by
  rw [Machine.frameOf, q.insp, Machine.frameOf]

/-- The hold of a frame as the command sets it. -/
def holdAs (hold : Bool) (f : Frame) : Frame := { f with held := hold }

@[simp] theorem holdAs_is (hold : Bool) (f : Frame) (n : Nat) (k : BitVec 32) : (holdAs hold f).is n k = f.is n k := rfl
@[simp] theorem holdAs_held (hold : Bool) (f : Frame) : (holdAs hold f).held = hold := rfl

/-- R399: a stored frame is held while there is room for one more, and released at any time. -/
theorem holdFrame_eq {n : Nat} {k : BitVec 32} {hold : Bool} {s : State} {f : Frame} (hf : frameOf s n k = some f) (hspace : f.space ≠ 0)
    (hroom : hold = true → f.held = true ∨ (s.insp.frames.filter (·.held)).length < 8) :
    holdFrame n k hold s = (0, freeFrames (modFrame n k (holdAs hold) s)) := by
  have hfits : ¬(hold = true ∧ (!f.held) = true ∧ 8 ≤ (s.insp.frames.filter (·.held)).length) := by
    rintro ⟨hhold, hheld, hfull⟩
    rcases hroom hhold with h | h
    · simp [h] at hheld
    · omega
  unfold holdFrame
  rw [hf]
  dsimp only
  rw [if_neg hspace, if_neg (by simpa using hfits)]
  rfl

/-- R399: a frame that is held stays in the partition. -/
theorem frameOf_held {n : Nat} {k : BitVec 32} {s : State} {f : Frame} (hf : frameOf s n k = some f) :
    frameOf (freeFrames (modFrame n k (holdAs true) s)) n k = some (holdAs true f) := by
  have hfind : frameOf (freeFrames (modFrame n k (holdAs true) s)) n k =
      (frameOf s n k).map (fun g => if g.is n k then holdAs true g else g) := by
    unfold freeFrames modFrame frameOf
    rw [List.find?_filter, List.find?_map]
    refine congrArg _ (find_congr fun g _ => ?_)
    by_cases hg : g.is n k = true
    · simp [hg]
    · simp [hg]
  have hname : f.is n k = true := by simpa using List.find?_some hf
  rw [hfind, hf, Option.map_some, if_pos hname]

/-- R399: a frame that is released and still there is not held. -/
theorem frameOf_released {n : Nat} {k : BitVec 32} {s : State} {g : Frame}
    (hg : frameOf (freeFrames (modFrame n k (holdAs false) s)) n k = some g) : g.held = false := by
  have hname : g.is n k = true := by simpa using List.find?_some hg
  have hmem := (List.mem_filter.mp (List.mem_of_find?_eq_some hg)).1
  obtain ⟨f, -, rfl⟩ := List.mem_map.mp hmem
  by_cases hf : f.is n k = true
  · rw [if_pos hf]; rfl
  · rw [if_neg hf] at hname; exact absurd hname hf

theorem holdFrame_work (n : Nat) (k : BitVec 32) (hold : Bool) (h : Nat) (s : State) : WorkKept h s (holdFrame n k hold s).2 := by
  have hbooks : BooksKept s (holdFrame n k hold s).2 := by
    unfold holdFrame
    split
    · exact .refl s
    · split
      · exact .refl s
      · split
        · exact .refl s
        · exact .same rfl
  exact hbooks.work (holdFrame_keeps n k hold s (.refl s)).tx h

/-- R399: FRAME_HOLD of a stored frame ends at once, with the frame's hold set or released. -/
theorem exec_frameHold {dt k h sensor : Nat} {r : Req} {s u : State} {frame : BitVec 32} {hold : Bool} {f : Frame} (served : Served dt r false k s u)
    (starts : Starts k 0xC071 1 .none h u) (hf : frameOf u sensor frame = some f) (hspace : f.space ≠ 0)
    (hroom : hold = true → f.held = true ∨ (u.insp.frames.filter (·.held)).length < 8) :
    ∃ t v, exec (.frameHold dt r sensor frame hold) s = .next t ∧ Answered k r ⟨0x07, 1, .handle (handleWord t h)⟩ t ∧ Completed h 0 0 t ∧
      frameOf v sensor frame = some f ∧ frameOf t sensor frame = frameOf (freeFrames (modFrame sensor frame (holdAs hold) v)) sensor frame := by
  obtain ⟨v, hexec, quiet, answered, completed⟩ := command_doneAtOnce (bad := fun s => (holdFrame sensor frame hold s).1)
    (f := fun s => (holdFrame sensor frame hold s).2) served starts (by rw [holdFrame_eq hf hspace hroom]) (holdFrame_work sensor frame hold h)
  have hv : frameOf v sensor frame = some f := (quiet.frameOf ..).trans hf
  refine ⟨_, v, hexec, answered, completed, hv, ?_⟩
  rw [(completeHandle_quiet ..).frameOf, holdFrame_eq hv hspace (by rw [quiet.insp]; exact hroom)]

/-! ### FAULT_CLEAR (R551, R562) -/

theorem syncClass_faults (code : Nat) (unit : BitVec 32) (s : State) :
    (syncClass code unit s).faults = { s.faults with cls := faultClass s } := by
  unfold syncClass
  dsimp only
  split
  next h => rw [h]
  next =>
    split
    · rfl
    · exact raise_faults ..

theorem causeGone_faults_congr {s t : State} (h : t.faults = s.faults) (code : Nat) (unit : BitVec 32) (only : Option Nat) :
    (causeGone code unit t only).faults = (causeGone code unit s only).faults := by
  simp only [causeGone, syncClass_faults, faultClass, h]

theorem Quiet.fireUeGone_faults {s t : State} (q : Quiet s t) : (fireUeGone t).faults = (fireUeGone s).faults := by
  have hcount : fireUeCount t = fireUeCount s := by rw [fireUeCount, q.integ, q.time, fireUeCount]
  rw [fireUeGone, hcount, fireUeGone]
  split
  · exact causeGone_faults_congr q.faults ..
  · exact q.faults

theorem fireUeGone_books (s : State) : BooksKept s (fireUeGone s) := ite_books (causeGone_books ..) (.refl s)

theorem fireUeGone_work (h : Nat) (s : State) : WorkKept h s (fireUeGone s) :=
  (fireUeGone_books s).work (fireUeGone_keeps s (.refl s)).tx h

theorem resumeRows_faults (s : State) : (resumeRows s).faults = s.faults := by
  refine forAll_induct (P := fun t => t.faults = s.faults) (fun u t ht => ?_) _ s rfl
  dsimp only
  split
  · exact ht
  · exact ht

/-- R551: the holds of class 2 are over, and STOP_REQ_n is released. -/
theorem clearHolds_spec (s : State) : (clearHolds s).faults.stopHold = false ∧
    (clearHolds s).faults.active = s.faults.active.filter (fun f => f.cls != 2) ∧ BooksKept s (clearHolds s) := by
  unfold clearHolds
  extract_lets held first faults cleared
  have hrows : (if held then resumeRows cleared else cleared).faults = cleared.faults ∧
      BooksKept cleared (if held then resumeRows cleared else cleared) := by
    split
    · exact ⟨resumeRows_faults cleared, resumeRows_books cleared⟩
    · exact ⟨rfl, .refl cleared⟩
  rw [syncClass_faults, hrows.1]
  exact ⟨rfl, rfl, (syncClass_books ..).trans (hrows.2.trans (.same rfl))⟩

theorem clearHolds_work (h : Nat) (s : State) : WorkKept h s (clearHolds s) := by
  obtain ⟨-, -, hbooks⟩ := clearHolds_spec s
  exact hbooks.work (clearHolds_keeps s (.refl s)).tx h

/-- R551, R562: a hold that stays, or that the same tick still finds, refuses the clearing. -/
theorem clearFaults_held {s : State} {f : ActiveFault} (hf : (remainingHold (fireUeGone s)).or (holdComing (fireUeGone s)) = some f) (h : Nat) :
    clearFaults h s = completeHandle h 0x0401 (detail 0 0 0 (f.code * 2 ^ 48 : Nat)) (fireUeGone s) := by
  unfold clearFaults
  dsimp only
  rw [hf]

theorem clearFaults_none {s : State} (hnone : (remainingHold (fireUeGone s)).or (holdComing (fireUeGone s)) = none) (h : Nat) :
    clearFaults h s = completeHandle h 0 0 (clearHolds (fireUeGone s)) := by
  unfold clearFaults
  dsimp only
  rw [hnone]

/-- R551: FAULT_CLEAR by whether a hold stays or comes. -/
theorem exec_faultClear {dt k h : Nat} {r : Req} {s u : State} (served : Served dt r false k s u) (starts : Starts k 0xC0C0 2 .faultClear h u) :
    ∃ t v, exec (.faultClear dt r) s = .next t ∧ Quiet u v ∧ Answered k r ⟨0x07, 1, .handle (handleWord t h)⟩ t ∧
      (remainingHold (fireUeGone u) = none → holdComing (fireUeGone v) = none →
        Completed h 0 0 t ∧ t.faults.stopHold = false ∧ t.faults.active = (fireUeGone u).faults.active.filter (fun f => f.cls != 2)) ∧
      (∀ f, remainingHold (fireUeGone u) = some f → Completed h 0x0401 (detail 0 0 0 (f.code * 2 ^ 48 : Nat)) t ∧ t.faults = (fireUeGone u).faults) ∧
      (∀ f, remainingHold (fireUeGone u) = none → holdComing (fireUeGone v) = some f →
        Completed h 0x0401 (detail 0 0 0 (f.code * 2 ^ 48 : Nat)) t ∧ t.faults = (fireUeGone u).faults) := by
  obtain ⟨v, hexec, started⟩ := command_started (bad := fun _ => 0) (after := clearFaults) served starts rfl
  have hfaults := started.quiet.fireUeGone_faults
  have hremaining : remainingHold (fireUeGone v) = remainingHold (fireUeGone u) := by rw [remainingHold, hfaults, remainingHold]
  refine ⟨_, v, hexec, started.quiet, ?_⟩
  cases hhold : (remainingHold (fireUeGone v)).or (holdComing (fireUeGone v)) with
  | none =>
    obtain ⟨hstays, hcomes⟩ := Option.or_eq_none_iff.mp hhold
    obtain ⟨answered, completed⟩ := started.ends ((clearHolds_work h _).trans (fireUeGone_work h v)) 0 0
    obtain ⟨hstop, hactive, -⟩ := clearHolds_spec (fireUeGone v)
    rw [hremaining] at hstays
    rw [clearFaults_none hhold, hstays, hcomes, completeHandle_faults]
    exact ⟨answered, fun _ _ => ⟨completed, hstop, hactive.trans (by rw [hfaults])⟩, nofun, nofun⟩
  | some f =>
    obtain ⟨answered, completed⟩ := started.ends (fireUeGone_work h v) 0x0401 (detail 0 0 0 (f.code * 2 ^ 48 : Nat))
    rw [clearFaults_held hhold, completeHandle_faults]
    rw [hremaining] at hhold
    refine ⟨answered, fun hstays hcomes => ?_, fun g hstays => ?_, fun g hstays hcomes => ?_⟩
    · rw [hstays, hcomes] at hhold; cases hhold
    · rw [hstays] at hhold; cases hhold; exact ⟨completed, hfaults⟩
    · rw [hstays, hcomes] at hhold; cases hhold; exact ⟨completed, hfaults⟩

/-- Settles O24: each command by its work (`injectBurst`, `injectWord`, `resetCounts`, `holdFrame`), FAULT_CLEAR by `exec_faultClear`. -/
theorem commandsEndAtOnce : Obligations.CommandsEndAtOnce := by
  refine ⟨fun dt r k h s u served => ⟨fun a starts hdata hmask hmode hbarred => ?_, fun first count starts hstore hrange => ?_,
    fun sensor frame f starts hf hspace hroom => ?_, fun sensor frame f starts hf hspace => ?_⟩, fun dt r k h s u served starts => exec_faultClear served starts⟩
  · obtain ⟨v, hexec, quiet, answered, completed⟩ := command_doneAtOnce
      (bad := fun s => firstOf [(a.data.length != unitBytes a.memory || a.dataMask.length != unitBytes a.memory || decide (1 < a.mode), 0x0303),
        (checkerBarred s a.memory a.address != 0, checkerBarred s a.memory a.address)])
      (f := fun s => if a.memory = 0 then injectBurst a s else injectWord a s) served starts
      (by simp [firstOf, hdata, hmask, Nat.not_lt.mpr hmode, hbarred])
      (fun v => by
        split
        · exact injectBurst_work a h v
        · exact injectWord_work a h v)
    refine ⟨_, hexec, answered, completed, fun hmem => ?_, fun hmem => ?_⟩
    · rw [if_pos hmem, completeHandle_store, ← quiet.store]
      rw [unitBytes, if_pos hmem] at hdata
      have haligned := checkerBarred_aligned hbarred
      rw [unitBytes, if_pos hmem] at haligned
      obtain ⟨hin, hout⟩ := injectBurst_bytes haligned hdata v
      exact ⟨hin, hout, injectBurst_mark a v⟩
    · obtain ⟨hstore, hdataMark, hcheckMark, -⟩ := injectWord_spec a v
      rw [if_neg hmem, completeHandle_store, sramMark, completeHandle_integ, ← quiet.store]
      exact ⟨hstore, hdataMark, hcheckMark⟩
  · obtain ⟨v, hexec, quiet, answered, completed⟩ := command_doneAtOnce
      (bad := fun s => firstOf [(storeBarred s != 0, storeBarred s), (badRange first count, 0x0303)]) (f := resetCounts first count) served starts
      (by simp [firstOf, hstore, hrange]) (resetCounts_work first count h)
    refine ⟨_, hexec, answered, completed, fun c hfirst hlast => ?_, fun c hout => ?_⟩
    · rw [nozCnt, completeHandle_noz]
      exact resetCounts_zero hfirst hlast v
    · rw [nozCnt, completeHandle_noz, nozCnt, ← quiet.noz]
      exact resetCounts_other (fun hc => hout (by simpa using (List.mem_filter.mp hc).2))
  · obtain ⟨t, v, hexec, answered, completed, hv, ht⟩ := exec_frameHold (hold := true) served starts hf hspace (fun _ => hroom)
    exact ⟨t, hexec, answered, completed, _, ht.trans (frameOf_held hv), rfl⟩
  · obtain ⟨t, v, hexec, answered, completed, -, ht⟩ := exec_frameHold (hold := false) served starts hf hspace nofun
    exact ⟨t, hexec, answered, completed, fun g hg => frameOf_released (ht.symm.trans hg)⟩

/-! ### A configuration request of a line period whose management block is used (R350, R355) -/

/-- R350: in a line period that has sent its management block another one waits. -/
theorem queueMgmt_waits {h : Nat} {s : State} (hruns : periodRuns s h = true) (hused : (s.lane h).mgmtSent = true) (o : Output) :
    (queueMgmt h o s).model = s.model := by
  have hruns' : periodRuns (s.setLane h { s.lane h with mgmt := (s.lane h).mgmt ++ [o] }) h = true := by
    simpa [periodRuns, State.row, State.setLane_lane] using hruns
  have hused' : ((s.setLane h { s.lane h with mgmt := (s.lane h).mgmt ++ [o] }).lane h).mgmtSent = true := by
    rw [State.setLane_lane]; exact hused
  unfold queueMgmt flushMgmt
  dsimp only
  rw [if_neg (by rw [hruns']; decide), if_pos hused']
  rfl

/-- R350, R355: so does a configuration request that is asked for then: nothing goes out. -/
theorem sendConfig_waits {h : Nat} {s : State} (hruns : periodRuns s h = true) (hused : (s.lane h).mgmtSent = true) (write : Bool) (addr : Nat)
    (data : BitVec 32) (handle : Option (BitVec 16)) (why : Nat) : (sendConfig h write addr data handle why s).model = s.model := by
  unfold sendConfig sendWaiting
  extract_lets x x'
  split
  · refine queueMgmt_waits ?_ ?_ _
    · simpa [periodRuns, State.row, State.setLane_lane, x', x] using hruns
    · simpa [State.setLane_lane, x', x] using hused
  · rfl

/-- An answer is no configuration request. -/
theorem config_mem_reply {k n first lane tag addr : Nat} {resp : Response} {write : Bool} {data : BitVec 32} {s : State}
    (h : Output.config lane tag write addr data ∈ (reply k n first resp s).model.tx) : Output.config lane tag write addr data ∈ s.model.tx := by
  unfold reply at h
  split at h
  · exact h
  · rcases List.mem_cons.mp h with h | h
    · cases h
    · exact h

/-- The device with a session of the service role in slot 0, while head 63 prints: a FIRE of its first row is to come, and the line period has sent
its management block. -/
def usedPeriod : State :=
  let s := State.reset.setSess 0 { phase := .opened, id := 1, role := 3, node := 1, peer := reenableRequest.peer, highSeq := 4 }
  let s := s.setLane 63 { s.lane 63 with state := 6, mgmtSent := true }
  s.setRow 126 { s.row 126 with pred := some ⟨0, 100000000, 90000000, false, 0, 0, false⟩ }

/-- The state in which a request of that session runs. -/
def usedPeriodServed : State := servedState 0 reenableRequest 0 usedPeriod

/-- A read of a bridge register of that head. -/
abbrev bridgeRead : Op := .bridgeAccess 63 false 5 0

theorem bridgeRead_served : Served 0 reenableRequest false 0 usedPeriod usedPeriodServed where
  heard := by decide +kernel
  fresh := by decide +kernel
  state := rfl
  room := by decide +kernel
  open_ := by decide +kernel

theorem bridgeRead_starts : Starts 0 0xC061 2 bridgeRead 0 usedPeriodServed where
  role := by decide +kernel
  lead := by decide +kernel
  supervisor := by decide +kernel
  slot := by decide +kernel
  mover := by decide +kernel

/-- Refutes O26: a BRIDGE_ACCESS in a line period that has sent its management block (R350) takes a free tag, and its request waits. -/
theorem not_commandsThatAct : ¬ Obligations.CommandsThatAct := by
  rintro ⟨hact, -⟩
  obtain ⟨-, -, hbridge⟩ := hact 0 reenableRequest 0 0 usedPeriod usedPeriodServed bridgeRead_served
  obtain ⟨t, hexec, -, -, hsent, -⟩ := hbridge 63 false 5 0 0 bridgeRead_starts (by decide) (by decide +kernel) (by decide) nofun (by decide +kernel)
  have hnext := hexec.symm.trans (command_next bridgeRead_served bridgeRead_starts (c := {
    idx := 0xC061, role := 2, op := bridgeRead
    bad := fun s => firstOf [(decide (63 < 63), 0x0303), ((s.lane 63).state != 6, 0x0401), (decide (0x3FF < 5), 0x0303),
      (false && ownRegister s 63 5 0, 0x0202)]
    begin := fun h s => sendConfig 63 false 5 0 (some (handleWord s h)) 0 s }) (by decide +kernel))
  injection hnext with ht
  rw [ht] at hsent
  have hearlier := config_mem_reply hsent
  rw [sendConfig_waits (by decide +kernel) (by decide +kernel)] at hearlier
  have hnone : (startHandle 0 0xC061 bridgeRead 0 usedPeriodServed).model.tx = [] := by decide +kernel
  rw [hnone] at hearlier
  exact absurd hearlier List.not_mem_nil

end Sys2Proof.Machine

/-! ## Proofs of the family "raster coding"

The predictors; the line that a decoder takes, from clean memories; decoders that fail; windows that refill; and the line that a band screens. -/

namespace Sys2Proof.Machine

/-! ### Predictors (R237) -/

/-- R237: past the first column the gradient predictor is an edge above or below both neighbours, or the plane through all three. -/
theorem predict_gradient {x : Nat} (hx : 0 < x) (above line : List Nat) (left : Nat) :
    predict 3 above (left :: line) x =
      if max (left : Int) (above.getD x 0) ≤ above.getD (x - 1) 0 then min (left : Int) (above.getD x 0)
      else if (above.getD (x - 1) 0 : Int) ≤ min (left : Int) (above.getD x 0) then max (left : Int) (above.getD x 0)
      else left + above.getD x 0 - above.getD (x - 1) 0 := by
  simp only [predict, if_neg hx.ne', List.headD_cons]

/-- Settles O40: the first three by their lines of the table, the gradient by where the pixel above-left lies. -/
theorem predictorsFollowTheirTable : Obligations.PredictorsFollowTheirTable := by
  intro above line left x b c hx hb hc
  have hgradient := predict_gradient hx above line left
  rw [← hb, ← hc] at hgradient
  refine ⟨?left, ?above, ?mean, fun hhigh => ?_, fun hlow => ?_, fun hlow hhigh => ?_⟩
  case left => simp only [predict, if_neg hx.ne', List.headD_cons]
  case above => simp only [predict, hb]
  case mean => simp only [predict, if_neg hx.ne', List.headD_cons, hb]
  · rw [hgradient, if_pos hhigh]
  · rw [hgradient, if_pos hlow]
    split
    · omega
    · rfl
  · rw [hgradient, if_neg (by omega), if_neg (by omega)]

/-! ### Reads of a clean page store (R181, R196) -/

/-- Nothing in the page store is wrong, and nothing is unwritten. -/
structure CleanStore (s : State) : Prop where
  marks : s.store.marks = []
  unwritten : s.store.unwritten = []

/-- What the reads of a clean page store leave alone. -/
structure CleanRead (s t : State) : Prop extends ScrubKept s t where
  rings : t.rings = s.rings
  screen : t.screen = s.screen

theorem CleanRead.trans {s t u : State} (g : CleanRead t u) (h : CleanRead s t) : CleanRead s u :=
  ⟨g.toScrubKept.trans h.toScrubKept, g.rings.trans h.rings, g.screen.trans h.screen⟩

theorem CleanRead.refl (s : State) : CleanRead s s := ⟨.refl s, rfl, rfl⟩

theorem CleanRead.clean {s t : State} (h : CleanRead s t) (c : CleanStore s) : CleanStore t := ⟨h.marks.trans c.marks, h.unwritten.trans c.unwritten⟩

theorem CleanRead.ring {s t : State} (h : CleanRead s t) (n : Nat) : t.ring n = s.ring n := by rw [State.ring, State.ring, h.rings]

theorem Quiet.cleanRead {s t : State} (q : Quiet s t) : CleanRead s t := ⟨q.scrub, q.rings, q.screen⟩

theorem ite_cleanRead {c : Prop} [Decidable c] {s t u : State} (ht : CleanRead s t) (hu : CleanRead s u) : CleanRead s (if c then t else u) := by
  split <;> assumption

theorem burstClass_of_clean {s : State} (c : CleanStore s) (b : Nat) : burstClass s b = 0 := by
  have hwritten : neverWritten s b = false := by simp [neverWritten, lostAt, c.unwritten, tget]
  have hmark : tget {} s.store.marks b = {} := by rw [c.marks]; rfl
  rw [burstClass, hwritten, hmark]
  rfl

theorem unitClass_of_clean {s : State} (c : CleanStore s) (u : Nat) : unitClass s u = 0 := by
  rw [unitClass, burstClass_of_clean c, burstClass_of_clean c]
  rfl

theorem countAccess_cleanRead (cls u : Nat) (write : Bool) (s : State) : CleanRead s (countAccess cls u write s) := by
  have hlatency : ∀ pc lat t, CleanRead t (fireLatency pc lat t) := fun _ _ _ =>
    ite_cleanRead ((ev_quiet ..).cleanRead.trans ⟨.same rfl, rfl, rfl⟩) ⟨.same rfl, rfl, rfl⟩
  exact ite_cleanRead ((hlatency _ _ _).trans ⟨.same rfl, rfl, rfl⟩) ⟨.same rfl, rfl, rfl⟩

/-- A read that finds nothing wrong takes the unit off the list of those rewritten. -/
theorem noteRead_of_clean {s : State} (c : CleanStore s) (requester : Nat) (unit : BitVec 32) (u : Nat) :
    noteRead requester unit u s = (firstRead u s).2 := by
  have hfirst : ∀ v, burstWith (firstRead u s).2 v 1 = none := fun v =>
    List.find?_eq_none.mpr fun b _ => by rw [burstClass_of_clean (s := (firstRead u s).2) ⟨c.marks, c.unwritten⟩ b]; decide
  simp [noteRead, unitClass_of_clean c, hfirst]

/-- R196: a unit of a clean page store reads clean. -/
theorem readUnit_of_clean {s : State} (c : CleanStore s) (cls requester : Nat) (unit : BitVec 32) (u : Nat) :
    (readUnit cls requester unit u s).1 = 0 ∧ CleanRead s (readUnit cls requester unit u s).2 := by
  have hcount := countAccess_cleanRead cls u false s
  have hnote := noteRead_of_clean (hcount.clean c) requester unit u
  refine ⟨unitClass_of_clean c u, CleanRead.trans ?_ hcount⟩
  rw [readUnit, hnote]
  exact ⟨firstRead_scrub u _, rfl, rfl⟩

/-- Every byte of a ring reads in a clean page store. -/
theorem readRing_of_clean {s : State} (c : CleanStore s) (requester n d q len : Nat) :
    (readRing requester n d q len s).1 = none ∧ CleanRead s (readRing requester n d q len s).2 := by
  unfold readRing
  refine List.foldlRecOn (motive := fun (acc : Option Nat × State) => acc.1 = none ∧ CleanRead s acc.2) _ _ ⟨rfl, .refl s⟩ ?_
  rintro ⟨-, t⟩ ⟨rfl, kept⟩ i -
  obtain ⟨hclass, hread⟩ := readUnit_of_clean (kept.clean c) 0 requester (unitDecoder ((ringRegion t (envNow t) n).getD 0) d)
    (ringAddr t n ((q / 64 + i) * 64) / 64)
  refine ⟨?_, hread.trans kept⟩
  simp [hclass]

/-! ### What the latencies of FIRE requests do not bear on (R184) -/

/-- The state in which a command with these latencies runs. -/
abbrev State.withLats (s : State) (lats : List Nat) : State := { s with store := { s.store with lats := lats } }

theorem stripeRow_withLats (s : State) (lats : List Nat) (n : Nat) (page : BitVec 32) : ∀ k, stripeRow (s.withLats lats) n page k = stripeRow s n page k
  | 0 => rfl
  | k + 1 => by rw [stripeRow, stripeRow, stripeRow_withLats s lats n page k]; rfl

theorem readyLine_withLats (s : State) (lats : List Nat) (n : Nat) : readyLine (s.withLats lats) n = readyLine s n := by
  unfold readyLine
  simp only [stripeRow_withLats]
  rfl

theorem queueFront_withLats (s : State) (lats : List Nat) (r : Nat) : queueFront (s.withLats lats) r = queueFront s r := by
  unfold queueFront
  simp only [readyLine_withLats]
  rfl

/-! ### What the release of stripes leaves alone (R150, R151, R246) -/

/-- Screening and the page store are as they were. -/
structure ScreenKept (s t : State) : Prop where
  screen : t.screen = s.screen
  store : t.store = s.store

theorem ScreenKept.refl (s : State) : ScreenKept s s := ⟨rfl, rfl⟩

theorem ScreenKept.trans {s t u : State} (g : ScreenKept t u) (h : ScreenKept s t) : ScreenKept s u := ⟨g.screen.trans h.screen, g.store.trans h.store⟩

theorem Calm.screenKept {s t : State} (c : Calm s t) : ScreenKept s t := ⟨c.screen, c.store⟩

theorem ite_screenKept {c : Prop} [Decidable c] {s t u : State} (ht : ScreenKept s t) (hu : ScreenKept s u) : ScreenKept s (if c then t else u) := by
  split <;> assumption

theorem forAll_screenKept {α : Type} {f : α → State → State} (h : ∀ a s, ScreenKept s (f a s)) (l : List α) (s : State) :
    ScreenKept s (forAll l f s) :=
  forAll_induct (P := ScreenKept s) (fun a t k => (h a t).trans k) l s (.refl s)

theorem setRing_screenKept (s : State) (n : Nat) (r : Ring) : ScreenKept s (s.setRing n r) := ⟨rfl, rfl⟩

theorem sendAck_screen (n : Nat) (s : State) : (sendAck n s).screen = s.screen := by
  unfold sendAck
  dsimp only
  split <;> rfl

theorem noteRing_screenKept (n : Nat) (old : Ring) (s : State) : ScreenKept s (noteRing n old s) :=
  ite_screenKept (ite_screenKept (sendRecord_calm ..).screenKept (.refl s)) (.refl s)

theorem updateRelease_screenKept (n : Nat) (s : State) : ScreenKept s (updateRelease n s) := by
  unfold updateRelease
  extract_lets r0 dead r open' point rel limit rises r' noted
  have hnoted : ScreenKept s noted := (noteRing_screenKept n r0 _).trans (setRing_screenKept s n _)
  exact ite_screenKept (ScreenKept.trans ⟨sendAck_screen n noted, sendAck_store n noted⟩ hnoted) hnoted

theorem releaseWhere_screenKept (n : Nat) (f : Stripe → Bool) (s : State) : ScreenKept s (releaseWhere n f s) :=
  ite_screenKept (.refl s) ((updateRelease_screenKept n _).trans (setRing_screenKept s n _))

theorem settleRings_screenKept (p : Nat) (s : State) : ScreenKept s (settleRings p s) := by
  unfold settleRings
  refine forAll_screenKept (fun n t => ?_) _ s
  extract_lets freed r late
  have hfreed : ScreenKept t freed := releaseWhere_screenKept n _ t
  split
  · exact hfreed
  · exact (setRing_screenKept freed n _).trans hfreed

theorem stageRow_screenKept (n : Nat) (redo : Bool) (need : Int) (row : StagedRow) (s : State) : ScreenKept s (stageRow n redo need row s) :=
  ite_screenKept (.refl s) (setRing_screenKept s n _)

/-! ### The line of a stripe (R239, R241, R256) -/

theorem tget_tmod_self {α : Type} [DecidableEq α] (d : α) (t : Tab α) (k : Nat) (f : α → α) : tget d (tmod d t k f) k = f (tget d t k) := tget_tput_self

theorem tget_tmod_ne {α : Type} [DecidableEq α] {d : α} {j k : Nat} (h : j ≠ k) (t : Tab α) (f : α → α) : tget d (tmod d t k f) j = tget d t j :=
  tget_tput_ne h

theorem Ring.mem_modStripe {r : Ring} {x : Stripe} (hx : x ∈ r.index) (f : Stripe → Stripe) : f x ∈ (r.modStripe x.base f).index :=
  List.mem_map.mpr ⟨x, hx, if_pos rfl⟩

theorem countLine_stats (k w : Nat) (again : Bool) (need : Int) (s : State) :
    tget 0 (countLine k w again need s).screen.decStats (4 * k) = tget 0 s.screen.decStats (4 * k) + 1 ∧
      tget none (countLine k w again need s).screen.decLast k = some need := by
  have hthree : tget 0 (tmod 0 (tmod 0 (tmod 0 s.screen.decStats (4 * k) (· + 1)) (4 * k + 1) (· + BitVec.ofNat 64 w)) (4 * k + 2)
      (· + BitVec.ofNat 64 ((w + 1) / 2))) (4 * k) = tget 0 s.screen.decStats (4 * k) + 1 := by
    rw [tget_tmod_ne (by omega), tget_tmod_ne (by omega), tget_tmod_self]
  have hlast : (countLine k w again need s).screen.decLast = tput none s.screen.decLast k (some need) := rfl
  refine ⟨?_, by rw [hlast, tget_tput_self]⟩
  cases again
  · exact hthree
  · exact (tget_tmod_ne (k := 4 * k + 3) (by omega) _ (· + 1)).trans hthree

theorem decodeError_ring (n code : Nat) (x : Stripe) (line seg : Nat) (L : Int) (s : State) :
    (decodeError n code x line seg L s).ring n = { s.ring n with errors := tinc (s.ring n).errors code } := by
  unfold decodeError
  extract_lets r noted
  rw [State.ring, (ev_quiet _ _ noted _ _ _).rings]
  exact State.setRing_ring ..

theorem decodeError_store (n code : Nat) (x : Stripe) (line seg : Nat) (L : Int) (s : State) : (decodeError n code x line seg L s).store = s.store :=
  (ev_quiet ..).store

/-- R241: a line that does not decode marks its stripe bad and is counted as an error of the ring. -/
theorem decodeError_bad {n code : Nat} {x y : Stripe} {s : State} (line seg : Nat) (L : Int) (depth row : Option Nat) (hy : y ∈ (s.ring n).index) :
    let t := decodeError n code x line seg L (badStripe n y.base code depth row s)
    t.store = s.store ∧ tget 0 (t.ring n).errors code = tget 0 (s.ring n).errors code + 1 ∧
      ∃ z ∈ (t.ring n).index, z.base = y.base ∧ z.state = .bad ∧ z.err = code := by
  intro t
  have hring : t.ring n = _ := decodeError_ring n code x line seg L (badStripe n y.base code depth row s)
  rw [badStripe, State.setRing_ring] at hring
  refine ⟨decodeError_store .., ?_, ?_⟩
  · rw [hring]; exact tget_tmod_self (0 : BitVec 32) (s.ring n).errors code (· + 1)
  · rw [hring]; exact ⟨_, Ring.mem_modStripe hy _, rfl, rfl, rfl⟩

/-- What comes of line `y` of a stripe that decodes to `out`, for the decoder with number `k` among all. -/
structure LineTaken (n k : Nat) (x : Stripe) (need : Int) (out : LineOut) (s t : State) : Prop where
  mem : t.store.mem = s.store.mem
  done : out.err = 0 → tget 0 t.screen.decStats (4 * k) = tget 0 s.screen.decStats (4 * k) + 1 ∧ tget none t.screen.decLast k = some need
  bad : out.err ≠ 0 → tget 0 (t.ring n).errors out.err = tget 0 (s.ring n).errors out.err + 1 ∧
    ∃ z ∈ (t.ring n).index, z.base = x.base ∧ z.state = .bad ∧ z.err = out.err

theorem runLine_taken {n r d : Nat} {x : Stripe} {s : State} (c : CleanStore s) (hx : x ∈ (s.ring n).index) (pg : Page) (h : StripeHdr)
    (bytes : List Byte) (y : ReadyLine) (redo : Bool) :
    LineTaken n (6 * r + d) x y.need (stripeLine h bytes y.i x.above) s (runLine n r d pg x h bytes y redo s) := by
  unfold runLine
  extract_lets p row a z body opened out counted advanced _ settled
  obtain ⟨hnone, hread⟩ : body.1 = none ∧ CleanRead s body.2 := by
    simp only [body]
    split
    · exact ⟨rfl, .refl s⟩
    · exact readRing_of_clean c ..
  have hopened : opened.ring n = (s.ring n).modStripe x.base (fun x => { x with depth := some h.lines, row := some row }) := by
    rw [State.setRing_ring, hread.ring]
  rw [hnone]
  dsimp only
  split
  case isTrue herr =>
    have hmem := Ring.mem_modStripe hx (fun x => { x with depth := some h.lines, row := some row })
    rw [← hopened] at hmem
    obtain ⟨hstore, herrors, hbad⟩ := decodeError_bad (x := x) y.i out.seg y.need (some h.lines) (some row) hmem
    rw [hopened] at herrors
    exact ⟨by rw [hstore]; exact hread.mem, fun hz => absurd hz herr, fun _ => ⟨herrors, hbad⟩⟩
  case isFalse herr =>
    obtain ⟨hstats, hlast⟩ := countLine_stats (6 * r + d) (h.segs * 64) (opened.screen.restart == some (n, x.base, y.i)) y.need opened
    have hsettled : ScreenKept advanced settled := by
      simp only [settled]
      split
      · exact ite_screenKept (setRing_screenKept ..) (.refl advanced)
      · exact .refl advanced
    have hkept : ScreenKept counted (settleRings p (stageRow n redo y.need ⟨pg.page, y.row, h.depth, out.pixels⟩ settled)) :=
      (settleRings_screenKept p _).trans ((stageRow_screenKept ..).trans (hsettled.trans (setRing_screenKept ..)))
    refine ⟨?_, fun _ => ⟨?_, ?_⟩, fun hz => absurd (not_not.mp herr) hz⟩
    · rw [hkept.store]; exact hread.mem
    · rw [hkept.screen, ← hread.screen]; exact hstats
    · rw [hkept.screen]; exact hlast

theorem takeLine_opened {n r d : Nat} {y : ReadyLine} {s : State} {x : Stripe} {pg : Page} (hx : stripeAt (s.ring n) y.base = some x)
    (hpg : pageNumbered s y.page = some pg) (hopen : x.depth.isSome = true) (hi : y.i ≠ 0) :
    takeLine n r d y s = runLine n r d pg x (parseHdr (ringBytes s n x.base 24)) (ringBytes s n x.base (x.len.getD 0)) y (inRedo s n pg y) s := by
  have hnone : x.depth.isNone = false := by rw [← Option.not_isSome, hopen]; rfl
  simp [takeLine, hx, hpg, hopen, hi, hnone]

theorem stagingReads_of_clean {s : State} (h : s.integ.sramErr = []) (n r d : Nat) (y : ReadyLine) :
    stagingReads n r d y [] s = forgetWords (stagingWord r) s := by
  simp [stagingReads, strikeWords, readMarked, forAll, h]

/-- The state in which a decoder of region `r` takes a line: the staging's words hold other content from now on (R222). -/
def decodingState (dt r : Nat) (lats : List Nat) (s : State) : State := forgetWords (stagingWord r) ((tick dt s).withLats lats)

/-- R245: a decoder that works takes the line at the front of its region's queue. -/
theorem decodeStep_takes {dt n r d : Nat} {lats : List Nat} {y : ReadyLine} {s : State}
    (hregion : ringRegion (tick dt s) (envNow (tick dt s)) n = some r) (hstopped : s.faults.stopped = false) (hpower : s.power.state = 0)
    (hworks : tget false s.screen.decFailed (6 * r + d) = false) (hfront : queueFront (tick dt s) r = some n)
    (hready : readyLine (tick dt s) n = some y) (hsram : s.integ.sramErr = []) :
    decodeStep n d [] [] ((tick dt s).withLats lats) = takeLine n r d y (decodingState dt r lats s) := by
  have hregion' : ringRegion ((tick dt s).withLats lats) (envNow ((tick dt s).withLats lats)) n = some r := hregion
  have hfree : ¬(s.faults.stopped ∨ s.power.state ≠ 0 ∨ tget false s.screen.decFailed (6 * r + d) ∨
      queueFront ((tick dt s).withLats lats) r ≠ some n) := by
    rw [queueFront_withLats, hfront]
    simp [hstopped, hpower, hworks]
  unfold decodeStep
  rw [hregion', readyLine_withLats, hready]
  exact (if_neg hfree).trans (congrArg (takeLine n r d y) (stagingReads_of_clean (s := (tick dt s).withLats lats) hsram n r d y))

/-! ### Decoders that fail (R249, R256) -/

theorem updateCapacity_decFailed (s : State) : (updateCapacity s).screen.decFailed = s.screen.decFailed := by
  unfold updateCapacity
  extract_lets c top _ published raised judged
  have hraised : raised.screen = published.screen := (raise_quiet _ _ _ published _ _ _).screen
  have hjudged : judged.screen = raised.screen := by
    unfold judged
    split
    · exact addFault_screen ..
    · rfl
  split
  · rfl
  · rw [(limitChanged_calm judged).screen, hjudged, hraised]

theorem endRemounts_decFailed (sel : Nat → Engine → Bool) (s : State) : (endRemounts sel s).screen.decFailed = s.screen.decFailed := by
  refine forAll_induct (P := fun t => t.screen.decFailed = s.screen.decFailed) (fun e t ht => ?_) _ _ rfl
  split <;> exact ht

theorem regionFault_decFailed (r : Nat) (first : BitVec 32) (s : State) : (regionFault r first s).screen.decFailed = s.screen.decFailed := by
  unfold regionFault
  extract_lets ended raised
  rw [addFault_screen, (raise_quiet _ _ _ ended _ _ _).screen, endRemounts_decFailed]

theorem decoderFault_again {r d : Nat} {s : State} (h : tget false s.screen.decFailed (6 * r + d) = true) : decoderFault r d s = s := if_pos h

theorem decoderFault_fails {r d : Nat} {s : State} (h : tget false s.screen.decFailed (6 * r + d) = false) :
    tget false (decoderFault r d s).screen.decFailed (6 * r + d) = true ∧ (decoderFault r d s).store.mem = s.store.mem := by
  unfold decoderFault
  extract_lets last hand _ noted raised capped
  rw [if_neg (by rw [h]; decide)]
  have hnoted : noted.screen.decFailed = tput false s.screen.decFailed (6 * r + d) true := rfl
  have hcapped : capped.screen.decFailed = noted.screen.decFailed := by
    rw [updateCapacity_decFailed, addFault_screen, (raise_quiet _ _ _ noted _ _ _).screen]
  have hmem : capped.store.mem = s.store.mem :=
    ((updateCapacity_scrub _).trans ((addFault_scrub ..).trans (raise_scrub _ _ _ noted _ _ _))).mem
  split
  · exact ⟨by rw [regionFault_decFailed, hcapped, hnoted, tget_tput_self], (regionFault_scrub ..).mem.trans hmem⟩
  · exact ⟨by rw [hcapped, hnoted, tget_tput_self], hmem⟩

/-! ### The window of the threshold array (R267) -/

theorem readUnits_read (cls requester : Nat) (unit : BitVec 32) : ∀ (n u : Nat) (s : State), ReadKept s (readUnits cls requester unit n u s).2
  | 0, _, s => .refl s
  | n + 1, u, s => by
    unfold readUnits
    extract_lets r
    split
    · exact readUnit_read cls requester unit u s
    · exact (readUnits_read cls requester unit n (u + 1) _).trans (readUnit_read cls requester unit u s)

/-- A refill is one change of the engine, after reads that leave the stored bytes alone. -/
theorem windowRefill_eq {k row : Nat} {rest : List Nat} {s : State} (h : (s.engine k).waitRows = row :: rest) :
    ∃ u : State, u.store.mem = s.store.mem ∧ windowRefill k s = u.setEngine k
      { u.engine k with waitRows := rest, window := (row :: (s.engine k).window.filter (· != row)).take 64, waiting := false } := by
  unfold windowRefill
  dsimp only
  rw [h]
  refine ⟨_, ?_, rfl⟩
  split <;> exact (readUnits_read ..).mem

theorem exec_windowRefill {engine : Fin 36} {row : Nat} {rest : List Nat} {s : State} (dt : Nat) (h : (s.engine engine).waitRows = row :: rest) :
    ∃ t, exec (.windowRefill dt engine) s = .next t ∧ (t.engine engine).waitRows = rest ∧ (t.engine engine).waiting = false ∧
      (t.engine engine).window = (row :: (s.engine engine).window.filter (· != row)).take 64 ∧ t.store.mem = s.store.mem := by
  obtain ⟨u, hmem, heq⟩ := windowRefill_eq (s := tick dt s) h
  refine ⟨_, congrArg Host.Outcome.next heq, ?_⟩
  rw [State.setEngine_engine]
  exact ⟨rfl, rfl, rfl, hmem⟩

/-! ### A band screens a line (R277): what follows the line leaves the lines to come as they are -/

/-- The next line of every engine is as it was. -/
structure NextKept (s t : State) : Prop where
  next : ∀ j, (t.engine j).next = (s.engine j).next

theorem NextKept.refl (s : State) : NextKept s s := ⟨fun _ => rfl⟩

theorem NextKept.trans {s t u : State} (g : NextKept t u) (h : NextKept s t) : NextKept s u := ⟨fun j => (g.next j).trans (h.next j)⟩

theorem NextKept.of_engines {s t : State} (h : t.screen.engines = s.screen.engines) : NextKept s t := ⟨fun j => by rw [State.engine, State.engine, h]⟩

theorem ScreenKept.nextKept {s t : State} (h : ScreenKept s t) : NextKept s t := .of_engines (by rw [h.screen])

theorem ite_nextKept {c : Prop} [Decidable c] {s t u : State} (ht : NextKept s t) (hu : NextKept s u) : NextKept s (if c then t else u) := by
  split <;> assumption

theorem forAll_nextKept {α : Type} {f : α → State → State} (h : ∀ a s, NextKept s (f a s)) (l : List α) (s : State) : NextKept s (forAll l f s) :=
  forAll_induct (P := NextKept s) (fun a t k => (h a t).trans k) l s (.refl s)

theorem setEngine_nextKept {s : State} {k : Nat} {x : Engine} (h : x.next = (s.engine k).next) : NextKept s (s.setEngine k x) := by
  refine ⟨fun j => ?_⟩
  by_cases hj : j = k
  · rw [hj, State.setEngine_engine, h]
  · rw [State.setEngine_engine_ne _ _ _ _ hj]

theorem bumpStats_nextKept (k i m : Nat) (s : State) : NextKept s (bumpStats k i m s) := setEngine_nextKept rfl

theorem verifyBand_nextKept (k : Nat) (top : Int) (s : State) : NextKept s (verifyBand k top s) := by
  unfold verifyBand
  extract_lets x lines verified
  have hverified : NextKept s verified := by
    refine forAll_nextKept (fun L t => forAll_nextKept (fun h t => ?_) _ t) lines s
    split
    · exact .of_engines rfl
    · exact .refl t
  exact ite_nextKept (.refl s) ((setEngine_nextKept (by exact (hverified.next k).symm)).trans hverified)

theorem takeAnchors_nextKept (p : Nat) (C : Int) (s : State) : NextKept s (takeAnchors p C s) := by
  unfold takeAnchors
  split
  · exact .refl s
  · extract_lets e j
    refine forAll_nextKept (fun n t => ite_nextKept (.refl t) ?_) _ s
    split
    · exact (setRing_screenKept ..).nextKept
    · exact .refl t

theorem sendDigest_nextKept (p : Nat) (C : Int) (s : State) : NextKept s (sendDigest p C s) := by
  unfold sendDigest
  split
  · exact (mirror_calm ..).screenKept.nextKept
  · exact .refl s

theorem pruneAcc_nextKept (p : Nat) (s : State) : NextKept s (pruneAcc p s) := by
  unfold pruneAcc
  split
  · exact .refl s
  · exact .of_engines rfl

theorem closeLine_nextKept (k : Nat) (s : State) : NextKept s (closeLine k s) := by
  unfold closeLine
  extract_lets x C tile tiled y kept
  split
  case h_1 => exact .refl s
  case h_2 p _ =>
    extract_lets anchored chain verified digested
    have htiled : NextKept s tiled := ite_nextKept ((bumpStats_nextKept ..).trans (setEngine_nextKept (by rfl))) (.refl s)
    have hkept : NextKept tiled kept := setEngine_nextKept rfl
    have hanchored : NextKept kept anchored := (takeAnchors_nextKept ..).trans (bumpStats_nextKept ..)
    have hverified : NextKept anchored verified := ite_nextKept (forAll_nextKept (fun j t => verifyBand_nextKept j C t) chain anchored) (.refl anchored)
    have hdigested : NextKept verified digested := sendDigest_nextKept ..
    exact ite_nextKept (.refl s) ((settleRings_screenKept ..).nextKept.trans ((pruneAcc_nextKept p digested).trans
      (hdigested.trans (hverified.trans (hanchored.trans (hkept.trans htiled))))))

theorem checkLead_nextKept (k : Nat) (s : State) : NextKept s (checkLead k s) := by
  unfold checkLead
  extract_lets x
  split
  · exact .refl s
  · extract_lets lead
    refine ite_nextKept (.refl s) (ite_nextKept (setEngine_nextKept (by rfl)) (ite_nextKept (.refl s) ?_))
    exact (ev_calm ..).screenKept.nextKept.trans (setEngine_nextKept (by rfl))

theorem askNext_nextKept (k : Nat) (L : Int) (s : State) : NextKept s (askNext k L s) := by
  unfold askNext
  extract_lets x e
  split
  · exact .refl s
  · split
    · refine ite_nextKept (.refl s) ?_
      split
      · exact ite_nextKept (.refl s) (setEngine_nextKept (by rfl))
      · exact .refl s
    · exact .refl s

/-- What the note of the work that is pending leaves alone (R282). -/
structure WorkNoted (s t : State) : Prop extends NextKept s t where
  waiting : ∀ j, (t.engine j).waiting = (s.engine j).waiting
  dots : t.screen.dots = s.screen.dots
  store : t.store = s.store

theorem WorkNoted.trans {s t u : State} (g : WorkNoted t u) (h : WorkNoted s t) : WorkNoted s u :=
  ⟨g.toNextKept.trans h.toNextKept, fun j => (g.waiting j).trans (h.waiting j), g.dots.trans h.dots, g.store.trans h.store⟩

theorem forgetWords_noted (pick : Nat → Bool) (s : State) : WorkNoted s (forgetWords pick s) := ⟨.of_engines rfl, fun _ => rfl, rfl, rfl⟩

theorem noteDue_noted (worked : Option Nat) (s : State) : WorkNoted s (noteDue worked s) := by
  refine forAll_induct (P := WorkNoted s) (fun k t h => ?_) engineNums s ⟨.refl s, fun _ => rfl, rfl, rfl⟩
  extract_lets x since
  split
  · exact h
  · refine ⟨(setEngine_nextKept (by rfl)).trans h.toNextKept, fun j => ?_, h.dots, h.store⟩
    by_cases hj : j = k
    · rw [← h.waiting j, hj, State.setEngine_engine]
    · rw [← h.waiting j, State.setEngine_engine_ne _ _ _ _ hj]

/-- R200: with no error in the SRAM, a band's line buffer reads clean, and its line is screened. -/
theorem screenStep_of_clean {k : Nat} {s : State} (hband : (s.engine k).role = .band) (hclean : s.integ.sramErr = []) (tileOk : Bool) :
    screenStep k [] tileOk s = forgetWords (bufferWord k) (screenLine k tileOk s) := by
  simp [screenStep, hband, strikeWords, forAll, bufferErrors, readMarked, hclean]

theorem screenLine_idle {k : Nat} {s : State} (hlate : recoverable s k = none) (hdue : lineDue s k = false) (tileOk : Bool) :
    screenLine k tileOk s = s := by
  simp [screenLine, hlate, hdue]

theorem screenLine_waits {k row : Nat} {s : State} (hlate : recoverable s k = none) (hdue : lineDue s k = true) (hrow : rowAwaited s k = some row)
    (tileOk : Bool) : screenLine k tileOk s = requestRows k s := by
  simp [screenLine, hlate, hdue, hrow]

/-- R277: the line is screened; the tile that may fall due passes. -/
theorem screenLine_next {k : Nat} {s : State} (hlate : recoverable s k = none) (hdue : lineDue s k = true) (hrow : rowAwaited s k = none) :
    ((screenLine k true s).engine k).next = (s.engine k).next + 1 := by
  have hadvance : ∀ (t : State) (x : Engine),
      ((checkLead k (closeLine k (askNext k (s.engine k).next (t.setEngine k x)))).engine k).next = x.next := fun t x => by
    rw [(checkLead_nextKept ..).next, (closeLine_nextKept ..).next, (askNext_nextKept ..).next, State.setEngine_engine]
  simp [screenLine, hlate, hdue, hrow, hadvance]

/-- R267: the engine asks for the rows it needs and waits. -/
theorem requestRows_waits {k row : Nat} {s : State} (hrow : rowAwaited s k = some row) : ∃ rows,
    requestRows k s = s.setEngine k { s.engine k with waiting := true, waitRows := rows } := by
  unfold rowAwaited at hrow
  unfold requestRows
  dsimp only at hrow ⊢
  cases hplane : (s.engine k).plane with
  | none => rw [hplane] at hrow; cases hrow
  | some p =>
    rw [hplane] at hrow
    dsimp only at hrow ⊢
    cases hkind : lineKind s p (s.engine k).next with
    | contone pg => exact ⟨_, rfl⟩
    | bar pg => rw [hkind] at hrow; cases hrow
    | blank => rw [hkind] at hrow; cases hrow

/-! ### The commands -/

section
variable {dt : Nat} {s : State}

theorem exec_decodeLine {ring : Fin 64} {decoder : Fin 6} {r : Nat} {y : ReadyLine} {x : Stripe} {pg : Page}
    (hregion : ringRegion (tick dt s) (envNow (tick dt s)) ring = some r) (hstopped : s.faults.stopped = false) (hpower : s.power.state = 0)
    (hworks : tget false s.screen.decFailed (6 * r + decoder) = false) (hfront : queueFront (tick dt s) r = some ring.val)
    (hready : readyLine (tick dt s) ring = some y) (hclean : CleanMemories s) (hx : stripeAt (s.ring ring) y.base = some x)
    (hpg : pageNumbered s y.page = some pg) (hopen : x.depth.isSome = true) (hi : y.i ≠ 0) (lats : List Nat) :
    ∃ t, exec (.decodeLine dt ring decoder { lats := lats }) s = .next t ∧ LineTaken ring (6 * r + decoder) x y.need
      (stripeLine (parseHdr (ringBytes s ring x.base 24)) (ringBytes s ring x.base (x.len.getD 0)) y.i x.above) s t := by
  have hbytes : ∀ q len, ringBytes (decodingState dt r lats s) ring q len = ringBytes s ring q len := fun _ _ => rfl
  have htaken := runLine_taken (s := decodingState dt r lats s) (r := r) (d := decoder) ⟨hclean.marks, hclean.unwritten⟩
    (List.mem_of_find?_eq_some hx) pg (parseHdr (ringBytes (decodingState dt r lats s) ring x.base 24))
    (ringBytes (decodingState dt r lats s) ring x.base (x.len.getD 0)) y (inRedo (decodingState dt r lats s) ring pg y)
  rw [← takeLine_opened (s := decodingState dt r lats s) hx hpg hopen hi, hbytes, hbytes,
    ← decodeStep_takes hregion hstopped hpower hworks hfront hready hclean.sram] at htaken
  exact ⟨_, rfl, htaken.mem, htaken.done, htaken.bad⟩

theorem exec_decoderFault {region : Fin 4} {decoder : Fin 6} (hpowered : regionPowered (tick dt s) region = true)
    (hworks : tget false s.screen.decFailed (6 * region + decoder) = false) :
    ∃ t, exec (.decoderFault dt region decoder) s = .next t ∧ tget false t.screen.decFailed (6 * region + decoder) = true ∧
      t.store.mem = s.store.mem :=
  ⟨_, guardOk_of hpowered _ _, decoderFault_fails hworks⟩

theorem exec_decoderFault_again {region : Fin 4} {decoder : Fin 6} (hfailed : tget false s.screen.decFailed (6 * region + decoder) = true) :
    exec (.decoderFault dt region decoder) s = .next (tick dt s) := by
  have hnone : decoderFault region decoder (tick dt s) = tick dt s := decoderFault_again hfailed
  change guardOk _ _ _ = _
  rw [guardOk, hnone]
  exact ite_self _

/-- A band's command screens its line, and notes the work that is pending. -/
theorem exec_screenLine {engine : Fin 36} (hband : (s.engine engine).role = .band) (hsram : s.integ.sramErr = []) (tileOk : Bool) :
    ∃ t, exec (.screenLine dt engine { tileOk := tileOk }) s = .next t ∧ WorkNoted (screenLine engine tileOk (tick dt s)) t := by
  refine ⟨_, rfl, (noteDue_noted ..).trans ?_⟩
  rw [screenStep_of_clean (s := tick dt s) hband hsram]
  exact forgetWords_noted ..
end

/-- Settles O41: a decoder by the reads of a clean page store (`exec_decodeLine`), a band by what its line leaves of the lines to come
(`screenLine_next`). -/
theorem decodersAndBandsTakeLines : Obligations.DecodersAndBandsTakeLines := by
  refine ⟨fun dt s => ⟨?decode, fun region decoder => exec_decoderFault, fun region decoder => exec_decoderFault_again⟩,
    fun dt engine s => ⟨fun hband hsram hlate => ⟨?next, ?waits, ?idle⟩, fun row rest => exec_windowRefill dt⟩⟩
  case decode =>
    intro ring decoder lats r y x pg len h out hregion hstopped hpower hworks hfront hready hclean hx hpg hlen hopen hi hh hout
    obtain ⟨t, hexec, htaken⟩ := exec_decodeLine hregion hstopped hpower hworks hfront hready hclean hx hpg hopen hi lats
    rw [hlen, Option.getD_some, ← hh, ← hout] at htaken
    exact ⟨t, hexec, htaken.mem, htaken.done, htaken.bad⟩
  case next =>
    intro hdue hrow
    obtain ⟨t, hexec, hnoted⟩ := exec_screenLine (dt := dt) hband hsram true
    exact ⟨t, hexec, (hnoted.next engine).trans (screenLine_next hlate hdue hrow)⟩
  case waits =>
    intro row tileOk hdue hrow
    obtain ⟨t, hexec, hnoted⟩ := exec_screenLine (dt := dt) hband hsram tileOk
    obtain ⟨rows, hrequest⟩ := requestRows_waits hrow
    rw [screenLine_waits hlate hdue hrow, hrequest] at hnoted
    refine ⟨t, hexec, (hnoted.waiting engine).trans ?_, (hnoted.next engine).trans ?_, hnoted.dots, hnoted.store⟩
    · rw [State.setEngine_engine]
    · rw [State.setEngine_engine]; rfl
  case idle =>
    intro tileOk hdue
    obtain ⟨t, hexec, hnoted⟩ := exec_screenLine (dt := dt) hband hsram tileOk
    rw [screenLine_idle hlate hdue] at hnoted
    exact ⟨t, hexec, hnoted.next engine, hnoted.dots, hnoted.store⟩

end Sys2Proof.Machine

/-! ## Proofs of the family "nozzle state"

The nozzles that a head senses; its readings and thermal states; what a late line leaves of the lanes; the lines that a report names; and the reports
of segments and FIREs. -/

namespace Sys2Proof.Machine

/-! ### Changes of the nozzle table by a device commit (R307) -/

section
variable (d : DevChange) (s : State)

theorem queueChange_fire : (queueChange d s).fire = s.fire := by unfold queueChange; split <;> rfl

theorem queueChange_head (h : Nat) : (queueChange d s).head h = s.head h := by rw [State.head, State.head, queueChange_fire]
end

/-- R307: a chip that leads takes the change up. -/
theorem queueChange_waiting {s : State} (hlead : holdsLead s = true) (d : DevChange) : (queueChange d s).proto.waiting = s.proto.waiting ++ [d] := by
  rw [queueChange, if_pos (.inl hlead)]

/-- R305: a nozzle sensed as failed is to be dead, by SOURCE 1; one sensed as healthy takes SOURCE 3 where sense had marked it, its BASE left as it
is. -/
theorem senseReport_waiting {s : State} (hlead : holdsLead s = true) (h i : Nat) :
    (senseReport h i true s).proto.waiting = s.proto.waiting ++
        [⟨false, 1, [⟨channel h i, 1, { base := some 2, source := some 1, onlyIf := some 1 }⟩], [], none, none⟩] ∧
      (senseReport h i false s).proto.waiting = s.proto.waiting ++
        [⟨false, 1, [⟨channel h i, 1, { source := some 3, onlyAt := some 1 }⟩], [], none, none⟩] :=
  ⟨queueChange_waiting hlead _, queueChange_waiting hlead _⟩

/-! ### The thermal state of a head (R329 to R331) -/

/-- R331: a head that goes HOT is inhibited. -/
theorem goHot_head (h reason : Nat) (s : State) : (goHot h reason s).head h =
    { s.head h with thermal := 2, was := (s.head h).thermal, turned := some s.time.now, hotReason := reason, hotAnnounced := false,
                    warmAnnounced := true, coolSince := none, inhibited := true } :=
  (queueChange_head _ _ h).trans (State.setHead_head _ _ _)

/-- R330: the end of HOT leaves a head WARM and its channels free. -/
theorem coolDown_head {h : Nat} {s : State} (hhot : (s.head h).thermal = 2) : (coolDown h s).head h =
    { s.head h with thermal := 1, turned := none, hotAnnounced := true, coolSince := none, inhibited := false, inhSince := none } := by
  rw [coolDown, queueChange_head, State.setHead_head, if_pos hhot]

/-- R329: the head with a reading noted, before its thermal state is judged. -/
def readHead (h : Nat) (temp : Int) (s : State) : Head :=
  { s.head h with
    temp := temp
    lastRead := some s.time.now
    inhSince := if (s.head h).inhibited && (s.head h).thermal != 2 && decide (temp ≤ cfg s 0x700B h - cfg s 0x700C h) then
        some ((s.head h).inhSince.getD s.time.now)
      else none }

section
variable {h : Nat} {temp : Int} {s : State} (hassigned : headAssigned s h = true)
include hassigned

/-- R330: what the reading of an assigned head does, by its level and the head's state. -/
theorem takeReading_eq : takeReading h temp s =
    if (s.head h).thermal ≠ 2 ∧ cfg s 0x700B h ≤ temp then goHot h 1 (s.setHead h (readHead h temp s))
    else match (s.head h).thermal with
      | 0 => if cfg s 0x700A h ≤ temp then
            (s.setHead h (readHead h temp s)).setHead h
              { readHead h temp s with thermal := 1, was := 0, turned := some s.time.now, warmAnnounced := false, coolSince := none }
          else s.setHead h (readHead h temp s)
      | 1 => (s.setHead h (readHead h temp s)).setHead h
          { readHead h temp s with
            coolSince := coolFrom (s.setHead h (readHead h temp s)) (readHead h temp s) temp (cfg s 0x700A h - cfg s 0x700C h) }
      | _ => (s.setHead h (readHead h temp s)).setHead h
          { readHead h temp s with
            coolSince := coolFrom (s.setHead h (readHead h temp s)) (readHead h temp s) temp (cfg s 0x700B h - cfg s 0x700C h) } := by
  have hnot : ¬(!headAssigned (s.setHead h (readHead h temp s)) h) = true := by
    have hset : headAssigned (s.setHead h (readHead h temp s)) h = true := hassigned
    rw [hset]
    decide
  exact if_neg hnot

/-- R330, R331: a reading at or above `Head.TempCrit` makes a head HOT that was not. -/
theorem takeReading_hot (hcool : (s.head h).thermal ≠ 2) (hcrit : cfg s 0x700B h ≤ temp) :
    takeReading h temp s = goHot h 1 (s.setHead h (readHead h temp s)) := by
  rw [takeReading_eq hassigned, if_pos ⟨hcool, hcrit⟩]

/-- R330: a reading below `Head.TempCrit` leaves a NORMAL head so, or makes it WARM, and touches nothing but the head. -/
theorem takeReading_normal (hnormal : (s.head h).thermal = 0) (hcrit : temp < cfg s 0x700B h) :
    ((takeReading h temp s).head h).temp = temp ∧ ((takeReading h temp s).head h).thermal = (if cfg s 0x700A h ≤ temp then 1 else 0) ∧
      (takeReading h temp s).proto = s.proto ∧ ∀ m, m ≠ h → (takeReading h temp s).head m = s.head m := by
  rw [takeReading_eq hassigned, if_neg (fun hhot => absurd hhot.2 (not_le.mpr hcrit)), hnormal]
  dsimp only
  by_cases hwarn : cfg s 0x700A h ≤ temp
  · simp only [if_pos hwarn, State.setHead_head]
    exact ⟨rfl, trivial, rfl, fun m hm => by rw [State.setHead_head_ne _ _ _ _ hm, State.setHead_head_ne _ _ _ _ hm]⟩
  · simp only [if_neg hwarn, State.setHead_head]
    exact ⟨rfl, hnormal, rfl, fun m hm => State.setHead_head_ne _ _ _ _ hm⟩

/-- R330: a HOT head stays so at every reading; one above the level of its end starts the time of its cooling again. -/
theorem takeReading_hotStays (hhot : (s.head h).thermal = 2) :
    ((takeReading h temp s).head h).temp = temp ∧ ((takeReading h temp s).head h).thermal = 2 ∧ (takeReading h temp s).proto = s.proto ∧
      (cfg s 0x700B h - cfg s 0x700C h < temp → ((takeReading h temp s).head h).coolSince = none) := by
  rw [takeReading_eq hassigned, if_neg (fun hcool => hcool.1 hhot), hhot]
  simp only [State.setHead_head]
  exact ⟨rfl, hhot, rfl, fun habove => if_neg (not_le.mpr habove)⟩
end

/-! ### What frames that are cut leave of the lanes (R401) -/

theorem writeUnits_lanes (cls u : Nat) (bytes : List Byte) (s : State) : (writeUnits cls u bytes s).lanes = s.lanes := by
  refine forAll_induct (P := fun t => t.lanes = s.lanes) (fun i t ht => ?_) _ _ rfl
  have hrewrite : ∀ v w, (noteRewrite v w).lanes = w.lanes := fun v w => by unfold noteRewrite; split <;> rfl
  rw [hrewrite, (countAccess_read ..).lanes]
  exact ht

theorem zeroFill_lanes (f : Frame) (dtype : Nat) (s : State) : (zeroFill f dtype s).lanes = s.lanes := by
  unfold zeroFill
  split
  · rfl
  · exact forAll_induct (P := fun t => t.lanes = s.lanes) (fun _ t ht => (writeUnits_lanes _ _ _ t).trans ht) _ _ rfl

theorem frameFault_lanes (f : Frame) (s : State) : (frameFault f s).lanes = s.lanes := by
  unfold frameFault
  extract_lets x due
  split
  · rfl
  · exact (ev_calm ..).lanes

theorem assignSlices_lanes (s : State) : (assignSlices s).lanes = s.lanes := by
  refine forAll_induct (P := fun t => t.lanes = s.lanes) (fun _ t ht => ?_) _ _ rfl
  split <;> exact ht

theorem noteBacklog_lanes (s : State) : (noteBacklog s).lanes = s.lanes := by
  unfold noteBacklog
  dsimp only
  split
  · rfl
  · split
    · exact (ev_calm ..).lanes
    · rfl

theorem closeFrame_lanes (n : Nat) (k : BitVec 32) (more : List Nat) (s : State) : (closeFrame n k more s).lanes = s.lanes := by
  unfold closeFrame
  split
  · rfl
  · extract_lets f₁ none' f₂ changed _ logged filled faulted done
    have hfaulted : faulted.lanes = s.lanes := (frameFault_lanes _ filled).trans (zeroFill_lanes _ _ logged)
    have hdone : done.lanes = s.lanes := by
      simp only [done]
      split
      · exact (ev_calm ..).lanes.trans hfaulted
      · exact hfaulted
    split
    · rfl
    · exact (noteBacklog_lanes _).trans ((assignSlices_lanes _).trans hdone)

theorem cutFrames_lanes (sel : Nat → Bool) (s : State) : (cutFrames sel s).lanes = s.lanes :=
  forAll_induct (P := fun t => t.lanes = s.lanes) (fun _ t ht => (closeFrame_lanes _ _ _ t).trans ht) _ s rfl

/-! ### What a late line leaves of the lanes (R332 to R336, R377 to R383) -/

theorem slowPress_calm (s : State) : Calm s (slowPress s) := (limitChanged_calm _).trans (.same rfl)

theorem wheelerLateLine_calm (s : State) : Calm s (wheelerLateLine s) := ite_calm ((holdWheeler_calm _ _).trans (.same rfl)) (.same rfl)

theorem holdRow_calm (u : Nat) (L : Int) (cause : Nat) (s : State) : Calm s (holdRow u L cause s) := by
  unfold holdRow
  extract_lets _ held _ moved
  have hheld : Calm s held := setRow_calm ..
  have hmoved : Calm held moved := ite_calm (.same rfl) (.refl held)
  exact ite_calm (.refl s) ((updateSplice_calm _ moved).trans (hmoved.trans hheld))

theorem reinBegin_calm (u : Nat) (L : Int) (cause : Nat) (s : State) : Calm s (reinBegin u L cause s) := by
  unfold reinBegin
  extract_lets carried held first cause' _ _ begun counted _ spliced raised
  have hheld : Calm s held := forAll_calm (fun _ t => setRow_calm t _ _) carried s
  have hspliced : Calm held spliced := .same rfl
  have hraised : Calm s raised := (ev_calm ..).trans (hspliced.trans hheld)
  exact (mirror_calm ..).trans ((mirror_calm ..).trans ((holdRow_calm u L cause raised).trans hraised))

theorem reinReverse_lanes (s : State) : (reinReverse s).lanes = s.lanes := by
  unfold reinReverse
  extract_lets cut ps t _ turned muted raised _ mirrored
  have hmuted : muted.lanes = s.lanes := by
    have hmute : muted.lanes = turned.lanes :=
      forAll_induct (P := fun v => v.lanes = turned.lanes) (fun _ _ hv => hv) (List.range 4) _ (updateSplice_calm _ turned).lanes
    exact hmute.trans (cutFrames_lanes _ s)
  have hmirrored : mirrored.lanes = s.lanes := (mirror_calm ..).lanes.trans ((ev_calm ..).lanes.trans hmuted)
  split
  · exact (reinAbandon_calm 3 muted).lanes.trans hmuted
  · split
    · exact (reinWait_calm mirrored).lanes.trans hmirrored
    · exact hmirrored

theorem reinLate_lanes (u : Nat) (L : Int) (cause : Nat) (s : State) : (reinLate u L cause s).2.lanes = s.lanes := by
  unfold reinLate
  extract_lets why begun d
  have hbegun : begun.lanes = s.lanes := (reinBegin_calm u L cause s).lanes
  split
  · split
    · rfl
    · exact ((mirror_calm ..).trans (holdRow_calm u L cause s)).lanes
  · split
    · rfl
    · split
      · dsimp only
        split
        · exact (reinReverse_lanes begun).trans hbegun
        · exact hbegun
      · split
        · rfl
        · exact (ev_calm ..).lanes

theorem lateLine_lanes (u : Nat) (L : Int) (cause pol : Nat) (s : State) (data : Bool) : (lateLine u L cause pol s data).2.lanes = s.lanes := by
  unfold lateLine
  extract_lets h runs
  split
  · exact (wheelerLateLine_calm s).lanes
  · split
    next held asked hasked =>
    extract_lets action fresh _ run raised _ slowed logged
    have hasked : asked.lanes = s.lanes := by
      have hreins : (if pol = 2 ∨ (runs ∧ cause ≤ 4) then reinLate u L cause s else (false, s)).2.lanes = s.lanes := by
        split
        · exact reinLate_lanes u L cause s
        · rfl
      rwa [hasked] at hreins
    have hrun : Calm asked run := setRow_calm ..
    have hraised : Calm run raised := ite_calm (ev_calm ..) (.refl run)
    have hslowed : Calm raised slowed := ite_calm (ite_calm (slowPress_calm raised) (ite_calm (.same rfl) (.refl raised))) (.refl raised)
    have hlogged : Calm slowed logged := logLateLine_calm ..
    exact (hlogged.trans (hslowed.trans (hraised.trans hrun))).lanes.trans hasked

theorem lateOnce_lanes (u : Nat) (L : Int) (s : State) : (lateOnce u L s).lanes = s.lanes := by
  unfold lateOnce
  dsimp only
  split
  · rfl
  · exact lateLine_lanes ..

/-! ### The lowest line above a position (R121) -/

/-- A line, or the lowest one allowed where that is higher. -/
def notBelow (lo : Option Int) (l : Int) : Int := match lo with | some a => max a l | none => l

theorem le_notBelow (lo : Option Int) (l : Int) : l ≤ notBelow lo l := by
  cases lo with
  | none => exact le_refl l
  | some a => exact le_max_right a l

/-- The lines that `lineAbove` chooses from: the first one above `x` in each run of lines under one offset. -/
def aboveCands (s : State) (u : Nat) (lo : Option Int) (x : Int) : List Int :=
  notBelow lo (lineOf (x - unitOffset (envAt s (minOf (s.proto.commits.map (·.line)) - 1)) u) + 1) ::
    (s.proto.commits.map (·.line) ++ lo.toList).map (fun l => notBelow lo (max l (lineOf (x - unitOffset (envAt s l) u) + 1)))

theorem envAt_congr {s : State} {L L' : Int} (h : commitsAt s L = commitsAt s L') : envAt s L = envAt s L' := by
  funext i j
  rw [envAt, envAt, govVal, govVal, h]

/-- A line past the one that a run's offset gives, under the same commits, fires above `x`. -/
theorem lt_firePos {s : State} {u : Nat} {x l l' : Int} (h : commitsAt s l' = commitsAt s l) (hl : lineOf (x - unitOffset (envAt s l) u) + 1 ≤ l') :
    x < firePos s u l' := by
  rw [firePos, envAt_congr h]
  simp only [lineOf, oneLine] at *
  omega

/-- Under the last commit's values there is always a line that fires above `x`. -/
theorem exists_aboveCands (s : State) (u : Nat) (lo : Option Int) (x : Int) : ∃ l ∈ aboveCands s u lo x, x < firePos s u l := by
  by_cases hnone : s.proto.commits = []
  · have hcommits : ∀ L, commitsAt s L = [] := fun L => by rw [commitsAt, hnone, List.filter_nil]
    exact ⟨_, List.mem_cons_self, lt_firePos (by rw [hcommits, hcommits]) (le_notBelow lo _)⟩
  · obtain ⟨c, hc, hlast⟩ := Set.exists_max_image {c | c ∈ s.proto.commits} (·.line) (List.finite_toSet _) (List.exists_mem_of_ne_nil _ hnone)
    have hcommits : ∀ L, c.line ≤ L → commitsAt s L = s.proto.commits := fun L hL =>
      List.filter_eq_self.mpr fun d hd => decide_eq_true ((hlast d hd).trans hL)
    have hle := le_notBelow lo (max c.line (lineOf (x - unitOffset (envAt s c.line) u) + 1))
    refine ⟨_, List.mem_cons_of_mem _ (List.mem_map_of_mem (List.mem_append_left _ (List.mem_map_of_mem hc))), lt_firePos (l := c.line) ?_ ?_⟩
    · rw [hcommits _ ((le_max_left _ _).trans hle), hcommits _ (le_refl _)]
    · exact (le_max_right _ _).trans hle

/-- R121: so the line at `x`, and with it the time, has no part in the choice. -/
theorem lineAbove_eq (s : State) (u : Nat) (lo : Option Int) (x : Int) :
    lineAbove s u lo x = minOf ((aboveCands s u lo x).filter (fun l => decide (x < firePos s u l))) := by
  obtain ⟨l, hl, hx⟩ := exists_aboveCands s u lo x
  have hsome : ¬((aboveCands s u lo x).filter (fun l => decide (x < firePos s u l))).isEmpty = true := fun hempty =>
    List.ne_nil_of_mem (List.mem_filter.mpr ⟨hl, decide_eq_true hx⟩) (List.isEmpty_iff.mp hempty)
  exact if_neg hsome

/-! The time that a command lets pass moves no line that a report names, nor whose it is. -/

section
variable (dt : Nat) (s : State) (u : Nat)

theorem lineAbove_tick (lo : Option Int) (x : Int) : lineAbove (tick dt s) u lo x = lineAbove s u lo x := by
  rw [lineAbove_eq, lineAbove_eq]
  rfl

theorem rowFired_tick : rowFired (tick dt s) u = rowFired s u := by
  simp only [rowFired, rowNext, lineAbove_tick, tick_row, tick_gait]

theorem reportedLine_tick (line : Nat) : reportedLine (tick dt s) u line = reportedLine s u line := by
  rw [reportedLine, rowFired_tick, reportedLine]

theorem missedFrom_tick (fseq : Nat) : missedFrom (tick dt s) u fseq = missedFrom s u fseq := by
  rw [missedFrom, rowFired_tick, missedFrom, firesSince, tick_row, firesSince]

theorem ownReport_tick (h src : Nat) (L : Int) : ownReport (tick dt s) h src L = ownReport s h src L := rfl
end

/-! ### The reports that a lane counts (R327, R347, R354) -/

/-- Two states with the same lanes have the same statistics of them. -/
theorem stats_of_lanes {s t : State} (h : t.lanes = s.lanes) (n k : Nat) : tget 0 (t.lane n).stats k = tget 0 (s.lane n).stats k := by
  rw [State.lane, State.lane, h]

theorem laneStat_stats (h k m : Nat) (s : State) : tget 0 ((laneStat h k m s).lane h).stats k = tget 0 (s.lane h).stats k + BitVec.ofNat 64 m := by
  rw [laneStat, State.setLane_lane, tget_tmod_self]

/-- R327: an incomplete segment is counted, whatever the line that it makes late brings about. -/
theorem incompleteReport_stats (h r line : Nat) (s : State) :
    tget 0 ((incompleteReport h r line s).lane h).stats 6 = tget 0 (s.lane h).stats 6 + 1 := by
  unfold incompleteReport
  extract_lets u L x times due noted raised
  have hraised : raised.lanes = s.lanes := by
    simp only [raised]
    split
    · exact (ev_calm ..).lanes
    · rfl
  rw [stats_of_lanes (lateOnce_lanes ..), laneStat_stats, stats_of_lanes hraised]
  rfl

/-- R347: missed FIREs are counted, as many as the report says. -/
theorem missedReport_stats (h r fseq missing : Nat) (s : State) :
    tget 0 ((missedReport h r fseq missing s).lane h).stats 5 = tget 0 (s.lane h).stats 5 + BitVec.ofNat 64 missing := by
  have hlate : (missedReport h r fseq missing s).lanes = (laneStat h 5 missing s).lanes :=
    forAll_induct (P := fun t => t.lanes = (laneStat h 5 missing s).lanes) (fun _ t ht => (lateOnce_lanes _ _ t).trans ht) _ _ rfl
  rw [stats_of_lanes hlate, laneStat_stats]

/-! ### The commands -/

section
variable {dt : Nat} {head : Fin 64} {s : State} (hactive : laneActive s head = true)

theorem exec_warmExit (hwarm : (s.head head).thermal = 1) (hdue : since (tick dt s) (s.head head).coolSince (100 * ms) = true) :
    exec (.warmExit dt head) s =
      .next ((tick dt s).setHead head { s.head head with thermal := 0, turned := none, warmAnnounced := false, coolSince := none }) := by
  have hguard : (((tick dt s).head head).thermal == 1 && since (tick dt s) ((tick dt s).head head).coolSince (100 * ms)) = true := by
    simp only [Bool.and_eq_true, beq_iff_eq]
    exact ⟨hwarm, hdue⟩
  exact if_pos hguard

include hactive

theorem exec_temperature (temp : Int) : exec (.temperature dt head temp) s = .next (takeReading head temp (tick dt s)) := guardOk_of hactive _ _

theorem exec_hotExit (hhot : (s.head head).thermal = 2) (hdue : since (tick dt s) (s.head head).coolSince (cfgN s 0x700D head * ms) = true) :
    exec (.hotExit dt head) s = .next (coolDown head (tick dt s)) := by
  refine guardOk_of ?_ _ _
  simp only [Bool.and_eq_true, Bool.or_eq_true, beq_iff_eq]
  exact ⟨hactive, .inl ⟨hhot, hdue⟩⟩

theorem exec_telemetryTimeout (hassigned : headAssigned (tick dt s) head = true) (hcool : (s.head head).thermal ≠ 2)
    (hdue : since (tick dt s) (s.head head).lastRead (cfgN s 0x700E head * ms) = true) :
    exec (.telemetryTimeout dt head) s = .next (goHot head 2 (tick dt s)) := by
  refine guardOk_of ?_ _ _
  simp only [Bool.and_eq_true, bne_iff_ne]
  exact ⟨⟨⟨hactive, hassigned⟩, hcool⟩, hdue⟩

theorem exec_nozzleSense {nozzle : Nat} (hsense : (s.lane head).senseEn = true) (hnozzle : nozzle < headChans) (failed : Bool) :
    exec (.nozzleSense dt head nozzle failed) s = .next (senseReport head nozzle failed (tick dt s)) := by
  refine guardOk_of ?_ _ _
  simp only [Bool.and_eq_true, decide_eq_true_eq]
  exact ⟨⟨hactive, hsense⟩, hnozzle⟩

theorem exec_incompleteSegment {row src : Fin 2} {line : Nat} (hown : ownReport s head src (reportedLine s (2 * head + row) line) = true) :
    exec (.incompleteSegment dt head row ⟨line, src⟩) s = .next (incompleteReport head row line (tick dt s)) := by
  refine guardOk_of ?_ _ _
  rw [ownReport_tick, reportedLine_tick, hown, Bool.and_true]
  exact hactive

theorem exec_missedFires {row src : Fin 2} {fseq missing : Nat} (hown : ownReport s head src (missedFrom s (2 * head + row) fseq) = true) :
    exec (.missedFires dt head row fseq ⟨missing, src⟩) s = .next (missedReport head row fseq missing (tick dt s)) := by
  refine guardOk_of ?_ _ _
  rw [ownReport_tick, missedFrom_tick, hown, Bool.and_true]
  exact hactive
end

/-- Settles O44: each reading by its level (`takeReading_hot`, `takeReading_normal`, `takeReading_hotStays`), the ends of WARM and HOT and the silent
head by what they make of the head, a sensed nozzle by the change it queues, and the reports by lanes that no late line touches. -/
theorem headsReport : Obligations.HeadsReport := by
  refine ⟨fun dt head s => ⟨?hot, ?normal, ?hotStays, ?warmExit, ?hotExit, ?silent⟩, fun dt head s hactive => ⟨?sense, ?incomplete, ?missed⟩⟩
  case hot =>
    intro temp hactive hassigned hcool hcrit
    refine ⟨_, exec_temperature hactive temp, ?_⟩
    rw [takeReading_hot hassigned hcool hcrit, goHot_head, State.setHead_head]
    exact ⟨rfl, rfl, rfl, rfl, rfl⟩
  case normal =>
    intro temp hactive hassigned hnormal hcrit
    exact ⟨_, exec_temperature hactive temp, takeReading_normal hassigned hnormal hcrit⟩
  case hotStays =>
    intro temp hactive hassigned hhot
    exact ⟨_, exec_temperature hactive temp, takeReading_hotStays hassigned hhot⟩
  case warmExit =>
    intro hwarm hdue
    exact ⟨_, exec_warmExit hwarm hdue, State.setHead_head _ _ _, fun m hm => State.setHead_head_ne _ _ _ _ hm⟩
  case hotExit =>
    intro hactive hhot hdue
    refine ⟨_, exec_hotExit hactive hhot hdue, ?_⟩
    rw [coolDown_head (s := tick dt s) hhot]
    exact ⟨rfl, rfl⟩
  case silent =>
    intro hactive hassigned hcool hdue
    refine ⟨_, exec_telemetryTimeout hactive hassigned hcool hdue, ?_⟩
    rw [goHot_head]
    exact ⟨rfl, rfl, rfl⟩
  case sense =>
    intro nozzle hsense hnozzle hlead
    obtain ⟨hfailed, hhealthy⟩ := senseReport_waiting (s := tick dt s) hlead head nozzle
    exact ⟨⟨_, exec_nozzleSense hactive hsense hnozzle true, hfailed⟩, ⟨_, exec_nozzleSense hactive hsense hnozzle false, hhealthy⟩⟩
  case incomplete =>
    intro row src line hown
    exact ⟨_, exec_incompleteSegment hactive hown, incompleteReport_stats ..⟩
  case missed =>
    intro row src fseq missing hown
    exact ⟨_, exec_missedFires hactive hown, missedReport_stats ..⟩

end Sys2Proof.Machine

/-! ## Proofs of the family "trace link"

What the device sends on a lane and asks of its bridge leaves the rest of the lane alone (`BlocksOnly`); what each step of a lane's bring-up makes of
the lane; and the events of an active link. -/

namespace Sys2Proof.Machine

/-! ### Blocks that a lane sends, and requests to its bridge (R350, R355) -/

/-- Lane `h` is as it was but for the blocks that wait for a line period and the requests to its bridge, and every other lane is as it was. -/
structure BlocksOnly (h : Nat) (s t : State) : Prop where
  lane : ∃ tag waiting requests mgmt mgmtSent, t.lane h =
    { s.lane h with tag := tag, waiting := waiting, requests := requests, mgmt := mgmt, mgmtSent := mgmtSent }
  others : ∀ m, m ≠ h → t.lane m = s.lane m

theorem BlocksOnly.of_lanes {h : Nat} {s t : State} (e : t.lanes = s.lanes) : BlocksOnly h s t where
  lane := ⟨_, _, _, _, _, by rw [State.lane, e]; rfl⟩
  others _ _ := by rw [State.lane, e, State.lane]

theorem BlocksOnly.trans {h : Nat} {s t u : State} (g : BlocksOnly h t u) (f : BlocksOnly h s t) : BlocksOnly h s u where
  lane := by
    obtain ⟨_, _, _, _, _, hf⟩ := f.lane
    obtain ⟨_, _, _, _, _, hg⟩ := g.lane
    exact ⟨_, _, _, _, _, by rw [hg, hf]⟩
  others m hm := (g.others m hm).trans (f.others m hm)

theorem setLane_blocksOnly (h : Nat) (s : State) (tag : Nat) (waiting requests : List BridgeReq) (mgmt : List Output) (mgmtSent : Bool) :
    BlocksOnly h s (s.setLane h
      { s.lane h with tag := tag, waiting := waiting, requests := requests, mgmt := mgmt, mgmtSent := mgmtSent }) where
  lane := ⟨_, _, _, _, _, State.setLane_lane ..⟩
  others _ hm := State.setLane_lane_ne _ _ _ _ hm

theorem sendMgmt_blocksOnly (h : Nat) (o : Output) (s : State) : BlocksOnly h s (sendMgmt h o s) := by
  unfold sendMgmt
  split
  · exact (BlocksOnly.of_lanes (emit_lanes ..)).trans (setLane_blocksOnly h s _ _ _ _ _)
  · exact .of_lanes (emit_lanes ..)

theorem flushMgmt_blocksOnly (h : Nat) (s : State) : BlocksOnly h s (flushMgmt h s) := by
  unfold flushMgmt
  extract_lets x
  split
  · exact forAll_induct (P := BlocksOnly h s) (fun o t ht => (sendMgmt_blocksOnly h o t).trans ht) _ _ (setLane_blocksOnly h s _ _ _ _ _)
  · split
    · exact .of_lanes rfl
    · split
      · exact .of_lanes rfl
      · exact (sendMgmt_blocksOnly h _ _).trans (setLane_blocksOnly h s _ _ _ _ _)

theorem queueMgmt_blocksOnly (h : Nat) (o : Output) (s : State) : BlocksOnly h s (queueMgmt h o s) :=
  (flushMgmt_blocksOnly h _).trans (setLane_blocksOnly h s _ _ _ _ _)

theorem sendWaiting_blocksOnly (h : Nat) (s : State) : BlocksOnly h s (sendWaiting h s) := by
  unfold sendWaiting
  extract_lets x
  split
  · exact (queueMgmt_blocksOnly h _ _).trans (setLane_blocksOnly h s _ _ _ _ _)
  · exact .of_lanes rfl

theorem sendConfig_blocksOnly (h : Nat) (write : Bool) (addr : Nat) (data : BitVec 32) (handle : Option (BitVec 16)) (why : Nat) (s : State) :
    BlocksOnly h s (sendConfig h write addr data handle why s) :=
  (sendWaiting_blocksOnly h _).trans (setLane_blocksOnly h s _ _ _ _ _)

/-- R350: a TRAIN block that waits goes out, or waits on for the next line period. -/
theorem flushMgmt_train {h k : Nat} {q : BitVec 8} {s : State} (hwaits : Output.train h k q ∈ (s.lane h).mgmt) :
    Output.train h k q ∈ (flushMgmt h s).model.tx ∨ Output.train h k q ∈ ((flushMgmt h s).lane h).mgmt := by
  have hout : ∀ t, Output.train h k q ∈ (sendMgmt h (.train h k q) t).model.tx := fun t => withTag_mem_emit (.train h k q) t
  have hstays : ∀ o t, Output.train h k q ∈ t.model.tx → Output.train h k q ∈ (sendMgmt h o t).model.tx := fun o t ht =>
    (sendMgmt_keeps h o t (Keeps.refl t)).tx _ ht
  unfold flushMgmt
  extract_lets x
  split
  · exact .inl (forAll_reaches_mem hwaits hout (fun o _ => hstays o) _)
  · split
    · exact .inr hwaits
    · split
      next hnil => exact absurd (hnil ▸ hwaits) List.not_mem_nil
      next o rest hcons =>
        rcases List.mem_cons.mp (hcons ▸ hwaits) with rfl | hrest
        · exact .inl (hout _)
        · refine .inr ?_
          have hmgmt : ∀ t, ((sendMgmt h o t).lane h).mgmt = (t.lane h).mgmt := fun t => by
            unfold sendMgmt
            split
            · rw [emit_lane, State.setLane_lane]
            · rw [emit_lane]
          rwa [hmgmt, State.setLane_lane]

theorem sendWaiting_idle {h : Nat} {s : State} (hidle : (s.lane h).waiting = []) : sendWaiting h s = s := by
  unfold sendWaiting
  dsimp only
  rw [hidle]

/-- R355: with no request waiting, a request that is over leaves the others as they are. -/
theorem freeRequest_eq {h : Nat} {s : State} (hidle : (s.lane h).waiting = []) (tag : Nat) :
    freeRequest h tag s = s.setLane h { s.lane h with requests := (s.lane h).requests.filter (fun q => q.tag != tag) } :=
  sendWaiting_idle (by rw [State.setLane_lane]; exact hidle)

/-! ### Echoes (R356, R360) -/

/-- R356, R360: an echo request takes the next SEQ. -/
theorem sendEcho_lane (h : Nat) (s : State) :
    (∃ tag waiting requests mgmt mgmtSent, (sendEcho h s).lane h = { s.lane h with
      echoSeq := (s.lane h).echoSeq + 1, tag := tag, waiting := waiting, requests := requests, mgmt := mgmt, mgmtSent := mgmtSent }) ∧
      ∀ m, m ≠ h → (sendEcho h s).lane m = s.lane m := by
  obtain ⟨⟨_, _, _, _, _, hlane⟩, hothers⟩ := queueMgmt_blocksOnly h (.train h 1 ((s.lane h).echoSeq + 1))
    (s.setLane h { s.lane h with echoSeq := (s.lane h).echoSeq + 1 })
  exact ⟨⟨_, _, _, _, _, hlane.trans (by rw [State.setLane_lane])⟩, fun m hm => (hothers m hm).trans (State.setLane_lane_ne _ _ _ _ hm)⟩

theorem sendEcho_train (h : Nat) (s : State) : Output.train h 1 ((s.lane h).echoSeq + 1) ∈ (sendEcho h s).model.tx ∨
    Output.train h 1 ((s.lane h).echoSeq + 1) ∈ ((sendEcho h s).lane h).mgmt :=
  flushMgmt_train (by rw [State.setLane_lane]; exact List.mem_append_right _ (List.mem_singleton.mpr rfl))

/-- R360: a re-measurement starts from no echo. -/
theorem startMeasure_lane (h : Nat) (s : State) :
    ((startMeasure h s).lane h).measuring = true ∧ ((startMeasure h s).lane h).measuredAt = s.time.now ∧
      ∀ m, m ≠ h → (startMeasure h s).lane m = s.lane m := by
  obtain ⟨⟨_, _, _, _, _, hlane⟩, hothers⟩ := sendEcho_lane h
    (s.setLane h { s.lane h with measuring := true, measuredAt := s.time.now, echoes := 0, echoSum := 0 })
  rw [startMeasure, hlane, State.setLane_lane]
  exact ⟨rfl, rfl, fun m hm => (hothers m hm).trans (State.setLane_lane_ne _ _ _ _ hm)⟩

theorem startMeasure_train (h : Nat) (s : State) : Output.train h 1 ((s.lane h).echoSeq + 1) ∈ (startMeasure h s).model.tx ∨
    Output.train h 1 ((s.lane h).echoSeq + 1) ∈ ((startMeasure h s).lane h).mgmt := by
  have hsent := sendEcho_train h (s.setLane h { s.lane h with measuring := true, measuredAt := s.time.now, echoes := 0, echoSum := 0 })
  rwa [State.setLane_lane] at hsent

/-! ### Training and failure (R359, R363) -/

theorem queueChange_lanes (d : DevChange) (s : State) : (queueChange d s).lanes = s.lanes := by unfold queueChange; split <;> rfl

theorem startTraining_lane (h : Nat) (s : State) : (startTraining h s).lane h =
    { s.lane h with state := 3, step := 2, capsTries := 0, capsIn := [], echoSum := 0, echoes := 0 } := by
  rw [startTraining, emit_lane, State.setLane_lane]

theorem loseHead_lanes (h : Nat) (L : Int) (s : State) : (loseHead h L s).lanes = s.lanes := by
  unfold loseHead
  extract_lets _ lost _ taken
  split
  · rfl
  · rw [queueChange_lanes]
    simp only [taken]
    split
    · exact raise_lanes ..
    · rfl

/-- R363: a lane whose last attempt fails is FAILED, and the command that waits for it has ended. -/
theorem laneFailed_lane (h step : Nat) (s : State) : (laneFailed h step s).lane h =
    { s.lane h with state := 9, step := 0, retrain := none, handle := none } := by
  unfold laneFailed
  extract_lets x first failed told lost faulty abandoned
  have htold : told.lanes = failed.lanes := ev_lanes ..
  have hlost : lost.lanes = failed.lanes := by
    simp only [lost]
    split
    · exact (loseHead_lanes ..).trans htold
    · exact htold
  have hfaulty : faulty.lanes = failed.lanes := (addFault_calm ..).lanes.trans hlost
  have habandoned : abandoned.lanes = failed.lanes := (ite_calm (reinAbandon_calm 9 faulty) (.refl faulty)).lanes.trans hfaulty
  have hlane : abandoned.lane h = { s.lane h with state := 9, step := 0, retrain := none } := by
    rw [State.lane, habandoned]; exact State.setLane_lane ..
  rw [laneHandle_lane, hlane]

/-- R359, R363: where a bring-up fails in one of its steps, that step has failed. -/
theorem bringupFail_eq (h : Nat) (s : State) : ∃ step u, bringupFail h s = stepFailed h step u ∧ u.lanes = s.lanes := by
  unfold bringupFail
  extract_lets x
  split
  · exact ⟨_, _, rfl, rfl⟩
  · exact ⟨_, _, rfl, rfl⟩

/-- R363: a step of a retrain attempt fails, and another attempt is left. -/
theorem bringupFail_again {h n : Nat} {s : State} (hleft : (s.lane h).retrain = some (n + 1)) :
    ((bringupFail h s).lane h).state = 3 ∧ ((bringupFail h s).lane h).retrain = some n := by
  obtain ⟨step, u, hfail, hlanes⟩ := bringupFail_eq h s
  have hu : (u.lane h).retrain = some (n + 1) := by rw [State.lane, hlanes]; exact hleft
  have hstep : stepFailed h step u = startTraining h (u.setLane h { u.lane h with retrain := some n }) := by
    simp only [stepFailed, hu]
  rw [hfail, hstep, startTraining_lane, State.setLane_lane]
  exact ⟨rfl, rfl⟩

/-- R363: a step of the last retrain attempt fails. -/
theorem bringupFail_last {h : Nat} {s : State} (hlast : (s.lane h).retrain = some 0) :
    ((bringupFail h s).lane h).state = 9 ∧ ((bringupFail h s).lane h).retrain = none := by
  obtain ⟨step, u, hfail, hlanes⟩ := bringupFail_eq h s
  have hu : (u.lane h).retrain = some 0 := by rw [State.lane, hlanes]; exact hlast
  have hstep : stepFailed h step u = laneFailed h step u := by simp only [stepFailed, hu]
  rw [hfail, hstep, laneFailed_lane]
  exact ⟨rfl, rfl⟩

/-! ### The steps of a bring-up (R357 to R360) -/

/-- R359: a lane on which no bridge is found is OPEN, and the command that waits for it has ended. -/
theorem senseBridge_absent (h : Nat) (s : State) : (senseBridge h false s).lane h =
    { s.lane h with state := 2, step := 0, openRaised := true, sensedAt := s.time.now, handle := none } := by
  unfold senseBridge
  extract_lets x opened told
  rw [if_neg Bool.false_ne_true, laneHandle_lane]
  have htold : told.lane h = opened.lane h := by
    simp only [told]
    split
    · rfl
    · exact ev_lane ..
  rw [htold, State.setLane_lane]

/-- R357, R359: a lane whose blocks have locked exchanges capabilities, with the adaptation that training found. -/
theorem locked_lane (h : Nat) (adapt : List Byte) (s : State) : ((locked h adapt s).lane h).state = 4 ∧ ((locked h adapt s).lane h).capsIn = [] ∧
    ((locked h adapt s).lane h).adapt = adapt := by
  rw [locked, emit_lane, State.setLane_lane]
  exact ⟨rfl, rfl, rfl⟩

theorem checkIdentity_lane (h : Nat) (s : State) (m : Nat) : (checkIdentity h s).lane m = s.lane m := by
  unfold checkIdentity
  dsimp only
  split
  · rfl
  · rw [ev_lane, State.lane, queueChange_lanes]; rfl

theorem goActive_lane (h : Nat) (s : State) : (goActive h s).lane h =
    { s.lane h with state := 6, step := 0, retrain := none, firstLate := none, measuring := false, measuredAt := s.time.now, power := 0,
                    handle := none } := by
  unfold goActive
  extract_lets x entered _ found told _ owned
  have htold : told.lane h = entered.lane h := (ev_lane ..).trans (State.setHead_lane ..)
  have howned : owned.lanes = told.lanes := by
    clear_value told
    simp only [owned]
    split
    · exact ev_lanes ..
    · rfl
  rw [checkIdentity_lane, laneHandle_lane, State.lane, howned, ← State.lane, htold, enterActive_lane, State.setLane_lane]

theorem replaceLines_lane (h : Nat) (s : State) (m : Nat) : (replaceLines h s).lane m = s.lane m := by
  obtain ⟨gait, hlines⟩ := forAll_gait_eq predictRow_eq [2 * h, 2 * h + 1] s
  rw [replaceLines, hlines]; rfl

/-- R358, R359: an accepted CAPS set starts the measurement of the latency. -/
theorem takeCaps_accepted {h : Nat} {words : List (Nat × BitVec 32)} {s : State}
    (haccepted : capsRefusal (s.lane h).rate (tget none (words.foldl (fun t w => tput none t w.1 (some w.2)) (s.lane h).capsIn)) = none) :
    ((takeCaps h words s).lane h).state = 5 ∧ ((takeCaps h words s).lane h).measuring = true ∧ ((takeCaps h words s).lane h).echoes = 0 := by
  simp only [takeCaps, haccepted]
  obtain ⟨⟨_, _, _, _, _, hlane⟩, -⟩ := sendEcho_lane h (s.setLane h _)
  rw [hlane, State.setLane_lane]
  exact ⟨rfl, rfl, rfl⟩

/-- R359: a refused set is one of three tries. -/
theorem takeCaps_refused {h : Nat} {words : List (Nat × BitVec 32)} {refusal : Nat × Nat} {s : State}
    (hrefused : capsRefusal (s.lane h).rate (tget none (words.foldl (fun t w => tput none t w.1 (some w.2)) (s.lane h).capsIn)) = some refusal)
    (htries : (s.lane h).capsTries < 2) :
    ((takeCaps h words s).lane h).state = (s.lane h).state ∧ ((takeCaps h words s).lane h).capsTries = (s.lane h).capsTries + 1 := by
  simp only [takeCaps, hrefused, if_pos htries, State.setLane_lane, and_self]

/-- R360: one of the first 63 echoes is added up. -/
theorem takeEcho_more {h : Nat} {s : State} (hmore : (s.lane h).echoes < 63) (flight : Nat) :
    ((takeEcho h flight s).lane h).echoes = (s.lane h).echoes + 1 ∧ ((takeEcho h flight s).lane h).echoSum = (s.lane h).echoSum + flight ∧
      ((takeEcho h flight s).lane h).state = (s.lane h).state := by
  rw [takeEcho, if_pos (by omega)]
  obtain ⟨⟨_, _, _, _, _, hlane⟩, -⟩ := sendEcho_lane h (s.setLane h _)
  rw [hlane, State.setLane_lane]
  exact ⟨rfl, rfl, rfl⟩

/-- R359, R360: the 64th echo ends the measurement, and the bring-up if it stands in step 5. -/
theorem takeEcho_last {h : Nat} {s : State} (hlast : 63 ≤ (s.lane h).echoes) (hstate : (s.lane h).state = 5 ∨ (s.lane h).state = 6)
    (flight : Nat) : ((takeEcho h flight s).lane h).measuring = false ∧ ((takeEcho h flight s).lane h).state = 6 ∧
      ((takeEcho h flight s).lane h).echoes = 0 := by
  rw [takeEcho, if_neg (by omega)]
  extract_lets measured
  split
  · rw [goActive_lane, State.setLane_lane]
    exact ⟨rfl, rfl, rfl⟩
  next hnot =>
    rw [replaceLines_lane, State.setLane_lane]
    exact ⟨rfl, hstate.resolve_left hnot, rfl⟩

/-! ### The commands of a bring-up -/

section
variable {dt : Nat} {head : Fin 64} {s : State}

theorem exec_traceDetect (hpower : s.power.state ≤ 1) (hdue : senseDue (tick dt s) head = true)
    (hstate : (s.lane head).state = 1 ∨ (s.lane head).state = 2 ∨ ((s.lane head).state = 0 ∧ cfgN s 0x7043 head = 1)) (present : Bool) :
    exec (.traceDetect dt head present) s = .next (senseBridge head present (tick dt s)) := by
  refine guardOk_of ?_ _ _
  simp only [Bool.and_eq_true, Bool.or_eq_true, decide_eq_true_eq, beq_iff_eq]
  exact ⟨⟨hpower, hdue⟩, or_assoc.mpr hstate⟩

theorem exec_blockLock (hstate : (s.lane head).state = 3) (adapt : List Byte) :
    exec (.blockLock dt ⟨head, adapt⟩) s = .next (locked head adapt (tick dt s)) := guardOk_of (beq_iff_eq.mpr hstate) _ _

theorem exec_caps (hstate : (s.lane head).state = 4) (words : List (Nat × BitVec 32)) :
    exec (.caps dt head words) s = .next (takeCaps head words (tick dt s)) := guardOk_of (beq_iff_eq.mpr hstate) _ _

theorem exec_echoReply (hstate : (s.lane head).state = 5 ∨ (s.lane head).state = 6) (hmeasuring : (s.lane head).measuring = true)
    (flight : Nat) : exec (.echoReply dt head ⟨(s.lane head).echoSeq, flight⟩) s = .next (takeEcho head flight (tick dt s)) := by
  refine guardOk_of ?_ _ _
  simp only [Bool.and_eq_true, Bool.or_eq_true, beq_iff_eq]
  exact ⟨⟨hstate, hmeasuring⟩, rfl⟩

/-- R356: a reply that repeats another SEQ answers nothing. -/
theorem exec_echoReply_other {seq : BitVec 8} (hseq : seq ≠ (s.lane head).echoSeq) (flight : Nat) :
    exec (.echoReply dt head ⟨seq, flight⟩) s = .next (tick dt s) := by
  refine guardOk_not ?_
  rw [Bool.and_eq_false_iff]
  exact .inr (beq_eq_false_iff_ne.mpr hseq)

theorem exec_bringupStepFail (hstate : (s.lane head).state = 3 ∨ (s.lane head).state = 4 ∨ (s.lane head).state = 5) :
    exec (.bringupStepFail dt head) s = .next (bringupFail head (tick dt s)) := by
  refine guardOk_of ?_ _ _
  simp only [Bool.or_eq_true, beq_iff_eq]
  exact or_assoc.mpr hstate
end

/-- Settles O45: each command runs in its step of the bring-up, and leaves the lane as that step's lemma says. -/
theorem laneBringUpSteps : Obligations.LaneBringUpSteps := by
  refine fun dt head s => ⟨?detect, ?lock, ?accepted, ?refused, ?echo, ?fail⟩
  case detect =>
    intro hpower hdue hstate
    have hexec := exec_traceDetect hpower hdue hstate
    refine ⟨⟨_, hexec true, ?_, ?_, withTag_mem_emit (.train head 0 0) _⟩, ⟨_, hexec false, ?_⟩⟩
    · exact congrArg Lane.state (startTraining_lane ..)
    · exact congrArg Lane.step (startTraining_lane ..)
    · rw [senseBridge_absent]
      exact ⟨rfl, rfl, rfl⟩
  case lock =>
    intro adapt hstate
    obtain ⟨hnext, hnone, hadapt⟩ := locked_lane head adapt (tick dt s)
    exact ⟨_, _, exec_blockLock hstate adapt, hnext, hnone, hadapt, withTag_mem_emit (.caps head _) _⟩
  case accepted =>
    intro words hstate haccepted
    exact ⟨_, exec_caps hstate words, takeCaps_accepted haccepted⟩
  case refused =>
    intro words refusal hstate hrefused htries
    obtain ⟨hkept, hcounted⟩ := takeCaps_refused (s := tick dt s) hrefused htries
    exact ⟨_, exec_caps hstate words, hkept.trans hstate, hcounted⟩
  case echo =>
    intro flight hstate hmeasuring
    have hexec := exec_echoReply (dt := dt) hstate hmeasuring flight
    exact ⟨fun hmore => ⟨_, hexec, takeEcho_more (s := tick dt s) hmore flight⟩,
      fun hlast => ⟨_, hexec, takeEcho_last (s := tick dt s) hlast hstate flight⟩, fun seq hseq => exec_echoReply_other hseq flight⟩
  case fail =>
    intro hstate
    have hexec := exec_bringupStepFail (dt := dt) hstate
    exact ⟨fun n hleft => ⟨_, hexec, bringupFail_again (s := tick dt s) hleft⟩,
      fun hlast => ⟨_, hexec, bringupFail_last (s := tick dt s) hlast⟩⟩

/-! ### An active link (R362, R365, R366, R368, R373) -/

/-- R373: a lane that leaves ACTIVE has no request left. -/
theorem dropRequests_lane (h : Nat) (s : State) : (dropRequests h s).lane h =
    { s.lane h with requests := [], waiting := [], mgmt := [], mgmtSent := false, powerReq := none, measuring := false, adapt := adaptation s h
                    adaptNext := none } := by
  unfold dropRequests
  extract_lets x rs idle
  rw [completeWords_lane, State.setLane_lane]

/-- R362, R363: a retrain ends the requests of the lane, counts in its statistics, and starts to train with an attempt begun. -/
theorem startRetrain_lane (h reason : Nat) (s : State) :
    ((startRetrain h reason s).lane h).state = 3 ∧ ((startRetrain h reason s).lane h).step = 2 ∧
      ((startRetrain h reason s).lane h).requests = [] ∧
      ((startRetrain h reason s).lane h).retrain = some (cfgN s 0x7050 0 - 1) ∧
      tget 0 ((startRetrain h reason s).lane h).stats 4 = tget 0 (s.lane h).stats 4 + 1 := by
  unfold startRetrain
  extract_lets limit dropped _ begun _ _ counted
  have hcounted : counted.lane h = { dropped.lane h with retrain := some (limit - 1), upReason := 1, firstLate := none } := State.setLane_lane ..
  have hstats : tget 0 ((laneStat h 4 1 counted).lane h).stats 4 = tget 0 (s.lane h).stats 4 + 1 := by
    rw [laneStat_stats, hcounted, dropRequests_lane]; rfl
  rw [startTraining_lane, ev_lane]
  refine ⟨rfl, rfl, ?_, ?_, hstats⟩
  · rw [laneStat, State.setLane_lane, hcounted, dropRequests_lane]
  · rw [laneStat, State.setLane_lane, hcounted]

/-- R345: an adaptation that is wanted waits for its SKIP. -/
theorem wantAdaptation_lane (h : Nat) (adapt : Option (List Byte)) (s : State) :
    ((adapt.elim id (wantAdaptation h) s).lane h).eye = (s.lane h).eye ∧
      ((adapt.elim id (wantAdaptation h) s).lane h).eyeReadAt = (s.lane h).eyeReadAt ∧
      ∀ v, adapt = some v → ∃ x, ((adapt.elim id (wantAdaptation h) s).lane h).adaptNext = some (v, x) := by
  cases adapt with
  | none => exact ⟨rfl, rfl, nofun⟩
  | some v =>
    obtain ⟨x, hwanted⟩ : ∃ x, (wantAdaptation h v s).lane h = { s.lane h with adapt := adaptation s h, adaptNext := some (v, x) } :=
      ⟨_, State.setLane_lane ..⟩
    rw [Option.elim_some, hwanted]
    refine ⟨rfl, rfl, ?_⟩
    rintro _ ⟨⟩
    exact ⟨x, rfl⟩

/-- R368: an eye is judged, and the lane notes at most that it has raised TRACE.EYE. -/
theorem judgeEye_lane (h reason width height : Nat) (s : State) : ∃ eyeAt,
    (judgeEye h reason width height s).lane h = { s.lane h with eyeAt := eyeAt } := by
  unfold judgeEye
  extract_lets x low due
  split
  · exact ⟨_, by rw [ev_lane, State.setLane_lane]⟩
  · exact ⟨_, rfl⟩

/-- R368: the upstream eye is noted as the monitor finds it. -/
theorem readEye_lane (h width height : Nat) (s : State) :
    ((readEye h width height s).lane h).eye = [(s.lane h).eye.getD 0 0, (s.lane h).eye.getD 1 0, width, height] ∧
      ((readEye h width height s).lane h).eyeReadAt = some s.time.now := by
  unfold readEye
  extract_lets x noted
  obtain ⟨_, hjudged⟩ := judgeEye_lane h 2 width height noted
  obtain ⟨_, _, _, _, _, hlane⟩ := (sendConfig_blocksOnly h false 0x020 0 none 2 (judgeEye h 2 width height noted)).lane
  rw [hlane, hjudged, State.setLane_lane]
  exact ⟨rfl, rfl⟩

/-- R366: a chip that does not wait to take lead notes the bridge's answer and the owner that it names. -/
theorem takeClaim_noted {h owner reason epoch : Nat} {s : State} (hwheel : s.pair.state ≠ 5) (hheld : s.pair.state ≠ 6) :
    ((takeClaim h owner reason epoch s).lane h).claim = BitVec.ofNat 32 (owner % 4 * 2 ^ 30 + reason % 16 * 2 ^ 24 + epoch % 65536) ∧
      tget 0 (takeClaim h owner reason epoch s).pair.owner h = if owner = 0 then 0 else if owner - 1 = lanePort s h then 1 else 2 := by
  unfold takeClaim
  extract_lets word _ noted raised mine who told _ named
  have hraised : raised.lane h = { s.lane h with claim := word } := (ev_lane ..).trans (State.setLane_lane ..)
  have hport : lanePort raised h = lanePort s h := by rw [lanePort, hraised]; rfl
  have htold : Quiet raised told := by
    simp only [told]
    split
    · exact ev_quiet ..
    · exact .refl raised
  have hpair : told.pair = s.pair := htold.pair.trans (ev_pair ..)
  rw [if_neg (show ¬(told.pair.state = 5 ∨ told.pair.state = 6) by rw [hpair]; exact fun hlead => hlead.elim hwheel hheld)]
  refine ⟨?_, tget_tput_self.trans ?_⟩
  · change (told.lane h).claim = _
    rw [State.lane, htold.lanes]
    exact congrArg Lane.claim hraised
  · simp only [who, mine, hport]
    by_cases hnone : owner = 0
    · rw [if_pos hnone, if_pos hnone]
    · rw [if_neg hnone, if_neg hnone]
      simp only [ne_eq, hnone, not_false_eq_true, true_and]

/-! ### The bridge's answers (R355, R364, R375) -/

/-- R355: the state once a bridge's answer has freed its request, and the device has noted the register where it tells one. -/
def answerNoted (h : Nat) (r : BridgeReq) (status : Nat) (data : BitVec 32) (s : State) : State :=
  if status = 0 then noteRegister h r.addr (if r.write then r.data else data) (freeRequest h r.tag s) else freeRequest h r.tag s

/-- R369: a register that is noted changes counters, SENSE_EN or CLAIM_STATE of its lane alone. -/
theorem noteRegister_spec (h addr : Nat) (data : BitVec 32) (s : State) : ∃ stats senseEn claim,
    (noteRegister h addr data s).lane h = { s.lane h with stats := stats, senseEn := senseEn, claim := claim } ∧
      (noteRegister h addr data s).proto = s.proto := by
  unfold noteRegister
  extract_lets x
  split_ifs
  case neg => exact ⟨_, _, _, rfl, rfl⟩
  all_goals exact ⟨_, _, _, State.setLane_lane .., rfl⟩

/-- R355: with no request waiting, an answer takes its request from the lane, and leaves the handles to its caller. -/
theorem answerNoted_spec {h : Nat} {s : State} (hidle : (s.lane h).waiting = []) (r : BridgeReq) (status : Nat) (data : BitVec 32) :
    ∃ stats senseEn claim, (answerNoted h r status data s).lane h = { s.lane h with
        requests := (s.lane h).requests.filter (fun q => q.tag != r.tag), stats := stats, senseEn := senseEn, claim := claim } ∧
      (answerNoted h r status data s).proto = s.proto := by
  unfold answerNoted
  rw [freeRequest_eq hidle]
  split
  · obtain ⟨_, _, _, hlane, hproto⟩ := noteRegister_spec h r.addr (if r.write then r.data else data)
      (s.setLane h { s.lane h with requests := (s.lane h).requests.filter (fun q => q.tag != r.tag) })
    exact ⟨_, _, _, hlane.trans (by rw [State.setLane_lane]), hproto⟩
  · exact ⟨_, _, _, State.setLane_lane .., rfl⟩

/-- R66, R67: the operation whose handle word this is ends, in any state with the same handles. -/
theorem completeWord_completed {w : BitVec 16} {s t : State} (hproto : t.proto = s.proto) (hrun : (s.handle (w.toNat % 256)).phase = .running)
    (hword : handleWord s (w.toNat % 256) = w) (code : Nat) (d : BitVec 96) : Completed (w.toNat % 256) code d (completeWord w code d t) := by
  have hhandle : t.handle (w.toNat % 256) = s.handle (w.toNat % 256) := by rw [State.handle, hproto, State.handle]
  have hword' : handleWord t (w.toNat % 256) = w := by rw [handleWord, hhandle]; exact hword
  rw [completeWord, if_pos hword']
  exact completeHandle_completed _ _ _ _ (by rw [hhandle]; exact hrun)

section
variable {h : Nat} {q : BridgeReq} {s : State}

/-- R375: an answer to a command ends it. -/
theorem takeResponse_host {w : BitVec 16} (hwhy : q.why = 0) (hhandle : q.handle = some w) (status : Nat) (data : BitVec 32) :
    takeResponse h q status data s = completeWord w (configCode status) (data.setWidth 96) (answerNoted h q status data s) := by
  simp only [takeResponse, hwhy, hhandle, answerNoted]

/-- R364: the bridge accepts the power state asked for. -/
theorem takeResponse_power {v : Nat} (hwhy : q.why = 1) (hasked : (s.lane h).powerReq = some v) (hv : v ≠ 0) (data : BitVec 32) :
    takeResponse h q 0 data s = powerTaken h v (answerNoted h q 0 data s) := by
  simp only [takeResponse, hwhy, hasked, Option.getD_some, ne_eq, hv, not_false_eq_true, and_self, if_true, answerNoted]

/-- R368: the bridge tells the downstream eye. -/
theorem takeResponse_eye (hwhy : q.why = 2) (data : BitVec 32) :
    takeResponse h q 0 data s = judgeEye h 1 (data.toNat / 65536) (data.toNat % 65536) ((answerNoted h q 0 data s).setLane h
      { (answerNoted h q 0 data s).lane h with
        eye := [data.toNat / 65536, data.toNat % 65536, (s.lane h).eye.getD 2 0, (s.lane h).eye.getD 3 0] }) := by
  simp only [takeResponse, hwhy, ne_eq, not_true_eq_false, if_false, answerNoted]

/-- R355, R375: a request that is lost ends its command with 0901h. -/
theorem requestLost_host {w : BitVec 16} (hhandle : q.handle = some w) : requestLost h q s =
    completeWord w 0x0901 0
      (freeRequest h q.tag (s.setLane h { s.lane h with powerReq := if q.why = 1 then none else (s.lane h).powerReq })) := by
  simp only [requestLost, hhandle]
end

/-- R364: both ends of a lane that takes a power state go idle. -/
theorem powerTaken_lane (h v : Nat) (s : State) : ((powerTaken h v s).lane h).state = (if v = 1 then 7 else 8) ∧
    ((powerTaken h v s).lane h).power = v ∧ ((powerTaken h v s).lane h).powerReq = none := by
  unfold powerTaken
  extract_lets dropped
  rw [State.setLane_lane]
  exact ⟨rfl, rfl, congrArg Lane.powerReq (dropRequests_lane h s)⟩

/-! ### The commands of an active link -/

section
variable {dt : Nat} {head : Fin 64} {s : State}

theorem exec_traceBlockDiscard_fault {sync : Option Bool} {payload : BitVec 64} {k : Nat} (hfault : blockFault sync payload = some k) :
    exec (.traceBlockDiscard dt head ⟨sync, payload⟩) s = .next (laneStat head k 1 (tick dt s)) := by
  change execTraceBlockDiscard dt head ⟨sync, payload⟩ s = _
  unfold execTraceBlockDiscard
  dsimp only
  rw [hfault]
  rfl

/-- R343, R344: a block that the receiver takes is not counted. -/
theorem exec_traceBlockDiscard_taken {sync : Option Bool} {payload : BitVec 64} (htaken : blockFault sync payload = none) :
    exec (.traceBlockDiscard dt head ⟨sync, payload⟩) s = .next (tick dt s) := by
  change execTraceBlockDiscard dt head ⟨sync, payload⟩ s = _
  unfold execTraceBlockDiscard
  dsimp only
  rw [htaken]
  rfl

section
variable {q : BridgeReq} (hasked : (s.lane head).requests.find? (fun x => x.tag == q.tag) = some q)
include hasked

theorem exec_configResponse (status : Nat) (data : BitVec 32) :
    exec (.configResponse dt head q.tag status data) s = .next (takeResponse head q status data (tick dt s)) := by
  change execConfigResponse dt head q.tag status data s = _
  unfold execConfigResponse
  dsimp only
  rw [tick_lane, hasked]
  rfl

theorem exec_configTimeout (hdue : q.sentAt + 100 * us ≤ s.time.now + dt) (hsent : unsent s head q.tag = false) :
    exec (.configTimeout dt head q.tag) s = .next (requestLost head q (tick dt s)) := by
  have hguard : (decide (q.sentAt + 100 * us ≤ (tick dt s).time.now) && !unsent (tick dt s) head q.tag) = true := by
    have hsent' : unsent (tick dt s) head q.tag = false := hsent
    rw [hsent', Bool.and_eq_true]
    exact ⟨decide_eq_true hdue, rfl⟩
  change execConfigTimeout dt head q.tag s = _
  unfold execConfigTimeout
  dsimp only
  rw [tick_lane, hasked]
  exact guardOk_of hguard _ _
end

variable (hactive : laneActive s head = true)
include hactive

theorem exec_latencyMeasure (hrests : (s.lane head).measuring = false) (hdue : (s.lane head).measuredAt + sec ≤ s.time.now + dt) :
    exec (.latencyMeasure dt head) s = .next (startMeasure head (tick dt s)) := by
  refine guardOk_of ?_ _ _
  rw [tick_lane, hrests, Bool.and_eq_true, Bool.and_eq_true]
  exact ⟨⟨hactive, rfl⟩, decide_eq_true hdue⟩

theorem exec_lockLost (hdeep : deepPending s head = false) :
    exec (.lockLost dt head) s = .next (startRetrain head 1 (tick dt s)) := by
  refine guardOk_of ?_ _ _
  have hdeep' : deepPending (tick dt s) head = false := hdeep
  rw [hdeep', Bool.and_eq_true]
  exact ⟨hactive, rfl⟩

theorem exec_errorLimit (hdeep : deepPending s head = false) {failures : Nat} (hlimit : cfgN s 0x7051 0 < failures) :
    exec (.errorLimit dt head failures) s = .next (startRetrain head 2 (tick dt s)) := by
  refine guardOk_of ?_ _ _
  have hdeep' : deepPending (tick dt s) head = false := hdeep
  rw [hdeep', Bool.and_eq_true, Bool.and_eq_true]
  exact ⟨⟨hactive, rfl⟩, decide_eq_true hlimit⟩

theorem exec_eyeRead (hdue : ∀ x, (s.lane head).eyeReadAt = some x → x + sec ≤ s.time.now + dt) (width height : Nat) (adapt : Option (List Byte)) :
    exec (.eyeRead dt head ⟨width, height⟩ adapt) s =
      .next (adapt.elim id (wantAdaptation head) (readEye head width height (tick dt s))) := by
  refine guardOk_of ?_ (fun s => adapt.elim id (wantAdaptation head) (readEye head width height s)) _
  rw [Bool.and_eq_true]
  refine ⟨hactive, ?_⟩
  split
  next x hread => exact decide_eq_true (hdue x hread)
  · rfl

theorem exec_claimSend {mode : Nat} (hmode : claimMode s head = some mode) (hruns : s.faults.stopped = false) :
    exec (.claimSend dt head) s = .next (emit (.claim head mode s.pair.epoch) (tick dt s)) := by
  have hmode' : claimMode (tick dt s) head = some mode := hmode
  have hguard : (laneActive (tick dt s) head && !(tick dt s).faults.stopped) = true := by
    rw [tick_faults, hruns, Bool.and_eq_true]
    exact ⟨hactive, rfl⟩
  change execClaimSend dt head s = _
  unfold execClaimSend
  dsimp only
  rw [hmode']
  exact guardOk_of hguard _ _

theorem exec_claimStatus (owner reason epoch : Nat) :
    exec (.claimStatus dt head owner reason epoch) s = .next (takeClaim head owner reason epoch (tick dt s)) := guardOk_of hactive _ _
end

/-- Settles O46: an event of an active link by the step that its premise lets run; a bridge's answer by what its request was for. -/
theorem activeLinksAndBridges : Obligations.ActiveLinksAndBridges := by
  refine ⟨fun dt head s => ⟨?latency, ?retrain, ?discard, ?eye, ?claim, ?claimed⟩, fun dt head q w s hasked hidle => ⟨?host, ?power, ?seen, ?lost⟩⟩
  case latency =>
    intro hactive hrests hdue
    obtain ⟨hmeasuring, hat, hothers⟩ := startMeasure_lane head (tick dt s)
    exact ⟨_, exec_latencyMeasure hactive hrests hdue, hmeasuring, hat, startMeasure_train head (tick dt s), hothers⟩
  case retrain =>
    intro hactive hdeep
    refine ⟨⟨_, exec_lockLost hactive hdeep, startRetrain_lane head 1 (tick dt s)⟩, fun failures hlimit => ?_⟩
    obtain ⟨hstate, -, -, hleft, hcounted⟩ := startRetrain_lane head 2 (tick dt s)
    exact ⟨_, exec_errorLimit hactive hdeep hlimit, hstate, hleft, hcounted⟩
  case discard =>
    refine fun sync payload => ⟨fun k hfault => ⟨_, exec_traceBlockDiscard_fault hfault, laneStat_stats .., ?_⟩, exec_traceBlockDiscard_taken⟩
    rw [laneStat, State.setLane_lane]; rfl
  case eye =>
    intro width height adapt hactive hdue
    refine ⟨_, exec_eyeRead hactive hdue width height adapt, ?_⟩
    obtain ⟨heye, hread⟩ := readEye_lane head width height (tick dt s)
    obtain ⟨heye', hread', hwanted⟩ := wantAdaptation_lane head adapt (readEye head width height (tick dt s))
    exact ⟨heye'.trans heye, hread'.trans hread, hwanted⟩
  case claim =>
    intro mode hmode hactive hruns
    exact ⟨_, exec_claimSend hactive hmode hruns, withTag_mem_emit (.claim head mode s.pair.epoch) _, emit_quiet ..⟩
  case claimed =>
    intro owner reason epoch hactive hwheel hheld
    exact ⟨_, exec_claimStatus hactive owner reason epoch, takeClaim_noted (s := tick dt s) hwheel hheld⟩
  case host =>
    intro status data hwhy hhandle hrun hword
    refine ⟨_, exec_configResponse hasked status data, ?_⟩
    obtain ⟨_, _, _, hlane, hproto⟩ := answerNoted_spec (s := tick dt s) hidle q status data
    rw [takeResponse_host hwhy hhandle, completeWord_lane, hlane]
    exact ⟨completeWord_completed hproto hrun hword _ _, rfl⟩
  case power =>
    intro data v hwhy hpower hv
    refine ⟨_, exec_configResponse hasked 0 data, ?_⟩
    rw [takeResponse_power (s := tick dt s) hwhy hpower hv]
    exact powerTaken_lane ..
  case seen =>
    intro data hwhy
    refine ⟨_, exec_configResponse hasked 0 data, ?_⟩
    rw [takeResponse_eye hwhy]
    obtain ⟨_, hjudged⟩ := judgeEye_lane head 1 (data.toNat / 65536) (data.toNat % 65536) (State.setLane _ head _)
    rw [hjudged, State.setLane_lane]
    rfl
  case lost =>
    intro hdue hsent hhandle hrun hword
    refine ⟨_, exec_configTimeout hasked hdue hsent, ?_⟩
    have hidle' : (((tick dt s).setLane head
        { s.lane head with powerReq := if q.why = 1 then none else (s.lane head).powerReq }).lane head).waiting = [] := by
      rw [State.setLane_lane]; exact hidle
    rw [requestLost_host hhandle, completeWord_lane, tick_lane, freeRequest_eq hidle', State.setLane_lane, State.setLane_lane]
    refine ⟨completeWord_completed ?_ hrun hword _ _, rfl⟩
    rfl

end Sys2Proof.Machine

/-! ## Proofs of the family "rein-back"

What a wheeler follows of its lead (`State.followed`), each operation that leaves it alone by one equation, and what each mirrored record makes of
it. -/

namespace Sys2Proof.Machine

/-! ### What a chip follows -/

/-- What a wheeler follows of its lead (R389, R472, R475 to R477): the axis and W, the commits by generation and line and those that wait for their
turn, the written objects, the rein-back and the grandmaster. -/
structure Followed where
  axis : Axis
  w : Int
  known : Bool
  gen : BitVec 32
  commits : List (BitVec 32 × Int)
  early : List Commit
  cfg : Tab (Option CfgVal)
  reinState : Nat
  reinTarget : Int
  wOld : Option Int
  stopRein : Bool
  grandmaster : BitVec 64

/-- Generation and line of each commit. -/
def commitLines (cs : List Commit) : List (BitVec 32 × Int) := cs.map (fun c => (c.gen, c.line))

def State.followed (s : State) : Followed where
  axis := s.axis
  w := s.gait.w
  known := s.pair.kKnown
  gen := s.proto.gen
  commits := commitLines s.proto.commits
  early := s.pair.early
  cfg := s.proto.cfg
  reinState := s.rein.state
  reinTarget := s.rein.target
  wOld := s.rein.wOld
  stopRein := s.faults.stopRein
  grandmaster := s.time.grandmaster

theorem mem_commitLines {cs : List Commit} {g : BitVec 32} {L : Int} : (g, L) ∈ commitLines cs ↔ ∃ x ∈ cs, x.gen = g ∧ x.line = L := by
  simp [commitLines]

/-- What only the host's side sees changes nothing of it. -/
theorem Quiet.followed {s t : State} (h : Quiet s t) : t.followed = s.followed := by
  have hproto : t.proto.gen = s.proto.gen ∧ t.proto.commits = s.proto.commits ∧ t.proto.cfg = s.proto.cfg := by
    rw [h.proto]
    exact ⟨rfl, rfl, rfl⟩
  simp only [State.followed, h.axis, h.gait, h.pair, h.rein, h.faults, h.time, hproto]

theorem ite_followed {c : Prop} [Decidable c] {f : Followed} {t u : State} (ht : t.followed = f) (hu : u.followed = f) :
    (if c then t else u).followed = f := by
  split <;> assumption

theorem forAll_followed {α : Type} {f : α → State → State} (h : ∀ a s, (f a s).followed = s.followed) (l : List α) (s : State) :
    (forAll l f s).followed = s.followed :=
  forAll_induct (P := fun t => t.followed = s.followed) (fun a t ht => (h a t).trans ht) l s rfl

theorem raise_followed (c v : Nat) (d : BitVec 96) (s : State) (u : BitVec 32) (l : Option Int) (n : Nat) :
    (raise c v d s u l n).followed = s.followed := (raise_quiet ..).followed
theorem ev_followed (c : Nat) (d : BitVec 96) (s : State) (u : BitVec 32) (l : Option Int) (n : Nat) : (ev c d s u l n).followed = s.followed :=
  (ev_quiet ..).followed

section
variable (s : State) (n : Nat)
theorem setRow_followed (x : Row) : (s.setRow n x).followed = s.followed := rfl
theorem setEngine_followed (x : Engine) : (s.setEngine n x).followed = s.followed := rfl
theorem setCamPort_followed (x : CamPort) : (s.setCamPort n x).followed = s.followed := rfl
theorem setSensor_followed (x : Sensor) : (s.setSensor n x).followed = s.followed := rfl
theorem emit_followed (o : Output) : (emit o s).followed = s.followed := rfl
end

/-! The pair link and the job (R122, R467, R471) -/

theorem sendRecord_followed (b : PairBody) (s : State) : (sendRecord b s).followed = s.followed := rfl

theorem mirror_followed (b : PairBody) (s : State) : (mirror b s).followed = s.followed := ite_followed rfl rfl

theorem setPairState_followed (st reason : Nat) (s : State) : (setPairState st reason s).followed = s.followed :=
  ite_followed rfl (ev_followed ..)

theorem holdWheeler_followed (reason : Nat) (s : State) : (holdWheeler reason s).followed = s.followed := by
  unfold holdWheeler
  refine ite_followed rfl ((setPairState_followed ..).trans (ite_followed ?_ rfl))
  exact forAll_followed (fun _ t => emit_followed t _) _ s

theorem setJob_followed (j : Nat) (s : State) : (setJob j s).followed = s.followed := ite_followed rfl (ev_followed ..)

theorem addDefect_followed (d : Defect) (s : State) : (addDefect d s).followed = s.followed := mirror_followed ..

/-! Faults of class 1, the speed limit and the capacity (R133, R287, R546) -/

theorem syncClass_followed (code : Nat) (unit : BitVec 32) (s : State) : (syncClass code unit s).followed = s.followed :=
  ite_followed rfl (ite_followed rfl (raise_followed ..))

theorem causeGone_followed (code : Nat) (unit : BitVec 32) (s : State) (only : Option Nat) : (causeGone code unit s only).followed = s.followed :=
  syncClass_followed ..

theorem addFault_one_followed (code level : Nat) (unit : BitVec 32) (s : State) (respond : Bool) (trigger : Option Nat) (silent exact_ : Bool) :
    (addFault code 1 level unit s respond trigger silent exact_).followed = s.followed := syncClass_followed ..

theorem limitChanged_followed (s : State) : (limitChanged s).followed = s.followed := by
  have hjudge : ∀ t, (judgeSpeed t).followed = t.followed := fun t => ite_followed rfl rfl
  have hupdate : (updateLimit s).followed = s.followed := by
    unfold updateLimit
    exact ite_followed (ev_followed ..) (ite_followed rfl (ite_followed rfl rfl))
  exact (hjudge _).trans hupdate

theorem updateCapacity_followed (s : State) : (updateCapacity s).followed = s.followed := by
  unfold updateCapacity
  extract_lets c top screen published raised faulted
  have hraised : raised.followed = s.followed := raise_followed ..
  have hfaulted : faulted.followed = s.followed := ite_followed ((addFault_one_followed ..).trans hraised) hraised
  exact ite_followed rfl ((limitChanged_followed _).trans hfaulted)

/-! Accepting a commit (R62 to R64, R276, R301) -/

theorem runFaults_followed (s : State) : (runFaults s).followed = s.followed :=
  forAll_followed (fun _ _ => ite_followed rfl (causeGone_followed ..)) _ s

theorem runAssignment_followed (L : Int) (s : State) : (runAssignment L s).followed = s.followed := by
  unfold runAssignment
  extract_lets e plan freed screen cleared numbered placed faultless capacity
  have hfreed : freed.followed = s.followed := forAll_followed (fun _ t => setEngine_followed t _ _) _ s
  have hplaced : placed.followed = s.followed := (forAll_followed (fun _ t => setEngine_followed t _ _) _ cleared).trans hfreed
  have hfaultless : faultless.followed = s.followed := (forAll_followed (fun _ _ => causeGone_followed ..) _ placed).trans hplaced
  have hcapacity : capacity.followed = s.followed := (updateCapacity_followed _).trans hfaultless
  exact ite_followed hcapacity ((causeGone_followed ..).trans hcapacity)

theorem reportStates_followed (old : State) (c : Commit) (s : State) : (reportStates old c s).followed = s.followed := by
  unfold reportStates
  refine forAll_followed (fun h t => ?_) _ s
  dsimp only
  split
  · rfl
  · exact ev_followed ..

theorem reportUncovered_followed (old : State) (c : Commit) (s : State) : (reportUncovered old c s).followed = s.followed := by
  unfold reportUncovered
  extract_lets planes runs reported
  have hreported : reported.followed = s.followed := forAll_followed (fun _ _ => ev_followed ..) _ s
  exact ite_followed rfl (ite_followed ((ev_followed ..).trans hreported) hreported)

theorem acceptAction_followed (a : Option Nat) (L : Int) (s : State) : (acceptAction a L s).followed = s.followed := by
  unfold acceptAction
  split <;> rfl

/-- R62 to R64: an accepted commit joins the commits and gives the generation; nothing else is taken over with it. -/
theorem acceptCommit_followed (c : Commit) (ws : List ObjWrite) (s : State) : (acceptCommit c ws s).followed =
    { s.followed with gen := c.gen, commits := s.followed.commits ++ [(c.gen, c.line)] } := by
  unfold acceptCommit
  extract_lets old from' a acted full accepted pages gait paged noz dirty noz' planted reported ran
  have hacted : acted.followed = s.followed := acceptAction_followed a c.line s
  have hfull : full.gen = c.gen ∧ full.line = c.line := by
    unfold full
    split <;> exact ⟨rfl, rfl⟩
  have haccepted : accepted.followed = { s.followed with gen := c.gen, commits := s.followed.commits ++ [(c.gen, c.line)] } := by
    rw [← hacted, ← hfull.1, ← hfull.2]
    simp [accepted, withCommit, State.followed, commitLines]
  have hplanted : planted.followed = accepted.followed := ite_followed rfl rfl
  have hreported : reported.followed = accepted.followed :=
    (reportUncovered_followed ..).trans ((reportStates_followed ..).trans hplanted)
  have hran : ran.followed = accepted.followed :=
    ite_followed (ite_followed ((runAssignment_followed ..).trans ((runFaults_followed _).trans hreported)) ((runFaults_followed _).trans hreported))
      hreported
  exact (mirror_followed ..).trans (hran.trans haccepted)

/-! Pages that are released (R150, R153) -/

theorem sendAck_followed (n : Nat) (s : State) : (sendAck n s).followed = s.followed := by
  unfold sendAck
  extract_lets r v limit
  split <;> rfl

theorem updateRelease_followed (n : Nat) (s : State) : (updateRelease n s).followed = s.followed := by
  unfold updateRelease
  extract_lets r0 dead r open' point rel limit rises r' noted
  have hnoted : noted.followed = s.followed := ite_followed (ite_followed rfl rfl) rfl
  exact ite_followed ((sendAck_followed n noted).trans hnoted) hnoted

theorem releasePage_followed (page : BitVec 32) (s : State) : (releasePage page s).followed = s.followed := by
  refine forAll_followed (fun n t => ?_) ringNums s
  show (releaseWhere n (fun x => x.page == page) t).followed = t.followed
  exact ite_followed rfl (updateRelease_followed ..)

/-! Frames that are cut (R400, R401) -/

theorem fireLatency_followed (pc lat : Nat) (s : State) : (fireLatency pc lat s).followed = s.followed := by
  unfold fireLatency
  extract_lets v due _ raised
  exact ite_followed (ev_followed ..) rfl

theorem countAccess_followed (cls u : Nat) (write : Bool) (s : State) : (countAccess cls u write s).followed = s.followed := by
  unfold countAccess countRequests
  extract_lets b w was lat slow acts stats₁ stats _ counted
  exact ite_followed (fireLatency_followed _ _ counted) rfl

theorem writeUnits_followed (cls u : Nat) (bytes : List Byte) (s : State) : (writeUnits cls u bytes s).followed = s.followed := by
  have hrewrite : ∀ v t, (noteRewrite v t).followed = t.followed := fun v t => ite_followed rfl rfl
  unfold writeUnits
  extract_lets _ stored
  refine forAll_followed (fun i t => ?_) _ stored
  exact (hrewrite _ _).trans ((countAccess_followed ..).trans rfl)

theorem zeroFill_followed (f : Frame) (dtype : Nat) (s : State) : (zeroFill f dtype s).followed = s.followed :=
  ite_followed rfl (forAll_followed (fun _ _ => writeUnits_followed ..) _ s)

theorem frameFault_followed (f : Frame) (s : State) : (frameFault f s).followed = s.followed := ite_followed rfl (ev_followed ..)

theorem assignSlices_followed (s : State) : (assignSlices s).followed = s.followed := by
  unfold assignSlices
  extract_lets fixed
  refine forAll_followed (fun k t => ?_) _ s
  split <;> rfl

theorem noteBacklog_followed (s : State) : (noteBacklog s).followed = s.followed := ite_followed rfl (ite_followed (ev_followed ..) rfl)

theorem closeFrame_followed (n : Nat) (k : BitVec 32) (more : List Nat) (s : State) : (closeFrame n k more s).followed = s.followed := by
  unfold closeFrame
  split
  · rfl
  · extract_lets f₁ none' f₂ changed _ logged filled faulted done
    have hfaulted : faulted.followed = s.followed := (frameFault_followed ..).trans (zeroFill_followed ..)
    have hdone : done.followed = s.followed := ite_followed ((ev_followed ..).trans hfaulted) hfaulted
    exact ite_followed rfl ((noteBacklog_followed _).trans ((assignSlices_followed _).trans hdone))

theorem camerasChanged_followed (c : Commit) (s : State) : (camerasChanged c s).followed = s.followed := by
  unfold camerasChanged
  extract_lets old new off cut ports aligned
  have hcut : cut.followed = s.followed := forAll_followed (fun _ _ => closeFrame_followed ..) _ s
  have hports : ports.followed = s.followed := (forAll_followed (fun _ t => setCamPort_followed t _ _) off cut).trans hcut
  have haligned : aligned.followed = s.followed := (forAll_followed (fun _ t => setSensor_followed t _ _) _ ports).trans hports
  refine Eq.trans ?_ haligned
  unfold takeRequests
  extract_lets subs e
  refine ite_followed rfl (forAll_followed (fun p t => forAll_followed (fun r u => ?_) _ t) _ aligned)
  exact ite_followed rfl rfl

/-! A line passes the datum (R63, R65, R122) -/

theorem trigMiss_followed (n m : Nat) (s : State) : (trigMiss n m s).followed = s.followed :=
  ite_followed rfl (ite_followed (ev_followed ..) rfl)

theorem trigChanged_followed (n : Nat) (s : State) : (trigChanged n s).followed = s.followed := by
  unfold trigChanged
  extract_lets e t placed k
  split
  · exact ite_followed (trigMiss_followed ..) rfl
  · exact trigMiss_followed ..
  · rfl

theorem updateSplice_followed (f : Splice → Splice) (s : State) : (updateSplice f s).followed = s.followed := by
  unfold updateSplice
  split <;> rfl

theorem reinAbort_followed (L : Int) (s : State) : (reinAbort L s).followed = s.followed := by
  unfold reinAbort
  extract_lets left
  have hleft : left.followed = s.followed := forAll_followed (fun _ t => setRow_followed t _ _) _ s
  exact ite_followed hleft ((updateSplice_followed ..).trans hleft)

theorem abortPasses_followed (L : Int) (s : State) : (abortPasses L s).followed = s.followed := by
  have hlog : ∀ p t, (logUnfired L p t).followed = t.followed := fun p t =>
    ite_followed rfl (forAll_followed (fun _ _ => addDefect_followed ..) _ t)
  unfold abortPasses
  extract_lets hit logged gone pages _ cut
  have hlogged : logged.followed = s.followed := forAll_followed hlog hit s
  exact (reinAbort_followed ..).trans ((forAll_followed (fun _ _ => releasePage_followed ..) gone cut).trans hlogged)

theorem passAction_followed (a : Option Nat) (L : Int) (s : State) : (passAction a L s).followed = s.followed := by
  unfold passAction
  split
  · exact setJob_followed ..
  · exact ite_followed (setJob_followed ..) rfl
  · exact abortPasses_followed ..
  · rfl

theorem noteStored_followed (i : Nat) (s : State) : (noteStored i s).followed = s.followed := ite_followed rfl rfl

theorem passCommit_followed (g : BitVec 32) (s : State) : (passCommit g s).followed = s.followed := by
  unfold passCommit
  split
  · rfl
  next c _ =>
    extract_lets _ marked acted cameras noted
    have hmarked : marked.followed = s.followed := by
      have hlines : commitLines marked.proto.commits = commitLines s.proto.commits := by
        simp only [commitLines, marked, List.map_map]
        refine List.map_congr_left fun x _ => ?_
        simp only [Function.comp_apply]
        split <;> rfl
      simp only [State.followed, hlines]
      rfl
    have hacted : acted.followed = s.followed := (passAction_followed ..).trans hmarked
    have hcameras : cameras.followed = s.followed :=
      (camerasChanged_followed ..).trans ((forAll_followed trigChanged_followed _ acted).trans hacted)
    have hnoted : noted.followed = s.followed := (forAll_followed (fun _ _ => noteStored_followed ..) _ cameras).trans hcameras
    exact ite_followed ((limitChanged_followed _).trans hnoted) hnoted

/-- R63, R65: commits whose lines pass the datum leave what has been taken over. -/
theorem passCommits_followed (s : State) : (passCommits s).followed = s.followed := forAll_followed passCommit_followed _ s

/-! ### A record that arrives (R471) -/

theorem recordState_followed (dt : Nat) (h : PairHdr) (s : State) : (recordState dt h s).followed = s.followed :=
  (heardFrom_quiet h (tick dt s)).followed

/-- What a new record is applied to differs from the state before it in the pair link and on the host's side alone. -/
theorem recordState_quiet (dt : Nat) (h : PairHdr) (s : State) :
    Quiet { tick dt s with pair := (recordState dt h s).pair } (recordState dt h s) :=
  { heardFrom_quiet h (tick dt s) with pair := rfl }

theorem recordState_isWheeler (dt : Nat) (h : PairHdr) (s : State) : isWheeler (recordState dt h s) = isWheeler s := by
  rw [isWheeler, isWheeler, recordState_state]

/-- R471, R473: a new record is applied, and acknowledged where it asks for it. -/
theorem FreshRecord.applied {h : PairHdr} {s : State} (fresh : FreshRecord h s) (dt : Nat) (f : State → State) :
    ∃ txSeq model, Machine.recordOk dt h f s = .next { f (recordState dt h s) with
      pair := { (f (recordState dt h s)).pair with txSeq := txSeq }, model := model } := by
  obtain ⟨model, hback⟩ := ackBack_eq h (f (recordState dt h s))
  exact ⟨_, model, by rw [fresh.recordOk, hback]⟩

theorem ackBack_quiet (h : PairHdr) (s : State) : Quiet { s with pair := (ackBack h s).pair } (ackBack h s) := by
  unfold ackBack
  split
  · exact emit_quiet ..
  · exact .refl s

/-- A record that changes nothing here is heard and acknowledged all the same, and that is all. -/
theorem FreshRecord.ignored {h : PairHdr} {s : State} (fresh : FreshRecord h s) (dt : Nat) {f : State → State}
    (hf : f (recordState dt h s) = recordState dt h s) :
    ∃ t, Machine.recordOk dt h f s = .next t ∧ Quiet { tick dt s with pair := t.pair } t := by
  refine ⟨ackBack h (recordState dt h s), by rw [fresh.recordOk, hf], (ackBack_quiet h _).trans ?_⟩
  exact (recordState_quiet dt h s).withPair fun _ => (ackBack h (recordState dt h s)).pair

/-! ### COMMIT (R476) -/

theorem dropChange_followed (c : Commit) (s : State) : (dropChange c s).followed = s.followed := by
  unfold dropChange
  dsimp only
  split <;> rfl

/-- R476: the commit whose turn it is leaves those that wait, and joins those accepted. -/
theorem applyCommitsInOrder_next {c : Commit} {s : State} (hturn : s.pair.early.find? (fun c => c.gen == s.proto.gen + 1) = some c) :
    (applyCommitsInOrder 1 s).followed = { s.followed with
      early := s.pair.early.filter (fun x => x.gen != c.gen), gen := c.gen, commits := s.followed.commits ++ [(c.gen, c.line)] } := by
  rw [applyCommitsInOrder, hturn]
  dsimp only
  rw [applyCommitsInOrder, passCommits_followed, acceptCommit_followed, dropChange_followed]
  rfl

/-- R476: a standby takes over the commit that follows its last one. -/
theorem takeCommit_inTurn {c : Commit} {s : State} (hstate : s.pair.state = 5) (hearly : s.pair.early = []) (hgen : c.gen = s.proto.gen + 1) :
    (takeCommit c [] s).followed = { s.followed with gen := c.gen, commits := s.followed.commits ++ [(c.gen, c.line)], early := [] } := by
  unfold takeCommit
  extract_lets full _ queued
  have hqueued : queued.pair.early = [full] := by
    show s.pair.early ++ [full] = [full]
    rw [hearly, List.nil_append]
  have hturn : queued.pair.early.find? (fun x => x.gen == queued.proto.gen + 1) = some full := by
    rw [hqueued]
    exact List.find?_cons_of_pos (beq_iff_eq.mpr hgen)
  have hdone : queued.pair.early.filter (fun x => x.gen != full.gen) = [] := by rw [hqueued]; simp
  have hstate' : queued.pair.state = 5 := hstate
  rw [if_neg (by rw [hstate]; decide), if_neg (by rw [hstate']; rintro ⟨⟨⟩, -⟩), hqueued, List.length_singleton,
    applyCommitsInOrder_next hturn, hdone]
  rfl

/-- R476, R481: before the snapshot a commit waits. -/
theorem takeCommit_waits {s : State} (hstate : s.pair.state = 4) (hsnapshot : s.pair.snapshot = false) (c : Commit) :
    (takeCommit c [] s).pair.early = s.pair.early ++ [c] ∧ (takeCommit c [] s).proto = s.proto := by
  unfold takeCommit
  extract_lets full _ queued
  have hfull : full = c := by simp [full]
  have hsnapshot' : queued.pair.snapshot = false := hsnapshot
  have hqueued : queued.pair.state = 4 ∧ (!queued.pair.snapshot) = true := ⟨hstate, by rw [hsnapshot']; rfl⟩
  rw [if_neg (by rw [hstate]; decide), if_pos hqueued]
  exact ⟨by rw [← hfull], rfl⟩

/-! ### WRITE (R475) -/

/-- Which objects are status words depends on no state. -/
theorem clearFlags_none {i j : Nat} {m : BitVec 32} {s : State} (h : clearFlags i j m s = none) (m' : BitVec 32) (t : State) :
    clearFlags i j m' t = none := by
  unfold clearFlags at h ⊢
  split at h
  case h_9 => rfl
  all_goals exact absurd h (Option.some_ne_none _)

/-- Nor does which objects hold no value. -/
theorem writeOnly_none {i j : Nat} {n : Int} {s : State} (h : writeOnly i j n s = none) (n' : Int) (t : State) : writeOnly i j n' t = none := by
  unfold writeOnly at h ⊢
  split at h
  case h_11 => rfl
  all_goals exact absurd h (Option.some_ne_none _)

theorem sendMgmt_followed (h : Nat) (o : Output) (s : State) : (sendMgmt h o s).followed = s.followed := by
  unfold sendMgmt
  split <;> rfl

theorem queueMgmt_followed (h : Nat) (o : Output) (s : State) : (queueMgmt h o s).followed = s.followed := by
  unfold queueMgmt flushMgmt
  extract_lets _ queued
  refine ite_followed ((forAll_followed (sendMgmt_followed h) _ _).trans rfl) (ite_followed rfl ?_)
  split
  · rfl
  · exact (sendMgmt_followed ..).trans rfl

theorem sendConfig_followed (h : Nat) (write : Bool) (addr : Nat) (data : BitVec 32) (handle : Option (BitVec 16)) (why : Nat) (s : State) :
    (sendConfig h write addr data handle why s).followed = s.followed := by
  unfold sendConfig sendWaiting
  extract_lets x asked
  split
  · exact (queueMgmt_followed ..).trans rfl
  · rfl

theorem laneWake_cfg (h reason : Nat) (s : State) : (laneWake h reason s).proto.cfg = s.proto.cfg := by
  unfold laneWake
  extract_lets x
  split
  · obtain ⟨gait, fire, hactive⟩ := enterActive_eq h (s.setLane h { x with state := 6, power := 0 })
    rw [hactive]; rfl
  · split <;> rfl

theorem lanePower_cfg (h v : Nat) (s : State) : (lanePower h v s).proto.cfg = s.proto.cfg := by
  unfold lanePower
  split
  · exact laneWake_cfg ..
  · split
    · exact congrArg Followed.cfg (sendConfig_followed h true 0x00C (BitVec.ofNat 32 v) none 1 (s.setLane h { s.lane h with powerReq := some v }))
    · rfl

theorem laneDown_followed (h : Nat) (s : State) : (laneDown h s).followed = s.followed := by
  unfold laneDown laneHandle
  extract_lets dropped down
  have hdropped : dropped.followed = s.followed := forAll_followed (fun _ _ => (completeWord_quiet ..).followed) _ _
  split
  · exact hdropped
  · exact (completeWord_quiet ..).followed.trans hdropped

theorem ringEnable_cfg (on : Bool) (n : Nat) (s : State) : (if on then enableRing n s else disableRing n s).proto.cfg = s.proto.cfg := by
  have hcapacity : ∀ t, (updateCapacity t).proto.cfg = t.proto.cfg := fun t => congrArg Followed.cfg (updateCapacity_followed t)
  unfold enableRing disableRing
  extract_lets r z r'
  split
  · split
    · rfl
    · exact hcapacity _
  · exact hcapacity _

theorem reportGroups_cfg (j : Nat) (old s : State) : (reportGroups j old s).proto.cfg = s.proto.cfg := by
  unfold reportGroups
  extract_lets n port reported
  have hreported : reported.proto.cfg = s.proto.cfg := by unfold reported; split <;> rfl
  split <;> exact hreported

/-- R475: what a mirrored write does at once changes no written object. -/
theorem writeEffect_cfg (i j : Nat) (n : Int) (old s : State) : (writeEffect false i j n old s).proto.cfg = s.proto.cfg := by
  unfold writeEffect
  split
  case h_1 => unfold setInk; split <;> rfl
  case h_2 => exact reportGroups_cfg ..
  case h_3 => rfl
  case h_4 => rfl
  case h_5 => exact congrArg Followed.cfg (limitChanged_followed s)
  case h_6 => simpa using ringEnable_cfg (decide (n = 1)) j s
  case h_7 => rw [(partitionChanged_spec ..).1]
  case h_8 =>
    unfold setTraceEnable
    split
    · split <;> rfl
    · exact congrArg Followed.cfg (laneDown_followed j s)
  case h_9 => exact lanePower_cfg ..
  case h_10 => exact (roleWritten_spec s).1
  case h_11 => exact (roleWritten_spec s).1
  case h_12 => exact (roleWritten_spec s).1
  case h_13 => rw [decidePorts_proto]
  case h_14 => rw [decidePorts_proto]
  case h_15 => rw [decidePorts_proto]
  case h_16 => rfl

/-- R475: a mirrored write of an object that holds a value. -/
theorem takeWrites_stored {w : ObjWrite} {s : State} (hflags : clearFlags w.idx w.sub 0 s = none) (honly : writeOnly w.idx w.sub 0 s = none)
    (t : State) : (baseVal (takeWrites [w] t) w.idx w.sub).1 = storedValue w.idx w.val := by
  have htaken : takeWrites [w] t = noteStored w.idx (writeEffect false w.idx w.sub (Val.int w.val) t
      (setCfg t w.idx w.sub (storedValue w.idx w.val) (datumGen t))) := by
    show applyWrite false w.idx w.sub w.val t = _
    unfold applyWrite
    dsimp only
    rw [clearFlags_none hflags, writeOnly_none honly]
  rw [htaken, baseVal_of_cfg ((congrArg Proto.cfg (noteStored_proto ..)).trans (writeEffect_cfg ..)), baseVal_setCfg]

/-! ### BLOCK (R475) -/

theorem takeBlock_nozzles {b : BlockRec} {first count : Nat} {s : State} (hstate : s.pair.state = 5) (hop : b.op = .nozzleWrite first count)
    (hblocks : s.pair.blocks = []) : takeBlock b s =
      { s with pair := { s.pair with blocks := [⟨b.handle, b.op, putData [] b.offset b.data⟩] } } := by
  unfold takeBlock
  rw [if_neg (by rw [hstate]; decide), hop, hblocks]
  rfl

/-! ### AXIS (R477) -/

/-- Changes of channels change nothing else. -/
theorem forAll_chans_eq {α : Type} {f : α → State → State} (h : ∀ a s, ∃ chans, f a s = { s with axis := { s.axis with chans := chans } })
    (l : List α) (s : State) : ∃ chans, forAll l f s = { s with axis := { s.axis with chans := chans } } :=
  forAll_induct (P := fun t => ∃ chans, t = { s with axis := { s.axis with chans := chans } })
    (fun a t ⟨chans, ht⟩ => by obtain ⟨chans', h'⟩ := h a t; exact ⟨chans', by rw [h', ht]⟩) l s ⟨s.axis.chans, rfl⟩

theorem setMark_followed (m : Nat × Option Int) (s : State) : (setMark m s).followed = s.followed := by
  unfold setMark
  exact ite_followed rfl (ite_followed rfl rfl)

/-- R477: the wheeler takes over the source, W and the validity of the lead's position, and k is known. -/
theorem takeAxis_spec {a : AxisRec} {s : State} (hwheel : isWheeler s = true) (hkind : a.kind ≠ 2) :
    (takeAxis a s).axis.source = a.source ∧ (takeAxis a s).gait.w = a.w ∧ (takeAxis a s).pair.kKnown = true ∧
      (a.valid = true → (takeAxis a s).axis.state = 1) := by
  unfold takeAxis
  rw [if_neg (by rw [hwheel]; decide), if_neg hkind]
  extract_lets old k moved L _ placed _ _ _ aligned armed marked raised passed _
  obtain ⟨chans, harmed⟩ : ∃ chans, armed = { aligned with axis := { aligned.axis with chans := chans } } := by
    refine forAll_chans_eq (fun c t => ?_) _ aligned
    split
    · exact ⟨_, rfl⟩
    · exact ⟨_, rfl⟩
  have hmarked : marked.followed = armed.followed := forAll_followed setMark_followed _ armed
  have hraised : raised.followed = armed.followed := ite_followed ((ev_followed ..).trans hmarked) hmarked
  have hpassed : passed.followed = armed.followed := (passCommits_followed _).trans hraised
  have htaken : ∀ t : State, t.followed = armed.followed → t.axis.source = a.source ∧ t.gait.w = a.w ∧ t.pair.kKnown = true ∧
      (a.valid = true → t.axis.state = 1) := by
    intro t ht
    have haxis : t.axis = armed.axis := congrArg Followed.axis ht
    have hw : t.gait.w = armed.gait.w := congrArg Followed.w ht
    have hknown : t.pair.kKnown = armed.pair.kKnown := congrArg Followed.known ht
    rw [haxis, hw, hknown, harmed]
    exact ⟨rfl, rfl, rfl, fun hvalid => if_pos hvalid⟩
  exact htaken _ (ite_followed ((holdWheeler_followed ..).trans ((ev_followed ..).trans hpassed)) hpassed)

/-! ### A chip that is no wheeler takes nothing over (R472, R475) -/

section
variable {s : State} (hlead : isWheeler s = false)
include hlead
theorem takeAxis_lead (a : AxisRec) : takeAxis a s = s := if_pos (by rw [hlead]; rfl)
theorem takeLoop_lead (b : LoopRec) : takeLoop b s = s := if_pos (by rw [hlead]; rfl)
theorem takeRein_lead (b : ReinRec) : takeRein b s = s := if_pos (by rw [hlead]; rfl)
theorem takeTime_lead (b : TimeRec) : takeTime b s = s := if_pos (.inl (by rw [hlead]; rfl))
theorem takeLog_lead (b : LogRec) : takeLog b s = s := if_pos (by rw [hlead]; rfl)
end

/-! ### LOOP and REIN (R389, R434) -/

theorem takeLoop_spec {s : State} (hwheel : isWheeler s = true) (b : LoopRec) :
    (takeLoop b s).loop.j = b.j ∧ (takeLoop b s).loop.outstanding = b.outstanding ∧ (takeLoop b s).axis = s.axis := by
  unfold takeLoop
  rw [if_neg (by rw [hwheel]; decide)]
  extract_lets noted
  split <;> exact ⟨rfl, rfl, rfl⟩

/-- R387, R389: a row that the lead has skipped leaves the held set of its wheeler, which logs no line of it. -/
theorem skipRow_followed (u : Nat) (s : State) : (skipRow false u s).followed = s.followed := by
  unfold skipRow
  extract_lets x old last r left _ settled
  split
  · rw [if_neg Bool.false_ne_true]
    rfl
  · rfl

theorem lowerCameras_followed (first : Int) (s : State) : (lowerCameras first s).followed = s.followed := by
  unfold lowerCameras
  extract_lets e
  refine forAll_followed (fun c t => ?_) _ s
  split <;> rfl

/-- What the wheeler holds of a REIN record; the source of its axis is that of `s`. -/
structure ReinTaken (b : ReinRec) (s t : State) : Prop where
  state : t.rein.state = b.state
  target : t.rein.target = b.target
  wOld : t.rein.wOld = b.wOld
  stop : t.faults.stopRein = (b.state == 1)
  source : t.axis.source = s.axis.source

theorem ReinTaken.follows {b : ReinRec} {s t u : State} (h : ReinTaken b s t) (hu : u.followed = t.followed) : ReinTaken b s u where
  state := (congrArg Followed.reinState hu).trans h.state
  target := (congrArg Followed.reinTarget hu).trans h.target
  wOld := (congrArg Followed.wOld hu).trans h.wOld
  stop := (congrArg Followed.stopRein hu).trans h.stop
  source := (congrArg (fun f => f.axis.source) hu).trans h.source

theorem muteReverse_eq (s : State) : ∃ chans, muteReverse s = { s with axis := { s.axis with chans := chans } } := by
  unfold muteReverse
  refine forAll_chans_eq (fun _ _ => ?_) _ s
  exact ⟨_, rfl⟩

theorem takeRein_taken {s : State} (hwheel : isWheeler s = true) (b : ReinRec) : ReinTaken b s (takeRein b s) := by
  unfold takeRein
  rw [if_neg (by rw [hwheel]; decide)]
  extract_lets was _ _ noted muted _ kept
  have hmuted : ReinTaken b s muted := by
    unfold muted
    split
    · obtain ⟨chans, hmute⟩ := muteReverse_eq noted
      rw [hmute]
      exact ⟨rfl, rfl, rfl, rfl, rfl⟩
    · exact ⟨rfl, rfl, rfl, rfl, rfl⟩
  split
  · refine ReinTaken.follows (t := { muted with gait := { muted.gait with w := lpos muted } })
      ⟨hmuted.state, hmuted.target, hmuted.wOld, hmuted.stop, hmuted.source⟩ ?_
    exact (forAll_followed (fun _ t => setRow_followed t _ _) _ _).trans (lowerCameras_followed ..)
  · split
    · exact hmuted.follows (forAll_followed skipRow_followed _ muted)
    · have hkept : kept.followed = muted.followed := forAll_followed (fun u t => ite_followed rfl (skipRow_followed u t)) _ muted
      exact hmuted.follows ((forAll_followed (fun _ t => setRow_followed t _ _) b.held kept).trans hkept)

/-! ### TIME (R448 to R451, R474) -/

/-- An update of the clock that keeps its grandmaster. -/
theorem setTime_followed {s : State} {time : Timing} (h : time.grandmaster = s.time.grandmaster) : { s with time := time }.followed = s.followed := by
  simp only [State.followed, h]

theorem setPtpPort_followed (s : State) (n : Nat) (x : PtpPort) : (s.setPtpPort n x).followed = s.followed := rfl

theorem mirrorTime_followed (accepted : Bool) (s : State) : (mirrorTime s accepted).followed = s.followed :=
  mirror_followed (.time (timeRecord s accepted)) s

theorem setServo_followed (st : Nat) (s : State) : (setServo st s).followed = s.followed := by
  unfold setServo
  extract_lets hist avg _ changed
  exact ite_followed rfl ((mirrorTime_followed ..).trans ((ev_followed ..).trans rfl))

theorem stepTime_followed (d : Int) (reason : Nat) (s : State) : (stepTime d reason s).followed = s.followed := by
  unfold stepTime
  extract_lets _ stepped missed p n skips _ passed void
  have hmissed : missed.followed = s.followed := by
    refine (forAll_followed (fun n t => ?_) _ stepped).trans (setTime_followed rfl)
    exact ite_followed (trigMiss_followed ..) rfl
  have hpassed : passed.followed = s.followed := ite_followed rfl (ite_followed hmissed hmissed)
  have hvoid : void.followed = s.followed := (forAll_followed (fun _ t => setPtpPort_followed t _ _) _ passed).trans hpassed
  exact (ev_followed ..).trans hvoid

theorem stepBy_followed (x : Int) (reason : Nat) (s : State) : (stepBy x reason s).followed = s.followed :=
  (setServo_followed ..).trans (stepTime_followed ..)

/-- R449: an offset that is judged moves the servo, and no grandmaster is chosen by it. -/
theorem judgeOffset_followed (x : Int) (s : State) : (judgeOffset x s).followed = s.followed := by
  unfold judgeOffset
  extract_lets _ measured size jump slew _ within estimated settling n _ counted m _ outlying _
  have hsettling : settling.followed = s.followed := ite_followed (setServo_followed ..) rfl
  have hcounted : counted.followed = s.followed := hsettling
  refine ite_followed (stepBy_followed ..) (ite_followed (ite_followed (stepBy_followed ..) ?_) ?_)
  · exact ite_followed hsettling (ite_followed ((setServo_followed ..).trans hcounted) hcounted)
  · exact ite_followed (mirrorTime_followed ..) (ite_followed rfl ((ev_followed ..).trans (setServo_followed ..)))

theorem acceptJump_followed (s : State) : (acceptJump s).followed = s.followed := by
  unfold acceptJump
  extract_lets stepped _
  have hstepped : stepped.followed = s.followed := (mirrorTime_followed ..).trans (stepTime_followed ..)
  exact (setServo_followed ..).trans ((setTime_followed rfl).trans hstepped)

theorem takeTime_followed {s : State} (hwheel : isWheeler s = true) (hservo : s.time.servo ≠ 2) (b : TimeRec) :
    (takeTime b s).followed = { s.followed with grandmaster := b.grandmaster } := by
  unfold takeTime
  rw [if_neg (by simp [hwheel, hservo])]
  exact ite_followed (acceptJump_followed _) (judgeOffset_followed ..)

/-! ### LOG (R472) -/

theorem takeLog_spec {s : State} (hwheel : isWheeler s = true) (b : LogRec) : (takeLog b s).gait.lastComplete = b.lastComplete ∧
    (takeLog b s).rein.count = b.reinCount ∧ (takeLog b s).loop.last = b.lastBar ∧ (takeLog b s).axis = s.axis := by
  unfold takeLog
  rw [if_neg (by rw [hwheel]; decide)]
  exact ⟨rfl, rfl, rfl, rfl⟩

/-! ### The wheeler and its lead -/

/-- Settles O53: a record is applied to `recordState` (`FreshRecord.applied`), and each leaves there what its own lemma says; a lead ignores them
(`FreshRecord.ignored`). -/
theorem wheelerFollowsTheLead : Obligations.WheelerFollowsTheLead := by
  refine ⟨fun dt h s fresh => ?_, fun dt h s fresh => ?_⟩
  · have hstate := recordState_state dt h s
    have hwheeler := recordState_isWheeler dt h s
    have hfollowed := recordState_followed dt h s
    have hquiet := recordState_quiet dt h s
    obtain ⟨_, _, hpair⟩ := recordState_pair dt h s
    refine ⟨fun c hstandby hearly hgen => ?commit, fun c hjoining hsnapshot => ?early, fun w hflags honly => ?write,
      fun b first count hstandby hop hblocks => ?block, fun a hwheel hkind _ => ?axis, fun hlead a => ?lead⟩
    case commit =>
      obtain ⟨_, _, hexec⟩ := fresh.applied dt (takeCommit c [])
      have htaken := takeCommit_inTurn (c := c) (hstate.trans hstandby) ((congrArg Followed.early hfollowed).trans hearly)
        (hgen.trans (congrArg (Followed.gen · + 1) hfollowed).symm)
      have hmem : (c.gen, c.line) ∈ (takeCommit c [] (recordState dt h s)).followed.commits := by
        rw [htaken]
        exact List.mem_append_right _ List.mem_cons_self
      exact ⟨_, hexec, congrArg Followed.gen htaken, congrArg Followed.early htaken, mem_commitLines.mp hmem⟩
    case early =>
      obtain ⟨_, _, hexec⟩ := fresh.applied dt (takeCommit c [])
      obtain ⟨hwaits, hproto⟩ := takeCommit_waits (hstate.trans hjoining) (by rw [hpair]; exact hsnapshot) c
      refine ⟨_, hexec, hwaits.trans (congrArg (Followed.early · ++ [c]) hfollowed), ?_⟩
      exact (congrArg Proto.commits hproto).trans (by rw [hquiet.proto]; rfl)
    case write =>
      obtain ⟨_, _, hexec⟩ := fresh.applied dt (takeWrites [w])
      exact ⟨_, hexec, takeWrites_stored hflags honly (recordState dt h s)⟩
    case block =>
      obtain ⟨_, _, hexec⟩ := fresh.applied dt (takeBlock b)
      rw [takeBlock_nozzles (hstate.trans hstandby) hop (by rw [hpair]; exact hblocks)] at hexec
      exact ⟨_, hexec, rfl, hquiet.store⟩
    case axis =>
      obtain ⟨_, _, hexec⟩ := fresh.applied dt (takeAxis a)
      exact ⟨_, hexec, takeAxis_spec (hwheeler.trans hwheel) hkind⟩
    case lead =>
      obtain ⟨t, hexec, hkept⟩ := fresh.ignored dt (takeAxis_lead (hwheeler.trans hlead) a)
      exact ⟨t, hexec, hkept.axis, hkept.gait⟩
  · have hwheeler := recordState_isWheeler dt h s
    have hquiet := recordState_quiet dt h s
    refine ⟨fun hwheel => ⟨fun b => ?loop, fun b => ?rein, fun b hservo => ?time, fun b => ?log⟩, fun hlead => ⟨fun b => ?loopLead,
      fun b => ?reinLead, fun b => ?timeLead, fun b => ?logLead⟩⟩
    case loop =>
      obtain ⟨_, _, hexec⟩ := fresh.applied dt (takeLoop b)
      obtain ⟨hj, hout, haxis⟩ := takeLoop_spec (hwheeler.trans hwheel) b
      exact ⟨_, hexec, hj, hout, haxis.trans hquiet.axis⟩
    case rein =>
      obtain ⟨_, _, hexec⟩ := fresh.applied dt (takeRein b)
      obtain ⟨hrein, htarget, hold, hstop, hsource⟩ := takeRein_taken (hwheeler.trans hwheel) b
      exact ⟨_, hexec, hrein, htarget, hold, hstop, hsource.trans (congrArg Axis.source hquiet.axis)⟩
    case time =>
      obtain ⟨_, _, hexec⟩ := fresh.applied dt (takeTime b)
      have htaken := takeTime_followed (hwheeler.trans hwheel) (by rw [hquiet.time]; exact hservo) b
      exact ⟨_, hexec, congrArg Followed.grandmaster htaken, (congrArg Followed.axis htaken).trans hquiet.axis⟩
    case log =>
      obtain ⟨_, _, hexec⟩ := fresh.applied dt (takeLog b)
      obtain ⟨hcomplete, hcount, hlast, haxis⟩ := takeLog_spec (hwheeler.trans hwheel) b
      exact ⟨_, hexec, hcomplete, hcount, hlast, haxis.trans hquiet.axis⟩
    case loopLead =>
      obtain ⟨t, hexec, hkept⟩ := fresh.ignored dt (takeLoop_lead (hwheeler.trans hlead) b)
      exact ⟨t, hexec, hkept.loop⟩
    case reinLead =>
      obtain ⟨t, hexec, hkept⟩ := fresh.ignored dt (takeRein_lead (hwheeler.trans hlead) b)
      exact ⟨t, hexec, hkept.rein⟩
    case timeLead =>
      obtain ⟨t, hexec, hkept⟩ := fresh.ignored dt (takeTime_lead (hwheeler.trans hlead) b)
      exact ⟨t, hexec, by rw [hkept.time]; rfl⟩
    case logLead =>
      obtain ⟨t, hexec, hkept⟩ := fresh.ignored dt (takeLog_lead (hwheeler.trans hlead) b)
      exact ⟨t, hexec, by rw [hkept.gait]; rfl⟩

end Sys2Proof.Machine

/-! ## Proofs of the families "inspection capture" to "start-up", and of the block as a whole

The block as a whole; then what each command of inspection, the closed loop, network time, the pair, power and start does where its conditions
hold. -/

namespace Sys2Proof.Machine

/-! ### The block as a whole -/

/-- Settles O1: a step takes the front of the queue, by its definition. -/
theorem stepRunsFrontCommand : Obligations.StepRunsFrontCommand := fun _ _ _ => rfl

/-- Settles O2: a step on an empty queue is the state itself. -/
theorem idleStepKeepsState : Obligations.IdleStepKeepsState := by
  intro s hempty
  rw [step, hempty]

/-- Settles O4: the queue, the clock and the outputs are what `exec_keeps` says of every command. -/
theorem commandKeepsQueueAndOutputs : Obligations.CommandKeepsQueueAndOutputs := by
  intro c s t hexec
  obtain ⟨hpending, hnow, _, htx⟩ := exec_keeps s c t hexec
  exact ⟨hpending, hnow, htx⟩

/-- Settles O5: after reset the memory and the logs are empty, and every state code is one that the spec names. -/
theorem resetMeetsInvariant : Obligations.ResetMeetsInvariant := by
  constructor <;> decide

theorem ok_answers (s : State) : ∃ t, ok s = .next t := ⟨s, rfl⟩

/-- A command with a premise has its effect or only lets time pass (log 2). -/
theorem guardOk_answers (c : Bool) (f : State → State) (s : State) : ∃ t, guardOk c f s = .next t := by
  unfold guardOk
  split <;> exact ⟨_, rfl⟩

/-- Settles O3: a meaning ends in `ok` or in `guardOk`, behind a look at what the command concerns. -/
theorem everyCommandAnswers : Obligations.EveryCommandAnswers
  | .read .., s => ok_answers _
  | .write .., s => ok_answers _
  | .stage .., s => ok_answers _
  | .check .., s => ok_answers _
  | .commit .., s => ok_answers _
  | .discard .., s => ok_answers _
  | .cmdCancel .., s => ok_answers _
  | .claim .., s => ok_answers _
  | .release .., s => ok_answers _
  | .subscribe .., s => ok_answers _
  | .unsubscribe .., s => ok_answers _
  | .eventAck .., s => ok_answers _
  | .keepalive .., s => ok_answers _
  | .open1 .., s => by unfold exec execOpen1; exact guardOk_answers _ _ _
  | .open3 .., s => by
    simp only [exec, execOpen3]
    split
    · split <;> exact guardOk_answers _ _ _
    · exact ok_answers _
  | .sessionClose .., s => ok_answers _
  | .blockData .., s => ok_answers _
  | .discover .., s => by unfold exec execDiscover; exact guardOk_answers _ _ _
  | .discoverReply .., s => by
    simp only [exec, execDiscoverReply]
    split
    · exact ok_answers _
    · exact guardOk_answers _ _ _
  | .unknownOpcode .., s => ok_answers _
  | .frameDiscard .., s => by unfold exec execFrameDiscard; exact guardOk_answers _ _ _
  | .protocolQuery .., s => by unfold exec execProtocolQuery; exact guardOk_answers _ _ _
  | .sessionTimeout .., s => guardOk_answers _ _ _
  | .openTimeout .., s => by unfold exec execOpenTimeout; exact guardOk_answers _ _ _
  | .enrolWindowEnd .., s => by unfold exec execEnrolWindowEnd; exact guardOk_answers _ _ _
  | .claimLeaseExpiry .., s => ok_answers _
  | .eventResend .., s => by
    simp only [exec, execEventResend]
    split
    · exact ok_answers _
    · exact guardOk_answers _ _ _
  | .handleComplete .., s => guardOk_answers _ _ _
  | .handleExpiry .., s => guardOk_answers _ _ _
  | .commitNotice .., s => ok_answers _
  | .deviceCommit .., s => ok_answers _
  | .countEdge .., s => guardOk_answers _ _ _
  | .index .., s => guardOk_answers _ _ _
  | .wireEpisode50ns .., s => guardOk_answers _ _ _
  | .wireEpisodeEnd .., s => guardOk_answers _ _ _
  | .wireEpisode1us .., s => guardOk_answers _ _ _
  | .axisStop .., s => guardOk_answers _ _ _
  | .supervisorUnreachable .., s => guardOk_answers _ _ _
  | .termSwingLow .., s => by unfold exec execTermSwingLow; exact guardOk_answers _ _ _
  | .axisPreset .., s => ok_answers _
  | .indexArm .., s => ok_answers _
  | .encReenable .., s => ok_answers _
  | .sourceRequest .., s => ok_answers _
  | .fire .., s => by
    simp only [exec, execFire]
    split
    · exact ok_answers _
    · exact guardOk_answers _ _ _
  | .speedLimitRise .., s => guardOk_answers _ _ _
  | .lineOverrate .., s => guardOk_answers _ _ _
  | .slowHoldExpiry .., s => guardOk_answers _ _ _
  | .hostSpeedLimit .., s => ok_answers _
  | .trigOccurrence .., s => by
    simp only [exec, execTrigOccurrence]
    split
    · exact ok_answers _
    · exact guardOk_answers _ _ _
  | .timeTrigger .., s => by unfold exec execTimeTrigger; exact guardOk_answers _ _ _
  | .trigPulseEnd .., s => by unfold exec execTrigPulseEnd; exact guardOk_answers _ _ _
  | .streamData .., s => guardOk_answers _ _ _
  | .probe .., s => guardOk_answers _ _ _
  | .ackInterval .., s => guardOk_answers _ _ _
  | .nak .., s => guardOk_answers _ _ _
  | .streamEnable .., s => ok_answers _
  | .streamReleaseTo .., s => ok_answers _
  | .netLink .., s => by unfold exec execNetLink; exact guardOk_answers _ _ _
  | .decodeLine .., s => ok_answers _
  | .decoderFault .., s => guardOk_answers _ _ _
  | .storeRefresh .., s => guardOk_answers _ _ _
  | .stackTempRead .., s => ok_answers _
  | .scrub .., s => guardOk_answers _ _ _
  | .sramScrub .., s => guardOk_answers _ _ _
  | .retireCopyDone .., s => guardOk_answers _ _ _
  | .counterWriteback .., s => guardOk_answers _ _ _
  | .nozzleSave .., s => guardOk_answers _ _ _
  | .screenLine .., s => ok_answers _
  | .windowRefill .., s => ok_answers _
  | .tileCheck .., s => by
    simp only [exec, execTileCheck]
    split
    · exact guardOk_answers _ _ _
    · exact ok_answers _
  | .engineFault .., s => ok_answers _
  | .engineStall .., s => ok_answers _
  | .engineRemount .., s => ok_answers _
  | .sliceFault .., s => ok_answers _
  | .regionFault .., s => ok_answers _
  | .dieFault .., s => guardOk_answers _ _ _
  | .temperature .., s => guardOk_answers _ _ _
  | .warmExit .., s => by unfold exec execWarmExit; exact guardOk_answers _ _ _
  | .hotExit .., s => guardOk_answers _ _ _
  | .telemetryTimeout .., s => guardOk_answers _ _ _
  | .nozzleSense .., s => guardOk_answers _ _ _
  | .incompleteSegment .., s => guardOk_answers _ _ _
  | .missedFires .., s => guardOk_answers _ _ _
  | .claimStatus .., s => guardOk_answers _ _ _
  | .configResponse .., s => by
    simp only [exec, execConfigResponse]
    split
    · exact ok_answers _
    · exact ok_answers _
  | .configTimeout .., s => by
    simp only [exec, execConfigTimeout]
    split
    · exact ok_answers _
    · exact guardOk_answers _ _ _
  | .caps .., s => guardOk_answers _ _ _
  | .echoReply .., s => guardOk_answers _ _ _
  | .latencyMeasure .., s => guardOk_answers _ _ _
  | .traceDetect .., s => guardOk_answers _ _ _
  | .blockLock .., s => guardOk_answers _ _ _
  | .bringupStepFail .., s => guardOk_answers _ _ _
  | .lockLost .., s => guardOk_answers _ _ _
  | .errorLimit .., s => guardOk_answers _ _ _
  | .eyeRead .., s => by unfold exec execEyeRead; exact guardOk_answers _ _ _
  | .claimSend .., s => by
    simp only [exec, execClaimSend]
    split
    · exact ok_answers _
    · exact guardOk_answers _ _ _
  | .traceEnable .., s => ok_answers _
  | .tracePower .., s => ok_answers _
  | .reinStopTimeout .., s => guardOk_answers _ _ _
  | .reinReverseTimeout .., s => guardOk_answers _ _ _
  | .reinHoldTimeout .., s => guardOk_answers _ _ _
  | .reinRunTimeout .., s => guardOk_answers _ _ _
  | .rearm .., s => guardOk_answers _ _ _
  | .pressRefuse .., s => ok_answers _
  | .stopClear .., s => ok_answers _
  | .lineTrigger .., s => by
    simp only [exec, execLineTrigger]
    split
    · exact guardOk_answers _ _ _
    · exact ok_answers _
  | .frameStart .., s => by unfold exec execFrameStart; exact guardOk_answers _ _ _
  | .cameraLine .., s => guardOk_answers _ _ _
  | .frameEnd .., s => by unfold exec execFrameEnd; exact guardOk_answers _ _ _
  | .startWindow .., s => guardOk_answers _ _ _
  | .exposureListDone .., s => guardOk_answers _ _ _
  | .sliceDone .., s => by
    simp only [exec, execSliceDone]
    split
    · exact guardOk_answers _ _ _
    · exact ok_answers _
  | .cciBusStuck .., s => guardOk_answers _ _ _
  | .loopBar .., s => guardOk_answers _ _ _
  | .sync .., s => guardOk_answers _ _ _
  | .followUp .., s => guardOk_answers _ _ _
  | .delayReq .., s => guardOk_answers _ _ _
  | .delayResp .., s => guardOk_answers _ _ _
  | .announce .., s => guardOk_answers _ _ _
  | .ptpOther .., s => guardOk_answers _ _ _
  | .announceTimeout .., s => ok_answers _
  | .ptpSendInterval .., s => guardOk_answers _ _ _
  | .followUpTimeout .., s => ok_answers _
  | .timeRoleWrite .., s => ok_answers _
  | .txStampPop .., s => ok_answers _
  | .evtCapture .., s => guardOk_answers _ _ _
  | .capturePop .., s => ok_answers _
  | .pdCycle .., s => by
    simp only [exec, execPdCycle]
    split
    · exact guardOk_answers _ _ _
    · exact ok_answers _
  | .correlation .., s => guardOk_answers _ _ _
  | .heartbeat .., s => ok_answers _
  | .heartbeatSend .., s => guardOk_answers _ _ _
  | .pairAck .., s => ok_answers _
  | .commitRecord .., s => ok_answers _
  | .writeRecord .., s => ok_answers _
  | .blockRecord .., s => ok_answers _
  | .axisRecord .., s => ok_answers _
  | .lposRecord .., s => ok_answers _
  | .lposSend .., s => guardOk_answers _ _ _
  | .ringRecord .., s => ok_answers _
  | .digest .., s => ok_answers _
  | .loopRecord .., s => ok_answers _
  | .reinRecord .., s => ok_answers _
  | .timeRecord .., s => ok_answers _
  | .logRecord .., s => ok_answers _
  | .releaseRecord .., s => ok_answers _
  | .ident .., s => ok_answers _
  | .snapshot .., s => ok_answers _
  | .fill .., s => ok_answers _
  | .echo .., s => ok_answers _
  | .echoSend .., s => by unfold exec execEchoSend; exact guardOk_answers _ _ _
  | .recordResend .., s => by
    simp only [exec, execRecordResend]
    split
    · exact ok_answers _
    · exact guardOk_answers _ _ _
  | .partnerSilent .., s => guardOk_answers _ _ _
  | .mirrorTimeout .., s => guardOk_answers _ _ _
  | .pairLaneChange .., s => guardOk_answers _ _ _
  | .peerLead .., s => guardOk_answers _ _ _
  | .searchTimeout .., s => guardOk_answers _ _ _
  | .enterIdle .., s => ok_answers _
  | .enterSleep .., s => ok_answers _
  | .enterDeepSleep .., s => ok_answers _
  | .enterOff .., s => ok_answers _
  | .returnToRun .., s => ok_answers _
  | .coreIdleStop .., s => by unfold exec execCoreIdleStop; exact guardOk_answers _ _ _
  | .wake .., s => ok_answers _
  | .wakeTimer .., s => guardOk_answers _ _ _
  | .pmbusAck .., s => ok_answers _
  | .pmbusTimeout .., s => by
    simp only [exec, execPmbusTimeout]
    split
    · exact ok_answers _
    · exact guardOk_answers _ _ _
  | .pmbAlert .., s => guardOk_answers _ _ _
  | .railTelemetry .., s => guardOk_answers _ _ _
  | .powerOnReset .., s => ok_answers _
  | .resetN .., s => guardOk_answers _ _ _
  | .startRetry .., s => guardOk_answers _ _ _
  | .brownout .., s => guardOk_answers _ _ _
  | .vsupRecovered .., s => by unfold exec execVsupRecovered; exact guardOk_answers _ _ _
  | .supervisorReset .., s => guardOk_answers _ _ _
  | .overvolt .., s => by unfold exec execOvervolt; exact guardOk_answers _ _ _
  | .vsup3Overload .., s => by unfold exec execVsup3Overload; exact guardOk_answers _ _ _
  | .dieTemp .., s => guardOk_answers _ _ _
  | .outputReadback .., s => guardOk_answers _ _ _
  | .refclkLoss .., s => guardOk_answers _ _ _
  | .coreFault .., s => guardOk_answers _ _ _
  | .coreRestartDone .., s => guardOk_answers _ _ _
  | .configStoreWrite .., s => guardOk_answers _ _ _
  | .lifeHour .., s => guardOk_answers _ _ _
  | .encCalDeferred .., s => guardOk_answers _ _ _
  | .tapStep .., s => guardOk_answers _ _ _
  | .statusClear .., s => ok_answers _
  | .storePartition .., s => ok_answers _
  | .errorLogClear .., s => ok_answers _
  | .defectLogClear .., s => ok_answers _
  | .storeFill .., s => ok_answers _
  | .storeCopy .., s => ok_answers _
  | .integInject .., s => ok_answers _
  | .integReadRaw .., s => ok_answers _
  | .rowRepair .., s => ok_answers _
  | .retire .., s => ok_answers _
  | .encode .., s => ok_answers _
  | .thresholdLoad .., s => ok_answers _
  | .nozzleTableWrite .., s => ok_answers _
  | .nozzleTableRead .., s => ok_answers _
  | .nozzleTableSave .., s => ok_answers _
  | .nozzleCountReset .., s => ok_answers _
  | .traceBringUp .., s => ok_answers _
  | .bridgeAccess .., s => ok_answers _
  | .inspTableLoad .., s => ok_answers _
  | .frameHold .., s => ok_answers _
  | .cciAccess .., s => ok_answers _
  | .inspStatRead .., s => ok_answers _
  | .timeAcceptJump .., s => ok_answers _
  | .ptpSend .., s => ok_answers _
  | .pdStart .., s => ok_answers _
  | .pdStop .., s => ok_answers _
  | .pair .., s => ok_answers _
  | .unpair .., s => ok_answers _
  | .handover .., s => ok_answers _
  | .imageWrite .., s => ok_answers _
  | .imageActivate .., s => ok_answers _
  | .imageConfirm .., s => ok_answers _
  | .faultClear .., s => ok_answers _
  | .unknownCommand .., s => ok_answers _
  | .traceBlockDiscard .., s => by
    simp only [exec, execTraceBlockDiscard]
    split
    · exact ok_answers _
    · exact ok_answers _
  | .cameraPacketError .., s => guardOk_answers _ _ _
  | .jtagInstruction .., s => by unfold exec execJtagInstruction; exact guardOk_answers _ _ _
  | .terminationDisconnect .., s => guardOk_answers _ _ _
  | .terminationReconnect .., s => guardOk_answers _ _ _
  | .outputAgreement .., s => guardOk_answers _ _ _
  | .vsup3LoadRecovered .., s => by unfold exec execVsup3LoadRecovered; exact guardOk_answers _ _ _
  | .vsupSample .., s => guardOk_answers _ _ _

end Sys2Proof.Machine

/-! ## Proofs of the family "inspection capture"

Frames as their packets arrive: what a packet changes of the frame that is open, and what the close of a frame leaves in the log. -/

namespace Sys2Proof.Machine

/-! ### Frames that change and keep their name (R400) -/

/-- A frame is found under its own name. -/
theorem frameOf_name {s : State} {n : Nat} {k : BitVec 32} {f : Frame} (h : frameOf s n k = some f) : f.is n k = true := by
  simpa using List.find?_some h

/-- A frame that changes and keeps its name is found changed. -/
theorem frameOf_modFrame {n : Nat} {k : BitVec 32} {g : Frame → Frame} (s : State) (hname : ∀ f m j, (g f).is m j = f.is m j) :
    frameOf (modFrame n k g s) n k = (frameOf s n k).map g := by
  have hkeep : ∀ f : Frame, (if f.is n k = true then g f else f).is n k = f.is n k := fun f => by split <;> simp only [hname]
  unfold frameOf modFrame
  dsimp only
  rw [List.find?_map, show (fun f : Frame => f.is n k) ∘ _ = fun f => f.is n k from funext hkeep]
  cases hfind : s.insp.frames.find? (fun f => f.is n k) with
  | none => rfl
  | some f => rw [Option.map_some, Option.map_some, if_pos (frameOf_name hfind)]

/-- The frame that is open on a sensor is one of those kept, and has not ended. -/
theorem openOf_open {s : State} {n : Nat} {f : Frame} (h : openOf s n = some f) : f ∈ s.insp.frames ∧ f.ended = false ∧ f.sensor = n := by
  obtain ⟨hopen, hsensor⟩ := List.mem_filter.mp (List.mem_of_getLast? h)
  obtain ⟨hmem, hended⟩ := List.mem_filter.mp hopen
  exact ⟨hmem, by simpa using hended, by simpa using hsensor⟩

/-- The frame that is open on a sensor is found under its name: it, or an older one. -/
theorem frameOf_of_openOf {s : State} {n : Nat} {f : Frame} (h : openOf s n = some f) : ∃ x, frameOf s n f.frame = some x := by
  obtain ⟨hmem, -, hsensor⟩ := openOf_open h
  refine Option.isSome_iff_exists.mp (List.find?_isSome.mpr ⟨f, hmem, ?_⟩)
  simp [Frame.is, hsensor]

/-! ### Errors of a channel (R402) -/

@[simp] theorem channelError_frames (c vc k : Nat) (s : State) : (channelError c vc k s).insp.frames = s.insp.frames := rfl
@[simp] theorem channelError_sensor (c vc k n : Nat) (s : State) : (channelError c vc k s).sensor n = s.sensor n := rfl

/-- The counter of a channel goes up by one. -/
theorem channelError_counts (c vc k : Nat) (s : State) :
    tget 0 (channelError c vc k s).insp.errors ((16 * c + vc) * 8 + k) = tget 0 s.insp.errors ((16 * c + vc) * 8 + k) + 1 := by
  simp only [channelError, tinc, tget_tmod_self]

/-- The frame, the header error counted. -/
def withHdrEcc (f : Frame) : Frame := { f with hdrEcc := f.hdrEcc + 1 }

/-- How far a frame has come, and its name. -/
abbrev Frame.stage (f : Frame) := (f.sensor, f.frame, f.started, f.ended)

/-- What the count of a corrected header leaves alone: which sensor is on a channel, the sensors, the page store, every other counter, and how far
each frame has come. -/
structure HeaderKept (s t : State) : Prop where
  on : ∀ c vc, sensorOn t c vc = sensorOn s c vc
  sensor : ∀ n, t.sensor n = s.sensor n
  store : t.store = s.store
  errors : ∀ c vc j, j ≠ 0 → j < 8 → tget 0 t.insp.errors ((16 * c + vc) * 8 + j) = tget 0 s.insp.errors ((16 * c + vc) * 8 + j)
  frames : ∃ h : Frame → Frame, (∀ f, (h f).stage = f.stage) ∧ t.insp.frames = s.insp.frames.map h

theorem HeaderKept.refl (s : State) : HeaderKept s s :=
  ⟨fun _ _ => rfl, fun _ => rfl, rfl, fun _ _ _ _ _ => rfl, id, fun _ => rfl, (List.map_id _).symm⟩

theorem channelError_headerKept (c vc : Nat) (s : State) : HeaderKept s (channelError c vc 0 s) :=
  ⟨fun _ _ => rfl, fun _ => rfl, rfl, fun a b j hj hlt => by
    have hkey : (16 * a + b) * 8 + j ≠ (16 * c + vc) * 8 + 0 := by omega
    simp only [channelError, tinc, tget_tmod_ne hkey], id, fun _ => rfl, (List.map_id _).symm⟩

theorem modFrame_headerKept (n : Nat) (k : BitVec 32) (s : State) : HeaderKept s (modFrame n k withHdrEcc s) :=
  ⟨fun _ _ => rfl, fun _ => rfl, rfl, fun _ _ _ _ _ => rfl, _, fun f => by split <;> rfl, rfl⟩

theorem HeaderKept.trans {s t u : State} (g : HeaderKept t u) (h : HeaderKept s t) : HeaderKept s u := by
  obtain ⟨x, hx, ht⟩ := h.frames
  obtain ⟨y, hy, hu⟩ := g.frames
  exact ⟨fun c vc => (g.on c vc).trans (h.on c vc), fun n => (g.sensor n).trans (h.sensor n), g.store.trans h.store,
    fun c vc j hj hlt => (g.errors c vc j hj hlt).trans (h.errors c vc j hj hlt),
    y ∘ x, fun f => (hy (x f)).trans (hx f), by rw [hu, ht, List.map_map]⟩

/-- R402: a header that is corrected counts on its channel, and on the frame that is open there. -/
theorem headerFixed_kept (c vc : Nat) (fixed : Bool) (s : State) : HeaderKept s (headerFixed c vc fixed s) := by
  unfold headerFixed
  split
  · exact .refl s
  · dsimp only
    have hcounted := channelError_headerKept c vc s
    split
    · split
      · exact (modFrame_headerKept _ _ _).trans hcounted
      · exact hcounted
    · exact hcounted

/-- The frame that a name finds has come as far. -/
theorem HeaderKept.frameOf {s t : State} (h : HeaderKept s t) {n : Nat} {k : BitVec 32} {f : Frame} (hf : frameOf s n k = some f) :
    ∃ g, frameOf t n k = some g ∧ g.stage = f.stage := by
  obtain ⟨x, hx, ht⟩ := h.frames
  have hname : ∀ f : Frame, (x f).is n k = f.is n k := fun f => by
    have hstage := hx f
    simp only [Frame.stage, Prod.mk.injEq] at hstage
    obtain ⟨hsensor, hframe, -, -⟩ := hstage
    rw [Frame.is, hsensor, hframe, Frame.is]
  refine ⟨x f, ?_, hx f⟩
  rw [Machine.frameOf, ht, List.find?_map, show (fun f : Frame => f.is n k) ∘ x = fun f => f.is n k from funext hname]
  exact congrArg (Option.map x) hf

/-- The frame that is open on a sensor has come as far. -/
theorem HeaderKept.openOf {s t : State} (h : HeaderKept s t) {n : Nat} {f : Frame} (hf : openOf s n = some f) :
    ∃ g, openOf t n = some g ∧ g.stage = f.stage := by
  obtain ⟨x, hx, ht⟩ := h.frames
  have hstage : ∀ f : Frame, (x f).sensor = f.sensor ∧ (x f).ended = f.ended := fun f => by
    have hstage := hx f
    simp only [Frame.stage, Prod.mk.injEq] at hstage
    exact ⟨hstage.1, hstage.2.2.2⟩
  refine ⟨x f, ?_, hx f⟩
  have hopen : (openFrames t).filter (fun f => f.sensor == n) = ((openFrames s).filter (fun f => f.sensor == n)).map x := by
    simp only [openFrames, ht, List.filter_map, Function.comp_def, hstage]
  rw [Machine.openOf, hopen, List.getLast?_map]
  exact congrArg (Option.map x) hf

/-! ### A frame that starts (R402, R403) -/

/-- The frame as its Frame Start finds it, `delay` ns after its trigger; the start is late past `bound`. -/
def startedAt (delay bound : Nat) (g : Frame) : Frame :=
  let g := { g with started := true, fsDelay := some delay }
  if bound < delay then g.flag ffLate else g

theorem startedAt_is (delay bound : Nat) (g : Frame) (n : Nat) (k : BitVec 32) : (startedAt delay bound g).is n k = g.is n k := by
  unfold startedAt
  dsimp only
  split <;> rfl

theorem startedAt_started (delay bound : Nat) (g : Frame) : (startedAt delay bound g).started = true := by
  unfold startedAt
  dsimp only
  split <;> rfl

/-- A Frame Start of a sensor whose open frame has not started starts it. -/
theorem frameStartStep_starts {c vc n : Nat} {f : Frame} {s : State} (hon : sensorOn s c vc = some n) (hopen : openOf s n = some f)
    (hstarted : f.started = false) :
    ∃ g, frameOf (frameStartStep c vc s) n f.frame = some g ∧ g.started = true ∧ ((frameStartStep c vc s).sensor n).discard = false ∧
      (frameStartStep c vc s).store = s.store := by
  obtain ⟨x, hx⟩ := frameOf_of_openOf hopen
  have hstep : ∃ delay bound, frameStartStep c vc s =
      modFrame n f.frame (startedAt delay bound) (s.setSensor n { s.sensor n with discard := false }) := by
    unfold frameStartStep
    simp only [hon, hopen, hstarted, Bool.false_eq_true, if_false]
    exact ⟨_, _, rfl⟩
  obtain ⟨delay, bound, hstep⟩ := hstep
  have hfind : frameOf (s.setSensor n { s.sensor n with discard := false }) n f.frame = some x := hx
  refine ⟨startedAt delay bound x, ?_, startedAt_started .., ?_, ?_⟩
  · rw [hstep, frameOf_modFrame _ (startedAt_is delay bound), hfind, Option.map_some]
  · rw [hstep]
    exact congrArg Sensor.discard (State.setSensor_sensor ..)
  · rw [hstep]
    rfl

/-- A Frame Start of a sensor without an open frame is counted, and what follows is discarded. -/
theorem frameStartStep_strays {c vc n : Nat} {s : State} (hon : sensorOn s c vc = some n) (hopen : openOf s n = none) :
    frameStartStep c vc s = channelError c vc 5 (s.setSensor n { s.sensor n with discard := true }) := by
  unfold frameStartStep
  simp only [hon, hopen]

/-! ### A line that is taken (R402) -/

theorem writeUnits_insp (cls u : Nat) (bytes : List Byte) (s : State) : (writeUnits cls u bytes s).insp = s.insp := by
  refine forAll_induct (P := fun t => t.insp = s.insp) (fun i t ht => ?_) _ _ rfl
  have hrewrite : ∀ v w, (noteRewrite v w).insp = w.insp := fun v w => by unfold noteRewrite; split <;> rfl
  rw [hrewrite, (countAccess_read ..).insp]
  exact ht

/-- A line memory without errors gives what was written to it. -/
theorem lineMemoryReads_insp {n m : Nat} {k : BitVec 32} {s : State} (h : s.integ.sramErr = []) : (lineMemoryReads n k m [] s).insp = s.insp := by
  unfold lineMemoryReads
  have hstrike : strikeWords [] lineMemoryWord s = s := rfl
  simp only [hstrike, readMarked, h, List.map_nil, List.filter_nil, List.foldl_nil, List.isEmpty_nil, if_true]
  rfl

/-- The next camera line of a frame, taken whole. -/
def withLine (f : Frame) (dtype : Nat) (line : List Nat) (g : Frame) : Frame :=
  { g with got := g.got + 1, dtype := dtype, crcErr := g.crcErr + 0
           pixels := if g.has ffInline then g.pixels ++ [(f.nextLine, line)] else g.pixels }

/-- A whole line that a frame has room for is taken: it, and nothing else of inspection, changes. -/
theorem takeCameraLine_insp {n dtype : Nat} {f : Frame} {px : List Nat} {s : State} (hsram : s.integ.sramErr = [])
    (hroom : f.got + f.missed.length < f.linesCfg) (hnext : f.nextLine < f.linesCfg) (hwidth : px.length = f.width * chanCount dtype) :
    ∃ line, (takeCameraLine n f dtype px true [] s).insp = (modFrame n f.frame (withLine f dtype line) s).insp := by
  refine ⟨(fitLine (f.width * chanCount dtype) px).map (fun v => v % (if dtype = 0x2B then 1024 else 256)), ?_⟩
  have hfull : ¬(f.linesCfg ≤ f.got + f.missed.length ∨ f.linesCfg ≤ f.nextLine) := by omega
  unfold takeCameraLine
  simp only [hfull, hwidth, if_false, if_true, ne_eq, not_true_eq_false, decide_false, Bool.not_true, Bool.or_self, Bool.false_eq_true]
  have hread : ∀ u : State, u.integ.sramErr = [] → (if f.has ffInline = true then lineMemoryReads n f.frame f.nextLine [] u else u).insp = u.insp :=
    fun u hu => by
      split
      · exact lineMemoryReads_insp hu
      · rfl
  split
  · rw [hread _ (by exact hsram)]
    rfl
  · rw [writeUnits_insp, hread _ (by exact hsram)]
    rfl

/-- A line of the sensor's type that arrives whole is taken by the frame that is open and has started. -/
theorem cameraLineStep_takes {c vc n dtype : Nat} {f : Frame} {px : List Nat} {s : State} (hon : sensorOn s c vc = some n)
    (hdiscard : (s.sensor n).discard = false) (hopen : openOf s n = some f) (hstarted : f.started = true)
    (htype : dtype = (sensorCfg (envAt s (lineOf f.first)) n).dtype) :
    cameraLineStep c vc dtype px true false [] s = takeCameraLine n f dtype px true [] s := by
  unfold cameraLineStep
  simp only [hon, hdiscard, hopen, hstarted, htype, Bool.false_eq_true, if_false, Bool.not_true, ne_eq, not_true_eq_false]

/-! ### Packets in error (R402) -/

/-- A header beyond correction is counted on its port, and marks the frames of the port; no counter changes with them. -/
theorem packetErrorStep_header_errors (c vc : Nat) (s : State) :
    (packetErrorStep c vc 0 s).insp.errors = (channelError c 0 1 s).insp.errors := by
  refine forAll_induct (P := fun t => t.insp.errors = (channelError c 0 1 s).insp.errors) (fun _ t ht => ?_) _ _ rfl
  exact ht

/-- A packet on a channel without a sensor is counted there, and nothing else follows. -/
theorem packetErrorStep_stray {c vc why : Nat} {s : State} (hwhy : why ≠ 0) (hon : sensorOn s c vc = none) :
    packetErrorStep c vc why s = channelError c vc 3 s := by
  unfold packetErrorStep
  simp only [hwhy, if_false, hon]

/-! ### The close of a frame (R400, R403) -/

/-- The log holds the descriptor of an ended frame with this sensor and number. -/
def FrameLogged (n : Nat) (k : BitVec 32) (s : State) : Prop := ∃ g ∈ s.insp.log, g.is n k = true ∧ g.ended = true

theorem FrameLogged.same {n : Nat} {k : BitVec 32} {s t : State} (h : FrameLogged n k s) (hlog : t.insp.log = s.insp.log) : FrameLogged n k t := by
  rw [FrameLogged, hlog]
  exact h

theorem zeroFill_insp (f : Frame) (dtype : Nat) (s : State) : (zeroFill f dtype s).insp = s.insp := by
  unfold zeroFill
  dsimp only
  split
  · rfl
  · exact forAll_induct (P := fun t => t.insp = s.insp) (fun _ t h => (writeUnits_insp _ _ _ t).trans h) _ s rfl

theorem frameFault_log (f : Frame) (s : State) : (frameFault f s).insp.log = s.insp.log := by
  unfold frameFault
  extract_lets x due
  split
  · rfl
  · rw [ev_insp]
    rfl

theorem noteBacklog_log (s : State) : (noteBacklog s).insp.log = s.insp.log := by
  unfold noteBacklog
  dsimp only
  split
  · rfl
  · split
    · rw [ev_insp]
    · rfl

/-- A frame that a slice takes keeps its descriptor in the log, with its slice. -/
theorem FrameLogged.assignSlices {n : Nat} {k : BitVec 32} {s : State} (h : FrameLogged n k s) : FrameLogged n k (assignSlices s) := by
  refine forAll_induct (P := FrameLogged n k) (fun j t ht => ?_) _ s h
  split
  · obtain ⟨g, hg, hname, hended⟩ := ht
    refine ⟨_, List.mem_map_of_mem hg, ?_⟩
    split <;> exact ⟨hname, hended⟩
  · exact ht

/-- A frame that is open and closes is in the log from then on. -/
theorem closeFrame_logged {n : Nat} {k : BitVec 32} {f : Frame} {s : State} (hf : frameOf s n k = some f) (hended : f.ended = false)
    (more : List Nat) : FrameLogged n k (closeFrame n k more s) := by
  unfold closeFrame
  rw [hf]
  dsimp -zeta only
  rw [if_neg (by simp [hended])]
  extract_lets f₁ none' f₂ changed _ logged filled faulted done
  have hlogged : FrameLogged n k logged := ⟨{ f₂ with pixels := [] }, List.mem_cons_self, (frameOf_name hf :), rfl⟩
  have hfaulted : FrameLogged n k faulted :=
    hlogged.same ((frameFault_log _ filled).trans (congrArg Insp.log (zeroFill_insp _ _ logged)))
  have hdone : FrameLogged n k (freeFrames done) := hfaulted.same (by
    show done.insp.log = faulted.insp.log
    unfold done frameDone
    split
    · rw [ev_insp]
    · rfl)
  exact hdone.assignSlices.same (noteBacklog_log _)

/-- A Frame End of a sensor whose open frame has started closes it. -/
theorem frameEndStep_closes {c vc n : Nat} {f : Frame} {s : State} (hon : sensorOn s c vc = some n) (hdiscard : (s.sensor n).discard = false)
    (hopen : openOf s n = some f) (hstarted : f.started = true) :
    frameEndStep c vc s = closeFrame n f.frame (if f.lines < f.linesCfg then [ffShort] else []) s := by
  unfold frameEndStep
  simp only [hon, hdiscard, hopen, hstarted, Bool.false_eq_true, if_false, if_true]

/-- A Frame End after a discarded frame ends the discarding. -/
theorem frameEndStep_resumes {c vc n : Nat} {s : State} (hon : sensorOn s c vc = some n) (hdiscard : (s.sensor n).discard = true) :
    frameEndStep c vc s = s.setSensor n { s.sensor n with discard := false } := by
  unfold frameEndStep
  simp only [hon, hdiscard, if_true]

/-! ### Frames that start late (R403) -/

/-- Every frame with this sensor and number is marked late. -/
def FrameLate (n : Nat) (k : BitVec 32) (s : State) : Prop := ∀ g ∈ s.insp.frames, g.is n k = true → g.has ffLate = true

theorem flag_late_has (f : Frame) : (f.flag ffLate).has ffLate = true := by
  simp [Frame.has, Frame.flag, ffLate]

theorem modFrame_late_self (n : Nat) (k : BitVec 32) (s : State) : FrameLate n k (modFrame n k (Frame.flag ffLate) s) := by
  intro g hg hname
  obtain ⟨f, -, rfl⟩ := List.mem_map.mp hg
  split at hname
  · rw [if_pos ‹_›]
    exact flag_late_has f
  · exact absurd hname ‹_›

theorem FrameLate.modFrame {n : Nat} {k : BitVec 32} {s : State} (h : FrameLate n k s) (m : Nat) (j : BitVec 32) :
    FrameLate n k (modFrame m j (Frame.flag ffLate) s) := by
  intro g hg hname
  obtain ⟨f, hf, rfl⟩ := List.mem_map.mp hg
  split
  · exact flag_late_has f
  · rw [if_neg ‹_›] at hname
    exact h f hf hname

/-- A frame that waits for its start past the window is marked late. -/
theorem startWindowStep_late {c : Nat} {f : Frame} {s : State} (hopen : f ∈ openFrames s) (hport : f.port = c) (hstarted : f.started = false)
    (hlate : f.trigAt + (envAt s (lineOf f.first)).nat 0x8004 c * ns < s.time.now) :
    (startWindowStep c s).store = s.store ∧ ∃ g ∈ (startWindowStep c s).insp.frames, g.is f.sensor f.frame = true ∧ g.has ffLate = true := by
  have hmem : f ∈ (openFrames s).filter (fun f => f.port == c && !f.started &&
      decide (f.trigAt + (envAt s (lineOf f.first)).nat 0x8004 c * ns < s.time.now)) := by
    simp [hopen, hport, hstarted, hlate]
  have hmarked : FrameLate f.sensor f.frame (startWindowStep c s) :=
    forAll_reaches_mem (P := FrameLate f.sensor f.frame) hmem (fun t => modFrame_late_self _ _ t) (fun _ _ _ h => h.modFrame _ _) s
  have hthere : ∃ g ∈ (startWindowStep c s).insp.frames, g.is f.sensor f.frame = true := by
    refine forAll_induct (P := fun t => ∃ g ∈ t.insp.frames, g.is f.sensor f.frame = true) (fun a t ht => ?_) _ s
      ⟨f, (List.mem_filter.mp hopen).1, by simp [Frame.is]⟩
    obtain ⟨g, hg, hname⟩ := ht
    refine ⟨_, List.mem_map_of_mem hg, ?_⟩
    split <;> exact hname
  obtain ⟨g, hg, hname⟩ := hthere
  exact ⟨forAll_induct (P := fun t => t.store = s.store) (f := fun (f : Frame) t => modFrame f.sensor f.frame (Frame.flag ffLate) t) (fun _ _ h => h) _ s rfl, g, hg, hname, hmarked g hg hname⟩

/-! ### The commands -/

theorem exec_frameStart {dt : Nat} {s : State} (h : captureRuns s = true) (port : Fin 4) (p : ShortPacket) :
    exec (.frameStart dt port p) s = .next (headerFixed port p.vc p.eccFixed (frameStartStep port p.vc (tick dt s))) := by
  unfold exec execFrameStart
  exact guardOk_of (by exact h) _ _

theorem exec_frameEnd {dt : Nat} {s : State} (h : captureRuns s = true) (port : Fin 4) (p : ShortPacket) :
    exec (.frameEnd dt port p) s = .next (frameEndStep port p.vc (headerFixed port p.vc p.eccFixed (tick dt s))) := by
  unfold exec execFrameEnd
  exact guardOk_of (by exact h) _ _

/-- Settles O47: each packet by the step that takes it; a corrected header, before or after it, leaves how far each frame has come. -/
theorem cameraFramesAreTaken : Obligations.CameraFramesAreTaken := by
  intro dt port vc s hruns
  have hcapture : captureRuns (tick dt s) = true := hruns
  have hexec := guardOk_of hcapture
  refine ⟨fun n f ecc hon hopen hstarted => ?start, fun n ecc hon hopen => ?stray, fun n f dtype pixels hon hsram hdiscard hopen hfind hstarted
    htype hroom hnext hwidth => ?line, fun hon dtype pixels => ?none, ⟨?header, fun why hwhy hon => ?packet⟩,
    fun n f ecc hon hdiscard hopen hfind hstarted => ?ended, fun n hon hdiscard => ?resumes, fun f hf hport hstarted hlate => ?late⟩
  case start =>
    obtain ⟨g, hfind, hg, hdiscard, hstore⟩ := frameStartStep_starts (s := tick dt s) hon hopen hstarted
    have hkept := headerFixed_kept port vc ecc (frameStartStep port vc (tick dt s))
    obtain ⟨g', hfind', hstage⟩ := hkept.frameOf hfind
    simp only [Frame.stage, Prod.mk.injEq] at hstage
    exact ⟨_, g', exec_frameStart hruns _ _, hfind', hstage.2.2.1.trans hg, by rw [hkept.sensor]; exact hdiscard, hkept.store.trans hstore⟩
  case stray =>
    have hkept := headerFixed_kept port vc ecc (frameStartStep port vc (tick dt s))
    have hstep := frameStartStep_strays (s := tick dt s) hon hopen
    refine ⟨_, exec_frameStart hruns _ _, ?_, ?_⟩
    · rw [hkept.sensor, hstep, channelError_sensor]
      exact congrArg Sensor.discard (State.setSensor_sensor ..)
    · rw [hkept.errors _ _ 5 (by decide) (by decide), hstep, channelError_counts]
      rfl
  case line =>
    obtain ⟨line, hinsp⟩ := takeCameraLine_insp (n := n) (s := tick dt s) hsram hroom hnext hwidth
    rw [← cameraLineStep_takes (s := tick dt s) hon hdiscard hopen hstarted htype] at hinsp
    have hfound : frameOf (cameraLineStep port vc dtype pixels true false [] (tick dt s)) n f.frame = some (withLine f dtype line f) := by
      rw [Machine.frameOf, hinsp, ← Machine.frameOf, frameOf_modFrame (g := withLine f dtype line) _ (fun _ _ _ => rfl)]
      exact congrArg (Option.map _) hfind
    exact ⟨_, _, hexec _ _, hfound, rfl, rfl, (congrArg Insp.errors hinsp :)⟩
  case none =>
    refine (hexec _ _).trans (congrArg _ ?_)
    unfold cameraLineStep
    simp only [hon, Bool.false_eq_true, if_false]
  case header => exact ⟨_, hexec _ _, by rw [packetErrorStep_header_errors]; exact channelError_counts port 0 1 (tick dt s)⟩
  case packet =>
    refine ⟨_, hexec _ _, ?_⟩
    rw [packetErrorStep_stray hwhy hon]
    exact channelError_counts port vc 3 (tick dt s)
  case ended =>
    have hkept := headerFixed_kept port vc ecc (tick dt s)
    obtain ⟨g, hopen', hstage⟩ := hkept.openOf (f := f) hopen
    obtain ⟨x, hfind', hstage'⟩ := hkept.frameOf (f := f) hfind
    simp only [Frame.stage, Prod.mk.injEq] at hstage hstage'
    obtain ⟨-, hframe, hg, -⟩ := hstage
    have hclose := frameEndStep_closes ((hkept.on port vc).trans hon) (by rw [hkept.sensor]; exact hdiscard) hopen' (hg.trans hstarted)
    rw [hframe] at hclose
    refine ⟨_, exec_frameEnd hruns _ _, ?_⟩
    rw [hclose]
    exact closeFrame_logged hfind' (hstage'.2.2.2.trans (openOf_open hopen).2.1) _
  case resumes =>
    have hstep := frameEndStep_resumes (s := tick dt s) hon hdiscard
    refine ⟨_, exec_frameEnd hruns _ _, ?_⟩
    have hheader : headerFixed port vc false (tick dt s) = tick dt s := rfl
    rw [hheader, hstep]
    exact ⟨congrArg Sensor.discard (State.setSensor_sensor ..), rfl⟩
  case late => exact ⟨_, hexec _ _, startWindowStep_late (s := tick dt s) hf hport hstarted hlate⟩

end Sys2Proof.Machine

/-! ## Proofs of the family "closed loop"

A complete bar: what its measurement leaves alone, and how it ends. -/

namespace Sys2Proof.Machine

/-! ### The commits that wait (R303), while a bar is measured -/

/-- A property that each step of a fold keeps, beside what the fold gathers. -/
theorem foldl_snd_induct {α β : Type} {P : State → Prop} {f : β × State → α → β × State} (h : ∀ p a, P p.2 → P (f p a).2) :
    ∀ (l : List α) (p : β × State), P p.2 → P (l.foldl f p).2
  | [], _, hp => hp
  | a :: l, p, hp => foldl_snd_induct h l (f p a) (h p a hp)

theorem Quiet.waiting {s t : State} (q : Quiet s t) : t.proto.waiting = s.proto.waiting := by rw [q.proto]

theorem ev_waiting (c : Nat) (d : BitVec 96) (s : State) (u : BitVec 32) (l : Option Int) (n : Nat) :
    (ev c d s u l n).proto.waiting = s.proto.waiting := (ev_quiet ..).waiting

theorem driftEvent_waiting (b : Bar) (p held : Nat) (s : State) : (driftEvent b p held s).proto.waiting = s.proto.waiting := by
  unfold driftEvent
  extract_lets due
  split
  · rfl
  · rw [ev_waiting]

theorem measurePlane_waiting (b : Bar) (p : Nat) (s : State) : (measurePlane b p s).2.proto.waiting = s.proto.waiting := by
  unfold measurePlane
  extract_lets ms med meds measured ds
  have hmeasured : measured.proto.waiting = s.proto.waiting := by
    refine forAll_induct (P := fun t => t.proto.waiting = s.proto.waiting) (fun m t ht => ?_) ms s rfl
    exact ht
  exact (driftEvent_waiting ..).trans hmeasured

theorem registerRow_waiting (b : Bar) (p u : Nat) (s : State) : (registerRow b p u s).2.proto.waiting = s.proto.waiting := by
  unfold registerRow
  split
  · exact ev_waiting ..
  · extract_lets noted corr
    split
    · rfl
    · split
      · rfl
      · extract_lets held raised
        show raised.proto.waiting = _
        unfold raised
        split
        · exact ev_waiting ..
        · rfl

/-! ### Bars that end (R424, R433, R438) -/

/-- A bar that is skipped is the last bar, with its reason, and is done with. -/
theorem skipBar_spec (b : Bar) (reason : Nat) (s : State) :
    (skipBar b reason s).loop.last.bar = b.j ∧ (skipBar b reason s).loop.last.outcome = 2 ∧ (skipBar b reason s).loop.last.reason = reason ∧
      (skipBar b reason s).loop.bars = s.loop.bars.filter (fun x => x.j != b.j) := by
  simp [skipBar, dropBar]

/-- What is left of a bar that has been measured: it is the last bar; only in closed-loop mode does it change more, or wait for its commit. -/
structure BarMeasured (b : Bar) (s t : State) : Prop where
  bar : t.loop.last.bar = b.j
  outcome : t.loop.last.outcome = 0 ∨ t.loop.last.outcome = 1 ∨ t.loop.last.outcome = 4
  reports : b.mode ≠ 2 → t.loop.last.outcome = 1 ∧ t.proto.waiting = s.proto.waiting

theorem measureBar_measured (b : Bar) (s : State) : BarMeasured b s (measureBar b s) := by
  unfold measureBar
  extract_lets s₀
  split
  next ds s₁ hplanes =>
  have h₁ : s₁.proto.waiting = s.proto.waiting := by
    have hfold := foldl_snd_induct (P := fun t => t.proto.waiting = s.proto.waiting)
      (f := fun (a : List Decision × State) p => (a.1 ++ (measurePlane b p a.2).1, (measurePlane b p a.2).2))
      (fun p a h => (measurePlane_waiting b a p.2).trans h) b.slots.eraseDups ([], s₀) (ev_waiting ..)
    exact (congrArg (fun p => p.2.proto.waiting) hplanes).symm.trans hfold
  split
  next vs s₂ hrows =>
  have h₂ : s₂.proto.waiting = s.proto.waiting := by
    have hfold := foldl_snd_induct (P := fun t => t.proto.waiting = s.proto.waiting)
      (f := fun (a : List (Nat × Int) × State) (r : Nat × Nat) =>
        ((match (registerRow b r.1 r.2 a.2).1 with | some x => a.1 ++ [(r.2, x)] | none => a.1), (registerRow b r.1 r.2 a.2).2))
      (fun p a h => (registerRow_waiting b a.1 a.2 p.2).trans h) (markRows s₁ b) ([], s₁) h₁
    exact (congrArg (fun p => p.2.proto.waiting) hrows).symm.trans hfold
  extract_lets noz ws free freeW last
  split
  · exact ⟨rfl, .inr (.inl rfl), fun _ => ⟨rfl, h₂⟩⟩
  next hmode =>
  have hclosed : b.mode = 2 := by simpa using hmode
  split
  · exact ⟨rfl, .inl rfl, fun h => absurd hclosed h⟩
  · exact ⟨(congrArg (·.last.bar) (mirror_calm ..).loop).trans rfl, .inr (.inr ((congrArg (·.last.outcome) (mirror_calm ..).loop).trans rfl)),
      fun h => absurd hclosed h⟩

/-- Settles O49: a bar that finds a reason, or no ink, is skipped; any other is measured. -/
theorem loopBarsAreMeasured : Obligations.LoopBarsAreMeasured := by
  intro dt b s hidle hruns hbar
  have hexec : exec (.loopBar dt) s = .next (loopBarStep (tick dt s)) := guardOk_of (by simp [hidle, show captureRuns (tick dt s) = true from hruns]) _ _
  rw [hexec]
  have hbar' : (tick dt s).loop.bars.find? (barComplete (tick dt s)) = some b := hbar
  refine ⟨fun hwhy => ⟨_, rfl, ?_⟩, fun hwhy hink => ⟨_, rfl, ?_⟩, fun hwhy hink => ⟨_, rfl, ?_⟩⟩
  · simp only [loopBarStep, hbar', hwhy, ne_eq, not_false_eq_true, if_true]
    exact skipBar_spec b _ (tick dt s)
  · simp only [loopBarStep, hbar', hwhy, hink, ne_eq, not_true_eq_false, if_false, if_true]
    exact skipBar_spec b 2 (tick dt s)
  · simp only [loopBarStep, hbar', hwhy, hink, ne_eq, not_true_eq_false, if_false, Bool.false_eq_true]
    obtain ⟨hlast, houtcome, hreports⟩ := measureBar_measured b (tick dt s)
    exact ⟨hlast, houtcome, hreports⟩

end Sys2Proof.Machine

/-! ## Proofs of the family "network time"

Captures, process data and correlations; the messages of the clock; and the host's commands to the clock and its streams. -/

namespace Sys2Proof.Machine

/-! ### Captures (R454, R455) -/

/-- R455: a capture takes the next number; it is queued where there is room, and flagged where there is none. -/
theorem capture_evt (n : Nat) (rising : Bool) (ago : Nat) (dev : Int) (s : State) :
    ∃ c raised, c.seq = (s.evt n).seq ∧ c.edge = (if rising then 1 else 2) ∧ (capture n rising ago dev s).evt n =
      { s.evt n with
        seq := (s.evt n).seq + 1
        queue := if decide (64 ≤ (s.evt n).queue.length) && !popsNow s 0x9052 n then (s.evt n).queue else (s.evt n).queue ++ [c]
        status := if decide (64 ≤ (s.evt n).queue.length) && !popsNow s 0x9052 n then (s.evt n).status.set s.time.now 0 else (s.evt n).status
        raised := raised } := by
  unfold capture
  extract_lets x t flags c full x' recent
  by_cases hloud : bitOn (cfg s 0x9050 n) 2 = true ∧ recent.length < 1000
  · exact ⟨c, _, rfl, rfl, by rw [if_pos hloud, State.evt, ev_time, ← State.evt, State.setEvt_evt]⟩
  · exact ⟨c, _, rfl, rfl, by rw [if_neg hloud, State.setEvt_evt]⟩

/-- A flag that is set is on. -/
theorem Flags.on_set (now : Nat) (f : Flags) : (f.set now 0).on 0 = true := by
  simp [Flags.on, Flags.set]

/-- The state once the filter has accepted an edge. -/
def edgeTaken (n : Nat) (rising : Bool) (s : State) : State :=
  s.setEvt n { s.evt n with level := some rising, edgeAt := some (s.time.now - evtDelay s n) }

/-- R454, R512: in Run and Idle an accepted edge is captured where its direction is enabled, and wakes nothing. -/
theorem evtEdge_eq {s : State} (hpower : s.power.state ≤ 1) (n : Nat) (rising : Bool) (dev : Int) (crystal : Bool) :
    evtEdge n rising dev crystal s =
      if evtEnabled s n rising then capture n rising (evtDelay (edgeTaken n rising s) n) dev (edgeTaken n rising s) else edgeTaken n rising s := by
  have hcalm : ∀ ago t, (capture n rising ago dev t).power = t.power := fun ago t => by
    unfold capture
    extract_lets
    split
    · exact ev_power ..
    · rfl
  have henabled : evtEnabled (edgeTaken n rising s) n rising = evtEnabled s n rising := rfl
  unfold evtEdge
  extract_lets at' _ taken enabled done
  have hdone : done.power = s.power := by
    unfold done
    split
    · exact hcalm ..
    · rfl
  rw [if_neg (by rw [hdone]; omega)]
  rfl

/-! ### Process data and correlations (R456 to R458) -/

/-- R457: the frame of an instant goes out, and the instant is done with. -/
theorem pdFrame_sent (slot : Nat) (n : Int) (s : State) :
    ∃ fields, Sent (.pd (s.sess slot).peer (s.sess slot).id (BitVec.ofNat 64 (2 ^ 63 + (s.sess slot).devSeq)) fields) s (pdFrame slot n s) ∧
      (pdFrame slot n s).time.pd.lastN = some n ∧ (pdFrame slot n s).axis = s.axis := by
  unfold pdFrame
  extract_lets x t late flags lim fields noted
  exact ⟨fields, sent_emit rfl _, by rw [emit_time]; rfl, by rw [emit_axis]; rfl⟩

/-- R458: a correlation of the interval's latest instant heads the list. -/
theorem correlate_spec (s : State) :
    ∃ c : Corr, (correlate s).time.corr = (c :: s.time.corr).take 16 ∧ c.time = (corrInstant s).toNat ∧ (correlate s).time.stepped = false := by
  unfold correlate
  extract_lets t flags off c
  exact ⟨c, rfl, rfl, rfl⟩

/-- CORRELATION acts on an instant that is new: past the last one kept, or, after a step, another one. -/
theorem exec_correlation (dt : Nat) (s : State) :
    exec (.correlation dt) s = guardOk ((match s.time.corr with
      | c :: _ => decide ((c.time : Int) < corrInstant (tick dt s)) || (s.time.stepped && decide ((c.time : Int) ≠ corrInstant (tick dt s)))
      | [] => true) && decide (s.power.state ≤ 2)) correlate (tick dt s) := by
  unfold exec execCorrelation
  rfl

/-- Settles O51: captures by `capture_evt`, frames by `pdFrame_sent`, correlations by `correlate_spec`. -/
theorem capturesAndCorrelations : Obligations.CapturesAndCorrelations := by
  intro dt s
  refine ⟨fun n dev rising crystal haccepted hpower => ⟨fun henabled => ?captured, fun henabled => ?disabled⟩,
    fun n dev rising crystal haccepted => ?refused, fun slot m hslot hlast hrunning hruns hdue => ?frame, fun hpower hempty => ?first,
    fun c rest hpower hcorr hlater => ?next, fun c rest hcorr hstepped hsame => ?kept⟩
  case captured =>
    have hexec : exec (.evtCapture dt n rising dev crystal) s = .next (evtEdge n rising dev crystal (tick dt s)) :=
      guardOk_of (by simp [haccepted, hpower.trans]) _ _
    have hpower' : (tick dt s).power.state ≤ 1 := hpower
    have henabled' : evtEnabled (tick dt s) n rising = true := henabled
    rw [evtEdge_eq hpower', if_pos henabled'] at hexec
    obtain ⟨c, raised, hseq, hedge, hevt⟩ := capture_evt n rising (evtDelay (edgeTaken n rising (tick dt s)) n) dev (edgeTaken n rising (tick dt s))
    have htaken : (edgeTaken n rising (tick dt s)).evt n =
        { s.evt n with level := some rising, edgeAt := some ((tick dt s).time.now - evtDelay (tick dt s) n) } := State.setEvt_evt ..
    have hpops : popsNow (edgeTaken n rising (tick dt s)) 0x9052 n = popsNow (tick dt s) 0x9052 n := rfl
    rw [htaken] at hevt hseq
    refine ⟨_, hexec, by rw [hevt], by rw [hevt], fun hroom => ⟨c, ?_, hseq, hedge⟩, fun hfull hnone => ?_⟩
    · rw [hevt]
      simp [show ¬64 ≤ (s.evt n).queue.length by omega]
    · rw [hevt]
      simp [hfull, hpops, hnone, Flags.on_set]
  case disabled =>
    have hexec : exec (.evtCapture dt n rising dev crystal) s = .next (evtEdge n rising dev crystal (tick dt s)) :=
      guardOk_of (by simp [haccepted, hpower.trans]) _ _
    have hpower' : (tick dt s).power.state ≤ 1 := hpower
    have henabled' : evtEnabled (tick dt s) n rising = false := henabled
    rw [evtEdge_eq hpower', if_neg (by simp [henabled'])] at hexec
    exact ⟨_, hexec, by rw [edgeTaken, State.setEvt_evt], by rw [edgeTaken, State.setEvt_evt]; rfl⟩
  case refused => exact guardOk_not (by simp [haccepted])
  case frame =>
    have hexec : exec (.pdCycle dt) s = .next (pdFrame slot (m + 1) (tick dt s)) := by
      have hslot' : slotOf (tick dt s) (tick dt s).time.pd.session = some slot := hslot
      have hlast' : (tick dt s).time.pd.lastN = some m := hlast
      have hdue' : pdInstant (tick dt s) (m + 1) * 1000 ≤ devTime (tick dt s) := hdue
      simp only [exec, execPdCycle, hslot', hlast']
      exact guardOk_of (by simp [hdue', show (tick dt s).time.pd.running = true from hrunning, show ptpRuns (tick dt s) = true from hruns]) _ _
    obtain ⟨fields, hsent, hlastN, haxis⟩ := pdFrame_sent slot (m + 1) (tick dt s)
    exact ⟨_, fields, hexec, hlastN, haxis, hsent⟩
  case first =>
    obtain ⟨c, hcorr, htime, hstepped⟩ := correlate_spec (tick dt s)
    refine ⟨_, c, (exec_correlation dt s).trans (guardOk_of (by simp [hempty, hpower]) _ _), ?_, htime, hstepped⟩
    rw [hcorr, show (tick dt s).time.corr = [] from hempty]
    rfl
  case next =>
    obtain ⟨x, htaken, htime, -⟩ := correlate_spec (tick dt s)
    exact ⟨_, x, (exec_correlation dt s).trans (guardOk_of (by simp [hcorr, hpower, hlater]) _ _), htaken, htime⟩
  case kept =>
    have hold : ¬(c.time : Int) < corrInstant (tick dt s) := by omega
    exact (exec_correlation dt s).trans (guardOk_not (by simp [hcorr, hstepped, hold]))

end Sys2Proof.Machine

namespace Sys2Proof.Machine

/-! ### PTP messages (R440 to R449) -/

/-- R142: the state once a PTP message has been counted at its port. -/
def frameCounted (n : Nat) (s : State) : State := s.setPort n { s.port n with stats := tinc (s.port n).stats 0 }

section
variable (n : Nat) (s : State)

@[simp] theorem frameCounted_proto : (frameCounted n s).proto = s.proto := rfl
@[simp] theorem frameCounted_time : (frameCounted n s).time = s.time := rfl
@[simp] theorem frameCounted_ptpPort (k : Nat) : (frameCounted n s).ptpPort k = s.ptpPort k := rfl

@[simp] theorem frameCounted_up (k : Nat) : ((frameCounted n s).port k).up = (s.port k).up := by
  by_cases hk : k = n
  · subst hk; rw [frameCounted, State.setPort_port]
  · rw [frameCounted, State.setPort_port_ne _ _ _ _ hk]

theorem frameCounted_stats : tget 0 ((frameCounted n s).port n).stats 0 = tget 0 (s.port n).stats 0 + 1 := by
  rw [frameCounted, State.setPort_port]
  simp only [tinc, tget_tmod_self]

@[simp] theorem frameCounted_cfg (i j : Nat) : cfg (frameCounted n s) i j = cfg s i j := rfl
@[simp] theorem frameCounted_forwards (k : Nat) : forwards (frameCounted n s) k = forwards s k := rfl
@[simp] theorem frameCounted_isWheeler : isWheeler (frameCounted n s) = isWheeler s := rfl

@[simp] theorem frameCounted_ptpUsed (k : Nat) : ptpUsed (frameCounted n s) k = ptpUsed s k := by
  simp only [ptpUsed, frameCounted_up]
  rfl

@[simp] theorem frameCounted_ptpTakes (m : PtpMsg) : ptpTakes (frameCounted n s) m = ptpTakes s m := by
  simp only [ptpTakes, frameCounted_ptpUsed]
  rfl

@[simp] theorem frameCounted_netMaster : netMaster (frameCounted n s) = netMaster s := by
  simp only [netMaster, frameCounted_ptpUsed, frameCounted_ptpPort]

@[simp] theorem frameCounted_fromMaster (m : PtpMsg) : fromMaster (frameCounted n s) m = fromMaster s m := by
  simp only [fromMaster, portBest, frameCounted_ptpUsed, frameCounted_netMaster, frameCounted_ptpPort]

end

/-- A message of the clock acts on its counted frame. -/
theorem ptpFrame_exec {s : State} (hruns : ptpRuns s = true) (n : Nat) (f : State → State) :
    guardOk (ptpRuns s) (ptpFrame n f) s = .next (f (frameCounted n s)) := guardOk_of hruns _ _

/-! Sync and Follow_Up (R447, R448) -/

/-- A two-step Sync of the master waits for its Follow_Up. -/
theorem syncStep_waits {m : PtpMsg} {s : State} (hforwards : forwards s m.port = false) (htakes : ptpTakes s m = true)
    (hmaster : fromMaster s m = true) (htwo : m.twoStep = true) (ago : Nat) :
    syncStep m ago s = s.setPtpPort m.port { s.ptpPort m.port with sync := some (m.seqId, stampOf s m.port 0 ago, m.correction) } := by
  unfold syncStep
  simp only [hforwards, htakes, hmaster, htwo, Bool.false_eq_true, if_false, Bool.not_true, or_self, if_true]

/-- A one-step Sync of the master gives both instants. -/
theorem syncStep_gives {m : PtpMsg} {s : State} (hforwards : forwards s m.port = false) (htakes : ptpTakes s m = true)
    (hmaster : fromMaster s m = true) (hone : m.twoStep = false) (ago : Nat) :
    syncStep m ago s = s.setPtpPort m.port { s.ptpPort m.port with
      sync := none, t1t2 := some (m.origin * 65536 + m.correction + cfg s 0x9008 m.port * 65536 / 1000, stampOf s m.port 0 ago) } := by
  unfold syncStep
  simp only [hforwards, htakes, hmaster, hone, Bool.false_eq_true, if_false, Bool.not_true, or_self]

/-- The Follow_Up of the Sync that waits gives both instants. -/
theorem followUpStep_gives {m : PtpMsg} {s : State} {t2 corr : Int} (hforwards : forwards s m.port = false) (htakes : ptpTakes s m = true)
    (hmaster : fromMaster s m = true) (hsync : (s.ptpPort m.port).sync = some (m.seqId, t2, corr)) :
    followUpStep m s = s.setPtpPort m.port { s.ptpPort m.port with
      sync := none, t1t2 := some (m.origin * 65536 + m.correction + corr + cfg s 0x9008 m.port * 65536 / 1000, t2) } := by
  unfold followUpStep
  simp only [hforwards, htakes, hmaster, hsync, Bool.false_eq_true, if_false, Bool.not_true, or_self, if_true]

/-! Measurements (R448, R449) -/

/-- What the judgement of an offset leaves alone: the path delay, and which ports wait for no Delay_Resp. -/
structure OffsetKept (s t : State) : Prop where
  path : t.time.pathDelay = s.time.pathDelay
  idle : ∀ m, (s.ptpPort m).delayReq = none → (t.ptpPort m).delayReq = none

/-- An update of other fields. -/
theorem OffsetKept.same {s t : State} (h : (t.time.pathDelay, t.time.ports) = (s.time.pathDelay, s.time.ports)) : OffsetKept s t := by
  obtain ⟨hpath, hports⟩ := Prod.mk.inj h
  exact ⟨hpath, fun m => by rw [State.ptpPort, State.ptpPort, hports]; exact id⟩

theorem OffsetKept.refl (s : State) : OffsetKept s s := .same rfl

theorem OffsetKept.trans {s t u : State} (g : OffsetKept t u) (h : OffsetKept s t) : OffsetKept s u :=
  ⟨g.path.trans h.path, fun m hm => g.idle m (h.idle m hm)⟩

theorem ite_offset {c : Prop} [Decidable c] {s t u : State} (ht : OffsetKept s t) (hu : OffsetKept s u) : OffsetKept s (if c then t else u) := by
  split <;> assumption

theorem ev_offset (c : Nat) (d : BitVec 96) (s : State) (u : BitVec 32) (l : Option Int) (n : Nat) : OffsetKept s (ev c d s u l n) :=
  .same (by rw [ev_time])

theorem mirrorTime_offset (accepted : Bool) (s : State) : OffsetKept s (mirrorTime s accepted) := .same (by rw [(mirrorTime_spec accepted s).2])

theorem setServo_offset (st : Nat) (s : State) : OffsetKept s (setServo st s) := by
  unfold setServo
  extract_lets hist avg _ changed
  refine ite_offset (.refl s) ((mirrorTime_offset ..).trans ((ev_offset ..).trans ?_))
  exact .same rfl

theorem trigMiss_offset (n m : Nat) (s : State) : OffsetKept s (trigMiss n m s) := by
  unfold trigMiss
  extract_lets t t' due
  have hset : ∀ y : Trig, OffsetKept s (s.setTrig n y) := fun _ => .same rfl
  exact ite_offset (.refl s) (ite_offset ((ev_offset ..).trans (hset _)) (hset _))

/-- R450: a step voids what the ports measure, and no path delay. -/
theorem stepTime_offset (d : Int) (reason : Nat) (s : State) : OffsetKept s (stepTime d reason s) := by
  unfold stepTime
  extract_lets _ stepped missed p n passed _ advanced voided
  have hstepped : OffsetKept s stepped := .same rfl
  have hmissed : OffsetKept s missed := by
    refine forAll_induct (P := OffsetKept s) (fun k t ht => ?_) _ _ hstepped
    have hset : ∀ y : Trig, OffsetKept t (t.setTrig k y) := fun _ => .same rfl
    exact ite_offset ((trigMiss_offset ..).trans ((hset _).trans ht)) ht
  have hadvanced : OffsetKept s advanced :=
    ite_offset hstepped (ite_offset (OffsetKept.trans (t := missed) (.same rfl) hmissed) hmissed)
  have hvoided : OffsetKept s voided := by
    refine forAll_induct (P := OffsetKept s) (fun k t ht => ?_) _ _ hadvanced
    refine OffsetKept.trans (t := t) ⟨rfl, fun m hm => ?_⟩ ht
    by_cases hk : m = k
    · subst hk; rw [State.setPtpPort_ptpPort]
    · rwa [State.setPtpPort_ptpPort_ne _ _ _ _ hk]
  exact (ev_offset ..).trans hvoided

theorem stepBy_offset (x : Int) (reason : Nat) (s : State) : OffsetKept s (stepBy x reason s) :=
  (setServo_offset ..).trans (OffsetKept.trans (t := stepTime (-(psOf x)) reason s) (.same rfl) (stepTime_offset ..))

theorem newFreq_offset (s : State) : OffsetKept s (newFreq s) := .same rfl

theorem judgeOffset_offset (x : Int) (s : State) : OffsetKept s (judgeOffset x s) := by
  unfold judgeOffset
  extract_lets _ noted size jump slew _ within estimated servo n _ locked k beyond _ pending
  have hnoted : OffsetKept s noted := .same rfl
  have hwithin : OffsetKept s within := OffsetKept.trans (t := noted) (.same rfl) hnoted
  have hservo : OffsetKept s servo :=
    ite_offset ((setServo_offset 1 estimated).trans ((newFreq_offset within).trans hwithin)) ((newFreq_offset within).trans hwithin)
  have hlocked : OffsetKept s locked := OffsetKept.trans (t := servo) (.same rfl) hservo
  have hbeyond : OffsetKept s beyond := OffsetKept.trans (t := noted) (.same rfl) hnoted
  have hpending : OffsetKept s pending := OffsetKept.trans (t := beyond) (.same rfl) hbeyond
  refine ite_offset ((stepBy_offset ..).trans hnoted) (ite_offset (ite_offset ((stepBy_offset ..).trans hwithin)
    (ite_offset hservo (ite_offset ((setServo_offset ..).trans hlocked) hlocked))) ?_)
  exact ite_offset ((mirrorTime_offset ..).trans hpending) (ite_offset hbeyond ((ev_offset ..).trans ((setServo_offset ..).trans hpending)))

/-- R448, R449: the Delay_Resp that answers the port's own Delay_Req gives the path delay, half of what the two ways take, and the port waits no
longer. -/
theorem delayRespStep_measures {m : PtpMsg} {s : State} {t1 t2 t3 : Int} (htakes : ptpTakes s m = true) (hmaster : fromMaster s m = true)
    (hclock : m.reqClock = ownClock) (hport : m.reqPort = m.port + 1) (hsync : (s.ptpPort m.port).t1t2 = some (t1, t2))
    (hreq : (s.ptpPort m.port).delayReq = some (m.seqId, t3)) :
    ((delayRespStep m s).ptpPort m.port).delayReq = none ∧ (delayRespStep m s).time.pathDelay =
      (((t2 - t1) + ((m.origin * 65536 - m.correction + cfg s 0x9008 m.port * 65536 / 1000) - t3)) / 2 / 65536).toNat := by
  have hforwarded : ∀ u, u = (if forwards s m.port = true then forwardGeneral m 9 m.correction s else s) → u.time.ports = s.time.ports ∧
      ptpTakes u m = true ∧ fromMaster u m = true ∧ ∀ i j, cfg u i j = cfg s i j := by
    rintro u rfl
    split
    · exact ⟨rfl, htakes, hmaster, fun _ _ => rfl⟩
    · exact ⟨rfl, htakes, hmaster, fun _ _ => rfl⟩
  unfold delayRespStep
  extract_lets n u p
  obtain ⟨hports, htakes', hmaster', hcfg⟩ := hforwarded u rfl
  have hp : p = s.ptpPort m.port := by rw [State.ptpPort, ← hports]; rfl
  have hsync' : p.t1t2 = some (t1, t2) := by rw [hp]; exact hsync
  have hreq' : p.delayReq = some (m.seqId, t3) := by rw [hp]; exact hreq
  rw [hsync', hreq']
  dsimp only
  rw [if_neg (by simp [htakes', hmaster', hclock, hport, n])]
  refine ⟨(judgeOffset_offset ..).idle _ ?_, (judgeOffset_offset ..).path.trans ?_⟩
  · exact congrArg PtpPort.delayReq (State.setPtpPort_ptpPort ..)
  · rw [← hcfg 0x9008 m.port]

/-- R440, R447: a master answers a Delay_Req with the instant at which it came in. -/
theorem delayReqStep_answers {m : PtpMsg} {s : State} (hforwards : forwards s m.port = false) (htakes : ptpTakes s m = true)
    (hstate : (s.ptpPort m.port).state = 6) (ago : Nat) :
    ∃ body, delayReqStep m ago s = emit (.ptp m.port 9 m.seqId m.correction body) s := by
  unfold delayReqStep
  simp only [hforwards, htakes, hstate, Bool.false_eq_true, if_false, and_self, if_true]
  exact ⟨_, rfl⟩

/-! Masters that are heard (R440, R442, R448) -/

/-- The masters that each port has heard of are as they were. -/
def ForeignKept (s t : State) : Prop := ∀ m, (t.ptpPort m).foreign = (s.ptpPort m).foreign

theorem ForeignKept.refl (s : State) : ForeignKept s s := fun _ => rfl

theorem ForeignKept.trans {s t u : State} (g : ForeignKept t u) (h : ForeignKept s t) : ForeignKept s u := fun m => (g m).trans (h m)

theorem ite_foreign {c : Prop} [Decidable c] {s t u : State} (ht : ForeignKept s t) (hu : ForeignKept s u) : ForeignKept s (if c then t else u) := by
  split <;> assumption

theorem setPtpPort_foreign {n : Nat} {x : PtpPort} {s : State} (h : x.foreign = (s.ptpPort n).foreign) : ForeignKept s (s.setPtpPort n x) := fun m => by
  by_cases hm : m = n
  · subst hm; rw [State.setPtpPort_ptpPort, h]
  · rw [State.setPtpPort_ptpPort_ne _ _ _ _ hm]

theorem decidePorts_foreign (s : State) : ForeignKept s (decidePorts s) := by
  refine forAll_induct (P := ForeignKept s) (fun n t ht => ?_) _ s (.refl s)
  exact ForeignKept.trans (t := t) (setPtpPort_foreign rfl) ht

theorem loseMaster_foreign (s : State) : ForeignKept s (loseMaster s) := by
  unfold loseMaster
  extract_lets _ without
  have hwithout : ForeignKept s without := fun _ => rfl
  have hservo : ForeignKept without (setServo 3 without) := fun m => congrArg PtpPort.foreign ((setServo_spec 3 without).2.2 m)
  exact ite_foreign (hservo.trans hwithout) hwithout

theorem selectMaster_foreign (s : State) : ForeignKept s (selectMaster s) := by
  unfold selectMaster
  extract_lets decided
  have hdecided : ForeignKept s decided := decidePorts_foreign s
  have hlost : ForeignKept s (if decided.time.hasMaster = true then loseMaster decided else decided) :=
    ite_foreign ((loseMaster_foreign decided).trans hdecided) hdecided
  split
  · exact hlost
  · extract_lets gm
    refine ite_foreign hlost (ite_foreign hdecided (ForeignKept.trans ?_ hdecided))
    intro m
    rw [State.ptpPort, ev_time]
    rfl

/-- An Announce of another clock is noted with its data set. -/
theorem announceStep_notes {m : PtpMsg} {d : Dataset} {s : State} (htakes : ptpTakes s m = true) (hclock : m.sourceClock ≠ ownClock)
    (hsteps : d.steps < 255) (hport : m.port.val ≠ 2 ∨ netMaster s = false) :
    ∃ f ∈ ((announceStep m d s).ptpPort m.port).foreign, f.identity = m.sourceClock ∧ f.lastHeard = s.time.now ∧
      f.rank = [d.priority1, d.clockClass, d.accuracy, d.variance, d.priority2, d.identity.toNat, d.steps] := by
  unfold announceStep
  extract_lets n u p rank old heard f
  have hu : ptpTakes u m = true ∧ u.time.now = s.time.now ∧ (n ≠ 2 ∨ netMaster u = false) := by
    unfold u
    split
    · exact ⟨htakes, rfl, hport⟩
    · exact ⟨htakes, rfl, hport⟩
  obtain ⟨htakes', hnow, hport'⟩ := hu
  rw [if_neg (by rcases hport' with h | h <;> simp [htakes', hclock, h] <;> omega)]
  refine ⟨f, ?_, rfl, hnow, rfl⟩
  rw [selectMaster_foreign, State.setPtpPort_ptpPort]
  exact List.mem_append_right _ (List.mem_singleton.mpr rfl)

/-- R448: no port keeps a master that has been silent for too long. -/
theorem dropMasters_heard_of (s : State) {n : Nat} (hn : n < 3) {f : Foreign} (hf : f ∈ ((dropMasters s).ptpPort n).foreign) :
    s.time.now < f.lastHeard + (cfgElem s 0x9005 0 3).toNat * announcePs s := by
  unfold dropMasters at hf
  extract_lets limit kept selected at hf
  have hlost : ForeignKept kept (if selected.time.hasMaster = true then selected else loseMaster selected) :=
    ite_foreign (selectMaster_foreign kept) ((loseMaster_foreign selected).trans (selectMaster_foreign kept))
  rw [hlost n] at hf
  have hnow : kept.time.now = s.time.now := by
    refine forAll_induct (P := fun t => t.time.now = s.time.now) (fun k t ht => ?_) _ s rfl
    exact ht
  have hheard : ∀ f ∈ (kept.ptpPort n).foreign, kept.time.now < f.lastHeard + limit := by
    refine forAll_reaches_mem (P := fun t => ∀ f ∈ (t.ptpPort n).foreign, t.time.now < f.lastHeard + limit) (a := n)
      (by simp; omega) (fun t f hf => ?_) (fun k _ t ht f hf => ?_) s
    · rw [State.setPtpPort_ptpPort] at hf
      dsimp only at hf
      split at hf
      · exact of_decide_eq_true (List.mem_filter.mp hf).2
      · simp at hf
    · by_cases hk : n = k
      · subst hk
        rw [State.setPtpPort_ptpPort] at hf
        dsimp only at hf
        split at hf
        · exact of_decide_eq_true (List.mem_filter.mp hf).2
        · simp at hf
      · rw [State.setPtpPort_ptpPort_ne _ _ _ _ hk] at hf
        exact ht f hf
  rw [← hnow]
  exact hheard f hf

/-! Messages that a port sends (R440, R444, R447) -/

/-- A stamp that is queued leaves its port's numbers and requests, the configuration, and what has gone out. -/
structure StampKept (n : Nat) (s t : State) : Prop where
  syncSeq : (t.ptpPort n).syncSeq = (s.ptpPort n).syncSeq
  delayReq : (t.ptpPort n).delayReq = (s.ptpPort n).delayReq
  cfg : t.proto.cfg = s.proto.cfg
  tx : TxKept s t

theorem pushStamp_kept (n msgType : Nat) (byHost : Bool) (domain seqId : Nat) (s : State) :
    StampKept n s (pushStamp n msgType byHost domain seqId s) := by
  have htx : TxKept s (pushStamp n msgType byHost domain seqId s) := (pushStamp_keeps _ _ _ _ _ _ (Keeps.refl s)).tx
  have hset : ∃ x : PtpPort, (pushStamp n msgType byHost domain seqId s).ptpPort n = x ∧ x.syncSeq = (s.ptpPort n).syncSeq ∧
      x.delayReq = (s.ptpPort n).delayReq ∧ (pushStamp n msgType byHost domain seqId s).proto.cfg = s.proto.cfg := by
    unfold pushStamp
    extract_lets p q due
    split
    · exact ⟨_, State.setPtpPort_ptpPort .., rfl, rfl, rfl⟩
    · split
      · refine ⟨{ q with txAt := some s.time.now }, ?_, rfl, rfl, by rw [ev_cfg]; rfl⟩
        rw [State.ptpPort, ev_time, ← State.ptpPort, State.setPtpPort_ptpPort]
      · exact ⟨_, State.setPtpPort_ptpPort .., rfl, rfl, rfl⟩
  obtain ⟨x, hport, hseq, hreq, hcfg⟩ := hset
  exact ⟨by rw [hport, hseq], by rw [hport, hreq], hcfg, htx⟩

theorem Sent.mono {o : Output} {s t u : State} (h : Sent o s t) (k : TxKept t u) : Sent o s u := k _ h

/-- What a master sends as Sync: the message, its stamp, and the Follow_Up with the instant. -/
def sendSync (n : Nat) (q : BitVec 16) (s : State) : State :=
  emit (.ptp n 8 q.toNat 0 (natBytes 10 (stampOf s n 1 0 / 65536).toNat)) (emit (.ptp n 0 q.toNat 0 [])
    (pushStamp n 0 false (cfgN s 0x9001 0) q.toNat (s.setPtpPort n { s.ptpPort n with syncSeq := q + 1 })))

theorem sendSync_spec (n : Nat) (q : BitVec 16) (s : State) :
    ∃ body, Sent (.ptp n 0 q.toNat 0 []) s (sendSync n q s) ∧ Sent (.ptp n 8 q.toNat 0 body) s (sendSync n q s) ∧
      ((sendSync n q s).ptpPort n).syncSeq = q + 1 := by
  have hkept := pushStamp_kept n 0 false (cfgN s 0x9001 0) q.toNat (s.setPtpPort n { s.ptpPort n with syncSeq := q + 1 })
  unfold sendSync
  generalize natBytes 10 (stampOf s n 1 0 / 65536).toNat = body
  revert hkept
  generalize pushStamp n 0 false (cfgN s 0x9001 0) q.toNat (s.setPtpPort n { s.ptpPort n with syncSeq := q + 1 }) = stamped
  intro hkept
  have hsync : Sent (.ptp n 0 q.toNat 0 []) s (emit (.ptp n 0 q.toNat 0 []) stamped) := sent_emit hkept.cfg _
  have hseq : (stamped.ptpPort n).syncSeq = q + 1 := by rw [hkept.syncSeq, State.setPtpPort_ptpPort]
  have hfollow := sent_emit (s := s) (t := emit (.ptp n 0 q.toNat 0 []) stamped) hkept.cfg (.ptp n 8 q.toNat 0 body)
  exact ⟨body, hsync.mono (emit_tx _ _), hfollow, hseq⟩

/-- A master sends Sync, and Follow_Up with its instant. -/
theorem ptpSendStep_sync {n : Nat} {s : State} (hstate : (s.ptpPort n).state = 6) : ptpSendStep n 0 s = sendSync n (s.ptpPort n).syncSeq s := by
  unfold ptpSendStep sendSync
  simp only [hstate, OfNat.ofNat_ne_one, if_false]

/-- A master sends Announce. -/
theorem ptpSendStep_announce {n : Nat} {s : State} (hstate : (s.ptpPort n).state = 6) :
    ∃ body, Sent (.ptp n 11 (s.ptpPort n).annSeq.toNat 0 body) s (ptpSendStep n 11 s) ∧
      ((ptpSendStep n 11 s).ptpPort n).annSeq = (s.ptpPort n).annSeq + 1 := by
  unfold ptpSendStep
  simp only [hstate, OfNat.ofNat_ne_one, if_false]
  exact ⟨_, sent_emit rfl _, congrArg PtpPort.annSeq (State.setPtpPort_ptpPort ..)⟩

/-- A follower sends Delay_Req and waits for its answer. -/
theorem ptpSendStep_delayReq {n : Nat} {s : State} (hstate : (s.ptpPort n).state = 9) :
    ∃ x, Sent (.ptp n 1 (s.ptpPort n).reqSeq.toNat 0 []) s (ptpSendStep n 1 s) ∧
      ((ptpSendStep n 1 s).ptpPort n).delayReq = some ((s.ptpPort n).reqSeq.toNat, x) := by
  unfold ptpSendStep
  simp only [hstate, OfNat.ofNat_ne_one, if_false]
  exact ⟨_, sent_emit (pushStamp_kept ..).cfg _, (pushStamp_kept ..).delayReq.trans (congrArg PtpPort.delayReq (State.setPtpPort_ptpPort ..))⟩

/-- Any other message is dropped and counted. -/
theorem ptpOtherStep_counts (n msgType : Nat) (s : State) :
    ((ptpOtherStep n msgType s).ptpPort n).discarded = (s.ptpPort n).discarded + 1 ∧ (ptpOtherStep n msgType s).ports = s.ports := by
  unfold ptpOtherStep
  extract_lets _ sent
  have hsent : sent.time.ports = s.time.ports ∧ sent.ports = s.ports := by
    unfold sent
    split <;> exact ⟨rfl, rfl⟩
  refine ⟨?_, hsent.2⟩
  rw [ptpDrop, State.setPtpPort_ptpPort, State.ptpPort, hsent.1, ← State.ptpPort]

theorem exec_ptpSendInterval {dt : Nat} {s : State} (port : Fin 3) (msgType : Nat) (hruns : ptpRuns s = true) (hrole : timeRole s ≠ 0) :
    exec (.ptpSendInterval dt port msgType) s = .next (ptpSendStep port msgType (tick dt s)) := by
  have hguard : (ptpRuns (tick dt s) && timeRole (tick dt s) != 0) = true :=
    Bool.and_eq_true_iff.mpr ⟨hruns, bne_iff_ne.mpr hrole⟩
  exact guardOk_of hguard _ _

/-- Settles O50: each message by the step that takes it, on its counted frame; each time-out by what it lets go. -/
theorem ptpMessagesAndTimers : Obligations.PtpMessagesAndTimers := by
  refine ⟨fun dt m s hruns htakes => ?messages, fun dt s => ⟨fun port hruns hrole hstate => ⟨?sync, ?announce⟩, fun port hruns hrole hstate => ?request,
    fun port msgType hruns => ?other, ⟨_, rfl, rfl, rfl, rfl⟩, ⟨_, rfl, fun n hn f hf => dropMasters_heard_of (tick dt s) hn hf⟩⟩⟩
  case messages =>
    have hexec := fun n f => ptpFrame_exec (s := tick dt s) hruns n f
    have htakes' : ptpTakes (frameCounted m.port (tick dt s)) m = true := (frameCounted_ptpTakes ..).trans htakes
    have hmaster' : fromMaster s m = true → fromMaster (frameCounted m.port (tick dt s)) m = true := (frameCounted_fromMaster ..).trans
    refine ⟨fun ago hforwards hmaster htwo => ?waits, fun ago hforwards hmaster hone => ?gives, fun t2 corr hforwards hmaster hsync => ?follow,
      fun t1 t2 t3 hmaster hclock hport hsync hreq => ?measures, fun ago hforwards hstate => ?answers, fun d hclock hsteps hport => ?notes⟩
    case waits =>
      have hstep := syncStep_waits (s := frameCounted m.port (tick dt s)) hforwards htakes' (hmaster' hmaster) htwo ago
      refine ⟨_, stampOf (frameCounted m.port (tick dt s)) m.port 0 ago, hexec _ _, ?_⟩
      rw [hstep, State.setPtpPort_ptpPort]
      exact ⟨rfl, rfl, rfl⟩
    case gives =>
      have hstep := syncStep_gives (s := frameCounted m.port (tick dt s)) hforwards htakes' (hmaster' hmaster) hone ago
      refine ⟨_, stampOf (frameCounted m.port (tick dt s)) m.port 0 ago, hexec _ _, ?_⟩
      rw [hstep, State.setPtpPort_ptpPort]
      exact ⟨rfl, rfl⟩
    case follow =>
      have hstep := followUpStep_gives (s := frameCounted m.port (tick dt s)) hforwards htakes' (hmaster' hmaster) hsync
      refine ⟨_, hexec _ _, ?_⟩
      rw [hstep, State.setPtpPort_ptpPort]
      exact ⟨rfl, rfl⟩
    case measures =>
      exact ⟨_, hexec _ _, delayRespStep_measures (s := frameCounted m.port (tick dt s)) htakes' (hmaster' hmaster) hclock hport hsync hreq⟩
    case answers =>
      obtain ⟨body, hstep⟩ := delayReqStep_answers (s := frameCounted m.port (tick dt s)) hforwards htakes' hstate ago
      refine ⟨_, body, hexec _ _, ?_⟩
      rw [hstep]
      exact sent_emit rfl _
    case notes =>
      have hport' : m.port.val ≠ 2 ∨ netMaster (frameCounted m.port (tick dt s)) = false := hport.imp_right (frameCounted_netMaster ..).trans
      exact ⟨_, hexec _ _, announceStep_notes htakes' hclock hsteps hport'⟩
  case sync =>
    obtain ⟨body, hsent, hfollow, hseq⟩ := sendSync_spec port ((tick dt s).ptpPort port).syncSeq (tick dt s)
    rw [← ptpSendStep_sync (s := tick dt s) hstate] at hsent hfollow hseq
    exact ⟨_, body, exec_ptpSendInterval port 0 hruns hrole, hsent, hfollow, hseq⟩
  case announce =>
    obtain ⟨body, hsent, hseq⟩ := ptpSendStep_announce (s := tick dt s) hstate
    exact ⟨_, body, exec_ptpSendInterval port 11 hruns hrole, hsent, hseq⟩
  case request =>
    obtain ⟨x, hsent, hreq⟩ := ptpSendStep_delayReq (s := tick dt s) hstate
    exact ⟨_, x, exec_ptpSendInterval port 1 hruns hrole, hsent, hreq⟩
  case other =>
    obtain ⟨hdropped, hports⟩ := ptpOtherStep_counts port msgType (frameCounted port (tick dt s))
    refine ⟨_, ptpFrame_exec (s := tick dt s) hruns port _, hdropped, ?_⟩
    rw [State.port, hports]
    exact frameCounted_stats port (tick dt s)

end Sys2Proof.Machine

namespace Sys2Proof.Machine

/-! ### The host's commands to the clock and its streams (R446, R451, R456) -/

/-- A command with an effect of its own at its start passes through a state in which it has begun; `v`: the state that its answer leaves. -/
theorem command_begun {dt : Nat} {r : Req} {c : Command} {recovery : Bool} {k h : Nat} {s u : State} (served : Served dt r recovery k s u)
    (starts : Starts k c.idx c.role c.op h u) (hbad : c.bad u = 0)
    (hbegin : BooksKept (startHandle k c.idx c.op h u) (c.begin h (startHandle k c.idx c.op h u))) :
    ∃ v, command dt r c s recovery = .next (c.after h v) ∧ Quiet (c.begin h (startHandle k c.idx c.op h u)) v ∧
      Answered k r ⟨0x07, 1, .handle (handleWord v h)⟩ v ∧ Running k h c.idx c.op u v ∧
      v.handle h = (startHandle k c.idx c.op h u).handle h := by
  obtain ⟨answered, running⟩ := handle_runs (r := r) (k := k) (h := h) (u := u) (idx := c.idx) (op := c.op) (n := u.pair.txSeq) (hbegin.handle h)
  exact ⟨_, command_next served starts hbad, reply_quiet .., answered, running, (reply_handle ..).trans (hbegin.handle h)⟩

/-- A handle that runs and is answered ends: the answer stands. -/
theorem completeHandle_ends {k h idx : Nat} {op : Op} {r : Req} {u v : State} (answered : Answered k r ⟨0x07, 1, .handle (handleWord v h)⟩ v)
    (running : Running k h idx op u v) (code : Nat) (d : BitVec 96) :
    Answered k r ⟨0x07, 1, .handle (handleWord (completeHandle h code d v) h)⟩ (completeHandle h code d v) ∧
      Completed h code d (completeHandle h code d v) := by
  refine ⟨?_, completeHandle_completed h code d v running.phase⟩
  rw [show handleWord (completeHandle h code d v) h = handleWord v h by rw [handleWord, completeHandle_use, handleWord]]
  exact answered.mono (completeHandle_tx h code d v) (completeHandle_withheld ..)

/-! A jump that is accepted (R450, R451) -/

theorem mirrorTime_books (accepted : Bool) (s : State) : BooksKept s (mirrorTime s accepted) :=
  BooksKept.trans (t := mirror (.time (timeRecord s accepted)) s) (.same rfl) (mirror_books ..)

theorem setServo_books (st : Nat) (s : State) : BooksKept s (setServo st s) := by
  unfold setServo
  extract_lets hist avg _ changed
  exact ite_books (.refl s) ((mirrorTime_books ..).trans ((ev_books ..).trans (.same rfl)))

theorem trigMiss_books (n m : Nat) (s : State) : BooksKept s (trigMiss n m s) := by
  unfold trigMiss
  extract_lets t t' due
  exact ite_books (.refl s) (ite_books ((ev_books ..).trans (.same rfl)) (.same rfl))

/-- What a step of the clock does: it moves the epoch, and keeps the books. -/
structure Stepped (d : Int) (s t : State) : Prop where
  books : BooksKept s t
  epoch : t.time.epoch = s.time.epoch + d

theorem Stepped.andThen {d : Int} {s t u : State} (h : Stepped d s t) (books : BooksKept t u) (epoch : u.time.epoch = t.time.epoch) : Stepped d s u :=
  ⟨books.trans h.books, epoch.trans h.epoch⟩

theorem trigMiss_epoch (n m : Nat) (s : State) : (trigMiss n m s).time.epoch = s.time.epoch := by
  unfold trigMiss
  extract_lets t t' due
  split
  · rfl
  · split
    · rw [ev_time]; rfl
    · rfl

theorem stepTime_stepped (d : Int) (reason : Nat) (s : State) : Stepped d s (stepTime d reason s) := by
  unfold stepTime
  extract_lets _ stepped missed p n passed _ advanced voided
  have hstepped : Stepped d s stepped := ⟨.same rfl, rfl⟩
  have hmissed : Stepped d s missed := by
    refine forAll_induct (P := Stepped d s) (fun k t ht => ?_) _ _ hstepped
    extract_lets e j x
    split
    · exact (ht.andThen (u := t.setTrig k { x with k := j }) (.same rfl) rfl).andThen (trigMiss_books ..) (trigMiss_epoch ..)
    · exact ht
  have hadvanced : Stepped d s advanced := by
    unfold advanced
    split
    · exact hstepped
    · split
      · exact hmissed.andThen (.same rfl) rfl
      · exact hmissed
  have hvoided : Stepped d s voided := by
    refine forAll_induct (P := Stepped d s) (fun k t ht => ?_) _ _ hadvanced
    exact ht.andThen (.same rfl) rfl
  exact hvoided.andThen (ev_books ..) (by rw [ev_time])

/-- R451: the pending step is taken, and the servo starts to follow again. -/
theorem acceptJump_spec (s : State) : BooksKept s (acceptJump s) ∧ (acceptJump s).time.servo = 1 ∧ (acceptJump s).time.outliers = 0 ∧
    (acceptJump s).time.epoch = s.time.epoch + s.time.pendingStep * 1000 := by
  have hstepped := stepTime_stepped (s.time.pendingStep * 1000) 2 s
  have hmirrored : (mirrorTime (stepTime (s.time.pendingStep * 1000) 2 s) true).time = (stepTime (s.time.pendingStep * 1000) 2 s).time :=
    (mirrorTime_spec ..).2
  have hservo : ∀ t : State, (setServo 1 t).time.servo = 1 ∧ (setServo 1 t).time.outliers = t.time.outliers ∧
      (setServo 1 t).time.epoch = t.time.epoch := fun t => by
    unfold setServo
    split
    · exact ⟨‹_›, rfl, rfl⟩
    · extract_lets hist avg _ changed
      rw [(mirrorTime_spec ..).2, ev_time]
      exact ⟨rfl, rfl, rfl⟩
  unfold acceptJump
  extract_lets mirrored _
  refine ⟨?_, ?_, ?_, ?_⟩
  · exact (setServo_books ..).trans (BooksKept.trans (t := mirrored) (.same rfl) ((mirrorTime_books ..).trans hstepped.books))
  · exact (hservo _).1
  · exact (hservo _).2.1
  · exact (hservo _).2.2.trans ((congrArg Timing.epoch hmirrored).trans hstepped.epoch)

/-! Messages of the host (R446) -/

theorem pushStamp_books (n msgType : Nat) (byHost : Bool) (domain seqId : Nat) (s : State) :
    BooksKept s (pushStamp n msgType byHost domain seqId s) := by
  unfold pushStamp
  extract_lets p q due
  exact ite_books (.same rfl) (ite_books ((ev_books ..).trans (.same rfl)) (.same rfl))

theorem sendPtp_books (port : Nat) (msg : List Byte) (s : State) : BooksKept s (sendPtp port msg s) := by
  unfold sendPtp
  extract_lets kind seqId stamped
  exact (emit_books ..).trans (ite_books (pushStamp_books ..) (.refl s))

theorem sendPtp_sent (port : Nat) (msg : List Byte) (s : State) :
    Sent (.ptp port ((msg.getD 0 0).toNat % 16) (beNat ((msg.drop 30).take 2)) 0 msg) s (sendPtp port msg s) := by
  unfold sendPtp
  extract_lets kind seqId stamped
  refine sent_emit ?_ _
  unfold stamped
  split
  · exact (pushStamp_kept ..).cfg
  · rfl

theorem Quiet.sent {o : Output} {s t u : State} (q : Quiet s t) (h : Sent o t u) : Sent o s u := by
  rw [Sent, ← withTag_congr (show t.proto.cfg = s.proto.cfg by rw [q.proto])]
  exact h

/-- Settles O25: each command by its work (`acceptJump`, `sendPtp`, `pdStart`, `pdStop`), its own checks by the statement's hypotheses. -/
theorem timeCommands : Obligations.TimeCommands := by
  intro dt r k h s u served
  refine ⟨fun starts hservo hnone => ?jump, fun port msg starts hport hshort hlong hrole hup => ?send,
    fun cycle phase starts hlow hhigh hunit hphase hidle => ?start, fun starts hruns => ?stop⟩
  case jump =>
    obtain ⟨v, hexec, hquiet, answered, completed⟩ := command_doneAtOnce (f := acceptJump)
      (bad := fun s => if s.time.servo = 4 ∧ !offsetReturns s then 0 else 0x0401) served starts (by simp [hservo, hnone])
      (fun v => (acceptJump_spec v).1.work (acceptJump_keeps v (.refl v)).tx h)
    obtain ⟨-, hfollows, houtliers, hepoch⟩ := acceptJump_spec v
    refine ⟨_, hexec, answered, completed, ?_⟩
    rw [completeHandle_time, ← hquiet.time]
    exact ⟨hfollows, houtliers, hepoch⟩
  case send =>
    obtain ⟨v, hexec, hquiet, answered, completed⟩ := command_doneAtOnce (f := sendPtp port msg)
      (bad := fun s => firstOf [(decide (2 < port) || decide (msg.length < 34) || decide (1024 < msg.length), 0x0303),
        (timeRole s == 0 || !(s.port port).up, 0x0401)]) served starts
      (by simp [firstOf, Nat.not_lt.mpr hport, Nat.not_lt.mpr hshort, Nat.not_lt.mpr hlong, hrole, hup])
      (fun v => (sendPtp_books port msg v).work (sendPtp_keeps port msg v (.refl v)).tx h)
    exact ⟨_, hexec, answered, completed, hquiet.sent ((sendPtp_sent port msg v).mono (completeHandle_tx _ _ _ _))⟩
  case start =>
    obtain ⟨v, hexec, hquiet, answered, running, -⟩ := command_begun
      (c := { idx := 0xC082, role := 1, op := .none
              bad := fun s => firstOf [(decide (cycle < 100000) || decide (100000000 < cycle) || cycle % 1000 != 0 || decide (cycle < phase + 1000), 0x0303),
                (s.time.pd.running, 0x0401)]
              begin := fun _ s => pdStart r.sess cycle phase s, after := doneAtOnce id }) served starts
      (by simp [firstOf, Nat.not_lt.mpr hlow, Nat.not_lt.mpr hhigh, hunit, Nat.not_lt.mpr hphase, hidle]) (.same rfl)
    obtain ⟨stands, completed⟩ := completeHandle_ends answered running 0 0
    have htime : (completeHandle h 0 0 v).time = (pdStart r.sess cycle phase (startHandle k 0xC082 .none h u)).time :=
      (completeHandle_time ..).trans hquiet.time
    refine ⟨_, hexec, stands, completed, ?_⟩
    have hpd := congrArg Timing.pd htime
    exact ⟨congrArg Pd.running hpd, congrArg Pd.cycle hpd, congrArg Pd.phase hpd, congrArg Pd.session hpd⟩
  case stop =>
    obtain ⟨v, hexec, hquiet, answered, completed⟩ := command_doneAtOnce (f := pdStop)
      (bad := fun s => if s.time.pd.running then 0 else 0x0401) served starts (by simp [hruns])
      (fun v => BooksKept.work (s := v) (t := pdStop v) (.same rfl) (fun _ hout => hout) h)
    refine ⟨_, hexec, answered, completed, ?_⟩
    rw [completeHandle_time]
    exact ⟨rfl, rfl⟩

end Sys2Proof.Machine

namespace Sys2Proof.Machine

/-! ### The state of the pair (R463 to R468) -/

theorem setPairState_quiet (st reason : Nat) (s : State) :
    Quiet { s with pair := { s.pair with state := st, heldReason := reason } } (setPairState st reason s) := by
  unfold setPairState
  extract_lets _ changed
  split
  · exact .refl changed
  · exact ev_quiet ..

theorem setPairState_pair (st reason : Nat) (s : State) :
    (setPairState st reason s).pair = { s.pair with state := st, heldReason := reason } := (setPairState_quiet st reason s).pair

theorem setPairState_books (st reason : Nat) (s : State) : BooksKept s (setPairState st reason s) := by
  unfold setPairState
  extract_lets _ changed
  exact ite_books (.same rfl) ((ev_books ..).trans (.same rfl))

theorem syncClass_quiet (code : Nat) (unit : BitVec 32) (s : State) :
    Quiet { s with faults := { s.faults with cls := faultClass s } } (syncClass code unit s) := by
  unfold syncClass
  dsimp only
  split
  next hsame => rw [hsame]; exact .refl s
  next =>
    split
    · exact .refl _
    · exact raise_quiet ..

theorem causeGone_pair (code : Nat) (unit : BitVec 32) (s : State) (only : Option Nat) : (causeGone code unit s only).pair = s.pair :=
  (syncClass_quiet ..).pair

theorem searchPair_books (s : State) : BooksKept s (searchPair s) := (setPairState_books ..).trans (.same rfl)

theorem searchPair_pair (s : State) : (searchPair s).pair =
    { s.pair with leadN := false, elected := false, searchAt := s.time.now, state := 1, heldReason := 0 } := setPairState_pair ..

theorem isolate_books (s : State) : BooksKept s (isolate s) := (setPairState_books ..).trans (.same rfl)

theorem isolate_pair (s : State) : ∃ leads, (isolate s).pair =
    { s.pair with identified := false, leads := leads, leadN := leads, state := 2, heldReason := 0 } := ⟨_, setPairState_pair ..⟩

/-- R464: a chip that takes its role is identified, and keeps what it knows of the partner. -/
theorem takeRole_pair (s : State) : ∃ st reason leads leadN elected searchAt, (takeRole s).pair = { s.pair with
    identified := true, state := st, heldReason := reason, leads := leads, leadN := leadN, elected := elected, searchAt := searchAt } := by
  unfold takeRole
  dsimp only
  split
  · exact ⟨s.pair.state, s.pair.heldReason, s.pair.leads, s.pair.leadN, s.pair.elected, s.pair.searchAt, by rw [causeGone_pair]⟩
  · split
    · exact ⟨3, 0, false, s.pair.leadN, s.pair.elected, s.pair.searchAt, by rw [setPairState_pair, causeGone_pair]⟩
    · exact ⟨1, 0, s.pair.leads, false, false, _, by rw [searchPair_pair, causeGone_pair]⟩

theorem takeRole_books (s : State) : BooksKept s (takeRole s) := by
  unfold takeRole
  extract_lets _ identified gone
  have hgone : BooksKept s gone := (causeGone_books ..).trans (.same rfl)
  exact ite_books hgone (ite_books ((setPairState_books ..).trans (BooksKept.trans (t := gone) (.same rfl) hgone)) ((searchPair_books gone).trans hgone))

/-! ### The commands of the pair and of the images (R466, R484, R485, R534, R535) -/

theorem Completed.kept {h code : Nat} {d : BitVec 96} {s t : State} (done : Completed h code d s) (hhandle : t.handle h = s.handle h)
    (hnow : t.time.now = s.time.now) : Completed h code d t :=
  ⟨by rw [hhandle, done.phase], by rw [hhandle, done.result], by rw [hhandle, done.detail], by rw [hhandle, hnow, done.time]⟩

theorem Starts.slot_lt {k idx role h : Nat} {op : Op} {u : State} (starts : Starts k idx role op h u) : h < 256 :=
  List.mem_range.mp (List.mem_of_find?_eq_some starts.slot)

theorem handleWord_slot {h : Nat} (hh : h < 256) (s : State) : (handleWord s h).toNat % 256 = h := by
  rw [handleWord, BitVec.toNat_ofNat]
  have := (s.handle h).use.isLt
  omega

/-- R466: the hash of the partner's key is stored, and the handle of the command ends. -/
theorem completePair_spec {h since : Nat} (hh : h < 256) (key : List Byte) {s : State} (hpairing : s.pair.pairing = some (handleWord s h, since))
    (hrun : (s.handle h).phase = .running) :
    Completed h 0 0 (completePair key s) ∧ (completePair key s).pair.partnerHash = Config.sha384 key ∧ (completePair key s).pair.pairing = none := by
  let kept := { s with pair := { s.pair with partnerHash := Config.sha384 key, pairing := none, partnerPairing := none } }
  have heq : completePair key s = takeRole (completeWord (handleWord s h) 0 0 kept) := by simp only [completePair, hpairing, kept]
  have hslot := handleWord_slot hh s
  have hdone : Completed h 0 0 (completeWord (handleWord s h) 0 0 kept) := by
    have hword := completeWord_completed (w := handleWord s h) (s := s) (t := kept) rfl (by rw [hslot]; exact hrun) (by rw [hslot]) 0 0
    rwa [hslot] at hword
  obtain ⟨st, reason, leads, leadN, elected, searchAt, hpair⟩ := takeRole_pair (completeWord (handleWord s h) 0 0 kept)
  rw [heq, hpair, completeWord_pair]
  exact ⟨hdone.kept ((takeRole_books _).handle h) (takeRole_keeps _ (.refl _)).now, rfl, rfl⟩

/-- R466: a pairing begins: an IDENT record goes out. -/
def pairingBegun (w : BitVec 16) (s : State) : State := sendIdent { s with pair := { s.pair with pairing := some (w, s.time.now) } }

theorem pairingBegun_tx (w : BitVec 16) (s : State) : TxKept s (pairingBegun w s) := fun _ hout => List.mem_append_right _ hout

theorem startPair_eq (w : BitVec 16) (s : State) : startPair w s = match s.pair.partnerPairing with
    | some (t, key) => if s.time.now ≤ t + 60 * sec then completePair key (pairingBegun w s) else pairingBegun w s
    | none => pairingBegun w s := rfl

theorem unpair_books (s : State) : BooksKept s (unpair s) := by
  unfold unpair
  extract_lets _ forgotten
  exact ite_books (.same rfl) (BooksKept.trans (t := forgotten) (isolate_books ..) (.same rfl))

theorem unpair_pair (s : State) : (unpair s).pair.partnerHash = [] ∧
    (s.pair.state ≠ 0 → (unpair s).pair.state = 2 ∧ (unpair s).pair.identified = false) ∧ (s.pair.state = 0 → (unpair s).pair.state = 0) := by
  unfold unpair
  extract_lets _ forgotten
  split
  next hsingle => exact ⟨rfl, fun h => absurd hsingle h, fun h => h⟩
  next htandem =>
    obtain ⟨leads, hpair⟩ := isolate_pair forgotten
    rw [hpair]
    exact ⟨rfl, fun _ => ⟨rfl, rfl⟩, fun h => absurd h htandem⟩

/-! What the host held of a chip that gives up lead (R493) -/

theorem completeHandle_handle_ne {i h : Nat} (hne : h ≠ i) (code : Nat) (d : BitVec 96) (s : State) :
    (completeHandle i code d s).handle h = s.handle h := by
  unfold completeHandle
  dsimp only
  split
  · rfl
  · split
    · rw [State.setHandle_handle_ne _ _ _ _ hne]
    · split
      · rw [State.setHandle_handle_ne _ _ _ _ hne]
      · split
        · rw [(deliver_books ..).handle, State.setHandle_handle_ne _ _ _ _ hne]
        · rw [(deliver_books ..).handle, State.setHandle_handle_ne _ _ _ _ hne, State.setHandle_handle_ne _ _ _ _ hne]

theorem settleWithheld_handle (due : Withheld → Bool) (f : Response → Response) (s : State) (h : Nat) :
    (settleWithheld due f s).handle h = s.handle h := by
  unfold settleWithheld
  extract_lets go _ kept
  refine forAll_induct (P := fun t => t.handle h = s.handle h) (fun w t ht => ?_) go kept rfl
  split
  · exact ht
  · exact ht

theorem dropHostState_pair (s : State) : (dropHostState s).pair = s.pair := by
  unfold dropHostState
  extract_lets settled ended unstaged
  have hended : Quiet s ended := (forAll_quiet (fun i t => completeHandle_quiet ..) _ settled).trans (settleWithheld_quiet ..)
  have hunstaged : Quiet ended unstaged := forAll_quiet (fun i t => setSess_quiet ..) _ ended
  have hkept := hunstaged.trans hended
  clear_value unstaged
  exact hkept.pair

/-- R493: the commands of the chip itself, and the handover, go on. -/
theorem dropHostState_handle {s : State} {h : Nat} (hstays : chipLocalCmd (s.handle h).cmd = true ∨ (s.handle h).cmd = 0xC092) :
    (dropHostState s).handle h = s.handle h := by
  unfold dropHostState
  extract_lets settled ended unstaged
  have hsettled : settled.handle h = s.handle h := settleWithheld_handle ..
  have hended : ended.handle h = s.handle h := by
    refine forAll_induct_mem (P := fun t => t.handle h = s.handle h) _ (fun i hi t ht => ?_) settled hsettled
    have hne : h ≠ i := by
      rintro rfl
      obtain ⟨-, hends⟩ := List.mem_filter.mp hi
      rw [hsettled] at hends
      rcases hstays with hlocal | hhandover
      · simp [hlocal] at hends
      · simp [hhandover] at hends
    exact (completeHandle_handle_ne hne ..).trans ht
  have hunstaged : unstaged.handle h = s.handle h :=
    forAll_induct (P := fun t => t.handle h = s.handle h) (fun i t ht => by exact ht) _ ended hended
  clear_value unstaged
  exact hunstaged

/-- R493: nothing is staged any more. -/
theorem dropHostState_staging (s : State) {m : Nat} (hm : m < 8) : ((dropHostState s).sess m).staging = [] := by
  unfold dropHostState
  extract_lets settled ended unstaged
  have hunstaged : (unstaged.sess m).staging = [] := by
    refine forAll_reaches_mem (P := fun t => (t.sess m).staging = []) (List.mem_range.mpr hm) (fun t => ?_) (fun i _ t ht => ?_) ended
    · rw [State.setSess_sess]
    · by_cases him : m = i
      · subst him; rw [State.setSess_sess]
      · rwa [State.setSess_sess_ne _ _ _ _ him]
  clear_value unstaged
  exact hunstaged

theorem releaseLanes_pair (s : State) : (releaseLanes s).pair = s.pair := (forAll_quiet (fun _ _ => emit_quiet ..) _ s).pair

theorem releaseLanes_handle (s : State) (h : Nat) : (releaseLanes s).handle h = s.handle h :=
  (forAll_books (fun _ _ => emit_books ..) _ s).handle h

/-- What each session has staged is as it was. -/
structure StagingKept (s t : State) : Prop where
  staging : ∀ i, (t.sess i).staging = (s.sess i).staging

theorem StagingKept.same {s t : State} (h : t.proto.sessions = s.proto.sessions) : StagingKept s t := ⟨fun i => by rw [State.sess, State.sess, h]⟩

theorem StagingKept.refl (s : State) : StagingKept s s := .same rfl

theorem StagingKept.trans {s t u : State} (g : StagingKept t u) (h : StagingKept s t) : StagingKept s u :=
  ⟨fun i => (g.staging i).trans (h.staging i)⟩

theorem ite_staging {c : Prop} [Decidable c] {s t u : State} (ht : StagingKept s t) (hu : StagingKept s u) :
    StagingKept s (if c then t else u) := by
  split <;> assumption

theorem foldl_staging {α : Type} {f : State → α → State} (h : ∀ a s, StagingKept s (f s a)) (l : List α) (s : State) :
    StagingKept s (l.foldl f s) :=
  forAll_induct (P := StagingKept s) (f := fun a t => f t a) (fun a t ht => (h a t).trans ht) l s (.refl s)

theorem setSess_staging (s : State) (n : Nat) (x : Session) (hx : x.staging = (s.sess n).staging) : StagingKept s (s.setSess n x) := by
  refine ⟨fun i => ?_⟩
  by_cases hi : i = n
  · subst hi; rw [State.setSess_sess, hx]
  · rw [State.setSess_sess_ne _ _ _ _ hi]

theorem emit_staging (o : Output) (s : State) : StagingKept s (emit o s) := .same rfl

theorem pushQueue_staging (k : Nat) (s : State) : StagingKept s (pushQueue k s) := by
  unfold pushQueue
  dsimp only
  split
  · exact .refl s
  · split
    · exact .refl s
    · exact (foldl_staging (fun _ t => emit_staging _ t) _ _).trans (setSess_staging s k _ rfl)

theorem deliver_staging (k : Nat) (r : EventRec) (s : State) : StagingKept s (deliver k r s) := by
  unfold deliver
  extract_lets x
  split
  · exact .refl s
  next q _ =>
    split
    next q' fits _ =>
      extract_lets queued
      have hqueued : StagingKept s queued := setSess_staging s k _ rfl
      exact ite_staging ((pushQueue_staging k queued).trans hqueued) (StagingKept.trans (t := queued) (.same rfl) hqueued)

theorem ev_staging (code : Nat) (d : BitVec 96) (s : State) (u : BitVec 32) (l : Option Int) (n : Nat) : StagingKept s (ev code d s u l n) := by
  unfold ev raise
  exact ite_staging (foldl_staging (fun _ t => ite_staging (deliver_staging ..) (.refl t)) _ s) (.same rfl)

theorem setPairState_staging (st reason : Nat) (s : State) : StagingKept s (setPairState st reason s) := by
  unfold setPairState
  extract_lets _ changed
  exact ite_staging (.same rfl) ((ev_staging ..).trans (.same rfl))

/-- R485: the lead gives up lead on command. -/
theorem handover_spec {s : State} {h : Nat} (hcmd : (s.handle h).cmd = 0xC092) :
    (leadRelease 8 false s).pair.state = 4 ∧ (leadRelease 8 false s).pair.leadN = false ∧
      (leadRelease 8 false s).pair.handover = s.pair.handover ∧ (leadRelease 8 false s).handle h = s.handle h ∧
      ∀ m, m < 8 → ((leadRelease 8 false s).sess m).staging = [] := by
  let told := sendRecord (.release 8) (releaseLanes s)
  let quit := { told with pair := { told.pair with leadN := false } }
  have heq : leadRelease 8 false s = setPairState 4 0 (dropHostState quit) := by simp [leadRelease, quit, told]
  have hquit : quit.handle h = s.handle h := releaseLanes_handle ..
  rw [heq, setPairState_pair, dropHostState_pair]
  refine ⟨rfl, rfl, ?_, ?_, fun m hm => ?_⟩
  · change (releaseLanes s).pair.handover = _
    rw [releaseLanes_pair]
  · rw [(setPairState_books ..).handle, dropHostState_handle (by rw [hquit]; exact .inr hcmd), hquit]
  · exact ((setPairState_staging 4 0 (dropHostState quit)).staging m).trans (dropHostState_staging quit hm)

/-! Boot control (R532, R534) -/

theorem writeBoot_books (b : BootCtl) (s : State) : BooksKept s (writeBoot b s) := (emit_books ..).trans (.same rfl)

/-- Writing boot control on both sides leaves the difference to the host's side. -/
theorem Quiet.writeBoot {s t : State} (q : Quiet s t) (b : BootCtl) : Quiet (writeBoot b s) (writeBoot b t) :=
  { q with start := by
             simp only [Machine.writeBoot, emit]
             rw [q.start] }

theorem confirmImage_books (s : State) : BooksKept s (confirmImage s) :=
  BooksKept.trans (t := writeBoot { s.start.boot with trial := false, confirmed := s.start.bootSlot } s) (.same rfl) (writeBoot_books ..)

/-- Settles O27: PAIR and IMAGE_ACTIVATE by the state in which they have started, UNPAIR and IMAGE_CONFIRM by their work, HANDOVER by what a lead
that gives up leaves. -/
theorem pairAndImageCommands : Obligations.PairAndImageCommands := by
  refine ⟨fun dt r k h s u served => ⟨fun starts hjob hlanes hfree => ?pair, fun starts => ?unpair, fun starts hallowed => ?handover⟩,
    fun dt r f k h s u => ⟨fun served starts hchecked => ?activate, fun served starts htrial hbooted => ?confirm⟩⟩
  case pair =>
    obtain ⟨v, hexec, started⟩ := command_started (bad := fun s => if s.gait.job ≠ 0 ∨ lanesUp s = 0 ∨ s.pair.pairing.isSome then 0x0401 else 0)
      (after := fun h s => startPair (handleWord s h) s) served starts (by simp [hjob, hlanes, hfree])
    have hnow : v.time.now = u.time.now := by rw [started.quiet.time]
    refine ⟨_, hexec, fun hnone => ?_, fun since key hoffer hearly => ?_⟩
    · rw [show startPair (handleWord v h) v = pairingBegun (handleWord v h) v by rw [startPair_eq, started.quiet.pair, hnone]]
      refine ⟨started.answered.mono (pairingBegun_tx _ v) rfl, started.running.same rfl, ?_, ?_⟩
      · change some (handleWord v h, v.time.now) = _
        rw [hnow]; rfl
      · change v.pair.txSeq + 1 = _
        rw [started.quiet.pair]
    · rw [startPair_eq, started.quiet.pair, hoffer]
      simp only [hnow, hearly, if_true]
      exact completePair_spec starts.slot_lt key (s := pairingBegun (handleWord v h) v) rfl started.running.phase
  case unpair =>
    obtain ⟨v, hexec, hquiet, answered, completed⟩ := command_doneAtOnce (f := unpair) (bad := fun _ => 0) served starts rfl
      (fun v => (unpair_books v).work (unpair_keeps v (.refl v)).tx h)
    obtain ⟨hhash, htandem, hsingle⟩ := unpair_pair v
    rw [hquiet.pair] at htandem hsingle
    refine ⟨_, hexec, answered, completed, ?_⟩
    rw [completeHandle_pair]
    exact ⟨hhash, htandem, hsingle⟩
  case handover =>
    obtain ⟨v, hexec, hquiet, -, running, hslot⟩ := command_begun
      (c := { idx := 0xC092, role := 2, op := .handover, bad := fun s => if handoverAllowed s then 0 else 0x0401
              begin := fun h s => { s with pair := { s.pair with handover := some (handleWord s h) } }
              after := fun _ s => leadRelease 8 false s }) served starts (if_pos hallowed) (.same rfl)
    obtain ⟨hstate, hlead, hkept, hhandle, hstaging⟩ := handover_spec running.cmd
    refine ⟨leadRelease 8 false v, hexec, hstate, hlead, ?_, running.same hhandle, hstaging⟩
    rw [hkept, hquiet.pair, handleWord, hhandle, hslot]
    rfl
  case activate =>
    obtain ⟨v, hexec, started⟩ := command_started (after := activateImage f)
      (bad := fun s => if (slotOfImage s (otherSlot s)).checked then 0 else 0x0401) served starts (if_pos hchecked)
    let preferred := writeBoot { v.start.boot with preferred := otherSlot v, trial := true, tries := 0 } v
    obtain ⟨stands, completed⟩ := started.ends (w := preferred) ((writeBoot_books ..).work (writeBoot_keeps _ _ (.refl v)).tx h) 0 0
    have hboot : (v.start.boot, v.start.recovery) = (u.start.boot, u.start.recovery) := by rw [started.quiet.start]
    obtain ⟨hboot, hrecovery⟩ := Prod.mk.injEq .. ▸ hboot
    have hcopy : Quiet (writeBoot { u.start.boot with preferred := otherSlot u, trial := true, tries := 0 } u) preferred := by
      have hwrite := started.quiet.writeBoot { u.start.boot with preferred := otherSlot u, trial := true, tries := 0 }
      rwa [← started.quiet.otherSlot, ← hboot] at hwrite ⊢
    have hstart : (completeHandle h 0 0 preferred).start.recovery = u.start.recovery := by
      rw [(completeHandle_quiet ..).start]; exact hrecovery
    refine ⟨_, completeHandle h 0 0 preferred, hexec, (completeHandle_quiet ..).trans hcopy, stands, completed, fun hno => ?_, fun hyes => ?_⟩
    · exact if_neg (by rw [hstart, hno]; decide)
    · exact if_pos (by rw [hstart, hyes])
  case confirm =>
    obtain ⟨v, hexec, hquiet, answered, completed⟩ := command_doneAtOnce (f := confirmImage)
      (bad := fun s => if s.start.boot.trial ∧ s.start.boot.preferred = s.start.bootSlot then 0 else 0x0401) served starts
      (if_pos ⟨htrial, hbooted⟩) (fun v => (confirmImage_books v).work (confirmImage_keeps v (.refl v)).tx h)
    refine ⟨_, hexec, answered, completed, ?_⟩
    rw [(completeHandle_quiet ..).start]
    have hslot : slotOfImage v v.start.bootSlot = slotOfImage u u.start.bootSlot := by rw [slotOfImage, hquiet.start]; rfl
    refine ⟨rfl, ?_, ?_⟩
    · change v.start.bootSlot = _
      rw [hquiet.start]
    · change max v.start.rollback (slotOfImage v v.start.bootSlot).rollback = _
      rw [hslot, hquiet.start]

end Sys2Proof.Machine

namespace Sys2Proof.Machine

/-! ### An entry that a WAKE edge refuses, while a camera transfer bears the handle's word (R507 to R509) -/

/-- The device with a session of the service role in slot 0, and a CCI master held under the handle word that the next command takes. -/
def heldMaster : State :=
  (State.reset.setSess 0 { phase := .opened, id := 1, role := 3, node := 1, peer := reenableRequest.peer, highSeq := 4 }).setCamPort 0
    { cciHandle := some 0 }

/-- The state in which a request of that session runs. -/
def heldMasterServed : State := servedState 0 reenableRequest 0 heldMaster

/-- R508: a rising edge of WAKE after order 2. -/
abbrev wakeAfterTwo : EntryFacts := ⟨some 2, false, none, none⟩

theorem sleep_served : Served 0 reenableRequest false 0 heldMaster heldMasterServed where
  heard := by decide +kernel
  fresh := by decide +kernel
  state := rfl
  room := by decide +kernel
  open_ := by decide +kernel

theorem sleep_starts : Starts 0 0xC0A0 1 (.power 2) 0 heldMasterServed where
  role := by decide +kernel
  lead := by decide +kernel
  supervisor := by decide +kernel
  slot := by decide +kernel
  mover := by decide +kernel

/-- Refutes O28: an entry into Sleep that a WAKE edge refuses after order 2 has let the camera transfers complete (R508), and one that bears the
word of the entry's own handle completes that handle with 0. -/
theorem not_powerStateCommands : ¬ Obligations.PowerStateCommands := by
  rintro ⟨-, hentries⟩
  obtain ⟨-, -, -, hrefused⟩ := hentries 0 reenableRequest wakeAfterTwo 0 0 heldMaster heldMasterServed sleep_served
  obtain ⟨t, hexec, hdone, -⟩ := hrefused 0 0 sleep_starts (by decide +kernel) rfl
  have hnext := hexec.symm.trans (command_next sleep_served sleep_starts (c := powerCommand 2 (fun h s => enterPower h 2 wakeAfterTwo s))
    (by decide +kernel))
  injection hnext with ht
  have hresult : (t.handle 0).result = 0 := by
    rw [ht]
    decide +kernel
  exact absurd (hresult.symm.trans hdone.result) (by decide)

end Sys2Proof.Machine

namespace Sys2Proof.Machine

/-! ### Requests to the rails (R504, R505) -/

/-- R504: what an acknowledged request has done to its rail, by its kind. -/
theorem applyRail_rail (q : RailReq) (s : State) : (q.kind = 0 → ((applyRail q s).rail q.rail).on = false) ∧
    (q.kind = 1 → ((applyRail q s).rail q.rail).on = true ∧ ((applyRail q s).rail q.rail).mv = 0) ∧
    (2 ≤ q.kind → ((applyRail q s).rail q.rail).mv = q.mv) ∧ ∀ k, k ≠ q.rail → (applyRail q s).rail k = s.rail k := by
  unfold applyRail
  dsimp only
  refine ⟨fun hoff => ?_, fun hon => ?_, fun hchange => ?_, fun k hk => State.setRail_rail_ne _ _ _ _ hk⟩
  · rw [State.setRail_rail, hoff]; rfl
  · rw [State.setRail_rail, hon]; exact ⟨rfl, rfl⟩
  · rw [State.setRail_rail]
    split
    · omega
    · omega
    · rfl

/-- R504: a request that is acknowledged takes effect, and the next one goes out. -/
theorem railAck_acknowledged {q : RailReq} {status : BitVec 16} {good : Bool} {volts : Nat} {s : State} (hreq : s.power.req = some q)
    (hack : acknowledges s q status good volts = true) (after : AfterRails) : railAck status good volts after s = sendNext after (applyRail q s) := by
  simp only [railAck, hreq, hack, if_true]

/-- The next request of a sequence goes out. -/
theorem sendNext_more {rail kind mv : Nat} {rest : List (Nat × Nat × Nat)} {s : State} (htodo : s.power.todo = (rail, kind, mv) :: rest)
    (after : AfterRails) : sendNext after s = railRequest ⟨rail, kind, mv, 1, s.time.now⟩
      { s with power := { s.power with req := none, todo := rest } } := by
  simp only [sendNext, startRail, htodo, List.isEmpty_cons, Bool.false_eq_true, if_false]

theorem railRequest_sent (q : RailReq) (s : State) : Output.pmbus q.rail q.kind (targetMv q.rail q.mv) ∈ (railRequest q s).model.tx :=
  withTag_mem_emit ..

theorem railAck_next {dt rail kind mv volts : Nat} {rest : List (Nat × Nat × Nat)} {q : RailReq} {status : BitVec 16} {good : Bool} {s : State}
    (hreq : s.power.req = some q) (hack : acknowledges s q status good volts = true) (htodo : s.power.todo = (rail, kind, mv) :: rest)
    (after : AfterRails) :
    ∃ t, exec (.pmbusAck dt ⟨status, good, volts⟩ after) s = .next t ∧ t.power.todo = rest ∧ t.power.req = some ⟨rail, kind, mv, 1, s.time.now + dt⟩ ∧
      t.power.state = s.power.state ∧ t.power.seq = s.power.seq ∧ t.faults = s.faults ∧ t.store = s.store ∧ t.axis = s.axis ∧
      (q.kind = 0 → (t.rail q.rail).on = false) ∧ (q.kind = 1 → (t.rail q.rail).on = true ∧ (t.rail q.rail).mv = 0) ∧
      (2 ≤ q.kind → (t.rail q.rail).mv = q.mv) ∧ (∀ k, k ≠ q.rail → t.rail k = s.rail k) ∧ Output.pmbus rail kind (targetMv rail mv) ∈ t.model.tx := by
  obtain ⟨hoff, hon, hchange, hothers⟩ := applyRail_rail q (tick dt s)
  refine ⟨_, rfl, ?_⟩
  rw [railAck_acknowledged (s := tick dt s) hreq hack, sendNext_more (s := applyRail q (tick dt s)) htodo]
  exact ⟨rfl, rfl, rfl, rfl, rfl, rfl, rfl, hoff, hon, hchange, hothers, railRequest_sent ..⟩

theorem pmbusTimeout_again {dt : Nat} {q : RailReq} {s : State} (status : BitVec 16) (hreq : s.power.req = some q)
    (hdue : q.sentAt + 2 * ms ≤ s.time.now + dt) (hseq : ∀ n, s.power.seq ≠ .wakeReturn n) (hfew : q.attempt < 4) :
    ∃ t, exec (.pmbusTimeout dt status) s = .next t ∧
      t.power = { s.power with req := some { q with attempt := q.attempt + 1, sentAt := s.time.now + dt } } ∧
      Output.pmbus q.rail 3 0 ∈ t.model.tx ∧ Output.pmbus q.rail q.kind (targetMv q.rail q.mv) ∈ t.model.tx := by
  have hexec : exec (.pmbusTimeout dt status) s = .next (railTimeout q status (tick dt s)) := by
    have hreq' : (tick dt s).power.req = some q := hreq
    simp only [exec, execPmbusTimeout, hreq']
    exact guardOk_of (decide_eq_true hdue) _ _
  have hback : railTimeout q status (tick dt s) = railRequest { q with attempt := q.attempt + 1, sentAt := s.time.now + dt }
      (emit (.pmbus q.rail 3 0) (tick dt s)) := by
    have hseq' : ∀ n, (tick dt s).power.seq ≠ .wakeReturn n := hseq
    unfold railTimeout
    extract_lets back
    have hfirst : back = false := by
      simp only [back]
    exact if_pos (by rw [hfirst]; exact hfew)
  refine ⟨_, hexec.trans (congrArg _ hback), rfl, ?_, railRequest_sent ..⟩
  exact emit_tx _ _ _ (withTag_mem_emit ..)

/-! ### The supply (R518 to R520, R523) -/

/-- R519: a POWER event is raised, or waits for Run. -/
theorem powerEvent_quiet (code sev : Nat) (d : BitVec 96) (s : State) (count : Nat) :
    ∃ held, Quiet { s with power := { s.power with held := held } } (powerEvent code sev d s count) := by
  unfold powerEvent
  split
  · exact ⟨s.power.held, raise_quiet ..⟩
  · exact ⟨_, .refl _⟩

/-- R520: the flag stands, and nothing else of the supply or the store changes. -/
theorem vsupFault_spec {b : Nat} (hb : b < 32) (reason cls mv : Nat) (s : State) : (vsupFault b reason cls mv s).store = s.store ∧
    (vsupFault b reason cls mv s).power.vsup.word.getLsbD b = true ∧ (vsupFault b reason cls mv s).power.vsupMv = s.power.vsupMv ∧
    (vsupFault b reason cls mv s).power.brown = s.power.brown ∧ (vsupFault b reason cls mv s).power.vsup3Over = s.power.vsup3Over := by
  unfold vsupFault
  extract_lets _ flagged
  obtain ⟨held, hevent⟩ := powerEvent_quiet 0x3004 cls (detail 0xFF reason 0 mv) flagged (flagged.power.vsup.count b)
  have hpower : (addFault 0x3004 cls 6 unitDevice (powerEvent 0x3004 cls (detail 0xFF reason 0 mv) flagged (flagged.power.vsup.count b))).power =
      { flagged.power with held := held } := (addFault_calm ..).power.trans hevent.power
  rw [hpower, addFault_store, hevent.store]
  exact ⟨rfl, Flags.set_on _ _ hb, rfl, rfl, rfl⟩

theorem writeLife_powerStore (s : State) : (writeLife s).power = s.power ∧ (writeLife s).store = s.store := by
  unfold writeLife
  split <;> exact ⟨rfl, rfl⟩

theorem flushConfig_powerStore (s : State) : (flushConfig s).power = s.power ∧ (flushConfig s).store = s.store := by
  unfold flushConfig writeConfig
  split
  · split <;> exact ⟨rfl, rfl⟩
  · exact ⟨rfl, rfl⟩

/-- R519, R529, R559: what a brownout notes, and what it writes to flash. -/
theorem brownout_spec (mv : Nat) (s : State) : (brownout mv s).power.brown = true ∧ (brownout mv s).power.vsupMv = mv ∧
    (brownout mv s).power.vsup.word.getLsbD 0 = true ∧ Output.flash 7 1 ∈ (brownout mv s).model.tx ∧ (brownout mv s).store = s.store := by
  obtain ⟨hstore, hflag, hmv, hbrown, -⟩ := vsupFault_spec (b := 0) (by decide) 1 0 mv
    { s with power := { s.power with vsupMv := mv, brown := true } }
  unfold brownout
  dsimp only
  generalize vsupFault 0 1 0 mv { s with power := { s.power with vsupMv := mv, brown := true } } = faulted at hstore hflag hmv hbrown ⊢
  obtain ⟨hlifePower, hlifeStore⟩ := writeLife_powerStore faulted
  obtain ⟨hpower, hstore'⟩ := flushConfig_powerStore (writeLife faulted)
  rw [emit_power, emit_store, hpower, hstore', hlifePower, hlifeStore]
  exact ⟨hbrown, hmv, hflag, withTag_mem_emit .., hstore⟩

/-- R520, R550: where its cause has gone, a fault of this code and unit has none. -/
theorem causeGone_active {code : Nat} {unit : BitVec 32} {s : State} {g : ActiveFault} (hg : g ∈ (causeGone code unit s).faults.active)
    (hcode : g.code = code) (hunit : g.unit = unit) : g.cause = false := by
  rw [causeGone, syncClass_faults] at hg
  obtain ⟨f, -, rfl⟩ := List.mem_map.mp (List.mem_of_mem_filter hg)
  split at hcode
  next h => rw [if_pos h]
  next h =>
    rw [if_neg h] at hunit
    exact absurd ⟨hcode, hunit, rfl⟩ h

/-- Settles O57: the rails by `railAck` and `railTimeout`, the supply's events by what `vsupFault` and `powerEvent` leave. -/
theorem railsAndSupplyEvents : Obligations.RailsAndSupplyEvents := by
  refine ⟨fun dt status good volts s => ⟨fun after hnone => ?idle, fun after q hreq hack => ?unacked,
      fun after q rail kind mv rest hreq hack htodo => railAck_next hreq hack htodo after,
      fun q hreq hdue hseq hfew => pmbusTimeout_again status hreq hdue hseq hfew⟩,
    fun dt mv s => ⟨fun hup => ?reset, fun hsupplied => ⟨fun hfirst => ?brownout, fun hbrown => ?recovered, ?overvolt, fun hfirst => ?overload,
      fun hover => ?loadRecovered, ?sample⟩⟩⟩
  case idle =>
    refine ⟨_, rfl, ?_⟩
    rw [railAck, show (tick dt s).power.req = none from hnone]
    rfl
  case unacked =>
    refine ⟨_, rfl, ?_⟩
    have hack' : acknowledges (tick dt s) q status good volts = false := hack
    simp only [railAck, show (tick dt s).power.req = some q from hreq, hack']
    rfl
  case reset =>
    refine ⟨_, guardOk_of (c := !(tick dt s).power.down) ?_ supervisorReset _, rfl, rfl, rfl, rfl, rfl⟩
    rw [show (tick dt s).power.down = false from hup]; rfl
  case brownout =>
    obtain ⟨hbrown, hmv, hflag, hflash, hstore⟩ := brownout_spec mv (tick dt s)
    refine ⟨_, guardOk_of ?_ _ _, hbrown, hmv, hflag, hflash, congrArg Store.mem hstore⟩
    rw [show supplied (tick dt s) = true from hsupplied, show (tick dt s).power.brown = false from hfirst]; rfl
  case recovered =>
    obtain ⟨held, hevent⟩ := powerEvent_quiet 0x3004 0 (detail 0xFF 0 0 mv)
      { tick dt s with power := { (tick dt s).power with vsupMv := mv, brown := false } } 0
    have hguard : (supplied (tick dt s) && (tick dt s).power.brown) = true := Bool.and_eq_true_iff.mpr ⟨hsupplied, hbrown⟩
    refine ⟨_, by unfold exec execVsupRecovered; exact guardOk_of (by exact hguard) _ _, ?_⟩
    rw [hevent.power]
    exact ⟨rfl, rfl, rfl⟩
  case overvolt =>
    obtain ⟨hstore, hflag, hmv, -⟩ := vsupFault_spec (b := 1) (by decide) 2 0 mv
      { tick dt s with power := { (tick dt s).power with vsupMv := mv } }
    exact ⟨_, by unfold exec execOvervolt; exact guardOk_of (by exact hsupplied) _ _, hflag, hmv, congrArg Store.mem hstore⟩
  case overload =>
    obtain ⟨hstore, hflag, -, -, hover⟩ := vsupFault_spec (b := 2) (by decide) 3 1 (tick dt s).power.vsupMv
      { tick dt s with power := { (tick dt s).power with vsup3Over := true } }
    have hguard : (supplied (tick dt s) && !(tick dt s).power.vsup3Over) = true :=
      Bool.and_eq_true_iff.mpr ⟨hsupplied, by rw [show (tick dt s).power.vsup3Over = false from hfirst]; rfl⟩
    exact ⟨_, by unfold exec execVsup3Overload; exact guardOk_of (by exact hguard) _ _, hover, hflag, congrArg Store.mem hstore⟩
  case loadRecovered =>
    have hguard : (supplied (tick dt s) && (tick dt s).power.vsup3Over) = true := Bool.and_eq_true_iff.mpr ⟨hsupplied, hover⟩
    exact ⟨_, by unfold exec execVsup3LoadRecovered; exact guardOk_of (by exact hguard) _ _, (syncClass_quiet ..).power,
      fun g hg hcode hunit => causeGone_active hg hcode hunit⟩
  case sample =>
    refine ⟨_, guardOk_of (c := supplied (tick dt s)) hsupplied _ _, rfl, rfl, rfl, ?_, ?_⟩
    · unfold vsupSample
      dsimp only
      split <;> rfl
    · unfold vsupSample
      dsimp only
      split <;> rfl

end Sys2Proof.Machine

namespace Sys2Proof.Machine

/-! ### The return from Idle (R511), and the wakes from the sleeps (R512 to R515) -/

/-- The state of power and supply, and the page store, are as they were. -/
structure SupplyKept (s t : State) : Prop where
  power : t.power = s.power
  store : t.store = s.store

theorem SupplyKept.refl (s : State) : SupplyKept s s := ⟨rfl, rfl⟩

theorem SupplyKept.trans {s t u : State} (g : SupplyKept t u) (h : SupplyKept s t) : SupplyKept s u :=
  ⟨g.power.trans h.power, g.store.trans h.store⟩

theorem Quiet.supply {s t : State} (q : Quiet s t) : SupplyKept s t := ⟨q.power, q.store⟩

theorem ite_supply {c : Prop} [Decidable c] {s t u : State} (ht : SupplyKept s t) (hu : SupplyKept s u) : SupplyKept s (if c then t else u) := by
  split <;> assumption

theorem forAll_supply {α : Type} {f : α → State → State} (h : ∀ a s, SupplyKept s (f a s)) (l : List α) (s : State) : SupplyKept s (forAll l f s) :=
  forAll_induct (P := SupplyKept s) (fun a t c => (h a t).trans c) l s (.refl s)

theorem setRow_supply (s : State) (n : Nat) (x : Row) : SupplyKept s (s.setRow n x) := ⟨rfl, rfl⟩
theorem setRing_supply (s : State) (n : Nat) (x : Ring) : SupplyKept s (s.setRing n x) := ⟨rfl, rfl⟩
theorem setEngine_supply (s : State) (n : Nat) (x : Engine) : SupplyKept s (s.setEngine n x) := ⟨rfl, rfl⟩

theorem laneWake_supply (h reason : Nat) (s : State) : SupplyKept s (laneWake h reason s) := by
  unfold laneWake
  dsimp only
  refine ite_supply ?_ (ite_supply ⟨rfl, rfl⟩ (.refl s))
  obtain ⟨gait, fire, heq⟩ := enterActive_eq h (s.setLane h { s.lane h with state := 6, power := 0 })
  rw [heq]
  exact ⟨rfl, rfl⟩

theorem restartRegions_supply (s : State) : SupplyKept s (restartRegions s) := by
  unfold restartRegions
  extract_lets rings _ cleared
  have hrings : SupplyKept s rings := forAll_supply (fun _ t => setRing_supply t _ _) _ s
  clear_value rings
  refine (forAll_supply (fun k t => ?_) _ cleared).trans (SupplyKept.trans (t := rings) ⟨rfl, rfl⟩ hrings)
  dsimp only
  split
  · exact setEngine_supply t k _
  · exact .refl t

theorem resumeRows_supply (s : State) : SupplyKept s (resumeRows s) := forAll_supply (fun _ t => ite_supply (setRow_supply t _ _) (.refl t)) _ s

theorem askWheeler_supply (target : Nat) (s : State) : SupplyKept s (askWheeler target s) := ite_supply ⟨rfl, rfl⟩ (.refl s)

theorem stateEvent_supply {s : State} (hup : s.power.state ≤ 1) (st src : Nat) : SupplyKept s (stateEvent st src s) := by
  unfold stateEvent powerEvent
  rw [if_pos hup]
  exact (raise_quiet ..).supply

/-- R511: from Idle the device returns to Run: the cores run, and the page store is as it was. -/
theorem returnToRun_idle {s : State} (hidle : s.power.state = 1) (src : Nat) :
    SupplyKept { s with power := { s.power with state := 0, coresRun := true } } (returnToRun src s) := by
  unfold returnToRun
  rw [if_neg (not_not_intro hidle)]
  extract_lets _ asked _ running woken
  have hasked : SupplyKept s asked := askWheeler_supply 0 s
  have hrunning : SupplyKept { s with power := { s.power with state := 0, coresRun := true } } running :=
    ⟨congrArg (fun p : Power => { p with state := 0, coresRun := true }) hasked.power, hasked.store⟩
  have hwoken : SupplyKept running woken := forAll_supply (fun h t => ite_supply (laneWake_supply h 2 t) (.refl t)) _ running
  have hrun : woken.power.state ≤ 1 := by rw [hwoken.power]; exact Nat.zero_le 1
  exact (resumeRows_supply _).trans ((restartRegions_supply _).trans ((stateEvent_supply hrun 0 src).trans (hwoken.trans hrunning)))

/-- R513: a wake from Sleep brings the rails up in order. -/
theorem beginWake_sleep {s : State} (hsleep : s.power.state = 2) (src : Nat) : (beginWake src true s).power = { s.power with
    wakeBy := src, wakeAt := s.time.now, wakePending := none, seq := .wakeSleep, todo := [(4, 2, 0)], req := some ⟨6, 2, 0, 1, s.time.now⟩ } := by
  simp only [beginWake, hsleep, Bool.not_true, Bool.false_eq_true, if_false, if_true]
  rfl

/-- R514: so does one from Deep sleep. -/
theorem beginWake_deep {s : State} (hdeep : s.power.state = 3) (src : Nat) : (beginWake src true s).power = { s.power with
    wakeBy := src, wakeAt := s.time.now, wakePending := none, seq := .wakeDeep
    todo := [(5, 1, 0), (6, 1, 0), (7, 1, 0), (8, 1, 0), (9, 1, 0)], req := some ⟨4, 2, 0, 1, s.time.now⟩ } := by
  have hne : s.power.state ≠ 2 := by rw [hdeep]; decide
  simp only [beginWake, hne, Bool.not_true, Bool.false_eq_true, if_false]
  rfl

theorem startRail_power (s : State) : ∃ todo req, (startRail s).power = { s.power with todo := todo, req := req } := by
  unfold startRail
  split
  · exact ⟨s.power.todo, s.power.req, rfl⟩
  · exact ⟨_, _, rfl⟩

/-- R515: a wake that fails suspends the sources, and leaves the device in its state. -/
theorem wakeFail_suspended (step cause rail : Nat) (status : BitVec 16) (s : State) :
    (wakeFail step cause rail status s).power.suspended = true ∧ (wakeFail step cause rail status s).power.state = s.power.state := by
  unfold wakeFail
  extract_lets run r p perm _ noted written _
  have hnoted : noted.power.suspended = true ∧ noted.power.state = s.power.state := ⟨rfl, rfl⟩
  have hwritten : written.power = noted.power := by
    simp only [written]
    split <;> rfl
  rw [← hwritten] at hnoted
  clear_value written
  split
  · exact hnoted
  · obtain ⟨todo, req, hpower⟩ := startRail_power
      { written with power := { written.power with seq := .wakeReturn written.power.state, todo := returnRails written.power.state rail written, req := none } }
    rw [beginSeq, hpower]
    exact hnoted

section
variable {s : State} (hup : s.power.down = false) (hgood : s.faults.failed = false) (hserves : s.start.step = 9)
include hup hgood hserves

/-- R512: what a rising edge of WAKE does to a device that serves. -/
theorem wakeEdge_serving (crystal : Bool) (f : StartFacts) : wakeEdge crystal f s = match s.power.state with
    | 0 => s
    | 1 => returnToRun 0 s
    | 4 => powerStart false false f (railsOff 1 s)
    | _ =>
      match s.power.seq with
      | .idle => beginWake 0 crystal s
      | .enter _ => { s with power := { s.power with wakePending := some crystal } }
      | .wakeReturn _ => { s with power := { s.power with wakePending := some crystal } }
      | _ => joinWake s :=
  (if_neg (by simp [hup, hgood])).trans ((if_neg (by simp [hserves])).trans (if_neg (by simp [hserves])))

/-- R513, R514: in a sleep it starts a wake. -/
theorem wakeEdge_asleep (hseq : s.power.seq = .idle) (hasleep : s.power.state = 2 ∨ s.power.state = 3) (crystal : Bool) (f : StartFacts) :
    wakeEdge crystal f s = beginWake 0 crystal s := by
  rw [wakeEdge_serving hup hgood hserves]
  rcases hasleep with h | h <;> simp only [h, hseq]

/-- R522: during an entry it waits for its end. -/
theorem wakeEdge_entering {n : Nat} (hseq : s.power.seq = .enter n) (hasleep : s.power.state = 2 ∨ s.power.state = 3) (crystal : Bool)
    (f : StartFacts) : wakeEdge crystal f s = { s with power := { s.power with wakePending := some crystal } } := by
  rw [wakeEdge_serving hup hgood hserves]
  rcases hasleep with h | h <;> simp only [h, hseq]
end

/-- Settles O58: an edge of WAKE by the power state (`wakeEdge_serving`), the wakes by what `beginWake` and `wakeFail` leave. -/
theorem wakesAndIdleCores : Obligations.WakesAndIdleCores := by
  intro dt f s hup hgood hserves
  have hasleep := wakeEdge_asleep (s := tick dt s) hup hgood hserves
  refine ⟨fun crystal hidle => ?idle, fun crystal hrun => ?run, fun hseq hsleep => ?sleep, fun hseq hdeep => ?deep, fun hseq hstate => ?suspended,
    fun crystal n hseq hstate => ?entering, fun hsleep hready htimer hdue => ?timer, fun hidle hcores hdue => ?cores⟩
  case idle =>
    have hwake : wakeEdge crystal f (tick dt s) = returnToRun 0 (tick dt s) := by
      rw [wakeEdge_serving (s := tick dt s) hup hgood hserves]
      simp only [show (tick dt s).power.state = 1 from hidle]
    have hreturn := returnToRun_idle (s := tick dt s) hidle 0
    refine ⟨_, congrArg ok hwake, ?_⟩
    rw [hreturn.power, hreturn.store]
    exact ⟨rfl, rfl, rfl⟩
  case run =>
    have hwake : wakeEdge crystal f (tick dt s) = tick dt s := by
      rw [wakeEdge_serving (s := tick dt s) hup hgood hserves]
      simp only [show (tick dt s).power.state = 0 from hrun]
    exact ⟨_, congrArg ok hwake, rfl⟩
  case sleep =>
    refine ⟨_, congrArg ok (hasleep hseq (.inl hsleep) true f), ?_⟩
    rw [beginWake_sleep (s := tick dt s) hsleep]
    exact ⟨rfl, rfl, rfl, rfl⟩
  case deep =>
    refine ⟨_, congrArg ok (hasleep hseq (.inr hdeep) true f), ?_⟩
    rw [beginWake_deep (s := tick dt s) hdeep]
    exact ⟨rfl, rfl, rfl⟩
  case suspended =>
    have hfail := wakeFail_suspended 1 4 0 0
      { tick dt s with power := { (tick dt s).power with wakeBy := 0, wakeAt := (tick dt s).time.now, wakePending := none } }
    exact ⟨_, congrArg ok (hasleep hseq hstate false f), hfail⟩
  case entering => exact ⟨_, congrArg ok (wakeEdge_entering (s := tick dt s) hup hgood hserves hseq hstate crystal f), rfl⟩
  case timer =>
    have hguard : ((s.power.state == 2 || s.power.state == 3) && sourceReady s 1 && cfgN s 0x3003 0 != 0 &&
        decide (s.power.enteredAt + cfgN s 0x3003 0 * sec ≤ s.time.now + dt)) = true := by simp [hsleep, hready, htimer, hdue]
    refine ⟨_, guardOk_of hguard _ _, ?_⟩
    rw [beginWake_sleep (s := tick dt s) hsleep]
    exact ⟨rfl, rfl, rfl⟩
  case cores =>
    have hguard : (s.power.state == 1 && s.power.coresRun && decide (s.power.coreMsgAt + 10 * ms ≤ s.time.now + dt)) = true := by
      simp [hidle, hcores, hdue]
    exact ⟨{ tick dt s with power := { s.power with coresRun := false } },
      by unfold exec execCoreIdleStop; exact guardOk_of (by exact hguard) _ _, rfl, rfl⟩

end Sys2Proof.Machine

namespace Sys2Proof.Machine

/-! ### What the handling of faults leaves of the device itself (R526, R546 to R550) -/

/-- How far the device has started, from which slot and when, its dies' temperatures, and the level of RESET_n. -/
structure Device where
  step : Nat
  bootSlot : Nat
  coldStart : Nat
  dieTemp : List Int
  resetN : Bool

def State.device (s : State) : Device where
  step := s.start.step
  bootSlot := s.start.bootSlot
  coldStart := s.time.coldStart
  dieTemp := s.faults.dieTemp
  resetN := s.faults.resetN

/-- What only the host's side sees changes nothing of it. -/
theorem Quiet.device {s t : State} (q : Quiet s t) : t.device = s.device := by
  have hstart : t.start.step = s.start.step ∧ t.start.bootSlot = s.start.bootSlot := by
    rw [q.start]
    exact ⟨rfl, rfl⟩
  simp only [State.device, hstart, q.time, q.faults]

theorem ite_device {c : Prop} [Decidable c] {d : Device} {t u : State} (ht : t.device = d) (hu : u.device = d) : (if c then t else u).device = d := by
  split <;> assumption

theorem forAll_device {α : Type} {f : α → State → State} (h : ∀ a s, (f a s).device = s.device) (l : List α) (s : State) :
    (forAll l f s).device = s.device :=
  forAll_induct (P := fun t => t.device = s.device) (fun a t ht => (h a t).trans ht) l s rfl

theorem raise_device (c v : Nat) (d : BitVec 96) (s : State) (u : BitVec 32) (l : Option Int) (n : Nat) : (raise c v d s u l n).device = s.device :=
  (raise_quiet ..).device
theorem ev_device (c : Nat) (d : BitVec 96) (s : State) (u : BitVec 32) (l : Option Int) (n : Nat) : (ev c d s u l n).device = s.device :=
  (ev_quiet ..).device

section
variable (s : State) (n : Nat)
theorem setRow_device (x : Row) : (s.setRow n x).device = s.device := rfl
theorem setEngine_device (x : Engine) : (s.setEngine n x).device = s.device := rfl
theorem setSess_device (x : Session) : (s.setSess n x).device = s.device := rfl
theorem emit_device (o : Output) : (emit o s).device = s.device := rfl
end

theorem mirror_device (b : PairBody) (s : State) : (mirror b s).device = s.device := ite_device rfl rfl

theorem setPairState_device (st reason : Nat) (s : State) : (setPairState st reason s).device = s.device := ite_device rfl (ev_device ..)

theorem setJob_device (j : Nat) (s : State) : (setJob j s).device = s.device := ite_device rfl (ev_device ..)

theorem haltJob_device (s : State) : (haltJob s).device = s.device := ite_device (setJob_device ..) rfl

theorem addDefect_device (d : Defect) (s : State) : (addDefect d s).device = s.device := mirror_device ..

theorem logLateLine_device (h : Nat) (L : Int) (cause action : Nat) (s : State) : (logLateLine h L cause action s).device = s.device := by
  unfold logLateLine
  dsimp only
  split
  · exact ite_device rfl (addDefect_device ..)
  · exact addDefect_device ..

theorem fireStopped_device (cause : Nat) (s : State) : (fireStopped cause s).device = s.device :=
  forAll_device (fun _ _ => (addDefect_device ..).trans (ev_device ..)) _ s

theorem updateSplice_device (f : Splice → Splice) (s : State) : (updateSplice f s).device = s.device := by
  unfold updateSplice
  split <;> rfl

theorem skipRow_device (log : Bool) (u : Nat) (s : State) : (skipRow log u s).device = s.device := by
  unfold skipRow
  extract_lets x old last r left _ settled
  exact ite_device (ite_device (forAll_device (fun _ t => logLateLine_device _ _ _ _ t) _ settled) rfl) rfl

theorem reinAbandon_device (reason : Nat) (s : State) : (reinAbandon reason s).device = s.device := by
  unfold reinAbandon
  extract_lets step skipped _ _ freed spliced raised
  have hfreed : freed.device = s.device := forAll_device (skipRow_device _) _ s
  exact ite_device rfl ((mirror_device ..).trans ((mirror_device ..).trans ((ev_device ..).trans ((updateSplice_device ..).trans hfreed))))

theorem releaseLanes_device (s : State) : (releaseLanes s).device = s.device := forAll_device (fun _ t => emit_device t _) _ s

theorem releaseOwned_device (s : State) :
    (forAll (headNums.filter (fun h => tget 0 s.pair.owner h == 1)) (fun h s => emit (.release h s.pair.epoch) s) s).device = s.device :=
  forAll_device (fun _ t => emit_device t _) _ s

theorem dropHostState_device (s : State) : (dropHostState s).device = s.device := by
  unfold dropHostState
  extract_lets settled ended unstaged
  have hended : ended.device = s.device := (forAll_device (fun _ _ => (completeHandle_quiet ..).device) _ settled).trans (settleWithheld_quiet ..).device
  have hunstaged : unstaged.device = s.device := (forAll_device (fun _ t => setSess_device t _ _) _ ended).trans hended
  clear_value unstaged
  exact hunstaged

theorem leadRelease_device (code : Nat) (silent : Bool) (s : State) : (leadRelease code silent s).device = s.device := by
  unfold leadRelease
  extract_lets sent _ given dropped
  have hsent : sent.device = s.device := ite_device rfl (releaseLanes_device s)
  have hdropped : dropped.device = s.device := (dropHostState_device given).trans hsent
  exact ite_device ((setPairState_device ..).trans hdropped) ((setPairState_device ..).trans hdropped)

theorem holdWheeler_device (reason : Nat) (s : State) : (holdWheeler reason s).device = s.device :=
  ite_device rfl ((setPairState_device ..).trans (ite_device (releaseOwned_device s) rfl))

theorem syncClass_device (code : Nat) (unit : BitVec 32) (s : State) : (syncClass code unit s).device = s.device :=
  ite_device rfl (ite_device rfl (raise_device ..))

theorem causeGone_device (code : Nat) (unit : BitVec 32) (s : State) (only : Option Nat) : (causeGone code unit s only).device = s.device :=
  syncClass_device ..

theorem holdEntry_device (s : State) : (holdEntry s).device = s.device := by
  unfold holdEntry
  extract_lets _ held voided
  have hvoided : voided.device = s.device := forAll_device (fun u t => setRow_device t u _) (List.range 128) held
  exact (fireStopped_device ..).trans ((haltJob_device _).trans ((reinAbandon_device _ voided).trans hvoided))

theorem classResponse_device (cls : Nat) (trigger : Option Nat) (silent : Bool) (s : State) :
    (classResponse cls trigger silent s).device = s.device := by
  unfold classResponse
  extract_lets released held
  have hreleased : released.device = s.device := ite_device (releaseOwned_device s) rfl
  have hheld : held.device = s.device := ite_device rfl (holdEntry_device s)
  exact ite_device ((holdWheeler_device _ released).trans hreleased)
    (ite_device (leadRelease_device ..) (ite_device ((releaseLanes_device held).trans hheld) hheld))

theorem addFault_device (code cls level : Nat) (unit : BitVec 32) (s : State) (respond : Bool) (trigger : Option Nat) (silent exact_ : Bool) :
    (addFault code cls level unit s respond trigger silent exact_).device = s.device := by
  unfold addFault
  extract_lets counts _ counted same f active _ found lived answered
  have hlived : lived.device = s.device := ite_device rfl rfl
  have hanswered : answered.device = s.device := ite_device ((classResponse_device _ _ _ lived).trans hlived) hlived
  exact ite_device rfl ((syncClass_device _ _ answered).trans hanswered)

/-! ### Readings (R503, R506, R550, R557, R582) -/

theorem setRail_device (s : State) (n : Nat) (x : Rail) : (s.setRail n x).device = s.device := rfl

theorem railTelemetry_faults (readings : List (List Int)) (s : State) : (railTelemetry readings s).faults = s.faults :=
  forAll_induct (P := fun t => t.faults = s.faults) (fun i t ht => by exact ht) _ s rfl

/-- R503: the readings of the first `n` rails have been taken. -/
theorem readings_taken (readings : List (List Int)) (s : State) (i : Nat) : ∀ n : Nat,
    (forAll (List.range n) (fun i s => s.setRail (i + 1) { s.rail (i + 1) with tele := readings.getD i (s.rail (i + 1)).tele }) s).rail (i + 1) =
      if i < n then { s.rail (i + 1) with tele := readings.getD i (s.rail (i + 1)).tele } else s.rail (i + 1)
  | 0 => rfl
  | n + 1 => by
    have hbefore := readings_taken readings s i n
    rw [forAll] at hbefore ⊢
    rw [List.range_succ, List.foldl_append, List.foldl_cons, List.foldl_nil]
    by_cases hi : i = n
    · subst hi
      rw [State.setRail_rail, hbefore, if_neg (Nat.lt_irrefl i), if_pos (Nat.lt_succ_self i)]
    · rw [State.setRail_rail_ne _ _ _ _ (by omega), hbefore]
      simp only [show i < n + 1 ↔ i < n by omega]

/-- R546: a fault of class 1 changes the list of faults, its counts and the class. -/
theorem addFault_one_faults (code level : Nat) (unit : BitVec 32) (s : State) : ∃ active counts cls,
    (addFault code 1 level unit s).faults = { s.faults with active := active, counts := counts, cls := cls } := ⟨_, _, _, syncClass_faults ..⟩

/-- R557: an output that disagrees is noted, with its flag. -/
theorem readback_spec {k : Nat} (hk : k < 32) (high : Bool) (s : State) : k ∈ (readback k high s).faults.disagree ∧
    (readback k high s).faults.output.word.getLsbD k = true ∧ (readback k high s).store = s.store := by
  unfold readback
  extract_lets _ noted raised
  have hraised : raised.faults = noted.faults ∧ raised.store = s.store := ⟨ev_faults .., ev_store ..⟩
  clear_value raised
  obtain ⟨active, counts, cls, hfaults⟩ := addFault_one_faults 0xB024 6 unitDevice raised
  rw [hfaults, hraised.1, addFault_store, hraised.2]
  refine ⟨?_, Flags.set_on _ _ hk, rfl⟩
  change k ∈ if s.faults.disagree.contains k then s.faults.disagree else s.faults.disagree ++ [k]
  split
  next h => exact List.contains_iff_mem.mp h
  next => exact List.mem_append_right _ List.mem_cons_self

/-- R550: an output that agrees again leaves the list. -/
theorem agreement_spec (k : Nat) (s : State) : k ∉ (agreement k s).faults.disagree ∧ (agreement k s).faults.output = s.faults.output ∧
    (agreement k s).store = s.store := by
  have hrest : k ∉ s.faults.disagree.filter (· != k) := fun h => by simpa using (List.mem_filter.mp h).2
  unfold agreement
  dsimp only
  split
  · rw [causeGone, syncClass_faults, (syncClass_quiet ..).store]
    exact ⟨hrest, rfl, rfl⟩
  · exact ⟨hrest, rfl, rfl⟩

theorem railEvent_quiet (rail reason sev : Nat) (status : BitVec 16) (s : State) :
    ∃ held, Quiet { s with power := { s.power with held := held } } (railEvent rail reason sev status s) := powerEvent_quiet ..

/-- R506, R550: whatever follows upon an alert, the rail is asked to clear its faults, and what is stored stays. -/
theorem pmbAlert_spec (rail : Nat) (status : BitVec 16) (mv : Nat) (s : State) :
    Output.pmbus rail 3 0 ∈ (pmbAlert rail status mv s).model.tx ∧ (pmbAlert rail status mv s).store.mem = s.store.mem := by
  refine ⟨?_, ?_⟩
  · have hraised : ∀ sev, Output.pmbus rail 3 0 ∈ (railEvent rail 2 sev status (emit (.pmbus rail 3 0) s)).model.tx := fun sev =>
      (railEvent_keeps rail 2 sev status _ (.refl _)).tx _ (withTag_mem_emit ..)
    unfold pmbAlert
    extract_lets bad raised _ dead
    split
    · refine (dieFault_keeps _ _ _ _ _ _ dead (.refl dead)).tx _ ?_
      simp only [dead]
      split <;> exact hraised _
    · split
      · exact (addFault_keeps _ _ _ _ raised _ _ _ _ (.refl raised)).tx _ (hraised _)
      · exact hraised _
  · have hraised : ∀ sev, (railEvent rail 2 sev status (emit (.pmbus rail 3 0) s)).store.mem = s.store.mem := fun sev => by
      obtain ⟨held, hevent⟩ := railEvent_quiet rail 2 sev status (emit (.pmbus rail 3 0) s)
      exact congrArg Store.mem hevent.store
    unfold pmbAlert
    extract_lets bad raised _ dead
    split
    · refine (congrArg Store.mem (dieFault_store _ _ (by decide) _ _ _ dead)).trans ?_
      simp only [dead]
      split <;> exact hraised _
    · split
      · rw [addFault_store]; exact hraised _
      · exact hraised _

/-- The device itself and what is stored are as they were. -/
structure Undisturbed (s t : State) : Prop where
  device : t.device = s.device
  mem : t.store.mem = s.store.mem

theorem Undisturbed.refl (s : State) : Undisturbed s s := ⟨rfl, rfl⟩

theorem Undisturbed.trans {s t u : State} (g : Undisturbed t u) (h : Undisturbed s t) : Undisturbed s u :=
  ⟨g.device.trans h.device, g.mem.trans h.mem⟩

theorem Quiet.undisturbed {s t : State} (q : Quiet s t) : Undisturbed s t := ⟨q.device, congrArg Store.mem q.store⟩

theorem ite_undisturbed {c : Prop} [Decidable c] {s t u : State} (ht : Undisturbed s t) (hu : Undisturbed s u) :
    Undisturbed s (if c then t else u) := by
  split <;> assumption

theorem addFault_undisturbed (code cls level : Nat) (unit : BitVec 32) (s : State) (respond : Bool) (trigger : Option Nat) (silent exact_ : Bool) :
    Undisturbed s (addFault code cls level unit s respond trigger silent exact_) := ⟨addFault_device .., congrArg Store.mem (addFault_store ..)⟩

theorem railsOff_undisturbed (n : Nat) (s : State) : Undisturbed s (railsOff n s) :=
  forAll_induct (P := Undisturbed s) (fun _ _ ht => Undisturbed.trans ⟨setRail_device .., rfl⟩ ht) _ s (.refl s)

theorem tempShutdown_undisturbed (die : Nat) (s : State) : Undisturbed s (tempShutdown die s) :=
  Undisturbed.trans (t := railsOff (if die = 0 then 5 else 1) s) ⟨rfl, rfl⟩ (railsOff_undisturbed ..)

/-- R550, R558: so they are where a limit is judged. -/
theorem judgeTemp_undisturbed (l : Nat × Nat × Int × Option Int) (v : Int) (s : State) : Undisturbed s (judgeTemp l v s) := by
  obtain ⟨die, cls, enter, exit⟩ := l
  dsimp -zeta only [judgeTemp]
  extract_lets raised counted faulted
  have hraised : Undisturbed s raised := (raise_quiet ..).undisturbed
  have hcounted : Undisturbed s counted := ite_undisturbed (Undisturbed.trans (t := raised) ⟨rfl, rfl⟩ hraised) hraised
  have hfaulted : Undisturbed s faulted := (addFault_undisturbed ..).trans hcounted
  have hgone : Undisturbed s (causeGone 0xB023 (unitDie die) (raise 0xB023 0 (faultDetail die 0 0 v) s (unit := unitDie die)) (only := some cls)) :=
    Undisturbed.trans ⟨causeGone_device .., congrArg Store.mem (syncClass_quiet ..).store⟩ (raise_quiet ..).undisturbed
  exact ite_undisturbed (ite_undisturbed ((tempShutdown_undisturbed ..).trans hfaulted) hfaulted) (ite_undisturbed hgone (.refl s))

/-- R550, R558: the temperatures of the dies are published. -/
theorem dieTempStep_spec (logic stack supervisor : Int) (s : State) : (dieTempStep logic stack supervisor s).faults.dieTemp = [logic, stack, supervisor] ∧
    (dieTempStep logic stack supervisor s).store.mem = s.store.mem := by
  unfold dieTempStep
  extract_lets l bins _ published
  have hjudged : Undisturbed published (forAll tempLimits
      (fun l s => judgeTemp l (if l.1 = 0 then logic else if l.1 = 2 then stack else supervisor) s) published) :=
    forAll_induct (P := Undisturbed published) (fun l t ht => (judgeTemp_undisturbed ..).trans ht) _ _ (.refl published)
  exact ⟨congrArg Device.dieTemp hjudged.device, hjudged.mem⟩

/-! ### Upkeep (R529, R539, R540, R559) -/

/-- R529: a write of the configuration store. -/
theorem writeConfig_spec {s : State} (hpower : s.power.vsup3Over = false) : (writeConfig s).start.store.dirtyAt = none ∧
    Output.flash 5 (writeSlot (s.start.store.copies.map (·.copy))) ∈ (writeConfig s).model.tx ∧ (writeConfig s).axis = s.axis := by
  unfold writeConfig
  rw [if_neg (by rw [hpower]; decide)]
  exact ⟨rfl, withTag_mem_emit .., rfl⟩

/-- R559: a write of the lifetime records. -/
theorem writeLife_spec {s : State} (hpower : s.power.vsup3Over = false) : (writeLife s).faults.life.storedHours = powerHours s ∧
    Output.flash 4 (writeSlot (s.faults.lifeFlash.map (·.copy))) ∈ (writeLife s).model.tx ∧ (writeLife s).store = s.store := by
  unfold writeLife
  rw [if_neg (by rw [hpower]; decide)]
  exact ⟨rfl, withTag_mem_emit .., rfl⟩

/-- R539: the taps of the spare comparator take over. -/
theorem encCalDeferred_spec (ch : Nat) (taps : List Nat) (s : State) : tget false (encCalDeferred ch taps s).start.deferred ch = false ∧
    tget [] (encCalDeferred ch taps s).start.encThreshold ch = taps ∧ (encCalDeferred ch taps s).axis = s.axis := by
  dsimp only [encCalDeferred]
  exact ⟨tget_tput_self, tget_tput_self, rfl⟩

/-- R540: one tap step of a lane: its tap and its instant, the drift of its pseudo-channel, and the flag of a margin. -/
theorem tapStep_eq (lane : Nat) (up : Bool) (s : State) : ∃ tapAt margin cal, tapStep lane up s = { s with start := { s.start with
    taps := tput (64, 64) s.start.taps lane (if up then min 127 ((tget (64, 64) s.start.taps lane).1 + 1) else (tget (64, 64) s.start.taps lane).1 - 1,
      (tget (64, 64) s.start.taps lane).2), tapAt := tapAt, storeMargin := margin, cal := cal } } := by
  unfold tapStep
  extract_lets t now drift was pc m _ moved largest _ noted
  split
  · exact ⟨_, _, _, rfl⟩
  · exact ⟨_, _, s.start.cal, rfl⟩

theorem tapStep_spec (lane : Nat) (up : Bool) (s : State) : tget (64, 64) (tapStep lane up s).start.taps lane =
      (if up then min 127 ((tget (64, 64) s.start.taps lane).1 + 1) else (tget (64, 64) s.start.taps lane).1 - 1, (tget (64, 64) s.start.taps lane).2) ∧
    (tapStep lane up s).store = s.store := by
  obtain ⟨tapAt, margin, cal, heq⟩ := tapStep_eq lane up s
  rw [heq]
  exact ⟨tget_tput_self, rfl⟩

theorem exec_tapStep {dt lane : Nat} {s : State} (hready : s.store.state = 2) (hlane : lane < 1152)
    (hrested : ∀ x, tget none s.start.tapAt lane = some x → x + ms ≤ s.time.now + dt) (up : Bool) :
    exec (.tapStep dt lane up) s = .next (tapStep lane up (tick dt s)) := by
  unfold exec execTapStep
  refine guardOk_of ?_ _ _
  have hrest : (match tget none (tick dt s).start.tapAt lane with | some t => decide (t + ms ≤ (tick dt s).time.now) | none => true) = true := by
    split
    next x hx => exact decide_eq_true (hrested x hx)
    next => rfl
  exact Bool.and_eq_true_iff.mpr ⟨Bool.and_eq_true_iff.mpr ⟨beq_iff_eq.mpr hready, decide_eq_true hlane⟩, hrest⟩

/-- Settles O59: each reading and each write by what its function leaves, behind its guard. -/
theorem readingsAndUpkeep : Obligations.ReadingsAndUpkeep := by
  refine ⟨fun dt s hsupplied => ⟨fun readings i => ?telemetry, fun rail status mv => ?alert, fun output high hexpected => ?readback,
      fun output hdiffers => ?agreement, fun jtag => ?jtag, fun hreleased => ?extest, fun hgood logic stack supervisor => ?temps⟩,
    fun dt s => ⟨fun hdirty hflash hserves => ?config, fun hhour hsupplied hpower => ?life, fun ch taps hdeferred hstopped hstill => ?encCal,
      fun lane hready hlane hrested => ?taps⟩⟩
  case telemetry =>
    refine ⟨_, guardOk_of (c := supplied (tick dt s)) hsupplied (railTelemetry readings) _, ?_, ?_, railTelemetry_faults ..⟩
    · rw [railTelemetry, readings_taken, if_pos i.isLt]; rfl
    · rw [railTelemetry, readings_taken, if_pos i.isLt]; rfl
  case alert =>
    exact ⟨_, guardOk_of (c := supplied (tick dt s)) hsupplied (pmbAlert (rail + 1) status mv) _, pmbAlert_spec (rail + 1) status mv (tick dt s)⟩
  case readback =>
    have hguard : (supplied (tick dt s) && expectedLevel (tick dt s) output == some (!high)) = true :=
      Bool.and_eq_true_iff.mpr ⟨hsupplied, beq_iff_eq.mpr hexpected⟩
    obtain ⟨hnoted, hflag, hstore⟩ := readback_spec (k := output) (by omega) high (tick dt s)
    exact ⟨_, guardOk_of hguard (readback output high) _, hnoted, hflag, congrArg Store.mem hstore⟩
  case agreement =>
    have hguard : (supplied (tick dt s) && (tick dt s).faults.disagree.contains output.val) = true :=
      Bool.and_eq_true_iff.mpr ⟨hsupplied, List.contains_iff_mem.mpr hdiffers⟩
    exact ⟨_, guardOk_of hguard (agreement output) _, agreement_spec output (tick dt s)⟩
  case jtag =>
    exact ⟨{ tick dt s with faults := { s.faults with jtag := jtagEffect s jtag } },
      by unfold exec execJtagInstruction; exact guardOk_of (by exact hsupplied) _ _, rfl, rfl, rfl⟩
  case extest =>
    refine ⟨{ tick dt s with faults := { s.faults with jtag := jtagEffect s .extest } },
      by unfold exec execJtagInstruction; exact guardOk_of (by exact hsupplied) _ _, ?_⟩
    change (if s.faults.resetN = true then JtagInstr.extest else .samplePreload) = _
    rw [hreleased]; rfl
  case temps =>
    have hguard : (supplied (tick dt s) && !(tick dt s).faults.failed) = true :=
      Bool.and_eq_true_iff.mpr ⟨hsupplied, by rw [show (tick dt s).faults.failed = false from hgood]; rfl⟩
    exact ⟨_, guardOk_of hguard (dieTempStep logic stack supervisor) _, dieTempStep_spec logic stack supervisor (tick dt s)⟩
  case config =>
    have hguard : ((s.start.store.dirtyAt.isSome || delaysDue (tick dt s)) && flashWorks s && s.start.step == 9) = true := by
      simp [Option.isSome_iff_ne_none.mpr hdirty, hflash, hserves]
    have hpower : s.power.vsup3Over = false := by simpa using (Bool.and_eq_true_iff.mp hflash).1
    exact ⟨_, guardOk_of (by exact hguard) writeConfig _, writeConfig_spec (s := tick dt s) hpower⟩
  case life =>
    have hguard : (decide (s.faults.life.storedHours < powerHours (tick dt s)) && !s.power.down && s.power.state != 4) = true := by
      rw [decide_eq_true hhour, Bool.true_and]
      exact hsupplied
    exact ⟨_, guardOk_of (by exact hguard) writeLife _, writeLife_spec (s := tick dt s) hpower⟩
  case encCal =>
    refine ⟨_, ?_, encCalDeferred_spec ch taps (tick dt s)⟩
    unfold exec execEncCalDeferred
    refine guardOk_of ?_ _ _
    have hlast : ((tick dt s).chan ch).last = none := hstill
    have hdeferred' : tget false (tick dt s).start.deferred ch = true := hdeferred
    have hstopped' : (tick dt s).axis.stopped = true := hstopped
    simp only [hlast, hdeferred', hstopped', Bool.and_self]
  case taps =>
    obtain ⟨hup, hupStore⟩ := tapStep_spec lane true (tick dt s)
    obtain ⟨hdown, hdownStore⟩ := tapStep_spec lane false (tick dt s)
    exact ⟨⟨_, exec_tapStep hready hlane hrested true, hup, hupStore⟩, ⟨_, exec_tapStep hready hlane hrested false, hdown, hdownStore⟩⟩

end Sys2Proof.Machine

namespace Sys2Proof.Machine

/-! ### A start that finds an image (R526, R533 to R541) -/

theorem writeBoot_device (b : BootCtl) (s : State) : (writeBoot b s).device = s.device := rfl

theorem bootChoice_device (bad : Option Nat) (s : State) : (bootChoice bad s).2.device = s.device := by
  unfold bootChoice
  extract_lets reason b back tried p other
  have htried : tried.device = s.device := ite_device ((ev_device ..).trans (writeBoot_device ..)) (ite_device (writeBoot_device ..) rfl)
  have hother : other.device = s.device := (ev_device ..).trans htried
  split
  · exact htried
  · split
    · exact ite_device ((writeBoot_device ..).trans hother) hother
    · exact htried

theorem setCfg_device (s : State) (idx sub : Nat) (v : Val) (gen : BitVec 32) : (setCfg s idx sub v gen).device = s.device := rfl

theorem restoreConfig_device (s : State) : (restoreConfig s).device = s.device := by
  unfold restoreConfig
  extract_lets copies heads best objs profile _ profiled kept stored num _ numbered _ named
  have hprofiled : kept.device = s.device := ite_device (forAll_device (fun _ t => setCfg_device t _ _ _ _) kinov profiled) rfl
  have hstored : stored.device = s.device := (forAll_device (fun _ t => setCfg_device t _ _ _ _) objs kept).trans hprofiled
  exact ite_device hstored ((ev_device ..).trans hstored)

theorem lendSpare_device (r : Nat) (s : State) : (lendSpare r s).device = s.device := by
  unfold lendSpare
  split <;> rfl

theorem rolesJudged_device (bad : List Nat) (r : Nat) (s : State) : (forAll ((List.range 9).map (fun i => 9 * r + i)) (fun k s =>
    s.setEngine k { role := if bad.contains k then .out else if (passing bad r).length = 9 ∧ some k = (passing bad r).getLast? then .spare else .free }) s).device
      = s.device := forAll_device (fun _ t => setEngine_device t _ _) _ s

theorem sparesLent_device (bad : List Nat) (r : Nat) (s : State) :
    (forAll (List.range (8 - (passing bad r).length)) (fun _ s => lendSpare r s) s).device = s.device :=
  forAll_device (fun _ t => lendSpare_device r t) _ s

theorem chooseSpares_device (bad : List Nat) (s : State) : (chooseSpares bad s).device = s.device := by
  unfold chooseSpares
  extract_lets judged
  have hjudged : judged.device = s.device := forAll_device (rolesJudged_device bad) (List.range 4) s
  clear_value judged
  exact (forAll_device (sparesLent_device bad) (List.range 4) judged).trans hjudged

theorem dieFault_device (die reason cls : Nat) (v : Int) (trigger : Option Nat) (silent : Bool) (s : State) :
    (dieFault die reason cls v trigger silent s).device = s.device := by
  unfold dieFault
  extract_lets ended raised
  have hended : ended.device = s.device := forAll_device (fun _ t => ite_device (setEngine_device t _ _) rfl) _ s
  have hraised : raised.device = s.device := (raise_device ..).trans hended
  clear_value raised
  exact (addFault_device ..).trans hraised

theorem loadPart_device (badParts : List Nat) (h : Nat) (s : State) : (loadPart badParts h s).device = s.device := by
  unfold loadPart
  extract_lets z own inhibited d base
  exact ite_device (ite_device rfl rfl) (ev_device ..)

theorem fillStore_device (f : StartFacts) (s : State) : (fillStore f s).device = s.device := by
  unfold fillStore
  extract_lets kept skip _ _ filled _ stood
  have hstood : stood.device = s.device := ite_device rfl ((dieFault_device ..).trans (ite_device rfl rfl))
  clear_value stood
  exact (forAll_device (loadPart_device f.badParts) headNums stood).trans hstood

theorem measureEyes_device (s : State) : (measureEyes s).device = s.device := by simp only [State.device, measureEyes]

theorem calFlag_device (b : Nat) (s : State) : (calFlag b s).device = s.device := rfl

theorem marginEvent_device (reason : Nat) (m : Nat × Nat × Nat) (s : State) : (marginEvent reason m s).device = s.device := ev_device ..

theorem learn_device (f : StartFacts) (s : State) : (learn f s).device = s.device := ite_device rfl rfl

theorem calibrate_device (f : StartFacts) (s : State) : (calibrate f s).device = s.device := by
  unfold calibrate
  extract_lets measured head _ taken first _ marked second margins deferred figure low
  have hmeasured : measured.device = s.device := measureEyes_device s
  have htaken : taken.device = s.device := by
    clear_value measured
    refine Eq.trans ?_ hmeasured
    simp only [taken, State.device]
    rfl
  have hfirst : first.device = s.device := by
    simp only [first]
    split
    · exact (raise_device ..).trans ((addFault_device ..).trans ((calFlag_device 0 taken).trans htaken))
    · exact htaken
  clear_value first
  have hsecond : second.device = s.device := by
    simp only [second]
    split
    · exact (raise_device ..).trans ((addFault_device ..).trans ((calFlag_device 1 marked).trans hfirst))
    · exact hfirst
  have hmargins : margins.device = s.device := (forAll_device (fun m t => (addFault_device ..).trans ((marginEvent_device ..).trans (calFlag_device 2 t)))
    f.margins second).trans hsecond
  have hdeferred : deferred.device = s.device := by
    simp only [deferred]
    refine (forAll_device (fun c t => ?_) f.moving margins).trans hmargins
    rfl
  clear_value deferred
  refine (learn_device ..).trans ((forAll_device (fun p t => ?_) low deferred).trans hdeferred)
  exact marginEvent_device ..

theorem dropTable_device (x : Nat × Nat) (s : State) : (dropTable x s).device = s.device := ev_device ..

theorem restoreLife_device (ram : Bool) (s : State) : (restoreLife ram s).device = s.device := by
  unfold restoreLife
  extract_lets heads run
  split
  · rfl
  · split
    · rfl
    · split <;> exact ev_device ..

theorem ptpInit_device (s : State) : (ptpInit s).device = s.device :=
  forAll_device (f := fun n s => s.setPtpPort n { s.ptpPort n with state := 1, foreign := [], sync := none, t1t2 := none, delayReq := none })
    (fun _ _ => rfl) [0, 1, 2] s

theorem startTandem_device (s : State) : (startTandem s).device = s.device := ite_device rfl rfl

theorem updateLimit_device (s : State) : (updateLimit s).device = s.device := by
  unfold updateLimit
  exact ite_device (ev_device ..) (ite_device rfl (ite_device rfl rfl))

/-- R526: step 9. -/
theorem serve_device (s : State) : (serve s).device = { s.device with step := 9 } := by
  unfold serve
  extract_lets old _ serving told raised
  have hserving : serving.device = { s.device with step := 9 } := rfl
  have htold : told.device = { s.device with step := 9 } := (forAll_device (fun _ _ => (broadcast_quiet ..).device) old serving).trans hserving
  have hraised : raised.device = { s.device with step := 9 } := (forAll_device (fun _ _ => ev_device ..) _ told).trans htold
  clear_value raised
  exact hraised

/-- R526: a start with an image serves from it; it was cold when the device time began. -/
theorem startWith_device (ram : Bool) (f : StartFacts) (slot : Nat) (s : State) :
    (startWith ram f slot s).device = { s.device with step := 9, bootSlot := slot } := by
  unfold startWith
  extract_lets _ booted restored filled lived tandem faulted
  have hrestored : restored.device = { s.device with step := 5, bootSlot := slot } := (chooseSpares_device ..).trans (restoreConfig_device booted)
  have hfilled : filled.device = { s.device with step := 5, bootSlot := slot } :=
    (calibrate_device ..).trans ((fillStore_device ..).trans hrestored)
  have hlived : lived.device = { s.device with step := 5, bootSlot := slot } :=
    (restoreLife_device ..).trans ((forAll_device dropTable_device _ filled).trans hfilled)
  have htandem : tandem.device = { s.device with step := 5, bootSlot := slot } :=
    (startTandem_device ..).trans ((ptpInit_device ..).trans hlived)
  have hfaulted : faulted.device = { s.device with step := 5, bootSlot := slot } := ite_device ((addFault_device ..).trans htandem) htandem
  rw [updateLimit_device, serve_device, hfaulted]

/-! ### The outcomes of a cold start (R526, R527, R535, R542) -/

/-- R526: a start that finds an image. -/
theorem coldStart_image {ram retried : Bool} {f : StartFacts} {s : State} {k : Nat} (hgood : f.failed = none) (hdigest : f.digestBad = false)
    (himage : (bootChoice none (atStepOne ram s)).1 = some k) :
    coldStart ram retried f s = startWith ram f k (bootChoice none (atStepOne ram s)).2 := by
  have hslot := himage
  simp only [atStepOne] at hslot
  simp only [coldStart, hgood, hslot, hdigest, Bool.false_eq_true, if_false]
  rfl

/-- R535: one that finds none. -/
theorem coldStart_recovery {ram retried : Bool} {f : StartFacts} {s : State} (hgood : f.failed = none)
    (hnone : (bootChoice none (atStepOne ram s)).1 = none) :
    coldStart ram retried f s = recoveryMode (bootChoice none (atStepOne ram s)).2 := by
  have hslot := hnone
  simp only [atStepOne] at hslot
  simp only [coldStart, hgood, hslot]
  rfl

/-- R526: a start that finds an image serves from it. -/
theorem coldStart_serves {ram retried : Bool} {f : StartFacts} {s : State} {k : Nat} (hgood : f.failed = none) (hdigest : f.digestBad = false)
    (himage : (bootChoice none (atStepOne ram s)).1 = some k) : (coldStart ram retried f s).start.step = 9 ∧
      (coldStart ram retried f s).start.bootSlot = k ∧ (coldStart ram retried f s).time.coldStart = s.time.now ∧
      (coldStart ram retried f s).faults.resetN = false := by
  have hdevice : (coldStart ram retried f s).device = { (atStepOne ram s).device with step := 9, bootSlot := k } := by
    rw [coldStart_image hgood hdigest himage, startWith_device, bootChoice_device]
  have hfresh : (atStepOne ram s).time.coldStart = s.time.now ∧ (atStepOne ram s).faults.resetN = false := by
    cases ram <;> exact ⟨rfl, rfl⟩
  exact ⟨congrArg Device.step hdevice, congrArg Device.bootSlot hdevice, (congrArg Device.coldStart hdevice).trans hfresh.1,
    (congrArg Device.resetN hdevice).trans hfresh.2⟩

/-- R542: a start that fails leaves the device without clocks or outputs; only the first failure is retried. -/
structure Stopped (retried : Bool) (s : State) : Prop where
  step : s.start.step = 0
  power : s.power.state = 3
  store : s.store.state = 0
  inkEn : s.faults.inkEn = false
  headPwr : s.faults.headPwr = false
  retryAt : s.start.retryAt = if retried then none else some s.time.now

theorem startFailed_stopped (step cause rail : Nat) (status : BitVec 16) (retried : Bool) (s : State) :
    Stopped retried (startFailed step cause rail status retried s) := ⟨rfl, rfl, rfl, rfl, rfl, rfl⟩

theorem coldStart_fails {ram retried : Bool} {f : StartFacts} {x : Nat × Nat × Nat × BitVec 16} (hfailed : f.failed = some x) (hstep : x.1 ≠ 4)
    (s : State) : Stopped retried (coldStart ram retried f s) := by
  obtain ⟨step, cause, rail, status⟩ := x
  have hstep' : step ≠ 4 := hstep
  simp only [coldStart, hfailed, hstep', if_false]
  exact startFailed_stopped ..

/-- R526: while nothing fails, every rail comes up. -/
theorem powerStart_good {f : StartFacts} (hgood : f.failed = none) (ram retried : Bool) (s : State) :
    powerStart ram retried f s = coldStart ram retried f (railsUp 9 s) := by
  simp only [powerStart, hgood]

theorem powerStart_fails {ram retried : Bool} {f : StartFacts} {x : Nat × Nat × Nat × BitVec 16} (hfailed : f.failed = some x) (hstep : x.1 ≠ 4)
    (s : State) : Stopped retried (powerStart ram retried f s) := coldStart_fails hfailed hstep _

/-- R542: 1 s after the failure. -/
theorem exec_startRetry {dt p : Nat} {f : StartFacts} {s : State} (hretry : s.start.retryAt = some p) (hdue : p + sec ≤ s.time.now + dt) :
    exec (.startRetry dt f) s = .next (powerStart true true f (tick dt s)) := by
  unfold exec execStartRetry
  refine guardOk_of ?_ _ _
  rw [show (tick dt s).start.retryAt = some p from hretry]
  exact decide_eq_true hdue

/-- Settles O56: a start by its outcome (`coldStart_serves`, `coldStart_recovery`, `coldStart_fails`), RESET_n by `holdReset` and `resetStart`. -/
theorem startsEnd : Obligations.StartsEnd := by
  intro dt f s
  have hnow : (railsUp 9 (tick dt s)).time.now = s.time.now + dt := (railsUp_keeps 9 _ (.refl _)).now
  refine ⟨fun x hfailed hstep => ?fails, fun k hgood hdigest himage => ?serves, fun hgood hnone => ?recovery,
    fun hsupplied => ⟨fun hreleased => ?held, fun k hheld hrails hgood hdigest himage => ?released⟩,
    fun x p hretry hdue hfailed hstep => ?failsAgain, fun k p hretry hdue hgood hdigest himage => ?retried⟩
  case fails =>
    obtain ⟨hstep, hpower, hstore, hink, hhead, hretry⟩ := powerStart_fails (ram := false) (retried := false) hfailed hstep (tick dt s)
    refine ⟨_, rfl, hstep, hpower, hstore, hink, hhead, hretry.trans ?_⟩
    exact congrArg some (powerStart_keeps _ _ _ _ (.refl (tick dt s))).now
  case serves =>
    obtain ⟨hstep, hslot, hcold, -⟩ := coldStart_serves (retried := false) hgood hdigest himage
    exact ⟨_, congrArg ok (powerStart_good hgood ..), hstep, hslot, hcold.trans hnow⟩
  case recovery =>
    refine ⟨_, congrArg ok ((powerStart_good hgood ..).trans (coldStart_recovery hgood hnone)), rfl, rfl, rfl⟩
  case held =>
    have hguard : (!s.power.down && s.power.state != 4 && s.faults.resetN == false) = true := by
      rw [Bool.and_eq_true, hreleased]
      exact ⟨hsupplied, rfl⟩
    exact ⟨_, guardOk_of (by exact hguard) holdReset _, rfl, rfl, rfl, rfl, rfl, rfl⟩
  case released =>
    have hguard : (!s.power.down && s.power.state != 4 && s.faults.resetN == true) = true := by
      rw [Bool.and_eq_true, hheld]
      exact ⟨hsupplied, rfl⟩
    obtain ⟨hstep, hslot, -, hreset⟩ := coldStart_serves (retried := false) hgood hdigest himage
    refine ⟨_, ?_, hstep, hslot, hreset⟩
    have hrails' : ((tick dt s).rail 9).on = true := hrails
    have hexec : exec (.resetN dt true f) s = .next ((if ((tick dt s).rail 9).on then resetStart f else powerStart true (tick dt s).start.retried f) (tick dt s)) :=
      guardOk_of (by exact hguard) _ _
    rw [hexec, hrails']
    rfl
  case failsAgain =>
    obtain ⟨hstep, hpower, -, -, -, hnever⟩ := powerStart_fails (ram := true) (retried := true) hfailed hstep (tick dt s)
    exact ⟨_, exec_startRetry hretry hdue, hstep, hpower, hnever⟩
  case retried =>
    obtain ⟨hstep, hslot, -⟩ := coldStart_serves (retried := true) hgood hdigest himage
    exact ⟨_, (exec_startRetry hretry hdue).trans (congrArg _ (powerStart_good hgood ..)), hstep, hslot⟩

end Sys2Proof.Machine

namespace Sys2Proof.Machine

/-! ### What a chip sends, and how its pair state changes (R468 to R478) -/

theorem pairEvent_quiet (code reason : Nat) (v : Int) (s : State) : Quiet s (pairEvent code reason v s) := raise_quiet ..

theorem pairEvent_pair (code reason : Nat) (v : Int) (s : State) : (pairEvent code reason v s).pair = s.pair := (pairEvent_quiet ..).pair

/-- R471: a record goes out under the next number. -/
theorem sendRecord_sent (b : PairBody) (s : State) :
    Output.pair s.pair.txSeq (wantsAck b.type) s.pair.rxSeq b ∈ (sendRecord b s).model.tx :=
  withTag_mem_emit (.pair s.pair.txSeq (wantsAck b.type) s.pair.rxSeq b) _

theorem mirrorTime_txSeq_le (accepted : Bool) (s : State) : s.pair.txSeq ≤ (mirrorTime s accepted).pair.txSeq := by
  unfold mirrorTime mirror
  dsimp only
  split
  · exact Nat.le_succ _
  · exact Nat.le_refl _

theorem mirrorTime_pair (accepted : Bool) (s : State) : ∃ txSeq pending,
    (mirrorTime s accepted).pair = { s.pair with txSeq := txSeq, pending := pending, timeAt := s.time.now } := by
  unfold mirrorTime mirror
  dsimp only
  split
  · exact ⟨_, _, rfl⟩
  · exact ⟨_, _, rfl⟩

theorem mirrorTime_axis (accepted : Bool) (s : State) : (mirrorTime s accepted).axis = s.axis := by
  unfold mirrorTime mirror
  dsimp only
  split <;> rfl

/-- R472: the heartbeat goes out, and the TIME record beside it changes nothing of it. -/
theorem sendHeartbeat_spec (s : State) : (sendHeartbeat s).pair.beatAt = s.time.now ∧ s.pair.txSeq < (sendHeartbeat s).pair.txSeq ∧
    Output.pair s.pair.txSeq false s.pair.rxSeq (.heartbeat (heartbeatOf s)) ∈ (sendHeartbeat s).model.tx ∧ (sendHeartbeat s).axis = s.axis := by
  unfold sendHeartbeat
  extract_lets _ sent
  have hsent : Output.pair s.pair.txSeq false s.pair.rxSeq (.heartbeat (heartbeatOf s)) ∈ sent.model.tx := sendRecord_sent (.heartbeat _) { s with pair := { s.pair with beatAt := s.time.now } }
  split
  · obtain ⟨txSeq, pending, hpair⟩ := mirrorTime_pair false sent
    refine ⟨congrArg Tandem.beatAt hpair, Nat.lt_of_lt_of_le (Nat.lt_succ_self _) (mirrorTime_txSeq_le false sent), ?_, mirrorTime_axis ..⟩
    exact (mirrorTime_keeps _ _ (.refl sent)).tx _ hsent
  · exact ⟨rfl, Nat.lt_succ_self _, hsent, rfl⟩

/-! A chip takes the lead (R485, R486, R489) -/

theorem becomeLead_pair (s : State) : (becomeLead s).pair = { s.pair with
    epoch := nextEpoch s, epochSeen := nextEpoch s, leadN := true, reason2 := false, partnerHeld := false, fromStandby := false, elected := false
    leads := false, ledBefore := none, state := 3, heldReason := 0 } :=
  (forAll_quiet (fun _ _ => emit_quiet ..) _ _).pair.trans (setPairState_pair ..)

theorem trigMiss_pair (n m : Nat) (s : State) : (trigMiss n m s).pair = s.pair := by
  unfold trigMiss
  split
  · rfl
  · extract_lets
    split
    · exact (ev_quiet ..).pair
    · rfl

theorem sendAck_pair (n : Nat) (s : State) : (sendAck n s).pair = s.pair := by
  unfold sendAck
  dsimp only
  split
  · rfl
  · rfl

theorem forAll_pair {α : Type} {f : α → State → State} (h : ∀ a s, (f a s).pair = s.pair) (l : List α) (s : State) : (forAll l f s).pair = s.pair :=
  forAll_induct (P := fun t => t.pair = s.pair) (fun a t ht => (h a t).trans ht) l s rfl

theorem undrivenMissed_pair (n : Nat) (s : State) :
    (trigMiss n (s.trig n).undriven (s.setTrig n { s.trig n with undriven := 0 })).pair = s.pair := trigMiss_pair ..

/-- R485: a switch-over is counted, and the defect log of the lead before it kept apart. -/
def switched (logHead : Option Int) (p : Tandem) : Tandem := { p with switches := p.switches + 1, logHead := logHead }

theorem takeLead_pair (reason : Nat) (s : State) : ∃ logHead, (takeLead reason s).pair = switched logHead (becomeLead s).pair := by
  unfold takeLead
  extract_lets led _ counted told missed
  have hcounted : ∃ logHead, counted.pair = switched logHead (becomeLead s).pair := ⟨_, rfl⟩
  have htold : told.pair = counted.pair := pairEvent_pair ..
  have hmissed : missed.pair = told.pair := forAll_pair undrivenMissed_pair _ told
  have hacked : (forAll (ringNums.filter (fun n => (missed.ring n).enable)) sendAck missed).pair = missed.pair := forAll_pair sendAck_pair _ missed
  clear_value missed told counted
  rw [hacked, hmissed, htold]
  exact hcounted

/-- R473, R486, R488: a chip that stands by may take the lead; one that joins is HELD; one that leads goes on. -/
theorem goSilent_spec (s : State) : (s.pair.silent = false → s.pair.state = 4 → (goSilent s).pair.state = 6) ∧
    (isWheeler s = false → (goSilent s).pair.state = s.pair.state) ∧ (goSilent s).pair.silent = true := by
  unfold goSilent
  split
  next hsilent => exact ⟨fun h => by simp [hsilent] at h, fun _ => rfl, hsilent⟩
  next =>
    extract_lets _ told
    have htold : told.pair = { s.pair with silent := true, fromStandby := s.pair.state == 5 } := pairEvent_pair ..
    have hwheeler : isWheeler told = isWheeler s := by rw [isWheeler, htold]; rfl
    have hreleased (t : State) : (forAll (headNums.filter (fun h => tget 0 t.pair.owner h == 1)) (fun h s => emit (.release h s.pair.epoch) s) t).pair = t.pair :=
      (forAll_quiet (fun _ _ => emit_quiet ..) _ _).pair
    split
    next hlead =>
      rw [hwheeler] at hlead
      refine ⟨fun _ h => ?_, fun _ => by rw [htold], by rw [htold]⟩
      rw [isWheeler, h] at hlead
      exact absurd hlead (by decide)
    next hheld =>
      rw [hwheeler, Bool.not_eq_true', Bool.not_eq_false] at hheld
      split
      next htakes =>
        obtain ⟨logHead, hpair⟩ := takeLead_pair (takeoverReason told) told
        rw [htold] at htakes
        refine ⟨fun _ h => absurd (h ▸ htakes.1 : 5 ≤ 4) (by decide), fun h => by simp [hheld] at h, ?_⟩
        rw [hpair, becomeLead_pair, htold]
        rfl
      next =>
        have hpair := hreleased told
        split
        next hsix => exact ⟨fun _ _ => hsix, fun h => by simp [hheld] at h, by rw [hpair, htold]⟩
        next => exact ⟨fun _ _ => by rw [setPairState_pair], fun h => by simp [hheld] at h, by rw [setPairState_pair, hpair, htold]⟩

/-- R467, R488: a wheeler is HELD, by a cause where it was not HELD yet. -/
theorem holdWheeler_pair {s : State} (hwheeler : isWheeler s = true) (reason : Nat) :
    (holdWheeler reason s).pair = { s.pair with state := 6, heldReason := reason } := by
  unfold holdWheeler
  rw [hwheeler, Bool.not_true, if_neg Bool.false_ne_true, setPairState_pair]
  split
  · rw [(forAll_quiet (fun _ _ => emit_quiet ..) _ _).pair]
  · rfl

theorem mirrorTimeout_wheeler {s : State} (hwheeler : isWheeler s = true) :
    (mirrorTimeout s).pair.state = 6 ∧ (s.pair.state ≠ 6 → (mirrorTimeout s).pair.heldReason = 4) := by
  unfold mirrorTimeout
  rw [if_pos hwheeler]
  split
  next hheld => exact ⟨hheld, fun h => absurd hheld h⟩
  next => exact ⟨by rw [holdWheeler_pair hwheeler], fun _ => by rw [holdWheeler_pair hwheeler]⟩

/-- R476: what is due is no longer withheld. -/
theorem settleWithheld_withheld (due : Withheld → Bool) (f : Response → Response) (s : State) :
    (settleWithheld due f s).proto.withheld = s.proto.withheld.filter (fun w => !due w) := by
  unfold settleWithheld
  extract_lets go _ kept
  refine forAll_induct (P := fun t => t.proto.withheld = kept.proto.withheld) (fun w t ht => ?_) go kept rfl
  split
  · exact ht
  · exact ht

theorem mirrorTimeout_lead {s : State} (hlead : isWheeler s = false) : (mirrorTimeout s).pair.partnerHeld = true ∧
    ∀ x ∈ (mirrorTimeout s).proto.withheld, s.time.now < x.since + 100 * us := by
  unfold mirrorTimeout
  rw [hlead, if_neg Bool.false_ne_true]
  refine ⟨by rw [(settleWithheld_quiet ..).pair], fun x hx => ?_⟩
  rw [settleWithheld_withheld, List.mem_filter] at hx
  simpa using hx.2

/-- R464, R470, R471: at link up the numbers start again with an IDENT record. -/
theorem laneChange_spec (n : Nat) (aligned : Bool) (s : State) : tget false (laneChange n aligned s).pair.lanes n = aligned ∧
    (laneChange n aligned s).pair.state = s.pair.state ∧ (aligned = true → lanesUp s = 0 →
      (laneChange n aligned s).pair.identified = false ∧ (laneChange n aligned s).pair.txSeq = 2 ∧
      ∃ b sig, Output.pair 1 false 0 (.ident b sig) ∈ (laneChange n aligned s).model.tx) := by
  unfold laneChange
  extract_lets up _ changed told restarted
  have htold : told.pair = changed.pair := pairEvent_pair ..
  have hlane : tget false told.pair.lanes n = aligned := by rw [htold]; exact tget_tput_self
  split
  next hplain =>
    refine ⟨hlane, by rw [htold], fun haligned hdown => absurd hplain ?_⟩
    simp [up, haligned, hdown]
  next =>
    exact ⟨hlane, by rw [show told.pair.state = s.pair.state by rw [htold]] ; rfl, fun _ _ => ⟨rfl, rfl, _, _, sendRecord_sent _ _⟩⟩

theorem and_decide {b : Bool} {p : Prop} [Decidable p] (hb : b = true) (hp : p) : (b && decide p) = true := by
  rw [hb, decide_eq_true hp, Bool.and_true]

theorem exec_recordResend {dt : Nat} {p : PairPending} {s : State} (hp : s.pair.pending.find? (fun x => x.seq == p.seq) = some p)
    (hruns : pairRuns s = true) (hdue : p.sentAt + 5 * us ≤ s.time.now + dt) :
    exec (.recordResend dt p.seq) s = .next (resendRecord p (tick dt s)) := by
  unfold exec execRecordResend
  dsimp only
  rw [show (tick dt s).pair.pending.find? (fun x => x.seq == p.seq) = some p from hp]
  exact guardOk_of (by exact and_decide hruns hdue) _ _

/-- R474: an echo goes out. -/
def echoSent (s : State) : State := sendRecord (.echo (devTime s)) { s with pair := { s.pair with echoAt := s.time.now } }

theorem exec_echoSend {dt : Nat} {s : State} (hruns : pairRuns s = true) (hdue : s.pair.echoAt + sec ≤ s.time.now + dt) :
    exec (.echoSend dt) s = .next (echoSent (tick dt s)) := by
  unfold exec execEchoSend
  exact guardOk_of (by exact and_decide hruns hdue) _ _

/-- R469: the level of PEER_LEAD_n as seen. -/
def peerNoted (asserted : Bool) (s : State) : State := { s with pair := { s.pair with peerLeadN := asserted } }

/-- R469: a race at the start is counted, and what the partner told is forgotten. -/
def raceLost (s : State) : State := { s with pair := { s.pair with races := s.pair.races + 1, heartbeat := none } }

/-- R468: the lead that a search chose. -/
def chosenLead (s : State) : State := { s with pair := { s.pair with elected := true } }

theorem exec_peerLead {dt : Nat} {asserted : Bool} {s : State} (hstate : s.pair.state ≠ 0) (hpower : s.power.state ≤ 1)
    (hpeer : s.pair.peerLeadN ≠ asserted) : exec (.peerLead dt asserted) s = .next (peerLeadChange asserted (tick dt s)) := by
  have hguard : (s.pair.state != 0 && decide (s.power.state ≤ 1) && s.pair.peerLeadN != asserted) = true := by
    simp [hstate, hpower, hpeer]
  exact guardOk_of (by exact hguard) (peerLeadChange asserted) _

/-- R469: a chip that neither leads nor stands by notes the level. -/
theorem peerLeadChange_noted {asserted : Bool} {s : State} (hstate : s.pair.state = 1 ∨ s.pair.state = 4 ∨ s.pair.state = 6) :
    peerLeadChange asserted s = peerNoted asserted s := by
  have hlead : ¬(s.pair.state = 3 ∧ s.pair.elected = true) := by omega
  have halone : ¬(s.pair.state = 2 ∧ s.pair.leads = true) := by omega
  have h3 : s.pair.state ≠ 3 := by omega
  have h5 : s.pair.state ≠ 5 := by omega
  cases asserted with
  | true => simp only [peerLeadChange, if_true, if_neg hlead, if_neg h3, if_neg halone, peerNoted]
  | false => simp only [peerLeadChange, Bool.false_eq_true, if_false, if_neg h5, peerNoted]

/-- R485: a chip that stands by takes the lead that its partner gives up. -/
theorem peerLeadChange_takes {s : State} (hstate : s.pair.state = 5) : peerLeadChange false s = takeLead 0x80 (peerNoted false s) := by
  simp only [peerLeadChange, Bool.false_eq_true, if_false, if_pos hstate, peerNoted]

/-- R469: after a race at the start the chip searches again. -/
theorem peerLeadChange_race {s : State} (hstate : s.pair.state = 3) (helected : s.pair.elected = true) :
    peerLeadChange true s = searchPair (raceLost (peerNoted true s)) := by
  simp only [peerLeadChange, if_true, if_pos (And.intro hstate helected), raceLost, peerNoted]

/-- Settles O55: heartbeats by `sendHeartbeat_spec`, a silent partner by `goSilent_spec`, the lanes by `laneChange_spec`, the lead by
`becomeLead_pair` and `takeLead_pair`. -/
theorem recordsAndPairState : Obligations.RecordsAndPairState := by
  refine ⟨fun dt s hruns => ⟨fun hdue => ?heartbeat, fun hdue => ?lpos, fun hdue => ?echo, fun p hp hdue => ⟨fun hmore => ?again, fun hlast => ?giveUp⟩⟩,
    fun dt s => ⟨fun x hstate hpower hheard hat hdue => ?silent, fun hwheeler => ?mirrorHeld, fun w hw hlead hdue => ?mirrorLate,
      fun lane aligned hstate hpower hlane => ?lane, fun asserted hpower hpeer => ⟨fun hstandby hgone => ?take, fun hstate helected hasserted => ?race,
        fun hstate => ?noted⟩, fun hsearch hpower hheard hdue hpeer => ?search⟩⟩
  case heartbeat =>
    obtain ⟨hat, hseq, hsent, haxis⟩ := sendHeartbeat_spec (tick dt s)
    exact ⟨_, _, guardOk_of (by exact and_decide hruns hdue) sendHeartbeat _, hat, hseq, hsent, haxis, rfl, rfl, rfl, rfl⟩
  case lpos =>
    exact ⟨_, guardOk_of (by exact and_decide hruns hdue) sendLpos _, rfl, rfl, sendRecord_sent _ _⟩
  case echo =>
    refine ⟨_, exec_echoSend hruns hdue, rfl, rfl, sendRecord_sent _ _⟩
  case again =>
    exact ⟨_, (exec_recordResend hp hruns hdue).trans (congrArg _ (if_neg (Nat.not_le.mpr hmore))),
      withTag_mem_emit (.pair p.seq true s.pair.rxSeq p.body) _, rfl⟩
  case giveUp =>
    exact ⟨_, (exec_recordResend hp hruns hdue).trans (congrArg _ (if_pos hlast)), (goSilent_spec _).2.2⟩
  case silent =>
    have hguard : (s.pair.state != 0 && decide (s.power.state ≤ 1) && !s.pair.silent &&
        (match s.pair.heardAt with | some t => decide (t + 8 * us ≤ s.time.now + dt) | none => false)) = true := by
      simp [hstate, hpower, hheard, hat, hdue]
    obtain ⟨hjoining, hlead, hsilent⟩ := goSilent_spec (tick dt s)
    exact ⟨_, guardOk_of (by exact hguard) goSilent _, hsilent, hjoining hheard, hlead⟩
  case mirrorHeld =>
    have hguard : (isWheeler s || s.proto.withheld.any (fun w => decide (w.since + 100 * us ≤ s.time.now + dt))) = true := by
      rw [hwheeler, Bool.true_or]
    exact ⟨_, guardOk_of (by exact hguard) mirrorTimeout _, mirrorTimeout_wheeler (s := tick dt s) hwheeler⟩
  case mirrorLate =>
    have hguard : (isWheeler s || s.proto.withheld.any (fun w => decide (w.since + 100 * us ≤ s.time.now + dt))) = true := by
      rw [List.any_eq_true.mpr ⟨w, hw, decide_eq_true hdue⟩, Bool.or_true]
    exact ⟨_, guardOk_of (by exact hguard) mirrorTimeout _, mirrorTimeout_lead (s := tick dt s) hlead⟩
  case lane =>
    have hguard : (s.pair.state != 0 && decide (s.power.state ≤ 1) && tget false s.pair.lanes lane != aligned) = true := by
      simp [hstate, hpower, hlane]
    exact ⟨_, guardOk_of (by exact hguard) (laneChange lane aligned) _, laneChange_spec lane aligned (tick dt s)⟩
  case take =>
    subst hgone
    obtain ⟨logHead, hpair⟩ := takeLead_pair 0x80 (peerNoted false (tick dt s))
    refine ⟨_, (exec_peerLead (by simp [hstandby]) hpower hpeer).trans (congrArg _ (peerLeadChange_takes (s := tick dt s) hstandby)), ?_⟩
    rw [hpair, becomeLead_pair]
    exact ⟨rfl, rfl, rfl⟩
  case race =>
    subst hasserted
    refine ⟨_, (exec_peerLead (by simp [hstate]) hpower hpeer).trans (congrArg _ (peerLeadChange_race (s := tick dt s) hstate helected)), ?_⟩
    rw [searchPair_pair]
    exact ⟨rfl, rfl, rfl⟩
  case noted =>
    refine ⟨_, (exec_peerLead (by omega) hpower hpeer).trans (congrArg _ (peerLeadChange_noted (s := tick dt s) hstate)), rfl⟩
  case search =>
    have hguard : (s.pair.state == 1 && decide (s.power.state ≤ 1) && !(match s.pair.heardAt with | some t => decide (s.pair.searchAt ≤ t) | none => false) &&
        decide (s.pair.searchAt + cfgN s 0xA010 0 * ms + searchWait s ≤ s.time.now + dt)) = true := by
      simp [hsearch, hpower, hheard, hdue]
    have hleads : searchOver (tick dt s) = chosenLead (becomeLead (tick dt s)) := if_neg (by simp [hpeer])
    refine ⟨_, (guardOk_of (by exact hguard) searchOver _).trans (congrArg _ hleads), ?_⟩
    simp only [chosenLead, becomeLead_pair]
    exact ⟨trivial, trivial, trivial⟩

end Sys2Proof.Machine

namespace Sys2Proof.Machine

/-! ### The records by which a chip joins (R464, R479, R481, R485) -/

/-! Identity (R464) -/

theorem holdWheeler_sameButState (reason : Nat) (s : State) : ∃ st why, (holdWheeler reason s).pair = { s.pair with state := st, heldReason := why } := by
  by_cases hwheeler : isWheeler s = true
  · exact ⟨_, _, holdWheeler_pair hwheeler reason⟩
  · exact ⟨s.pair.state, s.pair.heldReason, by rw [holdWheeler, if_pos (by simpa using hwheeler)]⟩

/-- A random not seen before is answered by an IDENT record. -/
def identAnswered (b : IdentRec) (s : State) : State :=
  if b.random = s.pair.partnerRandom then s else sendIdent { s with pair := { s.pair with partnerRandom := b.random } }

theorem identAnswered_hash (b : IdentRec) (s : State) : (identAnswered b s).pair.partnerHash = s.pair.partnerHash := by
  unfold identAnswered
  split <;> rfl

/-- What an IDENT record says of the partner is noted. -/
def partnerNoted (b : IdentRec) (differs : Bool) (s : State) : State :=
  { s with pair := { s.pair with
      partnerSerial := b.serial, partnerPref := b.preference, fwDiffers := differs
      partnerPairing := if b.pairing then some (s.time.now, b.key) else s.pair.partnerPairing } }

/-- R464: the IDENT record of the partner that this chip is paired with. -/
def identTrusted (s : State) : State :=
  if (takeRole s).pair.fwDiffers ∧ ((takeRole s).pair.state = 4 ∨ (takeRole s).pair.state = 5) then holdWheeler 5 (takeRole s) else takeRole s

/-- R464: the IDENT record of another chip. -/
def identRefused (b : IdentRec) (s : State) : State :=
  let t := pairEvent 0xA002 0 b.serial.toNat (isolate s)
  addFault 0xA002 1 7 (unitAddr 7 0 0 0 0 (ownNode t).toNat) t

theorem takeIdent_eq {b : IdentRec} (hplain : b.pairing = false) (s : State) : ∃ differs, takeIdent b s =
    if s.pair.partnerHash ≠ [] ∧ Config.sha384 b.key = s.pair.partnerHash ∧ b.sigOk = true then identTrusted (partnerNoted b differs (identAnswered b s))
    else identRefused b (partnerNoted b differs (identAnswered b s)) := by
  refine ⟨b.release.toNat / 65536 != (firmwareRelease s).toNat / 65536, ?_⟩
  rw [← identAnswered_hash b s]
  unfold takeIdent
  extract_lets own answered _ noted
  exact if_neg (by simp [hplain])

theorem identTrusted_pair (s : State) : (identTrusted s).pair.identified = true ∧ (identTrusted s).pair.partnerSerial = s.pair.partnerSerial ∧
    (identTrusted s).pair.partnerPref = s.pair.partnerPref := by
  obtain ⟨st, reason, leads, leadN, elected, searchAt, hrole⟩ := takeRole_pair s
  unfold identTrusted
  split
  · obtain ⟨st', why, hheld⟩ := holdWheeler_sameButState 5 (takeRole s)
    rw [hheld, hrole]
    exact ⟨rfl, rfl, rfl⟩
  · rw [hrole]
    exact ⟨rfl, rfl, rfl⟩

theorem addFault_one_pair (code level : Nat) (unit : BitVec 32) (s : State) : (addFault code 1 level unit s).pair = s.pair :=
  (syncClass_quiet ..).pair

theorem identRefused_pair (b : IdentRec) (s : State) : (identRefused b s).pair.identified = false ∧ (identRefused b s).pair.state = 2 ∧
    (identRefused b s).pair.partnerSerial = s.pair.partnerSerial := by
  obtain ⟨leads, hpair⟩ := isolate_pair s
  rw [identRefused, addFault_one_pair, pairEvent_pair, hpair]
  exact ⟨rfl, rfl, rfl⟩

/-! Digests (R479) -/

theorem addCompare_self (k : Nat) (s : State) : tget 0 (addCompare k s).pair.compare k = tget 0 s.pair.compare k + 1 := tget_tput_self

theorem addCompare_ne {j k : Nat} (h : j ≠ k) (s : State) : tget 0 (addCompare k s).pair.compare j = tget 0 s.pair.compare j := tget_tput_ne h

/-- R479: a stripe that is compared is counted, and no byte of it is touched. -/
theorem compareStripe_counts (n base : Nat) (crc : BitVec 32) (s : State) :
    tget 0 (compareStripe n base crc s).pair.compare 4 = tget 0 s.pair.compare 4 + 1 ∧ (compareStripe n base crc s).store = s.store := by
  unfold compareStripe
  extract_lets counted good marked
  have hcounted : tget 0 counted.pair.compare 4 = tget 0 s.pair.compare 4 + 1 := addCompare_self 4 s
  split
  · exact ⟨hcounted, rfl⟩
  · rw [diverge, (ev_quiet ..).pair, (ev_quiet ..).store, addCompare_ne (by decide)]
    exact ⟨hcounted, rfl⟩

theorem takeDigest_lead {s : State} (hlead : isWheeler s = false) (d : DigestRec) : takeDigest d s = s := if_pos (by rw [hlead]; rfl)

/-! Fills (R479) -/

/-- What no merge of a clean memory changes. -/
structure CleanMerge (s t : State) : Prop where
  clean : CleanStore t
  mem : t.store.mem = s.store.mem

theorem cleanBurst_clean {s t : State} (c : CleanMerge s t) (b : Nat) : CleanMerge s (cleanBurst b t) where
  clean := ⟨by rw [cleanBurst, c.clean.marks]; rfl, c.clean.unwritten⟩
  mem := c.mem

theorem settleBurst_clean {t : State} (c : CleanStore t) (b : Nat) : settleBurst b t = t := by
  simp only [settleBurst, burstClass_of_clean c]

theorem mergeUnit_clean {s t : State} (c : CleanMerge s t) (cls u a z : Nat) : CleanMerge s (mergeUnit cls u a z t) := by
  obtain ⟨-, hread⟩ := readUnit_of_clean c.clean cls 9 (unitDie 0) u
  unfold mergeUnit
  refine forAll_induct (P := CleanMerge s) (fun b v hv => ?_) _ _ ⟨hread.clean c.clean, hread.mem.trans c.mem⟩
  split
  · exact cleanBurst_clean hv b
  · rw [settleBurst_clean hv.clean]
    exact hv

/-- R198: a write to a clean memory stores its bytes. -/
theorem writeBytes_of_clean {s : State} (c : CleanStore s) (cls a : Nat) (bytes : List Byte) :
    (writeBytes cls a bytes s).store.mem = storeBytes s.store.mem a bytes := by
  unfold writeBytes
  extract_lets z units opened stored written
  have hopened : CleanMerge s opened := by
    refine forAll_induct (P := CleanMerge s) (fun u t ht => ?_) units s ⟨c, rfl⟩
    split
    · exact cleanBurst_clean (cleanBurst_clean ht _) _
    · exact mergeUnit_clean ht cls u a z
  refine forAll_induct (P := fun t => t.store.mem = storeBytes s.store.mem a bytes) (fun u t ht => ?_) units written
    (congrArg (storeBytes · a bytes) hopened.mem)
  rw [noteRewrite_store, countAccess_mem]
  exact ht

/-- The fill of `b` has entered its ring. -/
structure Filled (b : FillRec) (s t : State) : Prop where
  mem : t.store.mem = storeBytes s.store.mem (ringAddr s b.ring b.seq) b.data
  high : b.seq + b.data.length ≤ (t.ring b.ring).high

theorem Filled.noted {b : FillRec} {s t : State} (h : Filled b s t) (old : Ring) : Filled b s (noteRing b.ring old t) :=
  ⟨by rw [noteRing_store, h.mem], by rw [noteRing_ring]; exact h.high⟩

theorem Filled.released {b : FillRec} {s t : State} (h : Filled b s t) : Filled b s (updateRelease b.ring t) :=
  ⟨by rw [updateRelease_store, h.mem], by rw [(updateRelease_reach b.ring t).high]; exact h.high⟩

/-- R479: a fill that the ring has room for enters it. -/
theorem takeFill_fills {b : FillRec} {s : State} (clean : CleanStore s)
    (hroom : ¬(63 < b.ring ∨ (!(s.ring b.ring).enable) = true ∨ b.seq < b.base ∨ b.base + b.len < b.seq + b.data.length ∨
      b.base + b.len ≤ (s.ring b.ring).release ∨ (s.ring b.ring).release + ringSize s b.ring < b.base + b.len)) : Filled b s (takeFill b s) := by
  unfold takeFill
  extract_lets n r stored stop received' r0 indexed runs joined topped whole judged released
  have hstored : stored.store.mem = storeBytes s.store.mem (ringAddr s b.ring b.seq) b.data := writeBytes_of_clean clean ..
  have hreleased : Filled b s released := by
    have hput : Filled b s (stored.setRing n (regap stored.time.now { judged with high := max judged.high stop })) := by
      refine ⟨hstored, ?_⟩
      rw [State.setRing_ring]
      exact le_max_right judged.high stop
    exact hput.released
  clear_value released
  rw [if_neg hroom]
  split
  · exact hreleased.noted r0
  · exact hreleased

end Sys2Proof.Machine

namespace Sys2Proof.Machine

/-! ### The snapshot (R481) -/

/-- The turn of the next mirrored commit (R476): the generation so far, and the commits that wait for theirs. -/
def State.turn (s : State) : BitVec 32 × List Commit := (s.proto.gen, s.pair.early)

theorem turn_of_followed {s t : State} (h : t.followed = s.followed) : t.turn = s.turn :=
  Prod.ext (congrArg Followed.gen h) (congrArg Followed.early h)

theorem ite_turn {c : Prop} [Decidable c] {x : BitVec 32 × List Commit} {t u : State} (ht : t.turn = x) (hu : u.turn = x) :
    (if c then t else u).turn = x := by
  split <;> assumption

theorem forAll_turn {α : Type} {f : α → State → State} (h : ∀ a s, (f a s).turn = s.turn) (l : List α) (s : State) : (forAll l f s).turn = s.turn :=
  forAll_induct (P := fun t => t.turn = s.turn) (fun a t ht => (h a t).trans ht) l s rfl

/-! A position that is lost (R110, R128, R387, R401) -/

theorem ev_turn (c : Nat) (d : BitVec 96) (s : State) (u : BitVec 32) (l : Option Int) (n : Nat) : (ev c d s u l n).turn = s.turn :=
  turn_of_followed (ev_followed ..)

theorem mirror_turn (b : PairBody) (s : State) : (mirror b s).turn = s.turn := turn_of_followed (mirror_followed ..)

theorem addDefect_turn (d : Defect) (s : State) : (addDefect d s).turn = s.turn := turn_of_followed (addDefect_followed ..)

theorem logLateLine_turn (h : Nat) (L : Int) (cause action : Nat) (s : State) : (logLateLine h L cause action s).turn = s.turn := by
  unfold logLateLine
  dsimp only
  split
  · exact ite_turn rfl (addDefect_turn ..)
  · exact addDefect_turn ..

theorem fireStopped_turn (cause : Nat) (s : State) : (fireStopped cause s).turn = s.turn :=
  forAll_turn (fun _ _ => (addDefect_turn ..).trans (ev_turn ..)) _ s

theorem haltJob_turn (s : State) : (haltJob s).turn = s.turn := turn_of_followed (ite_followed (setJob_followed ..) rfl)

theorem skipRow_turn (log : Bool) (u : Nat) (s : State) : (skipRow log u s).turn = s.turn := by
  unfold skipRow
  extract_lets x old last r left _ settled
  exact ite_turn (ite_turn (forAll_turn (fun _ t => logLateLine_turn _ _ _ _ t) _ settled) rfl) rfl

theorem reinAbandon_turn (reason : Nat) (s : State) : (reinAbandon reason s).turn = s.turn := by
  unfold reinAbandon
  extract_lets step skipped _ _ freed spliced raised
  have hfreed : freed.turn = s.turn := forAll_turn (skipRow_turn _) _ s
  have hspliced : spliced.turn = freed.turn := turn_of_followed (updateSplice_followed ..)
  exact ite_turn rfl ((mirror_turn ..).trans ((mirror_turn ..).trans ((ev_turn ..).trans (hspliced.trans hfreed))))

/-- A fault that no class response follows. -/
theorem addFault_silent_turn (code cls level : Nat) (unit : BitVec 32) (s : State) : (addFault code cls level unit s (respond := false)).turn = s.turn := by
  unfold addFault
  extract_lets counts _ counted same f active _ found lived answered
  have hlived : lived.turn = s.turn := ite_turn rfl rfl
  have hanswered : answered.turn = s.turn := by
    unfold answered
    rw [if_neg (fun h => Bool.false_ne_true h.2)]
    exact hlived
  exact ite_turn rfl ((turn_of_followed (syncClass_followed ..)).trans hanswered)

theorem losePosition_turn (why : Nat) (s : State) : (losePosition why s).turn = s.turn := by
  unfold losePosition
  extract_lets _ unknown told abandoned _ stopped cleared halted faulted
  have habandoned : abandoned.turn = s.turn := (reinAbandon_turn ..).trans (ev_turn ..)
  have hstopped : stopped.turn = s.turn := ite_turn ((ev_turn ..).trans habandoned) habandoned
  have hcleared : cleared.turn = s.turn := (forAll_turn (fun u t => turn_of_followed (setRow_followed t u _)) _ stopped).trans hstopped
  have hhalted : halted.turn = s.turn := (fireStopped_turn ..).trans ((haltJob_turn _).trans hcleared)
  exact (mirror_turn ..).trans ((addFault_silent_turn ..).trans hhalted)

theorem lostPosition_turn (why : Nat) (s : State) : (lostPosition why s).turn = s.turn :=
  (forAll_turn (fun _ _ => turn_of_followed (closeFrame_followed ..)) _ (losePosition why s)).trans (losePosition_turn why s)

/-! What a wheeler takes from its lead (R389, R434, R472, R474, R477) -/

theorem takeAxis_turn (a : AxisRec) (s : State) : (takeAxis a s).turn = s.turn := by
  unfold takeAxis
  refine ite_turn rfl (ite_turn (lostPosition_turn ..) ?_)
  extract_lets old k moved L _ placed _ _ _ aligned armed marked raised passed _
  have harmed : armed.turn = s.turn := by
    refine forAll_turn (fun c t => ?_) _ aligned
    exact ite_turn rfl rfl
  have hmarked : marked.turn = s.turn := (forAll_turn (fun m t => turn_of_followed (setMark_followed m t)) _ armed).trans harmed
  have hraised : raised.turn = s.turn := ite_turn ((ev_turn ..).trans hmarked) hmarked
  have hpassed : passed.turn = s.turn := (turn_of_followed (passCommits_followed _)).trans hraised
  exact ite_turn ((turn_of_followed (holdWheeler_followed ..)).trans ((ev_turn ..).trans hpassed)) hpassed

theorem takeRein_turn (b : ReinRec) (s : State) : (takeRein b s).turn = s.turn := by
  unfold takeRein
  refine ite_turn rfl ?_
  extract_lets was _ _ noted muted _ kept
  have hmuted : muted.turn = s.turn := by
    refine ite_turn ?_ rfl
    obtain ⟨chans, hmute⟩ := muteReverse_eq noted
    rw [hmute]
    rfl
  refine ite_turn ?_ (ite_turn ?_ ?_)
  · exact (forAll_turn (fun u t => turn_of_followed (setRow_followed t u _)) _ _).trans ((turn_of_followed (lowerCameras_followed ..)).trans hmuted)
  · exact (forAll_turn (skipRow_turn false) _ muted).trans hmuted
  · have hkept : kept.turn = s.turn := (forAll_turn (fun u t => ite_turn rfl (skipRow_turn false u t)) _ muted).trans hmuted
    exact (forAll_turn (fun x t => turn_of_followed (setRow_followed t x.1 _)) b.held kept).trans hkept

theorem takeLoop_turn (b : LoopRec) (s : State) : (takeLoop b s).turn = s.turn := ite_turn rfl (ite_turn rfl rfl)

theorem takeTime_turn (b : TimeRec) (s : State) : (takeTime b s).turn = s.turn :=
  ite_turn rfl (ite_turn ((turn_of_followed (acceptJump_followed _)).trans rfl) ((turn_of_followed (judgeOffset_followed ..)).trans rfl))

theorem takeLog_turn (b : LogRec) (s : State) : (takeLog b s).turn = s.turn := ite_turn rfl rfl

/-! The contents that the snapshot carries (R264, R265, R408, R481) -/

theorem setInteg_turn (s : State) (z : Integ) : { s with integ := z }.turn = s.turn := rfl

theorem logError_turn (e : LogEntry) (s : State) : (logError e s).turn = s.turn := by
  unfold logError
  dsimp only
  exact ite_turn rfl (ite_turn rfl (ite_turn (ite_turn (ev_turn ..) rfl) rfl))

theorem countCorrected_turn (mem region : Nat) (s : State) : (countCorrected mem region s).turn = s.turn := by
  unfold countCorrected
  dsimp only
  exact ite_turn (ev_turn ..) rfl

theorem retireBlock_turn (pc sid bank block row : Nat) (s : State) : (retireBlock pc sid bank block row s).turn = s.turn := by
  unfold retireBlock
  exact ite_turn rfl (ite_turn (ev_turn ..) (ite_turn (ite_turn rfl rfl) rfl))

theorem uninitRead_turn (requester : Nat) (unit : BitVec 32) (u : Nat) (s : State) : (uninitRead requester unit u s).turn = s.turn :=
  (logError_turn _ _).trans (ev_turn ..)

/-- R212: a read that is not fire-critical has no response but the log and an event. -/
theorem storeUe_turn {requester : Nat} (hr : isFireCritical requester = false) (unit : BitVec 32) (u cls : Nat) (s : State) :
    (storeUe requester unit u cls s).turn = s.turn := by
  unfold storeUe
  extract_lets logged record marked counted raised
  have hmarked : marked.turn = s.turn := (setInteg_turn logged _).trans (logError_turn _ s)
  have hcounted : counted.turn = s.turn := ite_turn hmarked hmarked
  rw [if_neg (by rw [hr]; decide)]
  exact (ev_turn _ _ counted _ _ _).trans hcounted

theorem noteRead_turn {requester : Nat} (hr : isFireCritical requester = false) (unit : BitVec 32) (u : Nat) (s : State) :
    (noteRead requester unit u s).turn = s.turn := by
  unfold noteRead
  extract_lets cls skip
  split
  next again first hfirst =>
  have hread : first = (firstRead u s).2 := by rw [hfirst]
  extract_lets uninit queued corrected lost
  have huninit : uninit.turn = s.turn := ite_turn ((uninitRead_turn ..).trans (by rw [hread]; rfl)) (by rw [hread]; rfl)
  have hqueued : queued.turn = s.turn := ite_turn huninit huninit
  have hcorrected : corrected.turn = s.turn := by
    simp only [corrected]
    split
    · exact huninit
    · exact ite_turn hqueued ((countCorrected_turn 0 0 _).trans ((logError_turn _ _).trans hqueued))
  have hlost : lost.turn = s.turn := ite_turn ((storeUe_turn hr unit u cls corrected).trans hcorrected) hcorrected
  exact ite_turn hlost ((ite_turn (retireBlock_turn ..) rfl).trans hlost)

theorem readUnit_turn {requester : Nat} (hr : isFireCritical requester = false) (cls : Nat) (unit : BitVec 32) (u : Nat) (s : State) :
    (readUnit cls requester unit u s).2.turn = s.turn := (noteRead_turn hr ..).trans (turn_of_followed (countAccess_followed ..))

theorem settleBurst_turn (b : Nat) (s : State) : (settleBurst b s).turn = s.turn := by
  unfold settleBurst
  split <;> rfl

theorem mergeUnit_turn (cls u a z : Nat) (s : State) : (mergeUnit cls u a z s).turn = s.turn := by
  unfold mergeUnit
  extract_lets read
  refine Eq.trans (forAll_turn (fun b t => ?_) _ read) (readUnit_turn rfl ..)
  exact ite_turn rfl (settleBurst_turn b t)

theorem writeBytes_turn (cls a : Nat) (bytes : List Byte) (s : State) : (writeBytes cls a bytes s).turn = s.turn := by
  have hrewrite : ∀ v t, (noteRewrite v t).turn = t.turn := fun v t => ite_turn rfl rfl
  unfold writeBytes
  extract_lets z units opened stored written
  have hopened : opened.turn = s.turn := by
    refine forAll_turn (fun u t => ?_) units s
    exact ite_turn rfl (mergeUnit_turn cls u a z t)
  exact (forAll_turn (fun u t => (hrewrite u _).trans (turn_of_followed (countAccess_followed cls u true t))) units written).trans hopened

theorem storeArray_turn (slot w h n : Nat) (crc : BitVec 32) (got : List Byte) (s : State) : (storeArray slot w h n crc got s).turn = s.turn := by
  unfold storeArray
  extract_lets written
  have hwritten : written.turn = s.turn := forAll_turn (fun i t => writeBytes_turn 1 _ _ t) _ s
  clear_value written
  exact hwritten

theorem setCfg_turn (s : State) (idx sub : Nat) (v : Val) (gen : BitVec 32) : (setCfg s idx sub v gen).turn = s.turn := rfl

/-- R481: what a snapshot leaves: the lead's generation, and the snapshot marked as taken. -/
theorem takeSnapshot_taken {s : State} (hjoining : s.pair.state = 4) (hearly : s.pair.early = []) (b : Snapshot) :
    ((takeSnapshot b s).pair.snapshot, (takeSnapshot b s).proto.gen) = (true, b.gen) := by
  unfold takeSnapshot
  rw [if_neg (by rw [hjoining]; decide)]
  extract_lets objects _ _ _ held arrays tables followed assigned _ taken
  have hobjects : objects.turn = s.turn := by
    refine forAll_turn (fun o t => ?_) _ s
    exact setCfg_turn ..
  have hempty : objects.pair.early = [] := (congrArg Prod.snd hobjects).trans hearly
  clear_value objects
  have hheld : held.turn = (b.gen, []) := congrArg (Prod.mk b.gen) hempty
  have harrays : arrays.turn = held.turn := forAll_turn (fun x t => storeArray_turn _ _ _ _ _ _ t) _ held
  have htables : tables.turn = arrays.turn := by
    refine forAll_turn (fun x t => ?_) _ arrays
    exact turn_of_followed (setSensor_followed ..)
  have hfollowed : followed.turn = tables.turn :=
    (takeLog_turn ..).trans ((takeTime_turn ..).trans ((takeLoop_turn ..).trans ((takeRein_turn ..).trans (takeAxis_turn ..))))
  have hassigned : assigned.turn = (b.gen, []) := by
    rw [← hheld, ← harrays, ← htables, ← hfollowed]
    exact ite_turn (turn_of_followed (runAssignment_followed ..)) rfl
  have hgen : assigned.proto.gen = b.gen := congrArg Prod.fst hassigned
  have hnone : assigned.pair.early = [] := congrArg Prod.snd hassigned
  clear_value assigned
  have htaken : (taken.pair.snapshot, taken.proto.gen) = (true, b.gen) := congrArg (Prod.mk true) hgen
  have hleft : taken.pair.early.length = 0 := by
    show (assigned.pair.early.filter _).length = 0
    rw [hnone]
    rfl
  rw [hleft]
  exact htaken

theorem takeSnapshot_ignored {s : State} (hstate : s.pair.state ≠ 4) (b : Snapshot) : takeSnapshot b s = s := if_pos hstate

/-! The records taken -/

theorem takeRelease_pair {s : State} (hstandby : s.pair.state = 5) (trigger : Nat) : ((takeRelease trigger s).pair.state,
    (takeRelease trigger s).pair.leadN, (takeRelease trigger s).pair.switches) = (3, true, s.pair.switches + 1) := by
  obtain ⟨logHead, hpair⟩ := takeLead_pair trigger s
  rw [takeRelease, if_pos hstandby, hpair, becomeLead_pair]
  rfl

theorem recordState_cfg (dt : Nat) (h : PairHdr) (s : State) : (recordState dt h s).proto.cfg = s.proto.cfg :=
  congrArg Followed.cfg (recordState_followed dt h s)

theorem recordState_ring (dt : Nat) (h : PairHdr) (s : State) (n : Nat) : (recordState dt h s).ring n = s.ring n := by
  rw [State.ring, (recordState_quiet dt h s).rings]
  rfl

theorem ringSize_of_cfg {s t : State} (h : t.proto.cfg = s.proto.cfg) (n : Nat) : ringSize t n = ringSize s n := by
  rw [ringSize, ringSize, cfgN, cfgN, cfg, cfg, baseVal_of_cfg h]

/-- Settles O54: a record is applied to `recordState` (`FreshRecord.applied`); IDENT by `takeIdent_eq`, DIGEST by `compareStripe_counts`, FILL by
`takeFill_fills`, the snapshot by `takeSnapshot_taken`, and RELEASE by `takeRelease_pair`. -/
theorem joiningRecords : Obligations.JoiningRecords := by
  intro dt h s fresh
  obtain ⟨_, _, hpair⟩ := recordState_pair dt h s
  have hstate := recordState_state dt h s
  have hwheeler := recordState_isWheeler dt h s
  have hquiet := recordState_quiet dt h s
  have hhash : (recordState dt h s).pair.partnerHash = s.pair.partnerHash := by rw [hpair]; rfl
  refine ⟨fun b hplain hpaired hkey hsig => ?trusted, fun b hplain hother => ?refused, fun ring base crc hwheel => ?stripe, fun d hlead => ?digest,
    fun b hring henable hbase hend hclean hrelease hroom => ?fill, fun b hjoining hearly => ?snapshot, fun b hother => ?noSnapshot,
    fun trigger hstandby => ?release, fun trigger hother => ?noRelease⟩
  case trusted =>
    obtain ⟨_, _, hexec⟩ := fresh.applied dt (takeIdent b)
    obtain ⟨differs, hident⟩ := takeIdent_eq hplain (recordState dt h s)
    rw [hhash, if_pos ⟨hpaired, hkey, hsig⟩] at hident
    rw [hident] at hexec
    exact ⟨_, hexec, identTrusted_pair (partnerNoted b differs (identAnswered b (recordState dt h s)))⟩
  case refused =>
    obtain ⟨_, _, hexec⟩ := fresh.applied dt (takeIdent b)
    obtain ⟨differs, hident⟩ := takeIdent_eq hplain (recordState dt h s)
    have hstranger : ¬(s.pair.partnerHash ≠ [] ∧ Config.sha384 b.key = s.pair.partnerHash ∧ b.sigOk = true) := by
      rintro ⟨hpaired, hkey, hsig⟩
      rcases hother with hnone | hdiffers | hunsigned
      · exact hpaired hnone
      · exact hdiffers hkey
      · exact Bool.false_ne_true (hunsigned.symm.trans hsig)
    rw [hhash, if_neg hstranger] at hident
    rw [hident] at hexec
    exact ⟨_, hexec, identRefused_pair b (partnerNoted b differs (identAnswered b (recordState dt h s)))⟩
  case stripe =>
    obtain ⟨_, _, hexec⟩ := fresh.applied dt (takeDigest (.stripe ring base crc))
    have htaken : takeDigest (.stripe ring base crc) (recordState dt h s) = compareStripe ring base crc (recordState dt h s) :=
      if_neg (by rw [hwheeler, hwheel]; decide)
    obtain ⟨hcount, hstore⟩ := compareStripe_counts ring base crc (recordState dt h s)
    rw [recordState_compare] at hcount
    rw [htaken] at hexec
    exact ⟨_, hexec, hcount, hstore.trans hquiet.store⟩
  case digest =>
    obtain ⟨_, _, hexec⟩ := fresh.applied dt (takeDigest d)
    rw [takeDigest_lead (hwheeler.trans hlead) d, hpair] at hexec
    exact ⟨_, hexec, rfl, rfl⟩
  case fill =>
    obtain ⟨_, _, hexec⟩ := fresh.applied dt (takeFill b)
    have hcfg := recordState_cfg dt h s
    have hstore : (recordState dt h s).store = s.store := hquiet.store
    obtain ⟨hmem, hhigh⟩ := takeFill_fills (b := b) (s := recordState dt h s) ⟨by rw [hstore, hclean.marks], by rw [hstore, hclean.unwritten]⟩ (by
      rw [recordState_ring, ringSize_of_cfg hcfg, henable]
      simp only [Bool.not_true, Bool.false_eq_true, false_or]
      omega)
    rw [hstore, ringAddr_of_cfg hcfg] at hmem
    exact ⟨_, hexec, hmem, hhigh⟩
  case snapshot =>
    obtain ⟨_, _, hexec⟩ := fresh.applied dt (takeSnapshot b)
    have htaken := takeSnapshot_taken (hstate.trans hjoining) ((congrArg Followed.early (recordState_followed dt h s)).trans hearly) b
    exact ⟨_, hexec, congrArg Prod.fst htaken, congrArg Prod.snd htaken⟩
  case noSnapshot =>
    obtain ⟨t, hexec, hkept⟩ := fresh.ignored dt (takeSnapshot_ignored (by rw [hstate]; exact hother) b)
    exact ⟨t, hexec, congrArg Followed.gen hkept.followed, hkept.store⟩
  case release =>
    obtain ⟨_, _, hexec⟩ := fresh.applied dt (takeRelease trigger)
    have htaken := takeRelease_pair (hstate.trans hstandby) trigger
    have hswitches : (recordState dt h s).pair.switches = s.pair.switches := by rw [hpair]; rfl
    rw [hswitches] at htaken
    exact ⟨_, hexec, congrArg Prod.fst htaken, congrArg (·.2.1) htaken, congrArg (·.2.2) htaken⟩
  case noRelease =>
    obtain ⟨_, _, hexec⟩ := fresh.applied dt (takeRelease trigger)
    have hkept : takeRelease trigger (recordState dt h s) = recordState dt h s := if_neg (by rw [hstate]; exact hother)
    rw [hkept] at hexec
    exact ⟨_, hexec, hstate⟩

end Sys2Proof.Machine
